-- ==== Sys2Proof/Word.lean ====
section
/-! DEFINITION. The widths of the machine's bit vectors and the execution-unit names (rules R10, R250, R254). -/

namespace Sys2Proof

/-- A 64-bit register value or address (R50). -/
abbrev Word := BitVec 64
/-- The smallest addressable unit of memory (R120). -/
abbrev Byte := BitVec 8
/-- A 41-bit instruction slot (R250). -/
abbrev Slot := BitVec 41
/-- A 128-bit bundle: three slots and a template (R250). -/
abbrev Bundle := BitVec 128

/-- The instruction types of Table 4-1 (R254). -/
inductive InstrUnit where
  | a | i | m | f | b | x
deriving DecidableEq, Repr

/-- The execution unit type a template gives a slot (R251). -/
inductive SlotUnit where
  | m | i | f | b | l | x
deriving DecidableEq, Repr

/-- Rule R254: which slots an instruction of a type may stand in (an X instruction takes the L and the X slot). -/
def InstrUnit.fits : InstrUnit → SlotUnit → Bool
  | .a, .m | .a, .i | .i, .i | .m, .m | .f, .f | .b, .b | .x, .x => true
  | _, _ => false

end Sys2Proof
end

