-- ==== Sys2Proof/Machine/Bits.lean ====
section
/-! DEFINITION. Bit fields, sign extension and byte order: the notation of rules R11 and R12. -/

namespace Sys2Proof

/-- `fld w lo len`: the `len` bits of `w` from bit `lo` up (`w[lo+len-1:lo]` of R11). -/
def fld {n : Nat} (w : BitVec n) (lo len : Nat) : BitVec len :=
  BitVec.extractLsb' lo len w

/-- One bit of `w`, as a truth value. -/
def bit {n : Nat} (w : BitVec n) (k : Nat) : Bool :=
  w.getLsbD k

/-- `w` with bit `k` set to `b` and every other bit as it was. -/
def setBit {n : Nat} (w : BitVec n) (k : Nat) (b : Bool) : BitVec n :=
  if b then w ||| BitVec.ofNat n (2 ^ k) else w &&& ~~~ BitVec.ofNat n (2 ^ k)

/-- `w` with the field of `v`'s width at bit `lo` replaced by `v`. -/
def setFld {n len : Nat} (w : BitVec n) (lo : Nat) (v : BitVec len) : BitVec n :=
  (w &&& ~~~((BitVec.allOnes len).zeroExtend n <<< lo)) ||| (v.zeroExtend n <<< lo)

/-- `sext_n` of R12: a signed immediate brought to 64 bits. -/
abbrev sx {n : Nat} (v : BitVec n) : Word := v.signExtend 64

/-- `zext_n` of R12. -/
abbrev zx {n : Nat} (v : BitVec n) : Word := v.zeroExtend 64

/-- The value of `bytes`, the first byte least significant (little-endian, R150). -/
def ofBytesLE (n : Nat) : List Byte → BitVec n
  | [] => 0
  | b :: rest => b.zeroExtend n ||| (ofBytesLE n rest <<< 8)

/-- The low `count` bytes of `v`, the least significant first. -/
def toBytesLE {n : Nat} : Nat → BitVec n → List Byte
  | 0, _ => []
  | count + 1, v => v.zeroExtend 8 :: toBytesLE count (v >>> 8)

end Sys2Proof
end

