-- ==== Sys2Proof/Syntax.lean ====
section
/-! DEFINITION. The instructions: one constructor per row of the opcode table, named by the row's mnemonic and its
encoding format. Operands are the encoded fields at their exact widths, the pieces of a split immediate joined
(R270); register operands are virtual register numbers (R255); hint fields are kept, so that no encoded bit that
has a name is lost. Immediates stay as encoded: `Machine/Operands.lean` turns them into values. -/

namespace Sys2Proof

inductive Instr where
  /-- `add` r1 = r2, r3 (format A1; R331, R761) -/
  | addA1 (qp : BitVec 6) (r1 : BitVec 7) (r2 : BitVec 7) (r3 : BitVec 7)
  /-- `add` r1 = r2, r3, 1 (format A1; R331, R762) -/
  | addPlus1A1 (qp : BitVec 6) (r1 : BitVec 7) (r2 : BitVec 7) (r3 : BitVec 7)
  /-- `sub` r1 = r2, r3 (format A1; R331, R766) -/
  | subA1 (qp : BitVec 6) (r1 : BitVec 7) (r2 : BitVec 7) (r3 : BitVec 7)
  /-- `sub` r1 = r2, r3, 1 (format A1; R331, R766) -/
  | subMinus1A1 (qp : BitVec 6) (r1 : BitVec 7) (r2 : BitVec 7) (r3 : BitVec 7)
  /-- `addp4` r1 = r2, r3 (format A1; R331, R765) -/
  | addp4A1 (qp : BitVec 6) (r1 : BitVec 7) (r2 : BitVec 7) (r3 : BitVec 7)
  /-- `and` r1 = r2, r3 (format A1; R331, R769) -/
  | andA1 (qp : BitVec 6) (r1 : BitVec 7) (r2 : BitVec 7) (r3 : BitVec 7)
  /-- `andcm` r1 = r2, r3 (format A1; R331, R770) -/
  | andcmA1 (qp : BitVec 6) (r1 : BitVec 7) (r2 : BitVec 7) (r3 : BitVec 7)
  /-- `or` r1 = r2, r3 (format A1; R331, R771) -/
  | orA1 (qp : BitVec 6) (r1 : BitVec 7) (r2 : BitVec 7) (r3 : BitVec 7)
  /-- `xor` r1 = r2, r3 (format A1; R331, R772) -/
  | xorA1 (qp : BitVec 6) (r1 : BitVec 7) (r2 : BitVec 7) (r3 : BitVec 7)
  /-- `shladd` r1 = r2, count2, r3 (count2 = ct2d + 1) (format A2; R332, R773) -/
  | shladdA2 (qp : BitVec 6) (r1 : BitVec 7) (r2 : BitVec 7) (r3 : BitVec 7) (ct2d : BitVec 2)
  /-- `shladdp4` r1 = r2, count2, r3 (count2 = ct2d + 1) (format A2; R332, R774) -/
  | shladdp4A2 (qp : BitVec 6) (r1 : BitVec 7) (r2 : BitVec 7) (r3 : BitVec 7) (ct2d : BitVec 2)
  /-- `sub` r1 = imm8, r3 (imm8 = sign_ext(s<<7 | imm7b, 8)) (format A3; R333, R768) -/
  | subA3 (qp : BitVec 6) (r1 : BitVec 7) (r3 : BitVec 7) (imm8 : BitVec 8)
  /-- `and` r1 = imm8, r3 (imm8 = sign_ext(s<<7 | imm7b, 8)) (format A3; R333, R769) -/
  | andA3 (qp : BitVec 6) (r1 : BitVec 7) (r3 : BitVec 7) (imm8 : BitVec 8)
  /-- `andcm` r1 = imm8, r3 (imm8 = sign_ext(s<<7 | imm7b, 8)) (format A3; R333, R770) -/
  | andcmA3 (qp : BitVec 6) (r1 : BitVec 7) (r3 : BitVec 7) (imm8 : BitVec 8)
  /-- `or` r1 = imm8, r3 (imm8 = sign_ext(s<<7 | imm7b, 8)) (format A3; R333, R771) -/
  | orA3 (qp : BitVec 6) (r1 : BitVec 7) (r3 : BitVec 7) (imm8 : BitVec 8)
  /-- `xor` r1 = imm8, r3 (imm8 = sign_ext(s<<7 | imm7b, 8)) (format A3; R333, R772) -/
  | xorA3 (qp : BitVec 6) (r1 : BitVec 7) (r3 : BitVec 7) (imm8 : BitVec 8)
  /-- `adds` r1 = imm14, r3 (imm14 = sign_ext(s<<13 | imm6d<<7 | imm7b, 14)) (format A4; R334, R763) -/
  | addsA4 (qp : BitVec 6) (r1 : BitVec 7) (r3 : BitVec 7) (imm14 : BitVec 14)
  /-- `addp4` r1 = imm14, r3 (format A4; R334, R765) -/
  | addp4A4 (qp : BitVec 6) (r1 : BitVec 7) (r3 : BitVec 7) (imm14 : BitVec 14)
  /-- `addl` r1 = imm22, r3 (r3 in GR0-GR3; imm22 = sign_ext(s<<21 | imm5c<<16 | imm9d<<7 | imm7b, 22)) (format A5; R335,
  R764) -/
  | addlA5 (qp : BitVec 6) (r1 : BitVec 7) (r3 : BitVec 2) (imm22 : BitVec 22)
  /-- `cmp.lt` p1, p2 = r2, r3 (format A6; R337, R791) -/
  | cmpLtA6 (qp : BitVec 6) (p1 : BitVec 6) (p2 : BitVec 6) (r2 : BitVec 7) (r3 : BitVec 7)
  /-- `cmp.ltu` p1, p2 = r2, r3 (format A6; R337, R791) -/
  | cmpLtuA6 (qp : BitVec 6) (p1 : BitVec 6) (p2 : BitVec 6) (r2 : BitVec 7) (r3 : BitVec 7)
  /-- `cmp.eq` p1, p2 = r2, r3 (format A6; R337, R791) -/
  | cmpEqA6 (qp : BitVec 6) (p1 : BitVec 6) (p2 : BitVec 6) (r2 : BitVec 7) (r3 : BitVec 7)
  /-- `cmp.lt.unc` p1, p2 = r2, r3 (format A6; R337, R791) -/
  | cmpLtUncA6 (qp : BitVec 6) (p1 : BitVec 6) (p2 : BitVec 6) (r2 : BitVec 7) (r3 : BitVec 7)
  /-- `cmp.ltu.unc` p1, p2 = r2, r3 (format A6; R337, R791) -/
  | cmpLtuUncA6 (qp : BitVec 6) (p1 : BitVec 6) (p2 : BitVec 6) (r2 : BitVec 7) (r3 : BitVec 7)
  /-- `cmp.eq.unc` p1, p2 = r2, r3 (format A6; R337, R791) -/
  | cmpEqUncA6 (qp : BitVec 6) (p1 : BitVec 6) (p2 : BitVec 6) (r2 : BitVec 7) (r3 : BitVec 7)
  /-- `cmp.eq.and` p1, p2 = r2, r3 (format A6; R337, R791) -/
  | cmpEqAndA6 (qp : BitVec 6) (p1 : BitVec 6) (p2 : BitVec 6) (r2 : BitVec 7) (r3 : BitVec 7)
  /-- `cmp.eq.or` p1, p2 = r2, r3 (format A6; R337, R791) -/
  | cmpEqOrA6 (qp : BitVec 6) (p1 : BitVec 6) (p2 : BitVec 6) (r2 : BitVec 7) (r3 : BitVec 7)
  /-- `cmp.eq.or.andcm` p1, p2 = r2, r3 (format A6; R337, R791) -/
  | cmpEqOrAndcmA6 (qp : BitVec 6) (p1 : BitVec 6) (p2 : BitVec 6) (r2 : BitVec 7) (r3 : BitVec 7)
  /-- `cmp.ne.and` p1, p2 = r2, r3 (format A6; R337, R791) -/
  | cmpNeAndA6 (qp : BitVec 6) (p1 : BitVec 6) (p2 : BitVec 6) (r2 : BitVec 7) (r3 : BitVec 7)
  /-- `cmp.ne.or` p1, p2 = r2, r3 (format A6; R337, R791) -/
  | cmpNeOrA6 (qp : BitVec 6) (p1 : BitVec 6) (p2 : BitVec 6) (r2 : BitVec 7) (r3 : BitVec 7)
  /-- `cmp.ne.or.andcm` p1, p2 = r2, r3 (format A6; R337, R791) -/
  | cmpNeOrAndcmA6 (qp : BitVec 6) (p1 : BitVec 6) (p2 : BitVec 6) (r2 : BitVec 7) (r3 : BitVec 7)
  /-- `cmp.gt.and` p1, p2 = r0, r3 (format A7; R338, R791) -/
  | cmpGtAndA7 (qp : BitVec 6) (p1 : BitVec 6) (p2 : BitVec 6) (r3 : BitVec 7)
  /-- `cmp.gt.or` p1, p2 = r0, r3 (format A7; R338, R791) -/
  | cmpGtOrA7 (qp : BitVec 6) (p1 : BitVec 6) (p2 : BitVec 6) (r3 : BitVec 7)
  /-- `cmp.gt.or.andcm` p1, p2 = r0, r3 (format A7; R338, R791) -/
  | cmpGtOrAndcmA7 (qp : BitVec 6) (p1 : BitVec 6) (p2 : BitVec 6) (r3 : BitVec 7)
  /-- `cmp.le.and` p1, p2 = r0, r3 (format A7; R338, R791) -/
  | cmpLeAndA7 (qp : BitVec 6) (p1 : BitVec 6) (p2 : BitVec 6) (r3 : BitVec 7)
  /-- `cmp.le.or` p1, p2 = r0, r3 (format A7; R338, R791) -/
  | cmpLeOrA7 (qp : BitVec 6) (p1 : BitVec 6) (p2 : BitVec 6) (r3 : BitVec 7)
  /-- `cmp.le.or.andcm` p1, p2 = r0, r3 (format A7; R338, R791) -/
  | cmpLeOrAndcmA7 (qp : BitVec 6) (p1 : BitVec 6) (p2 : BitVec 6) (r3 : BitVec 7)
  /-- `cmp.ge.and` p1, p2 = r0, r3 (format A7; R338, R791) -/
  | cmpGeAndA7 (qp : BitVec 6) (p1 : BitVec 6) (p2 : BitVec 6) (r3 : BitVec 7)
  /-- `cmp.ge.or` p1, p2 = r0, r3 (format A7; R338, R791) -/
  | cmpGeOrA7 (qp : BitVec 6) (p1 : BitVec 6) (p2 : BitVec 6) (r3 : BitVec 7)
  /-- `cmp.ge.or.andcm` p1, p2 = r0, r3 (format A7; R338, R791) -/
  | cmpGeOrAndcmA7 (qp : BitVec 6) (p1 : BitVec 6) (p2 : BitVec 6) (r3 : BitVec 7)
  /-- `cmp.lt.and` p1, p2 = r0, r3 (format A7; R338, R791) -/
  | cmpLtAndA7 (qp : BitVec 6) (p1 : BitVec 6) (p2 : BitVec 6) (r3 : BitVec 7)
  /-- `cmp.lt.or` p1, p2 = r0, r3 (format A7; R338, R791) -/
  | cmpLtOrA7 (qp : BitVec 6) (p1 : BitVec 6) (p2 : BitVec 6) (r3 : BitVec 7)
  /-- `cmp.lt.or.andcm` p1, p2 = r0, r3 (format A7; R338, R791) -/
  | cmpLtOrAndcmA7 (qp : BitVec 6) (p1 : BitVec 6) (p2 : BitVec 6) (r3 : BitVec 7)
  /-- `cmp.lt` p1, p2 = imm8, r3 (imm8 = sign_ext(s<<7 | imm7b, 8)) (format A8; R339, R791) -/
  | cmpLtA8 (qp : BitVec 6) (p1 : BitVec 6) (p2 : BitVec 6) (r3 : BitVec 7) (imm8 : BitVec 8)
  /-- `cmp.ltu` p1, p2 = imm8, r3 (imm8 = sign_ext(s<<7 | imm7b, 8)) (format A8; R339, R791) -/
  | cmpLtuA8 (qp : BitVec 6) (p1 : BitVec 6) (p2 : BitVec 6) (r3 : BitVec 7) (imm8 : BitVec 8)
  /-- `cmp.eq` p1, p2 = imm8, r3 (imm8 = sign_ext(s<<7 | imm7b, 8)) (format A8; R339, R791) -/
  | cmpEqA8 (qp : BitVec 6) (p1 : BitVec 6) (p2 : BitVec 6) (r3 : BitVec 7) (imm8 : BitVec 8)
  /-- `cmp.lt.unc` p1, p2 = imm8, r3 (imm8 = sign_ext(s<<7 | imm7b, 8)) (format A8; R339, R791) -/
  | cmpLtUncA8 (qp : BitVec 6) (p1 : BitVec 6) (p2 : BitVec 6) (r3 : BitVec 7) (imm8 : BitVec 8)
  /-- `cmp.ltu.unc` p1, p2 = imm8, r3 (imm8 = sign_ext(s<<7 | imm7b, 8)) (format A8; R339, R791) -/
  | cmpLtuUncA8 (qp : BitVec 6) (p1 : BitVec 6) (p2 : BitVec 6) (r3 : BitVec 7) (imm8 : BitVec 8)
  /-- `cmp.eq.unc` p1, p2 = imm8, r3 (imm8 = sign_ext(s<<7 | imm7b, 8)) (format A8; R339, R791) -/
  | cmpEqUncA8 (qp : BitVec 6) (p1 : BitVec 6) (p2 : BitVec 6) (r3 : BitVec 7) (imm8 : BitVec 8)
  /-- `cmp.eq.and` p1, p2 = imm8, r3 (imm8 = sign_ext(s<<7 | imm7b, 8)) (format A8; R339, R791) -/
  | cmpEqAndA8 (qp : BitVec 6) (p1 : BitVec 6) (p2 : BitVec 6) (r3 : BitVec 7) (imm8 : BitVec 8)
  /-- `cmp.eq.or` p1, p2 = imm8, r3 (imm8 = sign_ext(s<<7 | imm7b, 8)) (format A8; R339, R791) -/
  | cmpEqOrA8 (qp : BitVec 6) (p1 : BitVec 6) (p2 : BitVec 6) (r3 : BitVec 7) (imm8 : BitVec 8)
  /-- `cmp.eq.or.andcm` p1, p2 = imm8, r3 (imm8 = sign_ext(s<<7 | imm7b, 8)) (format A8; R339, R791) -/
  | cmpEqOrAndcmA8 (qp : BitVec 6) (p1 : BitVec 6) (p2 : BitVec 6) (r3 : BitVec 7) (imm8 : BitVec 8)
  /-- `cmp.ne.and` p1, p2 = imm8, r3 (imm8 = sign_ext(s<<7 | imm7b, 8)) (format A8; R339, R791) -/
  | cmpNeAndA8 (qp : BitVec 6) (p1 : BitVec 6) (p2 : BitVec 6) (r3 : BitVec 7) (imm8 : BitVec 8)
  /-- `cmp.ne.or` p1, p2 = imm8, r3 (imm8 = sign_ext(s<<7 | imm7b, 8)) (format A8; R339, R791) -/
  | cmpNeOrA8 (qp : BitVec 6) (p1 : BitVec 6) (p2 : BitVec 6) (r3 : BitVec 7) (imm8 : BitVec 8)
  /-- `cmp.ne.or.andcm` p1, p2 = imm8, r3 (imm8 = sign_ext(s<<7 | imm7b, 8)) (format A8; R339, R791) -/
  | cmpNeOrAndcmA8 (qp : BitVec 6) (p1 : BitVec 6) (p2 : BitVec 6) (r3 : BitVec 7) (imm8 : BitVec 8)
  /-- `cmp4.lt` p1, p2 = r2, r3 (format A6; R337, R792) -/
  | cmp4LtA6 (qp : BitVec 6) (p1 : BitVec 6) (p2 : BitVec 6) (r2 : BitVec 7) (r3 : BitVec 7)
  /-- `cmp4.ltu` p1, p2 = r2, r3 (format A6; R337, R792) -/
  | cmp4LtuA6 (qp : BitVec 6) (p1 : BitVec 6) (p2 : BitVec 6) (r2 : BitVec 7) (r3 : BitVec 7)
  /-- `cmp4.eq` p1, p2 = r2, r3 (format A6; R337, R792) -/
  | cmp4EqA6 (qp : BitVec 6) (p1 : BitVec 6) (p2 : BitVec 6) (r2 : BitVec 7) (r3 : BitVec 7)
  /-- `cmp4.lt.unc` p1, p2 = r2, r3 (format A6; R337, R792) -/
  | cmp4LtUncA6 (qp : BitVec 6) (p1 : BitVec 6) (p2 : BitVec 6) (r2 : BitVec 7) (r3 : BitVec 7)
  /-- `cmp4.ltu.unc` p1, p2 = r2, r3 (format A6; R337, R792) -/
  | cmp4LtuUncA6 (qp : BitVec 6) (p1 : BitVec 6) (p2 : BitVec 6) (r2 : BitVec 7) (r3 : BitVec 7)
  /-- `cmp4.eq.unc` p1, p2 = r2, r3 (format A6; R337, R792) -/
  | cmp4EqUncA6 (qp : BitVec 6) (p1 : BitVec 6) (p2 : BitVec 6) (r2 : BitVec 7) (r3 : BitVec 7)
  /-- `cmp4.eq.and` p1, p2 = r2, r3 (format A6; R337, R792) -/
  | cmp4EqAndA6 (qp : BitVec 6) (p1 : BitVec 6) (p2 : BitVec 6) (r2 : BitVec 7) (r3 : BitVec 7)
  /-- `cmp4.eq.or` p1, p2 = r2, r3 (format A6; R337, R792) -/
  | cmp4EqOrA6 (qp : BitVec 6) (p1 : BitVec 6) (p2 : BitVec 6) (r2 : BitVec 7) (r3 : BitVec 7)
  /-- `cmp4.eq.or.andcm` p1, p2 = r2, r3 (format A6; R337, R792) -/
  | cmp4EqOrAndcmA6 (qp : BitVec 6) (p1 : BitVec 6) (p2 : BitVec 6) (r2 : BitVec 7) (r3 : BitVec 7)
  /-- `cmp4.ne.and` p1, p2 = r2, r3 (format A6; R337, R792) -/
  | cmp4NeAndA6 (qp : BitVec 6) (p1 : BitVec 6) (p2 : BitVec 6) (r2 : BitVec 7) (r3 : BitVec 7)
  /-- `cmp4.ne.or` p1, p2 = r2, r3 (format A6; R337, R792) -/
  | cmp4NeOrA6 (qp : BitVec 6) (p1 : BitVec 6) (p2 : BitVec 6) (r2 : BitVec 7) (r3 : BitVec 7)
  /-- `cmp4.ne.or.andcm` p1, p2 = r2, r3 (format A6; R337, R792) -/
  | cmp4NeOrAndcmA6 (qp : BitVec 6) (p1 : BitVec 6) (p2 : BitVec 6) (r2 : BitVec 7) (r3 : BitVec 7)
  /-- `cmp4.gt.and` p1, p2 = r0, r3 (format A7; R338, R792) -/
  | cmp4GtAndA7 (qp : BitVec 6) (p1 : BitVec 6) (p2 : BitVec 6) (r3 : BitVec 7)
  /-- `cmp4.gt.or` p1, p2 = r0, r3 (format A7; R338, R792) -/
  | cmp4GtOrA7 (qp : BitVec 6) (p1 : BitVec 6) (p2 : BitVec 6) (r3 : BitVec 7)
  /-- `cmp4.gt.or.andcm` p1, p2 = r0, r3 (format A7; R338, R792) -/
  | cmp4GtOrAndcmA7 (qp : BitVec 6) (p1 : BitVec 6) (p2 : BitVec 6) (r3 : BitVec 7)
  /-- `cmp4.le.and` p1, p2 = r0, r3 (format A7; R338, R792) -/
  | cmp4LeAndA7 (qp : BitVec 6) (p1 : BitVec 6) (p2 : BitVec 6) (r3 : BitVec 7)
  /-- `cmp4.le.or` p1, p2 = r0, r3 (format A7; R338, R792) -/
  | cmp4LeOrA7 (qp : BitVec 6) (p1 : BitVec 6) (p2 : BitVec 6) (r3 : BitVec 7)
  /-- `cmp4.le.or.andcm` p1, p2 = r0, r3 (format A7; R338, R792) -/
  | cmp4LeOrAndcmA7 (qp : BitVec 6) (p1 : BitVec 6) (p2 : BitVec 6) (r3 : BitVec 7)
  /-- `cmp4.ge.and` p1, p2 = r0, r3 (format A7; R338, R792) -/
  | cmp4GeAndA7 (qp : BitVec 6) (p1 : BitVec 6) (p2 : BitVec 6) (r3 : BitVec 7)
  /-- `cmp4.ge.or` p1, p2 = r0, r3 (format A7; R338, R792) -/
  | cmp4GeOrA7 (qp : BitVec 6) (p1 : BitVec 6) (p2 : BitVec 6) (r3 : BitVec 7)
  /-- `cmp4.ge.or.andcm` p1, p2 = r0, r3 (format A7; R338, R792) -/
  | cmp4GeOrAndcmA7 (qp : BitVec 6) (p1 : BitVec 6) (p2 : BitVec 6) (r3 : BitVec 7)
  /-- `cmp4.lt.and` p1, p2 = r0, r3 (format A7; R338, R792) -/
  | cmp4LtAndA7 (qp : BitVec 6) (p1 : BitVec 6) (p2 : BitVec 6) (r3 : BitVec 7)
  /-- `cmp4.lt.or` p1, p2 = r0, r3 (format A7; R338, R792) -/
  | cmp4LtOrA7 (qp : BitVec 6) (p1 : BitVec 6) (p2 : BitVec 6) (r3 : BitVec 7)
  /-- `cmp4.lt.or.andcm` p1, p2 = r0, r3 (format A7; R338, R792) -/
  | cmp4LtOrAndcmA7 (qp : BitVec 6) (p1 : BitVec 6) (p2 : BitVec 6) (r3 : BitVec 7)
  /-- `cmp4.lt` p1, p2 = imm8, r3 (imm8 = sign_ext(s<<7 | imm7b, 8)) (format A8; R339, R792) -/
  | cmp4LtA8 (qp : BitVec 6) (p1 : BitVec 6) (p2 : BitVec 6) (r3 : BitVec 7) (imm8 : BitVec 8)
  /-- `cmp4.ltu` p1, p2 = imm8, r3 (imm8 = sign_ext(s<<7 | imm7b, 8)) (format A8; R339, R792) -/
  | cmp4LtuA8 (qp : BitVec 6) (p1 : BitVec 6) (p2 : BitVec 6) (r3 : BitVec 7) (imm8 : BitVec 8)
  /-- `cmp4.eq` p1, p2 = imm8, r3 (imm8 = sign_ext(s<<7 | imm7b, 8)) (format A8; R339, R792) -/
  | cmp4EqA8 (qp : BitVec 6) (p1 : BitVec 6) (p2 : BitVec 6) (r3 : BitVec 7) (imm8 : BitVec 8)
  /-- `cmp4.lt.unc` p1, p2 = imm8, r3 (imm8 = sign_ext(s<<7 | imm7b, 8)) (format A8; R339, R792) -/
  | cmp4LtUncA8 (qp : BitVec 6) (p1 : BitVec 6) (p2 : BitVec 6) (r3 : BitVec 7) (imm8 : BitVec 8)
  /-- `cmp4.ltu.unc` p1, p2 = imm8, r3 (imm8 = sign_ext(s<<7 | imm7b, 8)) (format A8; R339, R792) -/
  | cmp4LtuUncA8 (qp : BitVec 6) (p1 : BitVec 6) (p2 : BitVec 6) (r3 : BitVec 7) (imm8 : BitVec 8)
  /-- `cmp4.eq.unc` p1, p2 = imm8, r3 (imm8 = sign_ext(s<<7 | imm7b, 8)) (format A8; R339, R792) -/
  | cmp4EqUncA8 (qp : BitVec 6) (p1 : BitVec 6) (p2 : BitVec 6) (r3 : BitVec 7) (imm8 : BitVec 8)
  /-- `cmp4.eq.and` p1, p2 = imm8, r3 (imm8 = sign_ext(s<<7 | imm7b, 8)) (format A8; R339, R792) -/
  | cmp4EqAndA8 (qp : BitVec 6) (p1 : BitVec 6) (p2 : BitVec 6) (r3 : BitVec 7) (imm8 : BitVec 8)
  /-- `cmp4.eq.or` p1, p2 = imm8, r3 (imm8 = sign_ext(s<<7 | imm7b, 8)) (format A8; R339, R792) -/
  | cmp4EqOrA8 (qp : BitVec 6) (p1 : BitVec 6) (p2 : BitVec 6) (r3 : BitVec 7) (imm8 : BitVec 8)
  /-- `cmp4.eq.or.andcm` p1, p2 = imm8, r3 (imm8 = sign_ext(s<<7 | imm7b, 8)) (format A8; R339, R792) -/
  | cmp4EqOrAndcmA8 (qp : BitVec 6) (p1 : BitVec 6) (p2 : BitVec 6) (r3 : BitVec 7) (imm8 : BitVec 8)
  /-- `cmp4.ne.and` p1, p2 = imm8, r3 (imm8 = sign_ext(s<<7 | imm7b, 8)) (format A8; R339, R792) -/
  | cmp4NeAndA8 (qp : BitVec 6) (p1 : BitVec 6) (p2 : BitVec 6) (r3 : BitVec 7) (imm8 : BitVec 8)
  /-- `cmp4.ne.or` p1, p2 = imm8, r3 (imm8 = sign_ext(s<<7 | imm7b, 8)) (format A8; R339, R792) -/
  | cmp4NeOrA8 (qp : BitVec 6) (p1 : BitVec 6) (p2 : BitVec 6) (r3 : BitVec 7) (imm8 : BitVec 8)
  /-- `cmp4.ne.or.andcm` p1, p2 = imm8, r3 (imm8 = sign_ext(s<<7 | imm7b, 8)) (format A8; R339, R792) -/
  | cmp4NeOrAndcmA8 (qp : BitVec 6) (p1 : BitVec 6) (p2 : BitVec 6) (r3 : BitVec 7) (imm8 : BitVec 8)
  /-- `padd1` r1 = r2, r3 (format A9; R341, R861) -/
  | padd1A9 (qp : BitVec 6) (r1 : BitVec 7) (r2 : BitVec 7) (r3 : BitVec 7)
  /-- `padd2` r1 = r2, r3 (format A9; R341, R861) -/
  | padd2A9 (qp : BitVec 6) (r1 : BitVec 7) (r2 : BitVec 7) (r3 : BitVec 7)
  /-- `padd4` r1 = r2, r3 (format A9; R341, R861) -/
  | padd4A9 (qp : BitVec 6) (r1 : BitVec 7) (r2 : BitVec 7) (r3 : BitVec 7)
  /-- `padd1.sss` r1 = r2, r3 (format A9; R341, R862) -/
  | padd1SssA9 (qp : BitVec 6) (r1 : BitVec 7) (r2 : BitVec 7) (r3 : BitVec 7)
  /-- `padd2.sss` r1 = r2, r3 (format A9; R341, R862) -/
  | padd2SssA9 (qp : BitVec 6) (r1 : BitVec 7) (r2 : BitVec 7) (r3 : BitVec 7)
  /-- `padd1.uuu` r1 = r2, r3 (format A9; R341, R862) -/
  | padd1UuuA9 (qp : BitVec 6) (r1 : BitVec 7) (r2 : BitVec 7) (r3 : BitVec 7)
  /-- `padd2.uuu` r1 = r2, r3 (format A9; R341, R862) -/
  | padd2UuuA9 (qp : BitVec 6) (r1 : BitVec 7) (r2 : BitVec 7) (r3 : BitVec 7)
  /-- `padd1.uus` r1 = r2, r3 (format A9; R341, R862) -/
  | padd1UusA9 (qp : BitVec 6) (r1 : BitVec 7) (r2 : BitVec 7) (r3 : BitVec 7)
  /-- `padd2.uus` r1 = r2, r3 (format A9; R341, R862) -/
  | padd2UusA9 (qp : BitVec 6) (r1 : BitVec 7) (r2 : BitVec 7) (r3 : BitVec 7)
  /-- `psub1` r1 = r2, r3 (format A9; R341, R863) -/
  | psub1A9 (qp : BitVec 6) (r1 : BitVec 7) (r2 : BitVec 7) (r3 : BitVec 7)
  /-- `psub2` r1 = r2, r3 (format A9; R341, R863) -/
  | psub2A9 (qp : BitVec 6) (r1 : BitVec 7) (r2 : BitVec 7) (r3 : BitVec 7)
  /-- `psub4` r1 = r2, r3 (format A9; R341, R863) -/
  | psub4A9 (qp : BitVec 6) (r1 : BitVec 7) (r2 : BitVec 7) (r3 : BitVec 7)
  /-- `psub1.sss` r1 = r2, r3 (format A9; R341, R864) -/
  | psub1SssA9 (qp : BitVec 6) (r1 : BitVec 7) (r2 : BitVec 7) (r3 : BitVec 7)
  /-- `psub2.sss` r1 = r2, r3 (format A9; R341, R864) -/
  | psub2SssA9 (qp : BitVec 6) (r1 : BitVec 7) (r2 : BitVec 7) (r3 : BitVec 7)
  /-- `psub1.uuu` r1 = r2, r3 (format A9; R341, R864) -/
  | psub1UuuA9 (qp : BitVec 6) (r1 : BitVec 7) (r2 : BitVec 7) (r3 : BitVec 7)
  /-- `psub2.uuu` r1 = r2, r3 (format A9; R341, R864) -/
  | psub2UuuA9 (qp : BitVec 6) (r1 : BitVec 7) (r2 : BitVec 7) (r3 : BitVec 7)
  /-- `psub1.uus` r1 = r2, r3 (format A9; R341, R864) -/
  | psub1UusA9 (qp : BitVec 6) (r1 : BitVec 7) (r2 : BitVec 7) (r3 : BitVec 7)
  /-- `psub2.uus` r1 = r2, r3 (format A9; R341, R864) -/
  | psub2UusA9 (qp : BitVec 6) (r1 : BitVec 7) (r2 : BitVec 7) (r3 : BitVec 7)
  /-- `pavg1` r1 = r2, r3 (format A9; R341, R865) -/
  | pavg1A9 (qp : BitVec 6) (r1 : BitVec 7) (r2 : BitVec 7) (r3 : BitVec 7)
  /-- `pavg2` r1 = r2, r3 (format A9; R341, R865) -/
  | pavg2A9 (qp : BitVec 6) (r1 : BitVec 7) (r2 : BitVec 7) (r3 : BitVec 7)
  /-- `pavg1.raz` r1 = r2, r3 (format A9; R341, R865) -/
  | pavg1RazA9 (qp : BitVec 6) (r1 : BitVec 7) (r2 : BitVec 7) (r3 : BitVec 7)
  /-- `pavg2.raz` r1 = r2, r3 (format A9; R341, R865) -/
  | pavg2RazA9 (qp : BitVec 6) (r1 : BitVec 7) (r2 : BitVec 7) (r3 : BitVec 7)
  /-- `pavgsub1` r1 = r2, r3 (format A9; R341, R866) -/
  | pavgsub1A9 (qp : BitVec 6) (r1 : BitVec 7) (r2 : BitVec 7) (r3 : BitVec 7)
  /-- `pavgsub2` r1 = r2, r3 (format A9; R341, R866) -/
  | pavgsub2A9 (qp : BitVec 6) (r1 : BitVec 7) (r2 : BitVec 7) (r3 : BitVec 7)
  /-- `pcmp1.eq` r1 = r2, r3 (format A9; R341, R867) -/
  | pcmp1EqA9 (qp : BitVec 6) (r1 : BitVec 7) (r2 : BitVec 7) (r3 : BitVec 7)
  /-- `pcmp2.eq` r1 = r2, r3 (format A9; R341, R867) -/
  | pcmp2EqA9 (qp : BitVec 6) (r1 : BitVec 7) (r2 : BitVec 7) (r3 : BitVec 7)
  /-- `pcmp4.eq` r1 = r2, r3 (format A9; R341, R867) -/
  | pcmp4EqA9 (qp : BitVec 6) (r1 : BitVec 7) (r2 : BitVec 7) (r3 : BitVec 7)
  /-- `pcmp1.gt` r1 = r2, r3 (format A9; R341, R867) -/
  | pcmp1GtA9 (qp : BitVec 6) (r1 : BitVec 7) (r2 : BitVec 7) (r3 : BitVec 7)
  /-- `pcmp2.gt` r1 = r2, r3 (format A9; R341, R867) -/
  | pcmp2GtA9 (qp : BitVec 6) (r1 : BitVec 7) (r2 : BitVec 7) (r3 : BitVec 7)
  /-- `pcmp4.gt` r1 = r2, r3 (format A9; R341, R867) -/
  | pcmp4GtA9 (qp : BitVec 6) (r1 : BitVec 7) (r2 : BitVec 7) (r3 : BitVec 7)
  /-- `pshladd2` r1 = r2, count2, r3 (count2 = ct2d + 1; ct2d = 3 reservedQP) (format A10; R342, R868) -/
  | pshladd2A10 (qp : BitVec 6) (r1 : BitVec 7) (r2 : BitVec 7) (r3 : BitVec 7) (ct2d : BitVec 2)
  /-- `pshradd2` r1 = r2, count2, r3 (count2 = ct2d + 1; ct2d = 3 reservedQP) (format A10; R342, R869) -/
  | pshradd2A10 (qp : BitVec 6) (r1 : BitVec 7) (r2 : BitVec 7) (r3 : BitVec 7) (ct2d : BitVec 2)
  /-- `pmpyshr2` r1 = r2, r3, count2 (count2 = 0, 7, 15, 16 for ct2d = 0..3) (format I1; R351, R875) -/
  | pmpyshr2I1 (qp : BitVec 6) (r1 : BitVec 7) (r2 : BitVec 7) (r3 : BitVec 7) (ct2d : BitVec 2)
  /-- `pmpyshr2.u` r1 = r2, r3, count2 (format I1; R351, R875) -/
  | pmpyshr2UI1 (qp : BitVec 6) (r1 : BitVec 7) (r2 : BitVec 7) (r3 : BitVec 7) (ct2d : BitVec 2)
  /-- `unpack1.h` r1 = r2, r3 (format I2; R352, R881) -/
  | unpack1HI2 (qp : BitVec 6) (r1 : BitVec 7) (r2 : BitVec 7) (r3 : BitVec 7)
  /-- `mix1.r` r1 = r2, r3 (format I2; R352, R880) -/
  | mix1RI2 (qp : BitVec 6) (r1 : BitVec 7) (r2 : BitVec 7) (r3 : BitVec 7)
  /-- `pmin1.u` r1 = r2, r3 (format I2; R352, R883) -/
  | pmin1UI2 (qp : BitVec 6) (r1 : BitVec 7) (r2 : BitVec 7) (r3 : BitVec 7)
  /-- `pmax1.u` r1 = r2, r3 (format I2; R352, R883) -/
  | pmax1UI2 (qp : BitVec 6) (r1 : BitVec 7) (r2 : BitVec 7) (r3 : BitVec 7)
  /-- `unpack1.l` r1 = r2, r3 (format I2; R352, R881) -/
  | unpack1LI2 (qp : BitVec 6) (r1 : BitVec 7) (r2 : BitVec 7) (r3 : BitVec 7)
  /-- `mix1.l` r1 = r2, r3 (format I2; R352, R880) -/
  | mix1LI2 (qp : BitVec 6) (r1 : BitVec 7) (r2 : BitVec 7) (r3 : BitVec 7)
  /-- `psad1` r1 = r2, r3 (format I2; R352, R884) -/
  | psad1I2 (qp : BitVec 6) (r1 : BitVec 7) (r2 : BitVec 7) (r3 : BitVec 7)
  /-- `pack2.uss` r1 = r2, r3 (format I2; R352, R882) -/
  | pack2UssI2 (qp : BitVec 6) (r1 : BitVec 7) (r2 : BitVec 7) (r3 : BitVec 7)
  /-- `unpack2.h` r1 = r2, r3 (format I2; R352, R881) -/
  | unpack2HI2 (qp : BitVec 6) (r1 : BitVec 7) (r2 : BitVec 7) (r3 : BitVec 7)
  /-- `mix2.r` r1 = r2, r3 (format I2; R352, R880) -/
  | mix2RI2 (qp : BitVec 6) (r1 : BitVec 7) (r2 : BitVec 7) (r3 : BitVec 7)
  /-- `pmpy2.r` r1 = r2, r3 (format I2; R352, R876) -/
  | pmpy2RI2 (qp : BitVec 6) (r1 : BitVec 7) (r2 : BitVec 7) (r3 : BitVec 7)
  /-- `pack2.sss` r1 = r2, r3 (format I2; R352, R882) -/
  | pack2SssI2 (qp : BitVec 6) (r1 : BitVec 7) (r2 : BitVec 7) (r3 : BitVec 7)
  /-- `unpack2.l` r1 = r2, r3 (format I2; R352, R881) -/
  | unpack2LI2 (qp : BitVec 6) (r1 : BitVec 7) (r2 : BitVec 7) (r3 : BitVec 7)
  /-- `mix2.l` r1 = r2, r3 (format I2; R352, R880) -/
  | mix2LI2 (qp : BitVec 6) (r1 : BitVec 7) (r2 : BitVec 7) (r3 : BitVec 7)
  /-- `pmin2` r1 = r2, r3 (format I2; R352, R883) -/
  | pmin2I2 (qp : BitVec 6) (r1 : BitVec 7) (r2 : BitVec 7) (r3 : BitVec 7)
  /-- `pmax2` r1 = r2, r3 (format I2; R352, R883) -/
  | pmax2I2 (qp : BitVec 6) (r1 : BitVec 7) (r2 : BitVec 7) (r3 : BitVec 7)
  /-- `pmpy2.l` r1 = r2, r3 (format I2; R352, R876) -/
  | pmpy2LI2 (qp : BitVec 6) (r1 : BitVec 7) (r2 : BitVec 7) (r3 : BitVec 7)
  /-- `mpy4` r1 = r2, r3 (format I2; R352, R811) -/
  | mpy4I2 (qp : BitVec 6) (r1 : BitVec 7) (r2 : BitVec 7) (r3 : BitVec 7)
  /-- `mpyshl4` r1 = r2, r3 (format I2; R352, R812) -/
  | mpyshl4I2 (qp : BitVec 6) (r1 : BitVec 7) (r2 : BitVec 7) (r3 : BitVec 7)
  /-- `unpack4.h` r1 = r2, r3 (format I2; R352, R881) -/
  | unpack4HI2 (qp : BitVec 6) (r1 : BitVec 7) (r2 : BitVec 7) (r3 : BitVec 7)
  /-- `mix4.r` r1 = r2, r3 (format I2; R352, R880) -/
  | mix4RI2 (qp : BitVec 6) (r1 : BitVec 7) (r2 : BitVec 7) (r3 : BitVec 7)
  /-- `pack4.sss` r1 = r2, r3 (format I2; R352, R882) -/
  | pack4SssI2 (qp : BitVec 6) (r1 : BitVec 7) (r2 : BitVec 7) (r3 : BitVec 7)
  /-- `unpack4.l` r1 = r2, r3 (format I2; R352, R881) -/
  | unpack4LI2 (qp : BitVec 6) (r1 : BitVec 7) (r2 : BitVec 7) (r3 : BitVec 7)
  /-- `mix4.l` r1 = r2, r3 (format I2; R352, R880) -/
  | mix4LI2 (qp : BitVec 6) (r1 : BitVec 7) (r2 : BitVec 7) (r3 : BitVec 7)
  /-- `mux1` r1 = r2, mbtype4 (mbt4c 0 @brcst, 8 @mix, 9 @shuf, A @alt, B @rev; others reservedQP) (format I3; R353, R885) -/
  | mux1I3 (qp : BitVec 6) (r1 : BitVec 7) (r2 : BitVec 7) (mbt4c : BitVec 4)
  /-- `mux2` r1 = r2, mhtype8 (format I4; R354, R886) -/
  | mux2I4 (qp : BitVec 6) (r1 : BitVec 7) (r2 : BitVec 7) (mht8c : BitVec 8)
  /-- `pshr2` r1 = r3, r2 (value r3, count r2) (format I5; R355, R890) -/
  | pshr2I5 (qp : BitVec 6) (r1 : BitVec 7) (r2 : BitVec 7) (r3 : BitVec 7)
  /-- `pshr4` r1 = r3, r2 (value r3, count r2) (format I5; R355, R890) -/
  | pshr4I5 (qp : BitVec 6) (r1 : BitVec 7) (r2 : BitVec 7) (r3 : BitVec 7)
  /-- `shr` r1 = r3, r2 (value r3, count r2) (format I5; R355, R801) -/
  | shrI5 (qp : BitVec 6) (r1 : BitVec 7) (r2 : BitVec 7) (r3 : BitVec 7)
  /-- `pshr2.u` r1 = r3, r2 (value r3, count r2) (format I5; R355, R890) -/
  | pshr2UI5 (qp : BitVec 6) (r1 : BitVec 7) (r2 : BitVec 7) (r3 : BitVec 7)
  /-- `pshr4.u` r1 = r3, r2 (value r3, count r2) (format I5; R355, R890) -/
  | pshr4UI5 (qp : BitVec 6) (r1 : BitVec 7) (r2 : BitVec 7) (r3 : BitVec 7)
  /-- `shr.u` r1 = r3, r2 (value r3, count r2) (format I5; R355, R801) -/
  | shrUI5 (qp : BitVec 6) (r1 : BitVec 7) (r2 : BitVec 7) (r3 : BitVec 7)
  /-- `pshr2` r1 = r3, count5 (format I6; R356, R890) -/
  | pshr2I6 (qp : BitVec 6) (r1 : BitVec 7) (r3 : BitVec 7) (count5b : BitVec 5)
  /-- `pshr4` r1 = r3, count5 (format I6; R356, R890) -/
  | pshr4I6 (qp : BitVec 6) (r1 : BitVec 7) (r3 : BitVec 7) (count5b : BitVec 5)
  /-- `pshr2.u` r1 = r3, count5 (format I6; R356, R890) -/
  | pshr2UI6 (qp : BitVec 6) (r1 : BitVec 7) (r3 : BitVec 7) (count5b : BitVec 5)
  /-- `pshr4.u` r1 = r3, count5 (format I6; R356, R890) -/
  | pshr4UI6 (qp : BitVec 6) (r1 : BitVec 7) (r3 : BitVec 7) (count5b : BitVec 5)
  /-- `pshl2` r1 = r2, r3 (value r2, count r3) (format I7; R357, R891) -/
  | pshl2I7 (qp : BitVec 6) (r1 : BitVec 7) (r2 : BitVec 7) (r3 : BitVec 7)
  /-- `pshl4` r1 = r2, r3 (value r2, count r3) (format I7; R357, R891) -/
  | pshl4I7 (qp : BitVec 6) (r1 : BitVec 7) (r2 : BitVec 7) (r3 : BitVec 7)
  /-- `shl` r1 = r2, r3 (value r2, count r3) (format I7; R357, R800) -/
  | shlI7 (qp : BitVec 6) (r1 : BitVec 7) (r2 : BitVec 7) (r3 : BitVec 7)
  /-- `pshl2` r1 = r2, count5 (count5 = 31 - ccount5c) (format I8; R358, R891) -/
  | pshl2I8 (qp : BitVec 6) (r1 : BitVec 7) (r2 : BitVec 7) (ccount5c : BitVec 5)
  /-- `pshl4` r1 = r2, count5 (count5 = 31 - ccount5c) (format I8; R358, R891) -/
  | pshl4I8 (qp : BitVec 6) (r1 : BitVec 7) (r2 : BitVec 7) (ccount5c : BitVec 5)
  /-- `popcnt` r1 = r3 (format I9; R359, R809) -/
  | popcntI9 (qp : BitVec 6) (r1 : BitVec 7) (r3 : BitVec 7)
  /-- `clz` r1 = r3 (format I9; R359, R810) -/
  | clzI9 (qp : BitVec 6) (r1 : BitVec 7) (r3 : BitVec 7)
  /-- `shrp` r1 = r2, r3, count6 (format I10; R361, R802) -/
  | shrpI10 (qp : BitVec 6) (r1 : BitVec 7) (r2 : BitVec 7) (r3 : BitVec 7) (count6d : BitVec 6)
  /-- `extr.u` r1 = r3, pos6, len6 (len6 = len6d + 1) (format I11; R362, R803) -/
  | extrUI11 (qp : BitVec 6) (r1 : BitVec 7) (r3 : BitVec 7) (len6d : BitVec 6) (pos6b : BitVec 6)
  /-- `extr` r1 = r3, pos6, len6 (len6 = len6d + 1) (format I11; R362, R803) -/
  | extrI11 (qp : BitVec 6) (r1 : BitVec 7) (r3 : BitVec 7) (len6d : BitVec 6) (pos6b : BitVec 6)
  /-- `dep.z` r1 = r2, pos6, len6 (pos6 = 63 - cpos6c; len6 = len6d + 1) (format I12; R363, R805) -/
  | depZI12 (qp : BitVec 6) (r1 : BitVec 7) (r2 : BitVec 7) (len6d : BitVec 6) (cpos6c : BitVec 6)
  /-- `dep.z` r1 = imm8, pos6, len6 (format I13; R364, R805) -/
  | depZI13 (qp : BitVec 6) (r1 : BitVec 7) (len6d : BitVec 6) (cpos6c : BitVec 6) (imm8 : BitVec 8)
  /-- `dep` r1 = imm1, r3, pos6, len6 (imm1 = sign_ext(s,1); pos6 = 63 - cpos6b) (format I14; R365, R804) -/
  | depI14 (qp : BitVec 6) (r1 : BitVec 7) (r3 : BitVec 7) (len6d : BitVec 6) (cpos6b : BitVec 6) (imm1 : BitVec 1)
  /-- `dep` r1 = r2, r3, pos6, len4 (pos6 = 63 - cpos6d; len4 = len4d + 1) (format I15; R366, R804) -/
  | depI15 (qp : BitVec 6) (r1 : BitVec 7) (r2 : BitVec 7) (r3 : BitVec 7) (cpos6d : BitVec 6) (len4d : BitVec 4)
  /-- `tbit.z` p1, p2 = r3, pos6 (format I16; R367, R794) -/
  | tbitZI16 (qp : BitVec 6) (p1 : BitVec 6) (p2 : BitVec 6) (r3 : BitVec 7) (pos6b : BitVec 6)
  /-- `tnat.z` p1, p2 = r3 (format I17; R368, R795) -/
  | tnatZI17 (qp : BitVec 6) (p1 : BitVec 6) (p2 : BitVec 6) (r3 : BitVec 7)
  /-- `tf.z` p1, p2 = imm5 (imm5 = imm5b + 32) (format I30; R369, R796) -/
  | tfZI30 (qp : BitVec 6) (p1 : BitVec 6) (p2 : BitVec 6) (imm5b : BitVec 5)
  /-- `tbit.z.unc` p1, p2 = r3, pos6 (format I16; R367, R794) -/
  | tbitZUncI16 (qp : BitVec 6) (p1 : BitVec 6) (p2 : BitVec 6) (r3 : BitVec 7) (pos6b : BitVec 6)
  /-- `tnat.z.unc` p1, p2 = r3 (format I17; R368, R795) -/
  | tnatZUncI17 (qp : BitVec 6) (p1 : BitVec 6) (p2 : BitVec 6) (r3 : BitVec 7)
  /-- `tf.z.unc` p1, p2 = imm5 (imm5 = imm5b + 32) (format I30; R369, R796) -/
  | tfZUncI30 (qp : BitVec 6) (p1 : BitVec 6) (p2 : BitVec 6) (imm5b : BitVec 5)
  /-- `tbit.z.and` p1, p2 = r3, pos6 (format I16; R367, R794) -/
  | tbitZAndI16 (qp : BitVec 6) (p1 : BitVec 6) (p2 : BitVec 6) (r3 : BitVec 7) (pos6b : BitVec 6)
  /-- `tnat.z.and` p1, p2 = r3 (format I17; R368, R795) -/
  | tnatZAndI17 (qp : BitVec 6) (p1 : BitVec 6) (p2 : BitVec 6) (r3 : BitVec 7)
  /-- `tf.z.and` p1, p2 = imm5 (imm5 = imm5b + 32) (format I30; R369, R796) -/
  | tfZAndI30 (qp : BitVec 6) (p1 : BitVec 6) (p2 : BitVec 6) (imm5b : BitVec 5)
  /-- `tbit.nz.and` p1, p2 = r3, pos6 (format I16; R367, R794) -/
  | tbitNzAndI16 (qp : BitVec 6) (p1 : BitVec 6) (p2 : BitVec 6) (r3 : BitVec 7) (pos6b : BitVec 6)
  /-- `tnat.nz.and` p1, p2 = r3 (format I17; R368, R795) -/
  | tnatNzAndI17 (qp : BitVec 6) (p1 : BitVec 6) (p2 : BitVec 6) (r3 : BitVec 7)
  /-- `tf.nz.and` p1, p2 = imm5 (imm5 = imm5b + 32) (format I30; R369, R796) -/
  | tfNzAndI30 (qp : BitVec 6) (p1 : BitVec 6) (p2 : BitVec 6) (imm5b : BitVec 5)
  /-- `tbit.z.or` p1, p2 = r3, pos6 (format I16; R367, R794) -/
  | tbitZOrI16 (qp : BitVec 6) (p1 : BitVec 6) (p2 : BitVec 6) (r3 : BitVec 7) (pos6b : BitVec 6)
  /-- `tnat.z.or` p1, p2 = r3 (format I17; R368, R795) -/
  | tnatZOrI17 (qp : BitVec 6) (p1 : BitVec 6) (p2 : BitVec 6) (r3 : BitVec 7)
  /-- `tf.z.or` p1, p2 = imm5 (imm5 = imm5b + 32) (format I30; R369, R796) -/
  | tfZOrI30 (qp : BitVec 6) (p1 : BitVec 6) (p2 : BitVec 6) (imm5b : BitVec 5)
  /-- `tbit.nz.or` p1, p2 = r3, pos6 (format I16; R367, R794) -/
  | tbitNzOrI16 (qp : BitVec 6) (p1 : BitVec 6) (p2 : BitVec 6) (r3 : BitVec 7) (pos6b : BitVec 6)
  /-- `tnat.nz.or` p1, p2 = r3 (format I17; R368, R795) -/
  | tnatNzOrI17 (qp : BitVec 6) (p1 : BitVec 6) (p2 : BitVec 6) (r3 : BitVec 7)
  /-- `tf.nz.or` p1, p2 = imm5 (imm5 = imm5b + 32) (format I30; R369, R796) -/
  | tfNzOrI30 (qp : BitVec 6) (p1 : BitVec 6) (p2 : BitVec 6) (imm5b : BitVec 5)
  /-- `tbit.z.or.andcm` p1, p2 = r3, pos6 (format I16; R367, R794) -/
  | tbitZOrAndcmI16 (qp : BitVec 6) (p1 : BitVec 6) (p2 : BitVec 6) (r3 : BitVec 7) (pos6b : BitVec 6)
  /-- `tnat.z.or.andcm` p1, p2 = r3 (format I17; R368, R795) -/
  | tnatZOrAndcmI17 (qp : BitVec 6) (p1 : BitVec 6) (p2 : BitVec 6) (r3 : BitVec 7)
  /-- `tf.z.or.andcm` p1, p2 = imm5 (imm5 = imm5b + 32) (format I30; R369, R796) -/
  | tfZOrAndcmI30 (qp : BitVec 6) (p1 : BitVec 6) (p2 : BitVec 6) (imm5b : BitVec 5)
  /-- `tbit.nz.or.andcm` p1, p2 = r3, pos6 (format I16; R367, R794) -/
  | tbitNzOrAndcmI16 (qp : BitVec 6) (p1 : BitVec 6) (p2 : BitVec 6) (r3 : BitVec 7) (pos6b : BitVec 6)
  /-- `tnat.nz.or.andcm` p1, p2 = r3 (format I17; R368, R795) -/
  | tnatNzOrAndcmI17 (qp : BitVec 6) (p1 : BitVec 6) (p2 : BitVec 6) (r3 : BitVec 7)
  /-- `tf.nz.or.andcm` p1, p2 = imm5 (imm5 = imm5b + 32) (format I30; R369, R796) -/
  | tfNzOrAndcmI30 (qp : BitVec 6) (p1 : BitVec 6) (p2 : BitVec 6) (imm5b : BitVec 5)
  /-- `nop.i` imm21 (= i<<20 | imm20a) (format I18; R371, R673) -/
  | nopII18 (qp : BitVec 6) (imm21 : BitVec 21)
  /-- `hint.i` imm21 (format I18; R371, R672) -/
  | hintII18 (qp : BitVec 6) (imm21 : BitVec 21)
  /-- `break.i` imm21 (format I19; R372, R674) -/
  | breakII19 (qp : BitVec 6) (imm21 : BitVec 21)
  /-- `chk.s.i` r2, target25 (= IP + sign_ext(s<<20 | imm13c<<7 | imm7a, 21) << 4) (format I20; R373, R655) -/
  | chkSII20 (qp : BitVec 6) (r2 : BitVec 7) (disp21 : BitVec 21)
  /-- `mov` b1 = r2, tag13 (hint completers mwh, ph, pvec, ih) (format I21; R376, R820) -/
  | movToBrI21 (qp : BitVec 6) (b1 : BitVec 3) (r2 : BitVec 7) (timm9c : BitVec 9) (ih : BitVec 1) (wh : BitVec 2) (p : BitVec 1) (pbtv : BitVec 3)
  /-- `mov.ret` b1 = r2, tag13 (format I21; R376, R820) -/
  | movRetToBrI21 (qp : BitVec 6) (b1 : BitVec 3) (r2 : BitVec 7) (timm9c : BitVec 9) (ih : BitVec 1) (wh : BitVec 2) (p : BitVec 1) (pbtv : BitVec 3)
  /-- `mov` r1 = b2 (format I22; R377, R821) -/
  | movFromBrI22 (qp : BitVec 6) (r1 : BitVec 7) (b2 : BitVec 3)
  /-- `mov` pr = r2, mask17 (= sign_ext(s<<16 | mask8c<<8 | mask7a<<1, 17)) (format I23; R378, R823) -/
  | movToPrI23 (qp : BitVec 6) (r2 : BitVec 7) (mask16 : BitVec 16)
  /-- `mov` pr.rot = imm44 (= sign_ext(s<<43 | imm27a<<16, 44)) (format I24; R379, R822) -/
  | movToPrRotI24 (qp : BitVec 6) (imm28 : BitVec 28)
  /-- `mov` r1 = ip (format I25; R380, R825) -/
  | movFromIpI25 (qp : BitVec 6) (r1 : BitVec 7)
  /-- `mov` r1 = pr (format I25; R380, R824) -/
  | movFromPrI25 (qp : BitVec 6) (r1 : BitVec 7)
  /-- `mov.i` ar3 = r2 (format I26; R381, R680) -/
  | movIToArI26 (qp : BitVec 6) (r2 : BitVec 7) (ar3 : BitVec 7)
  /-- `mov.i` ar3 = imm8 (format I27; R382, R680) -/
  | movIToArImmI27 (qp : BitVec 6) (ar3 : BitVec 7) (imm8 : BitVec 8)
  /-- `mov.i` r1 = ar3 (format I28; R383, R680) -/
  | movIFromArI28 (qp : BitVec 6) (r1 : BitVec 7) (ar3 : BitVec 7)
  /-- `zxt1` r1 = r3 (format I29; R384, R807) -/
  | zxt1I29 (qp : BitVec 6) (r1 : BitVec 7) (r3 : BitVec 7)
  /-- `zxt2` r1 = r3 (format I29; R384, R807) -/
  | zxt2I29 (qp : BitVec 6) (r1 : BitVec 7) (r3 : BitVec 7)
  /-- `zxt4` r1 = r3 (format I29; R384, R807) -/
  | zxt4I29 (qp : BitVec 6) (r1 : BitVec 7) (r3 : BitVec 7)
  /-- `sxt1` r1 = r3 (format I29; R384, R806) -/
  | sxt1I29 (qp : BitVec 6) (r1 : BitVec 7) (r3 : BitVec 7)
  /-- `sxt2` r1 = r3 (format I29; R384, R806) -/
  | sxt2I29 (qp : BitVec 6) (r1 : BitVec 7) (r3 : BitVec 7)
  /-- `sxt4` r1 = r3 (format I29; R384, R806) -/
  | sxt4I29 (qp : BitVec 6) (r1 : BitVec 7) (r3 : BitVec 7)
  /-- `czx1.l` r1 = r3 (format I29; R384, R808) -/
  | czx1LI29 (qp : BitVec 6) (r1 : BitVec 7) (r3 : BitVec 7)
  /-- `czx2.l` r1 = r3 (format I29; R384, R808) -/
  | czx2LI29 (qp : BitVec 6) (r1 : BitVec 7) (r3 : BitVec 7)
  /-- `czx1.r` r1 = r3 (format I29; R384, R808) -/
  | czx1RI29 (qp : BitVec 6) (r1 : BitVec 7) (r3 : BitVec 7)
  /-- `czx2.r` r1 = r3 (format I29; R384, R808) -/
  | czx2RI29 (qp : BitVec 6) (r1 : BitVec 7) (r3 : BitVec 7)
  /-- `ld1` r1 = [r3] (format M1; R405, R601) -/
  | ld1M1 (qp : BitVec 6) (r1 : BitVec 7) (r3 : BitVec 7) (hint : BitVec 2) (h : BitVec 1)
  /-- `ld2` r1 = [r3] (format M1; R405, R601) -/
  | ld2M1 (qp : BitVec 6) (r1 : BitVec 7) (r3 : BitVec 7) (hint : BitVec 2) (h : BitVec 1)
  /-- `ld4` r1 = [r3] (format M1; R405, R601) -/
  | ld4M1 (qp : BitVec 6) (r1 : BitVec 7) (r3 : BitVec 7) (hint : BitVec 2) (h : BitVec 1)
  /-- `ld8` r1 = [r3] (format M1; R405, R601) -/
  | ld8M1 (qp : BitVec 6) (r1 : BitVec 7) (r3 : BitVec 7) (hint : BitVec 2) (h : BitVec 1)
  /-- `ld1.s` r1 = [r3] (format M1; R405, R601) -/
  | ld1SM1 (qp : BitVec 6) (r1 : BitVec 7) (r3 : BitVec 7) (hint : BitVec 2) (h : BitVec 1)
  /-- `ld2.s` r1 = [r3] (format M1; R405, R601) -/
  | ld2SM1 (qp : BitVec 6) (r1 : BitVec 7) (r3 : BitVec 7) (hint : BitVec 2) (h : BitVec 1)
  /-- `ld4.s` r1 = [r3] (format M1; R405, R601) -/
  | ld4SM1 (qp : BitVec 6) (r1 : BitVec 7) (r3 : BitVec 7) (hint : BitVec 2) (h : BitVec 1)
  /-- `ld8.s` r1 = [r3] (format M1; R405, R601) -/
  | ld8SM1 (qp : BitVec 6) (r1 : BitVec 7) (r3 : BitVec 7) (hint : BitVec 2) (h : BitVec 1)
  /-- `ld1.a` r1 = [r3] (format M1; R405, R601) -/
  | ld1AM1 (qp : BitVec 6) (r1 : BitVec 7) (r3 : BitVec 7) (hint : BitVec 2) (h : BitVec 1)
  /-- `ld2.a` r1 = [r3] (format M1; R405, R601) -/
  | ld2AM1 (qp : BitVec 6) (r1 : BitVec 7) (r3 : BitVec 7) (hint : BitVec 2) (h : BitVec 1)
  /-- `ld4.a` r1 = [r3] (format M1; R405, R601) -/
  | ld4AM1 (qp : BitVec 6) (r1 : BitVec 7) (r3 : BitVec 7) (hint : BitVec 2) (h : BitVec 1)
  /-- `ld8.a` r1 = [r3] (format M1; R405, R601) -/
  | ld8AM1 (qp : BitVec 6) (r1 : BitVec 7) (r3 : BitVec 7) (hint : BitVec 2) (h : BitVec 1)
  /-- `ld1.sa` r1 = [r3] (format M1; R405, R601) -/
  | ld1SaM1 (qp : BitVec 6) (r1 : BitVec 7) (r3 : BitVec 7) (hint : BitVec 2) (h : BitVec 1)
  /-- `ld2.sa` r1 = [r3] (format M1; R405, R601) -/
  | ld2SaM1 (qp : BitVec 6) (r1 : BitVec 7) (r3 : BitVec 7) (hint : BitVec 2) (h : BitVec 1)
  /-- `ld4.sa` r1 = [r3] (format M1; R405, R601) -/
  | ld4SaM1 (qp : BitVec 6) (r1 : BitVec 7) (r3 : BitVec 7) (hint : BitVec 2) (h : BitVec 1)
  /-- `ld8.sa` r1 = [r3] (format M1; R405, R601) -/
  | ld8SaM1 (qp : BitVec 6) (r1 : BitVec 7) (r3 : BitVec 7) (hint : BitVec 2) (h : BitVec 1)
  /-- `ld1.bias` r1 = [r3] (format M1; R405, R601) -/
  | ld1BiasM1 (qp : BitVec 6) (r1 : BitVec 7) (r3 : BitVec 7) (hint : BitVec 2) (h : BitVec 1)
  /-- `ld2.bias` r1 = [r3] (format M1; R405, R601) -/
  | ld2BiasM1 (qp : BitVec 6) (r1 : BitVec 7) (r3 : BitVec 7) (hint : BitVec 2) (h : BitVec 1)
  /-- `ld4.bias` r1 = [r3] (format M1; R405, R601) -/
  | ld4BiasM1 (qp : BitVec 6) (r1 : BitVec 7) (r3 : BitVec 7) (hint : BitVec 2) (h : BitVec 1)
  /-- `ld8.bias` r1 = [r3] (format M1; R405, R601) -/
  | ld8BiasM1 (qp : BitVec 6) (r1 : BitVec 7) (r3 : BitVec 7) (hint : BitVec 2) (h : BitVec 1)
  /-- `ld1.acq` r1 = [r3] (format M1; R405, R601) -/
  | ld1AcqM1 (qp : BitVec 6) (r1 : BitVec 7) (r3 : BitVec 7) (hint : BitVec 2) (h : BitVec 1)
  /-- `ld2.acq` r1 = [r3] (format M1; R405, R601) -/
  | ld2AcqM1 (qp : BitVec 6) (r1 : BitVec 7) (r3 : BitVec 7) (hint : BitVec 2) (h : BitVec 1)
  /-- `ld4.acq` r1 = [r3] (format M1; R405, R601) -/
  | ld4AcqM1 (qp : BitVec 6) (r1 : BitVec 7) (r3 : BitVec 7) (hint : BitVec 2) (h : BitVec 1)
  /-- `ld8.acq` r1 = [r3] (format M1; R405, R601) -/
  | ld8AcqM1 (qp : BitVec 6) (r1 : BitVec 7) (r3 : BitVec 7) (hint : BitVec 2) (h : BitVec 1)
  /-- `ld1.c.clr` r1 = [r3] (format M1; R405, R601) -/
  | ld1CClrM1 (qp : BitVec 6) (r1 : BitVec 7) (r3 : BitVec 7) (hint : BitVec 2) (h : BitVec 1)
  /-- `ld2.c.clr` r1 = [r3] (format M1; R405, R601) -/
  | ld2CClrM1 (qp : BitVec 6) (r1 : BitVec 7) (r3 : BitVec 7) (hint : BitVec 2) (h : BitVec 1)
  /-- `ld4.c.clr` r1 = [r3] (format M1; R405, R601) -/
  | ld4CClrM1 (qp : BitVec 6) (r1 : BitVec 7) (r3 : BitVec 7) (hint : BitVec 2) (h : BitVec 1)
  /-- `ld8.c.clr` r1 = [r3] (format M1; R405, R601) -/
  | ld8CClrM1 (qp : BitVec 6) (r1 : BitVec 7) (r3 : BitVec 7) (hint : BitVec 2) (h : BitVec 1)
  /-- `ld1.c.nc` r1 = [r3] (format M1; R405, R601) -/
  | ld1CNcM1 (qp : BitVec 6) (r1 : BitVec 7) (r3 : BitVec 7) (hint : BitVec 2) (h : BitVec 1)
  /-- `ld2.c.nc` r1 = [r3] (format M1; R405, R601) -/
  | ld2CNcM1 (qp : BitVec 6) (r1 : BitVec 7) (r3 : BitVec 7) (hint : BitVec 2) (h : BitVec 1)
  /-- `ld4.c.nc` r1 = [r3] (format M1; R405, R601) -/
  | ld4CNcM1 (qp : BitVec 6) (r1 : BitVec 7) (r3 : BitVec 7) (hint : BitVec 2) (h : BitVec 1)
  /-- `ld8.c.nc` r1 = [r3] (format M1; R405, R601) -/
  | ld8CNcM1 (qp : BitVec 6) (r1 : BitVec 7) (r3 : BitVec 7) (hint : BitVec 2) (h : BitVec 1)
  /-- `ld1.c.clr.acq` r1 = [r3] (format M1; R405, R601) -/
  | ld1CClrAcqM1 (qp : BitVec 6) (r1 : BitVec 7) (r3 : BitVec 7) (hint : BitVec 2) (h : BitVec 1)
  /-- `ld2.c.clr.acq` r1 = [r3] (format M1; R405, R601) -/
  | ld2CClrAcqM1 (qp : BitVec 6) (r1 : BitVec 7) (r3 : BitVec 7) (hint : BitVec 2) (h : BitVec 1)
  /-- `ld4.c.clr.acq` r1 = [r3] (format M1; R405, R601) -/
  | ld4CClrAcqM1 (qp : BitVec 6) (r1 : BitVec 7) (r3 : BitVec 7) (hint : BitVec 2) (h : BitVec 1)
  /-- `ld8.c.clr.acq` r1 = [r3] (format M1; R405, R601) -/
  | ld8CClrAcqM1 (qp : BitVec 6) (r1 : BitVec 7) (r3 : BitVec 7) (hint : BitVec 2) (h : BitVec 1)
  /-- `ld8.fill` r1 = [r3] (format M1; R405, R605) -/
  | ld8FillM1 (qp : BitVec 6) (r1 : BitVec 7) (r3 : BitVec 7) (hint : BitVec 2) (h : BitVec 1)
  /-- `ld1` r1 = [r3], r2 (format M2; R406, R601) -/
  | ld1M2 (qp : BitVec 6) (r1 : BitVec 7) (r2 : BitVec 7) (r3 : BitVec 7) (hint : BitVec 2)
  /-- `ld2` r1 = [r3], r2 (format M2; R406, R601) -/
  | ld2M2 (qp : BitVec 6) (r1 : BitVec 7) (r2 : BitVec 7) (r3 : BitVec 7) (hint : BitVec 2)
  /-- `ld4` r1 = [r3], r2 (format M2; R406, R601) -/
  | ld4M2 (qp : BitVec 6) (r1 : BitVec 7) (r2 : BitVec 7) (r3 : BitVec 7) (hint : BitVec 2)
  /-- `ld8` r1 = [r3], r2 (format M2; R406, R601) -/
  | ld8M2 (qp : BitVec 6) (r1 : BitVec 7) (r2 : BitVec 7) (r3 : BitVec 7) (hint : BitVec 2)
  /-- `ld1.s` r1 = [r3], r2 (format M2; R406, R601) -/
  | ld1SM2 (qp : BitVec 6) (r1 : BitVec 7) (r2 : BitVec 7) (r3 : BitVec 7) (hint : BitVec 2)
  /-- `ld2.s` r1 = [r3], r2 (format M2; R406, R601) -/
  | ld2SM2 (qp : BitVec 6) (r1 : BitVec 7) (r2 : BitVec 7) (r3 : BitVec 7) (hint : BitVec 2)
  /-- `ld4.s` r1 = [r3], r2 (format M2; R406, R601) -/
  | ld4SM2 (qp : BitVec 6) (r1 : BitVec 7) (r2 : BitVec 7) (r3 : BitVec 7) (hint : BitVec 2)
  /-- `ld8.s` r1 = [r3], r2 (format M2; R406, R601) -/
  | ld8SM2 (qp : BitVec 6) (r1 : BitVec 7) (r2 : BitVec 7) (r3 : BitVec 7) (hint : BitVec 2)
  /-- `ld1.a` r1 = [r3], r2 (format M2; R406, R601) -/
  | ld1AM2 (qp : BitVec 6) (r1 : BitVec 7) (r2 : BitVec 7) (r3 : BitVec 7) (hint : BitVec 2)
  /-- `ld2.a` r1 = [r3], r2 (format M2; R406, R601) -/
  | ld2AM2 (qp : BitVec 6) (r1 : BitVec 7) (r2 : BitVec 7) (r3 : BitVec 7) (hint : BitVec 2)
  /-- `ld4.a` r1 = [r3], r2 (format M2; R406, R601) -/
  | ld4AM2 (qp : BitVec 6) (r1 : BitVec 7) (r2 : BitVec 7) (r3 : BitVec 7) (hint : BitVec 2)
  /-- `ld8.a` r1 = [r3], r2 (format M2; R406, R601) -/
  | ld8AM2 (qp : BitVec 6) (r1 : BitVec 7) (r2 : BitVec 7) (r3 : BitVec 7) (hint : BitVec 2)
  /-- `ld1.sa` r1 = [r3], r2 (format M2; R406, R601) -/
  | ld1SaM2 (qp : BitVec 6) (r1 : BitVec 7) (r2 : BitVec 7) (r3 : BitVec 7) (hint : BitVec 2)
  /-- `ld2.sa` r1 = [r3], r2 (format M2; R406, R601) -/
  | ld2SaM2 (qp : BitVec 6) (r1 : BitVec 7) (r2 : BitVec 7) (r3 : BitVec 7) (hint : BitVec 2)
  /-- `ld4.sa` r1 = [r3], r2 (format M2; R406, R601) -/
  | ld4SaM2 (qp : BitVec 6) (r1 : BitVec 7) (r2 : BitVec 7) (r3 : BitVec 7) (hint : BitVec 2)
  /-- `ld8.sa` r1 = [r3], r2 (format M2; R406, R601) -/
  | ld8SaM2 (qp : BitVec 6) (r1 : BitVec 7) (r2 : BitVec 7) (r3 : BitVec 7) (hint : BitVec 2)
  /-- `ld1.bias` r1 = [r3], r2 (format M2; R406, R601) -/
  | ld1BiasM2 (qp : BitVec 6) (r1 : BitVec 7) (r2 : BitVec 7) (r3 : BitVec 7) (hint : BitVec 2)
  /-- `ld2.bias` r1 = [r3], r2 (format M2; R406, R601) -/
  | ld2BiasM2 (qp : BitVec 6) (r1 : BitVec 7) (r2 : BitVec 7) (r3 : BitVec 7) (hint : BitVec 2)
  /-- `ld4.bias` r1 = [r3], r2 (format M2; R406, R601) -/
  | ld4BiasM2 (qp : BitVec 6) (r1 : BitVec 7) (r2 : BitVec 7) (r3 : BitVec 7) (hint : BitVec 2)
  /-- `ld8.bias` r1 = [r3], r2 (format M2; R406, R601) -/
  | ld8BiasM2 (qp : BitVec 6) (r1 : BitVec 7) (r2 : BitVec 7) (r3 : BitVec 7) (hint : BitVec 2)
  /-- `ld1.acq` r1 = [r3], r2 (format M2; R406, R601) -/
  | ld1AcqM2 (qp : BitVec 6) (r1 : BitVec 7) (r2 : BitVec 7) (r3 : BitVec 7) (hint : BitVec 2)
  /-- `ld2.acq` r1 = [r3], r2 (format M2; R406, R601) -/
  | ld2AcqM2 (qp : BitVec 6) (r1 : BitVec 7) (r2 : BitVec 7) (r3 : BitVec 7) (hint : BitVec 2)
  /-- `ld4.acq` r1 = [r3], r2 (format M2; R406, R601) -/
  | ld4AcqM2 (qp : BitVec 6) (r1 : BitVec 7) (r2 : BitVec 7) (r3 : BitVec 7) (hint : BitVec 2)
  /-- `ld8.acq` r1 = [r3], r2 (format M2; R406, R601) -/
  | ld8AcqM2 (qp : BitVec 6) (r1 : BitVec 7) (r2 : BitVec 7) (r3 : BitVec 7) (hint : BitVec 2)
  /-- `ld1.c.clr` r1 = [r3], r2 (format M2; R406, R601) -/
  | ld1CClrM2 (qp : BitVec 6) (r1 : BitVec 7) (r2 : BitVec 7) (r3 : BitVec 7) (hint : BitVec 2)
  /-- `ld2.c.clr` r1 = [r3], r2 (format M2; R406, R601) -/
  | ld2CClrM2 (qp : BitVec 6) (r1 : BitVec 7) (r2 : BitVec 7) (r3 : BitVec 7) (hint : BitVec 2)
  /-- `ld4.c.clr` r1 = [r3], r2 (format M2; R406, R601) -/
  | ld4CClrM2 (qp : BitVec 6) (r1 : BitVec 7) (r2 : BitVec 7) (r3 : BitVec 7) (hint : BitVec 2)
  /-- `ld8.c.clr` r1 = [r3], r2 (format M2; R406, R601) -/
  | ld8CClrM2 (qp : BitVec 6) (r1 : BitVec 7) (r2 : BitVec 7) (r3 : BitVec 7) (hint : BitVec 2)
  /-- `ld1.c.nc` r1 = [r3], r2 (format M2; R406, R601) -/
  | ld1CNcM2 (qp : BitVec 6) (r1 : BitVec 7) (r2 : BitVec 7) (r3 : BitVec 7) (hint : BitVec 2)
  /-- `ld2.c.nc` r1 = [r3], r2 (format M2; R406, R601) -/
  | ld2CNcM2 (qp : BitVec 6) (r1 : BitVec 7) (r2 : BitVec 7) (r3 : BitVec 7) (hint : BitVec 2)
  /-- `ld4.c.nc` r1 = [r3], r2 (format M2; R406, R601) -/
  | ld4CNcM2 (qp : BitVec 6) (r1 : BitVec 7) (r2 : BitVec 7) (r3 : BitVec 7) (hint : BitVec 2)
  /-- `ld8.c.nc` r1 = [r3], r2 (format M2; R406, R601) -/
  | ld8CNcM2 (qp : BitVec 6) (r1 : BitVec 7) (r2 : BitVec 7) (r3 : BitVec 7) (hint : BitVec 2)
  /-- `ld1.c.clr.acq` r1 = [r3], r2 (format M2; R406, R601) -/
  | ld1CClrAcqM2 (qp : BitVec 6) (r1 : BitVec 7) (r2 : BitVec 7) (r3 : BitVec 7) (hint : BitVec 2)
  /-- `ld2.c.clr.acq` r1 = [r3], r2 (format M2; R406, R601) -/
  | ld2CClrAcqM2 (qp : BitVec 6) (r1 : BitVec 7) (r2 : BitVec 7) (r3 : BitVec 7) (hint : BitVec 2)
  /-- `ld4.c.clr.acq` r1 = [r3], r2 (format M2; R406, R601) -/
  | ld4CClrAcqM2 (qp : BitVec 6) (r1 : BitVec 7) (r2 : BitVec 7) (r3 : BitVec 7) (hint : BitVec 2)
  /-- `ld8.c.clr.acq` r1 = [r3], r2 (format M2; R406, R601) -/
  | ld8CClrAcqM2 (qp : BitVec 6) (r1 : BitVec 7) (r2 : BitVec 7) (r3 : BitVec 7) (hint : BitVec 2)
  /-- `ld8.fill` r1 = [r3], r2 (format M2; R406, R605) -/
  | ld8FillM2 (qp : BitVec 6) (r1 : BitVec 7) (r2 : BitVec 7) (r3 : BitVec 7) (hint : BitVec 2)
  /-- `ld1` r1 = [r3], imm9 (= sign_ext(s<<8 | i<<7 | imm7b, 9)) (format M3; R407, R601) -/
  | ld1M3 (qp : BitVec 6) (r1 : BitVec 7) (r3 : BitVec 7) (hint : BitVec 2) (imm9 : BitVec 9)
  /-- `ld2` r1 = [r3], imm9 (= sign_ext(s<<8 | i<<7 | imm7b, 9)) (format M3; R407, R601) -/
  | ld2M3 (qp : BitVec 6) (r1 : BitVec 7) (r3 : BitVec 7) (hint : BitVec 2) (imm9 : BitVec 9)
  /-- `ld4` r1 = [r3], imm9 (= sign_ext(s<<8 | i<<7 | imm7b, 9)) (format M3; R407, R601) -/
  | ld4M3 (qp : BitVec 6) (r1 : BitVec 7) (r3 : BitVec 7) (hint : BitVec 2) (imm9 : BitVec 9)
  /-- `ld8` r1 = [r3], imm9 (= sign_ext(s<<8 | i<<7 | imm7b, 9)) (format M3; R407, R601) -/
  | ld8M3 (qp : BitVec 6) (r1 : BitVec 7) (r3 : BitVec 7) (hint : BitVec 2) (imm9 : BitVec 9)
  /-- `ld1.s` r1 = [r3], imm9 (= sign_ext(s<<8 | i<<7 | imm7b, 9)) (format M3; R407, R601) -/
  | ld1SM3 (qp : BitVec 6) (r1 : BitVec 7) (r3 : BitVec 7) (hint : BitVec 2) (imm9 : BitVec 9)
  /-- `ld2.s` r1 = [r3], imm9 (= sign_ext(s<<8 | i<<7 | imm7b, 9)) (format M3; R407, R601) -/
  | ld2SM3 (qp : BitVec 6) (r1 : BitVec 7) (r3 : BitVec 7) (hint : BitVec 2) (imm9 : BitVec 9)
  /-- `ld4.s` r1 = [r3], imm9 (= sign_ext(s<<8 | i<<7 | imm7b, 9)) (format M3; R407, R601) -/
  | ld4SM3 (qp : BitVec 6) (r1 : BitVec 7) (r3 : BitVec 7) (hint : BitVec 2) (imm9 : BitVec 9)
  /-- `ld8.s` r1 = [r3], imm9 (= sign_ext(s<<8 | i<<7 | imm7b, 9)) (format M3; R407, R601) -/
  | ld8SM3 (qp : BitVec 6) (r1 : BitVec 7) (r3 : BitVec 7) (hint : BitVec 2) (imm9 : BitVec 9)
  /-- `ld1.a` r1 = [r3], imm9 (= sign_ext(s<<8 | i<<7 | imm7b, 9)) (format M3; R407, R601) -/
  | ld1AM3 (qp : BitVec 6) (r1 : BitVec 7) (r3 : BitVec 7) (hint : BitVec 2) (imm9 : BitVec 9)
  /-- `ld2.a` r1 = [r3], imm9 (= sign_ext(s<<8 | i<<7 | imm7b, 9)) (format M3; R407, R601) -/
  | ld2AM3 (qp : BitVec 6) (r1 : BitVec 7) (r3 : BitVec 7) (hint : BitVec 2) (imm9 : BitVec 9)
  /-- `ld4.a` r1 = [r3], imm9 (= sign_ext(s<<8 | i<<7 | imm7b, 9)) (format M3; R407, R601) -/
  | ld4AM3 (qp : BitVec 6) (r1 : BitVec 7) (r3 : BitVec 7) (hint : BitVec 2) (imm9 : BitVec 9)
  /-- `ld8.a` r1 = [r3], imm9 (= sign_ext(s<<8 | i<<7 | imm7b, 9)) (format M3; R407, R601) -/
  | ld8AM3 (qp : BitVec 6) (r1 : BitVec 7) (r3 : BitVec 7) (hint : BitVec 2) (imm9 : BitVec 9)
  /-- `ld1.sa` r1 = [r3], imm9 (= sign_ext(s<<8 | i<<7 | imm7b, 9)) (format M3; R407, R601) -/
  | ld1SaM3 (qp : BitVec 6) (r1 : BitVec 7) (r3 : BitVec 7) (hint : BitVec 2) (imm9 : BitVec 9)
  /-- `ld2.sa` r1 = [r3], imm9 (= sign_ext(s<<8 | i<<7 | imm7b, 9)) (format M3; R407, R601) -/
  | ld2SaM3 (qp : BitVec 6) (r1 : BitVec 7) (r3 : BitVec 7) (hint : BitVec 2) (imm9 : BitVec 9)
  /-- `ld4.sa` r1 = [r3], imm9 (= sign_ext(s<<8 | i<<7 | imm7b, 9)) (format M3; R407, R601) -/
  | ld4SaM3 (qp : BitVec 6) (r1 : BitVec 7) (r3 : BitVec 7) (hint : BitVec 2) (imm9 : BitVec 9)
  /-- `ld8.sa` r1 = [r3], imm9 (= sign_ext(s<<8 | i<<7 | imm7b, 9)) (format M3; R407, R601) -/
  | ld8SaM3 (qp : BitVec 6) (r1 : BitVec 7) (r3 : BitVec 7) (hint : BitVec 2) (imm9 : BitVec 9)
  /-- `ld1.bias` r1 = [r3], imm9 (= sign_ext(s<<8 | i<<7 | imm7b, 9)) (format M3; R407, R601) -/
  | ld1BiasM3 (qp : BitVec 6) (r1 : BitVec 7) (r3 : BitVec 7) (hint : BitVec 2) (imm9 : BitVec 9)
  /-- `ld2.bias` r1 = [r3], imm9 (= sign_ext(s<<8 | i<<7 | imm7b, 9)) (format M3; R407, R601) -/
  | ld2BiasM3 (qp : BitVec 6) (r1 : BitVec 7) (r3 : BitVec 7) (hint : BitVec 2) (imm9 : BitVec 9)
  /-- `ld4.bias` r1 = [r3], imm9 (= sign_ext(s<<8 | i<<7 | imm7b, 9)) (format M3; R407, R601) -/
  | ld4BiasM3 (qp : BitVec 6) (r1 : BitVec 7) (r3 : BitVec 7) (hint : BitVec 2) (imm9 : BitVec 9)
  /-- `ld8.bias` r1 = [r3], imm9 (= sign_ext(s<<8 | i<<7 | imm7b, 9)) (format M3; R407, R601) -/
  | ld8BiasM3 (qp : BitVec 6) (r1 : BitVec 7) (r3 : BitVec 7) (hint : BitVec 2) (imm9 : BitVec 9)
  /-- `ld1.acq` r1 = [r3], imm9 (= sign_ext(s<<8 | i<<7 | imm7b, 9)) (format M3; R407, R601) -/
  | ld1AcqM3 (qp : BitVec 6) (r1 : BitVec 7) (r3 : BitVec 7) (hint : BitVec 2) (imm9 : BitVec 9)
  /-- `ld2.acq` r1 = [r3], imm9 (= sign_ext(s<<8 | i<<7 | imm7b, 9)) (format M3; R407, R601) -/
  | ld2AcqM3 (qp : BitVec 6) (r1 : BitVec 7) (r3 : BitVec 7) (hint : BitVec 2) (imm9 : BitVec 9)
  /-- `ld4.acq` r1 = [r3], imm9 (= sign_ext(s<<8 | i<<7 | imm7b, 9)) (format M3; R407, R601) -/
  | ld4AcqM3 (qp : BitVec 6) (r1 : BitVec 7) (r3 : BitVec 7) (hint : BitVec 2) (imm9 : BitVec 9)
  /-- `ld8.acq` r1 = [r3], imm9 (= sign_ext(s<<8 | i<<7 | imm7b, 9)) (format M3; R407, R601) -/
  | ld8AcqM3 (qp : BitVec 6) (r1 : BitVec 7) (r3 : BitVec 7) (hint : BitVec 2) (imm9 : BitVec 9)
  /-- `ld1.c.clr` r1 = [r3], imm9 (= sign_ext(s<<8 | i<<7 | imm7b, 9)) (format M3; R407, R601) -/
  | ld1CClrM3 (qp : BitVec 6) (r1 : BitVec 7) (r3 : BitVec 7) (hint : BitVec 2) (imm9 : BitVec 9)
  /-- `ld2.c.clr` r1 = [r3], imm9 (= sign_ext(s<<8 | i<<7 | imm7b, 9)) (format M3; R407, R601) -/
  | ld2CClrM3 (qp : BitVec 6) (r1 : BitVec 7) (r3 : BitVec 7) (hint : BitVec 2) (imm9 : BitVec 9)
  /-- `ld4.c.clr` r1 = [r3], imm9 (= sign_ext(s<<8 | i<<7 | imm7b, 9)) (format M3; R407, R601) -/
  | ld4CClrM3 (qp : BitVec 6) (r1 : BitVec 7) (r3 : BitVec 7) (hint : BitVec 2) (imm9 : BitVec 9)
  /-- `ld8.c.clr` r1 = [r3], imm9 (= sign_ext(s<<8 | i<<7 | imm7b, 9)) (format M3; R407, R601) -/
  | ld8CClrM3 (qp : BitVec 6) (r1 : BitVec 7) (r3 : BitVec 7) (hint : BitVec 2) (imm9 : BitVec 9)
  /-- `ld1.c.nc` r1 = [r3], imm9 (= sign_ext(s<<8 | i<<7 | imm7b, 9)) (format M3; R407, R601) -/
  | ld1CNcM3 (qp : BitVec 6) (r1 : BitVec 7) (r3 : BitVec 7) (hint : BitVec 2) (imm9 : BitVec 9)
  /-- `ld2.c.nc` r1 = [r3], imm9 (= sign_ext(s<<8 | i<<7 | imm7b, 9)) (format M3; R407, R601) -/
  | ld2CNcM3 (qp : BitVec 6) (r1 : BitVec 7) (r3 : BitVec 7) (hint : BitVec 2) (imm9 : BitVec 9)
  /-- `ld4.c.nc` r1 = [r3], imm9 (= sign_ext(s<<8 | i<<7 | imm7b, 9)) (format M3; R407, R601) -/
  | ld4CNcM3 (qp : BitVec 6) (r1 : BitVec 7) (r3 : BitVec 7) (hint : BitVec 2) (imm9 : BitVec 9)
  /-- `ld8.c.nc` r1 = [r3], imm9 (= sign_ext(s<<8 | i<<7 | imm7b, 9)) (format M3; R407, R601) -/
  | ld8CNcM3 (qp : BitVec 6) (r1 : BitVec 7) (r3 : BitVec 7) (hint : BitVec 2) (imm9 : BitVec 9)
  /-- `ld1.c.clr.acq` r1 = [r3], imm9 (= sign_ext(s<<8 | i<<7 | imm7b, 9)) (format M3; R407, R601) -/
  | ld1CClrAcqM3 (qp : BitVec 6) (r1 : BitVec 7) (r3 : BitVec 7) (hint : BitVec 2) (imm9 : BitVec 9)
  /-- `ld2.c.clr.acq` r1 = [r3], imm9 (= sign_ext(s<<8 | i<<7 | imm7b, 9)) (format M3; R407, R601) -/
  | ld2CClrAcqM3 (qp : BitVec 6) (r1 : BitVec 7) (r3 : BitVec 7) (hint : BitVec 2) (imm9 : BitVec 9)
  /-- `ld4.c.clr.acq` r1 = [r3], imm9 (= sign_ext(s<<8 | i<<7 | imm7b, 9)) (format M3; R407, R601) -/
  | ld4CClrAcqM3 (qp : BitVec 6) (r1 : BitVec 7) (r3 : BitVec 7) (hint : BitVec 2) (imm9 : BitVec 9)
  /-- `ld8.c.clr.acq` r1 = [r3], imm9 (= sign_ext(s<<8 | i<<7 | imm7b, 9)) (format M3; R407, R601) -/
  | ld8CClrAcqM3 (qp : BitVec 6) (r1 : BitVec 7) (r3 : BitVec 7) (hint : BitVec 2) (imm9 : BitVec 9)
  /-- `ld8.fill` r1 = [r3], imm9 (= sign_ext(s<<8 | i<<7 | imm7b, 9)) (format M3; R407, R605) -/
  | ld8FillM3 (qp : BitVec 6) (r1 : BitVec 7) (r3 : BitVec 7) (hint : BitVec 2) (imm9 : BitVec 9)
  /-- `ld16` r1, ar.csd = [r3] (format M1; R405, R604) -/
  | ld16M1 (qp : BitVec 6) (r1 : BitVec 7) (r3 : BitVec 7) (hint : BitVec 2) (h : BitVec 1)
  /-- `ld16.acq` r1, ar.csd = [r3] (format M1; R405, R604) -/
  | ld16AcqM1 (qp : BitVec 6) (r1 : BitVec 7) (r3 : BitVec 7) (hint : BitVec 2) (h : BitVec 1)
  /-- `st1` [r3] = r2 (format M4; R408, R620) -/
  | st1M4 (qp : BitVec 6) (r2 : BitVec 7) (r3 : BitVec 7) (hint : BitVec 2) (h : BitVec 1)
  /-- `st2` [r3] = r2 (format M4; R408, R620) -/
  | st2M4 (qp : BitVec 6) (r2 : BitVec 7) (r3 : BitVec 7) (hint : BitVec 2) (h : BitVec 1)
  /-- `st4` [r3] = r2 (format M4; R408, R620) -/
  | st4M4 (qp : BitVec 6) (r2 : BitVec 7) (r3 : BitVec 7) (hint : BitVec 2) (h : BitVec 1)
  /-- `st8` [r3] = r2 (format M4; R408, R620) -/
  | st8M4 (qp : BitVec 6) (r2 : BitVec 7) (r3 : BitVec 7) (hint : BitVec 2) (h : BitVec 1)
  /-- `st1.rel` [r3] = r2 (format M4; R408, R620) -/
  | st1RelM4 (qp : BitVec 6) (r2 : BitVec 7) (r3 : BitVec 7) (hint : BitVec 2) (h : BitVec 1)
  /-- `st2.rel` [r3] = r2 (format M4; R408, R620) -/
  | st2RelM4 (qp : BitVec 6) (r2 : BitVec 7) (r3 : BitVec 7) (hint : BitVec 2) (h : BitVec 1)
  /-- `st4.rel` [r3] = r2 (format M4; R408, R620) -/
  | st4RelM4 (qp : BitVec 6) (r2 : BitVec 7) (r3 : BitVec 7) (hint : BitVec 2) (h : BitVec 1)
  /-- `st8.rel` [r3] = r2 (format M4; R408, R620) -/
  | st8RelM4 (qp : BitVec 6) (r2 : BitVec 7) (r3 : BitVec 7) (hint : BitVec 2) (h : BitVec 1)
  /-- `st8.spill` [r3] = r2 (format M4; R408, R622) -/
  | st8SpillM4 (qp : BitVec 6) (r2 : BitVec 7) (r3 : BitVec 7) (hint : BitVec 2) (h : BitVec 1)
  /-- `st1` [r3] = r2, imm9 (= sign_ext(s<<8 | i<<7 | imm7a, 9)) (format M5; R409, R620) -/
  | st1M5 (qp : BitVec 6) (r2 : BitVec 7) (r3 : BitVec 7) (hint : BitVec 2) (imm9 : BitVec 9)
  /-- `st2` [r3] = r2, imm9 (= sign_ext(s<<8 | i<<7 | imm7a, 9)) (format M5; R409, R620) -/
  | st2M5 (qp : BitVec 6) (r2 : BitVec 7) (r3 : BitVec 7) (hint : BitVec 2) (imm9 : BitVec 9)
  /-- `st4` [r3] = r2, imm9 (= sign_ext(s<<8 | i<<7 | imm7a, 9)) (format M5; R409, R620) -/
  | st4M5 (qp : BitVec 6) (r2 : BitVec 7) (r3 : BitVec 7) (hint : BitVec 2) (imm9 : BitVec 9)
  /-- `st8` [r3] = r2, imm9 (= sign_ext(s<<8 | i<<7 | imm7a, 9)) (format M5; R409, R620) -/
  | st8M5 (qp : BitVec 6) (r2 : BitVec 7) (r3 : BitVec 7) (hint : BitVec 2) (imm9 : BitVec 9)
  /-- `st1.rel` [r3] = r2, imm9 (= sign_ext(s<<8 | i<<7 | imm7a, 9)) (format M5; R409, R620) -/
  | st1RelM5 (qp : BitVec 6) (r2 : BitVec 7) (r3 : BitVec 7) (hint : BitVec 2) (imm9 : BitVec 9)
  /-- `st2.rel` [r3] = r2, imm9 (= sign_ext(s<<8 | i<<7 | imm7a, 9)) (format M5; R409, R620) -/
  | st2RelM5 (qp : BitVec 6) (r2 : BitVec 7) (r3 : BitVec 7) (hint : BitVec 2) (imm9 : BitVec 9)
  /-- `st4.rel` [r3] = r2, imm9 (= sign_ext(s<<8 | i<<7 | imm7a, 9)) (format M5; R409, R620) -/
  | st4RelM5 (qp : BitVec 6) (r2 : BitVec 7) (r3 : BitVec 7) (hint : BitVec 2) (imm9 : BitVec 9)
  /-- `st8.rel` [r3] = r2, imm9 (= sign_ext(s<<8 | i<<7 | imm7a, 9)) (format M5; R409, R620) -/
  | st8RelM5 (qp : BitVec 6) (r2 : BitVec 7) (r3 : BitVec 7) (hint : BitVec 2) (imm9 : BitVec 9)
  /-- `st8.spill` [r3] = r2, imm9 (= sign_ext(s<<8 | i<<7 | imm7a, 9)) (format M5; R409, R622) -/
  | st8SpillM5 (qp : BitVec 6) (r2 : BitVec 7) (r3 : BitVec 7) (hint : BitVec 2) (imm9 : BitVec 9)
  /-- `st16` [r3] = r2, ar.csd (format M4; R408, R621) -/
  | st16M4 (qp : BitVec 6) (r2 : BitVec 7) (r3 : BitVec 7) (hint : BitVec 2) (h : BitVec 1)
  /-- `st16.rel` [r3] = r2, ar.csd (format M4; R408, R621) -/
  | st16RelM4 (qp : BitVec 6) (r2 : BitVec 7) (r3 : BitVec 7) (hint : BitVec 2) (h : BitVec 1)
  /-- `ldfe` f1 = [r3] (format M6; R410, R645) -/
  | ldfeM6 (qp : BitVec 6) (f1 : BitVec 7) (r3 : BitVec 7) (hint : BitVec 2) (h : BitVec 1)
  /-- `ldf8` f1 = [r3] (format M6; R410, R645) -/
  | ldf8M6 (qp : BitVec 6) (f1 : BitVec 7) (r3 : BitVec 7) (hint : BitVec 2) (h : BitVec 1)
  /-- `ldfs` f1 = [r3] (format M6; R410, R645) -/
  | ldfsM6 (qp : BitVec 6) (f1 : BitVec 7) (r3 : BitVec 7) (hint : BitVec 2) (h : BitVec 1)
  /-- `ldfd` f1 = [r3] (format M6; R410, R645) -/
  | ldfdM6 (qp : BitVec 6) (f1 : BitVec 7) (r3 : BitVec 7) (hint : BitVec 2) (h : BitVec 1)
  /-- `ldfe.s` f1 = [r3] (format M6; R410, R645) -/
  | ldfeSM6 (qp : BitVec 6) (f1 : BitVec 7) (r3 : BitVec 7) (hint : BitVec 2) (h : BitVec 1)
  /-- `ldf8.s` f1 = [r3] (format M6; R410, R645) -/
  | ldf8SM6 (qp : BitVec 6) (f1 : BitVec 7) (r3 : BitVec 7) (hint : BitVec 2) (h : BitVec 1)
  /-- `ldfs.s` f1 = [r3] (format M6; R410, R645) -/
  | ldfsSM6 (qp : BitVec 6) (f1 : BitVec 7) (r3 : BitVec 7) (hint : BitVec 2) (h : BitVec 1)
  /-- `ldfd.s` f1 = [r3] (format M6; R410, R645) -/
  | ldfdSM6 (qp : BitVec 6) (f1 : BitVec 7) (r3 : BitVec 7) (hint : BitVec 2) (h : BitVec 1)
  /-- `ldfe.a` f1 = [r3] (format M6; R410, R645) -/
  | ldfeAM6 (qp : BitVec 6) (f1 : BitVec 7) (r3 : BitVec 7) (hint : BitVec 2) (h : BitVec 1)
  /-- `ldf8.a` f1 = [r3] (format M6; R410, R645) -/
  | ldf8AM6 (qp : BitVec 6) (f1 : BitVec 7) (r3 : BitVec 7) (hint : BitVec 2) (h : BitVec 1)
  /-- `ldfs.a` f1 = [r3] (format M6; R410, R645) -/
  | ldfsAM6 (qp : BitVec 6) (f1 : BitVec 7) (r3 : BitVec 7) (hint : BitVec 2) (h : BitVec 1)
  /-- `ldfd.a` f1 = [r3] (format M6; R410, R645) -/
  | ldfdAM6 (qp : BitVec 6) (f1 : BitVec 7) (r3 : BitVec 7) (hint : BitVec 2) (h : BitVec 1)
  /-- `ldfe.sa` f1 = [r3] (format M6; R410, R645) -/
  | ldfeSaM6 (qp : BitVec 6) (f1 : BitVec 7) (r3 : BitVec 7) (hint : BitVec 2) (h : BitVec 1)
  /-- `ldf8.sa` f1 = [r3] (format M6; R410, R645) -/
  | ldf8SaM6 (qp : BitVec 6) (f1 : BitVec 7) (r3 : BitVec 7) (hint : BitVec 2) (h : BitVec 1)
  /-- `ldfs.sa` f1 = [r3] (format M6; R410, R645) -/
  | ldfsSaM6 (qp : BitVec 6) (f1 : BitVec 7) (r3 : BitVec 7) (hint : BitVec 2) (h : BitVec 1)
  /-- `ldfd.sa` f1 = [r3] (format M6; R410, R645) -/
  | ldfdSaM6 (qp : BitVec 6) (f1 : BitVec 7) (r3 : BitVec 7) (hint : BitVec 2) (h : BitVec 1)
  /-- `ldfe.c.clr` f1 = [r3] (format M6; R410, R645) -/
  | ldfeCClrM6 (qp : BitVec 6) (f1 : BitVec 7) (r3 : BitVec 7) (hint : BitVec 2) (h : BitVec 1)
  /-- `ldf8.c.clr` f1 = [r3] (format M6; R410, R645) -/
  | ldf8CClrM6 (qp : BitVec 6) (f1 : BitVec 7) (r3 : BitVec 7) (hint : BitVec 2) (h : BitVec 1)
  /-- `ldfs.c.clr` f1 = [r3] (format M6; R410, R645) -/
  | ldfsCClrM6 (qp : BitVec 6) (f1 : BitVec 7) (r3 : BitVec 7) (hint : BitVec 2) (h : BitVec 1)
  /-- `ldfd.c.clr` f1 = [r3] (format M6; R410, R645) -/
  | ldfdCClrM6 (qp : BitVec 6) (f1 : BitVec 7) (r3 : BitVec 7) (hint : BitVec 2) (h : BitVec 1)
  /-- `ldfe.c.nc` f1 = [r3] (format M6; R410, R645) -/
  | ldfeCNcM6 (qp : BitVec 6) (f1 : BitVec 7) (r3 : BitVec 7) (hint : BitVec 2) (h : BitVec 1)
  /-- `ldf8.c.nc` f1 = [r3] (format M6; R410, R645) -/
  | ldf8CNcM6 (qp : BitVec 6) (f1 : BitVec 7) (r3 : BitVec 7) (hint : BitVec 2) (h : BitVec 1)
  /-- `ldfs.c.nc` f1 = [r3] (format M6; R410, R645) -/
  | ldfsCNcM6 (qp : BitVec 6) (f1 : BitVec 7) (r3 : BitVec 7) (hint : BitVec 2) (h : BitVec 1)
  /-- `ldfd.c.nc` f1 = [r3] (format M6; R410, R645) -/
  | ldfdCNcM6 (qp : BitVec 6) (f1 : BitVec 7) (r3 : BitVec 7) (hint : BitVec 2) (h : BitVec 1)
  /-- `ldf.fill` f1 = [r3] (format M6; R410, R645) -/
  | ldfFillM6 (qp : BitVec 6) (f1 : BitVec 7) (r3 : BitVec 7) (hint : BitVec 2) (h : BitVec 1)
  /-- `ldfe` f1 = [r3], r2 (format M7; R411, R645) -/
  | ldfeM7 (qp : BitVec 6) (f1 : BitVec 7) (r2 : BitVec 7) (r3 : BitVec 7) (hint : BitVec 2)
  /-- `ldf8` f1 = [r3], r2 (format M7; R411, R645) -/
  | ldf8M7 (qp : BitVec 6) (f1 : BitVec 7) (r2 : BitVec 7) (r3 : BitVec 7) (hint : BitVec 2)
  /-- `ldfs` f1 = [r3], r2 (format M7; R411, R645) -/
  | ldfsM7 (qp : BitVec 6) (f1 : BitVec 7) (r2 : BitVec 7) (r3 : BitVec 7) (hint : BitVec 2)
  /-- `ldfd` f1 = [r3], r2 (format M7; R411, R645) -/
  | ldfdM7 (qp : BitVec 6) (f1 : BitVec 7) (r2 : BitVec 7) (r3 : BitVec 7) (hint : BitVec 2)
  /-- `ldfe.s` f1 = [r3], r2 (format M7; R411, R645) -/
  | ldfeSM7 (qp : BitVec 6) (f1 : BitVec 7) (r2 : BitVec 7) (r3 : BitVec 7) (hint : BitVec 2)
  /-- `ldf8.s` f1 = [r3], r2 (format M7; R411, R645) -/
  | ldf8SM7 (qp : BitVec 6) (f1 : BitVec 7) (r2 : BitVec 7) (r3 : BitVec 7) (hint : BitVec 2)
  /-- `ldfs.s` f1 = [r3], r2 (format M7; R411, R645) -/
  | ldfsSM7 (qp : BitVec 6) (f1 : BitVec 7) (r2 : BitVec 7) (r3 : BitVec 7) (hint : BitVec 2)
  /-- `ldfd.s` f1 = [r3], r2 (format M7; R411, R645) -/
  | ldfdSM7 (qp : BitVec 6) (f1 : BitVec 7) (r2 : BitVec 7) (r3 : BitVec 7) (hint : BitVec 2)
  /-- `ldfe.a` f1 = [r3], r2 (format M7; R411, R645) -/
  | ldfeAM7 (qp : BitVec 6) (f1 : BitVec 7) (r2 : BitVec 7) (r3 : BitVec 7) (hint : BitVec 2)
  /-- `ldf8.a` f1 = [r3], r2 (format M7; R411, R645) -/
  | ldf8AM7 (qp : BitVec 6) (f1 : BitVec 7) (r2 : BitVec 7) (r3 : BitVec 7) (hint : BitVec 2)
  /-- `ldfs.a` f1 = [r3], r2 (format M7; R411, R645) -/
  | ldfsAM7 (qp : BitVec 6) (f1 : BitVec 7) (r2 : BitVec 7) (r3 : BitVec 7) (hint : BitVec 2)
  /-- `ldfd.a` f1 = [r3], r2 (format M7; R411, R645) -/
  | ldfdAM7 (qp : BitVec 6) (f1 : BitVec 7) (r2 : BitVec 7) (r3 : BitVec 7) (hint : BitVec 2)
  /-- `ldfe.sa` f1 = [r3], r2 (format M7; R411, R645) -/
  | ldfeSaM7 (qp : BitVec 6) (f1 : BitVec 7) (r2 : BitVec 7) (r3 : BitVec 7) (hint : BitVec 2)
  /-- `ldf8.sa` f1 = [r3], r2 (format M7; R411, R645) -/
  | ldf8SaM7 (qp : BitVec 6) (f1 : BitVec 7) (r2 : BitVec 7) (r3 : BitVec 7) (hint : BitVec 2)
  /-- `ldfs.sa` f1 = [r3], r2 (format M7; R411, R645) -/
  | ldfsSaM7 (qp : BitVec 6) (f1 : BitVec 7) (r2 : BitVec 7) (r3 : BitVec 7) (hint : BitVec 2)
  /-- `ldfd.sa` f1 = [r3], r2 (format M7; R411, R645) -/
  | ldfdSaM7 (qp : BitVec 6) (f1 : BitVec 7) (r2 : BitVec 7) (r3 : BitVec 7) (hint : BitVec 2)
  /-- `ldfe.c.clr` f1 = [r3], r2 (format M7; R411, R645) -/
  | ldfeCClrM7 (qp : BitVec 6) (f1 : BitVec 7) (r2 : BitVec 7) (r3 : BitVec 7) (hint : BitVec 2)
  /-- `ldf8.c.clr` f1 = [r3], r2 (format M7; R411, R645) -/
  | ldf8CClrM7 (qp : BitVec 6) (f1 : BitVec 7) (r2 : BitVec 7) (r3 : BitVec 7) (hint : BitVec 2)
  /-- `ldfs.c.clr` f1 = [r3], r2 (format M7; R411, R645) -/
  | ldfsCClrM7 (qp : BitVec 6) (f1 : BitVec 7) (r2 : BitVec 7) (r3 : BitVec 7) (hint : BitVec 2)
  /-- `ldfd.c.clr` f1 = [r3], r2 (format M7; R411, R645) -/
  | ldfdCClrM7 (qp : BitVec 6) (f1 : BitVec 7) (r2 : BitVec 7) (r3 : BitVec 7) (hint : BitVec 2)
  /-- `ldfe.c.nc` f1 = [r3], r2 (format M7; R411, R645) -/
  | ldfeCNcM7 (qp : BitVec 6) (f1 : BitVec 7) (r2 : BitVec 7) (r3 : BitVec 7) (hint : BitVec 2)
  /-- `ldf8.c.nc` f1 = [r3], r2 (format M7; R411, R645) -/
  | ldf8CNcM7 (qp : BitVec 6) (f1 : BitVec 7) (r2 : BitVec 7) (r3 : BitVec 7) (hint : BitVec 2)
  /-- `ldfs.c.nc` f1 = [r3], r2 (format M7; R411, R645) -/
  | ldfsCNcM7 (qp : BitVec 6) (f1 : BitVec 7) (r2 : BitVec 7) (r3 : BitVec 7) (hint : BitVec 2)
  /-- `ldfd.c.nc` f1 = [r3], r2 (format M7; R411, R645) -/
  | ldfdCNcM7 (qp : BitVec 6) (f1 : BitVec 7) (r2 : BitVec 7) (r3 : BitVec 7) (hint : BitVec 2)
  /-- `ldf.fill` f1 = [r3], r2 (format M7; R411, R645) -/
  | ldfFillM7 (qp : BitVec 6) (f1 : BitVec 7) (r2 : BitVec 7) (r3 : BitVec 7) (hint : BitVec 2)
  /-- `ldfe` f1 = [r3], imm9 (format M8; R412, R645) -/
  | ldfeM8 (qp : BitVec 6) (f1 : BitVec 7) (r3 : BitVec 7) (hint : BitVec 2) (imm9 : BitVec 9)
  /-- `ldf8` f1 = [r3], imm9 (format M8; R412, R645) -/
  | ldf8M8 (qp : BitVec 6) (f1 : BitVec 7) (r3 : BitVec 7) (hint : BitVec 2) (imm9 : BitVec 9)
  /-- `ldfs` f1 = [r3], imm9 (format M8; R412, R645) -/
  | ldfsM8 (qp : BitVec 6) (f1 : BitVec 7) (r3 : BitVec 7) (hint : BitVec 2) (imm9 : BitVec 9)
  /-- `ldfd` f1 = [r3], imm9 (format M8; R412, R645) -/
  | ldfdM8 (qp : BitVec 6) (f1 : BitVec 7) (r3 : BitVec 7) (hint : BitVec 2) (imm9 : BitVec 9)
  /-- `ldfe.s` f1 = [r3], imm9 (format M8; R412, R645) -/
  | ldfeSM8 (qp : BitVec 6) (f1 : BitVec 7) (r3 : BitVec 7) (hint : BitVec 2) (imm9 : BitVec 9)
  /-- `ldf8.s` f1 = [r3], imm9 (format M8; R412, R645) -/
  | ldf8SM8 (qp : BitVec 6) (f1 : BitVec 7) (r3 : BitVec 7) (hint : BitVec 2) (imm9 : BitVec 9)
  /-- `ldfs.s` f1 = [r3], imm9 (format M8; R412, R645) -/
  | ldfsSM8 (qp : BitVec 6) (f1 : BitVec 7) (r3 : BitVec 7) (hint : BitVec 2) (imm9 : BitVec 9)
  /-- `ldfd.s` f1 = [r3], imm9 (format M8; R412, R645) -/
  | ldfdSM8 (qp : BitVec 6) (f1 : BitVec 7) (r3 : BitVec 7) (hint : BitVec 2) (imm9 : BitVec 9)
  /-- `ldfe.a` f1 = [r3], imm9 (format M8; R412, R645) -/
  | ldfeAM8 (qp : BitVec 6) (f1 : BitVec 7) (r3 : BitVec 7) (hint : BitVec 2) (imm9 : BitVec 9)
  /-- `ldf8.a` f1 = [r3], imm9 (format M8; R412, R645) -/
  | ldf8AM8 (qp : BitVec 6) (f1 : BitVec 7) (r3 : BitVec 7) (hint : BitVec 2) (imm9 : BitVec 9)
  /-- `ldfs.a` f1 = [r3], imm9 (format M8; R412, R645) -/
  | ldfsAM8 (qp : BitVec 6) (f1 : BitVec 7) (r3 : BitVec 7) (hint : BitVec 2) (imm9 : BitVec 9)
  /-- `ldfd.a` f1 = [r3], imm9 (format M8; R412, R645) -/
  | ldfdAM8 (qp : BitVec 6) (f1 : BitVec 7) (r3 : BitVec 7) (hint : BitVec 2) (imm9 : BitVec 9)
  /-- `ldfe.sa` f1 = [r3], imm9 (format M8; R412, R645) -/
  | ldfeSaM8 (qp : BitVec 6) (f1 : BitVec 7) (r3 : BitVec 7) (hint : BitVec 2) (imm9 : BitVec 9)
  /-- `ldf8.sa` f1 = [r3], imm9 (format M8; R412, R645) -/
  | ldf8SaM8 (qp : BitVec 6) (f1 : BitVec 7) (r3 : BitVec 7) (hint : BitVec 2) (imm9 : BitVec 9)
  /-- `ldfs.sa` f1 = [r3], imm9 (format M8; R412, R645) -/
  | ldfsSaM8 (qp : BitVec 6) (f1 : BitVec 7) (r3 : BitVec 7) (hint : BitVec 2) (imm9 : BitVec 9)
  /-- `ldfd.sa` f1 = [r3], imm9 (format M8; R412, R645) -/
  | ldfdSaM8 (qp : BitVec 6) (f1 : BitVec 7) (r3 : BitVec 7) (hint : BitVec 2) (imm9 : BitVec 9)
  /-- `ldfe.c.clr` f1 = [r3], imm9 (format M8; R412, R645) -/
  | ldfeCClrM8 (qp : BitVec 6) (f1 : BitVec 7) (r3 : BitVec 7) (hint : BitVec 2) (imm9 : BitVec 9)
  /-- `ldf8.c.clr` f1 = [r3], imm9 (format M8; R412, R645) -/
  | ldf8CClrM8 (qp : BitVec 6) (f1 : BitVec 7) (r3 : BitVec 7) (hint : BitVec 2) (imm9 : BitVec 9)
  /-- `ldfs.c.clr` f1 = [r3], imm9 (format M8; R412, R645) -/
  | ldfsCClrM8 (qp : BitVec 6) (f1 : BitVec 7) (r3 : BitVec 7) (hint : BitVec 2) (imm9 : BitVec 9)
  /-- `ldfd.c.clr` f1 = [r3], imm9 (format M8; R412, R645) -/
  | ldfdCClrM8 (qp : BitVec 6) (f1 : BitVec 7) (r3 : BitVec 7) (hint : BitVec 2) (imm9 : BitVec 9)
  /-- `ldfe.c.nc` f1 = [r3], imm9 (format M8; R412, R645) -/
  | ldfeCNcM8 (qp : BitVec 6) (f1 : BitVec 7) (r3 : BitVec 7) (hint : BitVec 2) (imm9 : BitVec 9)
  /-- `ldf8.c.nc` f1 = [r3], imm9 (format M8; R412, R645) -/
  | ldf8CNcM8 (qp : BitVec 6) (f1 : BitVec 7) (r3 : BitVec 7) (hint : BitVec 2) (imm9 : BitVec 9)
  /-- `ldfs.c.nc` f1 = [r3], imm9 (format M8; R412, R645) -/
  | ldfsCNcM8 (qp : BitVec 6) (f1 : BitVec 7) (r3 : BitVec 7) (hint : BitVec 2) (imm9 : BitVec 9)
  /-- `ldfd.c.nc` f1 = [r3], imm9 (format M8; R412, R645) -/
  | ldfdCNcM8 (qp : BitVec 6) (f1 : BitVec 7) (r3 : BitVec 7) (hint : BitVec 2) (imm9 : BitVec 9)
  /-- `ldf.fill` f1 = [r3], imm9 (format M8; R412, R645) -/
  | ldfFillM8 (qp : BitVec 6) (f1 : BitVec 7) (r3 : BitVec 7) (hint : BitVec 2) (imm9 : BitVec 9)
  /-- `stfe` [r3] = f2 (format M9; R413, R647) -/
  | stfeM9 (qp : BitVec 6) (f2 : BitVec 7) (r3 : BitVec 7) (hint : BitVec 2) (h : BitVec 1)
  /-- `stf8` [r3] = f2 (format M9; R413, R647) -/
  | stf8M9 (qp : BitVec 6) (f2 : BitVec 7) (r3 : BitVec 7) (hint : BitVec 2) (h : BitVec 1)
  /-- `stfs` [r3] = f2 (format M9; R413, R647) -/
  | stfsM9 (qp : BitVec 6) (f2 : BitVec 7) (r3 : BitVec 7) (hint : BitVec 2) (h : BitVec 1)
  /-- `stfd` [r3] = f2 (format M9; R413, R647) -/
  | stfdM9 (qp : BitVec 6) (f2 : BitVec 7) (r3 : BitVec 7) (hint : BitVec 2) (h : BitVec 1)
  /-- `stf.spill` [r3] = f2 (format M9; R413, R647) -/
  | stfSpillM9 (qp : BitVec 6) (f2 : BitVec 7) (r3 : BitVec 7) (hint : BitVec 2) (h : BitVec 1)
  /-- `stfe` [r3] = f2, imm9 (format M10; R414, R647) -/
  | stfeM10 (qp : BitVec 6) (f2 : BitVec 7) (r3 : BitVec 7) (hint : BitVec 2) (imm9 : BitVec 9)
  /-- `stf8` [r3] = f2, imm9 (format M10; R414, R647) -/
  | stf8M10 (qp : BitVec 6) (f2 : BitVec 7) (r3 : BitVec 7) (hint : BitVec 2) (imm9 : BitVec 9)
  /-- `stfs` [r3] = f2, imm9 (format M10; R414, R647) -/
  | stfsM10 (qp : BitVec 6) (f2 : BitVec 7) (r3 : BitVec 7) (hint : BitVec 2) (imm9 : BitVec 9)
  /-- `stfd` [r3] = f2, imm9 (format M10; R414, R647) -/
  | stfdM10 (qp : BitVec 6) (f2 : BitVec 7) (r3 : BitVec 7) (hint : BitVec 2) (imm9 : BitVec 9)
  /-- `stf.spill` [r3] = f2, imm9 (format M10; R414, R647) -/
  | stfSpillM10 (qp : BitVec 6) (f2 : BitVec 7) (r3 : BitVec 7) (hint : BitVec 2) (imm9 : BitVec 9)
  /-- `ldfp8` f1, f2 = [r3] (format M11; R415, R646) -/
  | ldfp8M11 (qp : BitVec 6) (f1 : BitVec 7) (f2 : BitVec 7) (r3 : BitVec 7) (hint : BitVec 2)
  /-- `ldfps` f1, f2 = [r3] (format M11; R415, R646) -/
  | ldfpsM11 (qp : BitVec 6) (f1 : BitVec 7) (f2 : BitVec 7) (r3 : BitVec 7) (hint : BitVec 2)
  /-- `ldfpd` f1, f2 = [r3] (format M11; R415, R646) -/
  | ldfpdM11 (qp : BitVec 6) (f1 : BitVec 7) (f2 : BitVec 7) (r3 : BitVec 7) (hint : BitVec 2)
  /-- `ldfp8.s` f1, f2 = [r3] (format M11; R415, R646) -/
  | ldfp8SM11 (qp : BitVec 6) (f1 : BitVec 7) (f2 : BitVec 7) (r3 : BitVec 7) (hint : BitVec 2)
  /-- `ldfps.s` f1, f2 = [r3] (format M11; R415, R646) -/
  | ldfpsSM11 (qp : BitVec 6) (f1 : BitVec 7) (f2 : BitVec 7) (r3 : BitVec 7) (hint : BitVec 2)
  /-- `ldfpd.s` f1, f2 = [r3] (format M11; R415, R646) -/
  | ldfpdSM11 (qp : BitVec 6) (f1 : BitVec 7) (f2 : BitVec 7) (r3 : BitVec 7) (hint : BitVec 2)
  /-- `ldfp8.a` f1, f2 = [r3] (format M11; R415, R646) -/
  | ldfp8AM11 (qp : BitVec 6) (f1 : BitVec 7) (f2 : BitVec 7) (r3 : BitVec 7) (hint : BitVec 2)
  /-- `ldfps.a` f1, f2 = [r3] (format M11; R415, R646) -/
  | ldfpsAM11 (qp : BitVec 6) (f1 : BitVec 7) (f2 : BitVec 7) (r3 : BitVec 7) (hint : BitVec 2)
  /-- `ldfpd.a` f1, f2 = [r3] (format M11; R415, R646) -/
  | ldfpdAM11 (qp : BitVec 6) (f1 : BitVec 7) (f2 : BitVec 7) (r3 : BitVec 7) (hint : BitVec 2)
  /-- `ldfp8.sa` f1, f2 = [r3] (format M11; R415, R646) -/
  | ldfp8SaM11 (qp : BitVec 6) (f1 : BitVec 7) (f2 : BitVec 7) (r3 : BitVec 7) (hint : BitVec 2)
  /-- `ldfps.sa` f1, f2 = [r3] (format M11; R415, R646) -/
  | ldfpsSaM11 (qp : BitVec 6) (f1 : BitVec 7) (f2 : BitVec 7) (r3 : BitVec 7) (hint : BitVec 2)
  /-- `ldfpd.sa` f1, f2 = [r3] (format M11; R415, R646) -/
  | ldfpdSaM11 (qp : BitVec 6) (f1 : BitVec 7) (f2 : BitVec 7) (r3 : BitVec 7) (hint : BitVec 2)
  /-- `ldfp8.c.clr` f1, f2 = [r3] (format M11; R415, R646) -/
  | ldfp8CClrM11 (qp : BitVec 6) (f1 : BitVec 7) (f2 : BitVec 7) (r3 : BitVec 7) (hint : BitVec 2)
  /-- `ldfps.c.clr` f1, f2 = [r3] (format M11; R415, R646) -/
  | ldfpsCClrM11 (qp : BitVec 6) (f1 : BitVec 7) (f2 : BitVec 7) (r3 : BitVec 7) (hint : BitVec 2)
  /-- `ldfpd.c.clr` f1, f2 = [r3] (format M11; R415, R646) -/
  | ldfpdCClrM11 (qp : BitVec 6) (f1 : BitVec 7) (f2 : BitVec 7) (r3 : BitVec 7) (hint : BitVec 2)
  /-- `ldfp8.c.nc` f1, f2 = [r3] (format M11; R415, R646) -/
  | ldfp8CNcM11 (qp : BitVec 6) (f1 : BitVec 7) (f2 : BitVec 7) (r3 : BitVec 7) (hint : BitVec 2)
  /-- `ldfps.c.nc` f1, f2 = [r3] (format M11; R415, R646) -/
  | ldfpsCNcM11 (qp : BitVec 6) (f1 : BitVec 7) (f2 : BitVec 7) (r3 : BitVec 7) (hint : BitVec 2)
  /-- `ldfpd.c.nc` f1, f2 = [r3] (format M11; R415, R646) -/
  | ldfpdCNcM11 (qp : BitVec 6) (f1 : BitVec 7) (f2 : BitVec 7) (r3 : BitVec 7) (hint : BitVec 2)
  /-- `ldfp8` f1, f2 = [r3], 16 (format M12; R416, R646) -/
  | ldfp8M12 (qp : BitVec 6) (f1 : BitVec 7) (f2 : BitVec 7) (r3 : BitVec 7) (hint : BitVec 2)
  /-- `ldfps` f1, f2 = [r3], 8 (format M12; R416, R646) -/
  | ldfpsM12 (qp : BitVec 6) (f1 : BitVec 7) (f2 : BitVec 7) (r3 : BitVec 7) (hint : BitVec 2)
  /-- `ldfpd` f1, f2 = [r3], 16 (format M12; R416, R646) -/
  | ldfpdM12 (qp : BitVec 6) (f1 : BitVec 7) (f2 : BitVec 7) (r3 : BitVec 7) (hint : BitVec 2)
  /-- `ldfp8.s` f1, f2 = [r3], 16 (format M12; R416, R646) -/
  | ldfp8SM12 (qp : BitVec 6) (f1 : BitVec 7) (f2 : BitVec 7) (r3 : BitVec 7) (hint : BitVec 2)
  /-- `ldfps.s` f1, f2 = [r3], 8 (format M12; R416, R646) -/
  | ldfpsSM12 (qp : BitVec 6) (f1 : BitVec 7) (f2 : BitVec 7) (r3 : BitVec 7) (hint : BitVec 2)
  /-- `ldfpd.s` f1, f2 = [r3], 16 (format M12; R416, R646) -/
  | ldfpdSM12 (qp : BitVec 6) (f1 : BitVec 7) (f2 : BitVec 7) (r3 : BitVec 7) (hint : BitVec 2)
  /-- `ldfp8.a` f1, f2 = [r3], 16 (format M12; R416, R646) -/
  | ldfp8AM12 (qp : BitVec 6) (f1 : BitVec 7) (f2 : BitVec 7) (r3 : BitVec 7) (hint : BitVec 2)
  /-- `ldfps.a` f1, f2 = [r3], 8 (format M12; R416, R646) -/
  | ldfpsAM12 (qp : BitVec 6) (f1 : BitVec 7) (f2 : BitVec 7) (r3 : BitVec 7) (hint : BitVec 2)
  /-- `ldfpd.a` f1, f2 = [r3], 16 (format M12; R416, R646) -/
  | ldfpdAM12 (qp : BitVec 6) (f1 : BitVec 7) (f2 : BitVec 7) (r3 : BitVec 7) (hint : BitVec 2)
  /-- `ldfp8.sa` f1, f2 = [r3], 16 (format M12; R416, R646) -/
  | ldfp8SaM12 (qp : BitVec 6) (f1 : BitVec 7) (f2 : BitVec 7) (r3 : BitVec 7) (hint : BitVec 2)
  /-- `ldfps.sa` f1, f2 = [r3], 8 (format M12; R416, R646) -/
  | ldfpsSaM12 (qp : BitVec 6) (f1 : BitVec 7) (f2 : BitVec 7) (r3 : BitVec 7) (hint : BitVec 2)
  /-- `ldfpd.sa` f1, f2 = [r3], 16 (format M12; R416, R646) -/
  | ldfpdSaM12 (qp : BitVec 6) (f1 : BitVec 7) (f2 : BitVec 7) (r3 : BitVec 7) (hint : BitVec 2)
  /-- `ldfp8.c.clr` f1, f2 = [r3], 16 (format M12; R416, R646) -/
  | ldfp8CClrM12 (qp : BitVec 6) (f1 : BitVec 7) (f2 : BitVec 7) (r3 : BitVec 7) (hint : BitVec 2)
  /-- `ldfps.c.clr` f1, f2 = [r3], 8 (format M12; R416, R646) -/
  | ldfpsCClrM12 (qp : BitVec 6) (f1 : BitVec 7) (f2 : BitVec 7) (r3 : BitVec 7) (hint : BitVec 2)
  /-- `ldfpd.c.clr` f1, f2 = [r3], 16 (format M12; R416, R646) -/
  | ldfpdCClrM12 (qp : BitVec 6) (f1 : BitVec 7) (f2 : BitVec 7) (r3 : BitVec 7) (hint : BitVec 2)
  /-- `ldfp8.c.nc` f1, f2 = [r3], 16 (format M12; R416, R646) -/
  | ldfp8CNcM12 (qp : BitVec 6) (f1 : BitVec 7) (f2 : BitVec 7) (r3 : BitVec 7) (hint : BitVec 2)
  /-- `ldfps.c.nc` f1, f2 = [r3], 8 (format M12; R416, R646) -/
  | ldfpsCNcM12 (qp : BitVec 6) (f1 : BitVec 7) (f2 : BitVec 7) (r3 : BitVec 7) (hint : BitVec 2)
  /-- `ldfpd.c.nc` f1, f2 = [r3], 16 (format M12; R416, R646) -/
  | ldfpdCNcM12 (qp : BitVec 6) (f1 : BitVec 7) (f2 : BitVec 7) (r3 : BitVec 7) (hint : BitVec 2)
  /-- `lfetch.excl` [r3] (format M13; R417, R625) -/
  | lfetchExclM13 (qp : BitVec 6) (r3 : BitVec 7) (hint : BitVec 2) (h : BitVec 1)
  /-- `lfetch.fault` [r3] (format M13; R417, R627) -/
  | lfetchFaultM13 (qp : BitVec 6) (r3 : BitVec 7) (hint : BitVec 2) (h : BitVec 1)
  /-- `lfetch.fault.excl` [r3] (format M13; R417, R627) -/
  | lfetchFaultExclM13 (qp : BitVec 6) (r3 : BitVec 7) (hint : BitVec 2) (h : BitVec 1)
  /-- `lfetch` [r3] (format M51; R456, R625) -/
  | lfetchM51 (qp : BitVec 6) (r3 : BitVec 7) (hint : BitVec 2) (h : BitVec 1)
  /-- `lfetch.count` [r3], cnt6, stride5 (cnt6 = cnt6a + 1; stride5 = sign_ext(stride5b, 5) << 6) (format M52; R457, R626) -/
  | lfetchCountM52 (qp : BitVec 6) (r3 : BitVec 7) (hint : BitVec 2) (stride5b : BitVec 5) (h : BitVec 1) (cnt6a : BitVec 6)
  /-- `lfetch` [r3], r2 (format M14; R418, R625) -/
  | lfetchM14 (qp : BitVec 6) (r2 : BitVec 7) (r3 : BitVec 7) (hint : BitVec 2) (h : BitVec 1)
  /-- `lfetch.excl` [r3], r2 (format M14; R418, R625) -/
  | lfetchExclM14 (qp : BitVec 6) (r2 : BitVec 7) (r3 : BitVec 7) (hint : BitVec 2) (h : BitVec 1)
  /-- `lfetch.fault` [r3], r2 (format M14; R418, R627) -/
  | lfetchFaultM14 (qp : BitVec 6) (r2 : BitVec 7) (r3 : BitVec 7) (hint : BitVec 2) (h : BitVec 1)
  /-- `lfetch.fault.excl` [r3], r2 (format M14; R418, R627) -/
  | lfetchFaultExclM14 (qp : BitVec 6) (r2 : BitVec 7) (r3 : BitVec 7) (hint : BitVec 2) (h : BitVec 1)
  /-- `lfetch` [r3], imm9 (format M15; R419, R625) -/
  | lfetchM15 (qp : BitVec 6) (r3 : BitVec 7) (hint : BitVec 2) (h : BitVec 1) (imm9 : BitVec 9)
  /-- `lfetch.excl` [r3], imm9 (format M15; R419, R625) -/
  | lfetchExclM15 (qp : BitVec 6) (r3 : BitVec 7) (hint : BitVec 2) (h : BitVec 1) (imm9 : BitVec 9)
  /-- `lfetch.fault` [r3], imm9 (format M15; R419, R627) -/
  | lfetchFaultM15 (qp : BitVec 6) (r3 : BitVec 7) (hint : BitVec 2) (h : BitVec 1) (imm9 : BitVec 9)
  /-- `lfetch.fault.excl` [r3], imm9 (format M15; R419, R627) -/
  | lfetchFaultExclM15 (qp : BitVec 6) (r3 : BitVec 7) (hint : BitVec 2) (h : BitVec 1) (imm9 : BitVec 9)
  /-- `cmpxchg1.acq` r1 = [r3], r2, ar.ccv (format M16; R420, R632) -/
  | cmpxchg1AcqM16 (qp : BitVec 6) (r1 : BitVec 7) (r2 : BitVec 7) (r3 : BitVec 7) (hint : BitVec 2)
  /-- `cmpxchg1.rel` r1 = [r3], r2, ar.ccv (format M16; R420, R632) -/
  | cmpxchg1RelM16 (qp : BitVec 6) (r1 : BitVec 7) (r2 : BitVec 7) (r3 : BitVec 7) (hint : BitVec 2)
  /-- `xchg1` r1 = [r3], r2 (format M16; R420, R631) -/
  | xchg1M16 (qp : BitVec 6) (r1 : BitVec 7) (r2 : BitVec 7) (r3 : BitVec 7) (hint : BitVec 2)
  /-- `cmpxchg2.acq` r1 = [r3], r2, ar.ccv (format M16; R420, R632) -/
  | cmpxchg2AcqM16 (qp : BitVec 6) (r1 : BitVec 7) (r2 : BitVec 7) (r3 : BitVec 7) (hint : BitVec 2)
  /-- `cmpxchg2.rel` r1 = [r3], r2, ar.ccv (format M16; R420, R632) -/
  | cmpxchg2RelM16 (qp : BitVec 6) (r1 : BitVec 7) (r2 : BitVec 7) (r3 : BitVec 7) (hint : BitVec 2)
  /-- `xchg2` r1 = [r3], r2 (format M16; R420, R631) -/
  | xchg2M16 (qp : BitVec 6) (r1 : BitVec 7) (r2 : BitVec 7) (r3 : BitVec 7) (hint : BitVec 2)
  /-- `cmpxchg4.acq` r1 = [r3], r2, ar.ccv (format M16; R420, R632) -/
  | cmpxchg4AcqM16 (qp : BitVec 6) (r1 : BitVec 7) (r2 : BitVec 7) (r3 : BitVec 7) (hint : BitVec 2)
  /-- `cmpxchg4.rel` r1 = [r3], r2, ar.ccv (format M16; R420, R632) -/
  | cmpxchg4RelM16 (qp : BitVec 6) (r1 : BitVec 7) (r2 : BitVec 7) (r3 : BitVec 7) (hint : BitVec 2)
  /-- `xchg4` r1 = [r3], r2 (format M16; R420, R631) -/
  | xchg4M16 (qp : BitVec 6) (r1 : BitVec 7) (r2 : BitVec 7) (r3 : BitVec 7) (hint : BitVec 2)
  /-- `cmpxchg8.acq` r1 = [r3], r2, ar.ccv (format M16; R420, R632) -/
  | cmpxchg8AcqM16 (qp : BitVec 6) (r1 : BitVec 7) (r2 : BitVec 7) (r3 : BitVec 7) (hint : BitVec 2)
  /-- `cmpxchg8.rel` r1 = [r3], r2, ar.ccv (format M16; R420, R632) -/
  | cmpxchg8RelM16 (qp : BitVec 6) (r1 : BitVec 7) (r2 : BitVec 7) (r3 : BitVec 7) (hint : BitVec 2)
  /-- `xchg8` r1 = [r3], r2 (format M16; R420, R631) -/
  | xchg8M16 (qp : BitVec 6) (r1 : BitVec 7) (r2 : BitVec 7) (r3 : BitVec 7) (hint : BitVec 2)
  /-- `cmp8xchg16.acq` r1 = [r3], r2, ar.csd, ar.ccv (format M16; R420, R635) -/
  | cmp8xchg16AcqM16 (qp : BitVec 6) (r1 : BitVec 7) (r2 : BitVec 7) (r3 : BitVec 7) (hint : BitVec 2)
  /-- `cmp8xchg16.rel` r1 = [r3], r2, ar.csd, ar.ccv (format M16; R420, R635) -/
  | cmp8xchg16RelM16 (qp : BitVec 6) (r1 : BitVec 7) (r2 : BitVec 7) (r3 : BitVec 7) (hint : BitVec 2)
  /-- `fetchadd4.acq` r1 = [r3], inc3 (i2b 0,1,2,3 = 16,8,4,1; s = sign) (format M17; R421, R636) -/
  | fetchadd4AcqM17 (qp : BitVec 6) (r1 : BitVec 7) (r3 : BitVec 7) (hint : BitVec 2) (inc3 : BitVec 3)
  /-- `fetchadd8.acq` r1 = [r3], inc3 (i2b 0,1,2,3 = 16,8,4,1; s = sign) (format M17; R421, R636) -/
  | fetchadd8AcqM17 (qp : BitVec 6) (r1 : BitVec 7) (r3 : BitVec 7) (hint : BitVec 2) (inc3 : BitVec 3)
  /-- `fetchadd4.rel` r1 = [r3], inc3 (i2b 0,1,2,3 = 16,8,4,1; s = sign) (format M17; R421, R636) -/
  | fetchadd4RelM17 (qp : BitVec 6) (r1 : BitVec 7) (r3 : BitVec 7) (hint : BitVec 2) (inc3 : BitVec 3)
  /-- `fetchadd8.rel` r1 = [r3], inc3 (i2b 0,1,2,3 = 16,8,4,1; s = sign) (format M17; R421, R636) -/
  | fetchadd8RelM17 (qp : BitVec 6) (r1 : BitVec 7) (r3 : BitVec 7) (hint : BitVec 2) (inc3 : BitVec 3)
  /-- `setf.sig` f1 = r2 (format M18; R422, R962) -/
  | setfSigM18 (qp : BitVec 6) (f1 : BitVec 7) (r2 : BitVec 7)
  /-- `getf.sig` r1 = f2 (format M19; R423, R963) -/
  | getfSigM19 (qp : BitVec 6) (r1 : BitVec 7) (f2 : BitVec 7)
  /-- `setf.exp` f1 = r2 (format M18; R422, R962) -/
  | setfExpM18 (qp : BitVec 6) (f1 : BitVec 7) (r2 : BitVec 7)
  /-- `getf.exp` r1 = f2 (format M19; R423, R963) -/
  | getfExpM19 (qp : BitVec 6) (r1 : BitVec 7) (f2 : BitVec 7)
  /-- `setf.s` f1 = r2 (format M18; R422, R962) -/
  | setfSM18 (qp : BitVec 6) (f1 : BitVec 7) (r2 : BitVec 7)
  /-- `getf.s` r1 = f2 (format M19; R423, R963) -/
  | getfSM19 (qp : BitVec 6) (r1 : BitVec 7) (f2 : BitVec 7)
  /-- `setf.d` f1 = r2 (format M18; R422, R962) -/
  | setfDM18 (qp : BitVec 6) (f1 : BitVec 7) (r2 : BitVec 7)
  /-- `getf.d` r1 = f2 (format M19; R423, R963) -/
  | getfDM19 (qp : BitVec 6) (r1 : BitVec 7) (f2 : BitVec 7)
  /-- `chk.s.m` r2, target25 (format M20; R424, R655) -/
  | chkSMM20 (qp : BitVec 6) (r2 : BitVec 7) (disp21 : BitVec 21)
  /-- `chk.s` f2, target25 (format M21; R425, R655) -/
  | chkSM21 (qp : BitVec 6) (f2 : BitVec 7) (disp21 : BitVec 21)
  /-- `chk.a.nc` r1, target25 (format M22; R426, R656) -/
  | chkANcM22 (qp : BitVec 6) (r1 : BitVec 7) (disp21 : BitVec 21)
  /-- `chk.a.clr` r1, target25 (format M22; R426, R656) -/
  | chkAClrM22 (qp : BitVec 6) (r1 : BitVec 7) (disp21 : BitVec 21)
  /-- `chk.a.nc` f1, target25 (format M23; R427, R656) -/
  | chkANcM23 (qp : BitVec 6) (f1 : BitVec 7) (disp21 : BitVec 21)
  /-- `chk.a.clr` f1, target25 (format M23; R427, R656) -/
  | chkAClrM23 (qp : BitVec 6) (f1 : BitVec 7) (disp21 : BitVec 21)
  /-- `invala` (format M24; R428, R657) -/
  | invalaM24 (qp : BitVec 6)
  /-- `fwb` (format M24; R428, R689) -/
  | fwbM24 (qp : BitVec 6)
  /-- `mf` (format M24; R428, R688) -/
  | mfM24 (qp : BitVec 6)
  /-- `mf.a` (format M24; R428, R688) -/
  | mfAM24 (qp : BitVec 6)
  /-- `srlz.d` (format M24; R428, R686) -/
  | srlzDM24 (qp : BitVec 6)
  /-- `srlz.i` (format M24; R428, R686) -/
  | srlzIM24 (qp : BitVec 6)
  /-- `sync.i` (format M24; R428, R687) -/
  | syncIM24 (qp : BitVec 6)
  /-- `flushrs` (format M25; R429, R705) -/
  | flushrsM25 
  /-- `loadrs` (format M25; R429, R706) -/
  | loadrsM25 
  /-- `invala.e` r1 (format M26; R430, R658) -/
  | invalaEM26 (qp : BitVec 6) (r1 : BitVec 7)
  /-- `invala.e` f1 (format M27; R431, R658) -/
  | invalaEM27 (qp : BitVec 6) (f1 : BitVec 7)
  /-- `fc` r3 (format M28; R432, R720) -/
  | fcM28 (qp : BitVec 6) (r3 : BitVec 7)
  /-- `fc.i` r3 (format M28; R432, R721) -/
  | fcIM28 (qp : BitVec 6) (r3 : BitVec 7)
  /-- `mov.m` ar3 = r2 (format M29; R434, R680) -/
  | movMToArM29 (qp : BitVec 6) (r2 : BitVec 7) (ar3 : BitVec 7)
  /-- `mov.m` ar3 = imm8 (format M30; R433, R680) -/
  | movMToArImmM30 (qp : BitVec 6) (ar3 : BitVec 7) (imm8 : BitVec 8)
  /-- `mov.m` r1 = ar3 (format M31; R435, R680) -/
  | movMFromArM31 (qp : BitVec 6) (r1 : BitVec 7) (ar3 : BitVec 7)
  /-- `mov` cr3 = r2 (format M32; R436, R681) -/
  | movToCrM32 (qp : BitVec 6) (r2 : BitVec 7) (cr3 : BitVec 7)
  /-- `mov` r1 = cr3 (format M33; R437, R681) -/
  | movFromCrM33 (qp : BitVec 6) (r1 : BitVec 7) (cr3 : BitVec 7)
  /-- `alloc` r1 = ar.pfs, i, l, o, r (sof = i+l+o; sol = i+l; sor = r>>3) (format M34; R443, R829) -/
  | allocM34 (qp : BitVec 6) (r1 : BitVec 7) (sor : BitVec 4) (sol : BitVec 7) (sof : BitVec 7)
  /-- `mov` psr.l = r2 (format M35; R438, R682) -/
  | movToPsrLM35 (qp : BitVec 6) (r2 : BitVec 7)
  /-- `mov` psr.um = r2 (format M35; R438, R683) -/
  | movToPsrUmM35 (qp : BitVec 6) (r2 : BitVec 7)
  /-- `mov` r1 = psr (format M36; R439, R682) -/
  | movFromPsrM36 (qp : BitVec 6) (r1 : BitVec 7)
  /-- `mov` r1 = psr.um (format M36; R439, R683) -/
  | movFromPsrUmM36 (qp : BitVec 6) (r1 : BitVec 7)
  /-- `break.m` imm21 (format M37; R441, R674) -/
  | breakMM37 (qp : BitVec 6) (imm21 : BitVec 21)
  /-- `probe.r` r1 = r3, r2 (format M38; R442, R695) -/
  | probeRM38 (qp : BitVec 6) (r1 : BitVec 7) (r2 : BitVec 7) (r3 : BitVec 7)
  /-- `probe.w` r1 = r3, r2 (format M38; R442, R695) -/
  | probeWM38 (qp : BitVec 6) (r1 : BitVec 7) (r2 : BitVec 7) (r3 : BitVec 7)
  /-- `probe.r` r1 = r3, imm2 (format M39; R444, R695) -/
  | probeRM39 (qp : BitVec 6) (r1 : BitVec 7) (r3 : BitVec 7) (i2b : BitVec 2)
  /-- `probe.w` r1 = r3, imm2 (format M39; R444, R695) -/
  | probeWM39 (qp : BitVec 6) (r1 : BitVec 7) (r3 : BitVec 7) (i2b : BitVec 2)
  /-- `probe.rw.fault` r3, imm2 (format M40; R445, R696) -/
  | probeRwFaultM40 (qp : BitVec 6) (r3 : BitVec 7) (i2b : BitVec 2)
  /-- `probe.r.fault` r3, imm2 (format M40; R445, R696) -/
  | probeRFaultM40 (qp : BitVec 6) (r3 : BitVec 7) (i2b : BitVec 2)
  /-- `probe.w.fault` r3, imm2 (format M40; R445, R696) -/
  | probeWFaultM40 (qp : BitVec 6) (r3 : BitVec 7) (i2b : BitVec 2)
  /-- `itc.d` r2 (format M41; R447, R676) -/
  | itcDM41 (qp : BitVec 6) (r2 : BitVec 7)
  /-- `itc.i` r2 (format M41; R447, R676) -/
  | itcIM41 (qp : BitVec 6) (r2 : BitVec 7)
  /-- `mov` rr[r3] = r2 (format M42; R448, R691) -/
  | movToRrM42 (qp : BitVec 6) (r2 : BitVec 7) (r3 : BitVec 7)
  /-- `mov` dbr[r3] = r2 (format M42; R448, R691) -/
  | movToDbrM42 (qp : BitVec 6) (r2 : BitVec 7) (r3 : BitVec 7)
  /-- `mov` ibr[r3] = r2 (format M42; R448, R691) -/
  | movToIbrM42 (qp : BitVec 6) (r2 : BitVec 7) (r3 : BitVec 7)
  /-- `mov` pkr[r3] = r2 (format M42; R448, R691) -/
  | movToPkrM42 (qp : BitVec 6) (r2 : BitVec 7) (r3 : BitVec 7)
  /-- `mov` pmc[r3] = r2 (format M42; R448, R691) -/
  | movToPmcM42 (qp : BitVec 6) (r2 : BitVec 7) (r3 : BitVec 7)
  /-- `mov` pmd[r3] = r2 (format M42; R448, R691) -/
  | movToPmdM42 (qp : BitVec 6) (r2 : BitVec 7) (r3 : BitVec 7)
  /-- `itr.d` dtr[r3] = r2 (format M42; R448, R677) -/
  | itrDM42 (qp : BitVec 6) (r2 : BitVec 7) (r3 : BitVec 7)
  /-- `itr.i` itr[r3] = r2 (format M42; R448, R677) -/
  | itrIM42 (qp : BitVec 6) (r2 : BitVec 7) (r3 : BitVec 7)
  /-- `mov` r1 = rr[r3] (format M43; R449, R690) -/
  | movFromRrM43 (qp : BitVec 6) (r1 : BitVec 7) (r3 : BitVec 7)
  /-- `mov` r1 = dbr[r3] (format M43; R449, R690) -/
  | movFromDbrM43 (qp : BitVec 6) (r1 : BitVec 7) (r3 : BitVec 7)
  /-- `mov` r1 = ibr[r3] (format M43; R449, R690) -/
  | movFromIbrM43 (qp : BitVec 6) (r1 : BitVec 7) (r3 : BitVec 7)
  /-- `mov` r1 = pkr[r3] (format M43; R449, R690) -/
  | movFromPkrM43 (qp : BitVec 6) (r1 : BitVec 7) (r3 : BitVec 7)
  /-- `mov` r1 = pmc[r3] (format M43; R449, R690) -/
  | movFromPmcM43 (qp : BitVec 6) (r1 : BitVec 7) (r3 : BitVec 7)
  /-- `mov` r1 = pmd[r3] (format M43; R449, R690) -/
  | movFromPmdM43 (qp : BitVec 6) (r1 : BitVec 7) (r3 : BitVec 7)
  /-- `mov` r1 = cpuid[r3] (format M43; R449, R693) -/
  | movFromCpuidM43 (qp : BitVec 6) (r1 : BitVec 7) (r3 : BitVec 7)
  /-- `mov` r1 = dahr[r3] (format M43; R449, R690) -/
  | movFromDahrM43 (qp : BitVec 6) (r1 : BitVec 7) (r3 : BitVec 7)
  /-- `sum` imm24 (= i<<23 | i2d<<21 | imm21a) (format M44; R450, R684) -/
  | sumM44 (qp : BitVec 6) (imm24 : BitVec 24)
  /-- `rum` imm24 (= i<<23 | i2d<<21 | imm21a) (format M44; R450, R684) -/
  | rumM44 (qp : BitVec 6) (imm24 : BitVec 24)
  /-- `ssm` imm24 (= i<<23 | i2d<<21 | imm21a) (format M44; R450, R685) -/
  | ssmM44 (qp : BitVec 6) (imm24 : BitVec 24)
  /-- `rsm` imm24 (= i<<23 | i2d<<21 | imm21a) (format M44; R450, R685) -/
  | rsmM44 (qp : BitVec 6) (imm24 : BitVec 24)
  /-- `ptc.l` r3, r2 (format M45; R451, R710) -/
  | ptcLM45 (qp : BitVec 6) (r2 : BitVec 7) (r3 : BitVec 7)
  /-- `ptc.g` r3, r2 (format M45; R451, R711) -/
  | ptcGM45 (qp : BitVec 6) (r2 : BitVec 7) (r3 : BitVec 7)
  /-- `ptc.ga` r3, r2 (format M45; R451, R712) -/
  | ptcGaM45 (qp : BitVec 6) (r2 : BitVec 7) (r3 : BitVec 7)
  /-- `ptr.d` r3, r2 (format M45; R451, R714) -/
  | ptrDM45 (qp : BitVec 6) (r2 : BitVec 7) (r3 : BitVec 7)
  /-- `ptr.i` r3, r2 (format M45; R451, R715) -/
  | ptrIM45 (qp : BitVec 6) (r2 : BitVec 7) (r3 : BitVec 7)
  /-- `thash` r1 = r3 (format M46; R452, R699) -/
  | thashM46 (qp : BitVec 6) (r1 : BitVec 7) (r3 : BitVec 7)
  /-- `ttag` r1 = r3 (format M46; R452, R699) -/
  | ttagM46 (qp : BitVec 6) (r1 : BitVec 7) (r3 : BitVec 7)
  /-- `tpa` r1 = r3 (format M46; R452, R697) -/
  | tpaM46 (qp : BitVec 6) (r1 : BitVec 7) (r3 : BitVec 7)
  /-- `tak` r1 = r3 (format M46; R452, R698) -/
  | takM46 (qp : BitVec 6) (r1 : BitVec 7) (r3 : BitVec 7)
  /-- `ptc.e` r3 (format M47; R453, R713) -/
  | ptcEM47 (qp : BitVec 6) (r3 : BitVec 7)
  /-- `nop.m` imm21 (= i<<20 | imm20a) (format M48; R446, R673) -/
  | nopMM48 (qp : BitVec 6) (imm21 : BitVec 21)
  /-- `hint.m` imm19 (= i<<18 | imm14b<<4 | imm4a) (format M49; R454, R672) -/
  | hintMM49 (qp : BitVec 6) (imm19 : BitVec 19)
  /-- `mov` dahr3 = imm16 (= i<<15 | imm11b<<4 | imm4a) (format M50; R455, R670) -/
  | movToDahrImmM50 (qp : BitVec 6) (dahr3 : BitVec 3) (imm16 : BitVec 16)
  /-- `br.cond` target25 (= IP + sign_ext(s<<20 | imm20b, 21) << 4) (format B1; R487, R551) -/
  | brCondB1 (qp : BitVec 6) (d : BitVec 1) (wh : BitVec 2) (p : BitVec 1) (disp21 : BitVec 21)
  /-- `br.wexit` target25 (format B1; R487, R554) -/
  | brWexitB1 (qp : BitVec 6) (d : BitVec 1) (wh : BitVec 2) (p : BitVec 1) (disp21 : BitVec 21)
  /-- `br.wtop` target25 (format B1; R487, R554) -/
  | brWtopB1 (qp : BitVec 6) (d : BitVec 1) (wh : BitVec 2) (p : BitVec 1) (disp21 : BitVec 21)
  /-- `br.cloop` target25 (format B2; R488, R555) -/
  | brCloopB2 (d : BitVec 1) (wh : BitVec 2) (p : BitVec 1) (disp21 : BitVec 21)
  /-- `br.cexit` target25 (format B2; R488, R553) -/
  | brCexitB2 (d : BitVec 1) (wh : BitVec 2) (p : BitVec 1) (disp21 : BitVec 21)
  /-- `br.ctop` target25 (format B2; R488, R553) -/
  | brCtopB2 (d : BitVec 1) (wh : BitVec 2) (p : BitVec 1) (disp21 : BitVec 21)
  /-- `br.call` b1 = target25 (format B3; R489, R552) -/
  | brCallB3 (qp : BitVec 6) (b1 : BitVec 3) (d : BitVec 1) (wh : BitVec 2) (p : BitVec 1) (disp21 : BitVec 21)
  /-- `br.cond` b2 (format B4; R490, R551) -/
  | brCondB4 (qp : BitVec 6) (b2 : BitVec 3) (d : BitVec 1) (wh : BitVec 2) (p : BitVec 1)
  /-- `br.ia` b2 (format B4; R490, R556) -/
  | brIaB4 (qp : BitVec 6) (b2 : BitVec 3) (d : BitVec 1) (wh : BitVec 2) (p : BitVec 1)
  /-- `br.ret` b2 (format B4; R490, R558) -/
  | brRetB4 (qp : BitVec 6) (b2 : BitVec 3) (d : BitVec 1) (wh : BitVec 2) (p : BitVec 1)
  /-- `br.call` b1 = b2 (format B5; R491, R552) -/
  | brCallB5 (qp : BitVec 6) (b1 : BitVec 3) (b2 : BitVec 3) (d : BitVec 1) (wh : BitVec 3) (p : BitVec 1)
  /-- `brp` target25, tag13 (format B6; R492, R562) -/
  | brpB6 (ih : BitVec 1) (p : BitVec 1) (wh : BitVec 2) (pbtv : BitVec 3) (disp21 : BitVec 21) (tag9 : BitVec 9)
  /-- `brp` b2, tag13 (format B7; R493, R562) -/
  | brpB7 (b2 : BitVec 3) (ih : BitVec 1) (p : BitVec 1) (wh : BitVec 2) (pbtv : BitVec 3) (tag9 : BitVec 9)
  /-- `brp.ret` b2, tag13 (format B7; R493, R562) -/
  | brpRetB7 (b2 : BitVec 3) (ih : BitVec 1) (p : BitVec 1) (wh : BitVec 2) (pbtv : BitVec 3) (tag9 : BitVec 9)
  /-- `cover` (format B8; R494, R564) -/
  | coverB8 
  /-- `clrrrb` (format B8; R494, R565) -/
  | clrrrbB8 
  /-- `clrrrb.pr` (format B8; R494, R565) -/
  | clrrrbPrB8 
  /-- `rfi` (format B8; R494, R566) -/
  | rfiB8 
  /-- `bsw.0` (format B8; R494, R567) -/
  | bsw0B8 
  /-- `bsw.1` (format B8; R494, R567) -/
  | bsw1B8 
  /-- `epc` (format B8; R494, R568) -/
  | epcB8 
  /-- `vmsw.0` (format B8; R494, R569) -/
  | vmsw0B8 
  /-- `vmsw.1` (format B8; R494, R569) -/
  | vmsw1B8 
  /-- `break.b` imm21 (format B9; R496, R563) -/
  | breakBB9 (qp : BitVec 6) (imm21 : BitVec 21)
  /-- `nop.b` imm21 (format B9; R496, R570) -/
  | nopBB9 (qp : BitVec 6) (imm21 : BitVec 21)
  /-- `hint.b` imm21 (format B9; R496, R571) -/
  | hintBB9 (qp : BitVec 6) (imm21 : BitVec 21)
  /-- `fma` f1 = f3, f4, f2 (.sf in bits 35:34) (format F1; R505, R930) -/
  | fmaF1 (qp : BitVec 6) (f1 : BitVec 7) (f2 : BitVec 7) (f3 : BitVec 7) (f4 : BitVec 7) (sf : BitVec 2)
  /-- `fma.s` f1 = f3, f4, f2 (.sf in bits 35:34) (format F1; R505, R930) -/
  | fmaSF1 (qp : BitVec 6) (f1 : BitVec 7) (f2 : BitVec 7) (f3 : BitVec 7) (f4 : BitVec 7) (sf : BitVec 2)
  /-- `fma.d` f1 = f3, f4, f2 (.sf in bits 35:34) (format F1; R505, R930) -/
  | fmaDF1 (qp : BitVec 6) (f1 : BitVec 7) (f2 : BitVec 7) (f3 : BitVec 7) (f4 : BitVec 7) (sf : BitVec 2)
  /-- `fpma` f1 = f3, f4, f2 (.sf in bits 35:34) (format F1; R505, R933) -/
  | fpmaF1 (qp : BitVec 6) (f1 : BitVec 7) (f2 : BitVec 7) (f3 : BitVec 7) (f4 : BitVec 7) (sf : BitVec 2)
  /-- `fms` f1 = f3, f4, f2 (.sf in bits 35:34) (format F1; R505, R931) -/
  | fmsF1 (qp : BitVec 6) (f1 : BitVec 7) (f2 : BitVec 7) (f3 : BitVec 7) (f4 : BitVec 7) (sf : BitVec 2)
  /-- `fms.s` f1 = f3, f4, f2 (.sf in bits 35:34) (format F1; R505, R931) -/
  | fmsSF1 (qp : BitVec 6) (f1 : BitVec 7) (f2 : BitVec 7) (f3 : BitVec 7) (f4 : BitVec 7) (sf : BitVec 2)
  /-- `fms.d` f1 = f3, f4, f2 (.sf in bits 35:34) (format F1; R505, R931) -/
  | fmsDF1 (qp : BitVec 6) (f1 : BitVec 7) (f2 : BitVec 7) (f3 : BitVec 7) (f4 : BitVec 7) (sf : BitVec 2)
  /-- `fpms` f1 = f3, f4, f2 (.sf in bits 35:34) (format F1; R505, R933) -/
  | fpmsF1 (qp : BitVec 6) (f1 : BitVec 7) (f2 : BitVec 7) (f3 : BitVec 7) (f4 : BitVec 7) (sf : BitVec 2)
  /-- `fnma` f1 = f3, f4, f2 (.sf in bits 35:34) (format F1; R505, R932) -/
  | fnmaF1 (qp : BitVec 6) (f1 : BitVec 7) (f2 : BitVec 7) (f3 : BitVec 7) (f4 : BitVec 7) (sf : BitVec 2)
  /-- `fnma.s` f1 = f3, f4, f2 (.sf in bits 35:34) (format F1; R505, R932) -/
  | fnmaSF1 (qp : BitVec 6) (f1 : BitVec 7) (f2 : BitVec 7) (f3 : BitVec 7) (f4 : BitVec 7) (sf : BitVec 2)
  /-- `fnma.d` f1 = f3, f4, f2 (.sf in bits 35:34) (format F1; R505, R932) -/
  | fnmaDF1 (qp : BitVec 6) (f1 : BitVec 7) (f2 : BitVec 7) (f3 : BitVec 7) (f4 : BitVec 7) (sf : BitVec 2)
  /-- `fpnma` f1 = f3, f4, f2 (.sf in bits 35:34) (format F1; R505, R933) -/
  | fpnmaF1 (qp : BitVec 6) (f1 : BitVec 7) (f2 : BitVec 7) (f3 : BitVec 7) (f4 : BitVec 7) (sf : BitVec 2)
  /-- `xma.l` f1 = f3, f4, f2 (format F2; R506, R936) -/
  | xmaLF2 (qp : BitVec 6) (f1 : BitVec 7) (f2 : BitVec 7) (f3 : BitVec 7) (f4 : BitVec 7)
  /-- `xma.hu` f1 = f3, f4, f2 (format F2; R506, R936) -/
  | xmaHuF2 (qp : BitVec 6) (f1 : BitVec 7) (f2 : BitVec 7) (f3 : BitVec 7) (f4 : BitVec 7)
  /-- `xma.h` f1 = f3, f4, f2 (format F2; R506, R936) -/
  | xmaHF2 (qp : BitVec 6) (f1 : BitVec 7) (f2 : BitVec 7) (f3 : BitVec 7) (f4 : BitVec 7)
  /-- `fselect` f1 = f3, f4, f2 (format F3; R507, R937) -/
  | fselectF3 (qp : BitVec 6) (f1 : BitVec 7) (f2 : BitVec 7) (f3 : BitVec 7) (f4 : BitVec 7)
  /-- `fcmp.eq` p1, p2 = f2, f3 (format F4; R508, R938) -/
  | fcmpEqF4 (qp : BitVec 6) (p1 : BitVec 6) (p2 : BitVec 6) (f2 : BitVec 7) (f3 : BitVec 7) (sf : BitVec 2)
  /-- `fcmp.eq.unc` p1, p2 = f2, f3 (format F4; R508, R938) -/
  | fcmpEqUncF4 (qp : BitVec 6) (p1 : BitVec 6) (p2 : BitVec 6) (f2 : BitVec 7) (f3 : BitVec 7) (sf : BitVec 2)
  /-- `fcmp.lt` p1, p2 = f2, f3 (format F4; R508, R938) -/
  | fcmpLtF4 (qp : BitVec 6) (p1 : BitVec 6) (p2 : BitVec 6) (f2 : BitVec 7) (f3 : BitVec 7) (sf : BitVec 2)
  /-- `fcmp.lt.unc` p1, p2 = f2, f3 (format F4; R508, R938) -/
  | fcmpLtUncF4 (qp : BitVec 6) (p1 : BitVec 6) (p2 : BitVec 6) (f2 : BitVec 7) (f3 : BitVec 7) (sf : BitVec 2)
  /-- `fcmp.le` p1, p2 = f2, f3 (format F4; R508, R938) -/
  | fcmpLeF4 (qp : BitVec 6) (p1 : BitVec 6) (p2 : BitVec 6) (f2 : BitVec 7) (f3 : BitVec 7) (sf : BitVec 2)
  /-- `fcmp.le.unc` p1, p2 = f2, f3 (format F4; R508, R938) -/
  | fcmpLeUncF4 (qp : BitVec 6) (p1 : BitVec 6) (p2 : BitVec 6) (f2 : BitVec 7) (f3 : BitVec 7) (sf : BitVec 2)
  /-- `fcmp.unord` p1, p2 = f2, f3 (format F4; R508, R938) -/
  | fcmpUnordF4 (qp : BitVec 6) (p1 : BitVec 6) (p2 : BitVec 6) (f2 : BitVec 7) (f3 : BitVec 7) (sf : BitVec 2)
  /-- `fcmp.unord.unc` p1, p2 = f2, f3 (format F4; R508, R938) -/
  | fcmpUnordUncF4 (qp : BitVec 6) (p1 : BitVec 6) (p2 : BitVec 6) (f2 : BitVec 7) (f3 : BitVec 7) (sf : BitVec 2)
  /-- `fclass.m` p1, p2 = f2, fclass9 (= fclass7c<<2 | fc2) (format F5; R509, R939) -/
  | fclassMF5 (qp : BitVec 6) (p1 : BitVec 6) (p2 : BitVec 6) (f2 : BitVec 7) (fclass9 : BitVec 9)
  /-- `fclass.m.unc` p1, p2 = f2, fclass9 (format F5; R509, R939) -/
  | fclassMUncF5 (qp : BitVec 6) (p1 : BitVec 6) (p2 : BitVec 6) (f2 : BitVec 7) (fclass9 : BitVec 9)
  /-- `frcpa` f1, p2 = f2, f3 (format F6; R510, R940) -/
  | frcpaF6 (qp : BitVec 6) (p2 : BitVec 6) (f1 : BitVec 7) (f2 : BitVec 7) (f3 : BitVec 7) (sf : BitVec 2)
  /-- `fprcpa` f1, p2 = f2, f3 (format F6; R510, R943) -/
  | fprcpaF6 (qp : BitVec 6) (p2 : BitVec 6) (f1 : BitVec 7) (f2 : BitVec 7) (f3 : BitVec 7) (sf : BitVec 2)
  /-- `frsqrta` f1, p2 = f3 (format F7; R511, R942) -/
  | frsqrtaF7 (qp : BitVec 6) (p2 : BitVec 6) (f1 : BitVec 7) (f3 : BitVec 7) (sf : BitVec 2)
  /-- `fprsqrta` f1, p2 = f3 (format F7; R511, R943) -/
  | fprsqrtaF7 (qp : BitVec 6) (p2 : BitVec 6) (f1 : BitVec 7) (f3 : BitVec 7) (sf : BitVec 2)
  /-- `fmin` f1 = f2, f3 (format F8; R512, R944) -/
  | fminF8 (qp : BitVec 6) (f1 : BitVec 7) (f2 : BitVec 7) (f3 : BitVec 7) (sf : BitVec 2)
  /-- `fmax` f1 = f2, f3 (format F8; R512, R944) -/
  | fmaxF8 (qp : BitVec 6) (f1 : BitVec 7) (f2 : BitVec 7) (f3 : BitVec 7) (sf : BitVec 2)
  /-- `famin` f1 = f2, f3 (format F8; R512, R944) -/
  | faminF8 (qp : BitVec 6) (f1 : BitVec 7) (f2 : BitVec 7) (f3 : BitVec 7) (sf : BitVec 2)
  /-- `famax` f1 = f2, f3 (format F8; R512, R944) -/
  | famaxF8 (qp : BitVec 6) (f1 : BitVec 7) (f2 : BitVec 7) (f3 : BitVec 7) (sf : BitVec 2)
  /-- `fpmin` f1 = f2, f3 (format F8; R512, R945) -/
  | fpminF8 (qp : BitVec 6) (f1 : BitVec 7) (f2 : BitVec 7) (f3 : BitVec 7) (sf : BitVec 2)
  /-- `fpmax` f1 = f2, f3 (format F8; R512, R945) -/
  | fpmaxF8 (qp : BitVec 6) (f1 : BitVec 7) (f2 : BitVec 7) (f3 : BitVec 7) (sf : BitVec 2)
  /-- `fpamin` f1 = f2, f3 (format F8; R512, R945) -/
  | fpaminF8 (qp : BitVec 6) (f1 : BitVec 7) (f2 : BitVec 7) (f3 : BitVec 7) (sf : BitVec 2)
  /-- `fpamax` f1 = f2, f3 (format F8; R512, R945) -/
  | fpamaxF8 (qp : BitVec 6) (f1 : BitVec 7) (f2 : BitVec 7) (f3 : BitVec 7) (sf : BitVec 2)
  /-- `fpcmp.eq` f1 = f2, f3 (format F8; R512, R946) -/
  | fpcmpEqF8 (qp : BitVec 6) (f1 : BitVec 7) (f2 : BitVec 7) (f3 : BitVec 7) (sf : BitVec 2)
  /-- `fpcmp.lt` f1 = f2, f3 (format F8; R512, R946) -/
  | fpcmpLtF8 (qp : BitVec 6) (f1 : BitVec 7) (f2 : BitVec 7) (f3 : BitVec 7) (sf : BitVec 2)
  /-- `fpcmp.le` f1 = f2, f3 (format F8; R512, R946) -/
  | fpcmpLeF8 (qp : BitVec 6) (f1 : BitVec 7) (f2 : BitVec 7) (f3 : BitVec 7) (sf : BitVec 2)
  /-- `fpcmp.unord` f1 = f2, f3 (format F8; R512, R946) -/
  | fpcmpUnordF8 (qp : BitVec 6) (f1 : BitVec 7) (f2 : BitVec 7) (f3 : BitVec 7) (sf : BitVec 2)
  /-- `fpcmp.neq` f1 = f2, f3 (format F8; R512, R946) -/
  | fpcmpNeqF8 (qp : BitVec 6) (f1 : BitVec 7) (f2 : BitVec 7) (f3 : BitVec 7) (sf : BitVec 2)
  /-- `fpcmp.nlt` f1 = f2, f3 (format F8; R512, R946) -/
  | fpcmpNltF8 (qp : BitVec 6) (f1 : BitVec 7) (f2 : BitVec 7) (f3 : BitVec 7) (sf : BitVec 2)
  /-- `fpcmp.nle` f1 = f2, f3 (format F8; R512, R946) -/
  | fpcmpNleF8 (qp : BitVec 6) (f1 : BitVec 7) (f2 : BitVec 7) (f3 : BitVec 7) (sf : BitVec 2)
  /-- `fpcmp.ord` f1 = f2, f3 (format F8; R512, R946) -/
  | fpcmpOrdF8 (qp : BitVec 6) (f1 : BitVec 7) (f2 : BitVec 7) (f3 : BitVec 7) (sf : BitVec 2)
  /-- `fmerge.s` f1 = f2, f3 (format F9; R513, R947) -/
  | fmergeSF9 (qp : BitVec 6) (f1 : BitVec 7) (f2 : BitVec 7) (f3 : BitVec 7)
  /-- `fmerge.ns` f1 = f2, f3 (format F9; R513, R947) -/
  | fmergeNsF9 (qp : BitVec 6) (f1 : BitVec 7) (f2 : BitVec 7) (f3 : BitVec 7)
  /-- `fmerge.se` f1 = f2, f3 (format F9; R513, R947) -/
  | fmergeSeF9 (qp : BitVec 6) (f1 : BitVec 7) (f2 : BitVec 7) (f3 : BitVec 7)
  /-- `fmix.lr` f1 = f2, f3 (format F9; R513, R949) -/
  | fmixLrF9 (qp : BitVec 6) (f1 : BitVec 7) (f2 : BitVec 7) (f3 : BitVec 7)
  /-- `fmix.r` f1 = f2, f3 (format F9; R513, R949) -/
  | fmixRF9 (qp : BitVec 6) (f1 : BitVec 7) (f2 : BitVec 7) (f3 : BitVec 7)
  /-- `fmix.l` f1 = f2, f3 (format F9; R513, R949) -/
  | fmixLF9 (qp : BitVec 6) (f1 : BitVec 7) (f2 : BitVec 7) (f3 : BitVec 7)
  /-- `fsxt.r` f1 = f2, f3 (format F9; R513, R950) -/
  | fsxtRF9 (qp : BitVec 6) (f1 : BitVec 7) (f2 : BitVec 7) (f3 : BitVec 7)
  /-- `fsxt.l` f1 = f2, f3 (format F9; R513, R950) -/
  | fsxtLF9 (qp : BitVec 6) (f1 : BitVec 7) (f2 : BitVec 7) (f3 : BitVec 7)
  /-- `fpack` f1 = f2, f3 (format F9; R513, R951) -/
  | fpackF9 (qp : BitVec 6) (f1 : BitVec 7) (f2 : BitVec 7) (f3 : BitVec 7)
  /-- `fswap` f1 = f2, f3 (format F9; R513, R952) -/
  | fswapF9 (qp : BitVec 6) (f1 : BitVec 7) (f2 : BitVec 7) (f3 : BitVec 7)
  /-- `fswap.nl` f1 = f2, f3 (format F9; R513, R952) -/
  | fswapNlF9 (qp : BitVec 6) (f1 : BitVec 7) (f2 : BitVec 7) (f3 : BitVec 7)
  /-- `fswap.nr` f1 = f2, f3 (format F9; R513, R952) -/
  | fswapNrF9 (qp : BitVec 6) (f1 : BitVec 7) (f2 : BitVec 7) (f3 : BitVec 7)
  /-- `fand` f1 = f2, f3 (format F9; R513, R953) -/
  | fandF9 (qp : BitVec 6) (f1 : BitVec 7) (f2 : BitVec 7) (f3 : BitVec 7)
  /-- `fandcm` f1 = f2, f3 (format F9; R513, R953) -/
  | fandcmF9 (qp : BitVec 6) (f1 : BitVec 7) (f2 : BitVec 7) (f3 : BitVec 7)
  /-- `for` f1 = f2, f3 (format F9; R513, R953) -/
  | forF9 (qp : BitVec 6) (f1 : BitVec 7) (f2 : BitVec 7) (f3 : BitVec 7)
  /-- `fxor` f1 = f2, f3 (format F9; R513, R953) -/
  | fxorF9 (qp : BitVec 6) (f1 : BitVec 7) (f2 : BitVec 7) (f3 : BitVec 7)
  /-- `fpmerge.s` f1 = f2, f3 (format F9; R513, R948) -/
  | fpmergeSF9 (qp : BitVec 6) (f1 : BitVec 7) (f2 : BitVec 7) (f3 : BitVec 7)
  /-- `fpmerge.ns` f1 = f2, f3 (format F9; R513, R948) -/
  | fpmergeNsF9 (qp : BitVec 6) (f1 : BitVec 7) (f2 : BitVec 7) (f3 : BitVec 7)
  /-- `fpmerge.se` f1 = f2, f3 (format F9; R513, R948) -/
  | fpmergeSeF9 (qp : BitVec 6) (f1 : BitVec 7) (f2 : BitVec 7) (f3 : BitVec 7)
  /-- `fcvt.fx` f1 = f2 (format F10; R514, R954) -/
  | fcvtFxF10 (qp : BitVec 6) (f1 : BitVec 7) (f2 : BitVec 7) (sf : BitVec 2)
  /-- `fcvt.fxu` f1 = f2 (format F10; R514, R955) -/
  | fcvtFxuF10 (qp : BitVec 6) (f1 : BitVec 7) (f2 : BitVec 7) (sf : BitVec 2)
  /-- `fcvt.fx.trunc` f1 = f2 (format F10; R514, R954) -/
  | fcvtFxTruncF10 (qp : BitVec 6) (f1 : BitVec 7) (f2 : BitVec 7) (sf : BitVec 2)
  /-- `fcvt.fxu.trunc` f1 = f2 (format F10; R514, R955) -/
  | fcvtFxuTruncF10 (qp : BitVec 6) (f1 : BitVec 7) (f2 : BitVec 7) (sf : BitVec 2)
  /-- `fpcvt.fx` f1 = f2 (format F10; R514, R956) -/
  | fpcvtFxF10 (qp : BitVec 6) (f1 : BitVec 7) (f2 : BitVec 7) (sf : BitVec 2)
  /-- `fpcvt.fxu` f1 = f2 (format F10; R514, R956) -/
  | fpcvtFxuF10 (qp : BitVec 6) (f1 : BitVec 7) (f2 : BitVec 7) (sf : BitVec 2)
  /-- `fpcvt.fx.trunc` f1 = f2 (format F10; R514, R956) -/
  | fpcvtFxTruncF10 (qp : BitVec 6) (f1 : BitVec 7) (f2 : BitVec 7) (sf : BitVec 2)
  /-- `fpcvt.fxu.trunc` f1 = f2 (format F10; R514, R956) -/
  | fpcvtFxuTruncF10 (qp : BitVec 6) (f1 : BitVec 7) (f2 : BitVec 7) (sf : BitVec 2)
  /-- `fcvt.xf` f1 = f2 (format F11; R515, R957) -/
  | fcvtXfF11 (qp : BitVec 6) (f1 : BitVec 7) (f2 : BitVec 7)
  /-- `fsetc` amask7, omask7 (format F12; R516, R958) -/
  | fsetcF12 (qp : BitVec 6) (sf : BitVec 2) (omask7c : BitVec 7) (amask7b : BitVec 7)
  /-- `fclrf` (format F13; R517, R959) -/
  | fclrfF13 (qp : BitVec 6) (sf : BitVec 2)
  /-- `fchkf` target25 (= IP + sign_ext(s<<20 | imm20a, 21) << 4) (format F14; R518, R960) -/
  | fchkfF14 (qp : BitVec 6) (sf : BitVec 2) (disp21 : BitVec 21)
  /-- `break.f` imm21 (format F15; R519, R674) -/
  | breakFF15 (qp : BitVec 6) (imm21 : BitVec 21)
  /-- `nop.f` imm21 (format F16; R520, R673) -/
  | nopFF16 (qp : BitVec 6) (imm21 : BitVec 21)
  /-- `hint.f` imm21 (format F16; R520, R672) -/
  | hintFF16 (qp : BitVec 6) (imm21 : BitVec 21)
  /-- `break.x` imm62 (= imm41<<21 | i<<20 | imm20a; imm41 = L slot) (format X1; R526, R674) -/
  | breakXX1 (qp : BitVec 6) (imm62 : BitVec 62)
  /-- `movl` r1 = imm64 (= i<<63 | imm41<<22 | ic<<21 | imm5c<<16 | imm9d<<7 | imm7b; imm41 = L slot) (format X2; R527, R830)
  -/
  | movlX2 (qp : BitVec 6) (r1 : BitVec 7) (imm64 : BitVec 64)
  /-- `brl.cond` target64 (= IP + ((i<<59 | imm39<<20 | imm20b) << 4); imm39 = L slot bits 40:2) (format X3; R528, R560) -/
  | brlCondX3 (qp : BitVec 6) (d : BitVec 1) (wh : BitVec 2) (p : BitVec 1) (disp60 : BitVec 60)
  /-- `brl.call` b1 = target64 (format X4; R529, R561) -/
  | brlCallX4 (qp : BitVec 6) (b1 : BitVec 3) (d : BitVec 1) (wh : BitVec 2) (p : BitVec 1) (disp60 : BitVec 60)
  /-- `nop.x` imm62 (format X5; R530, R673) -/
  | nopXX5 (qp : BitVec 6) (imm62 : BitVec 62)
  /-- `hint.x` imm62 (format X5; R530, R672) -/
  | hintXX5 (qp : BitVec 6) (imm62 : BitVec 62)
deriving DecidableEq, Repr

end Sys2Proof
end

