-- ==== Sys2Proof/Decode.lean ====
section
/-! DEFINITION. From bits to instructions and back, format by format (R250-R271, R330-R530).

The decoder is total: a slot is an instruction, or one of the two classes of unused encodings of R258 (D40).
A format's decoder reads the format's opcode and extension fields, in the order of its diagram, and names the row
of the opcode table they select. `noncomputable` here and in the definitions built on it: Lean's compiler has no
run-time tag for a constructor past number 244 (log entry 3); the kernel evaluates them all the same. -/

namespace Sys2Proof

/-- What a slot holds (R258, D40): an instruction; an encoding that always raises an Illegal Operation fault; or one
that raises it when the predicate register named by bits 5:0 is 1, and else executes as a nop. -/
inductive SlotDecode where
  | instr (i : Instr)
  | reserved
  | reservedIfQp (qp : BitVec 6)
deriving DecidableEq, Repr

/-- The words of an encoded instruction: its type, the L slot (0 but for X-unit instructions) and its own slot. -/
structure SlotWords where
  unit : InstrUnit
  long : Slot
  slot : Slot
deriving DecidableEq, Repr

/-- R260: an instruction with a constant-0 field, when that field is as it must be; else R258's third class. Where the
constant 0 stands in bits 5:0 (B2, B8, M25) the fault "may or may not depend on the PR addressed by those bits": it does
(DESIGN CHOICE, log entry 10). -/
def zeroChecked {n : Nat} (field : BitVec n) (w : Slot) (i : Instr) : SlotDecode :=
  if field = 0 then .instr i else .reservedIfQp (fld w 0 6)

/-- Format A1 (R331): op 40:37, x2a 35:34, ve 33, x4 32:29, x2b 28:27. -/
noncomputable def decodeA1 (w : Slot) : Option SlotDecode :=
  match (fld w 37 4).toNat, (fld w 34 2).toNat, (fld w 33 1).toNat, (fld w 29 4).toNat, (fld w 27 2).toNat with
  | 0x8, 0, 0, 0x0, 0 => some (.instr (.addA1 (fld w 0 6) (fld w 6 7) (fld w 13 7) (fld w 20 7)))
  | 0x8, 0, 0, 0x0, 1 => some (.instr (.addPlus1A1 (fld w 0 6) (fld w 6 7) (fld w 13 7) (fld w 20 7)))
  | 0x8, 0, 0, 0x1, 1 => some (.instr (.subA1 (fld w 0 6) (fld w 6 7) (fld w 13 7) (fld w 20 7)))
  | 0x8, 0, 0, 0x1, 0 => some (.instr (.subMinus1A1 (fld w 0 6) (fld w 6 7) (fld w 13 7) (fld w 20 7)))
  | 0x8, 0, 0, 0x2, 0 => some (.instr (.addp4A1 (fld w 0 6) (fld w 6 7) (fld w 13 7) (fld w 20 7)))
  | 0x8, 0, 0, 0x3, 0 => some (.instr (.andA1 (fld w 0 6) (fld w 6 7) (fld w 13 7) (fld w 20 7)))
  | 0x8, 0, 0, 0x3, 1 => some (.instr (.andcmA1 (fld w 0 6) (fld w 6 7) (fld w 13 7) (fld w 20 7)))
  | 0x8, 0, 0, 0x3, 2 => some (.instr (.orA1 (fld w 0 6) (fld w 6 7) (fld w 13 7) (fld w 20 7)))
  | 0x8, 0, 0, 0x3, 3 => some (.instr (.xorA1 (fld w 0 6) (fld w 6 7) (fld w 13 7) (fld w 20 7)))
  | _, _, _, _, _ => none

/-- Format A2 (R332): op 40:37, x2a 35:34, ve 33, x4 32:29. -/
noncomputable def decodeA2 (w : Slot) : Option SlotDecode :=
  match (fld w 37 4).toNat, (fld w 34 2).toNat, (fld w 33 1).toNat, (fld w 29 4).toNat with
  | 0x8, 0, 0, 0x4 => some (.instr (.shladdA2 (fld w 0 6) (fld w 6 7) (fld w 13 7) (fld w 20 7) (fld w 27 2)))
  | 0x8, 0, 0, 0x6 => some (.instr (.shladdp4A2 (fld w 0 6) (fld w 6 7) (fld w 13 7) (fld w 20 7) (fld w 27 2)))
  | _, _, _, _ => none

/-- Format A3 (R333): op 40:37, x2a 35:34, ve 33, x4 32:29, x2b 28:27. -/
noncomputable def decodeA3 (w : Slot) : Option SlotDecode :=
  match (fld w 37 4).toNat, (fld w 34 2).toNat, (fld w 33 1).toNat, (fld w 29 4).toNat, (fld w 27 2).toNat with
  | 0x8, 0, 0, 0x9, 1 => some (.instr (.subA3 (fld w 0 6) (fld w 6 7) (fld w 20 7) (fld w 36 1 ++ fld w 13 7)))
  | 0x8, 0, 0, 0xb, 0 => some (.instr (.andA3 (fld w 0 6) (fld w 6 7) (fld w 20 7) (fld w 36 1 ++ fld w 13 7)))
  | 0x8, 0, 0, 0xb, 1 => some (.instr (.andcmA3 (fld w 0 6) (fld w 6 7) (fld w 20 7) (fld w 36 1 ++ fld w 13 7)))
  | 0x8, 0, 0, 0xb, 2 => some (.instr (.orA3 (fld w 0 6) (fld w 6 7) (fld w 20 7) (fld w 36 1 ++ fld w 13 7)))
  | 0x8, 0, 0, 0xb, 3 => some (.instr (.xorA3 (fld w 0 6) (fld w 6 7) (fld w 20 7) (fld w 36 1 ++ fld w 13 7)))
  | _, _, _, _, _ => none

/-- Format A4 (R334): op 40:37, x2a 35:34, ve 33. -/
noncomputable def decodeA4 (w : Slot) : Option SlotDecode :=
  match (fld w 37 4).toNat, (fld w 34 2).toNat, (fld w 33 1).toNat with
  | 0x8, 2, 0 => some (.instr (.addsA4 (fld w 0 6) (fld w 6 7) (fld w 20 7) (fld w 36 1 ++ fld w 27 6 ++ fld w 13 7)))
  | 0x8, 3, 0 => some (.instr (.addp4A4 (fld w 0 6) (fld w 6 7) (fld w 20 7) (fld w 36 1 ++ fld w 27 6 ++ fld w 13 7)))
  | _, _, _ => none

/-- Format A5 (R335): op 40:37. -/
noncomputable def decodeA5 (w : Slot) : Option SlotDecode :=
  match (fld w 37 4).toNat with
  | 0x9 => some (.instr (.addlA5 (fld w 0 6) (fld w 6 7) (fld w 20 2) (fld w 36 1 ++ fld w 22 5 ++ fld w 27 9 ++ fld w 13 7)))
  | _ => none

/-- Format A6 (R337): op 40:37, tb 36, x2 35:34, ta 33, c 12. -/
noncomputable def decodeA6 (w : Slot) : Option SlotDecode :=
  match (fld w 37 4).toNat, (fld w 36 1).toNat, (fld w 34 2).toNat, (fld w 33 1).toNat, (fld w 12 1).toNat with
  | 0xc, 0, 0, 0, 0 => some (.instr (.cmpLtA6 (fld w 0 6) (fld w 6 6) (fld w 27 6) (fld w 13 7) (fld w 20 7)))
  | 0xd, 0, 0, 0, 0 => some (.instr (.cmpLtuA6 (fld w 0 6) (fld w 6 6) (fld w 27 6) (fld w 13 7) (fld w 20 7)))
  | 0xe, 0, 0, 0, 0 => some (.instr (.cmpEqA6 (fld w 0 6) (fld w 6 6) (fld w 27 6) (fld w 13 7) (fld w 20 7)))
  | 0xc, 0, 0, 0, 1 => some (.instr (.cmpLtUncA6 (fld w 0 6) (fld w 6 6) (fld w 27 6) (fld w 13 7) (fld w 20 7)))
  | 0xd, 0, 0, 0, 1 => some (.instr (.cmpLtuUncA6 (fld w 0 6) (fld w 6 6) (fld w 27 6) (fld w 13 7) (fld w 20 7)))
  | 0xe, 0, 0, 0, 1 => some (.instr (.cmpEqUncA6 (fld w 0 6) (fld w 6 6) (fld w 27 6) (fld w 13 7) (fld w 20 7)))
  | 0xc, 0, 0, 1, 0 => some (.instr (.cmpEqAndA6 (fld w 0 6) (fld w 6 6) (fld w 27 6) (fld w 13 7) (fld w 20 7)))
  | 0xd, 0, 0, 1, 0 => some (.instr (.cmpEqOrA6 (fld w 0 6) (fld w 6 6) (fld w 27 6) (fld w 13 7) (fld w 20 7)))
  | 0xe, 0, 0, 1, 0 => some (.instr (.cmpEqOrAndcmA6 (fld w 0 6) (fld w 6 6) (fld w 27 6) (fld w 13 7) (fld w 20 7)))
  | 0xc, 0, 0, 1, 1 => some (.instr (.cmpNeAndA6 (fld w 0 6) (fld w 6 6) (fld w 27 6) (fld w 13 7) (fld w 20 7)))
  | 0xd, 0, 0, 1, 1 => some (.instr (.cmpNeOrA6 (fld w 0 6) (fld w 6 6) (fld w 27 6) (fld w 13 7) (fld w 20 7)))
  | 0xe, 0, 0, 1, 1 => some (.instr (.cmpNeOrAndcmA6 (fld w 0 6) (fld w 6 6) (fld w 27 6) (fld w 13 7) (fld w 20 7)))
  | 0xc, 0, 1, 0, 0 => some (.instr (.cmp4LtA6 (fld w 0 6) (fld w 6 6) (fld w 27 6) (fld w 13 7) (fld w 20 7)))
  | 0xd, 0, 1, 0, 0 => some (.instr (.cmp4LtuA6 (fld w 0 6) (fld w 6 6) (fld w 27 6) (fld w 13 7) (fld w 20 7)))
  | 0xe, 0, 1, 0, 0 => some (.instr (.cmp4EqA6 (fld w 0 6) (fld w 6 6) (fld w 27 6) (fld w 13 7) (fld w 20 7)))
  | 0xc, 0, 1, 0, 1 => some (.instr (.cmp4LtUncA6 (fld w 0 6) (fld w 6 6) (fld w 27 6) (fld w 13 7) (fld w 20 7)))
  | 0xd, 0, 1, 0, 1 => some (.instr (.cmp4LtuUncA6 (fld w 0 6) (fld w 6 6) (fld w 27 6) (fld w 13 7) (fld w 20 7)))
  | 0xe, 0, 1, 0, 1 => some (.instr (.cmp4EqUncA6 (fld w 0 6) (fld w 6 6) (fld w 27 6) (fld w 13 7) (fld w 20 7)))
  | 0xc, 0, 1, 1, 0 => some (.instr (.cmp4EqAndA6 (fld w 0 6) (fld w 6 6) (fld w 27 6) (fld w 13 7) (fld w 20 7)))
  | 0xd, 0, 1, 1, 0 => some (.instr (.cmp4EqOrA6 (fld w 0 6) (fld w 6 6) (fld w 27 6) (fld w 13 7) (fld w 20 7)))
  | 0xe, 0, 1, 1, 0 => some (.instr (.cmp4EqOrAndcmA6 (fld w 0 6) (fld w 6 6) (fld w 27 6) (fld w 13 7) (fld w 20 7)))
  | 0xc, 0, 1, 1, 1 => some (.instr (.cmp4NeAndA6 (fld w 0 6) (fld w 6 6) (fld w 27 6) (fld w 13 7) (fld w 20 7)))
  | 0xd, 0, 1, 1, 1 => some (.instr (.cmp4NeOrA6 (fld w 0 6) (fld w 6 6) (fld w 27 6) (fld w 13 7) (fld w 20 7)))
  | 0xe, 0, 1, 1, 1 => some (.instr (.cmp4NeOrAndcmA6 (fld w 0 6) (fld w 6 6) (fld w 27 6) (fld w 13 7) (fld w 20 7)))
  | _, _, _, _, _ => none

/-- Format A7 (R338): op 40:37, tb 36, x2 35:34, ta 33, c 12. -/
noncomputable def decodeA7 (w : Slot) : Option SlotDecode :=
  match (fld w 37 4).toNat, (fld w 36 1).toNat, (fld w 34 2).toNat, (fld w 33 1).toNat, (fld w 12 1).toNat with
  | 0xc, 1, 0, 0, 0 => some (zeroChecked (fld w 13 7) w (.cmpGtAndA7 (fld w 0 6) (fld w 6 6) (fld w 27 6) (fld w 20 7)))
  | 0xd, 1, 0, 0, 0 => some (zeroChecked (fld w 13 7) w (.cmpGtOrA7 (fld w 0 6) (fld w 6 6) (fld w 27 6) (fld w 20 7)))
  | 0xe, 1, 0, 0, 0 => some (zeroChecked (fld w 13 7) w (.cmpGtOrAndcmA7 (fld w 0 6) (fld w 6 6) (fld w 27 6) (fld w 20 7)))
  | 0xc, 1, 0, 0, 1 => some (zeroChecked (fld w 13 7) w (.cmpLeAndA7 (fld w 0 6) (fld w 6 6) (fld w 27 6) (fld w 20 7)))
  | 0xd, 1, 0, 0, 1 => some (zeroChecked (fld w 13 7) w (.cmpLeOrA7 (fld w 0 6) (fld w 6 6) (fld w 27 6) (fld w 20 7)))
  | 0xe, 1, 0, 0, 1 => some (zeroChecked (fld w 13 7) w (.cmpLeOrAndcmA7 (fld w 0 6) (fld w 6 6) (fld w 27 6) (fld w 20 7)))
  | 0xc, 1, 0, 1, 0 => some (zeroChecked (fld w 13 7) w (.cmpGeAndA7 (fld w 0 6) (fld w 6 6) (fld w 27 6) (fld w 20 7)))
  | 0xd, 1, 0, 1, 0 => some (zeroChecked (fld w 13 7) w (.cmpGeOrA7 (fld w 0 6) (fld w 6 6) (fld w 27 6) (fld w 20 7)))
  | 0xe, 1, 0, 1, 0 => some (zeroChecked (fld w 13 7) w (.cmpGeOrAndcmA7 (fld w 0 6) (fld w 6 6) (fld w 27 6) (fld w 20 7)))
  | 0xc, 1, 0, 1, 1 => some (zeroChecked (fld w 13 7) w (.cmpLtAndA7 (fld w 0 6) (fld w 6 6) (fld w 27 6) (fld w 20 7)))
  | 0xd, 1, 0, 1, 1 => some (zeroChecked (fld w 13 7) w (.cmpLtOrA7 (fld w 0 6) (fld w 6 6) (fld w 27 6) (fld w 20 7)))
  | 0xe, 1, 0, 1, 1 => some (zeroChecked (fld w 13 7) w (.cmpLtOrAndcmA7 (fld w 0 6) (fld w 6 6) (fld w 27 6) (fld w 20 7)))
  | 0xc, 1, 1, 0, 0 => some (zeroChecked (fld w 13 7) w (.cmp4GtAndA7 (fld w 0 6) (fld w 6 6) (fld w 27 6) (fld w 20 7)))
  | 0xd, 1, 1, 0, 0 => some (zeroChecked (fld w 13 7) w (.cmp4GtOrA7 (fld w 0 6) (fld w 6 6) (fld w 27 6) (fld w 20 7)))
  | 0xe, 1, 1, 0, 0 => some (zeroChecked (fld w 13 7) w (.cmp4GtOrAndcmA7 (fld w 0 6) (fld w 6 6) (fld w 27 6) (fld w 20 7)))
  | 0xc, 1, 1, 0, 1 => some (zeroChecked (fld w 13 7) w (.cmp4LeAndA7 (fld w 0 6) (fld w 6 6) (fld w 27 6) (fld w 20 7)))
  | 0xd, 1, 1, 0, 1 => some (zeroChecked (fld w 13 7) w (.cmp4LeOrA7 (fld w 0 6) (fld w 6 6) (fld w 27 6) (fld w 20 7)))
  | 0xe, 1, 1, 0, 1 => some (zeroChecked (fld w 13 7) w (.cmp4LeOrAndcmA7 (fld w 0 6) (fld w 6 6) (fld w 27 6) (fld w 20 7)))
  | 0xc, 1, 1, 1, 0 => some (zeroChecked (fld w 13 7) w (.cmp4GeAndA7 (fld w 0 6) (fld w 6 6) (fld w 27 6) (fld w 20 7)))
  | 0xd, 1, 1, 1, 0 => some (zeroChecked (fld w 13 7) w (.cmp4GeOrA7 (fld w 0 6) (fld w 6 6) (fld w 27 6) (fld w 20 7)))
  | 0xe, 1, 1, 1, 0 => some (zeroChecked (fld w 13 7) w (.cmp4GeOrAndcmA7 (fld w 0 6) (fld w 6 6) (fld w 27 6) (fld w 20 7)))
  | 0xc, 1, 1, 1, 1 => some (zeroChecked (fld w 13 7) w (.cmp4LtAndA7 (fld w 0 6) (fld w 6 6) (fld w 27 6) (fld w 20 7)))
  | 0xd, 1, 1, 1, 1 => some (zeroChecked (fld w 13 7) w (.cmp4LtOrA7 (fld w 0 6) (fld w 6 6) (fld w 27 6) (fld w 20 7)))
  | 0xe, 1, 1, 1, 1 => some (zeroChecked (fld w 13 7) w (.cmp4LtOrAndcmA7 (fld w 0 6) (fld w 6 6) (fld w 27 6) (fld w 20 7)))
  | _, _, _, _, _ => none

/-- Format A8 (R339): op 40:37, x2 35:34, ta 33, c 12. -/
noncomputable def decodeA8 (w : Slot) : Option SlotDecode :=
  match (fld w 37 4).toNat, (fld w 34 2).toNat, (fld w 33 1).toNat, (fld w 12 1).toNat with
  | 0xc, 2, 0, 0 => some (.instr (.cmpLtA8 (fld w 0 6) (fld w 6 6) (fld w 27 6) (fld w 20 7) (fld w 36 1 ++ fld w 13 7)))
  | 0xd, 2, 0, 0 => some (.instr (.cmpLtuA8 (fld w 0 6) (fld w 6 6) (fld w 27 6) (fld w 20 7) (fld w 36 1 ++ fld w 13 7)))
  | 0xe, 2, 0, 0 => some (.instr (.cmpEqA8 (fld w 0 6) (fld w 6 6) (fld w 27 6) (fld w 20 7) (fld w 36 1 ++ fld w 13 7)))
  | 0xc, 2, 0, 1 => some (.instr (.cmpLtUncA8 (fld w 0 6) (fld w 6 6) (fld w 27 6) (fld w 20 7) (fld w 36 1 ++ fld w 13 7)))
  | 0xd, 2, 0, 1 => some (.instr (.cmpLtuUncA8 (fld w 0 6) (fld w 6 6) (fld w 27 6) (fld w 20 7) (fld w 36 1 ++ fld w 13 7)))
  | 0xe, 2, 0, 1 => some (.instr (.cmpEqUncA8 (fld w 0 6) (fld w 6 6) (fld w 27 6) (fld w 20 7) (fld w 36 1 ++ fld w 13 7)))
  | 0xc, 2, 1, 0 => some (.instr (.cmpEqAndA8 (fld w 0 6) (fld w 6 6) (fld w 27 6) (fld w 20 7) (fld w 36 1 ++ fld w 13 7)))
  | 0xd, 2, 1, 0 => some (.instr (.cmpEqOrA8 (fld w 0 6) (fld w 6 6) (fld w 27 6) (fld w 20 7) (fld w 36 1 ++ fld w 13 7)))
  | 0xe, 2, 1, 0 => some (.instr (.cmpEqOrAndcmA8 (fld w 0 6) (fld w 6 6) (fld w 27 6) (fld w 20 7) (fld w 36 1 ++ fld w 13 7)))
  | 0xc, 2, 1, 1 => some (.instr (.cmpNeAndA8 (fld w 0 6) (fld w 6 6) (fld w 27 6) (fld w 20 7) (fld w 36 1 ++ fld w 13 7)))
  | 0xd, 2, 1, 1 => some (.instr (.cmpNeOrA8 (fld w 0 6) (fld w 6 6) (fld w 27 6) (fld w 20 7) (fld w 36 1 ++ fld w 13 7)))
  | 0xe, 2, 1, 1 => some (.instr (.cmpNeOrAndcmA8 (fld w 0 6) (fld w 6 6) (fld w 27 6) (fld w 20 7) (fld w 36 1 ++ fld w 13 7)))
  | 0xc, 3, 0, 0 => some (.instr (.cmp4LtA8 (fld w 0 6) (fld w 6 6) (fld w 27 6) (fld w 20 7) (fld w 36 1 ++ fld w 13 7)))
  | 0xd, 3, 0, 0 => some (.instr (.cmp4LtuA8 (fld w 0 6) (fld w 6 6) (fld w 27 6) (fld w 20 7) (fld w 36 1 ++ fld w 13 7)))
  | 0xe, 3, 0, 0 => some (.instr (.cmp4EqA8 (fld w 0 6) (fld w 6 6) (fld w 27 6) (fld w 20 7) (fld w 36 1 ++ fld w 13 7)))
  | 0xc, 3, 0, 1 => some (.instr (.cmp4LtUncA8 (fld w 0 6) (fld w 6 6) (fld w 27 6) (fld w 20 7) (fld w 36 1 ++ fld w 13 7)))
  | 0xd, 3, 0, 1 => some (.instr (.cmp4LtuUncA8 (fld w 0 6) (fld w 6 6) (fld w 27 6) (fld w 20 7) (fld w 36 1 ++ fld w 13 7)))
  | 0xe, 3, 0, 1 => some (.instr (.cmp4EqUncA8 (fld w 0 6) (fld w 6 6) (fld w 27 6) (fld w 20 7) (fld w 36 1 ++ fld w 13 7)))
  | 0xc, 3, 1, 0 => some (.instr (.cmp4EqAndA8 (fld w 0 6) (fld w 6 6) (fld w 27 6) (fld w 20 7) (fld w 36 1 ++ fld w 13 7)))
  | 0xd, 3, 1, 0 => some (.instr (.cmp4EqOrA8 (fld w 0 6) (fld w 6 6) (fld w 27 6) (fld w 20 7) (fld w 36 1 ++ fld w 13 7)))
  | 0xe, 3, 1, 0 => some (.instr (.cmp4EqOrAndcmA8 (fld w 0 6) (fld w 6 6) (fld w 27 6) (fld w 20 7) (fld w 36 1 ++ fld w 13 7)))
  | 0xc, 3, 1, 1 => some (.instr (.cmp4NeAndA8 (fld w 0 6) (fld w 6 6) (fld w 27 6) (fld w 20 7) (fld w 36 1 ++ fld w 13 7)))
  | 0xd, 3, 1, 1 => some (.instr (.cmp4NeOrA8 (fld w 0 6) (fld w 6 6) (fld w 27 6) (fld w 20 7) (fld w 36 1 ++ fld w 13 7)))
  | 0xe, 3, 1, 1 => some (.instr (.cmp4NeOrAndcmA8 (fld w 0 6) (fld w 6 6) (fld w 27 6) (fld w 20 7) (fld w 36 1 ++ fld w 13 7)))
  | _, _, _, _ => none

/-- Format A9 (R341): op 40:37, za 36, x2a 35:34, zb 33, x4 32:29, x2b 28:27. -/
noncomputable def decodeA9 (w : Slot) : Option SlotDecode :=
  match (fld w 37 4).toNat, (fld w 36 1).toNat, (fld w 34 2).toNat, (fld w 33 1).toNat, (fld w 29 4).toNat, (fld w 27 2).toNat with
  | 0x8, 0, 1, 0, 0x0, 0 => some (.instr (.padd1A9 (fld w 0 6) (fld w 6 7) (fld w 13 7) (fld w 20 7)))
  | 0x8, 0, 1, 1, 0x0, 0 => some (.instr (.padd2A9 (fld w 0 6) (fld w 6 7) (fld w 13 7) (fld w 20 7)))
  | 0x8, 1, 1, 0, 0x0, 0 => some (.instr (.padd4A9 (fld w 0 6) (fld w 6 7) (fld w 13 7) (fld w 20 7)))
  | 0x8, 0, 1, 0, 0x0, 1 => some (.instr (.padd1SssA9 (fld w 0 6) (fld w 6 7) (fld w 13 7) (fld w 20 7)))
  | 0x8, 0, 1, 1, 0x0, 1 => some (.instr (.padd2SssA9 (fld w 0 6) (fld w 6 7) (fld w 13 7) (fld w 20 7)))
  | 0x8, 0, 1, 0, 0x0, 2 => some (.instr (.padd1UuuA9 (fld w 0 6) (fld w 6 7) (fld w 13 7) (fld w 20 7)))
  | 0x8, 0, 1, 1, 0x0, 2 => some (.instr (.padd2UuuA9 (fld w 0 6) (fld w 6 7) (fld w 13 7) (fld w 20 7)))
  | 0x8, 0, 1, 0, 0x0, 3 => some (.instr (.padd1UusA9 (fld w 0 6) (fld w 6 7) (fld w 13 7) (fld w 20 7)))
  | 0x8, 0, 1, 1, 0x0, 3 => some (.instr (.padd2UusA9 (fld w 0 6) (fld w 6 7) (fld w 13 7) (fld w 20 7)))
  | 0x8, 0, 1, 0, 0x1, 0 => some (.instr (.psub1A9 (fld w 0 6) (fld w 6 7) (fld w 13 7) (fld w 20 7)))
  | 0x8, 0, 1, 1, 0x1, 0 => some (.instr (.psub2A9 (fld w 0 6) (fld w 6 7) (fld w 13 7) (fld w 20 7)))
  | 0x8, 1, 1, 0, 0x1, 0 => some (.instr (.psub4A9 (fld w 0 6) (fld w 6 7) (fld w 13 7) (fld w 20 7)))
  | 0x8, 0, 1, 0, 0x1, 1 => some (.instr (.psub1SssA9 (fld w 0 6) (fld w 6 7) (fld w 13 7) (fld w 20 7)))
  | 0x8, 0, 1, 1, 0x1, 1 => some (.instr (.psub2SssA9 (fld w 0 6) (fld w 6 7) (fld w 13 7) (fld w 20 7)))
  | 0x8, 0, 1, 0, 0x1, 2 => some (.instr (.psub1UuuA9 (fld w 0 6) (fld w 6 7) (fld w 13 7) (fld w 20 7)))
  | 0x8, 0, 1, 1, 0x1, 2 => some (.instr (.psub2UuuA9 (fld w 0 6) (fld w 6 7) (fld w 13 7) (fld w 20 7)))
  | 0x8, 0, 1, 0, 0x1, 3 => some (.instr (.psub1UusA9 (fld w 0 6) (fld w 6 7) (fld w 13 7) (fld w 20 7)))
  | 0x8, 0, 1, 1, 0x1, 3 => some (.instr (.psub2UusA9 (fld w 0 6) (fld w 6 7) (fld w 13 7) (fld w 20 7)))
  | 0x8, 0, 1, 0, 0x2, 2 => some (.instr (.pavg1A9 (fld w 0 6) (fld w 6 7) (fld w 13 7) (fld w 20 7)))
  | 0x8, 0, 1, 1, 0x2, 2 => some (.instr (.pavg2A9 (fld w 0 6) (fld w 6 7) (fld w 13 7) (fld w 20 7)))
  | 0x8, 0, 1, 0, 0x2, 3 => some (.instr (.pavg1RazA9 (fld w 0 6) (fld w 6 7) (fld w 13 7) (fld w 20 7)))
  | 0x8, 0, 1, 1, 0x2, 3 => some (.instr (.pavg2RazA9 (fld w 0 6) (fld w 6 7) (fld w 13 7) (fld w 20 7)))
  | 0x8, 0, 1, 0, 0x3, 2 => some (.instr (.pavgsub1A9 (fld w 0 6) (fld w 6 7) (fld w 13 7) (fld w 20 7)))
  | 0x8, 0, 1, 1, 0x3, 2 => some (.instr (.pavgsub2A9 (fld w 0 6) (fld w 6 7) (fld w 13 7) (fld w 20 7)))
  | 0x8, 0, 1, 0, 0x9, 0 => some (.instr (.pcmp1EqA9 (fld w 0 6) (fld w 6 7) (fld w 13 7) (fld w 20 7)))
  | 0x8, 0, 1, 1, 0x9, 0 => some (.instr (.pcmp2EqA9 (fld w 0 6) (fld w 6 7) (fld w 13 7) (fld w 20 7)))
  | 0x8, 1, 1, 0, 0x9, 0 => some (.instr (.pcmp4EqA9 (fld w 0 6) (fld w 6 7) (fld w 13 7) (fld w 20 7)))
  | 0x8, 0, 1, 0, 0x9, 1 => some (.instr (.pcmp1GtA9 (fld w 0 6) (fld w 6 7) (fld w 13 7) (fld w 20 7)))
  | 0x8, 0, 1, 1, 0x9, 1 => some (.instr (.pcmp2GtA9 (fld w 0 6) (fld w 6 7) (fld w 13 7) (fld w 20 7)))
  | 0x8, 1, 1, 0, 0x9, 1 => some (.instr (.pcmp4GtA9 (fld w 0 6) (fld w 6 7) (fld w 13 7) (fld w 20 7)))
  | _, _, _, _, _, _ => none

/-- Format A10 (R342): op 40:37, za 36, x2a 35:34, zb 33, x4 32:29. -/
noncomputable def decodeA10 (w : Slot) : Option SlotDecode :=
  match (fld w 37 4).toNat, (fld w 36 1).toNat, (fld w 34 2).toNat, (fld w 33 1).toNat, (fld w 29 4).toNat with
  | 0x8, 0, 1, 1, 0x4 => some (.instr (.pshladd2A10 (fld w 0 6) (fld w 6 7) (fld w 13 7) (fld w 20 7) (fld w 27 2)))
  | 0x8, 0, 1, 1, 0x6 => some (.instr (.pshradd2A10 (fld w 0 6) (fld w 6 7) (fld w 13 7) (fld w 20 7) (fld w 27 2)))
  | _, _, _, _, _ => none

/-- Format I1 (R351): op 40:37, za 36, x2a 35:34, zb 33, ve 32, x2b 29:28. -/
noncomputable def decodeI1 (w : Slot) : Option SlotDecode :=
  match (fld w 37 4).toNat, (fld w 36 1).toNat, (fld w 34 2).toNat, (fld w 33 1).toNat, (fld w 32 1).toNat, (fld w 28 2).toNat with
  | 0x7, 0, 0, 1, 0, 3 => some (.instr (.pmpyshr2I1 (fld w 0 6) (fld w 6 7) (fld w 13 7) (fld w 20 7) (fld w 30 2)))
  | 0x7, 0, 0, 1, 0, 1 => some (.instr (.pmpyshr2UI1 (fld w 0 6) (fld w 6 7) (fld w 13 7) (fld w 20 7) (fld w 30 2)))
  | _, _, _, _, _, _ => none

/-- Format I2 (R352): op 40:37, za 36, x2a 35:34, zb 33, ve 32, x2c 31:30, x2b 29:28. -/
noncomputable def decodeI2 (w : Slot) : Option SlotDecode :=
  match (fld w 37 4).toNat, (fld w 36 1).toNat, (fld w 34 2).toNat, (fld w 33 1).toNat, (fld w 32 1).toNat, (fld w 30 2).toNat, (fld w 28 2).toNat with
  | 0x7, 0, 2, 0, 0, 1, 0 => some (.instr (.unpack1HI2 (fld w 0 6) (fld w 6 7) (fld w 13 7) (fld w 20 7)))
  | 0x7, 0, 2, 0, 0, 2, 0 => some (.instr (.mix1RI2 (fld w 0 6) (fld w 6 7) (fld w 13 7) (fld w 20 7)))
  | 0x7, 0, 2, 0, 0, 0, 1 => some (.instr (.pmin1UI2 (fld w 0 6) (fld w 6 7) (fld w 13 7) (fld w 20 7)))
  | 0x7, 0, 2, 0, 0, 1, 1 => some (.instr (.pmax1UI2 (fld w 0 6) (fld w 6 7) (fld w 13 7) (fld w 20 7)))
  | 0x7, 0, 2, 0, 0, 1, 2 => some (.instr (.unpack1LI2 (fld w 0 6) (fld w 6 7) (fld w 13 7) (fld w 20 7)))
  | 0x7, 0, 2, 0, 0, 2, 2 => some (.instr (.mix1LI2 (fld w 0 6) (fld w 6 7) (fld w 13 7) (fld w 20 7)))
  | 0x7, 0, 2, 0, 0, 2, 3 => some (.instr (.psad1I2 (fld w 0 6) (fld w 6 7) (fld w 13 7) (fld w 20 7)))
  | 0x7, 0, 2, 1, 0, 0, 0 => some (.instr (.pack2UssI2 (fld w 0 6) (fld w 6 7) (fld w 13 7) (fld w 20 7)))
  | 0x7, 0, 2, 1, 0, 1, 0 => some (.instr (.unpack2HI2 (fld w 0 6) (fld w 6 7) (fld w 13 7) (fld w 20 7)))
  | 0x7, 0, 2, 1, 0, 2, 0 => some (.instr (.mix2RI2 (fld w 0 6) (fld w 6 7) (fld w 13 7) (fld w 20 7)))
  | 0x7, 0, 2, 1, 0, 3, 1 => some (.instr (.pmpy2RI2 (fld w 0 6) (fld w 6 7) (fld w 13 7) (fld w 20 7)))
  | 0x7, 0, 2, 1, 0, 0, 2 => some (.instr (.pack2SssI2 (fld w 0 6) (fld w 6 7) (fld w 13 7) (fld w 20 7)))
  | 0x7, 0, 2, 1, 0, 1, 2 => some (.instr (.unpack2LI2 (fld w 0 6) (fld w 6 7) (fld w 13 7) (fld w 20 7)))
  | 0x7, 0, 2, 1, 0, 2, 2 => some (.instr (.mix2LI2 (fld w 0 6) (fld w 6 7) (fld w 13 7) (fld w 20 7)))
  | 0x7, 0, 2, 1, 0, 0, 3 => some (.instr (.pmin2I2 (fld w 0 6) (fld w 6 7) (fld w 13 7) (fld w 20 7)))
  | 0x7, 0, 2, 1, 0, 1, 3 => some (.instr (.pmax2I2 (fld w 0 6) (fld w 6 7) (fld w 13 7) (fld w 20 7)))
  | 0x7, 0, 2, 1, 0, 3, 3 => some (.instr (.pmpy2LI2 (fld w 0 6) (fld w 6 7) (fld w 13 7) (fld w 20 7)))
  | 0x7, 1, 0, 0, 0, 3, 1 => some (.instr (.mpy4I2 (fld w 0 6) (fld w 6 7) (fld w 13 7) (fld w 20 7)))
  | 0x7, 1, 0, 0, 0, 3, 3 => some (.instr (.mpyshl4I2 (fld w 0 6) (fld w 6 7) (fld w 13 7) (fld w 20 7)))
  | 0x7, 1, 2, 0, 0, 1, 0 => some (.instr (.unpack4HI2 (fld w 0 6) (fld w 6 7) (fld w 13 7) (fld w 20 7)))
  | 0x7, 1, 2, 0, 0, 2, 0 => some (.instr (.mix4RI2 (fld w 0 6) (fld w 6 7) (fld w 13 7) (fld w 20 7)))
  | 0x7, 1, 2, 0, 0, 0, 2 => some (.instr (.pack4SssI2 (fld w 0 6) (fld w 6 7) (fld w 13 7) (fld w 20 7)))
  | 0x7, 1, 2, 0, 0, 1, 2 => some (.instr (.unpack4LI2 (fld w 0 6) (fld w 6 7) (fld w 13 7) (fld w 20 7)))
  | 0x7, 1, 2, 0, 0, 2, 2 => some (.instr (.mix4LI2 (fld w 0 6) (fld w 6 7) (fld w 13 7) (fld w 20 7)))
  | _, _, _, _, _, _, _ => none

/-- Format I3 (R353): op 40:37, za 36, x2a 35:34, zb 33, ve 32, x2c 31:30, x2b 29:28. -/
noncomputable def decodeI3 (w : Slot) : Option SlotDecode :=
  match (fld w 37 4).toNat, (fld w 36 1).toNat, (fld w 34 2).toNat, (fld w 33 1).toNat, (fld w 32 1).toNat, (fld w 30 2).toNat, (fld w 28 2).toNat with
  | 0x7, 0, 3, 0, 0, 2, 2 => some (.instr (.mux1I3 (fld w 0 6) (fld w 6 7) (fld w 13 7) (fld w 20 4)))
  | _, _, _, _, _, _, _ => none

/-- Format I4 (R354): op 40:37, za 36, x2a 35:34, zb 33, ve 32, x2c 31:30, x2b 29:28. -/
noncomputable def decodeI4 (w : Slot) : Option SlotDecode :=
  match (fld w 37 4).toNat, (fld w 36 1).toNat, (fld w 34 2).toNat, (fld w 33 1).toNat, (fld w 32 1).toNat, (fld w 30 2).toNat, (fld w 28 2).toNat with
  | 0x7, 0, 3, 1, 0, 2, 2 => some (.instr (.mux2I4 (fld w 0 6) (fld w 6 7) (fld w 13 7) (fld w 20 8)))
  | _, _, _, _, _, _, _ => none

/-- Format I5 (R355): op 40:37, za 36, x2a 35:34, zb 33, ve 32, x2c 31:30, x2b 29:28. -/
noncomputable def decodeI5 (w : Slot) : Option SlotDecode :=
  match (fld w 37 4).toNat, (fld w 36 1).toNat, (fld w 34 2).toNat, (fld w 33 1).toNat, (fld w 32 1).toNat, (fld w 30 2).toNat, (fld w 28 2).toNat with
  | 0x7, 0, 0, 1, 0, 0, 2 => some (.instr (.pshr2I5 (fld w 0 6) (fld w 6 7) (fld w 13 7) (fld w 20 7)))
  | 0x7, 1, 0, 0, 0, 0, 2 => some (.instr (.pshr4I5 (fld w 0 6) (fld w 6 7) (fld w 13 7) (fld w 20 7)))
  | 0x7, 1, 0, 1, 0, 0, 2 => some (.instr (.shrI5 (fld w 0 6) (fld w 6 7) (fld w 13 7) (fld w 20 7)))
  | 0x7, 0, 0, 1, 0, 0, 0 => some (.instr (.pshr2UI5 (fld w 0 6) (fld w 6 7) (fld w 13 7) (fld w 20 7)))
  | 0x7, 1, 0, 0, 0, 0, 0 => some (.instr (.pshr4UI5 (fld w 0 6) (fld w 6 7) (fld w 13 7) (fld w 20 7)))
  | 0x7, 1, 0, 1, 0, 0, 0 => some (.instr (.shrUI5 (fld w 0 6) (fld w 6 7) (fld w 13 7) (fld w 20 7)))
  | _, _, _, _, _, _, _ => none

/-- Format I6 (R356): op 40:37, za 36, x2a 35:34, zb 33, ve 32, x2c 31:30, x2b 29:28. -/
noncomputable def decodeI6 (w : Slot) : Option SlotDecode :=
  match (fld w 37 4).toNat, (fld w 36 1).toNat, (fld w 34 2).toNat, (fld w 33 1).toNat, (fld w 32 1).toNat, (fld w 30 2).toNat, (fld w 28 2).toNat with
  | 0x7, 0, 1, 1, 0, 0, 3 => some (.instr (.pshr2I6 (fld w 0 6) (fld w 6 7) (fld w 20 7) (fld w 14 5)))
  | 0x7, 1, 1, 0, 0, 0, 3 => some (.instr (.pshr4I6 (fld w 0 6) (fld w 6 7) (fld w 20 7) (fld w 14 5)))
  | 0x7, 0, 1, 1, 0, 0, 1 => some (.instr (.pshr2UI6 (fld w 0 6) (fld w 6 7) (fld w 20 7) (fld w 14 5)))
  | 0x7, 1, 1, 0, 0, 0, 1 => some (.instr (.pshr4UI6 (fld w 0 6) (fld w 6 7) (fld w 20 7) (fld w 14 5)))
  | _, _, _, _, _, _, _ => none

/-- Format I7 (R357): op 40:37, za 36, x2a 35:34, zb 33, ve 32, x2c 31:30, x2b 29:28. -/
noncomputable def decodeI7 (w : Slot) : Option SlotDecode :=
  match (fld w 37 4).toNat, (fld w 36 1).toNat, (fld w 34 2).toNat, (fld w 33 1).toNat, (fld w 32 1).toNat, (fld w 30 2).toNat, (fld w 28 2).toNat with
  | 0x7, 0, 0, 1, 0, 1, 0 => some (.instr (.pshl2I7 (fld w 0 6) (fld w 6 7) (fld w 13 7) (fld w 20 7)))
  | 0x7, 1, 0, 0, 0, 1, 0 => some (.instr (.pshl4I7 (fld w 0 6) (fld w 6 7) (fld w 13 7) (fld w 20 7)))
  | 0x7, 1, 0, 1, 0, 1, 0 => some (.instr (.shlI7 (fld w 0 6) (fld w 6 7) (fld w 13 7) (fld w 20 7)))
  | _, _, _, _, _, _, _ => none

/-- Format I8 (R358): op 40:37, za 36, x2a 35:34, zb 33, ve 32, x2c 31:30, x2b 29:28. -/
noncomputable def decodeI8 (w : Slot) : Option SlotDecode :=
  match (fld w 37 4).toNat, (fld w 36 1).toNat, (fld w 34 2).toNat, (fld w 33 1).toNat, (fld w 32 1).toNat, (fld w 30 2).toNat, (fld w 28 2).toNat with
  | 0x7, 0, 3, 1, 0, 1, 1 => some (.instr (.pshl2I8 (fld w 0 6) (fld w 6 7) (fld w 13 7) (fld w 20 5)))
  | 0x7, 1, 3, 0, 0, 1, 1 => some (.instr (.pshl4I8 (fld w 0 6) (fld w 6 7) (fld w 13 7) (fld w 20 5)))
  | _, _, _, _, _, _, _ => none

/-- Format I9 (R359): op 40:37, za 36, x2a 35:34, zb 33, ve 32, x2c 31:30, x2b 29:28. -/
noncomputable def decodeI9 (w : Slot) : Option SlotDecode :=
  match (fld w 37 4).toNat, (fld w 36 1).toNat, (fld w 34 2).toNat, (fld w 33 1).toNat, (fld w 32 1).toNat, (fld w 30 2).toNat, (fld w 28 2).toNat with
  | 0x7, 0, 1, 1, 0, 2, 1 => some (zeroChecked (fld w 13 7) w (.popcntI9 (fld w 0 6) (fld w 6 7) (fld w 20 7)))
  | 0x7, 0, 1, 1, 0, 3, 1 => some (zeroChecked (fld w 13 7) w (.clzI9 (fld w 0 6) (fld w 6 7) (fld w 20 7)))
  | _, _, _, _, _, _, _ => none

/-- Format I10 (R361): op 40:37, x2 35:34, x 33. -/
noncomputable def decodeI10 (w : Slot) : Option SlotDecode :=
  match (fld w 37 4).toNat, (fld w 34 2).toNat, (fld w 33 1).toNat with
  | 0x5, 3, 0 => some (.instr (.shrpI10 (fld w 0 6) (fld w 6 7) (fld w 13 7) (fld w 20 7) (fld w 27 6)))
  | _, _, _ => none

/-- Format I11 (R362): op 40:37, x2 35:34, x 33, y 13. -/
noncomputable def decodeI11 (w : Slot) : Option SlotDecode :=
  match (fld w 37 4).toNat, (fld w 34 2).toNat, (fld w 33 1).toNat, (fld w 13 1).toNat with
  | 0x5, 1, 0, 0 => some (.instr (.extrUI11 (fld w 0 6) (fld w 6 7) (fld w 20 7) (fld w 27 6) (fld w 14 6)))
  | 0x5, 1, 0, 1 => some (.instr (.extrI11 (fld w 0 6) (fld w 6 7) (fld w 20 7) (fld w 27 6) (fld w 14 6)))
  | _, _, _, _ => none

/-- Format I12 (R363): op 40:37, x2 35:34, x 33, y 26. -/
noncomputable def decodeI12 (w : Slot) : Option SlotDecode :=
  match (fld w 37 4).toNat, (fld w 34 2).toNat, (fld w 33 1).toNat, (fld w 26 1).toNat with
  | 0x5, 1, 1, 0 => some (.instr (.depZI12 (fld w 0 6) (fld w 6 7) (fld w 13 7) (fld w 27 6) (fld w 20 6)))
  | _, _, _, _ => none

/-- Format I13 (R364): op 40:37, x2 35:34, x 33, y 26. -/
noncomputable def decodeI13 (w : Slot) : Option SlotDecode :=
  match (fld w 37 4).toNat, (fld w 34 2).toNat, (fld w 33 1).toNat, (fld w 26 1).toNat with
  | 0x5, 1, 1, 1 => some (.instr (.depZI13 (fld w 0 6) (fld w 6 7) (fld w 27 6) (fld w 20 6) (fld w 36 1 ++ fld w 13 7)))
  | _, _, _, _ => none

/-- Format I14 (R365): op 40:37, x2 35:34, x 33. -/
noncomputable def decodeI14 (w : Slot) : Option SlotDecode :=
  match (fld w 37 4).toNat, (fld w 34 2).toNat, (fld w 33 1).toNat with
  | 0x5, 3, 1 => some (.instr (.depI14 (fld w 0 6) (fld w 6 7) (fld w 20 7) (fld w 27 6) (fld w 14 6) (fld w 36 1)))
  | _, _, _ => none

/-- Format I15 (R366): op 40:37. -/
noncomputable def decodeI15 (w : Slot) : Option SlotDecode :=
  match (fld w 37 4).toNat with
  | 0x4 => some (.instr (.depI15 (fld w 0 6) (fld w 6 7) (fld w 13 7) (fld w 20 7) (fld w 31 6) (fld w 27 4)))
  | _ => none

/-- Format I16 (R367): op 40:37, tb 36, x2 35:34, ta 33, y 13, c 12. -/
noncomputable def decodeI16 (w : Slot) : Option SlotDecode :=
  match (fld w 37 4).toNat, (fld w 36 1).toNat, (fld w 34 2).toNat, (fld w 33 1).toNat, (fld w 13 1).toNat, (fld w 12 1).toNat with
  | 0x5, 0, 0, 0, 0, 0 => some (.instr (.tbitZI16 (fld w 0 6) (fld w 6 6) (fld w 27 6) (fld w 20 7) (fld w 14 6)))
  | 0x5, 0, 0, 0, 0, 1 => some (.instr (.tbitZUncI16 (fld w 0 6) (fld w 6 6) (fld w 27 6) (fld w 20 7) (fld w 14 6)))
  | 0x5, 1, 0, 0, 0, 0 => some (.instr (.tbitZAndI16 (fld w 0 6) (fld w 6 6) (fld w 27 6) (fld w 20 7) (fld w 14 6)))
  | 0x5, 1, 0, 0, 0, 1 => some (.instr (.tbitNzAndI16 (fld w 0 6) (fld w 6 6) (fld w 27 6) (fld w 20 7) (fld w 14 6)))
  | 0x5, 0, 0, 1, 0, 0 => some (.instr (.tbitZOrI16 (fld w 0 6) (fld w 6 6) (fld w 27 6) (fld w 20 7) (fld w 14 6)))
  | 0x5, 0, 0, 1, 0, 1 => some (.instr (.tbitNzOrI16 (fld w 0 6) (fld w 6 6) (fld w 27 6) (fld w 20 7) (fld w 14 6)))
  | 0x5, 1, 0, 1, 0, 0 => some (.instr (.tbitZOrAndcmI16 (fld w 0 6) (fld w 6 6) (fld w 27 6) (fld w 20 7) (fld w 14 6)))
  | 0x5, 1, 0, 1, 0, 1 => some (.instr (.tbitNzOrAndcmI16 (fld w 0 6) (fld w 6 6) (fld w 27 6) (fld w 20 7) (fld w 14 6)))
  | _, _, _, _, _, _ => none

/-- Format I17 (R368): op 40:37, tb 36, x2 35:34, ta 33, x 19, y 13, c 12. -/
noncomputable def decodeI17 (w : Slot) : Option SlotDecode :=
  match (fld w 37 4).toNat, (fld w 36 1).toNat, (fld w 34 2).toNat, (fld w 33 1).toNat, (fld w 19 1).toNat, (fld w 13 1).toNat, (fld w 12 1).toNat with
  | 0x5, 0, 0, 0, 0, 1, 0 => some (.instr (.tnatZI17 (fld w 0 6) (fld w 6 6) (fld w 27 6) (fld w 20 7)))
  | 0x5, 0, 0, 0, 0, 1, 1 => some (.instr (.tnatZUncI17 (fld w 0 6) (fld w 6 6) (fld w 27 6) (fld w 20 7)))
  | 0x5, 1, 0, 0, 0, 1, 0 => some (.instr (.tnatZAndI17 (fld w 0 6) (fld w 6 6) (fld w 27 6) (fld w 20 7)))
  | 0x5, 1, 0, 0, 0, 1, 1 => some (.instr (.tnatNzAndI17 (fld w 0 6) (fld w 6 6) (fld w 27 6) (fld w 20 7)))
  | 0x5, 0, 0, 1, 0, 1, 0 => some (.instr (.tnatZOrI17 (fld w 0 6) (fld w 6 6) (fld w 27 6) (fld w 20 7)))
  | 0x5, 0, 0, 1, 0, 1, 1 => some (.instr (.tnatNzOrI17 (fld w 0 6) (fld w 6 6) (fld w 27 6) (fld w 20 7)))
  | 0x5, 1, 0, 1, 0, 1, 0 => some (.instr (.tnatZOrAndcmI17 (fld w 0 6) (fld w 6 6) (fld w 27 6) (fld w 20 7)))
  | 0x5, 1, 0, 1, 0, 1, 1 => some (.instr (.tnatNzOrAndcmI17 (fld w 0 6) (fld w 6 6) (fld w 27 6) (fld w 20 7)))
  | _, _, _, _, _, _, _ => none

/-- Format I30 (R369): op 40:37, tb 36, x2 35:34, ta 33, x 19, y 13, c 12. -/
noncomputable def decodeI30 (w : Slot) : Option SlotDecode :=
  match (fld w 37 4).toNat, (fld w 36 1).toNat, (fld w 34 2).toNat, (fld w 33 1).toNat, (fld w 19 1).toNat, (fld w 13 1).toNat, (fld w 12 1).toNat with
  | 0x5, 0, 0, 0, 1, 1, 0 => some (zeroChecked (fld w 20 7) w (.tfZI30 (fld w 0 6) (fld w 6 6) (fld w 27 6) (fld w 14 5)))
  | 0x5, 0, 0, 0, 1, 1, 1 => some (zeroChecked (fld w 20 7) w (.tfZUncI30 (fld w 0 6) (fld w 6 6) (fld w 27 6) (fld w 14 5)))
  | 0x5, 1, 0, 0, 1, 1, 0 => some (zeroChecked (fld w 20 7) w (.tfZAndI30 (fld w 0 6) (fld w 6 6) (fld w 27 6) (fld w 14 5)))
  | 0x5, 1, 0, 0, 1, 1, 1 => some (zeroChecked (fld w 20 7) w (.tfNzAndI30 (fld w 0 6) (fld w 6 6) (fld w 27 6) (fld w 14 5)))
  | 0x5, 0, 0, 1, 1, 1, 0 => some (zeroChecked (fld w 20 7) w (.tfZOrI30 (fld w 0 6) (fld w 6 6) (fld w 27 6) (fld w 14 5)))
  | 0x5, 0, 0, 1, 1, 1, 1 => some (zeroChecked (fld w 20 7) w (.tfNzOrI30 (fld w 0 6) (fld w 6 6) (fld w 27 6) (fld w 14 5)))
  | 0x5, 1, 0, 1, 1, 1, 0 => some (zeroChecked (fld w 20 7) w (.tfZOrAndcmI30 (fld w 0 6) (fld w 6 6) (fld w 27 6) (fld w 14 5)))
  | 0x5, 1, 0, 1, 1, 1, 1 => some (zeroChecked (fld w 20 7) w (.tfNzOrAndcmI30 (fld w 0 6) (fld w 6 6) (fld w 27 6) (fld w 14 5)))
  | _, _, _, _, _, _, _ => none

/-- Format I18 (R371): op 40:37, x3 35:33, x6 32:27, y 26. -/
noncomputable def decodeI18 (w : Slot) : Option SlotDecode :=
  match (fld w 37 4).toNat, (fld w 33 3).toNat, (fld w 27 6).toNat, (fld w 26 1).toNat with
  | 0x0, 0, 0x1, 0 => some (.instr (.nopII18 (fld w 0 6) (fld w 36 1 ++ fld w 6 20)))
  | 0x0, 0, 0x1, 1 => some (.instr (.hintII18 (fld w 0 6) (fld w 36 1 ++ fld w 6 20)))
  | _, _, _, _ => none

/-- Format I19 (R372): op 40:37, x3 35:33, x6 32:27. -/
noncomputable def decodeI19 (w : Slot) : Option SlotDecode :=
  match (fld w 37 4).toNat, (fld w 33 3).toNat, (fld w 27 6).toNat with
  | 0x0, 0, 0x0 => some (.instr (.breakII19 (fld w 0 6) (fld w 36 1 ++ fld w 6 20)))
  | _, _, _ => none

/-- Format I20 (R373): op 40:37, x3 35:33. -/
noncomputable def decodeI20 (w : Slot) : Option SlotDecode :=
  match (fld w 37 4).toNat, (fld w 33 3).toNat with
  | 0x0, 1 => some (.instr (.chkSII20 (fld w 0 6) (fld w 13 7) (fld w 36 1 ++ fld w 20 13 ++ fld w 6 7)))
  | _, _ => none

/-- Format I21 (R376): op 40:37, x3 35:33, x 22. -/
noncomputable def decodeI21 (w : Slot) : Option SlotDecode :=
  match (fld w 37 4).toNat, (fld w 33 3).toNat, (fld w 22 1).toNat with
  | 0x0, 7, 0 => some (.instr (.movToBrI21 (fld w 0 6) (fld w 6 3) (fld w 13 7) (fld w 24 9) (fld w 23 1) (fld w 20 2) (fld w 12 1) (fld w 9 3)))
  | 0x0, 7, 1 => some (.instr (.movRetToBrI21 (fld w 0 6) (fld w 6 3) (fld w 13 7) (fld w 24 9) (fld w 23 1) (fld w 20 2) (fld w 12 1) (fld w 9 3)))
  | _, _, _ => none

/-- Format I22 (R377): op 40:37, x3 35:33, x6 32:27. -/
noncomputable def decodeI22 (w : Slot) : Option SlotDecode :=
  match (fld w 37 4).toNat, (fld w 33 3).toNat, (fld w 27 6).toNat with
  | 0x0, 0, 0x31 => some (.instr (.movFromBrI22 (fld w 0 6) (fld w 6 7) (fld w 13 3)))
  | _, _, _ => none

/-- Format I23 (R378): op 40:37, x3 35:33. -/
noncomputable def decodeI23 (w : Slot) : Option SlotDecode :=
  match (fld w 37 4).toNat, (fld w 33 3).toNat with
  | 0x0, 3 => some (.instr (.movToPrI23 (fld w 0 6) (fld w 13 7) (fld w 36 1 ++ fld w 24 8 ++ fld w 6 7)))
  | _, _ => none

/-- Format I24 (R379): op 40:37, x3 35:33. -/
noncomputable def decodeI24 (w : Slot) : Option SlotDecode :=
  match (fld w 37 4).toNat, (fld w 33 3).toNat with
  | 0x0, 2 => some (.instr (.movToPrRotI24 (fld w 0 6) (fld w 36 1 ++ fld w 6 27)))
  | _, _ => none

/-- Format I25 (R380): op 40:37, x3 35:33, x6 32:27. -/
noncomputable def decodeI25 (w : Slot) : Option SlotDecode :=
  match (fld w 37 4).toNat, (fld w 33 3).toNat, (fld w 27 6).toNat with
  | 0x0, 0, 0x30 => some (.instr (.movFromIpI25 (fld w 0 6) (fld w 6 7)))
  | 0x0, 0, 0x33 => some (.instr (.movFromPrI25 (fld w 0 6) (fld w 6 7)))
  | _, _, _ => none

/-- Format I26 (R381): op 40:37, x3 35:33, x6 32:27. -/
noncomputable def decodeI26 (w : Slot) : Option SlotDecode :=
  match (fld w 37 4).toNat, (fld w 33 3).toNat, (fld w 27 6).toNat with
  | 0x0, 0, 0x2a => some (.instr (.movIToArI26 (fld w 0 6) (fld w 13 7) (fld w 20 7)))
  | _, _, _ => none

/-- Format I27 (R382): op 40:37, x3 35:33, x6 32:27. -/
noncomputable def decodeI27 (w : Slot) : Option SlotDecode :=
  match (fld w 37 4).toNat, (fld w 33 3).toNat, (fld w 27 6).toNat with
  | 0x0, 0, 0xa => some (.instr (.movIToArImmI27 (fld w 0 6) (fld w 20 7) (fld w 36 1 ++ fld w 13 7)))
  | _, _, _ => none

/-- Format I28 (R383): op 40:37, x3 35:33, x6 32:27. -/
noncomputable def decodeI28 (w : Slot) : Option SlotDecode :=
  match (fld w 37 4).toNat, (fld w 33 3).toNat, (fld w 27 6).toNat with
  | 0x0, 0, 0x32 => some (.instr (.movIFromArI28 (fld w 0 6) (fld w 6 7) (fld w 20 7)))
  | _, _, _ => none

/-- Format I29 (R384): op 40:37, x3 35:33, x6 32:27. -/
noncomputable def decodeI29 (w : Slot) : Option SlotDecode :=
  match (fld w 37 4).toNat, (fld w 33 3).toNat, (fld w 27 6).toNat with
  | 0x0, 0, 0x10 => some (.instr (.zxt1I29 (fld w 0 6) (fld w 6 7) (fld w 20 7)))
  | 0x0, 0, 0x11 => some (.instr (.zxt2I29 (fld w 0 6) (fld w 6 7) (fld w 20 7)))
  | 0x0, 0, 0x12 => some (.instr (.zxt4I29 (fld w 0 6) (fld w 6 7) (fld w 20 7)))
  | 0x0, 0, 0x14 => some (.instr (.sxt1I29 (fld w 0 6) (fld w 6 7) (fld w 20 7)))
  | 0x0, 0, 0x15 => some (.instr (.sxt2I29 (fld w 0 6) (fld w 6 7) (fld w 20 7)))
  | 0x0, 0, 0x16 => some (.instr (.sxt4I29 (fld w 0 6) (fld w 6 7) (fld w 20 7)))
  | 0x0, 0, 0x18 => some (.instr (.czx1LI29 (fld w 0 6) (fld w 6 7) (fld w 20 7)))
  | 0x0, 0, 0x19 => some (.instr (.czx2LI29 (fld w 0 6) (fld w 6 7) (fld w 20 7)))
  | 0x0, 0, 0x1c => some (.instr (.czx1RI29 (fld w 0 6) (fld w 6 7) (fld w 20 7)))
  | 0x0, 0, 0x1d => some (.instr (.czx2RI29 (fld w 0 6) (fld w 6 7) (fld w 20 7)))
  | _, _, _ => none

/-- Format M1 (R405): op 40:37, m 36, x6 35:30, x 27. -/
noncomputable def decodeM1 (w : Slot) : Option SlotDecode :=
  match (fld w 37 4).toNat, (fld w 36 1).toNat, (fld w 30 6).toNat, (fld w 27 1).toNat with
  | 0x4, 0, 0x0, 0 => some (.instr (.ld1M1 (fld w 0 6) (fld w 6 7) (fld w 20 7) (fld w 28 2) (fld w 19 1)))
  | 0x4, 0, 0x1, 0 => some (.instr (.ld2M1 (fld w 0 6) (fld w 6 7) (fld w 20 7) (fld w 28 2) (fld w 19 1)))
  | 0x4, 0, 0x2, 0 => some (.instr (.ld4M1 (fld w 0 6) (fld w 6 7) (fld w 20 7) (fld w 28 2) (fld w 19 1)))
  | 0x4, 0, 0x3, 0 => some (.instr (.ld8M1 (fld w 0 6) (fld w 6 7) (fld w 20 7) (fld w 28 2) (fld w 19 1)))
  | 0x4, 0, 0x4, 0 => some (.instr (.ld1SM1 (fld w 0 6) (fld w 6 7) (fld w 20 7) (fld w 28 2) (fld w 19 1)))
  | 0x4, 0, 0x5, 0 => some (.instr (.ld2SM1 (fld w 0 6) (fld w 6 7) (fld w 20 7) (fld w 28 2) (fld w 19 1)))
  | 0x4, 0, 0x6, 0 => some (.instr (.ld4SM1 (fld w 0 6) (fld w 6 7) (fld w 20 7) (fld w 28 2) (fld w 19 1)))
  | 0x4, 0, 0x7, 0 => some (.instr (.ld8SM1 (fld w 0 6) (fld w 6 7) (fld w 20 7) (fld w 28 2) (fld w 19 1)))
  | 0x4, 0, 0x8, 0 => some (.instr (.ld1AM1 (fld w 0 6) (fld w 6 7) (fld w 20 7) (fld w 28 2) (fld w 19 1)))
  | 0x4, 0, 0x9, 0 => some (.instr (.ld2AM1 (fld w 0 6) (fld w 6 7) (fld w 20 7) (fld w 28 2) (fld w 19 1)))
  | 0x4, 0, 0xa, 0 => some (.instr (.ld4AM1 (fld w 0 6) (fld w 6 7) (fld w 20 7) (fld w 28 2) (fld w 19 1)))
  | 0x4, 0, 0xb, 0 => some (.instr (.ld8AM1 (fld w 0 6) (fld w 6 7) (fld w 20 7) (fld w 28 2) (fld w 19 1)))
  | 0x4, 0, 0xc, 0 => some (.instr (.ld1SaM1 (fld w 0 6) (fld w 6 7) (fld w 20 7) (fld w 28 2) (fld w 19 1)))
  | 0x4, 0, 0xd, 0 => some (.instr (.ld2SaM1 (fld w 0 6) (fld w 6 7) (fld w 20 7) (fld w 28 2) (fld w 19 1)))
  | 0x4, 0, 0xe, 0 => some (.instr (.ld4SaM1 (fld w 0 6) (fld w 6 7) (fld w 20 7) (fld w 28 2) (fld w 19 1)))
  | 0x4, 0, 0xf, 0 => some (.instr (.ld8SaM1 (fld w 0 6) (fld w 6 7) (fld w 20 7) (fld w 28 2) (fld w 19 1)))
  | 0x4, 0, 0x10, 0 => some (.instr (.ld1BiasM1 (fld w 0 6) (fld w 6 7) (fld w 20 7) (fld w 28 2) (fld w 19 1)))
  | 0x4, 0, 0x11, 0 => some (.instr (.ld2BiasM1 (fld w 0 6) (fld w 6 7) (fld w 20 7) (fld w 28 2) (fld w 19 1)))
  | 0x4, 0, 0x12, 0 => some (.instr (.ld4BiasM1 (fld w 0 6) (fld w 6 7) (fld w 20 7) (fld w 28 2) (fld w 19 1)))
  | 0x4, 0, 0x13, 0 => some (.instr (.ld8BiasM1 (fld w 0 6) (fld w 6 7) (fld w 20 7) (fld w 28 2) (fld w 19 1)))
  | 0x4, 0, 0x14, 0 => some (.instr (.ld1AcqM1 (fld w 0 6) (fld w 6 7) (fld w 20 7) (fld w 28 2) (fld w 19 1)))
  | 0x4, 0, 0x15, 0 => some (.instr (.ld2AcqM1 (fld w 0 6) (fld w 6 7) (fld w 20 7) (fld w 28 2) (fld w 19 1)))
  | 0x4, 0, 0x16, 0 => some (.instr (.ld4AcqM1 (fld w 0 6) (fld w 6 7) (fld w 20 7) (fld w 28 2) (fld w 19 1)))
  | 0x4, 0, 0x17, 0 => some (.instr (.ld8AcqM1 (fld w 0 6) (fld w 6 7) (fld w 20 7) (fld w 28 2) (fld w 19 1)))
  | 0x4, 0, 0x20, 0 => some (.instr (.ld1CClrM1 (fld w 0 6) (fld w 6 7) (fld w 20 7) (fld w 28 2) (fld w 19 1)))
  | 0x4, 0, 0x21, 0 => some (.instr (.ld2CClrM1 (fld w 0 6) (fld w 6 7) (fld w 20 7) (fld w 28 2) (fld w 19 1)))
  | 0x4, 0, 0x22, 0 => some (.instr (.ld4CClrM1 (fld w 0 6) (fld w 6 7) (fld w 20 7) (fld w 28 2) (fld w 19 1)))
  | 0x4, 0, 0x23, 0 => some (.instr (.ld8CClrM1 (fld w 0 6) (fld w 6 7) (fld w 20 7) (fld w 28 2) (fld w 19 1)))
  | 0x4, 0, 0x24, 0 => some (.instr (.ld1CNcM1 (fld w 0 6) (fld w 6 7) (fld w 20 7) (fld w 28 2) (fld w 19 1)))
  | 0x4, 0, 0x25, 0 => some (.instr (.ld2CNcM1 (fld w 0 6) (fld w 6 7) (fld w 20 7) (fld w 28 2) (fld w 19 1)))
  | 0x4, 0, 0x26, 0 => some (.instr (.ld4CNcM1 (fld w 0 6) (fld w 6 7) (fld w 20 7) (fld w 28 2) (fld w 19 1)))
  | 0x4, 0, 0x27, 0 => some (.instr (.ld8CNcM1 (fld w 0 6) (fld w 6 7) (fld w 20 7) (fld w 28 2) (fld w 19 1)))
  | 0x4, 0, 0x28, 0 => some (.instr (.ld1CClrAcqM1 (fld w 0 6) (fld w 6 7) (fld w 20 7) (fld w 28 2) (fld w 19 1)))
  | 0x4, 0, 0x29, 0 => some (.instr (.ld2CClrAcqM1 (fld w 0 6) (fld w 6 7) (fld w 20 7) (fld w 28 2) (fld w 19 1)))
  | 0x4, 0, 0x2a, 0 => some (.instr (.ld4CClrAcqM1 (fld w 0 6) (fld w 6 7) (fld w 20 7) (fld w 28 2) (fld w 19 1)))
  | 0x4, 0, 0x2b, 0 => some (.instr (.ld8CClrAcqM1 (fld w 0 6) (fld w 6 7) (fld w 20 7) (fld w 28 2) (fld w 19 1)))
  | 0x4, 0, 0x1b, 0 => some (.instr (.ld8FillM1 (fld w 0 6) (fld w 6 7) (fld w 20 7) (fld w 28 2) (fld w 19 1)))
  | 0x4, 0, 0x28, 1 => some (.instr (.ld16M1 (fld w 0 6) (fld w 6 7) (fld w 20 7) (fld w 28 2) (fld w 19 1)))
  | 0x4, 0, 0x2c, 1 => some (.instr (.ld16AcqM1 (fld w 0 6) (fld w 6 7) (fld w 20 7) (fld w 28 2) (fld w 19 1)))
  | _, _, _, _ => none

/-- Format M2 (R406): op 40:37, m 36, x6 35:30, x 27. -/
noncomputable def decodeM2 (w : Slot) : Option SlotDecode :=
  match (fld w 37 4).toNat, (fld w 36 1).toNat, (fld w 30 6).toNat, (fld w 27 1).toNat with
  | 0x4, 1, 0x0, 0 => some (.instr (.ld1M2 (fld w 0 6) (fld w 6 7) (fld w 13 7) (fld w 20 7) (fld w 28 2)))
  | 0x4, 1, 0x1, 0 => some (.instr (.ld2M2 (fld w 0 6) (fld w 6 7) (fld w 13 7) (fld w 20 7) (fld w 28 2)))
  | 0x4, 1, 0x2, 0 => some (.instr (.ld4M2 (fld w 0 6) (fld w 6 7) (fld w 13 7) (fld w 20 7) (fld w 28 2)))
  | 0x4, 1, 0x3, 0 => some (.instr (.ld8M2 (fld w 0 6) (fld w 6 7) (fld w 13 7) (fld w 20 7) (fld w 28 2)))
  | 0x4, 1, 0x4, 0 => some (.instr (.ld1SM2 (fld w 0 6) (fld w 6 7) (fld w 13 7) (fld w 20 7) (fld w 28 2)))
  | 0x4, 1, 0x5, 0 => some (.instr (.ld2SM2 (fld w 0 6) (fld w 6 7) (fld w 13 7) (fld w 20 7) (fld w 28 2)))
  | 0x4, 1, 0x6, 0 => some (.instr (.ld4SM2 (fld w 0 6) (fld w 6 7) (fld w 13 7) (fld w 20 7) (fld w 28 2)))
  | 0x4, 1, 0x7, 0 => some (.instr (.ld8SM2 (fld w 0 6) (fld w 6 7) (fld w 13 7) (fld w 20 7) (fld w 28 2)))
  | 0x4, 1, 0x8, 0 => some (.instr (.ld1AM2 (fld w 0 6) (fld w 6 7) (fld w 13 7) (fld w 20 7) (fld w 28 2)))
  | 0x4, 1, 0x9, 0 => some (.instr (.ld2AM2 (fld w 0 6) (fld w 6 7) (fld w 13 7) (fld w 20 7) (fld w 28 2)))
  | 0x4, 1, 0xa, 0 => some (.instr (.ld4AM2 (fld w 0 6) (fld w 6 7) (fld w 13 7) (fld w 20 7) (fld w 28 2)))
  | 0x4, 1, 0xb, 0 => some (.instr (.ld8AM2 (fld w 0 6) (fld w 6 7) (fld w 13 7) (fld w 20 7) (fld w 28 2)))
  | 0x4, 1, 0xc, 0 => some (.instr (.ld1SaM2 (fld w 0 6) (fld w 6 7) (fld w 13 7) (fld w 20 7) (fld w 28 2)))
  | 0x4, 1, 0xd, 0 => some (.instr (.ld2SaM2 (fld w 0 6) (fld w 6 7) (fld w 13 7) (fld w 20 7) (fld w 28 2)))
  | 0x4, 1, 0xe, 0 => some (.instr (.ld4SaM2 (fld w 0 6) (fld w 6 7) (fld w 13 7) (fld w 20 7) (fld w 28 2)))
  | 0x4, 1, 0xf, 0 => some (.instr (.ld8SaM2 (fld w 0 6) (fld w 6 7) (fld w 13 7) (fld w 20 7) (fld w 28 2)))
  | 0x4, 1, 0x10, 0 => some (.instr (.ld1BiasM2 (fld w 0 6) (fld w 6 7) (fld w 13 7) (fld w 20 7) (fld w 28 2)))
  | 0x4, 1, 0x11, 0 => some (.instr (.ld2BiasM2 (fld w 0 6) (fld w 6 7) (fld w 13 7) (fld w 20 7) (fld w 28 2)))
  | 0x4, 1, 0x12, 0 => some (.instr (.ld4BiasM2 (fld w 0 6) (fld w 6 7) (fld w 13 7) (fld w 20 7) (fld w 28 2)))
  | 0x4, 1, 0x13, 0 => some (.instr (.ld8BiasM2 (fld w 0 6) (fld w 6 7) (fld w 13 7) (fld w 20 7) (fld w 28 2)))
  | 0x4, 1, 0x14, 0 => some (.instr (.ld1AcqM2 (fld w 0 6) (fld w 6 7) (fld w 13 7) (fld w 20 7) (fld w 28 2)))
  | 0x4, 1, 0x15, 0 => some (.instr (.ld2AcqM2 (fld w 0 6) (fld w 6 7) (fld w 13 7) (fld w 20 7) (fld w 28 2)))
  | 0x4, 1, 0x16, 0 => some (.instr (.ld4AcqM2 (fld w 0 6) (fld w 6 7) (fld w 13 7) (fld w 20 7) (fld w 28 2)))
  | 0x4, 1, 0x17, 0 => some (.instr (.ld8AcqM2 (fld w 0 6) (fld w 6 7) (fld w 13 7) (fld w 20 7) (fld w 28 2)))
  | 0x4, 1, 0x20, 0 => some (.instr (.ld1CClrM2 (fld w 0 6) (fld w 6 7) (fld w 13 7) (fld w 20 7) (fld w 28 2)))
  | 0x4, 1, 0x21, 0 => some (.instr (.ld2CClrM2 (fld w 0 6) (fld w 6 7) (fld w 13 7) (fld w 20 7) (fld w 28 2)))
  | 0x4, 1, 0x22, 0 => some (.instr (.ld4CClrM2 (fld w 0 6) (fld w 6 7) (fld w 13 7) (fld w 20 7) (fld w 28 2)))
  | 0x4, 1, 0x23, 0 => some (.instr (.ld8CClrM2 (fld w 0 6) (fld w 6 7) (fld w 13 7) (fld w 20 7) (fld w 28 2)))
  | 0x4, 1, 0x24, 0 => some (.instr (.ld1CNcM2 (fld w 0 6) (fld w 6 7) (fld w 13 7) (fld w 20 7) (fld w 28 2)))
  | 0x4, 1, 0x25, 0 => some (.instr (.ld2CNcM2 (fld w 0 6) (fld w 6 7) (fld w 13 7) (fld w 20 7) (fld w 28 2)))
  | 0x4, 1, 0x26, 0 => some (.instr (.ld4CNcM2 (fld w 0 6) (fld w 6 7) (fld w 13 7) (fld w 20 7) (fld w 28 2)))
  | 0x4, 1, 0x27, 0 => some (.instr (.ld8CNcM2 (fld w 0 6) (fld w 6 7) (fld w 13 7) (fld w 20 7) (fld w 28 2)))
  | 0x4, 1, 0x28, 0 => some (.instr (.ld1CClrAcqM2 (fld w 0 6) (fld w 6 7) (fld w 13 7) (fld w 20 7) (fld w 28 2)))
  | 0x4, 1, 0x29, 0 => some (.instr (.ld2CClrAcqM2 (fld w 0 6) (fld w 6 7) (fld w 13 7) (fld w 20 7) (fld w 28 2)))
  | 0x4, 1, 0x2a, 0 => some (.instr (.ld4CClrAcqM2 (fld w 0 6) (fld w 6 7) (fld w 13 7) (fld w 20 7) (fld w 28 2)))
  | 0x4, 1, 0x2b, 0 => some (.instr (.ld8CClrAcqM2 (fld w 0 6) (fld w 6 7) (fld w 13 7) (fld w 20 7) (fld w 28 2)))
  | 0x4, 1, 0x1b, 0 => some (.instr (.ld8FillM2 (fld w 0 6) (fld w 6 7) (fld w 13 7) (fld w 20 7) (fld w 28 2)))
  | _, _, _, _ => none

/-- Format M3 (R407): op 40:37, x6 35:30. -/
noncomputable def decodeM3 (w : Slot) : Option SlotDecode :=
  match (fld w 37 4).toNat, (fld w 30 6).toNat with
  | 0x5, 0x0 => some (.instr (.ld1M3 (fld w 0 6) (fld w 6 7) (fld w 20 7) (fld w 28 2) (fld w 36 1 ++ fld w 27 1 ++ fld w 13 7)))
  | 0x5, 0x1 => some (.instr (.ld2M3 (fld w 0 6) (fld w 6 7) (fld w 20 7) (fld w 28 2) (fld w 36 1 ++ fld w 27 1 ++ fld w 13 7)))
  | 0x5, 0x2 => some (.instr (.ld4M3 (fld w 0 6) (fld w 6 7) (fld w 20 7) (fld w 28 2) (fld w 36 1 ++ fld w 27 1 ++ fld w 13 7)))
  | 0x5, 0x3 => some (.instr (.ld8M3 (fld w 0 6) (fld w 6 7) (fld w 20 7) (fld w 28 2) (fld w 36 1 ++ fld w 27 1 ++ fld w 13 7)))
  | 0x5, 0x4 => some (.instr (.ld1SM3 (fld w 0 6) (fld w 6 7) (fld w 20 7) (fld w 28 2) (fld w 36 1 ++ fld w 27 1 ++ fld w 13 7)))
  | 0x5, 0x5 => some (.instr (.ld2SM3 (fld w 0 6) (fld w 6 7) (fld w 20 7) (fld w 28 2) (fld w 36 1 ++ fld w 27 1 ++ fld w 13 7)))
  | 0x5, 0x6 => some (.instr (.ld4SM3 (fld w 0 6) (fld w 6 7) (fld w 20 7) (fld w 28 2) (fld w 36 1 ++ fld w 27 1 ++ fld w 13 7)))
  | 0x5, 0x7 => some (.instr (.ld8SM3 (fld w 0 6) (fld w 6 7) (fld w 20 7) (fld w 28 2) (fld w 36 1 ++ fld w 27 1 ++ fld w 13 7)))
  | 0x5, 0x8 => some (.instr (.ld1AM3 (fld w 0 6) (fld w 6 7) (fld w 20 7) (fld w 28 2) (fld w 36 1 ++ fld w 27 1 ++ fld w 13 7)))
  | 0x5, 0x9 => some (.instr (.ld2AM3 (fld w 0 6) (fld w 6 7) (fld w 20 7) (fld w 28 2) (fld w 36 1 ++ fld w 27 1 ++ fld w 13 7)))
  | 0x5, 0xa => some (.instr (.ld4AM3 (fld w 0 6) (fld w 6 7) (fld w 20 7) (fld w 28 2) (fld w 36 1 ++ fld w 27 1 ++ fld w 13 7)))
  | 0x5, 0xb => some (.instr (.ld8AM3 (fld w 0 6) (fld w 6 7) (fld w 20 7) (fld w 28 2) (fld w 36 1 ++ fld w 27 1 ++ fld w 13 7)))
  | 0x5, 0xc => some (.instr (.ld1SaM3 (fld w 0 6) (fld w 6 7) (fld w 20 7) (fld w 28 2) (fld w 36 1 ++ fld w 27 1 ++ fld w 13 7)))
  | 0x5, 0xd => some (.instr (.ld2SaM3 (fld w 0 6) (fld w 6 7) (fld w 20 7) (fld w 28 2) (fld w 36 1 ++ fld w 27 1 ++ fld w 13 7)))
  | 0x5, 0xe => some (.instr (.ld4SaM3 (fld w 0 6) (fld w 6 7) (fld w 20 7) (fld w 28 2) (fld w 36 1 ++ fld w 27 1 ++ fld w 13 7)))
  | 0x5, 0xf => some (.instr (.ld8SaM3 (fld w 0 6) (fld w 6 7) (fld w 20 7) (fld w 28 2) (fld w 36 1 ++ fld w 27 1 ++ fld w 13 7)))
  | 0x5, 0x10 => some (.instr (.ld1BiasM3 (fld w 0 6) (fld w 6 7) (fld w 20 7) (fld w 28 2) (fld w 36 1 ++ fld w 27 1 ++ fld w 13 7)))
  | 0x5, 0x11 => some (.instr (.ld2BiasM3 (fld w 0 6) (fld w 6 7) (fld w 20 7) (fld w 28 2) (fld w 36 1 ++ fld w 27 1 ++ fld w 13 7)))
  | 0x5, 0x12 => some (.instr (.ld4BiasM3 (fld w 0 6) (fld w 6 7) (fld w 20 7) (fld w 28 2) (fld w 36 1 ++ fld w 27 1 ++ fld w 13 7)))
  | 0x5, 0x13 => some (.instr (.ld8BiasM3 (fld w 0 6) (fld w 6 7) (fld w 20 7) (fld w 28 2) (fld w 36 1 ++ fld w 27 1 ++ fld w 13 7)))
  | 0x5, 0x14 => some (.instr (.ld1AcqM3 (fld w 0 6) (fld w 6 7) (fld w 20 7) (fld w 28 2) (fld w 36 1 ++ fld w 27 1 ++ fld w 13 7)))
  | 0x5, 0x15 => some (.instr (.ld2AcqM3 (fld w 0 6) (fld w 6 7) (fld w 20 7) (fld w 28 2) (fld w 36 1 ++ fld w 27 1 ++ fld w 13 7)))
  | 0x5, 0x16 => some (.instr (.ld4AcqM3 (fld w 0 6) (fld w 6 7) (fld w 20 7) (fld w 28 2) (fld w 36 1 ++ fld w 27 1 ++ fld w 13 7)))
  | 0x5, 0x17 => some (.instr (.ld8AcqM3 (fld w 0 6) (fld w 6 7) (fld w 20 7) (fld w 28 2) (fld w 36 1 ++ fld w 27 1 ++ fld w 13 7)))
  | 0x5, 0x20 => some (.instr (.ld1CClrM3 (fld w 0 6) (fld w 6 7) (fld w 20 7) (fld w 28 2) (fld w 36 1 ++ fld w 27 1 ++ fld w 13 7)))
  | 0x5, 0x21 => some (.instr (.ld2CClrM3 (fld w 0 6) (fld w 6 7) (fld w 20 7) (fld w 28 2) (fld w 36 1 ++ fld w 27 1 ++ fld w 13 7)))
  | 0x5, 0x22 => some (.instr (.ld4CClrM3 (fld w 0 6) (fld w 6 7) (fld w 20 7) (fld w 28 2) (fld w 36 1 ++ fld w 27 1 ++ fld w 13 7)))
  | 0x5, 0x23 => some (.instr (.ld8CClrM3 (fld w 0 6) (fld w 6 7) (fld w 20 7) (fld w 28 2) (fld w 36 1 ++ fld w 27 1 ++ fld w 13 7)))
  | 0x5, 0x24 => some (.instr (.ld1CNcM3 (fld w 0 6) (fld w 6 7) (fld w 20 7) (fld w 28 2) (fld w 36 1 ++ fld w 27 1 ++ fld w 13 7)))
  | 0x5, 0x25 => some (.instr (.ld2CNcM3 (fld w 0 6) (fld w 6 7) (fld w 20 7) (fld w 28 2) (fld w 36 1 ++ fld w 27 1 ++ fld w 13 7)))
  | 0x5, 0x26 => some (.instr (.ld4CNcM3 (fld w 0 6) (fld w 6 7) (fld w 20 7) (fld w 28 2) (fld w 36 1 ++ fld w 27 1 ++ fld w 13 7)))
  | 0x5, 0x27 => some (.instr (.ld8CNcM3 (fld w 0 6) (fld w 6 7) (fld w 20 7) (fld w 28 2) (fld w 36 1 ++ fld w 27 1 ++ fld w 13 7)))
  | 0x5, 0x28 => some (.instr (.ld1CClrAcqM3 (fld w 0 6) (fld w 6 7) (fld w 20 7) (fld w 28 2) (fld w 36 1 ++ fld w 27 1 ++ fld w 13 7)))
  | 0x5, 0x29 => some (.instr (.ld2CClrAcqM3 (fld w 0 6) (fld w 6 7) (fld w 20 7) (fld w 28 2) (fld w 36 1 ++ fld w 27 1 ++ fld w 13 7)))
  | 0x5, 0x2a => some (.instr (.ld4CClrAcqM3 (fld w 0 6) (fld w 6 7) (fld w 20 7) (fld w 28 2) (fld w 36 1 ++ fld w 27 1 ++ fld w 13 7)))
  | 0x5, 0x2b => some (.instr (.ld8CClrAcqM3 (fld w 0 6) (fld w 6 7) (fld w 20 7) (fld w 28 2) (fld w 36 1 ++ fld w 27 1 ++ fld w 13 7)))
  | 0x5, 0x1b => some (.instr (.ld8FillM3 (fld w 0 6) (fld w 6 7) (fld w 20 7) (fld w 28 2) (fld w 36 1 ++ fld w 27 1 ++ fld w 13 7)))
  | _, _ => none

/-- Format M4 (R408): op 40:37, m 36, x6 35:30, x 27. -/
noncomputable def decodeM4 (w : Slot) : Option SlotDecode :=
  match (fld w 37 4).toNat, (fld w 36 1).toNat, (fld w 30 6).toNat, (fld w 27 1).toNat with
  | 0x4, 0, 0x30, 0 => some (.instr (.st1M4 (fld w 0 6) (fld w 13 7) (fld w 20 7) (fld w 28 2) (fld w 12 1)))
  | 0x4, 0, 0x31, 0 => some (.instr (.st2M4 (fld w 0 6) (fld w 13 7) (fld w 20 7) (fld w 28 2) (fld w 12 1)))
  | 0x4, 0, 0x32, 0 => some (.instr (.st4M4 (fld w 0 6) (fld w 13 7) (fld w 20 7) (fld w 28 2) (fld w 12 1)))
  | 0x4, 0, 0x33, 0 => some (.instr (.st8M4 (fld w 0 6) (fld w 13 7) (fld w 20 7) (fld w 28 2) (fld w 12 1)))
  | 0x4, 0, 0x34, 0 => some (.instr (.st1RelM4 (fld w 0 6) (fld w 13 7) (fld w 20 7) (fld w 28 2) (fld w 12 1)))
  | 0x4, 0, 0x35, 0 => some (.instr (.st2RelM4 (fld w 0 6) (fld w 13 7) (fld w 20 7) (fld w 28 2) (fld w 12 1)))
  | 0x4, 0, 0x36, 0 => some (.instr (.st4RelM4 (fld w 0 6) (fld w 13 7) (fld w 20 7) (fld w 28 2) (fld w 12 1)))
  | 0x4, 0, 0x37, 0 => some (.instr (.st8RelM4 (fld w 0 6) (fld w 13 7) (fld w 20 7) (fld w 28 2) (fld w 12 1)))
  | 0x4, 0, 0x3b, 0 => some (.instr (.st8SpillM4 (fld w 0 6) (fld w 13 7) (fld w 20 7) (fld w 28 2) (fld w 12 1)))
  | 0x4, 0, 0x30, 1 => some (.instr (.st16M4 (fld w 0 6) (fld w 13 7) (fld w 20 7) (fld w 28 2) (fld w 12 1)))
  | 0x4, 0, 0x34, 1 => some (.instr (.st16RelM4 (fld w 0 6) (fld w 13 7) (fld w 20 7) (fld w 28 2) (fld w 12 1)))
  | _, _, _, _ => none

/-- Format M5 (R409): op 40:37, x6 35:30. -/
noncomputable def decodeM5 (w : Slot) : Option SlotDecode :=
  match (fld w 37 4).toNat, (fld w 30 6).toNat with
  | 0x5, 0x30 => some (.instr (.st1M5 (fld w 0 6) (fld w 13 7) (fld w 20 7) (fld w 28 2) (fld w 36 1 ++ fld w 27 1 ++ fld w 6 7)))
  | 0x5, 0x31 => some (.instr (.st2M5 (fld w 0 6) (fld w 13 7) (fld w 20 7) (fld w 28 2) (fld w 36 1 ++ fld w 27 1 ++ fld w 6 7)))
  | 0x5, 0x32 => some (.instr (.st4M5 (fld w 0 6) (fld w 13 7) (fld w 20 7) (fld w 28 2) (fld w 36 1 ++ fld w 27 1 ++ fld w 6 7)))
  | 0x5, 0x33 => some (.instr (.st8M5 (fld w 0 6) (fld w 13 7) (fld w 20 7) (fld w 28 2) (fld w 36 1 ++ fld w 27 1 ++ fld w 6 7)))
  | 0x5, 0x34 => some (.instr (.st1RelM5 (fld w 0 6) (fld w 13 7) (fld w 20 7) (fld w 28 2) (fld w 36 1 ++ fld w 27 1 ++ fld w 6 7)))
  | 0x5, 0x35 => some (.instr (.st2RelM5 (fld w 0 6) (fld w 13 7) (fld w 20 7) (fld w 28 2) (fld w 36 1 ++ fld w 27 1 ++ fld w 6 7)))
  | 0x5, 0x36 => some (.instr (.st4RelM5 (fld w 0 6) (fld w 13 7) (fld w 20 7) (fld w 28 2) (fld w 36 1 ++ fld w 27 1 ++ fld w 6 7)))
  | 0x5, 0x37 => some (.instr (.st8RelM5 (fld w 0 6) (fld w 13 7) (fld w 20 7) (fld w 28 2) (fld w 36 1 ++ fld w 27 1 ++ fld w 6 7)))
  | 0x5, 0x3b => some (.instr (.st8SpillM5 (fld w 0 6) (fld w 13 7) (fld w 20 7) (fld w 28 2) (fld w 36 1 ++ fld w 27 1 ++ fld w 6 7)))
  | _, _ => none

/-- Format M6 (R410): op 40:37, m 36, x6 35:30, x 27. -/
noncomputable def decodeM6 (w : Slot) : Option SlotDecode :=
  match (fld w 37 4).toNat, (fld w 36 1).toNat, (fld w 30 6).toNat, (fld w 27 1).toNat with
  | 0x6, 0, 0x0, 0 => some (.instr (.ldfeM6 (fld w 0 6) (fld w 6 7) (fld w 20 7) (fld w 28 2) (fld w 19 1)))
  | 0x6, 0, 0x1, 0 => some (.instr (.ldf8M6 (fld w 0 6) (fld w 6 7) (fld w 20 7) (fld w 28 2) (fld w 19 1)))
  | 0x6, 0, 0x2, 0 => some (.instr (.ldfsM6 (fld w 0 6) (fld w 6 7) (fld w 20 7) (fld w 28 2) (fld w 19 1)))
  | 0x6, 0, 0x3, 0 => some (.instr (.ldfdM6 (fld w 0 6) (fld w 6 7) (fld w 20 7) (fld w 28 2) (fld w 19 1)))
  | 0x6, 0, 0x4, 0 => some (.instr (.ldfeSM6 (fld w 0 6) (fld w 6 7) (fld w 20 7) (fld w 28 2) (fld w 19 1)))
  | 0x6, 0, 0x5, 0 => some (.instr (.ldf8SM6 (fld w 0 6) (fld w 6 7) (fld w 20 7) (fld w 28 2) (fld w 19 1)))
  | 0x6, 0, 0x6, 0 => some (.instr (.ldfsSM6 (fld w 0 6) (fld w 6 7) (fld w 20 7) (fld w 28 2) (fld w 19 1)))
  | 0x6, 0, 0x7, 0 => some (.instr (.ldfdSM6 (fld w 0 6) (fld w 6 7) (fld w 20 7) (fld w 28 2) (fld w 19 1)))
  | 0x6, 0, 0x8, 0 => some (.instr (.ldfeAM6 (fld w 0 6) (fld w 6 7) (fld w 20 7) (fld w 28 2) (fld w 19 1)))
  | 0x6, 0, 0x9, 0 => some (.instr (.ldf8AM6 (fld w 0 6) (fld w 6 7) (fld w 20 7) (fld w 28 2) (fld w 19 1)))
  | 0x6, 0, 0xa, 0 => some (.instr (.ldfsAM6 (fld w 0 6) (fld w 6 7) (fld w 20 7) (fld w 28 2) (fld w 19 1)))
  | 0x6, 0, 0xb, 0 => some (.instr (.ldfdAM6 (fld w 0 6) (fld w 6 7) (fld w 20 7) (fld w 28 2) (fld w 19 1)))
  | 0x6, 0, 0xc, 0 => some (.instr (.ldfeSaM6 (fld w 0 6) (fld w 6 7) (fld w 20 7) (fld w 28 2) (fld w 19 1)))
  | 0x6, 0, 0xd, 0 => some (.instr (.ldf8SaM6 (fld w 0 6) (fld w 6 7) (fld w 20 7) (fld w 28 2) (fld w 19 1)))
  | 0x6, 0, 0xe, 0 => some (.instr (.ldfsSaM6 (fld w 0 6) (fld w 6 7) (fld w 20 7) (fld w 28 2) (fld w 19 1)))
  | 0x6, 0, 0xf, 0 => some (.instr (.ldfdSaM6 (fld w 0 6) (fld w 6 7) (fld w 20 7) (fld w 28 2) (fld w 19 1)))
  | 0x6, 0, 0x20, 0 => some (.instr (.ldfeCClrM6 (fld w 0 6) (fld w 6 7) (fld w 20 7) (fld w 28 2) (fld w 19 1)))
  | 0x6, 0, 0x21, 0 => some (.instr (.ldf8CClrM6 (fld w 0 6) (fld w 6 7) (fld w 20 7) (fld w 28 2) (fld w 19 1)))
  | 0x6, 0, 0x22, 0 => some (.instr (.ldfsCClrM6 (fld w 0 6) (fld w 6 7) (fld w 20 7) (fld w 28 2) (fld w 19 1)))
  | 0x6, 0, 0x23, 0 => some (.instr (.ldfdCClrM6 (fld w 0 6) (fld w 6 7) (fld w 20 7) (fld w 28 2) (fld w 19 1)))
  | 0x6, 0, 0x24, 0 => some (.instr (.ldfeCNcM6 (fld w 0 6) (fld w 6 7) (fld w 20 7) (fld w 28 2) (fld w 19 1)))
  | 0x6, 0, 0x25, 0 => some (.instr (.ldf8CNcM6 (fld w 0 6) (fld w 6 7) (fld w 20 7) (fld w 28 2) (fld w 19 1)))
  | 0x6, 0, 0x26, 0 => some (.instr (.ldfsCNcM6 (fld w 0 6) (fld w 6 7) (fld w 20 7) (fld w 28 2) (fld w 19 1)))
  | 0x6, 0, 0x27, 0 => some (.instr (.ldfdCNcM6 (fld w 0 6) (fld w 6 7) (fld w 20 7) (fld w 28 2) (fld w 19 1)))
  | 0x6, 0, 0x1b, 0 => some (.instr (.ldfFillM6 (fld w 0 6) (fld w 6 7) (fld w 20 7) (fld w 28 2) (fld w 19 1)))
  | _, _, _, _ => none

/-- Format M7 (R411): op 40:37, m 36, x6 35:30, x 27. -/
noncomputable def decodeM7 (w : Slot) : Option SlotDecode :=
  match (fld w 37 4).toNat, (fld w 36 1).toNat, (fld w 30 6).toNat, (fld w 27 1).toNat with
  | 0x6, 1, 0x0, 0 => some (.instr (.ldfeM7 (fld w 0 6) (fld w 6 7) (fld w 13 7) (fld w 20 7) (fld w 28 2)))
  | 0x6, 1, 0x1, 0 => some (.instr (.ldf8M7 (fld w 0 6) (fld w 6 7) (fld w 13 7) (fld w 20 7) (fld w 28 2)))
  | 0x6, 1, 0x2, 0 => some (.instr (.ldfsM7 (fld w 0 6) (fld w 6 7) (fld w 13 7) (fld w 20 7) (fld w 28 2)))
  | 0x6, 1, 0x3, 0 => some (.instr (.ldfdM7 (fld w 0 6) (fld w 6 7) (fld w 13 7) (fld w 20 7) (fld w 28 2)))
  | 0x6, 1, 0x4, 0 => some (.instr (.ldfeSM7 (fld w 0 6) (fld w 6 7) (fld w 13 7) (fld w 20 7) (fld w 28 2)))
  | 0x6, 1, 0x5, 0 => some (.instr (.ldf8SM7 (fld w 0 6) (fld w 6 7) (fld w 13 7) (fld w 20 7) (fld w 28 2)))
  | 0x6, 1, 0x6, 0 => some (.instr (.ldfsSM7 (fld w 0 6) (fld w 6 7) (fld w 13 7) (fld w 20 7) (fld w 28 2)))
  | 0x6, 1, 0x7, 0 => some (.instr (.ldfdSM7 (fld w 0 6) (fld w 6 7) (fld w 13 7) (fld w 20 7) (fld w 28 2)))
  | 0x6, 1, 0x8, 0 => some (.instr (.ldfeAM7 (fld w 0 6) (fld w 6 7) (fld w 13 7) (fld w 20 7) (fld w 28 2)))
  | 0x6, 1, 0x9, 0 => some (.instr (.ldf8AM7 (fld w 0 6) (fld w 6 7) (fld w 13 7) (fld w 20 7) (fld w 28 2)))
  | 0x6, 1, 0xa, 0 => some (.instr (.ldfsAM7 (fld w 0 6) (fld w 6 7) (fld w 13 7) (fld w 20 7) (fld w 28 2)))
  | 0x6, 1, 0xb, 0 => some (.instr (.ldfdAM7 (fld w 0 6) (fld w 6 7) (fld w 13 7) (fld w 20 7) (fld w 28 2)))
  | 0x6, 1, 0xc, 0 => some (.instr (.ldfeSaM7 (fld w 0 6) (fld w 6 7) (fld w 13 7) (fld w 20 7) (fld w 28 2)))
  | 0x6, 1, 0xd, 0 => some (.instr (.ldf8SaM7 (fld w 0 6) (fld w 6 7) (fld w 13 7) (fld w 20 7) (fld w 28 2)))
  | 0x6, 1, 0xe, 0 => some (.instr (.ldfsSaM7 (fld w 0 6) (fld w 6 7) (fld w 13 7) (fld w 20 7) (fld w 28 2)))
  | 0x6, 1, 0xf, 0 => some (.instr (.ldfdSaM7 (fld w 0 6) (fld w 6 7) (fld w 13 7) (fld w 20 7) (fld w 28 2)))
  | 0x6, 1, 0x20, 0 => some (.instr (.ldfeCClrM7 (fld w 0 6) (fld w 6 7) (fld w 13 7) (fld w 20 7) (fld w 28 2)))
  | 0x6, 1, 0x21, 0 => some (.instr (.ldf8CClrM7 (fld w 0 6) (fld w 6 7) (fld w 13 7) (fld w 20 7) (fld w 28 2)))
  | 0x6, 1, 0x22, 0 => some (.instr (.ldfsCClrM7 (fld w 0 6) (fld w 6 7) (fld w 13 7) (fld w 20 7) (fld w 28 2)))
  | 0x6, 1, 0x23, 0 => some (.instr (.ldfdCClrM7 (fld w 0 6) (fld w 6 7) (fld w 13 7) (fld w 20 7) (fld w 28 2)))
  | 0x6, 1, 0x24, 0 => some (.instr (.ldfeCNcM7 (fld w 0 6) (fld w 6 7) (fld w 13 7) (fld w 20 7) (fld w 28 2)))
  | 0x6, 1, 0x25, 0 => some (.instr (.ldf8CNcM7 (fld w 0 6) (fld w 6 7) (fld w 13 7) (fld w 20 7) (fld w 28 2)))
  | 0x6, 1, 0x26, 0 => some (.instr (.ldfsCNcM7 (fld w 0 6) (fld w 6 7) (fld w 13 7) (fld w 20 7) (fld w 28 2)))
  | 0x6, 1, 0x27, 0 => some (.instr (.ldfdCNcM7 (fld w 0 6) (fld w 6 7) (fld w 13 7) (fld w 20 7) (fld w 28 2)))
  | 0x6, 1, 0x1b, 0 => some (.instr (.ldfFillM7 (fld w 0 6) (fld w 6 7) (fld w 13 7) (fld w 20 7) (fld w 28 2)))
  | _, _, _, _ => none

/-- Format M8 (R412): op 40:37, x6 35:30. -/
noncomputable def decodeM8 (w : Slot) : Option SlotDecode :=
  match (fld w 37 4).toNat, (fld w 30 6).toNat with
  | 0x7, 0x0 => some (.instr (.ldfeM8 (fld w 0 6) (fld w 6 7) (fld w 20 7) (fld w 28 2) (fld w 36 1 ++ fld w 27 1 ++ fld w 13 7)))
  | 0x7, 0x1 => some (.instr (.ldf8M8 (fld w 0 6) (fld w 6 7) (fld w 20 7) (fld w 28 2) (fld w 36 1 ++ fld w 27 1 ++ fld w 13 7)))
  | 0x7, 0x2 => some (.instr (.ldfsM8 (fld w 0 6) (fld w 6 7) (fld w 20 7) (fld w 28 2) (fld w 36 1 ++ fld w 27 1 ++ fld w 13 7)))
  | 0x7, 0x3 => some (.instr (.ldfdM8 (fld w 0 6) (fld w 6 7) (fld w 20 7) (fld w 28 2) (fld w 36 1 ++ fld w 27 1 ++ fld w 13 7)))
  | 0x7, 0x4 => some (.instr (.ldfeSM8 (fld w 0 6) (fld w 6 7) (fld w 20 7) (fld w 28 2) (fld w 36 1 ++ fld w 27 1 ++ fld w 13 7)))
  | 0x7, 0x5 => some (.instr (.ldf8SM8 (fld w 0 6) (fld w 6 7) (fld w 20 7) (fld w 28 2) (fld w 36 1 ++ fld w 27 1 ++ fld w 13 7)))
  | 0x7, 0x6 => some (.instr (.ldfsSM8 (fld w 0 6) (fld w 6 7) (fld w 20 7) (fld w 28 2) (fld w 36 1 ++ fld w 27 1 ++ fld w 13 7)))
  | 0x7, 0x7 => some (.instr (.ldfdSM8 (fld w 0 6) (fld w 6 7) (fld w 20 7) (fld w 28 2) (fld w 36 1 ++ fld w 27 1 ++ fld w 13 7)))
  | 0x7, 0x8 => some (.instr (.ldfeAM8 (fld w 0 6) (fld w 6 7) (fld w 20 7) (fld w 28 2) (fld w 36 1 ++ fld w 27 1 ++ fld w 13 7)))
  | 0x7, 0x9 => some (.instr (.ldf8AM8 (fld w 0 6) (fld w 6 7) (fld w 20 7) (fld w 28 2) (fld w 36 1 ++ fld w 27 1 ++ fld w 13 7)))
  | 0x7, 0xa => some (.instr (.ldfsAM8 (fld w 0 6) (fld w 6 7) (fld w 20 7) (fld w 28 2) (fld w 36 1 ++ fld w 27 1 ++ fld w 13 7)))
  | 0x7, 0xb => some (.instr (.ldfdAM8 (fld w 0 6) (fld w 6 7) (fld w 20 7) (fld w 28 2) (fld w 36 1 ++ fld w 27 1 ++ fld w 13 7)))
  | 0x7, 0xc => some (.instr (.ldfeSaM8 (fld w 0 6) (fld w 6 7) (fld w 20 7) (fld w 28 2) (fld w 36 1 ++ fld w 27 1 ++ fld w 13 7)))
  | 0x7, 0xd => some (.instr (.ldf8SaM8 (fld w 0 6) (fld w 6 7) (fld w 20 7) (fld w 28 2) (fld w 36 1 ++ fld w 27 1 ++ fld w 13 7)))
  | 0x7, 0xe => some (.instr (.ldfsSaM8 (fld w 0 6) (fld w 6 7) (fld w 20 7) (fld w 28 2) (fld w 36 1 ++ fld w 27 1 ++ fld w 13 7)))
  | 0x7, 0xf => some (.instr (.ldfdSaM8 (fld w 0 6) (fld w 6 7) (fld w 20 7) (fld w 28 2) (fld w 36 1 ++ fld w 27 1 ++ fld w 13 7)))
  | 0x7, 0x20 => some (.instr (.ldfeCClrM8 (fld w 0 6) (fld w 6 7) (fld w 20 7) (fld w 28 2) (fld w 36 1 ++ fld w 27 1 ++ fld w 13 7)))
  | 0x7, 0x21 => some (.instr (.ldf8CClrM8 (fld w 0 6) (fld w 6 7) (fld w 20 7) (fld w 28 2) (fld w 36 1 ++ fld w 27 1 ++ fld w 13 7)))
  | 0x7, 0x22 => some (.instr (.ldfsCClrM8 (fld w 0 6) (fld w 6 7) (fld w 20 7) (fld w 28 2) (fld w 36 1 ++ fld w 27 1 ++ fld w 13 7)))
  | 0x7, 0x23 => some (.instr (.ldfdCClrM8 (fld w 0 6) (fld w 6 7) (fld w 20 7) (fld w 28 2) (fld w 36 1 ++ fld w 27 1 ++ fld w 13 7)))
  | 0x7, 0x24 => some (.instr (.ldfeCNcM8 (fld w 0 6) (fld w 6 7) (fld w 20 7) (fld w 28 2) (fld w 36 1 ++ fld w 27 1 ++ fld w 13 7)))
  | 0x7, 0x25 => some (.instr (.ldf8CNcM8 (fld w 0 6) (fld w 6 7) (fld w 20 7) (fld w 28 2) (fld w 36 1 ++ fld w 27 1 ++ fld w 13 7)))
  | 0x7, 0x26 => some (.instr (.ldfsCNcM8 (fld w 0 6) (fld w 6 7) (fld w 20 7) (fld w 28 2) (fld w 36 1 ++ fld w 27 1 ++ fld w 13 7)))
  | 0x7, 0x27 => some (.instr (.ldfdCNcM8 (fld w 0 6) (fld w 6 7) (fld w 20 7) (fld w 28 2) (fld w 36 1 ++ fld w 27 1 ++ fld w 13 7)))
  | 0x7, 0x1b => some (.instr (.ldfFillM8 (fld w 0 6) (fld w 6 7) (fld w 20 7) (fld w 28 2) (fld w 36 1 ++ fld w 27 1 ++ fld w 13 7)))
  | _, _ => none

/-- Format M9 (R413): op 40:37, m 36, x6 35:30, x 27. -/
noncomputable def decodeM9 (w : Slot) : Option SlotDecode :=
  match (fld w 37 4).toNat, (fld w 36 1).toNat, (fld w 30 6).toNat, (fld w 27 1).toNat with
  | 0x6, 0, 0x30, 0 => some (.instr (.stfeM9 (fld w 0 6) (fld w 13 7) (fld w 20 7) (fld w 28 2) (fld w 12 1)))
  | 0x6, 0, 0x31, 0 => some (.instr (.stf8M9 (fld w 0 6) (fld w 13 7) (fld w 20 7) (fld w 28 2) (fld w 12 1)))
  | 0x6, 0, 0x32, 0 => some (.instr (.stfsM9 (fld w 0 6) (fld w 13 7) (fld w 20 7) (fld w 28 2) (fld w 12 1)))
  | 0x6, 0, 0x33, 0 => some (.instr (.stfdM9 (fld w 0 6) (fld w 13 7) (fld w 20 7) (fld w 28 2) (fld w 12 1)))
  | 0x6, 0, 0x3b, 0 => some (.instr (.stfSpillM9 (fld w 0 6) (fld w 13 7) (fld w 20 7) (fld w 28 2) (fld w 12 1)))
  | _, _, _, _ => none

/-- Format M10 (R414): op 40:37, x6 35:30. -/
noncomputable def decodeM10 (w : Slot) : Option SlotDecode :=
  match (fld w 37 4).toNat, (fld w 30 6).toNat with
  | 0x7, 0x30 => some (.instr (.stfeM10 (fld w 0 6) (fld w 13 7) (fld w 20 7) (fld w 28 2) (fld w 36 1 ++ fld w 27 1 ++ fld w 6 7)))
  | 0x7, 0x31 => some (.instr (.stf8M10 (fld w 0 6) (fld w 13 7) (fld w 20 7) (fld w 28 2) (fld w 36 1 ++ fld w 27 1 ++ fld w 6 7)))
  | 0x7, 0x32 => some (.instr (.stfsM10 (fld w 0 6) (fld w 13 7) (fld w 20 7) (fld w 28 2) (fld w 36 1 ++ fld w 27 1 ++ fld w 6 7)))
  | 0x7, 0x33 => some (.instr (.stfdM10 (fld w 0 6) (fld w 13 7) (fld w 20 7) (fld w 28 2) (fld w 36 1 ++ fld w 27 1 ++ fld w 6 7)))
  | 0x7, 0x3b => some (.instr (.stfSpillM10 (fld w 0 6) (fld w 13 7) (fld w 20 7) (fld w 28 2) (fld w 36 1 ++ fld w 27 1 ++ fld w 6 7)))
  | _, _ => none

/-- Format M11 (R415): op 40:37, m 36, x6 35:30, x 27. -/
noncomputable def decodeM11 (w : Slot) : Option SlotDecode :=
  match (fld w 37 4).toNat, (fld w 36 1).toNat, (fld w 30 6).toNat, (fld w 27 1).toNat with
  | 0x6, 0, 0x1, 1 => some (.instr (.ldfp8M11 (fld w 0 6) (fld w 6 7) (fld w 13 7) (fld w 20 7) (fld w 28 2)))
  | 0x6, 0, 0x2, 1 => some (.instr (.ldfpsM11 (fld w 0 6) (fld w 6 7) (fld w 13 7) (fld w 20 7) (fld w 28 2)))
  | 0x6, 0, 0x3, 1 => some (.instr (.ldfpdM11 (fld w 0 6) (fld w 6 7) (fld w 13 7) (fld w 20 7) (fld w 28 2)))
  | 0x6, 0, 0x5, 1 => some (.instr (.ldfp8SM11 (fld w 0 6) (fld w 6 7) (fld w 13 7) (fld w 20 7) (fld w 28 2)))
  | 0x6, 0, 0x6, 1 => some (.instr (.ldfpsSM11 (fld w 0 6) (fld w 6 7) (fld w 13 7) (fld w 20 7) (fld w 28 2)))
  | 0x6, 0, 0x7, 1 => some (.instr (.ldfpdSM11 (fld w 0 6) (fld w 6 7) (fld w 13 7) (fld w 20 7) (fld w 28 2)))
  | 0x6, 0, 0x9, 1 => some (.instr (.ldfp8AM11 (fld w 0 6) (fld w 6 7) (fld w 13 7) (fld w 20 7) (fld w 28 2)))
  | 0x6, 0, 0xa, 1 => some (.instr (.ldfpsAM11 (fld w 0 6) (fld w 6 7) (fld w 13 7) (fld w 20 7) (fld w 28 2)))
  | 0x6, 0, 0xb, 1 => some (.instr (.ldfpdAM11 (fld w 0 6) (fld w 6 7) (fld w 13 7) (fld w 20 7) (fld w 28 2)))
  | 0x6, 0, 0xd, 1 => some (.instr (.ldfp8SaM11 (fld w 0 6) (fld w 6 7) (fld w 13 7) (fld w 20 7) (fld w 28 2)))
  | 0x6, 0, 0xe, 1 => some (.instr (.ldfpsSaM11 (fld w 0 6) (fld w 6 7) (fld w 13 7) (fld w 20 7) (fld w 28 2)))
  | 0x6, 0, 0xf, 1 => some (.instr (.ldfpdSaM11 (fld w 0 6) (fld w 6 7) (fld w 13 7) (fld w 20 7) (fld w 28 2)))
  | 0x6, 0, 0x21, 1 => some (.instr (.ldfp8CClrM11 (fld w 0 6) (fld w 6 7) (fld w 13 7) (fld w 20 7) (fld w 28 2)))
  | 0x6, 0, 0x22, 1 => some (.instr (.ldfpsCClrM11 (fld w 0 6) (fld w 6 7) (fld w 13 7) (fld w 20 7) (fld w 28 2)))
  | 0x6, 0, 0x23, 1 => some (.instr (.ldfpdCClrM11 (fld w 0 6) (fld w 6 7) (fld w 13 7) (fld w 20 7) (fld w 28 2)))
  | 0x6, 0, 0x25, 1 => some (.instr (.ldfp8CNcM11 (fld w 0 6) (fld w 6 7) (fld w 13 7) (fld w 20 7) (fld w 28 2)))
  | 0x6, 0, 0x26, 1 => some (.instr (.ldfpsCNcM11 (fld w 0 6) (fld w 6 7) (fld w 13 7) (fld w 20 7) (fld w 28 2)))
  | 0x6, 0, 0x27, 1 => some (.instr (.ldfpdCNcM11 (fld w 0 6) (fld w 6 7) (fld w 13 7) (fld w 20 7) (fld w 28 2)))
  | _, _, _, _ => none

/-- Format M12 (R416): op 40:37, m 36, x6 35:30, x 27. -/
noncomputable def decodeM12 (w : Slot) : Option SlotDecode :=
  match (fld w 37 4).toNat, (fld w 36 1).toNat, (fld w 30 6).toNat, (fld w 27 1).toNat with
  | 0x6, 1, 0x1, 1 => some (.instr (.ldfp8M12 (fld w 0 6) (fld w 6 7) (fld w 13 7) (fld w 20 7) (fld w 28 2)))
  | 0x6, 1, 0x2, 1 => some (.instr (.ldfpsM12 (fld w 0 6) (fld w 6 7) (fld w 13 7) (fld w 20 7) (fld w 28 2)))
  | 0x6, 1, 0x3, 1 => some (.instr (.ldfpdM12 (fld w 0 6) (fld w 6 7) (fld w 13 7) (fld w 20 7) (fld w 28 2)))
  | 0x6, 1, 0x5, 1 => some (.instr (.ldfp8SM12 (fld w 0 6) (fld w 6 7) (fld w 13 7) (fld w 20 7) (fld w 28 2)))
  | 0x6, 1, 0x6, 1 => some (.instr (.ldfpsSM12 (fld w 0 6) (fld w 6 7) (fld w 13 7) (fld w 20 7) (fld w 28 2)))
  | 0x6, 1, 0x7, 1 => some (.instr (.ldfpdSM12 (fld w 0 6) (fld w 6 7) (fld w 13 7) (fld w 20 7) (fld w 28 2)))
  | 0x6, 1, 0x9, 1 => some (.instr (.ldfp8AM12 (fld w 0 6) (fld w 6 7) (fld w 13 7) (fld w 20 7) (fld w 28 2)))
  | 0x6, 1, 0xa, 1 => some (.instr (.ldfpsAM12 (fld w 0 6) (fld w 6 7) (fld w 13 7) (fld w 20 7) (fld w 28 2)))
  | 0x6, 1, 0xb, 1 => some (.instr (.ldfpdAM12 (fld w 0 6) (fld w 6 7) (fld w 13 7) (fld w 20 7) (fld w 28 2)))
  | 0x6, 1, 0xd, 1 => some (.instr (.ldfp8SaM12 (fld w 0 6) (fld w 6 7) (fld w 13 7) (fld w 20 7) (fld w 28 2)))
  | 0x6, 1, 0xe, 1 => some (.instr (.ldfpsSaM12 (fld w 0 6) (fld w 6 7) (fld w 13 7) (fld w 20 7) (fld w 28 2)))
  | 0x6, 1, 0xf, 1 => some (.instr (.ldfpdSaM12 (fld w 0 6) (fld w 6 7) (fld w 13 7) (fld w 20 7) (fld w 28 2)))
  | 0x6, 1, 0x21, 1 => some (.instr (.ldfp8CClrM12 (fld w 0 6) (fld w 6 7) (fld w 13 7) (fld w 20 7) (fld w 28 2)))
  | 0x6, 1, 0x22, 1 => some (.instr (.ldfpsCClrM12 (fld w 0 6) (fld w 6 7) (fld w 13 7) (fld w 20 7) (fld w 28 2)))
  | 0x6, 1, 0x23, 1 => some (.instr (.ldfpdCClrM12 (fld w 0 6) (fld w 6 7) (fld w 13 7) (fld w 20 7) (fld w 28 2)))
  | 0x6, 1, 0x25, 1 => some (.instr (.ldfp8CNcM12 (fld w 0 6) (fld w 6 7) (fld w 13 7) (fld w 20 7) (fld w 28 2)))
  | 0x6, 1, 0x26, 1 => some (.instr (.ldfpsCNcM12 (fld w 0 6) (fld w 6 7) (fld w 13 7) (fld w 20 7) (fld w 28 2)))
  | 0x6, 1, 0x27, 1 => some (.instr (.ldfpdCNcM12 (fld w 0 6) (fld w 6 7) (fld w 13 7) (fld w 20 7) (fld w 28 2)))
  | _, _, _, _ => none

/-- Format M13 (R417): op 40:37, m 36, x6 35:30, x 27. -/
noncomputable def decodeM13 (w : Slot) : Option SlotDecode :=
  match (fld w 37 4).toNat, (fld w 36 1).toNat, (fld w 30 6).toNat, (fld w 27 1).toNat with
  | 0x6, 0, 0x2d, 0 => some (.instr (.lfetchExclM13 (fld w 0 6) (fld w 20 7) (fld w 28 2) (fld w 12 1)))
  | 0x6, 0, 0x2e, 0 => some (.instr (.lfetchFaultM13 (fld w 0 6) (fld w 20 7) (fld w 28 2) (fld w 12 1)))
  | 0x6, 0, 0x2f, 0 => some (.instr (.lfetchFaultExclM13 (fld w 0 6) (fld w 20 7) (fld w 28 2) (fld w 12 1)))
  | _, _, _, _ => none

/-- Format M51 (R456): op 40:37, m 36, x6 35:30, x 27, y 19. -/
noncomputable def decodeM51 (w : Slot) : Option SlotDecode :=
  match (fld w 37 4).toNat, (fld w 36 1).toNat, (fld w 30 6).toNat, (fld w 27 1).toNat, (fld w 19 1).toNat with
  | 0x6, 0, 0x2c, 0, 0 => some (.instr (.lfetchM51 (fld w 0 6) (fld w 20 7) (fld w 28 2) (fld w 12 1)))
  | _, _, _, _, _ => none

/-- Format M52 (R457): op 40:37, m 36, x6 35:30, x 27, y 19. -/
noncomputable def decodeM52 (w : Slot) : Option SlotDecode :=
  match (fld w 37 4).toNat, (fld w 36 1).toNat, (fld w 30 6).toNat, (fld w 27 1).toNat, (fld w 19 1).toNat with
  | 0x6, 0, 0x2c, 0, 1 => some (.instr (.lfetchCountM52 (fld w 0 6) (fld w 20 7) (fld w 28 2) (fld w 13 5) (fld w 12 1) (fld w 6 6)))
  | _, _, _, _, _ => none

/-- Format M14 (R418): op 40:37, m 36, x6 35:30, x 27. -/
noncomputable def decodeM14 (w : Slot) : Option SlotDecode :=
  match (fld w 37 4).toNat, (fld w 36 1).toNat, (fld w 30 6).toNat, (fld w 27 1).toNat with
  | 0x6, 1, 0x2c, 0 => some (.instr (.lfetchM14 (fld w 0 6) (fld w 13 7) (fld w 20 7) (fld w 28 2) (fld w 12 1)))
  | 0x6, 1, 0x2d, 0 => some (.instr (.lfetchExclM14 (fld w 0 6) (fld w 13 7) (fld w 20 7) (fld w 28 2) (fld w 12 1)))
  | 0x6, 1, 0x2e, 0 => some (.instr (.lfetchFaultM14 (fld w 0 6) (fld w 13 7) (fld w 20 7) (fld w 28 2) (fld w 12 1)))
  | 0x6, 1, 0x2f, 0 => some (.instr (.lfetchFaultExclM14 (fld w 0 6) (fld w 13 7) (fld w 20 7) (fld w 28 2) (fld w 12 1)))
  | _, _, _, _ => none

/-- Format M15 (R419): op 40:37, x6 35:30. -/
noncomputable def decodeM15 (w : Slot) : Option SlotDecode :=
  match (fld w 37 4).toNat, (fld w 30 6).toNat with
  | 0x7, 0x2c => some (.instr (.lfetchM15 (fld w 0 6) (fld w 20 7) (fld w 28 2) (fld w 12 1) (fld w 36 1 ++ fld w 27 1 ++ fld w 13 7)))
  | 0x7, 0x2d => some (.instr (.lfetchExclM15 (fld w 0 6) (fld w 20 7) (fld w 28 2) (fld w 12 1) (fld w 36 1 ++ fld w 27 1 ++ fld w 13 7)))
  | 0x7, 0x2e => some (.instr (.lfetchFaultM15 (fld w 0 6) (fld w 20 7) (fld w 28 2) (fld w 12 1) (fld w 36 1 ++ fld w 27 1 ++ fld w 13 7)))
  | 0x7, 0x2f => some (.instr (.lfetchFaultExclM15 (fld w 0 6) (fld w 20 7) (fld w 28 2) (fld w 12 1) (fld w 36 1 ++ fld w 27 1 ++ fld w 13 7)))
  | _, _ => none

/-- Format M16 (R420): op 40:37, m 36, x6 35:30, x 27. -/
noncomputable def decodeM16 (w : Slot) : Option SlotDecode :=
  match (fld w 37 4).toNat, (fld w 36 1).toNat, (fld w 30 6).toNat, (fld w 27 1).toNat with
  | 0x4, 0, 0x0, 1 => some (.instr (.cmpxchg1AcqM16 (fld w 0 6) (fld w 6 7) (fld w 13 7) (fld w 20 7) (fld w 28 2)))
  | 0x4, 0, 0x4, 1 => some (.instr (.cmpxchg1RelM16 (fld w 0 6) (fld w 6 7) (fld w 13 7) (fld w 20 7) (fld w 28 2)))
  | 0x4, 0, 0x8, 1 => some (.instr (.xchg1M16 (fld w 0 6) (fld w 6 7) (fld w 13 7) (fld w 20 7) (fld w 28 2)))
  | 0x4, 0, 0x1, 1 => some (.instr (.cmpxchg2AcqM16 (fld w 0 6) (fld w 6 7) (fld w 13 7) (fld w 20 7) (fld w 28 2)))
  | 0x4, 0, 0x5, 1 => some (.instr (.cmpxchg2RelM16 (fld w 0 6) (fld w 6 7) (fld w 13 7) (fld w 20 7) (fld w 28 2)))
  | 0x4, 0, 0x9, 1 => some (.instr (.xchg2M16 (fld w 0 6) (fld w 6 7) (fld w 13 7) (fld w 20 7) (fld w 28 2)))
  | 0x4, 0, 0x2, 1 => some (.instr (.cmpxchg4AcqM16 (fld w 0 6) (fld w 6 7) (fld w 13 7) (fld w 20 7) (fld w 28 2)))
  | 0x4, 0, 0x6, 1 => some (.instr (.cmpxchg4RelM16 (fld w 0 6) (fld w 6 7) (fld w 13 7) (fld w 20 7) (fld w 28 2)))
  | 0x4, 0, 0xa, 1 => some (.instr (.xchg4M16 (fld w 0 6) (fld w 6 7) (fld w 13 7) (fld w 20 7) (fld w 28 2)))
  | 0x4, 0, 0x3, 1 => some (.instr (.cmpxchg8AcqM16 (fld w 0 6) (fld w 6 7) (fld w 13 7) (fld w 20 7) (fld w 28 2)))
  | 0x4, 0, 0x7, 1 => some (.instr (.cmpxchg8RelM16 (fld w 0 6) (fld w 6 7) (fld w 13 7) (fld w 20 7) (fld w 28 2)))
  | 0x4, 0, 0xb, 1 => some (.instr (.xchg8M16 (fld w 0 6) (fld w 6 7) (fld w 13 7) (fld w 20 7) (fld w 28 2)))
  | 0x4, 0, 0x20, 1 => some (.instr (.cmp8xchg16AcqM16 (fld w 0 6) (fld w 6 7) (fld w 13 7) (fld w 20 7) (fld w 28 2)))
  | 0x4, 0, 0x24, 1 => some (.instr (.cmp8xchg16RelM16 (fld w 0 6) (fld w 6 7) (fld w 13 7) (fld w 20 7) (fld w 28 2)))
  | _, _, _, _ => none

/-- Format M17 (R421): op 40:37, m 36, x6 35:30, x 27. -/
noncomputable def decodeM17 (w : Slot) : Option SlotDecode :=
  match (fld w 37 4).toNat, (fld w 36 1).toNat, (fld w 30 6).toNat, (fld w 27 1).toNat with
  | 0x4, 0, 0x12, 1 => some (.instr (.fetchadd4AcqM17 (fld w 0 6) (fld w 6 7) (fld w 20 7) (fld w 28 2) (fld w 15 1 ++ fld w 13 2)))
  | 0x4, 0, 0x13, 1 => some (.instr (.fetchadd8AcqM17 (fld w 0 6) (fld w 6 7) (fld w 20 7) (fld w 28 2) (fld w 15 1 ++ fld w 13 2)))
  | 0x4, 0, 0x16, 1 => some (.instr (.fetchadd4RelM17 (fld w 0 6) (fld w 6 7) (fld w 20 7) (fld w 28 2) (fld w 15 1 ++ fld w 13 2)))
  | 0x4, 0, 0x17, 1 => some (.instr (.fetchadd8RelM17 (fld w 0 6) (fld w 6 7) (fld w 20 7) (fld w 28 2) (fld w 15 1 ++ fld w 13 2)))
  | _, _, _, _ => none

/-- Format M18 (R422): op 40:37, m 36, x6 35:30, x 27. -/
noncomputable def decodeM18 (w : Slot) : Option SlotDecode :=
  match (fld w 37 4).toNat, (fld w 36 1).toNat, (fld w 30 6).toNat, (fld w 27 1).toNat with
  | 0x6, 0, 0x1c, 1 => some (.instr (.setfSigM18 (fld w 0 6) (fld w 6 7) (fld w 13 7)))
  | 0x6, 0, 0x1d, 1 => some (.instr (.setfExpM18 (fld w 0 6) (fld w 6 7) (fld w 13 7)))
  | 0x6, 0, 0x1e, 1 => some (.instr (.setfSM18 (fld w 0 6) (fld w 6 7) (fld w 13 7)))
  | 0x6, 0, 0x1f, 1 => some (.instr (.setfDM18 (fld w 0 6) (fld w 6 7) (fld w 13 7)))
  | _, _, _, _ => none

/-- Format M19 (R423): op 40:37, m 36, x6 35:30, x 27. -/
noncomputable def decodeM19 (w : Slot) : Option SlotDecode :=
  match (fld w 37 4).toNat, (fld w 36 1).toNat, (fld w 30 6).toNat, (fld w 27 1).toNat with
  | 0x4, 0, 0x1c, 1 => some (.instr (.getfSigM19 (fld w 0 6) (fld w 6 7) (fld w 13 7)))
  | 0x4, 0, 0x1d, 1 => some (.instr (.getfExpM19 (fld w 0 6) (fld w 6 7) (fld w 13 7)))
  | 0x4, 0, 0x1e, 1 => some (.instr (.getfSM19 (fld w 0 6) (fld w 6 7) (fld w 13 7)))
  | 0x4, 0, 0x1f, 1 => some (.instr (.getfDM19 (fld w 0 6) (fld w 6 7) (fld w 13 7)))
  | _, _, _, _ => none

/-- Format M20 (R424): op 40:37, x3 35:33. -/
noncomputable def decodeM20 (w : Slot) : Option SlotDecode :=
  match (fld w 37 4).toNat, (fld w 33 3).toNat with
  | 0x1, 1 => some (.instr (.chkSMM20 (fld w 0 6) (fld w 13 7) (fld w 36 1 ++ fld w 20 13 ++ fld w 6 7)))
  | _, _ => none

/-- Format M21 (R425): op 40:37, x3 35:33. -/
noncomputable def decodeM21 (w : Slot) : Option SlotDecode :=
  match (fld w 37 4).toNat, (fld w 33 3).toNat with
  | 0x1, 3 => some (.instr (.chkSM21 (fld w 0 6) (fld w 13 7) (fld w 36 1 ++ fld w 20 13 ++ fld w 6 7)))
  | _, _ => none

/-- Format M22 (R426): op 40:37, x3 35:33. -/
noncomputable def decodeM22 (w : Slot) : Option SlotDecode :=
  match (fld w 37 4).toNat, (fld w 33 3).toNat with
  | 0x0, 4 => some (.instr (.chkANcM22 (fld w 0 6) (fld w 6 7) (fld w 36 1 ++ fld w 13 20)))
  | 0x0, 5 => some (.instr (.chkAClrM22 (fld w 0 6) (fld w 6 7) (fld w 36 1 ++ fld w 13 20)))
  | _, _ => none

/-- Format M23 (R427): op 40:37, x3 35:33. -/
noncomputable def decodeM23 (w : Slot) : Option SlotDecode :=
  match (fld w 37 4).toNat, (fld w 33 3).toNat with
  | 0x0, 6 => some (.instr (.chkANcM23 (fld w 0 6) (fld w 6 7) (fld w 36 1 ++ fld w 13 20)))
  | 0x0, 7 => some (.instr (.chkAClrM23 (fld w 0 6) (fld w 6 7) (fld w 36 1 ++ fld w 13 20)))
  | _, _ => none

/-- Format M24 (R428): op 40:37, x3 35:33, x2 32:31, x4 30:27. -/
noncomputable def decodeM24 (w : Slot) : Option SlotDecode :=
  match (fld w 37 4).toNat, (fld w 33 3).toNat, (fld w 31 2).toNat, (fld w 27 4).toNat with
  | 0x0, 0, 1, 0x0 => some (.instr (.invalaM24 (fld w 0 6)))
  | 0x0, 0, 2, 0x0 => some (.instr (.fwbM24 (fld w 0 6)))
  | 0x0, 0, 2, 0x2 => some (.instr (.mfM24 (fld w 0 6)))
  | 0x0, 0, 2, 0x3 => some (.instr (.mfAM24 (fld w 0 6)))
  | 0x0, 0, 3, 0x0 => some (.instr (.srlzDM24 (fld w 0 6)))
  | 0x0, 0, 3, 0x1 => some (.instr (.srlzIM24 (fld w 0 6)))
  | 0x0, 0, 3, 0x3 => some (.instr (.syncIM24 (fld w 0 6)))
  | _, _, _, _ => none

/-- Format M25 (R429): op 40:37, x3 35:33, x2 32:31, x4 30:27. -/
noncomputable def decodeM25 (w : Slot) : Option SlotDecode :=
  match (fld w 37 4).toNat, (fld w 33 3).toNat, (fld w 31 2).toNat, (fld w 27 4).toNat with
  | 0x0, 0, 0, 0xc => some (zeroChecked (fld w 0 6) w (.flushrsM25))
  | 0x0, 0, 0, 0xa => some (zeroChecked (fld w 0 6) w (.loadrsM25))
  | _, _, _, _ => none

/-- Format M26 (R430): op 40:37, x3 35:33, x2 32:31, x4 30:27. -/
noncomputable def decodeM26 (w : Slot) : Option SlotDecode :=
  match (fld w 37 4).toNat, (fld w 33 3).toNat, (fld w 31 2).toNat, (fld w 27 4).toNat with
  | 0x0, 0, 1, 0x2 => some (.instr (.invalaEM26 (fld w 0 6) (fld w 6 7)))
  | _, _, _, _ => none

/-- Format M27 (R431): op 40:37, x3 35:33, x2 32:31, x4 30:27. -/
noncomputable def decodeM27 (w : Slot) : Option SlotDecode :=
  match (fld w 37 4).toNat, (fld w 33 3).toNat, (fld w 31 2).toNat, (fld w 27 4).toNat with
  | 0x0, 0, 1, 0x3 => some (.instr (.invalaEM27 (fld w 0 6) (fld w 6 7)))
  | _, _, _, _ => none

/-- Format M28 (R432): op 40:37, x 36, x3 35:33, x6 32:27. -/
noncomputable def decodeM28 (w : Slot) : Option SlotDecode :=
  match (fld w 37 4).toNat, (fld w 36 1).toNat, (fld w 33 3).toNat, (fld w 27 6).toNat with
  | 0x1, 0, 0, 0x30 => some (.instr (.fcM28 (fld w 0 6) (fld w 20 7)))
  | 0x1, 1, 0, 0x30 => some (.instr (.fcIM28 (fld w 0 6) (fld w 20 7)))
  | _, _, _, _ => none

/-- Format M29 (R434): op 40:37, x3 35:33, x6 32:27. -/
noncomputable def decodeM29 (w : Slot) : Option SlotDecode :=
  match (fld w 37 4).toNat, (fld w 33 3).toNat, (fld w 27 6).toNat with
  | 0x1, 0, 0x2a => some (.instr (.movMToArM29 (fld w 0 6) (fld w 13 7) (fld w 20 7)))
  | _, _, _ => none

/-- Format M30 (R433): op 40:37, x3 35:33, x2 32:31, x4 30:27. -/
noncomputable def decodeM30 (w : Slot) : Option SlotDecode :=
  match (fld w 37 4).toNat, (fld w 33 3).toNat, (fld w 31 2).toNat, (fld w 27 4).toNat with
  | 0x0, 0, 2, 0x8 => some (.instr (.movMToArImmM30 (fld w 0 6) (fld w 20 7) (fld w 36 1 ++ fld w 13 7)))
  | _, _, _, _ => none

/-- Format M31 (R435): op 40:37, x3 35:33, x6 32:27. -/
noncomputable def decodeM31 (w : Slot) : Option SlotDecode :=
  match (fld w 37 4).toNat, (fld w 33 3).toNat, (fld w 27 6).toNat with
  | 0x1, 0, 0x22 => some (.instr (.movMFromArM31 (fld w 0 6) (fld w 6 7) (fld w 20 7)))
  | _, _, _ => none

/-- Format M32 (R436): op 40:37, x3 35:33, x6 32:27. -/
noncomputable def decodeM32 (w : Slot) : Option SlotDecode :=
  match (fld w 37 4).toNat, (fld w 33 3).toNat, (fld w 27 6).toNat with
  | 0x1, 0, 0x2c => some (.instr (.movToCrM32 (fld w 0 6) (fld w 13 7) (fld w 20 7)))
  | _, _, _ => none

/-- Format M33 (R437): op 40:37, x3 35:33, x6 32:27. -/
noncomputable def decodeM33 (w : Slot) : Option SlotDecode :=
  match (fld w 37 4).toNat, (fld w 33 3).toNat, (fld w 27 6).toNat with
  | 0x1, 0, 0x24 => some (.instr (.movFromCrM33 (fld w 0 6) (fld w 6 7) (fld w 20 7)))
  | _, _, _ => none

/-- Format M34 (R443): op 40:37, x3 35:33. -/
noncomputable def decodeM34 (w : Slot) : Option SlotDecode :=
  match (fld w 37 4).toNat, (fld w 33 3).toNat with
  | 0x1, 6 => some (.instr (.allocM34 (fld w 0 6) (fld w 6 7) (fld w 27 4) (fld w 20 7) (fld w 13 7)))
  | _, _ => none

/-- Format M35 (R438): op 40:37, x3 35:33, x6 32:27. -/
noncomputable def decodeM35 (w : Slot) : Option SlotDecode :=
  match (fld w 37 4).toNat, (fld w 33 3).toNat, (fld w 27 6).toNat with
  | 0x1, 0, 0x2d => some (.instr (.movToPsrLM35 (fld w 0 6) (fld w 13 7)))
  | 0x1, 0, 0x29 => some (.instr (.movToPsrUmM35 (fld w 0 6) (fld w 13 7)))
  | _, _, _ => none

/-- Format M36 (R439): op 40:37, x3 35:33, x6 32:27. -/
noncomputable def decodeM36 (w : Slot) : Option SlotDecode :=
  match (fld w 37 4).toNat, (fld w 33 3).toNat, (fld w 27 6).toNat with
  | 0x1, 0, 0x25 => some (.instr (.movFromPsrM36 (fld w 0 6) (fld w 6 7)))
  | 0x1, 0, 0x21 => some (.instr (.movFromPsrUmM36 (fld w 0 6) (fld w 6 7)))
  | _, _, _ => none

/-- Format M37 (R441): op 40:37, x3 35:33, x2 32:31, x4 30:27. -/
noncomputable def decodeM37 (w : Slot) : Option SlotDecode :=
  match (fld w 37 4).toNat, (fld w 33 3).toNat, (fld w 31 2).toNat, (fld w 27 4).toNat with
  | 0x0, 0, 0, 0x0 => some (.instr (.breakMM37 (fld w 0 6) (fld w 36 1 ++ fld w 6 20)))
  | _, _, _, _ => none

/-- Format M38 (R442): op 40:37, x3 35:33, x6 32:27. -/
noncomputable def decodeM38 (w : Slot) : Option SlotDecode :=
  match (fld w 37 4).toNat, (fld w 33 3).toNat, (fld w 27 6).toNat with
  | 0x1, 0, 0x38 => some (.instr (.probeRM38 (fld w 0 6) (fld w 6 7) (fld w 13 7) (fld w 20 7)))
  | 0x1, 0, 0x39 => some (.instr (.probeWM38 (fld w 0 6) (fld w 6 7) (fld w 13 7) (fld w 20 7)))
  | _, _, _ => none

/-- Format M39 (R444): op 40:37, x3 35:33, x6 32:27. -/
noncomputable def decodeM39 (w : Slot) : Option SlotDecode :=
  match (fld w 37 4).toNat, (fld w 33 3).toNat, (fld w 27 6).toNat with
  | 0x1, 0, 0x18 => some (.instr (.probeRM39 (fld w 0 6) (fld w 6 7) (fld w 20 7) (fld w 13 2)))
  | 0x1, 0, 0x19 => some (.instr (.probeWM39 (fld w 0 6) (fld w 6 7) (fld w 20 7) (fld w 13 2)))
  | _, _, _ => none

/-- Format M40 (R445): op 40:37, x3 35:33, x6 32:27. -/
noncomputable def decodeM40 (w : Slot) : Option SlotDecode :=
  match (fld w 37 4).toNat, (fld w 33 3).toNat, (fld w 27 6).toNat with
  | 0x1, 0, 0x31 => some (.instr (.probeRwFaultM40 (fld w 0 6) (fld w 20 7) (fld w 13 2)))
  | 0x1, 0, 0x32 => some (.instr (.probeRFaultM40 (fld w 0 6) (fld w 20 7) (fld w 13 2)))
  | 0x1, 0, 0x33 => some (.instr (.probeWFaultM40 (fld w 0 6) (fld w 20 7) (fld w 13 2)))
  | _, _, _ => none

/-- Format M41 (R447): op 40:37, x3 35:33, x6 32:27. -/
noncomputable def decodeM41 (w : Slot) : Option SlotDecode :=
  match (fld w 37 4).toNat, (fld w 33 3).toNat, (fld w 27 6).toNat with
  | 0x1, 0, 0x2e => some (.instr (.itcDM41 (fld w 0 6) (fld w 13 7)))
  | 0x1, 0, 0x2f => some (.instr (.itcIM41 (fld w 0 6) (fld w 13 7)))
  | _, _, _ => none

/-- Format M42 (R448): op 40:37, x3 35:33, x6 32:27. -/
noncomputable def decodeM42 (w : Slot) : Option SlotDecode :=
  match (fld w 37 4).toNat, (fld w 33 3).toNat, (fld w 27 6).toNat with
  | 0x1, 0, 0x0 => some (.instr (.movToRrM42 (fld w 0 6) (fld w 13 7) (fld w 20 7)))
  | 0x1, 0, 0x1 => some (.instr (.movToDbrM42 (fld w 0 6) (fld w 13 7) (fld w 20 7)))
  | 0x1, 0, 0x2 => some (.instr (.movToIbrM42 (fld w 0 6) (fld w 13 7) (fld w 20 7)))
  | 0x1, 0, 0x3 => some (.instr (.movToPkrM42 (fld w 0 6) (fld w 13 7) (fld w 20 7)))
  | 0x1, 0, 0x4 => some (.instr (.movToPmcM42 (fld w 0 6) (fld w 13 7) (fld w 20 7)))
  | 0x1, 0, 0x5 => some (.instr (.movToPmdM42 (fld w 0 6) (fld w 13 7) (fld w 20 7)))
  | 0x1, 0, 0xe => some (.instr (.itrDM42 (fld w 0 6) (fld w 13 7) (fld w 20 7)))
  | 0x1, 0, 0xf => some (.instr (.itrIM42 (fld w 0 6) (fld w 13 7) (fld w 20 7)))
  | _, _, _ => none

/-- Format M43 (R449): op 40:37, x3 35:33, x6 32:27. -/
noncomputable def decodeM43 (w : Slot) : Option SlotDecode :=
  match (fld w 37 4).toNat, (fld w 33 3).toNat, (fld w 27 6).toNat with
  | 0x1, 0, 0x10 => some (.instr (.movFromRrM43 (fld w 0 6) (fld w 6 7) (fld w 20 7)))
  | 0x1, 0, 0x11 => some (.instr (.movFromDbrM43 (fld w 0 6) (fld w 6 7) (fld w 20 7)))
  | 0x1, 0, 0x12 => some (.instr (.movFromIbrM43 (fld w 0 6) (fld w 6 7) (fld w 20 7)))
  | 0x1, 0, 0x13 => some (.instr (.movFromPkrM43 (fld w 0 6) (fld w 6 7) (fld w 20 7)))
  | 0x1, 0, 0x14 => some (.instr (.movFromPmcM43 (fld w 0 6) (fld w 6 7) (fld w 20 7)))
  | 0x1, 0, 0x15 => some (.instr (.movFromPmdM43 (fld w 0 6) (fld w 6 7) (fld w 20 7)))
  | 0x1, 0, 0x17 => some (.instr (.movFromCpuidM43 (fld w 0 6) (fld w 6 7) (fld w 20 7)))
  | 0x1, 0, 0x20 => some (.instr (.movFromDahrM43 (fld w 0 6) (fld w 6 7) (fld w 20 7)))
  | _, _, _ => none

/-- Format M44 (R450): op 40:37, x3 35:33, x4 30:27. -/
noncomputable def decodeM44 (w : Slot) : Option SlotDecode :=
  match (fld w 37 4).toNat, (fld w 33 3).toNat, (fld w 27 4).toNat with
  | 0x0, 0, 0x4 => some (.instr (.sumM44 (fld w 0 6) (fld w 36 1 ++ fld w 31 2 ++ fld w 6 21)))
  | 0x0, 0, 0x5 => some (.instr (.rumM44 (fld w 0 6) (fld w 36 1 ++ fld w 31 2 ++ fld w 6 21)))
  | 0x0, 0, 0x6 => some (.instr (.ssmM44 (fld w 0 6) (fld w 36 1 ++ fld w 31 2 ++ fld w 6 21)))
  | 0x0, 0, 0x7 => some (.instr (.rsmM44 (fld w 0 6) (fld w 36 1 ++ fld w 31 2 ++ fld w 6 21)))
  | _, _, _ => none

/-- Format M45 (R451): op 40:37, x3 35:33, x6 32:27. -/
noncomputable def decodeM45 (w : Slot) : Option SlotDecode :=
  match (fld w 37 4).toNat, (fld w 33 3).toNat, (fld w 27 6).toNat with
  | 0x1, 0, 0x9 => some (.instr (.ptcLM45 (fld w 0 6) (fld w 13 7) (fld w 20 7)))
  | 0x1, 0, 0xa => some (.instr (.ptcGM45 (fld w 0 6) (fld w 13 7) (fld w 20 7)))
  | 0x1, 0, 0xb => some (.instr (.ptcGaM45 (fld w 0 6) (fld w 13 7) (fld w 20 7)))
  | 0x1, 0, 0xc => some (.instr (.ptrDM45 (fld w 0 6) (fld w 13 7) (fld w 20 7)))
  | 0x1, 0, 0xd => some (.instr (.ptrIM45 (fld w 0 6) (fld w 13 7) (fld w 20 7)))
  | _, _, _ => none

/-- Format M46 (R452): op 40:37, x3 35:33, x6 32:27. -/
noncomputable def decodeM46 (w : Slot) : Option SlotDecode :=
  match (fld w 37 4).toNat, (fld w 33 3).toNat, (fld w 27 6).toNat with
  | 0x1, 0, 0x1a => some (.instr (.thashM46 (fld w 0 6) (fld w 6 7) (fld w 20 7)))
  | 0x1, 0, 0x1b => some (.instr (.ttagM46 (fld w 0 6) (fld w 6 7) (fld w 20 7)))
  | 0x1, 0, 0x1e => some (.instr (.tpaM46 (fld w 0 6) (fld w 6 7) (fld w 20 7)))
  | 0x1, 0, 0x1f => some (.instr (.takM46 (fld w 0 6) (fld w 6 7) (fld w 20 7)))
  | _, _, _ => none

/-- Format M47 (R453): op 40:37, x3 35:33, x6 32:27. -/
noncomputable def decodeM47 (w : Slot) : Option SlotDecode :=
  match (fld w 37 4).toNat, (fld w 33 3).toNat, (fld w 27 6).toNat with
  | 0x1, 0, 0x34 => some (.instr (.ptcEM47 (fld w 0 6) (fld w 20 7)))
  | _, _, _ => none

/-- Format M48 (R446): op 40:37, x3 35:33, x2 32:31, x4 30:27, y 26. -/
noncomputable def decodeM48 (w : Slot) : Option SlotDecode :=
  match (fld w 37 4).toNat, (fld w 33 3).toNat, (fld w 31 2).toNat, (fld w 27 4).toNat, (fld w 26 1).toNat with
  | 0x0, 0, 0, 0x1, 0 => some (.instr (.nopMM48 (fld w 0 6) (fld w 36 1 ++ fld w 6 20)))
  | _, _, _, _, _ => none

/-- Format M49 (R454): op 40:37, x3 35:33, x2 32:31, x4 30:27, y 26, z 11:10. -/
noncomputable def decodeM49 (w : Slot) : Option SlotDecode :=
  match (fld w 37 4).toNat, (fld w 33 3).toNat, (fld w 31 2).toNat, (fld w 27 4).toNat, (fld w 26 1).toNat, (fld w 10 2).toNat with
  | 0x0, 0, 0, 0x1, 1, 0 => some (.instr (.hintMM49 (fld w 0 6) (fld w 36 1 ++ fld w 12 14 ++ fld w 6 4)))
  | _, _, _, _, _, _ => none

/-- Format M50 (R455): op 40:37, x3 35:33, x2 32:31, x4 30:27, y 26, z 11:10. -/
noncomputable def decodeM50 (w : Slot) : Option SlotDecode :=
  match (fld w 37 4).toNat, (fld w 33 3).toNat, (fld w 31 2).toNat, (fld w 27 4).toNat, (fld w 26 1).toNat, (fld w 10 2).toNat with
  | 0x0, 0, 0, 0x1, 1, 1 => some (.instr (.movToDahrImmM50 (fld w 0 6) (fld w 23 3) (fld w 36 1 ++ fld w 12 11 ++ fld w 6 4)))
  | _, _, _, _, _, _ => none

/-- Format B1 (R487): op 40:37, btype 8:6. -/
noncomputable def decodeB1 (w : Slot) : Option SlotDecode :=
  match (fld w 37 4).toNat, (fld w 6 3).toNat with
  | 0x4, 0 => some (.instr (.brCondB1 (fld w 0 6) (fld w 35 1) (fld w 33 2) (fld w 12 1) (fld w 36 1 ++ fld w 13 20)))
  | 0x4, 2 => some (.instr (.brWexitB1 (fld w 0 6) (fld w 35 1) (fld w 33 2) (fld w 12 1) (fld w 36 1 ++ fld w 13 20)))
  | 0x4, 3 => some (.instr (.brWtopB1 (fld w 0 6) (fld w 35 1) (fld w 33 2) (fld w 12 1) (fld w 36 1 ++ fld w 13 20)))
  | _, _ => none

/-- Format B2 (R488): op 40:37, btype 8:6. -/
noncomputable def decodeB2 (w : Slot) : Option SlotDecode :=
  match (fld w 37 4).toNat, (fld w 6 3).toNat with
  | 0x4, 5 => some (zeroChecked (fld w 0 6) w (.brCloopB2 (fld w 35 1) (fld w 33 2) (fld w 12 1) (fld w 36 1 ++ fld w 13 20)))
  | 0x4, 6 => some (zeroChecked (fld w 0 6) w (.brCexitB2 (fld w 35 1) (fld w 33 2) (fld w 12 1) (fld w 36 1 ++ fld w 13 20)))
  | 0x4, 7 => some (zeroChecked (fld w 0 6) w (.brCtopB2 (fld w 35 1) (fld w 33 2) (fld w 12 1) (fld w 36 1 ++ fld w 13 20)))
  | _, _ => none

/-- Format B3 (R489): op 40:37. -/
noncomputable def decodeB3 (w : Slot) : Option SlotDecode :=
  match (fld w 37 4).toNat with
  | 0x5 => some (.instr (.brCallB3 (fld w 0 6) (fld w 6 3) (fld w 35 1) (fld w 33 2) (fld w 12 1) (fld w 36 1 ++ fld w 13 20)))
  | _ => none

/-- Format B4 (R490): op 40:37, x6 32:27, btype 8:6. -/
noncomputable def decodeB4 (w : Slot) : Option SlotDecode :=
  match (fld w 37 4).toNat, (fld w 27 6).toNat, (fld w 6 3).toNat with
  | 0x0, 0x20, 0 => some (.instr (.brCondB4 (fld w 0 6) (fld w 13 3) (fld w 35 1) (fld w 33 2) (fld w 12 1)))
  | 0x0, 0x20, 1 => some (.instr (.brIaB4 (fld w 0 6) (fld w 13 3) (fld w 35 1) (fld w 33 2) (fld w 12 1)))
  | 0x0, 0x21, 4 => some (.instr (.brRetB4 (fld w 0 6) (fld w 13 3) (fld w 35 1) (fld w 33 2) (fld w 12 1)))
  | _, _, _ => none

/-- Format B5 (R491): op 40:37. -/
noncomputable def decodeB5 (w : Slot) : Option SlotDecode :=
  match (fld w 37 4).toNat with
  | 0x1 => some (.instr (.brCallB5 (fld w 0 6) (fld w 6 3) (fld w 13 3) (fld w 35 1) (fld w 32 3) (fld w 12 1)))
  | _ => none

/-- Format B6 (R492): op 40:37. -/
noncomputable def decodeB6 (w : Slot) : Option SlotDecode :=
  match (fld w 37 4).toNat with
  | 0x7 => some (.instr (.brpB6 (fld w 35 1) (fld w 5 1) (fld w 3 2) (fld w 0 3) (fld w 36 1 ++ fld w 13 20) (fld w 33 2 ++ fld w 6 7)))
  | _ => none

/-- Format B7 (R493): op 40:37, x6 32:27. -/
noncomputable def decodeB7 (w : Slot) : Option SlotDecode :=
  match (fld w 37 4).toNat, (fld w 27 6).toNat with
  | 0x2, 0x10 => some (.instr (.brpB7 (fld w 13 3) (fld w 35 1) (fld w 5 1) (fld w 3 2) (fld w 0 3) (fld w 33 2 ++ fld w 6 7)))
  | 0x2, 0x11 => some (.instr (.brpRetB7 (fld w 13 3) (fld w 35 1) (fld w 5 1) (fld w 3 2) (fld w 0 3) (fld w 33 2 ++ fld w 6 7)))
  | _, _ => none

/-- Format B8 (R494): op 40:37, x6 32:27. -/
noncomputable def decodeB8 (w : Slot) : Option SlotDecode :=
  match (fld w 37 4).toNat, (fld w 27 6).toNat with
  | 0x0, 0x2 => some (zeroChecked (fld w 0 6) w (.coverB8))
  | 0x0, 0x4 => some (zeroChecked (fld w 0 6) w (.clrrrbB8))
  | 0x0, 0x5 => some (zeroChecked (fld w 0 6) w (.clrrrbPrB8))
  | 0x0, 0x8 => some (zeroChecked (fld w 0 6) w (.rfiB8))
  | 0x0, 0xc => some (zeroChecked (fld w 0 6) w (.bsw0B8))
  | 0x0, 0xd => some (zeroChecked (fld w 0 6) w (.bsw1B8))
  | 0x0, 0x10 => some (zeroChecked (fld w 0 6) w (.epcB8))
  | 0x0, 0x18 => some (zeroChecked (fld w 0 6) w (.vmsw0B8))
  | 0x0, 0x19 => some (zeroChecked (fld w 0 6) w (.vmsw1B8))
  | _, _ => none

/-- Format B9 (R496): op 40:37, x6 32:27. -/
noncomputable def decodeB9 (w : Slot) : Option SlotDecode :=
  match (fld w 37 4).toNat, (fld w 27 6).toNat with
  | 0x0, 0x0 => some (.instr (.breakBB9 (fld w 0 6) (fld w 36 1 ++ fld w 6 20)))
  | 0x2, 0x0 => some (.instr (.nopBB9 (fld w 0 6) (fld w 36 1 ++ fld w 6 20)))
  | 0x2, 0x1 => some (.instr (.hintBB9 (fld w 0 6) (fld w 36 1 ++ fld w 6 20)))
  | _, _ => none

/-- Format F1 (R505): op 40:37, x 36. -/
noncomputable def decodeF1 (w : Slot) : Option SlotDecode :=
  match (fld w 37 4).toNat, (fld w 36 1).toNat with
  | 0x8, 0 => some (.instr (.fmaF1 (fld w 0 6) (fld w 6 7) (fld w 13 7) (fld w 20 7) (fld w 27 7) (fld w 34 2)))
  | 0x8, 1 => some (.instr (.fmaSF1 (fld w 0 6) (fld w 6 7) (fld w 13 7) (fld w 20 7) (fld w 27 7) (fld w 34 2)))
  | 0x9, 0 => some (.instr (.fmaDF1 (fld w 0 6) (fld w 6 7) (fld w 13 7) (fld w 20 7) (fld w 27 7) (fld w 34 2)))
  | 0x9, 1 => some (.instr (.fpmaF1 (fld w 0 6) (fld w 6 7) (fld w 13 7) (fld w 20 7) (fld w 27 7) (fld w 34 2)))
  | 0xa, 0 => some (.instr (.fmsF1 (fld w 0 6) (fld w 6 7) (fld w 13 7) (fld w 20 7) (fld w 27 7) (fld w 34 2)))
  | 0xa, 1 => some (.instr (.fmsSF1 (fld w 0 6) (fld w 6 7) (fld w 13 7) (fld w 20 7) (fld w 27 7) (fld w 34 2)))
  | 0xb, 0 => some (.instr (.fmsDF1 (fld w 0 6) (fld w 6 7) (fld w 13 7) (fld w 20 7) (fld w 27 7) (fld w 34 2)))
  | 0xb, 1 => some (.instr (.fpmsF1 (fld w 0 6) (fld w 6 7) (fld w 13 7) (fld w 20 7) (fld w 27 7) (fld w 34 2)))
  | 0xc, 0 => some (.instr (.fnmaF1 (fld w 0 6) (fld w 6 7) (fld w 13 7) (fld w 20 7) (fld w 27 7) (fld w 34 2)))
  | 0xc, 1 => some (.instr (.fnmaSF1 (fld w 0 6) (fld w 6 7) (fld w 13 7) (fld w 20 7) (fld w 27 7) (fld w 34 2)))
  | 0xd, 0 => some (.instr (.fnmaDF1 (fld w 0 6) (fld w 6 7) (fld w 13 7) (fld w 20 7) (fld w 27 7) (fld w 34 2)))
  | 0xd, 1 => some (.instr (.fpnmaF1 (fld w 0 6) (fld w 6 7) (fld w 13 7) (fld w 20 7) (fld w 27 7) (fld w 34 2)))
  | _, _ => none

/-- Format F2 (R506): op 40:37, x 36, x2 35:34. -/
noncomputable def decodeF2 (w : Slot) : Option SlotDecode :=
  match (fld w 37 4).toNat, (fld w 36 1).toNat, (fld w 34 2).toNat with
  | 0xe, 1, 0 => some (.instr (.xmaLF2 (fld w 0 6) (fld w 6 7) (fld w 13 7) (fld w 20 7) (fld w 27 7)))
  | 0xe, 1, 2 => some (.instr (.xmaHuF2 (fld w 0 6) (fld w 6 7) (fld w 13 7) (fld w 20 7) (fld w 27 7)))
  | 0xe, 1, 3 => some (.instr (.xmaHF2 (fld w 0 6) (fld w 6 7) (fld w 13 7) (fld w 20 7) (fld w 27 7)))
  | _, _, _ => none

/-- Format F3 (R507): op 40:37, x 36. -/
noncomputable def decodeF3 (w : Slot) : Option SlotDecode :=
  match (fld w 37 4).toNat, (fld w 36 1).toNat with
  | 0xe, 0 => some (.instr (.fselectF3 (fld w 0 6) (fld w 6 7) (fld w 13 7) (fld w 20 7) (fld w 27 7)))
  | _, _ => none

/-- Format F4 (R508): op 40:37, rb 36, ra 33, ta 12. -/
noncomputable def decodeF4 (w : Slot) : Option SlotDecode :=
  match (fld w 37 4).toNat, (fld w 36 1).toNat, (fld w 33 1).toNat, (fld w 12 1).toNat with
  | 0x4, 0, 0, 0 => some (.instr (.fcmpEqF4 (fld w 0 6) (fld w 6 6) (fld w 27 6) (fld w 13 7) (fld w 20 7) (fld w 34 2)))
  | 0x4, 0, 0, 1 => some (.instr (.fcmpEqUncF4 (fld w 0 6) (fld w 6 6) (fld w 27 6) (fld w 13 7) (fld w 20 7) (fld w 34 2)))
  | 0x4, 1, 0, 0 => some (.instr (.fcmpLtF4 (fld w 0 6) (fld w 6 6) (fld w 27 6) (fld w 13 7) (fld w 20 7) (fld w 34 2)))
  | 0x4, 1, 0, 1 => some (.instr (.fcmpLtUncF4 (fld w 0 6) (fld w 6 6) (fld w 27 6) (fld w 13 7) (fld w 20 7) (fld w 34 2)))
  | 0x4, 0, 1, 0 => some (.instr (.fcmpLeF4 (fld w 0 6) (fld w 6 6) (fld w 27 6) (fld w 13 7) (fld w 20 7) (fld w 34 2)))
  | 0x4, 0, 1, 1 => some (.instr (.fcmpLeUncF4 (fld w 0 6) (fld w 6 6) (fld w 27 6) (fld w 13 7) (fld w 20 7) (fld w 34 2)))
  | 0x4, 1, 1, 0 => some (.instr (.fcmpUnordF4 (fld w 0 6) (fld w 6 6) (fld w 27 6) (fld w 13 7) (fld w 20 7) (fld w 34 2)))
  | 0x4, 1, 1, 1 => some (.instr (.fcmpUnordUncF4 (fld w 0 6) (fld w 6 6) (fld w 27 6) (fld w 13 7) (fld w 20 7) (fld w 34 2)))
  | _, _, _, _ => none

/-- Format F5 (R509): op 40:37, ta 12. -/
noncomputable def decodeF5 (w : Slot) : Option SlotDecode :=
  match (fld w 37 4).toNat, (fld w 12 1).toNat with
  | 0x5, 0 => some (.instr (.fclassMF5 (fld w 0 6) (fld w 6 6) (fld w 27 6) (fld w 13 7) (fld w 20 7 ++ fld w 33 2)))
  | 0x5, 1 => some (.instr (.fclassMUncF5 (fld w 0 6) (fld w 6 6) (fld w 27 6) (fld w 13 7) (fld w 20 7 ++ fld w 33 2)))
  | _, _ => none

/-- Format F6 (R510): op 40:37, q 36, x 33. -/
noncomputable def decodeF6 (w : Slot) : Option SlotDecode :=
  match (fld w 37 4).toNat, (fld w 36 1).toNat, (fld w 33 1).toNat with
  | 0x0, 0, 1 => some (.instr (.frcpaF6 (fld w 0 6) (fld w 27 6) (fld w 6 7) (fld w 13 7) (fld w 20 7) (fld w 34 2)))
  | 0x1, 0, 1 => some (.instr (.fprcpaF6 (fld w 0 6) (fld w 27 6) (fld w 6 7) (fld w 13 7) (fld w 20 7) (fld w 34 2)))
  | _, _, _ => none

/-- Format F7 (R511): op 40:37, q 36, x 33. -/
noncomputable def decodeF7 (w : Slot) : Option SlotDecode :=
  match (fld w 37 4).toNat, (fld w 36 1).toNat, (fld w 33 1).toNat with
  | 0x0, 1, 1 => some (.instr (.frsqrtaF7 (fld w 0 6) (fld w 27 6) (fld w 6 7) (fld w 20 7) (fld w 34 2)))
  | 0x1, 1, 1 => some (.instr (.fprsqrtaF7 (fld w 0 6) (fld w 27 6) (fld w 6 7) (fld w 20 7) (fld w 34 2)))
  | _, _, _ => none

/-- Format F8 (R512): op 40:37, x 33, x6 32:27. -/
noncomputable def decodeF8 (w : Slot) : Option SlotDecode :=
  match (fld w 37 4).toNat, (fld w 33 1).toNat, (fld w 27 6).toNat with
  | 0x0, 0, 0x14 => some (.instr (.fminF8 (fld w 0 6) (fld w 6 7) (fld w 13 7) (fld w 20 7) (fld w 34 2)))
  | 0x0, 0, 0x15 => some (.instr (.fmaxF8 (fld w 0 6) (fld w 6 7) (fld w 13 7) (fld w 20 7) (fld w 34 2)))
  | 0x0, 0, 0x16 => some (.instr (.faminF8 (fld w 0 6) (fld w 6 7) (fld w 13 7) (fld w 20 7) (fld w 34 2)))
  | 0x0, 0, 0x17 => some (.instr (.famaxF8 (fld w 0 6) (fld w 6 7) (fld w 13 7) (fld w 20 7) (fld w 34 2)))
  | 0x1, 0, 0x14 => some (.instr (.fpminF8 (fld w 0 6) (fld w 6 7) (fld w 13 7) (fld w 20 7) (fld w 34 2)))
  | 0x1, 0, 0x15 => some (.instr (.fpmaxF8 (fld w 0 6) (fld w 6 7) (fld w 13 7) (fld w 20 7) (fld w 34 2)))
  | 0x1, 0, 0x16 => some (.instr (.fpaminF8 (fld w 0 6) (fld w 6 7) (fld w 13 7) (fld w 20 7) (fld w 34 2)))
  | 0x1, 0, 0x17 => some (.instr (.fpamaxF8 (fld w 0 6) (fld w 6 7) (fld w 13 7) (fld w 20 7) (fld w 34 2)))
  | 0x1, 0, 0x30 => some (.instr (.fpcmpEqF8 (fld w 0 6) (fld w 6 7) (fld w 13 7) (fld w 20 7) (fld w 34 2)))
  | 0x1, 0, 0x31 => some (.instr (.fpcmpLtF8 (fld w 0 6) (fld w 6 7) (fld w 13 7) (fld w 20 7) (fld w 34 2)))
  | 0x1, 0, 0x32 => some (.instr (.fpcmpLeF8 (fld w 0 6) (fld w 6 7) (fld w 13 7) (fld w 20 7) (fld w 34 2)))
  | 0x1, 0, 0x33 => some (.instr (.fpcmpUnordF8 (fld w 0 6) (fld w 6 7) (fld w 13 7) (fld w 20 7) (fld w 34 2)))
  | 0x1, 0, 0x34 => some (.instr (.fpcmpNeqF8 (fld w 0 6) (fld w 6 7) (fld w 13 7) (fld w 20 7) (fld w 34 2)))
  | 0x1, 0, 0x35 => some (.instr (.fpcmpNltF8 (fld w 0 6) (fld w 6 7) (fld w 13 7) (fld w 20 7) (fld w 34 2)))
  | 0x1, 0, 0x36 => some (.instr (.fpcmpNleF8 (fld w 0 6) (fld w 6 7) (fld w 13 7) (fld w 20 7) (fld w 34 2)))
  | 0x1, 0, 0x37 => some (.instr (.fpcmpOrdF8 (fld w 0 6) (fld w 6 7) (fld w 13 7) (fld w 20 7) (fld w 34 2)))
  | _, _, _ => none

/-- Format F9 (R513): op 40:37, x 33, x6 32:27. -/
noncomputable def decodeF9 (w : Slot) : Option SlotDecode :=
  match (fld w 37 4).toNat, (fld w 33 1).toNat, (fld w 27 6).toNat with
  | 0x0, 0, 0x10 => some (.instr (.fmergeSF9 (fld w 0 6) (fld w 6 7) (fld w 13 7) (fld w 20 7)))
  | 0x0, 0, 0x11 => some (.instr (.fmergeNsF9 (fld w 0 6) (fld w 6 7) (fld w 13 7) (fld w 20 7)))
  | 0x0, 0, 0x12 => some (.instr (.fmergeSeF9 (fld w 0 6) (fld w 6 7) (fld w 13 7) (fld w 20 7)))
  | 0x0, 0, 0x39 => some (.instr (.fmixLrF9 (fld w 0 6) (fld w 6 7) (fld w 13 7) (fld w 20 7)))
  | 0x0, 0, 0x3a => some (.instr (.fmixRF9 (fld w 0 6) (fld w 6 7) (fld w 13 7) (fld w 20 7)))
  | 0x0, 0, 0x3b => some (.instr (.fmixLF9 (fld w 0 6) (fld w 6 7) (fld w 13 7) (fld w 20 7)))
  | 0x0, 0, 0x3c => some (.instr (.fsxtRF9 (fld w 0 6) (fld w 6 7) (fld w 13 7) (fld w 20 7)))
  | 0x0, 0, 0x3d => some (.instr (.fsxtLF9 (fld w 0 6) (fld w 6 7) (fld w 13 7) (fld w 20 7)))
  | 0x0, 0, 0x28 => some (.instr (.fpackF9 (fld w 0 6) (fld w 6 7) (fld w 13 7) (fld w 20 7)))
  | 0x0, 0, 0x34 => some (.instr (.fswapF9 (fld w 0 6) (fld w 6 7) (fld w 13 7) (fld w 20 7)))
  | 0x0, 0, 0x35 => some (.instr (.fswapNlF9 (fld w 0 6) (fld w 6 7) (fld w 13 7) (fld w 20 7)))
  | 0x0, 0, 0x36 => some (.instr (.fswapNrF9 (fld w 0 6) (fld w 6 7) (fld w 13 7) (fld w 20 7)))
  | 0x0, 0, 0x2c => some (.instr (.fandF9 (fld w 0 6) (fld w 6 7) (fld w 13 7) (fld w 20 7)))
  | 0x0, 0, 0x2d => some (.instr (.fandcmF9 (fld w 0 6) (fld w 6 7) (fld w 13 7) (fld w 20 7)))
  | 0x0, 0, 0x2e => some (.instr (.forF9 (fld w 0 6) (fld w 6 7) (fld w 13 7) (fld w 20 7)))
  | 0x0, 0, 0x2f => some (.instr (.fxorF9 (fld w 0 6) (fld w 6 7) (fld w 13 7) (fld w 20 7)))
  | 0x1, 0, 0x10 => some (.instr (.fpmergeSF9 (fld w 0 6) (fld w 6 7) (fld w 13 7) (fld w 20 7)))
  | 0x1, 0, 0x11 => some (.instr (.fpmergeNsF9 (fld w 0 6) (fld w 6 7) (fld w 13 7) (fld w 20 7)))
  | 0x1, 0, 0x12 => some (.instr (.fpmergeSeF9 (fld w 0 6) (fld w 6 7) (fld w 13 7) (fld w 20 7)))
  | _, _, _ => none

/-- Format F10 (R514): op 40:37, x 33, x6 32:27. -/
noncomputable def decodeF10 (w : Slot) : Option SlotDecode :=
  match (fld w 37 4).toNat, (fld w 33 1).toNat, (fld w 27 6).toNat with
  | 0x0, 0, 0x18 => some (.instr (.fcvtFxF10 (fld w 0 6) (fld w 6 7) (fld w 13 7) (fld w 34 2)))
  | 0x0, 0, 0x19 => some (.instr (.fcvtFxuF10 (fld w 0 6) (fld w 6 7) (fld w 13 7) (fld w 34 2)))
  | 0x0, 0, 0x1a => some (.instr (.fcvtFxTruncF10 (fld w 0 6) (fld w 6 7) (fld w 13 7) (fld w 34 2)))
  | 0x0, 0, 0x1b => some (.instr (.fcvtFxuTruncF10 (fld w 0 6) (fld w 6 7) (fld w 13 7) (fld w 34 2)))
  | 0x1, 0, 0x18 => some (.instr (.fpcvtFxF10 (fld w 0 6) (fld w 6 7) (fld w 13 7) (fld w 34 2)))
  | 0x1, 0, 0x19 => some (.instr (.fpcvtFxuF10 (fld w 0 6) (fld w 6 7) (fld w 13 7) (fld w 34 2)))
  | 0x1, 0, 0x1a => some (.instr (.fpcvtFxTruncF10 (fld w 0 6) (fld w 6 7) (fld w 13 7) (fld w 34 2)))
  | 0x1, 0, 0x1b => some (.instr (.fpcvtFxuTruncF10 (fld w 0 6) (fld w 6 7) (fld w 13 7) (fld w 34 2)))
  | _, _, _ => none

/-- Format F11 (R515): op 40:37, x 33, x6 32:27. -/
noncomputable def decodeF11 (w : Slot) : Option SlotDecode :=
  match (fld w 37 4).toNat, (fld w 33 1).toNat, (fld w 27 6).toNat with
  | 0x0, 0, 0x1c => some (.instr (.fcvtXfF11 (fld w 0 6) (fld w 6 7) (fld w 13 7)))
  | _, _, _ => none

/-- Format F12 (R516): op 40:37, x 33, x6 32:27. -/
noncomputable def decodeF12 (w : Slot) : Option SlotDecode :=
  match (fld w 37 4).toNat, (fld w 33 1).toNat, (fld w 27 6).toNat with
  | 0x0, 0, 0x4 => some (.instr (.fsetcF12 (fld w 0 6) (fld w 34 2) (fld w 20 7) (fld w 13 7)))
  | _, _, _ => none

/-- Format F13 (R517): op 40:37, x 33, x6 32:27. -/
noncomputable def decodeF13 (w : Slot) : Option SlotDecode :=
  match (fld w 37 4).toNat, (fld w 33 1).toNat, (fld w 27 6).toNat with
  | 0x0, 0, 0x5 => some (.instr (.fclrfF13 (fld w 0 6) (fld w 34 2)))
  | _, _, _ => none

/-- Format F14 (R518): op 40:37, x 33, x6 32:27. -/
noncomputable def decodeF14 (w : Slot) : Option SlotDecode :=
  match (fld w 37 4).toNat, (fld w 33 1).toNat, (fld w 27 6).toNat with
  | 0x0, 0, 0x8 => some (.instr (.fchkfF14 (fld w 0 6) (fld w 34 2) (fld w 36 1 ++ fld w 6 20)))
  | _, _, _ => none

/-- Format F15 (R519): op 40:37, x 33, x6 32:27. -/
noncomputable def decodeF15 (w : Slot) : Option SlotDecode :=
  match (fld w 37 4).toNat, (fld w 33 1).toNat, (fld w 27 6).toNat with
  | 0x0, 0, 0x0 => some (.instr (.breakFF15 (fld w 0 6) (fld w 36 1 ++ fld w 6 20)))
  | _, _, _ => none

/-- Format F16 (R520): op 40:37, x 33, x6 32:27, y 26. -/
noncomputable def decodeF16 (w : Slot) : Option SlotDecode :=
  match (fld w 37 4).toNat, (fld w 33 1).toNat, (fld w 27 6).toNat, (fld w 26 1).toNat with
  | 0x0, 0, 0x1, 0 => some (.instr (.nopFF16 (fld w 0 6) (fld w 36 1 ++ fld w 6 20)))
  | 0x0, 0, 0x1, 1 => some (.instr (.hintFF16 (fld w 0 6) (fld w 36 1 ++ fld w 6 20)))
  | _, _, _, _ => none

/-- Format X1 (R526): op 40:37, x3 35:33, x6 32:27. -/
noncomputable def decodeX1 (l w : Slot) : Option SlotDecode :=
  match (fld w 37 4).toNat, (fld w 33 3).toNat, (fld w 27 6).toNat with
  | 0x0, 0, 0x0 => some (.instr (.breakXX1 (fld w 0 6) (fld l 0 41 ++ fld w 36 1 ++ fld w 6 20)))
  | _, _, _ => none

/-- Format X2 (R527): op 40:37, vc 20. -/
noncomputable def decodeX2 (l w : Slot) : Option SlotDecode :=
  match (fld w 37 4).toNat, (fld w 20 1).toNat with
  | 0x6, 0 => some (.instr (.movlX2 (fld w 0 6) (fld w 6 7) (fld w 36 1 ++ fld l 0 41 ++ fld w 21 1 ++ fld w 22 5 ++ fld w 27 9 ++ fld w 13 7)))
  | _, _ => none

/-- Format X3 (R528): op 40:37, btype 8:6. -/
noncomputable def decodeX3 (l w : Slot) : Option SlotDecode :=
  match (fld w 37 4).toNat, (fld w 6 3).toNat with
  | 0xc, 0 => some (.instr (.brlCondX3 (fld w 0 6) (fld w 35 1) (fld w 33 2) (fld w 12 1) (fld w 36 1 ++ fld l 2 39 ++ fld w 13 20)))
  | _, _ => none

/-- Format X4 (R529): op 40:37. -/
noncomputable def decodeX4 (l w : Slot) : Option SlotDecode :=
  match (fld w 37 4).toNat with
  | 0xd => some (.instr (.brlCallX4 (fld w 0 6) (fld w 6 3) (fld w 35 1) (fld w 33 2) (fld w 12 1) (fld w 36 1 ++ fld l 2 39 ++ fld w 13 20)))
  | _ => none

/-- Format X5 (R530): op 40:37, x3 35:33, x6 32:27, y 26. -/
noncomputable def decodeX5 (l w : Slot) : Option SlotDecode :=
  match (fld w 37 4).toNat, (fld w 33 3).toNat, (fld w 27 6).toNat, (fld w 26 1).toNat with
  | 0x0, 0, 0x1, 0 => some (.instr (.nopXX5 (fld w 0 6) (fld l 0 41 ++ fld w 36 1 ++ fld w 6 20)))
  | 0x0, 0, 0x1, 1 => some (.instr (.hintXX5 (fld w 0 6) (fld l 0 41 ++ fld w 36 1 ++ fld w 6 20)))
  | _, _, _, _ => none

/-- Opcode 8 of the A column (R330, R340): by x2a and x4. -/
noncomputable def decodeA8op (w : Slot) : Option SlotDecode :=
  match (fld w 34 2).toNat, (fld w 29 4).toNat with
  | 0, 4 | 0, 6 => decodeA2 w
  | 0, 9 | 0, 0xB => decodeA3 w
  | 0, _ => decodeA1 w
  | 1, 4 | 1, 6 => decodeA10 w
  | 1, _ => decodeA9 w
  | _, _ => decodeA4 w

/-- Opcodes C, D, E of the A column (R336): by x2 and tb. -/
noncomputable def decodeCompare (w : Slot) : Option SlotDecode :=
  match (fld w 34 2).toNat, (fld w 36 1).toNat with
  | 0, 0 | 1, 0 => decodeA6 w
  | 0, _ | 1, _ => decodeA7 w
  | _, _ => decodeA8 w

/-- A-type instructions, by major opcode (the A entries of R256). -/
noncomputable def decodeA (w : Slot) : Option SlotDecode :=
  match (fld w 37 4).toNat with
  | 0x8 => decodeA8op w
  | 0x9 => decodeA5 w
  | 0xC | 0xD | 0xE => decodeCompare w
  | _ => none

/-- Opcode 0 of the I column, x3 = 0 (R370): by x6. -/
noncomputable def decodeI0x6 (w : Slot) : Option SlotDecode :=
  match (fld w 27 6).toNat with
  | 0x00 => decodeI19 w
  | 0x01 => decodeI18 w
  | 0x0A => decodeI27 w
  | 0x2A => decodeI26 w
  | 0x30 | 0x33 => decodeI25 w
  | 0x31 => decodeI22 w
  | 0x32 => decodeI28 w
  | _ => decodeI29 w

/-- Opcode 0 of the I column (R370): by x3. -/
noncomputable def decodeI0 (w : Slot) : Option SlotDecode :=
  match (fld w 33 3).toNat with
  | 0 => decodeI0x6 w
  | 1 => decodeI20 w
  | 2 => decodeI24 w
  | 3 => decodeI23 w
  | 7 => decodeI21 w
  | _ => none

/-- Opcode 5 of the I column (R360): by x2, then x, y and bit 26 or 19. -/
noncomputable def decodeI5op (w : Slot) : Option SlotDecode :=
  match (fld w 34 2).toNat with
  | 0 =>
    match (fld w 13 1).toNat, (fld w 19 1).toNat with
    | 0, _ => decodeI16 w
    | _, 0 => decodeI17 w
    | _, _ => decodeI30 w
  | 1 =>
    match (fld w 33 1).toNat, (fld w 26 1).toNat with
    | 0, _ => decodeI11 w
    | _, 0 => decodeI12 w
    | _, _ => decodeI13 w
  | 3 =>
    match (fld w 33 1).toNat with
    | 0 => decodeI10 w
    | _ => decodeI14 w
  | _ => none

/-- Opcode 7 of the I column (R350): by x2a, then x2b, x2c, za, zb. -/
noncomputable def decodeI7op (w : Slot) : Option SlotDecode :=
  match (fld w 34 2).toNat with
  | 0 =>
    match (fld w 28 2).toNat, (fld w 30 2).toNat, (fld w 36 1).toNat with
    | 0, 1, _ => decodeI7 w
    | 0, _, _ | 2, _, _ => decodeI5 w
    | _, _, 0 => decodeI1 w
    | _, _, _ => decodeI2 w
  | 1 =>
    match (fld w 30 2).toNat with
    | 0 => decodeI6 w
    | _ => decodeI9 w
  | 2 => decodeI2 w
  | _ =>
    match (fld w 30 2).toNat, (fld w 33 1).toNat with
    | 1, _ => decodeI8 w
    | _, 0 => decodeI3 w
    | _, _ => decodeI4 w

/-- An I slot: the I/A column of R256, by major opcode. -/
noncomputable def decodeI (w : Slot) : Option SlotDecode :=
  match (fld w 37 4).toNat with
  | 0x0 => decodeI0 w
  | 0x4 => decodeI15 w
  | 0x5 => decodeI5op w
  | 0x7 => decodeI7op w
  | _ => decodeA w

/-- Opcode 0 of the M column, x3 = 0 (Table 4-47 in R440): by x4 and x2. -/
noncomputable def decodeM0x4 (w : Slot) : Option SlotDecode :=
  match (fld w 27 4).toNat, (fld w 31 2).toNat with
  | 0, 0 => decodeM37 w
  | 1, 0 =>
    match (fld w 26 1).toNat, (fld w 10 2).toNat with
    | 0, _ => decodeM48 w
    | _, 0 => decodeM49 w
    | _, _ => decodeM50 w
  | 2, 1 => decodeM26 w
  | 3, 1 => decodeM27 w
  | 4, _ | 5, _ | 6, _ | 7, _ => decodeM44 w
  | 8, _ => decodeM30 w
  | 0xA, _ | 0xC, _ => decodeM25 w
  | _, _ => decodeM24 w

/-- Opcode 0 of the M column (Table 4-46 in R440): by x3. -/
noncomputable def decodeM0 (w : Slot) : Option SlotDecode :=
  match (fld w 33 3).toNat with
  | 0 => decodeM0x4 w
  | 4 | 5 => decodeM22 w
  | 6 | 7 => decodeM23 w
  | _ => none

/-- Opcode 1 of the M column, x3 = 0 (Table 4-49 in R440): by x6. -/
noncomputable def decodeM1x6 (w : Slot) : Option SlotDecode :=
  match (fld w 27 6).toNat with
  | 0x09 | 0x0A | 0x0B | 0x0C | 0x0D => decodeM45 w
  | 0x18 | 0x19 => decodeM39 w
  | 0x1A | 0x1B | 0x1E | 0x1F => decodeM46 w
  | 0x21 | 0x25 => decodeM36 w
  | 0x22 => decodeM31 w
  | 0x24 => decodeM33 w
  | 0x29 | 0x2D => decodeM35 w
  | 0x2A => decodeM29 w
  | 0x2C => decodeM32 w
  | 0x2E | 0x2F => decodeM41 w
  | 0x30 => decodeM28 w
  | 0x31 | 0x32 | 0x33 => decodeM40 w
  | 0x34 => decodeM47 w
  | 0x38 | 0x39 => decodeM38 w
  | 0x10 | 0x11 | 0x12 | 0x13 | 0x14 | 0x15 | 0x17 | 0x20 => decodeM43 w
  | _ => decodeM42 w

/-- Opcode 1 of the M column (Table 4-48 in R440): by x3. -/
noncomputable def decodeM1op (w : Slot) : Option SlotDecode :=
  match (fld w 33 3).toNat with
  | 0 => decodeM1x6 w
  | 1 => decodeM20 w
  | 3 => decodeM21 w
  | 6 => decodeM34 w
  | _ => none

/-- Opcode 4 of the M column (R400-R402): by m, x and x6. -/
noncomputable def decodeM4op (w : Slot) : Option SlotDecode :=
  match (fld w 36 1).toNat, (fld w 27 1).toNat with
  | 0, 0 =>
    match (fld w 34 2).toNat with
    | 3 => decodeM4 w
    | _ => decodeM1 w
  | 0, _ =>
    match (fld w 30 6).toNat with
    | 0x28 | 0x2C => decodeM1 w
    | 0x30 | 0x34 => decodeM4 w
    | 0x1C | 0x1D | 0x1E | 0x1F => decodeM19 w
    | 0x12 | 0x13 | 0x16 | 0x17 => decodeM17 w
    | _ => decodeM16 w
  | _, 0 => decodeM2 w
  | _, _ => none

/-- Opcode 6 of the M column (R400, R404): by m, x and x6. -/
noncomputable def decodeM6op (w : Slot) : Option SlotDecode :=
  match (fld w 36 1).toNat, (fld w 27 1).toNat with
  | 0, 0 =>
    match (fld w 30 6).toNat with
    | 0x2C =>
      match (fld w 19 1).toNat with
      | 0 => decodeM51 w
      | _ => decodeM52 w
    | 0x2D | 0x2E | 0x2F => decodeM13 w
    | 0x30 | 0x31 | 0x32 | 0x33 | 0x3B => decodeM9 w
    | _ => decodeM6 w
  | 0, _ =>
    match (fld w 32 4).toNat with
    | 7 => decodeM18 w
    | _ => decodeM11 w
  | _, 0 =>
    match (fld w 32 4).toNat with
    | 0xB => decodeM14 w
    | _ => decodeM7 w
  | _, _ => decodeM12 w

/-- Opcode 7 of the M column (R400, R404): by x6. -/
noncomputable def decodeM7op (w : Slot) : Option SlotDecode :=
  match (fld w 32 4).toNat with
  | 0xB => decodeM15 w
  | 0xC | 0xE => decodeM10 w
  | _ => decodeM8 w

/-- An M slot: the M/A column of R256, by major opcode. -/
noncomputable def decodeM (w : Slot) : Option SlotDecode :=
  match (fld w 37 4).toNat with
  | 0x0 => decodeM0 w
  | 0x1 => decodeM1op w
  | 0x4 => decodeM4op w
  | 0x5 =>
    match (fld w 34 2).toNat with
    | 3 => decodeM5 w
    | _ => decodeM3 w
  | 0x6 => decodeM6op w
  | 0x7 => decodeM7op w
  | _ => decodeA w

/-- Opcode 0 of the F column (R500, R501): by x and q, then x6. -/
noncomputable def decodeF0 (w : Slot) : Option SlotDecode :=
  match (fld w 33 1).toNat, (fld w 36 1).toNat with
  | 0, _ =>
    match (fld w 27 6).toNat with
    | 0x00 => decodeF15 w
    | 0x01 => decodeF16 w
    | 0x04 => decodeF12 w
    | 0x05 => decodeF13 w
    | 0x08 => decodeF14 w
    | 0x14 | 0x15 | 0x16 | 0x17 => decodeF8 w
    | 0x18 | 0x19 | 0x1A | 0x1B => decodeF10 w
    | 0x1C => decodeF11 w
    | _ => decodeF9 w
  | _, 0 => decodeF6 w
  | _, _ => decodeF7 w

/-- Opcode 1 of the F column (R500, R502): by x and q, then x6. -/
noncomputable def decodeF1op (w : Slot) : Option SlotDecode :=
  match (fld w 33 1).toNat, (fld w 36 1).toNat with
  | 0, _ =>
    match (fld w 27 6).toNat with
    | 0x18 | 0x19 | 0x1A | 0x1B => decodeF10 w
    | 0x10 | 0x11 | 0x12 => decodeF9 w
    | _ => decodeF8 w
  | _, 0 => decodeF6 w
  | _, _ => decodeF7 w

/-- An F slot, by major opcode (R500, R504). -/
noncomputable def decodeF (w : Slot) : Option SlotDecode :=
  match (fld w 37 4).toNat with
  | 0x0 => decodeF0 w
  | 0x1 => decodeF1op w
  | 0x4 => decodeF4 w
  | 0x5 => decodeF5 w
  | 0x8 | 0x9 | 0xA | 0xB | 0xC | 0xD => decodeF1 w
  | 0xE =>
    match (fld w 36 1).toNat with
    | 0 => decodeF3 w
    | _ => decodeF2 w
  | _ => none

/-- A B slot, by major opcode (R480-R483); opcode 7 is B6 only (D41). -/
noncomputable def decodeB (w : Slot) : Option SlotDecode :=
  match (fld w 37 4).toNat with
  | 0x0 =>
    match (fld w 27 6).toNat with
    | 0x00 => decodeB9 w
    | 0x20 | 0x21 => decodeB4 w
    | _ => decodeB8 w
  | 0x1 => decodeB5 w
  | 0x2 =>
    match (fld w 27 6).toNat with
    | 0x10 | 0x11 => decodeB7 w
    | _ => decodeB9 w
  | 0x4 =>
    match (fld w 6 3).toNat with
    | 5 | 6 | 7 => decodeB2 w
    | _ => decodeB1 w
  | 0x5 => decodeB3 w
  | 0x7 => decodeB6 w
  | _ => none

/-- An X slot with its L slot, by major opcode (R525). `break.i` and `nop.i`, which the X slot admits too (R251, R264), have
the bits of `break.x` and `nop.x`: they are read as those, so that CR[IIM] gets the 62-bit immediate with the L slot's bits
(DESIGN CHOICE, log entry 58). -/
noncomputable def decodeX (l w : Slot) : Option SlotDecode :=
  match (fld w 37 4).toNat with
  | 0x0 =>
    match (fld w 27 6).toNat with
    | 0x00 => decodeX1 l w
    | _ => decodeX5 l w
  | 0x6 => decodeX2 l w
  | 0xC => decodeX3 l w
  | 0xD => decodeX4 l w
  | _ => none

/-- R257, R258 with D40: a slot under the unit type its template gives it. Blank entries are reserved in I, M, F and
X slots and reserved-if-PR[qp] in B slots: for the B entries marked "e" and the indirect-branch blanks of major opcode 0 D40
says so, for major opcodes 3 and 6 and the blanks of major opcode 2 no rule does (DESIGN CHOICE, log entry 10). The L slot is
not decoded apart from its X slot. -/
noncomputable def decodeSlot (u : SlotUnit) (l w : Slot) : SlotDecode :=
  match u with
  | .m => (decodeM w).getD .reserved
  | .i => (decodeI w).getD .reserved
  | .f => (decodeF w).getD .reserved
  | .b => (decodeB w).getD (.reservedIfQp (fld w 0 6))
  | .x => (decodeX l w).getD .reserved
  | .l => .reserved

/-- R251, Table 4-2: the unit types of a template's three slots; the reserved templates have none. -/
def templateUnits (t : BitVec 5) : Option (SlotUnit × SlotUnit × SlotUnit) :=
  match t.toNat with
  | 0x00 | 0x01 | 0x02 | 0x03 => some (.m, .i, .i)
  | 0x04 | 0x05 => some (.m, .l, .x)
  | 0x08 | 0x09 | 0x0A | 0x0B => some (.m, .m, .i)
  | 0x0C | 0x0D => some (.m, .f, .i)
  | 0x0E | 0x0F => some (.m, .m, .f)
  | 0x10 | 0x11 => some (.m, .i, .b)
  | 0x12 | 0x13 => some (.m, .b, .b)
  | 0x16 | 0x17 => some (.b, .b, .b)
  | 0x18 | 0x19 => some (.m, .m, .b)
  | 0x1C | 0x1D => some (.m, .f, .b)
  | _ => none

/-- R253: whether a stop follows slot `s` in a bundle with template `t`. -/
def stopAfter (t : BitVec 5) (s : Nat) : Bool :=
  match s with
  | 0 => t == 0x0A || t == 0x0B
  | 1 => t == 0x02 || t == 0x03
  | _ => bit t 0

/-- R250: slot `s` of a bundle. -/
def bundleSlot (b : Bundle) (s : Nat) : Slot :=
  fld b (5 + 41 * s) 41

/-- R250: the template of a bundle. -/
abbrev bundleTemplate (b : Bundle) : BitVec 5 :=
  fld b 0 5

/-- R250: a bundle from its template and slots. -/
def mkBundle (t : BitVec 5) (s0 s1 s2 : Slot) : Bundle :=
  s2 ++ s1 ++ s0 ++ t

/-- What the slot `ri` of a bundle is (R252, R257): the decoding, and whether it is the L+X pair of an MLX bundle.
A reserved template and slot 3 are illegal. The spec does not say what PSR.ri = 2 means at an MLX bundle, whose slots 1
and 2 are one instruction: an Illegal Operation fault is the model's choice (log entry 10). -/
noncomputable def decodeBundle (b : Bundle) (ri : Nat) : SlotDecode × Bool :=
  match templateUnits (bundleTemplate b) with
  | none => (.reserved, false)
  | some (u0, u1, u2) =>
    match ri with
    | 0 => (decodeSlot u0 0 (bundleSlot b 0), false)
    | 1 =>
      if u1 = .l then (decodeSlot .x (bundleSlot b 1) (bundleSlot b 2), true)
      else (decodeSlot u1 0 (bundleSlot b 1), false)
    | 2 => if u2 = .x then (.reserved, false) else (decodeSlot u2 0 (bundleSlot b 2), false)
    | _ => (.reserved, false)

/-- Format A1's words (R331), from bit 40 down; ignored and constant-0 fields are 0. -/
def encA1 (op : BitVec 4) (x2a : BitVec 2) (ve : BitVec 1) (x4 : BitVec 4) (x2b : BitVec 2) (qp : BitVec 6) (r1 : BitVec 7) (r2 : BitVec 7) (r3 : BitVec 7) : SlotWords :=
  { unit := .a, long := 0,
    slot := op ++ 0#1 ++ x2a ++ ve ++ x4 ++ x2b ++ r3 ++ r2 ++ r1 ++ qp }

/-- Format A2's words (R332), from bit 40 down; ignored and constant-0 fields are 0. -/
def encA2 (op : BitVec 4) (x2a : BitVec 2) (ve : BitVec 1) (x4 : BitVec 4) (qp : BitVec 6) (r1 : BitVec 7) (r2 : BitVec 7) (r3 : BitVec 7) (ct2d : BitVec 2) : SlotWords :=
  { unit := .a, long := 0,
    slot := op ++ 0#1 ++ x2a ++ ve ++ x4 ++ ct2d ++ r3 ++ r2 ++ r1 ++ qp }

/-- Format A3's words (R333), from bit 40 down; ignored and constant-0 fields are 0. -/
def encA3 (op : BitVec 4) (x2a : BitVec 2) (ve : BitVec 1) (x4 : BitVec 4) (x2b : BitVec 2) (qp : BitVec 6) (r1 : BitVec 7) (r3 : BitVec 7) (imm8 : BitVec 8) : SlotWords :=
  { unit := .a, long := 0,
    slot := op ++ fld imm8 7 1 ++ x2a ++ ve ++ x4 ++ x2b ++ r3 ++ fld imm8 0 7 ++ r1 ++ qp }

/-- Format A4's words (R334), from bit 40 down; ignored and constant-0 fields are 0. -/
def encA4 (op : BitVec 4) (x2a : BitVec 2) (ve : BitVec 1) (qp : BitVec 6) (r1 : BitVec 7) (r3 : BitVec 7) (imm14 : BitVec 14) : SlotWords :=
  { unit := .a, long := 0,
    slot := op ++ fld imm14 13 1 ++ x2a ++ ve ++ fld imm14 7 6 ++ r3 ++ fld imm14 0 7 ++ r1 ++ qp }

/-- Format A5's words (R335), from bit 40 down; ignored and constant-0 fields are 0. -/
def encA5 (op : BitVec 4) (qp : BitVec 6) (r1 : BitVec 7) (r3 : BitVec 2) (imm22 : BitVec 22) : SlotWords :=
  { unit := .a, long := 0,
    slot := op ++ fld imm22 21 1 ++ fld imm22 7 9 ++ fld imm22 16 5 ++ r3 ++ fld imm22 0 7 ++ r1 ++ qp }

/-- Format A6's words (R337), from bit 40 down; ignored and constant-0 fields are 0. -/
def encA6 (op : BitVec 4) (tb : BitVec 1) (x2 : BitVec 2) (ta : BitVec 1) (c : BitVec 1) (qp : BitVec 6) (p1 : BitVec 6) (p2 : BitVec 6) (r2 : BitVec 7) (r3 : BitVec 7) : SlotWords :=
  { unit := .a, long := 0,
    slot := op ++ tb ++ x2 ++ ta ++ p2 ++ r3 ++ r2 ++ c ++ p1 ++ qp }

/-- Format A7's words (R338), from bit 40 down; ignored and constant-0 fields are 0. -/
def encA7 (op : BitVec 4) (tb : BitVec 1) (x2 : BitVec 2) (ta : BitVec 1) (c : BitVec 1) (qp : BitVec 6) (p1 : BitVec 6) (p2 : BitVec 6) (r3 : BitVec 7) : SlotWords :=
  { unit := .a, long := 0,
    slot := op ++ tb ++ x2 ++ ta ++ p2 ++ r3 ++ 0#7 ++ c ++ p1 ++ qp }

/-- Format A8's words (R339), from bit 40 down; ignored and constant-0 fields are 0. -/
def encA8 (op : BitVec 4) (x2 : BitVec 2) (ta : BitVec 1) (c : BitVec 1) (qp : BitVec 6) (p1 : BitVec 6) (p2 : BitVec 6) (r3 : BitVec 7) (imm8 : BitVec 8) : SlotWords :=
  { unit := .a, long := 0,
    slot := op ++ fld imm8 7 1 ++ x2 ++ ta ++ p2 ++ r3 ++ fld imm8 0 7 ++ c ++ p1 ++ qp }

/-- Format A9's words (R341), from bit 40 down; ignored and constant-0 fields are 0. -/
def encA9 (op : BitVec 4) (za : BitVec 1) (x2a : BitVec 2) (zb : BitVec 1) (x4 : BitVec 4) (x2b : BitVec 2) (qp : BitVec 6) (r1 : BitVec 7) (r2 : BitVec 7) (r3 : BitVec 7) : SlotWords :=
  { unit := .a, long := 0,
    slot := op ++ za ++ x2a ++ zb ++ x4 ++ x2b ++ r3 ++ r2 ++ r1 ++ qp }

/-- Format A10's words (R342), from bit 40 down; ignored and constant-0 fields are 0. -/
def encA10 (op : BitVec 4) (za : BitVec 1) (x2a : BitVec 2) (zb : BitVec 1) (x4 : BitVec 4) (qp : BitVec 6) (r1 : BitVec 7) (r2 : BitVec 7) (r3 : BitVec 7) (ct2d : BitVec 2) : SlotWords :=
  { unit := .a, long := 0,
    slot := op ++ za ++ x2a ++ zb ++ x4 ++ ct2d ++ r3 ++ r2 ++ r1 ++ qp }

/-- Format I1's words (R351), from bit 40 down; ignored and constant-0 fields are 0. -/
def encI1 (op : BitVec 4) (za : BitVec 1) (x2a : BitVec 2) (zb : BitVec 1) (ve : BitVec 1) (x2b : BitVec 2) (qp : BitVec 6) (r1 : BitVec 7) (r2 : BitVec 7) (r3 : BitVec 7) (ct2d : BitVec 2) : SlotWords :=
  { unit := .i, long := 0,
    slot := op ++ za ++ x2a ++ zb ++ ve ++ ct2d ++ x2b ++ 0#1 ++ r3 ++ r2 ++ r1 ++ qp }

/-- Format I2's words (R352), from bit 40 down; ignored and constant-0 fields are 0. -/
def encI2 (op : BitVec 4) (za : BitVec 1) (x2a : BitVec 2) (zb : BitVec 1) (ve : BitVec 1) (x2c : BitVec 2) (x2b : BitVec 2) (qp : BitVec 6) (r1 : BitVec 7) (r2 : BitVec 7) (r3 : BitVec 7) : SlotWords :=
  { unit := .i, long := 0,
    slot := op ++ za ++ x2a ++ zb ++ ve ++ x2c ++ x2b ++ 0#1 ++ r3 ++ r2 ++ r1 ++ qp }

/-- Format I3's words (R353), from bit 40 down; ignored and constant-0 fields are 0. -/
def encI3 (op : BitVec 4) (za : BitVec 1) (x2a : BitVec 2) (zb : BitVec 1) (ve : BitVec 1) (x2c : BitVec 2) (x2b : BitVec 2) (qp : BitVec 6) (r1 : BitVec 7) (r2 : BitVec 7) (mbt4c : BitVec 4) : SlotWords :=
  { unit := .i, long := 0,
    slot := op ++ za ++ x2a ++ zb ++ ve ++ x2c ++ x2b ++ 0#4 ++ mbt4c ++ r2 ++ r1 ++ qp }

/-- Format I4's words (R354), from bit 40 down; ignored and constant-0 fields are 0. -/
def encI4 (op : BitVec 4) (za : BitVec 1) (x2a : BitVec 2) (zb : BitVec 1) (ve : BitVec 1) (x2c : BitVec 2) (x2b : BitVec 2) (qp : BitVec 6) (r1 : BitVec 7) (r2 : BitVec 7) (mht8c : BitVec 8) : SlotWords :=
  { unit := .i, long := 0,
    slot := op ++ za ++ x2a ++ zb ++ ve ++ x2c ++ x2b ++ mht8c ++ r2 ++ r1 ++ qp }

/-- Format I5's words (R355), from bit 40 down; ignored and constant-0 fields are 0. -/
def encI5 (op : BitVec 4) (za : BitVec 1) (x2a : BitVec 2) (zb : BitVec 1) (ve : BitVec 1) (x2c : BitVec 2) (x2b : BitVec 2) (qp : BitVec 6) (r1 : BitVec 7) (r2 : BitVec 7) (r3 : BitVec 7) : SlotWords :=
  { unit := .i, long := 0,
    slot := op ++ za ++ x2a ++ zb ++ ve ++ x2c ++ x2b ++ 0#1 ++ r3 ++ r2 ++ r1 ++ qp }

/-- Format I6's words (R356), from bit 40 down; ignored and constant-0 fields are 0. -/
def encI6 (op : BitVec 4) (za : BitVec 1) (x2a : BitVec 2) (zb : BitVec 1) (ve : BitVec 1) (x2c : BitVec 2) (x2b : BitVec 2) (qp : BitVec 6) (r1 : BitVec 7) (r3 : BitVec 7) (count5b : BitVec 5) : SlotWords :=
  { unit := .i, long := 0,
    slot := op ++ za ++ x2a ++ zb ++ ve ++ x2c ++ x2b ++ 0#1 ++ r3 ++ 0#1 ++ count5b ++ 0#1 ++ r1 ++ qp }

/-- Format I7's words (R357), from bit 40 down; ignored and constant-0 fields are 0. -/
def encI7 (op : BitVec 4) (za : BitVec 1) (x2a : BitVec 2) (zb : BitVec 1) (ve : BitVec 1) (x2c : BitVec 2) (x2b : BitVec 2) (qp : BitVec 6) (r1 : BitVec 7) (r2 : BitVec 7) (r3 : BitVec 7) : SlotWords :=
  { unit := .i, long := 0,
    slot := op ++ za ++ x2a ++ zb ++ ve ++ x2c ++ x2b ++ 0#1 ++ r3 ++ r2 ++ r1 ++ qp }

/-- Format I8's words (R358), from bit 40 down; ignored and constant-0 fields are 0. -/
def encI8 (op : BitVec 4) (za : BitVec 1) (x2a : BitVec 2) (zb : BitVec 1) (ve : BitVec 1) (x2c : BitVec 2) (x2b : BitVec 2) (qp : BitVec 6) (r1 : BitVec 7) (r2 : BitVec 7) (ccount5c : BitVec 5) : SlotWords :=
  { unit := .i, long := 0,
    slot := op ++ za ++ x2a ++ zb ++ ve ++ x2c ++ x2b ++ 0#3 ++ ccount5c ++ r2 ++ r1 ++ qp }

/-- Format I9's words (R359), from bit 40 down; ignored and constant-0 fields are 0. -/
def encI9 (op : BitVec 4) (za : BitVec 1) (x2a : BitVec 2) (zb : BitVec 1) (ve : BitVec 1) (x2c : BitVec 2) (x2b : BitVec 2) (qp : BitVec 6) (r1 : BitVec 7) (r3 : BitVec 7) : SlotWords :=
  { unit := .i, long := 0,
    slot := op ++ za ++ x2a ++ zb ++ ve ++ x2c ++ x2b ++ 0#1 ++ r3 ++ 0#7 ++ r1 ++ qp }

/-- Format I10's words (R361), from bit 40 down; ignored and constant-0 fields are 0. -/
def encI10 (op : BitVec 4) (x2 : BitVec 2) (x : BitVec 1) (qp : BitVec 6) (r1 : BitVec 7) (r2 : BitVec 7) (r3 : BitVec 7) (count6d : BitVec 6) : SlotWords :=
  { unit := .i, long := 0,
    slot := op ++ 0#1 ++ x2 ++ x ++ count6d ++ r3 ++ r2 ++ r1 ++ qp }

/-- Format I11's words (R362), from bit 40 down; ignored and constant-0 fields are 0. -/
def encI11 (op : BitVec 4) (x2 : BitVec 2) (x : BitVec 1) (y : BitVec 1) (qp : BitVec 6) (r1 : BitVec 7) (r3 : BitVec 7) (len6d : BitVec 6) (pos6b : BitVec 6) : SlotWords :=
  { unit := .i, long := 0,
    slot := op ++ 0#1 ++ x2 ++ x ++ len6d ++ r3 ++ pos6b ++ y ++ r1 ++ qp }

/-- Format I12's words (R363), from bit 40 down; ignored and constant-0 fields are 0. -/
def encI12 (op : BitVec 4) (x2 : BitVec 2) (x : BitVec 1) (y : BitVec 1) (qp : BitVec 6) (r1 : BitVec 7) (r2 : BitVec 7) (len6d : BitVec 6) (cpos6c : BitVec 6) : SlotWords :=
  { unit := .i, long := 0,
    slot := op ++ 0#1 ++ x2 ++ x ++ len6d ++ y ++ cpos6c ++ r2 ++ r1 ++ qp }

/-- Format I13's words (R364), from bit 40 down; ignored and constant-0 fields are 0. -/
def encI13 (op : BitVec 4) (x2 : BitVec 2) (x : BitVec 1) (y : BitVec 1) (qp : BitVec 6) (r1 : BitVec 7) (len6d : BitVec 6) (cpos6c : BitVec 6) (imm8 : BitVec 8) : SlotWords :=
  { unit := .i, long := 0,
    slot := op ++ fld imm8 7 1 ++ x2 ++ x ++ len6d ++ y ++ cpos6c ++ fld imm8 0 7 ++ r1 ++ qp }

/-- Format I14's words (R365), from bit 40 down; ignored and constant-0 fields are 0. -/
def encI14 (op : BitVec 4) (x2 : BitVec 2) (x : BitVec 1) (qp : BitVec 6) (r1 : BitVec 7) (r3 : BitVec 7) (len6d : BitVec 6) (cpos6b : BitVec 6) (imm1 : BitVec 1) : SlotWords :=
  { unit := .i, long := 0,
    slot := op ++ imm1 ++ x2 ++ x ++ len6d ++ r3 ++ cpos6b ++ 0#1 ++ r1 ++ qp }

/-- Format I15's words (R366), from bit 40 down; ignored and constant-0 fields are 0. -/
def encI15 (op : BitVec 4) (qp : BitVec 6) (r1 : BitVec 7) (r2 : BitVec 7) (r3 : BitVec 7) (cpos6d : BitVec 6) (len4d : BitVec 4) : SlotWords :=
  { unit := .i, long := 0,
    slot := op ++ cpos6d ++ len4d ++ r3 ++ r2 ++ r1 ++ qp }

/-- Format I16's words (R367), from bit 40 down; ignored and constant-0 fields are 0. -/
def encI16 (op : BitVec 4) (tb : BitVec 1) (x2 : BitVec 2) (ta : BitVec 1) (y : BitVec 1) (c : BitVec 1) (qp : BitVec 6) (p1 : BitVec 6) (p2 : BitVec 6) (r3 : BitVec 7) (pos6b : BitVec 6) : SlotWords :=
  { unit := .i, long := 0,
    slot := op ++ tb ++ x2 ++ ta ++ p2 ++ r3 ++ pos6b ++ y ++ c ++ p1 ++ qp }

/-- Format I17's words (R368), from bit 40 down; ignored and constant-0 fields are 0. -/
def encI17 (op : BitVec 4) (tb : BitVec 1) (x2 : BitVec 2) (ta : BitVec 1) (x : BitVec 1) (y : BitVec 1) (c : BitVec 1) (qp : BitVec 6) (p1 : BitVec 6) (p2 : BitVec 6) (r3 : BitVec 7) : SlotWords :=
  { unit := .i, long := 0,
    slot := op ++ tb ++ x2 ++ ta ++ p2 ++ r3 ++ x ++ 0#5 ++ y ++ c ++ p1 ++ qp }

/-- Format I30's words (R369), from bit 40 down; ignored and constant-0 fields are 0. -/
def encI30 (op : BitVec 4) (tb : BitVec 1) (x2 : BitVec 2) (ta : BitVec 1) (x : BitVec 1) (y : BitVec 1) (c : BitVec 1) (qp : BitVec 6) (p1 : BitVec 6) (p2 : BitVec 6) (imm5b : BitVec 5) : SlotWords :=
  { unit := .i, long := 0,
    slot := op ++ tb ++ x2 ++ ta ++ p2 ++ 0#7 ++ x ++ imm5b ++ y ++ c ++ p1 ++ qp }

/-- Format I18's words (R371), from bit 40 down; ignored and constant-0 fields are 0. -/
def encI18 (op : BitVec 4) (x3 : BitVec 3) (x6 : BitVec 6) (y : BitVec 1) (qp : BitVec 6) (imm21 : BitVec 21) : SlotWords :=
  { unit := .i, long := 0,
    slot := op ++ fld imm21 20 1 ++ x3 ++ x6 ++ y ++ fld imm21 0 20 ++ qp }

/-- Format I19's words (R372), from bit 40 down; ignored and constant-0 fields are 0. -/
def encI19 (op : BitVec 4) (x3 : BitVec 3) (x6 : BitVec 6) (qp : BitVec 6) (imm21 : BitVec 21) : SlotWords :=
  { unit := .i, long := 0,
    slot := op ++ fld imm21 20 1 ++ x3 ++ x6 ++ 0#1 ++ fld imm21 0 20 ++ qp }

/-- Format I20's words (R373), from bit 40 down; ignored and constant-0 fields are 0. -/
def encI20 (op : BitVec 4) (x3 : BitVec 3) (qp : BitVec 6) (r2 : BitVec 7) (disp21 : BitVec 21) : SlotWords :=
  { unit := .i, long := 0,
    slot := op ++ fld disp21 20 1 ++ x3 ++ fld disp21 7 13 ++ r2 ++ fld disp21 0 7 ++ qp }

/-- Format I21's words (R376), from bit 40 down; ignored and constant-0 fields are 0. -/
def encI21 (op : BitVec 4) (x3 : BitVec 3) (x : BitVec 1) (qp : BitVec 6) (b1 : BitVec 3) (r2 : BitVec 7) (timm9c : BitVec 9) (ih : BitVec 1) (wh : BitVec 2) (p : BitVec 1) (pbtv : BitVec 3) : SlotWords :=
  { unit := .i, long := 0,
    slot := op ++ 0#1 ++ x3 ++ timm9c ++ ih ++ x ++ wh ++ r2 ++ p ++ pbtv ++ b1 ++ qp }

/-- Format I22's words (R377), from bit 40 down; ignored and constant-0 fields are 0. -/
def encI22 (op : BitVec 4) (x3 : BitVec 3) (x6 : BitVec 6) (qp : BitVec 6) (r1 : BitVec 7) (b2 : BitVec 3) : SlotWords :=
  { unit := .i, long := 0,
    slot := op ++ 0#1 ++ x3 ++ x6 ++ 0#11 ++ b2 ++ r1 ++ qp }

/-- Format I23's words (R378), from bit 40 down; ignored and constant-0 fields are 0. -/
def encI23 (op : BitVec 4) (x3 : BitVec 3) (qp : BitVec 6) (r2 : BitVec 7) (mask16 : BitVec 16) : SlotWords :=
  { unit := .i, long := 0,
    slot := op ++ fld mask16 15 1 ++ x3 ++ 0#1 ++ fld mask16 7 8 ++ 0#4 ++ r2 ++ fld mask16 0 7 ++ qp }

/-- Format I24's words (R379), from bit 40 down; ignored and constant-0 fields are 0. -/
def encI24 (op : BitVec 4) (x3 : BitVec 3) (qp : BitVec 6) (imm28 : BitVec 28) : SlotWords :=
  { unit := .i, long := 0,
    slot := op ++ fld imm28 27 1 ++ x3 ++ fld imm28 0 27 ++ qp }

/-- Format I25's words (R380), from bit 40 down; ignored and constant-0 fields are 0. -/
def encI25 (op : BitVec 4) (x3 : BitVec 3) (x6 : BitVec 6) (qp : BitVec 6) (r1 : BitVec 7) : SlotWords :=
  { unit := .i, long := 0,
    slot := op ++ 0#1 ++ x3 ++ x6 ++ 0#14 ++ r1 ++ qp }

/-- Format I26's words (R381), from bit 40 down; ignored and constant-0 fields are 0. -/
def encI26 (op : BitVec 4) (x3 : BitVec 3) (x6 : BitVec 6) (qp : BitVec 6) (r2 : BitVec 7) (ar3 : BitVec 7) : SlotWords :=
  { unit := .i, long := 0,
    slot := op ++ 0#1 ++ x3 ++ x6 ++ ar3 ++ r2 ++ 0#7 ++ qp }

/-- Format I27's words (R382), from bit 40 down; ignored and constant-0 fields are 0. -/
def encI27 (op : BitVec 4) (x3 : BitVec 3) (x6 : BitVec 6) (qp : BitVec 6) (ar3 : BitVec 7) (imm8 : BitVec 8) : SlotWords :=
  { unit := .i, long := 0,
    slot := op ++ fld imm8 7 1 ++ x3 ++ x6 ++ ar3 ++ fld imm8 0 7 ++ 0#7 ++ qp }

/-- Format I28's words (R383), from bit 40 down; ignored and constant-0 fields are 0. -/
def encI28 (op : BitVec 4) (x3 : BitVec 3) (x6 : BitVec 6) (qp : BitVec 6) (r1 : BitVec 7) (ar3 : BitVec 7) : SlotWords :=
  { unit := .i, long := 0,
    slot := op ++ 0#1 ++ x3 ++ x6 ++ ar3 ++ 0#7 ++ r1 ++ qp }

/-- Format I29's words (R384), from bit 40 down; ignored and constant-0 fields are 0. -/
def encI29 (op : BitVec 4) (x3 : BitVec 3) (x6 : BitVec 6) (qp : BitVec 6) (r1 : BitVec 7) (r3 : BitVec 7) : SlotWords :=
  { unit := .i, long := 0,
    slot := op ++ 0#1 ++ x3 ++ x6 ++ r3 ++ 0#7 ++ r1 ++ qp }

/-- Format M1's words (R405), from bit 40 down; ignored and constant-0 fields are 0. -/
def encM1 (op : BitVec 4) (m : BitVec 1) (x6 : BitVec 6) (x : BitVec 1) (qp : BitVec 6) (r1 : BitVec 7) (r3 : BitVec 7) (hint : BitVec 2) (h : BitVec 1) : SlotWords :=
  { unit := .m, long := 0,
    slot := op ++ m ++ x6 ++ hint ++ x ++ r3 ++ h ++ 0#6 ++ r1 ++ qp }

/-- Format M2's words (R406), from bit 40 down; ignored and constant-0 fields are 0. -/
def encM2 (op : BitVec 4) (m : BitVec 1) (x6 : BitVec 6) (x : BitVec 1) (qp : BitVec 6) (r1 : BitVec 7) (r2 : BitVec 7) (r3 : BitVec 7) (hint : BitVec 2) : SlotWords :=
  { unit := .m, long := 0,
    slot := op ++ m ++ x6 ++ hint ++ x ++ r3 ++ r2 ++ r1 ++ qp }

/-- Format M3's words (R407), from bit 40 down; ignored and constant-0 fields are 0. -/
def encM3 (op : BitVec 4) (x6 : BitVec 6) (qp : BitVec 6) (r1 : BitVec 7) (r3 : BitVec 7) (hint : BitVec 2) (imm9 : BitVec 9) : SlotWords :=
  { unit := .m, long := 0,
    slot := op ++ fld imm9 8 1 ++ x6 ++ hint ++ fld imm9 7 1 ++ r3 ++ fld imm9 0 7 ++ r1 ++ qp }

/-- Format M4's words (R408), from bit 40 down; ignored and constant-0 fields are 0. -/
def encM4 (op : BitVec 4) (m : BitVec 1) (x6 : BitVec 6) (x : BitVec 1) (qp : BitVec 6) (r2 : BitVec 7) (r3 : BitVec 7) (hint : BitVec 2) (h : BitVec 1) : SlotWords :=
  { unit := .m, long := 0,
    slot := op ++ m ++ x6 ++ hint ++ x ++ r3 ++ r2 ++ h ++ 0#6 ++ qp }

/-- Format M5's words (R409), from bit 40 down; ignored and constant-0 fields are 0. -/
def encM5 (op : BitVec 4) (x6 : BitVec 6) (qp : BitVec 6) (r2 : BitVec 7) (r3 : BitVec 7) (hint : BitVec 2) (imm9 : BitVec 9) : SlotWords :=
  { unit := .m, long := 0,
    slot := op ++ fld imm9 8 1 ++ x6 ++ hint ++ fld imm9 7 1 ++ r3 ++ r2 ++ fld imm9 0 7 ++ qp }

/-- Format M6's words (R410), from bit 40 down; ignored and constant-0 fields are 0. -/
def encM6 (op : BitVec 4) (m : BitVec 1) (x6 : BitVec 6) (x : BitVec 1) (qp : BitVec 6) (f1 : BitVec 7) (r3 : BitVec 7) (hint : BitVec 2) (h : BitVec 1) : SlotWords :=
  { unit := .m, long := 0,
    slot := op ++ m ++ x6 ++ hint ++ x ++ r3 ++ h ++ 0#6 ++ f1 ++ qp }

/-- Format M7's words (R411), from bit 40 down; ignored and constant-0 fields are 0. -/
def encM7 (op : BitVec 4) (m : BitVec 1) (x6 : BitVec 6) (x : BitVec 1) (qp : BitVec 6) (f1 : BitVec 7) (r2 : BitVec 7) (r3 : BitVec 7) (hint : BitVec 2) : SlotWords :=
  { unit := .m, long := 0,
    slot := op ++ m ++ x6 ++ hint ++ x ++ r3 ++ r2 ++ f1 ++ qp }

/-- Format M8's words (R412), from bit 40 down; ignored and constant-0 fields are 0. -/
def encM8 (op : BitVec 4) (x6 : BitVec 6) (qp : BitVec 6) (f1 : BitVec 7) (r3 : BitVec 7) (hint : BitVec 2) (imm9 : BitVec 9) : SlotWords :=
  { unit := .m, long := 0,
    slot := op ++ fld imm9 8 1 ++ x6 ++ hint ++ fld imm9 7 1 ++ r3 ++ fld imm9 0 7 ++ f1 ++ qp }

/-- Format M9's words (R413), from bit 40 down; ignored and constant-0 fields are 0. -/
def encM9 (op : BitVec 4) (m : BitVec 1) (x6 : BitVec 6) (x : BitVec 1) (qp : BitVec 6) (f2 : BitVec 7) (r3 : BitVec 7) (hint : BitVec 2) (h : BitVec 1) : SlotWords :=
  { unit := .m, long := 0,
    slot := op ++ m ++ x6 ++ hint ++ x ++ r3 ++ f2 ++ h ++ 0#6 ++ qp }

/-- Format M10's words (R414), from bit 40 down; ignored and constant-0 fields are 0. -/
def encM10 (op : BitVec 4) (x6 : BitVec 6) (qp : BitVec 6) (f2 : BitVec 7) (r3 : BitVec 7) (hint : BitVec 2) (imm9 : BitVec 9) : SlotWords :=
  { unit := .m, long := 0,
    slot := op ++ fld imm9 8 1 ++ x6 ++ hint ++ fld imm9 7 1 ++ r3 ++ f2 ++ fld imm9 0 7 ++ qp }

/-- Format M11's words (R415), from bit 40 down; ignored and constant-0 fields are 0. -/
def encM11 (op : BitVec 4) (m : BitVec 1) (x6 : BitVec 6) (x : BitVec 1) (qp : BitVec 6) (f1 : BitVec 7) (f2 : BitVec 7) (r3 : BitVec 7) (hint : BitVec 2) : SlotWords :=
  { unit := .m, long := 0,
    slot := op ++ m ++ x6 ++ hint ++ x ++ r3 ++ f2 ++ f1 ++ qp }

/-- Format M12's words (R416), from bit 40 down; ignored and constant-0 fields are 0. -/
def encM12 (op : BitVec 4) (m : BitVec 1) (x6 : BitVec 6) (x : BitVec 1) (qp : BitVec 6) (f1 : BitVec 7) (f2 : BitVec 7) (r3 : BitVec 7) (hint : BitVec 2) : SlotWords :=
  { unit := .m, long := 0,
    slot := op ++ m ++ x6 ++ hint ++ x ++ r3 ++ f2 ++ f1 ++ qp }

/-- Format M13's words (R417), from bit 40 down; ignored and constant-0 fields are 0. -/
def encM13 (op : BitVec 4) (m : BitVec 1) (x6 : BitVec 6) (x : BitVec 1) (qp : BitVec 6) (r3 : BitVec 7) (hint : BitVec 2) (h : BitVec 1) : SlotWords :=
  { unit := .m, long := 0,
    slot := op ++ m ++ x6 ++ hint ++ x ++ r3 ++ 0#7 ++ h ++ 0#6 ++ qp }

/-- Format M51's words (R456), from bit 40 down; ignored and constant-0 fields are 0. -/
def encM51 (op : BitVec 4) (m : BitVec 1) (x6 : BitVec 6) (x : BitVec 1) (y : BitVec 1) (qp : BitVec 6) (r3 : BitVec 7) (hint : BitVec 2) (h : BitVec 1) : SlotWords :=
  { unit := .m, long := 0,
    slot := op ++ m ++ x6 ++ hint ++ x ++ r3 ++ y ++ 0#6 ++ h ++ 0#6 ++ qp }

/-- Format M52's words (R457), from bit 40 down; ignored and constant-0 fields are 0. -/
def encM52 (op : BitVec 4) (m : BitVec 1) (x6 : BitVec 6) (x : BitVec 1) (y : BitVec 1) (qp : BitVec 6) (r3 : BitVec 7) (hint : BitVec 2) (stride5b : BitVec 5) (h : BitVec 1) (cnt6a : BitVec 6) : SlotWords :=
  { unit := .m, long := 0,
    slot := op ++ m ++ x6 ++ hint ++ x ++ r3 ++ y ++ 0#1 ++ stride5b ++ h ++ cnt6a ++ qp }

/-- Format M14's words (R418), from bit 40 down; ignored and constant-0 fields are 0. -/
def encM14 (op : BitVec 4) (m : BitVec 1) (x6 : BitVec 6) (x : BitVec 1) (qp : BitVec 6) (r2 : BitVec 7) (r3 : BitVec 7) (hint : BitVec 2) (h : BitVec 1) : SlotWords :=
  { unit := .m, long := 0,
    slot := op ++ m ++ x6 ++ hint ++ x ++ r3 ++ r2 ++ h ++ 0#6 ++ qp }

/-- Format M15's words (R419), from bit 40 down; ignored and constant-0 fields are 0. -/
def encM15 (op : BitVec 4) (x6 : BitVec 6) (qp : BitVec 6) (r3 : BitVec 7) (hint : BitVec 2) (h : BitVec 1) (imm9 : BitVec 9) : SlotWords :=
  { unit := .m, long := 0,
    slot := op ++ fld imm9 8 1 ++ x6 ++ hint ++ fld imm9 7 1 ++ r3 ++ fld imm9 0 7 ++ h ++ 0#6 ++ qp }

/-- Format M16's words (R420), from bit 40 down; ignored and constant-0 fields are 0. -/
def encM16 (op : BitVec 4) (m : BitVec 1) (x6 : BitVec 6) (x : BitVec 1) (qp : BitVec 6) (r1 : BitVec 7) (r2 : BitVec 7) (r3 : BitVec 7) (hint : BitVec 2) : SlotWords :=
  { unit := .m, long := 0,
    slot := op ++ m ++ x6 ++ hint ++ x ++ r3 ++ r2 ++ r1 ++ qp }

/-- Format M17's words (R421), from bit 40 down; ignored and constant-0 fields are 0. -/
def encM17 (op : BitVec 4) (m : BitVec 1) (x6 : BitVec 6) (x : BitVec 1) (qp : BitVec 6) (r1 : BitVec 7) (r3 : BitVec 7) (hint : BitVec 2) (inc3 : BitVec 3) : SlotWords :=
  { unit := .m, long := 0,
    slot := op ++ m ++ x6 ++ hint ++ x ++ r3 ++ 0#4 ++ fld inc3 2 1 ++ fld inc3 0 2 ++ r1 ++ qp }

/-- Format M18's words (R422), from bit 40 down; ignored and constant-0 fields are 0. -/
def encM18 (op : BitVec 4) (m : BitVec 1) (x6 : BitVec 6) (x : BitVec 1) (qp : BitVec 6) (f1 : BitVec 7) (r2 : BitVec 7) : SlotWords :=
  { unit := .m, long := 0,
    slot := op ++ m ++ x6 ++ 0#2 ++ x ++ 0#7 ++ r2 ++ f1 ++ qp }

/-- Format M19's words (R423), from bit 40 down; ignored and constant-0 fields are 0. -/
def encM19 (op : BitVec 4) (m : BitVec 1) (x6 : BitVec 6) (x : BitVec 1) (qp : BitVec 6) (r1 : BitVec 7) (f2 : BitVec 7) : SlotWords :=
  { unit := .m, long := 0,
    slot := op ++ m ++ x6 ++ 0#2 ++ x ++ 0#7 ++ f2 ++ r1 ++ qp }

/-- Format M20's words (R424), from bit 40 down; ignored and constant-0 fields are 0. -/
def encM20 (op : BitVec 4) (x3 : BitVec 3) (qp : BitVec 6) (r2 : BitVec 7) (disp21 : BitVec 21) : SlotWords :=
  { unit := .m, long := 0,
    slot := op ++ fld disp21 20 1 ++ x3 ++ fld disp21 7 13 ++ r2 ++ fld disp21 0 7 ++ qp }

/-- Format M21's words (R425), from bit 40 down; ignored and constant-0 fields are 0. -/
def encM21 (op : BitVec 4) (x3 : BitVec 3) (qp : BitVec 6) (f2 : BitVec 7) (disp21 : BitVec 21) : SlotWords :=
  { unit := .m, long := 0,
    slot := op ++ fld disp21 20 1 ++ x3 ++ fld disp21 7 13 ++ f2 ++ fld disp21 0 7 ++ qp }

/-- Format M22's words (R426), from bit 40 down; ignored and constant-0 fields are 0. -/
def encM22 (op : BitVec 4) (x3 : BitVec 3) (qp : BitVec 6) (r1 : BitVec 7) (disp21 : BitVec 21) : SlotWords :=
  { unit := .m, long := 0,
    slot := op ++ fld disp21 20 1 ++ x3 ++ fld disp21 0 20 ++ r1 ++ qp }

/-- Format M23's words (R427), from bit 40 down; ignored and constant-0 fields are 0. -/
def encM23 (op : BitVec 4) (x3 : BitVec 3) (qp : BitVec 6) (f1 : BitVec 7) (disp21 : BitVec 21) : SlotWords :=
  { unit := .m, long := 0,
    slot := op ++ fld disp21 20 1 ++ x3 ++ fld disp21 0 20 ++ f1 ++ qp }

/-- Format M24's words (R428), from bit 40 down; ignored and constant-0 fields are 0. -/
def encM24 (op : BitVec 4) (x3 : BitVec 3) (x2 : BitVec 2) (x4 : BitVec 4) (qp : BitVec 6) : SlotWords :=
  { unit := .m, long := 0,
    slot := op ++ 0#1 ++ x3 ++ x2 ++ x4 ++ 0#21 ++ qp }

/-- Format M25's words (R429), from bit 40 down; ignored and constant-0 fields are 0. -/
def encM25 (op : BitVec 4) (x3 : BitVec 3) (x2 : BitVec 2) (x4 : BitVec 4) : SlotWords :=
  { unit := .m, long := 0,
    slot := op ++ 0#1 ++ x3 ++ x2 ++ x4 ++ 0#21 ++ 0#6 }

/-- Format M26's words (R430), from bit 40 down; ignored and constant-0 fields are 0. -/
def encM26 (op : BitVec 4) (x3 : BitVec 3) (x2 : BitVec 2) (x4 : BitVec 4) (qp : BitVec 6) (r1 : BitVec 7) : SlotWords :=
  { unit := .m, long := 0,
    slot := op ++ 0#1 ++ x3 ++ x2 ++ x4 ++ 0#14 ++ r1 ++ qp }

/-- Format M27's words (R431), from bit 40 down; ignored and constant-0 fields are 0. -/
def encM27 (op : BitVec 4) (x3 : BitVec 3) (x2 : BitVec 2) (x4 : BitVec 4) (qp : BitVec 6) (f1 : BitVec 7) : SlotWords :=
  { unit := .m, long := 0,
    slot := op ++ 0#1 ++ x3 ++ x2 ++ x4 ++ 0#14 ++ f1 ++ qp }

/-- Format M28's words (R432), from bit 40 down; ignored and constant-0 fields are 0. -/
def encM28 (op : BitVec 4) (x : BitVec 1) (x3 : BitVec 3) (x6 : BitVec 6) (qp : BitVec 6) (r3 : BitVec 7) : SlotWords :=
  { unit := .m, long := 0,
    slot := op ++ x ++ x3 ++ x6 ++ r3 ++ 0#14 ++ qp }

/-- Format M29's words (R434), from bit 40 down; ignored and constant-0 fields are 0. -/
def encM29 (op : BitVec 4) (x3 : BitVec 3) (x6 : BitVec 6) (qp : BitVec 6) (r2 : BitVec 7) (ar3 : BitVec 7) : SlotWords :=
  { unit := .m, long := 0,
    slot := op ++ 0#1 ++ x3 ++ x6 ++ ar3 ++ r2 ++ 0#7 ++ qp }

/-- Format M30's words (R433), from bit 40 down; ignored and constant-0 fields are 0. -/
def encM30 (op : BitVec 4) (x3 : BitVec 3) (x2 : BitVec 2) (x4 : BitVec 4) (qp : BitVec 6) (ar3 : BitVec 7) (imm8 : BitVec 8) : SlotWords :=
  { unit := .m, long := 0,
    slot := op ++ fld imm8 7 1 ++ x3 ++ x2 ++ x4 ++ ar3 ++ fld imm8 0 7 ++ 0#7 ++ qp }

/-- Format M31's words (R435), from bit 40 down; ignored and constant-0 fields are 0. -/
def encM31 (op : BitVec 4) (x3 : BitVec 3) (x6 : BitVec 6) (qp : BitVec 6) (r1 : BitVec 7) (ar3 : BitVec 7) : SlotWords :=
  { unit := .m, long := 0,
    slot := op ++ 0#1 ++ x3 ++ x6 ++ ar3 ++ 0#7 ++ r1 ++ qp }

/-- Format M32's words (R436), from bit 40 down; ignored and constant-0 fields are 0. -/
def encM32 (op : BitVec 4) (x3 : BitVec 3) (x6 : BitVec 6) (qp : BitVec 6) (r2 : BitVec 7) (cr3 : BitVec 7) : SlotWords :=
  { unit := .m, long := 0,
    slot := op ++ 0#1 ++ x3 ++ x6 ++ cr3 ++ r2 ++ 0#7 ++ qp }

/-- Format M33's words (R437), from bit 40 down; ignored and constant-0 fields are 0. -/
def encM33 (op : BitVec 4) (x3 : BitVec 3) (x6 : BitVec 6) (qp : BitVec 6) (r1 : BitVec 7) (cr3 : BitVec 7) : SlotWords :=
  { unit := .m, long := 0,
    slot := op ++ 0#1 ++ x3 ++ x6 ++ cr3 ++ 0#7 ++ r1 ++ qp }

/-- Format M34's words (R443), from bit 40 down; ignored and constant-0 fields are 0. -/
def encM34 (op : BitVec 4) (x3 : BitVec 3) (qp : BitVec 6) (r1 : BitVec 7) (sor : BitVec 4) (sol : BitVec 7) (sof : BitVec 7) : SlotWords :=
  { unit := .m, long := 0,
    slot := op ++ 0#1 ++ x3 ++ 0#2 ++ sor ++ sol ++ sof ++ r1 ++ qp }

/-- Format M35's words (R438), from bit 40 down; ignored and constant-0 fields are 0. -/
def encM35 (op : BitVec 4) (x3 : BitVec 3) (x6 : BitVec 6) (qp : BitVec 6) (r2 : BitVec 7) : SlotWords :=
  { unit := .m, long := 0,
    slot := op ++ 0#1 ++ x3 ++ x6 ++ 0#7 ++ r2 ++ 0#7 ++ qp }

/-- Format M36's words (R439), from bit 40 down; ignored and constant-0 fields are 0. -/
def encM36 (op : BitVec 4) (x3 : BitVec 3) (x6 : BitVec 6) (qp : BitVec 6) (r1 : BitVec 7) : SlotWords :=
  { unit := .m, long := 0,
    slot := op ++ 0#1 ++ x3 ++ x6 ++ 0#14 ++ r1 ++ qp }

/-- Format M37's words (R441), from bit 40 down; ignored and constant-0 fields are 0. -/
def encM37 (op : BitVec 4) (x3 : BitVec 3) (x2 : BitVec 2) (x4 : BitVec 4) (qp : BitVec 6) (imm21 : BitVec 21) : SlotWords :=
  { unit := .m, long := 0,
    slot := op ++ fld imm21 20 1 ++ x3 ++ x2 ++ x4 ++ 0#1 ++ fld imm21 0 20 ++ qp }

/-- Format M38's words (R442), from bit 40 down; ignored and constant-0 fields are 0. -/
def encM38 (op : BitVec 4) (x3 : BitVec 3) (x6 : BitVec 6) (qp : BitVec 6) (r1 : BitVec 7) (r2 : BitVec 7) (r3 : BitVec 7) : SlotWords :=
  { unit := .m, long := 0,
    slot := op ++ 0#1 ++ x3 ++ x6 ++ r3 ++ r2 ++ r1 ++ qp }

/-- Format M39's words (R444), from bit 40 down; ignored and constant-0 fields are 0. -/
def encM39 (op : BitVec 4) (x3 : BitVec 3) (x6 : BitVec 6) (qp : BitVec 6) (r1 : BitVec 7) (r3 : BitVec 7) (i2b : BitVec 2) : SlotWords :=
  { unit := .m, long := 0,
    slot := op ++ 0#1 ++ x3 ++ x6 ++ r3 ++ 0#5 ++ i2b ++ r1 ++ qp }

/-- Format M40's words (R445), from bit 40 down; ignored and constant-0 fields are 0. -/
def encM40 (op : BitVec 4) (x3 : BitVec 3) (x6 : BitVec 6) (qp : BitVec 6) (r3 : BitVec 7) (i2b : BitVec 2) : SlotWords :=
  { unit := .m, long := 0,
    slot := op ++ 0#1 ++ x3 ++ x6 ++ r3 ++ 0#5 ++ i2b ++ 0#7 ++ qp }

/-- Format M41's words (R447), from bit 40 down; ignored and constant-0 fields are 0. -/
def encM41 (op : BitVec 4) (x3 : BitVec 3) (x6 : BitVec 6) (qp : BitVec 6) (r2 : BitVec 7) : SlotWords :=
  { unit := .m, long := 0,
    slot := op ++ 0#1 ++ x3 ++ x6 ++ 0#7 ++ r2 ++ 0#7 ++ qp }

/-- Format M42's words (R448), from bit 40 down; ignored and constant-0 fields are 0. -/
def encM42 (op : BitVec 4) (x3 : BitVec 3) (x6 : BitVec 6) (qp : BitVec 6) (r2 : BitVec 7) (r3 : BitVec 7) : SlotWords :=
  { unit := .m, long := 0,
    slot := op ++ 0#1 ++ x3 ++ x6 ++ r3 ++ r2 ++ 0#7 ++ qp }

/-- Format M43's words (R449), from bit 40 down; ignored and constant-0 fields are 0. -/
def encM43 (op : BitVec 4) (x3 : BitVec 3) (x6 : BitVec 6) (qp : BitVec 6) (r1 : BitVec 7) (r3 : BitVec 7) : SlotWords :=
  { unit := .m, long := 0,
    slot := op ++ 0#1 ++ x3 ++ x6 ++ r3 ++ 0#7 ++ r1 ++ qp }

/-- Format M44's words (R450), from bit 40 down; ignored and constant-0 fields are 0. -/
def encM44 (op : BitVec 4) (x3 : BitVec 3) (x4 : BitVec 4) (qp : BitVec 6) (imm24 : BitVec 24) : SlotWords :=
  { unit := .m, long := 0,
    slot := op ++ fld imm24 23 1 ++ x3 ++ fld imm24 21 2 ++ x4 ++ fld imm24 0 21 ++ qp }

/-- Format M45's words (R451), from bit 40 down; ignored and constant-0 fields are 0. -/
def encM45 (op : BitVec 4) (x3 : BitVec 3) (x6 : BitVec 6) (qp : BitVec 6) (r2 : BitVec 7) (r3 : BitVec 7) : SlotWords :=
  { unit := .m, long := 0,
    slot := op ++ 0#1 ++ x3 ++ x6 ++ r3 ++ r2 ++ 0#7 ++ qp }

/-- Format M46's words (R452), from bit 40 down; ignored and constant-0 fields are 0. -/
def encM46 (op : BitVec 4) (x3 : BitVec 3) (x6 : BitVec 6) (qp : BitVec 6) (r1 : BitVec 7) (r3 : BitVec 7) : SlotWords :=
  { unit := .m, long := 0,
    slot := op ++ 0#1 ++ x3 ++ x6 ++ r3 ++ 0#7 ++ r1 ++ qp }

/-- Format M47's words (R453), from bit 40 down; ignored and constant-0 fields are 0. -/
def encM47 (op : BitVec 4) (x3 : BitVec 3) (x6 : BitVec 6) (qp : BitVec 6) (r3 : BitVec 7) : SlotWords :=
  { unit := .m, long := 0,
    slot := op ++ 0#1 ++ x3 ++ x6 ++ r3 ++ 0#14 ++ qp }

/-- Format M48's words (R446), from bit 40 down; ignored and constant-0 fields are 0. -/
def encM48 (op : BitVec 4) (x3 : BitVec 3) (x2 : BitVec 2) (x4 : BitVec 4) (y : BitVec 1) (qp : BitVec 6) (imm21 : BitVec 21) : SlotWords :=
  { unit := .m, long := 0,
    slot := op ++ fld imm21 20 1 ++ x3 ++ x2 ++ x4 ++ y ++ fld imm21 0 20 ++ qp }

/-- Format M49's words (R454), from bit 40 down; ignored and constant-0 fields are 0. -/
def encM49 (op : BitVec 4) (x3 : BitVec 3) (x2 : BitVec 2) (x4 : BitVec 4) (y : BitVec 1) (z : BitVec 2) (qp : BitVec 6) (imm19 : BitVec 19) : SlotWords :=
  { unit := .m, long := 0,
    slot := op ++ fld imm19 18 1 ++ x3 ++ x2 ++ x4 ++ y ++ fld imm19 4 14 ++ z ++ fld imm19 0 4 ++ qp }

/-- Format M50's words (R455), from bit 40 down; ignored and constant-0 fields are 0. -/
def encM50 (op : BitVec 4) (x3 : BitVec 3) (x2 : BitVec 2) (x4 : BitVec 4) (y : BitVec 1) (z : BitVec 2) (qp : BitVec 6) (dahr3 : BitVec 3) (imm16 : BitVec 16) : SlotWords :=
  { unit := .m, long := 0,
    slot := op ++ fld imm16 15 1 ++ x3 ++ x2 ++ x4 ++ y ++ dahr3 ++ fld imm16 4 11 ++ z ++ fld imm16 0 4 ++ qp }

/-- Format B1's words (R487), from bit 40 down; ignored and constant-0 fields are 0. -/
def encB1 (op : BitVec 4) (btype : BitVec 3) (qp : BitVec 6) (d : BitVec 1) (wh : BitVec 2) (p : BitVec 1) (disp21 : BitVec 21) : SlotWords :=
  { unit := .b, long := 0,
    slot := op ++ fld disp21 20 1 ++ d ++ wh ++ fld disp21 0 20 ++ p ++ 0#3 ++ btype ++ qp }

/-- Format B2's words (R488), from bit 40 down; ignored and constant-0 fields are 0. -/
def encB2 (op : BitVec 4) (btype : BitVec 3) (d : BitVec 1) (wh : BitVec 2) (p : BitVec 1) (disp21 : BitVec 21) : SlotWords :=
  { unit := .b, long := 0,
    slot := op ++ fld disp21 20 1 ++ d ++ wh ++ fld disp21 0 20 ++ p ++ 0#3 ++ btype ++ 0#6 }

/-- Format B3's words (R489), from bit 40 down; ignored and constant-0 fields are 0. -/
def encB3 (op : BitVec 4) (qp : BitVec 6) (b1 : BitVec 3) (d : BitVec 1) (wh : BitVec 2) (p : BitVec 1) (disp21 : BitVec 21) : SlotWords :=
  { unit := .b, long := 0,
    slot := op ++ fld disp21 20 1 ++ d ++ wh ++ fld disp21 0 20 ++ p ++ 0#3 ++ b1 ++ qp }

/-- Format B4's words (R490), from bit 40 down; ignored and constant-0 fields are 0. -/
def encB4 (op : BitVec 4) (x6 : BitVec 6) (btype : BitVec 3) (qp : BitVec 6) (b2 : BitVec 3) (d : BitVec 1) (wh : BitVec 2) (p : BitVec 1) : SlotWords :=
  { unit := .b, long := 0,
    slot := op ++ 0#1 ++ d ++ wh ++ x6 ++ 0#11 ++ b2 ++ p ++ 0#3 ++ btype ++ qp }

/-- Format B5's words (R491), from bit 40 down; ignored and constant-0 fields are 0. -/
def encB5 (op : BitVec 4) (qp : BitVec 6) (b1 : BitVec 3) (b2 : BitVec 3) (d : BitVec 1) (wh : BitVec 3) (p : BitVec 1) : SlotWords :=
  { unit := .b, long := 0,
    slot := op ++ 0#1 ++ d ++ wh ++ 0#16 ++ b2 ++ p ++ 0#3 ++ b1 ++ qp }

/-- Format B6's words (R492), from bit 40 down; ignored and constant-0 fields are 0. -/
def encB6 (op : BitVec 4) (ih : BitVec 1) (p : BitVec 1) (wh : BitVec 2) (pbtv : BitVec 3) (disp21 : BitVec 21) (tag9 : BitVec 9) : SlotWords :=
  { unit := .b, long := 0,
    slot := op ++ fld disp21 20 1 ++ ih ++ fld tag9 7 2 ++ fld disp21 0 20 ++ fld tag9 0 7 ++ p ++ wh ++ pbtv }

/-- Format B7's words (R493), from bit 40 down; ignored and constant-0 fields are 0. -/
def encB7 (op : BitVec 4) (x6 : BitVec 6) (b2 : BitVec 3) (ih : BitVec 1) (p : BitVec 1) (wh : BitVec 2) (pbtv : BitVec 3) (tag9 : BitVec 9) : SlotWords :=
  { unit := .b, long := 0,
    slot := op ++ 0#1 ++ ih ++ fld tag9 7 2 ++ x6 ++ 0#11 ++ b2 ++ fld tag9 0 7 ++ p ++ wh ++ pbtv }

/-- Format B8's words (R494), from bit 40 down; ignored and constant-0 fields are 0. -/
def encB8 (op : BitVec 4) (x6 : BitVec 6) : SlotWords :=
  { unit := .b, long := 0,
    slot := op ++ 0#4 ++ x6 ++ 0#21 ++ 0#6 }

/-- Format B9's words (R496), from bit 40 down; ignored and constant-0 fields are 0. -/
def encB9 (op : BitVec 4) (x6 : BitVec 6) (qp : BitVec 6) (imm21 : BitVec 21) : SlotWords :=
  { unit := .b, long := 0,
    slot := op ++ fld imm21 20 1 ++ 0#3 ++ x6 ++ 0#1 ++ fld imm21 0 20 ++ qp }

/-- Format F1's words (R505), from bit 40 down; ignored and constant-0 fields are 0. -/
def encF1 (op : BitVec 4) (x : BitVec 1) (qp : BitVec 6) (f1 : BitVec 7) (f2 : BitVec 7) (f3 : BitVec 7) (f4 : BitVec 7) (sf : BitVec 2) : SlotWords :=
  { unit := .f, long := 0,
    slot := op ++ x ++ sf ++ f4 ++ f3 ++ f2 ++ f1 ++ qp }

/-- Format F2's words (R506), from bit 40 down; ignored and constant-0 fields are 0. -/
def encF2 (op : BitVec 4) (x : BitVec 1) (x2 : BitVec 2) (qp : BitVec 6) (f1 : BitVec 7) (f2 : BitVec 7) (f3 : BitVec 7) (f4 : BitVec 7) : SlotWords :=
  { unit := .f, long := 0,
    slot := op ++ x ++ x2 ++ f4 ++ f3 ++ f2 ++ f1 ++ qp }

/-- Format F3's words (R507), from bit 40 down; ignored and constant-0 fields are 0. -/
def encF3 (op : BitVec 4) (x : BitVec 1) (qp : BitVec 6) (f1 : BitVec 7) (f2 : BitVec 7) (f3 : BitVec 7) (f4 : BitVec 7) : SlotWords :=
  { unit := .f, long := 0,
    slot := op ++ x ++ 0#2 ++ f4 ++ f3 ++ f2 ++ f1 ++ qp }

/-- Format F4's words (R508), from bit 40 down; ignored and constant-0 fields are 0. -/
def encF4 (op : BitVec 4) (rb : BitVec 1) (ra : BitVec 1) (ta : BitVec 1) (qp : BitVec 6) (p1 : BitVec 6) (p2 : BitVec 6) (f2 : BitVec 7) (f3 : BitVec 7) (sf : BitVec 2) : SlotWords :=
  { unit := .f, long := 0,
    slot := op ++ rb ++ sf ++ ra ++ p2 ++ f3 ++ f2 ++ ta ++ p1 ++ qp }

/-- Format F5's words (R509), from bit 40 down; ignored and constant-0 fields are 0. -/
def encF5 (op : BitVec 4) (ta : BitVec 1) (qp : BitVec 6) (p1 : BitVec 6) (p2 : BitVec 6) (f2 : BitVec 7) (fclass9 : BitVec 9) : SlotWords :=
  { unit := .f, long := 0,
    slot := op ++ 0#2 ++ fld fclass9 0 2 ++ p2 ++ fld fclass9 2 7 ++ f2 ++ ta ++ p1 ++ qp }

/-- Format F6's words (R510), from bit 40 down; ignored and constant-0 fields are 0. -/
def encF6 (op : BitVec 4) (q : BitVec 1) (x : BitVec 1) (qp : BitVec 6) (p2 : BitVec 6) (f1 : BitVec 7) (f2 : BitVec 7) (f3 : BitVec 7) (sf : BitVec 2) : SlotWords :=
  { unit := .f, long := 0,
    slot := op ++ q ++ sf ++ x ++ p2 ++ f3 ++ f2 ++ f1 ++ qp }

/-- Format F7's words (R511), from bit 40 down; ignored and constant-0 fields are 0. -/
def encF7 (op : BitVec 4) (q : BitVec 1) (x : BitVec 1) (qp : BitVec 6) (p2 : BitVec 6) (f1 : BitVec 7) (f3 : BitVec 7) (sf : BitVec 2) : SlotWords :=
  { unit := .f, long := 0,
    slot := op ++ q ++ sf ++ x ++ p2 ++ f3 ++ 0#7 ++ f1 ++ qp }

/-- Format F8's words (R512), from bit 40 down; ignored and constant-0 fields are 0. -/
def encF8 (op : BitVec 4) (x : BitVec 1) (x6 : BitVec 6) (qp : BitVec 6) (f1 : BitVec 7) (f2 : BitVec 7) (f3 : BitVec 7) (sf : BitVec 2) : SlotWords :=
  { unit := .f, long := 0,
    slot := op ++ 0#1 ++ sf ++ x ++ x6 ++ f3 ++ f2 ++ f1 ++ qp }

/-- Format F9's words (R513), from bit 40 down; ignored and constant-0 fields are 0. -/
def encF9 (op : BitVec 4) (x : BitVec 1) (x6 : BitVec 6) (qp : BitVec 6) (f1 : BitVec 7) (f2 : BitVec 7) (f3 : BitVec 7) : SlotWords :=
  { unit := .f, long := 0,
    slot := op ++ 0#3 ++ x ++ x6 ++ f3 ++ f2 ++ f1 ++ qp }

/-- Format F10's words (R514), from bit 40 down; ignored and constant-0 fields are 0. -/
def encF10 (op : BitVec 4) (x : BitVec 1) (x6 : BitVec 6) (qp : BitVec 6) (f1 : BitVec 7) (f2 : BitVec 7) (sf : BitVec 2) : SlotWords :=
  { unit := .f, long := 0,
    slot := op ++ 0#1 ++ sf ++ x ++ x6 ++ 0#7 ++ f2 ++ f1 ++ qp }

/-- Format F11's words (R515), from bit 40 down; ignored and constant-0 fields are 0. -/
def encF11 (op : BitVec 4) (x : BitVec 1) (x6 : BitVec 6) (qp : BitVec 6) (f1 : BitVec 7) (f2 : BitVec 7) : SlotWords :=
  { unit := .f, long := 0,
    slot := op ++ 0#3 ++ x ++ x6 ++ 0#7 ++ f2 ++ f1 ++ qp }

/-- Format F12's words (R516), from bit 40 down; ignored and constant-0 fields are 0. -/
def encF12 (op : BitVec 4) (x : BitVec 1) (x6 : BitVec 6) (qp : BitVec 6) (sf : BitVec 2) (omask7c : BitVec 7) (amask7b : BitVec 7) : SlotWords :=
  { unit := .f, long := 0,
    slot := op ++ 0#1 ++ sf ++ x ++ x6 ++ omask7c ++ amask7b ++ 0#7 ++ qp }

/-- Format F13's words (R517), from bit 40 down; ignored and constant-0 fields are 0. -/
def encF13 (op : BitVec 4) (x : BitVec 1) (x6 : BitVec 6) (qp : BitVec 6) (sf : BitVec 2) : SlotWords :=
  { unit := .f, long := 0,
    slot := op ++ 0#1 ++ sf ++ x ++ x6 ++ 0#21 ++ qp }

/-- Format F14's words (R518), from bit 40 down; ignored and constant-0 fields are 0. -/
def encF14 (op : BitVec 4) (x : BitVec 1) (x6 : BitVec 6) (qp : BitVec 6) (sf : BitVec 2) (disp21 : BitVec 21) : SlotWords :=
  { unit := .f, long := 0,
    slot := op ++ fld disp21 20 1 ++ sf ++ x ++ x6 ++ 0#1 ++ fld disp21 0 20 ++ qp }

/-- Format F15's words (R519), from bit 40 down; ignored and constant-0 fields are 0. -/
def encF15 (op : BitVec 4) (x : BitVec 1) (x6 : BitVec 6) (qp : BitVec 6) (imm21 : BitVec 21) : SlotWords :=
  { unit := .f, long := 0,
    slot := op ++ fld imm21 20 1 ++ 0#2 ++ x ++ x6 ++ 0#1 ++ fld imm21 0 20 ++ qp }

/-- Format F16's words (R520), from bit 40 down; ignored and constant-0 fields are 0. -/
def encF16 (op : BitVec 4) (x : BitVec 1) (x6 : BitVec 6) (y : BitVec 1) (qp : BitVec 6) (imm21 : BitVec 21) : SlotWords :=
  { unit := .f, long := 0,
    slot := op ++ fld imm21 20 1 ++ 0#2 ++ x ++ x6 ++ y ++ fld imm21 0 20 ++ qp }

/-- Format X1's words (R526), from bit 40 down; ignored and constant-0 fields are 0. -/
def encX1 (op : BitVec 4) (x3 : BitVec 3) (x6 : BitVec 6) (qp : BitVec 6) (imm62 : BitVec 62) : SlotWords :=
  { unit := .x, long := fld imm62 21 41,
    slot := op ++ fld imm62 20 1 ++ x3 ++ x6 ++ 0#1 ++ fld imm62 0 20 ++ qp }

/-- Format X2's words (R527), from bit 40 down; ignored and constant-0 fields are 0. -/
def encX2 (op : BitVec 4) (vc : BitVec 1) (qp : BitVec 6) (r1 : BitVec 7) (imm64 : BitVec 64) : SlotWords :=
  { unit := .x, long := fld imm64 22 41,
    slot := op ++ fld imm64 63 1 ++ fld imm64 7 9 ++ fld imm64 16 5 ++ fld imm64 21 1 ++ vc ++ fld imm64 0 7 ++ r1 ++ qp }

/-- Format X3's words (R528), from bit 40 down; ignored and constant-0 fields are 0. -/
def encX3 (op : BitVec 4) (btype : BitVec 3) (qp : BitVec 6) (d : BitVec 1) (wh : BitVec 2) (p : BitVec 1) (disp60 : BitVec 60) : SlotWords :=
  { unit := .x, long := fld disp60 20 39 ++ 0#2,
    slot := op ++ fld disp60 59 1 ++ d ++ wh ++ fld disp60 0 20 ++ p ++ 0#3 ++ btype ++ qp }

/-- Format X4's words (R529), from bit 40 down; ignored and constant-0 fields are 0. -/
def encX4 (op : BitVec 4) (qp : BitVec 6) (b1 : BitVec 3) (d : BitVec 1) (wh : BitVec 2) (p : BitVec 1) (disp60 : BitVec 60) : SlotWords :=
  { unit := .x, long := fld disp60 20 39 ++ 0#2,
    slot := op ++ fld disp60 59 1 ++ d ++ wh ++ fld disp60 0 20 ++ p ++ 0#3 ++ b1 ++ qp }

/-- Format X5's words (R530), from bit 40 down; ignored and constant-0 fields are 0. -/
def encX5 (op : BitVec 4) (x3 : BitVec 3) (x6 : BitVec 6) (y : BitVec 1) (qp : BitVec 6) (imm62 : BitVec 62) : SlotWords :=
  { unit := .x, long := fld imm62 21 41,
    slot := op ++ fld imm62 20 1 ++ x3 ++ x6 ++ y ++ fld imm62 0 20 ++ qp }

/-- The words of an instruction. The opcode and extension fields of each line are the row's, in the order of the
format's diagram. -/
def encode (i : Instr) : SlotWords :=
  match i with
  | .addA1 qp r1 r2 r3 => encA1 8 0 0 0 0 qp r1 r2 r3
  | .addPlus1A1 qp r1 r2 r3 => encA1 8 0 0 0 1 qp r1 r2 r3
  | .subA1 qp r1 r2 r3 => encA1 8 0 0 1 1 qp r1 r2 r3
  | .subMinus1A1 qp r1 r2 r3 => encA1 8 0 0 1 0 qp r1 r2 r3
  | .addp4A1 qp r1 r2 r3 => encA1 8 0 0 2 0 qp r1 r2 r3
  | .andA1 qp r1 r2 r3 => encA1 8 0 0 3 0 qp r1 r2 r3
  | .andcmA1 qp r1 r2 r3 => encA1 8 0 0 3 1 qp r1 r2 r3
  | .orA1 qp r1 r2 r3 => encA1 8 0 0 3 2 qp r1 r2 r3
  | .xorA1 qp r1 r2 r3 => encA1 8 0 0 3 3 qp r1 r2 r3
  | .shladdA2 qp r1 r2 r3 ct2d => encA2 8 0 0 4 qp r1 r2 r3 ct2d
  | .shladdp4A2 qp r1 r2 r3 ct2d => encA2 8 0 0 6 qp r1 r2 r3 ct2d
  | .subA3 qp r1 r3 imm8 => encA3 8 0 0 9 1 qp r1 r3 imm8
  | .andA3 qp r1 r3 imm8 => encA3 8 0 0 0xb 0 qp r1 r3 imm8
  | .andcmA3 qp r1 r3 imm8 => encA3 8 0 0 0xb 1 qp r1 r3 imm8
  | .orA3 qp r1 r3 imm8 => encA3 8 0 0 0xb 2 qp r1 r3 imm8
  | .xorA3 qp r1 r3 imm8 => encA3 8 0 0 0xb 3 qp r1 r3 imm8
  | .addsA4 qp r1 r3 imm14 => encA4 8 2 0 qp r1 r3 imm14
  | .addp4A4 qp r1 r3 imm14 => encA4 8 3 0 qp r1 r3 imm14
  | .addlA5 qp r1 r3 imm22 => encA5 9 qp r1 r3 imm22
  | .cmpLtA6 qp p1 p2 r2 r3 => encA6 0xc 0 0 0 0 qp p1 p2 r2 r3
  | .cmpLtuA6 qp p1 p2 r2 r3 => encA6 0xd 0 0 0 0 qp p1 p2 r2 r3
  | .cmpEqA6 qp p1 p2 r2 r3 => encA6 0xe 0 0 0 0 qp p1 p2 r2 r3
  | .cmpLtUncA6 qp p1 p2 r2 r3 => encA6 0xc 0 0 0 1 qp p1 p2 r2 r3
  | .cmpLtuUncA6 qp p1 p2 r2 r3 => encA6 0xd 0 0 0 1 qp p1 p2 r2 r3
  | .cmpEqUncA6 qp p1 p2 r2 r3 => encA6 0xe 0 0 0 1 qp p1 p2 r2 r3
  | .cmpEqAndA6 qp p1 p2 r2 r3 => encA6 0xc 0 0 1 0 qp p1 p2 r2 r3
  | .cmpEqOrA6 qp p1 p2 r2 r3 => encA6 0xd 0 0 1 0 qp p1 p2 r2 r3
  | .cmpEqOrAndcmA6 qp p1 p2 r2 r3 => encA6 0xe 0 0 1 0 qp p1 p2 r2 r3
  | .cmpNeAndA6 qp p1 p2 r2 r3 => encA6 0xc 0 0 1 1 qp p1 p2 r2 r3
  | .cmpNeOrA6 qp p1 p2 r2 r3 => encA6 0xd 0 0 1 1 qp p1 p2 r2 r3
  | .cmpNeOrAndcmA6 qp p1 p2 r2 r3 => encA6 0xe 0 0 1 1 qp p1 p2 r2 r3
  | .cmpGtAndA7 qp p1 p2 r3 => encA7 0xc 1 0 0 0 qp p1 p2 r3
  | .cmpGtOrA7 qp p1 p2 r3 => encA7 0xd 1 0 0 0 qp p1 p2 r3
  | .cmpGtOrAndcmA7 qp p1 p2 r3 => encA7 0xe 1 0 0 0 qp p1 p2 r3
  | .cmpLeAndA7 qp p1 p2 r3 => encA7 0xc 1 0 0 1 qp p1 p2 r3
  | .cmpLeOrA7 qp p1 p2 r3 => encA7 0xd 1 0 0 1 qp p1 p2 r3
  | .cmpLeOrAndcmA7 qp p1 p2 r3 => encA7 0xe 1 0 0 1 qp p1 p2 r3
  | .cmpGeAndA7 qp p1 p2 r3 => encA7 0xc 1 0 1 0 qp p1 p2 r3
  | .cmpGeOrA7 qp p1 p2 r3 => encA7 0xd 1 0 1 0 qp p1 p2 r3
  | .cmpGeOrAndcmA7 qp p1 p2 r3 => encA7 0xe 1 0 1 0 qp p1 p2 r3
  | .cmpLtAndA7 qp p1 p2 r3 => encA7 0xc 1 0 1 1 qp p1 p2 r3
  | .cmpLtOrA7 qp p1 p2 r3 => encA7 0xd 1 0 1 1 qp p1 p2 r3
  | .cmpLtOrAndcmA7 qp p1 p2 r3 => encA7 0xe 1 0 1 1 qp p1 p2 r3
  | .cmpLtA8 qp p1 p2 r3 imm8 => encA8 0xc 2 0 0 qp p1 p2 r3 imm8
  | .cmpLtuA8 qp p1 p2 r3 imm8 => encA8 0xd 2 0 0 qp p1 p2 r3 imm8
  | .cmpEqA8 qp p1 p2 r3 imm8 => encA8 0xe 2 0 0 qp p1 p2 r3 imm8
  | .cmpLtUncA8 qp p1 p2 r3 imm8 => encA8 0xc 2 0 1 qp p1 p2 r3 imm8
  | .cmpLtuUncA8 qp p1 p2 r3 imm8 => encA8 0xd 2 0 1 qp p1 p2 r3 imm8
  | .cmpEqUncA8 qp p1 p2 r3 imm8 => encA8 0xe 2 0 1 qp p1 p2 r3 imm8
  | .cmpEqAndA8 qp p1 p2 r3 imm8 => encA8 0xc 2 1 0 qp p1 p2 r3 imm8
  | .cmpEqOrA8 qp p1 p2 r3 imm8 => encA8 0xd 2 1 0 qp p1 p2 r3 imm8
  | .cmpEqOrAndcmA8 qp p1 p2 r3 imm8 => encA8 0xe 2 1 0 qp p1 p2 r3 imm8
  | .cmpNeAndA8 qp p1 p2 r3 imm8 => encA8 0xc 2 1 1 qp p1 p2 r3 imm8
  | .cmpNeOrA8 qp p1 p2 r3 imm8 => encA8 0xd 2 1 1 qp p1 p2 r3 imm8
  | .cmpNeOrAndcmA8 qp p1 p2 r3 imm8 => encA8 0xe 2 1 1 qp p1 p2 r3 imm8
  | .cmp4LtA6 qp p1 p2 r2 r3 => encA6 0xc 0 1 0 0 qp p1 p2 r2 r3
  | .cmp4LtuA6 qp p1 p2 r2 r3 => encA6 0xd 0 1 0 0 qp p1 p2 r2 r3
  | .cmp4EqA6 qp p1 p2 r2 r3 => encA6 0xe 0 1 0 0 qp p1 p2 r2 r3
  | .cmp4LtUncA6 qp p1 p2 r2 r3 => encA6 0xc 0 1 0 1 qp p1 p2 r2 r3
  | .cmp4LtuUncA6 qp p1 p2 r2 r3 => encA6 0xd 0 1 0 1 qp p1 p2 r2 r3
  | .cmp4EqUncA6 qp p1 p2 r2 r3 => encA6 0xe 0 1 0 1 qp p1 p2 r2 r3
  | .cmp4EqAndA6 qp p1 p2 r2 r3 => encA6 0xc 0 1 1 0 qp p1 p2 r2 r3
  | .cmp4EqOrA6 qp p1 p2 r2 r3 => encA6 0xd 0 1 1 0 qp p1 p2 r2 r3
  | .cmp4EqOrAndcmA6 qp p1 p2 r2 r3 => encA6 0xe 0 1 1 0 qp p1 p2 r2 r3
  | .cmp4NeAndA6 qp p1 p2 r2 r3 => encA6 0xc 0 1 1 1 qp p1 p2 r2 r3
  | .cmp4NeOrA6 qp p1 p2 r2 r3 => encA6 0xd 0 1 1 1 qp p1 p2 r2 r3
  | .cmp4NeOrAndcmA6 qp p1 p2 r2 r3 => encA6 0xe 0 1 1 1 qp p1 p2 r2 r3
  | .cmp4GtAndA7 qp p1 p2 r3 => encA7 0xc 1 1 0 0 qp p1 p2 r3
  | .cmp4GtOrA7 qp p1 p2 r3 => encA7 0xd 1 1 0 0 qp p1 p2 r3
  | .cmp4GtOrAndcmA7 qp p1 p2 r3 => encA7 0xe 1 1 0 0 qp p1 p2 r3
  | .cmp4LeAndA7 qp p1 p2 r3 => encA7 0xc 1 1 0 1 qp p1 p2 r3
  | .cmp4LeOrA7 qp p1 p2 r3 => encA7 0xd 1 1 0 1 qp p1 p2 r3
  | .cmp4LeOrAndcmA7 qp p1 p2 r3 => encA7 0xe 1 1 0 1 qp p1 p2 r3
  | .cmp4GeAndA7 qp p1 p2 r3 => encA7 0xc 1 1 1 0 qp p1 p2 r3
  | .cmp4GeOrA7 qp p1 p2 r3 => encA7 0xd 1 1 1 0 qp p1 p2 r3
  | .cmp4GeOrAndcmA7 qp p1 p2 r3 => encA7 0xe 1 1 1 0 qp p1 p2 r3
  | .cmp4LtAndA7 qp p1 p2 r3 => encA7 0xc 1 1 1 1 qp p1 p2 r3
  | .cmp4LtOrA7 qp p1 p2 r3 => encA7 0xd 1 1 1 1 qp p1 p2 r3
  | .cmp4LtOrAndcmA7 qp p1 p2 r3 => encA7 0xe 1 1 1 1 qp p1 p2 r3
  | .cmp4LtA8 qp p1 p2 r3 imm8 => encA8 0xc 3 0 0 qp p1 p2 r3 imm8
  | .cmp4LtuA8 qp p1 p2 r3 imm8 => encA8 0xd 3 0 0 qp p1 p2 r3 imm8
  | .cmp4EqA8 qp p1 p2 r3 imm8 => encA8 0xe 3 0 0 qp p1 p2 r3 imm8
  | .cmp4LtUncA8 qp p1 p2 r3 imm8 => encA8 0xc 3 0 1 qp p1 p2 r3 imm8
  | .cmp4LtuUncA8 qp p1 p2 r3 imm8 => encA8 0xd 3 0 1 qp p1 p2 r3 imm8
  | .cmp4EqUncA8 qp p1 p2 r3 imm8 => encA8 0xe 3 0 1 qp p1 p2 r3 imm8
  | .cmp4EqAndA8 qp p1 p2 r3 imm8 => encA8 0xc 3 1 0 qp p1 p2 r3 imm8
  | .cmp4EqOrA8 qp p1 p2 r3 imm8 => encA8 0xd 3 1 0 qp p1 p2 r3 imm8
  | .cmp4EqOrAndcmA8 qp p1 p2 r3 imm8 => encA8 0xe 3 1 0 qp p1 p2 r3 imm8
  | .cmp4NeAndA8 qp p1 p2 r3 imm8 => encA8 0xc 3 1 1 qp p1 p2 r3 imm8
  | .cmp4NeOrA8 qp p1 p2 r3 imm8 => encA8 0xd 3 1 1 qp p1 p2 r3 imm8
  | .cmp4NeOrAndcmA8 qp p1 p2 r3 imm8 => encA8 0xe 3 1 1 qp p1 p2 r3 imm8
  | .padd1A9 qp r1 r2 r3 => encA9 8 0 1 0 0 0 qp r1 r2 r3
  | .padd2A9 qp r1 r2 r3 => encA9 8 0 1 1 0 0 qp r1 r2 r3
  | .padd4A9 qp r1 r2 r3 => encA9 8 1 1 0 0 0 qp r1 r2 r3
  | .padd1SssA9 qp r1 r2 r3 => encA9 8 0 1 0 0 1 qp r1 r2 r3
  | .padd2SssA9 qp r1 r2 r3 => encA9 8 0 1 1 0 1 qp r1 r2 r3
  | .padd1UuuA9 qp r1 r2 r3 => encA9 8 0 1 0 0 2 qp r1 r2 r3
  | .padd2UuuA9 qp r1 r2 r3 => encA9 8 0 1 1 0 2 qp r1 r2 r3
  | .padd1UusA9 qp r1 r2 r3 => encA9 8 0 1 0 0 3 qp r1 r2 r3
  | .padd2UusA9 qp r1 r2 r3 => encA9 8 0 1 1 0 3 qp r1 r2 r3
  | .psub1A9 qp r1 r2 r3 => encA9 8 0 1 0 1 0 qp r1 r2 r3
  | .psub2A9 qp r1 r2 r3 => encA9 8 0 1 1 1 0 qp r1 r2 r3
  | .psub4A9 qp r1 r2 r3 => encA9 8 1 1 0 1 0 qp r1 r2 r3
  | .psub1SssA9 qp r1 r2 r3 => encA9 8 0 1 0 1 1 qp r1 r2 r3
  | .psub2SssA9 qp r1 r2 r3 => encA9 8 0 1 1 1 1 qp r1 r2 r3
  | .psub1UuuA9 qp r1 r2 r3 => encA9 8 0 1 0 1 2 qp r1 r2 r3
  | .psub2UuuA9 qp r1 r2 r3 => encA9 8 0 1 1 1 2 qp r1 r2 r3
  | .psub1UusA9 qp r1 r2 r3 => encA9 8 0 1 0 1 3 qp r1 r2 r3
  | .psub2UusA9 qp r1 r2 r3 => encA9 8 0 1 1 1 3 qp r1 r2 r3
  | .pavg1A9 qp r1 r2 r3 => encA9 8 0 1 0 2 2 qp r1 r2 r3
  | .pavg2A9 qp r1 r2 r3 => encA9 8 0 1 1 2 2 qp r1 r2 r3
  | .pavg1RazA9 qp r1 r2 r3 => encA9 8 0 1 0 2 3 qp r1 r2 r3
  | .pavg2RazA9 qp r1 r2 r3 => encA9 8 0 1 1 2 3 qp r1 r2 r3
  | .pavgsub1A9 qp r1 r2 r3 => encA9 8 0 1 0 3 2 qp r1 r2 r3
  | .pavgsub2A9 qp r1 r2 r3 => encA9 8 0 1 1 3 2 qp r1 r2 r3
  | .pcmp1EqA9 qp r1 r2 r3 => encA9 8 0 1 0 9 0 qp r1 r2 r3
  | .pcmp2EqA9 qp r1 r2 r3 => encA9 8 0 1 1 9 0 qp r1 r2 r3
  | .pcmp4EqA9 qp r1 r2 r3 => encA9 8 1 1 0 9 0 qp r1 r2 r3
  | .pcmp1GtA9 qp r1 r2 r3 => encA9 8 0 1 0 9 1 qp r1 r2 r3
  | .pcmp2GtA9 qp r1 r2 r3 => encA9 8 0 1 1 9 1 qp r1 r2 r3
  | .pcmp4GtA9 qp r1 r2 r3 => encA9 8 1 1 0 9 1 qp r1 r2 r3
  | .pshladd2A10 qp r1 r2 r3 ct2d => encA10 8 0 1 1 4 qp r1 r2 r3 ct2d
  | .pshradd2A10 qp r1 r2 r3 ct2d => encA10 8 0 1 1 6 qp r1 r2 r3 ct2d
  | .pmpyshr2I1 qp r1 r2 r3 ct2d => encI1 7 0 0 1 0 3 qp r1 r2 r3 ct2d
  | .pmpyshr2UI1 qp r1 r2 r3 ct2d => encI1 7 0 0 1 0 1 qp r1 r2 r3 ct2d
  | .unpack1HI2 qp r1 r2 r3 => encI2 7 0 2 0 0 1 0 qp r1 r2 r3
  | .mix1RI2 qp r1 r2 r3 => encI2 7 0 2 0 0 2 0 qp r1 r2 r3
  | .pmin1UI2 qp r1 r2 r3 => encI2 7 0 2 0 0 0 1 qp r1 r2 r3
  | .pmax1UI2 qp r1 r2 r3 => encI2 7 0 2 0 0 1 1 qp r1 r2 r3
  | .unpack1LI2 qp r1 r2 r3 => encI2 7 0 2 0 0 1 2 qp r1 r2 r3
  | .mix1LI2 qp r1 r2 r3 => encI2 7 0 2 0 0 2 2 qp r1 r2 r3
  | .psad1I2 qp r1 r2 r3 => encI2 7 0 2 0 0 2 3 qp r1 r2 r3
  | .pack2UssI2 qp r1 r2 r3 => encI2 7 0 2 1 0 0 0 qp r1 r2 r3
  | .unpack2HI2 qp r1 r2 r3 => encI2 7 0 2 1 0 1 0 qp r1 r2 r3
  | .mix2RI2 qp r1 r2 r3 => encI2 7 0 2 1 0 2 0 qp r1 r2 r3
  | .pmpy2RI2 qp r1 r2 r3 => encI2 7 0 2 1 0 3 1 qp r1 r2 r3
  | .pack2SssI2 qp r1 r2 r3 => encI2 7 0 2 1 0 0 2 qp r1 r2 r3
  | .unpack2LI2 qp r1 r2 r3 => encI2 7 0 2 1 0 1 2 qp r1 r2 r3
  | .mix2LI2 qp r1 r2 r3 => encI2 7 0 2 1 0 2 2 qp r1 r2 r3
  | .pmin2I2 qp r1 r2 r3 => encI2 7 0 2 1 0 0 3 qp r1 r2 r3
  | .pmax2I2 qp r1 r2 r3 => encI2 7 0 2 1 0 1 3 qp r1 r2 r3
  | .pmpy2LI2 qp r1 r2 r3 => encI2 7 0 2 1 0 3 3 qp r1 r2 r3
  | .mpy4I2 qp r1 r2 r3 => encI2 7 1 0 0 0 3 1 qp r1 r2 r3
  | .mpyshl4I2 qp r1 r2 r3 => encI2 7 1 0 0 0 3 3 qp r1 r2 r3
  | .unpack4HI2 qp r1 r2 r3 => encI2 7 1 2 0 0 1 0 qp r1 r2 r3
  | .mix4RI2 qp r1 r2 r3 => encI2 7 1 2 0 0 2 0 qp r1 r2 r3
  | .pack4SssI2 qp r1 r2 r3 => encI2 7 1 2 0 0 0 2 qp r1 r2 r3
  | .unpack4LI2 qp r1 r2 r3 => encI2 7 1 2 0 0 1 2 qp r1 r2 r3
  | .mix4LI2 qp r1 r2 r3 => encI2 7 1 2 0 0 2 2 qp r1 r2 r3
  | .mux1I3 qp r1 r2 mbt4c => encI3 7 0 3 0 0 2 2 qp r1 r2 mbt4c
  | .mux2I4 qp r1 r2 mht8c => encI4 7 0 3 1 0 2 2 qp r1 r2 mht8c
  | .pshr2I5 qp r1 r2 r3 => encI5 7 0 0 1 0 0 2 qp r1 r2 r3
  | .pshr4I5 qp r1 r2 r3 => encI5 7 1 0 0 0 0 2 qp r1 r2 r3
  | .shrI5 qp r1 r2 r3 => encI5 7 1 0 1 0 0 2 qp r1 r2 r3
  | .pshr2UI5 qp r1 r2 r3 => encI5 7 0 0 1 0 0 0 qp r1 r2 r3
  | .pshr4UI5 qp r1 r2 r3 => encI5 7 1 0 0 0 0 0 qp r1 r2 r3
  | .shrUI5 qp r1 r2 r3 => encI5 7 1 0 1 0 0 0 qp r1 r2 r3
  | .pshr2I6 qp r1 r3 count5b => encI6 7 0 1 1 0 0 3 qp r1 r3 count5b
  | .pshr4I6 qp r1 r3 count5b => encI6 7 1 1 0 0 0 3 qp r1 r3 count5b
  | .pshr2UI6 qp r1 r3 count5b => encI6 7 0 1 1 0 0 1 qp r1 r3 count5b
  | .pshr4UI6 qp r1 r3 count5b => encI6 7 1 1 0 0 0 1 qp r1 r3 count5b
  | .pshl2I7 qp r1 r2 r3 => encI7 7 0 0 1 0 1 0 qp r1 r2 r3
  | .pshl4I7 qp r1 r2 r3 => encI7 7 1 0 0 0 1 0 qp r1 r2 r3
  | .shlI7 qp r1 r2 r3 => encI7 7 1 0 1 0 1 0 qp r1 r2 r3
  | .pshl2I8 qp r1 r2 ccount5c => encI8 7 0 3 1 0 1 1 qp r1 r2 ccount5c
  | .pshl4I8 qp r1 r2 ccount5c => encI8 7 1 3 0 0 1 1 qp r1 r2 ccount5c
  | .popcntI9 qp r1 r3 => encI9 7 0 1 1 0 2 1 qp r1 r3
  | .clzI9 qp r1 r3 => encI9 7 0 1 1 0 3 1 qp r1 r3
  | .shrpI10 qp r1 r2 r3 count6d => encI10 5 3 0 qp r1 r2 r3 count6d
  | .extrUI11 qp r1 r3 len6d pos6b => encI11 5 1 0 0 qp r1 r3 len6d pos6b
  | .extrI11 qp r1 r3 len6d pos6b => encI11 5 1 0 1 qp r1 r3 len6d pos6b
  | .depZI12 qp r1 r2 len6d cpos6c => encI12 5 1 1 0 qp r1 r2 len6d cpos6c
  | .depZI13 qp r1 len6d cpos6c imm8 => encI13 5 1 1 1 qp r1 len6d cpos6c imm8
  | .depI14 qp r1 r3 len6d cpos6b imm1 => encI14 5 3 1 qp r1 r3 len6d cpos6b imm1
  | .depI15 qp r1 r2 r3 cpos6d len4d => encI15 4 qp r1 r2 r3 cpos6d len4d
  | .tbitZI16 qp p1 p2 r3 pos6b => encI16 5 0 0 0 0 0 qp p1 p2 r3 pos6b
  | .tnatZI17 qp p1 p2 r3 => encI17 5 0 0 0 0 1 0 qp p1 p2 r3
  | .tfZI30 qp p1 p2 imm5b => encI30 5 0 0 0 1 1 0 qp p1 p2 imm5b
  | .tbitZUncI16 qp p1 p2 r3 pos6b => encI16 5 0 0 0 0 1 qp p1 p2 r3 pos6b
  | .tnatZUncI17 qp p1 p2 r3 => encI17 5 0 0 0 0 1 1 qp p1 p2 r3
  | .tfZUncI30 qp p1 p2 imm5b => encI30 5 0 0 0 1 1 1 qp p1 p2 imm5b
  | .tbitZAndI16 qp p1 p2 r3 pos6b => encI16 5 1 0 0 0 0 qp p1 p2 r3 pos6b
  | .tnatZAndI17 qp p1 p2 r3 => encI17 5 1 0 0 0 1 0 qp p1 p2 r3
  | .tfZAndI30 qp p1 p2 imm5b => encI30 5 1 0 0 1 1 0 qp p1 p2 imm5b
  | .tbitNzAndI16 qp p1 p2 r3 pos6b => encI16 5 1 0 0 0 1 qp p1 p2 r3 pos6b
  | .tnatNzAndI17 qp p1 p2 r3 => encI17 5 1 0 0 0 1 1 qp p1 p2 r3
  | .tfNzAndI30 qp p1 p2 imm5b => encI30 5 1 0 0 1 1 1 qp p1 p2 imm5b
  | .tbitZOrI16 qp p1 p2 r3 pos6b => encI16 5 0 0 1 0 0 qp p1 p2 r3 pos6b
  | .tnatZOrI17 qp p1 p2 r3 => encI17 5 0 0 1 0 1 0 qp p1 p2 r3
  | .tfZOrI30 qp p1 p2 imm5b => encI30 5 0 0 1 1 1 0 qp p1 p2 imm5b
  | .tbitNzOrI16 qp p1 p2 r3 pos6b => encI16 5 0 0 1 0 1 qp p1 p2 r3 pos6b
  | .tnatNzOrI17 qp p1 p2 r3 => encI17 5 0 0 1 0 1 1 qp p1 p2 r3
  | .tfNzOrI30 qp p1 p2 imm5b => encI30 5 0 0 1 1 1 1 qp p1 p2 imm5b
  | .tbitZOrAndcmI16 qp p1 p2 r3 pos6b => encI16 5 1 0 1 0 0 qp p1 p2 r3 pos6b
  | .tnatZOrAndcmI17 qp p1 p2 r3 => encI17 5 1 0 1 0 1 0 qp p1 p2 r3
  | .tfZOrAndcmI30 qp p1 p2 imm5b => encI30 5 1 0 1 1 1 0 qp p1 p2 imm5b
  | .tbitNzOrAndcmI16 qp p1 p2 r3 pos6b => encI16 5 1 0 1 0 1 qp p1 p2 r3 pos6b
  | .tnatNzOrAndcmI17 qp p1 p2 r3 => encI17 5 1 0 1 0 1 1 qp p1 p2 r3
  | .tfNzOrAndcmI30 qp p1 p2 imm5b => encI30 5 1 0 1 1 1 1 qp p1 p2 imm5b
  | .nopII18 qp imm21 => encI18 0 0 1 0 qp imm21
  | .hintII18 qp imm21 => encI18 0 0 1 1 qp imm21
  | .breakII19 qp imm21 => encI19 0 0 0 qp imm21
  | .chkSII20 qp r2 disp21 => encI20 0 1 qp r2 disp21
  | .movToBrI21 qp b1 r2 timm9c ih wh p pbtv => encI21 0 7 0 qp b1 r2 timm9c ih wh p pbtv
  | .movRetToBrI21 qp b1 r2 timm9c ih wh p pbtv => encI21 0 7 1 qp b1 r2 timm9c ih wh p pbtv
  | .movFromBrI22 qp r1 b2 => encI22 0 0 0x31 qp r1 b2
  | .movToPrI23 qp r2 mask16 => encI23 0 3 qp r2 mask16
  | .movToPrRotI24 qp imm28 => encI24 0 2 qp imm28
  | .movFromIpI25 qp r1 => encI25 0 0 0x30 qp r1
  | .movFromPrI25 qp r1 => encI25 0 0 0x33 qp r1
  | .movIToArI26 qp r2 ar3 => encI26 0 0 0x2a qp r2 ar3
  | .movIToArImmI27 qp ar3 imm8 => encI27 0 0 0xa qp ar3 imm8
  | .movIFromArI28 qp r1 ar3 => encI28 0 0 0x32 qp r1 ar3
  | .zxt1I29 qp r1 r3 => encI29 0 0 0x10 qp r1 r3
  | .zxt2I29 qp r1 r3 => encI29 0 0 0x11 qp r1 r3
  | .zxt4I29 qp r1 r3 => encI29 0 0 0x12 qp r1 r3
  | .sxt1I29 qp r1 r3 => encI29 0 0 0x14 qp r1 r3
  | .sxt2I29 qp r1 r3 => encI29 0 0 0x15 qp r1 r3
  | .sxt4I29 qp r1 r3 => encI29 0 0 0x16 qp r1 r3
  | .czx1LI29 qp r1 r3 => encI29 0 0 0x18 qp r1 r3
  | .czx2LI29 qp r1 r3 => encI29 0 0 0x19 qp r1 r3
  | .czx1RI29 qp r1 r3 => encI29 0 0 0x1c qp r1 r3
  | .czx2RI29 qp r1 r3 => encI29 0 0 0x1d qp r1 r3
  | .ld1M1 qp r1 r3 hint h => encM1 4 0 0 0 qp r1 r3 hint h
  | .ld2M1 qp r1 r3 hint h => encM1 4 0 1 0 qp r1 r3 hint h
  | .ld4M1 qp r1 r3 hint h => encM1 4 0 2 0 qp r1 r3 hint h
  | .ld8M1 qp r1 r3 hint h => encM1 4 0 3 0 qp r1 r3 hint h
  | .ld1SM1 qp r1 r3 hint h => encM1 4 0 4 0 qp r1 r3 hint h
  | .ld2SM1 qp r1 r3 hint h => encM1 4 0 5 0 qp r1 r3 hint h
  | .ld4SM1 qp r1 r3 hint h => encM1 4 0 6 0 qp r1 r3 hint h
  | .ld8SM1 qp r1 r3 hint h => encM1 4 0 7 0 qp r1 r3 hint h
  | .ld1AM1 qp r1 r3 hint h => encM1 4 0 8 0 qp r1 r3 hint h
  | .ld2AM1 qp r1 r3 hint h => encM1 4 0 9 0 qp r1 r3 hint h
  | .ld4AM1 qp r1 r3 hint h => encM1 4 0 0xa 0 qp r1 r3 hint h
  | .ld8AM1 qp r1 r3 hint h => encM1 4 0 0xb 0 qp r1 r3 hint h
  | .ld1SaM1 qp r1 r3 hint h => encM1 4 0 0xc 0 qp r1 r3 hint h
  | .ld2SaM1 qp r1 r3 hint h => encM1 4 0 0xd 0 qp r1 r3 hint h
  | .ld4SaM1 qp r1 r3 hint h => encM1 4 0 0xe 0 qp r1 r3 hint h
  | .ld8SaM1 qp r1 r3 hint h => encM1 4 0 0xf 0 qp r1 r3 hint h
  | .ld1BiasM1 qp r1 r3 hint h => encM1 4 0 0x10 0 qp r1 r3 hint h
  | .ld2BiasM1 qp r1 r3 hint h => encM1 4 0 0x11 0 qp r1 r3 hint h
  | .ld4BiasM1 qp r1 r3 hint h => encM1 4 0 0x12 0 qp r1 r3 hint h
  | .ld8BiasM1 qp r1 r3 hint h => encM1 4 0 0x13 0 qp r1 r3 hint h
  | .ld1AcqM1 qp r1 r3 hint h => encM1 4 0 0x14 0 qp r1 r3 hint h
  | .ld2AcqM1 qp r1 r3 hint h => encM1 4 0 0x15 0 qp r1 r3 hint h
  | .ld4AcqM1 qp r1 r3 hint h => encM1 4 0 0x16 0 qp r1 r3 hint h
  | .ld8AcqM1 qp r1 r3 hint h => encM1 4 0 0x17 0 qp r1 r3 hint h
  | .ld1CClrM1 qp r1 r3 hint h => encM1 4 0 0x20 0 qp r1 r3 hint h
  | .ld2CClrM1 qp r1 r3 hint h => encM1 4 0 0x21 0 qp r1 r3 hint h
  | .ld4CClrM1 qp r1 r3 hint h => encM1 4 0 0x22 0 qp r1 r3 hint h
  | .ld8CClrM1 qp r1 r3 hint h => encM1 4 0 0x23 0 qp r1 r3 hint h
  | .ld1CNcM1 qp r1 r3 hint h => encM1 4 0 0x24 0 qp r1 r3 hint h
  | .ld2CNcM1 qp r1 r3 hint h => encM1 4 0 0x25 0 qp r1 r3 hint h
  | .ld4CNcM1 qp r1 r3 hint h => encM1 4 0 0x26 0 qp r1 r3 hint h
  | .ld8CNcM1 qp r1 r3 hint h => encM1 4 0 0x27 0 qp r1 r3 hint h
  | .ld1CClrAcqM1 qp r1 r3 hint h => encM1 4 0 0x28 0 qp r1 r3 hint h
  | .ld2CClrAcqM1 qp r1 r3 hint h => encM1 4 0 0x29 0 qp r1 r3 hint h
  | .ld4CClrAcqM1 qp r1 r3 hint h => encM1 4 0 0x2a 0 qp r1 r3 hint h
  | .ld8CClrAcqM1 qp r1 r3 hint h => encM1 4 0 0x2b 0 qp r1 r3 hint h
  | .ld8FillM1 qp r1 r3 hint h => encM1 4 0 0x1b 0 qp r1 r3 hint h
  | .ld1M2 qp r1 r2 r3 hint => encM2 4 1 0 0 qp r1 r2 r3 hint
  | .ld2M2 qp r1 r2 r3 hint => encM2 4 1 1 0 qp r1 r2 r3 hint
  | .ld4M2 qp r1 r2 r3 hint => encM2 4 1 2 0 qp r1 r2 r3 hint
  | .ld8M2 qp r1 r2 r3 hint => encM2 4 1 3 0 qp r1 r2 r3 hint
  | .ld1SM2 qp r1 r2 r3 hint => encM2 4 1 4 0 qp r1 r2 r3 hint
  | .ld2SM2 qp r1 r2 r3 hint => encM2 4 1 5 0 qp r1 r2 r3 hint
  | .ld4SM2 qp r1 r2 r3 hint => encM2 4 1 6 0 qp r1 r2 r3 hint
  | .ld8SM2 qp r1 r2 r3 hint => encM2 4 1 7 0 qp r1 r2 r3 hint
  | .ld1AM2 qp r1 r2 r3 hint => encM2 4 1 8 0 qp r1 r2 r3 hint
  | .ld2AM2 qp r1 r2 r3 hint => encM2 4 1 9 0 qp r1 r2 r3 hint
  | .ld4AM2 qp r1 r2 r3 hint => encM2 4 1 0xa 0 qp r1 r2 r3 hint
  | .ld8AM2 qp r1 r2 r3 hint => encM2 4 1 0xb 0 qp r1 r2 r3 hint
  | .ld1SaM2 qp r1 r2 r3 hint => encM2 4 1 0xc 0 qp r1 r2 r3 hint
  | .ld2SaM2 qp r1 r2 r3 hint => encM2 4 1 0xd 0 qp r1 r2 r3 hint
  | .ld4SaM2 qp r1 r2 r3 hint => encM2 4 1 0xe 0 qp r1 r2 r3 hint
  | .ld8SaM2 qp r1 r2 r3 hint => encM2 4 1 0xf 0 qp r1 r2 r3 hint
  | .ld1BiasM2 qp r1 r2 r3 hint => encM2 4 1 0x10 0 qp r1 r2 r3 hint
  | .ld2BiasM2 qp r1 r2 r3 hint => encM2 4 1 0x11 0 qp r1 r2 r3 hint
  | .ld4BiasM2 qp r1 r2 r3 hint => encM2 4 1 0x12 0 qp r1 r2 r3 hint
  | .ld8BiasM2 qp r1 r2 r3 hint => encM2 4 1 0x13 0 qp r1 r2 r3 hint
  | .ld1AcqM2 qp r1 r2 r3 hint => encM2 4 1 0x14 0 qp r1 r2 r3 hint
  | .ld2AcqM2 qp r1 r2 r3 hint => encM2 4 1 0x15 0 qp r1 r2 r3 hint
  | .ld4AcqM2 qp r1 r2 r3 hint => encM2 4 1 0x16 0 qp r1 r2 r3 hint
  | .ld8AcqM2 qp r1 r2 r3 hint => encM2 4 1 0x17 0 qp r1 r2 r3 hint
  | .ld1CClrM2 qp r1 r2 r3 hint => encM2 4 1 0x20 0 qp r1 r2 r3 hint
  | .ld2CClrM2 qp r1 r2 r3 hint => encM2 4 1 0x21 0 qp r1 r2 r3 hint
  | .ld4CClrM2 qp r1 r2 r3 hint => encM2 4 1 0x22 0 qp r1 r2 r3 hint
  | .ld8CClrM2 qp r1 r2 r3 hint => encM2 4 1 0x23 0 qp r1 r2 r3 hint
  | .ld1CNcM2 qp r1 r2 r3 hint => encM2 4 1 0x24 0 qp r1 r2 r3 hint
  | .ld2CNcM2 qp r1 r2 r3 hint => encM2 4 1 0x25 0 qp r1 r2 r3 hint
  | .ld4CNcM2 qp r1 r2 r3 hint => encM2 4 1 0x26 0 qp r1 r2 r3 hint
  | .ld8CNcM2 qp r1 r2 r3 hint => encM2 4 1 0x27 0 qp r1 r2 r3 hint
  | .ld1CClrAcqM2 qp r1 r2 r3 hint => encM2 4 1 0x28 0 qp r1 r2 r3 hint
  | .ld2CClrAcqM2 qp r1 r2 r3 hint => encM2 4 1 0x29 0 qp r1 r2 r3 hint
  | .ld4CClrAcqM2 qp r1 r2 r3 hint => encM2 4 1 0x2a 0 qp r1 r2 r3 hint
  | .ld8CClrAcqM2 qp r1 r2 r3 hint => encM2 4 1 0x2b 0 qp r1 r2 r3 hint
  | .ld8FillM2 qp r1 r2 r3 hint => encM2 4 1 0x1b 0 qp r1 r2 r3 hint
  | .ld1M3 qp r1 r3 hint imm9 => encM3 5 0 qp r1 r3 hint imm9
  | .ld2M3 qp r1 r3 hint imm9 => encM3 5 1 qp r1 r3 hint imm9
  | .ld4M3 qp r1 r3 hint imm9 => encM3 5 2 qp r1 r3 hint imm9
  | .ld8M3 qp r1 r3 hint imm9 => encM3 5 3 qp r1 r3 hint imm9
  | .ld1SM3 qp r1 r3 hint imm9 => encM3 5 4 qp r1 r3 hint imm9
  | .ld2SM3 qp r1 r3 hint imm9 => encM3 5 5 qp r1 r3 hint imm9
  | .ld4SM3 qp r1 r3 hint imm9 => encM3 5 6 qp r1 r3 hint imm9
  | .ld8SM3 qp r1 r3 hint imm9 => encM3 5 7 qp r1 r3 hint imm9
  | .ld1AM3 qp r1 r3 hint imm9 => encM3 5 8 qp r1 r3 hint imm9
  | .ld2AM3 qp r1 r3 hint imm9 => encM3 5 9 qp r1 r3 hint imm9
  | .ld4AM3 qp r1 r3 hint imm9 => encM3 5 0xa qp r1 r3 hint imm9
  | .ld8AM3 qp r1 r3 hint imm9 => encM3 5 0xb qp r1 r3 hint imm9
  | .ld1SaM3 qp r1 r3 hint imm9 => encM3 5 0xc qp r1 r3 hint imm9
  | .ld2SaM3 qp r1 r3 hint imm9 => encM3 5 0xd qp r1 r3 hint imm9
  | .ld4SaM3 qp r1 r3 hint imm9 => encM3 5 0xe qp r1 r3 hint imm9
  | .ld8SaM3 qp r1 r3 hint imm9 => encM3 5 0xf qp r1 r3 hint imm9
  | .ld1BiasM3 qp r1 r3 hint imm9 => encM3 5 0x10 qp r1 r3 hint imm9
  | .ld2BiasM3 qp r1 r3 hint imm9 => encM3 5 0x11 qp r1 r3 hint imm9
  | .ld4BiasM3 qp r1 r3 hint imm9 => encM3 5 0x12 qp r1 r3 hint imm9
  | .ld8BiasM3 qp r1 r3 hint imm9 => encM3 5 0x13 qp r1 r3 hint imm9
  | .ld1AcqM3 qp r1 r3 hint imm9 => encM3 5 0x14 qp r1 r3 hint imm9
  | .ld2AcqM3 qp r1 r3 hint imm9 => encM3 5 0x15 qp r1 r3 hint imm9
  | .ld4AcqM3 qp r1 r3 hint imm9 => encM3 5 0x16 qp r1 r3 hint imm9
  | .ld8AcqM3 qp r1 r3 hint imm9 => encM3 5 0x17 qp r1 r3 hint imm9
  | .ld1CClrM3 qp r1 r3 hint imm9 => encM3 5 0x20 qp r1 r3 hint imm9
  | .ld2CClrM3 qp r1 r3 hint imm9 => encM3 5 0x21 qp r1 r3 hint imm9
  | .ld4CClrM3 qp r1 r3 hint imm9 => encM3 5 0x22 qp r1 r3 hint imm9
  | .ld8CClrM3 qp r1 r3 hint imm9 => encM3 5 0x23 qp r1 r3 hint imm9
  | .ld1CNcM3 qp r1 r3 hint imm9 => encM3 5 0x24 qp r1 r3 hint imm9
  | .ld2CNcM3 qp r1 r3 hint imm9 => encM3 5 0x25 qp r1 r3 hint imm9
  | .ld4CNcM3 qp r1 r3 hint imm9 => encM3 5 0x26 qp r1 r3 hint imm9
  | .ld8CNcM3 qp r1 r3 hint imm9 => encM3 5 0x27 qp r1 r3 hint imm9
  | .ld1CClrAcqM3 qp r1 r3 hint imm9 => encM3 5 0x28 qp r1 r3 hint imm9
  | .ld2CClrAcqM3 qp r1 r3 hint imm9 => encM3 5 0x29 qp r1 r3 hint imm9
  | .ld4CClrAcqM3 qp r1 r3 hint imm9 => encM3 5 0x2a qp r1 r3 hint imm9
  | .ld8CClrAcqM3 qp r1 r3 hint imm9 => encM3 5 0x2b qp r1 r3 hint imm9
  | .ld8FillM3 qp r1 r3 hint imm9 => encM3 5 0x1b qp r1 r3 hint imm9
  | .ld16M1 qp r1 r3 hint h => encM1 4 0 0x28 1 qp r1 r3 hint h
  | .ld16AcqM1 qp r1 r3 hint h => encM1 4 0 0x2c 1 qp r1 r3 hint h
  | .st1M4 qp r2 r3 hint h => encM4 4 0 0x30 0 qp r2 r3 hint h
  | .st2M4 qp r2 r3 hint h => encM4 4 0 0x31 0 qp r2 r3 hint h
  | .st4M4 qp r2 r3 hint h => encM4 4 0 0x32 0 qp r2 r3 hint h
  | .st8M4 qp r2 r3 hint h => encM4 4 0 0x33 0 qp r2 r3 hint h
  | .st1RelM4 qp r2 r3 hint h => encM4 4 0 0x34 0 qp r2 r3 hint h
  | .st2RelM4 qp r2 r3 hint h => encM4 4 0 0x35 0 qp r2 r3 hint h
  | .st4RelM4 qp r2 r3 hint h => encM4 4 0 0x36 0 qp r2 r3 hint h
  | .st8RelM4 qp r2 r3 hint h => encM4 4 0 0x37 0 qp r2 r3 hint h
  | .st8SpillM4 qp r2 r3 hint h => encM4 4 0 0x3b 0 qp r2 r3 hint h
  | .st1M5 qp r2 r3 hint imm9 => encM5 5 0x30 qp r2 r3 hint imm9
  | .st2M5 qp r2 r3 hint imm9 => encM5 5 0x31 qp r2 r3 hint imm9
  | .st4M5 qp r2 r3 hint imm9 => encM5 5 0x32 qp r2 r3 hint imm9
  | .st8M5 qp r2 r3 hint imm9 => encM5 5 0x33 qp r2 r3 hint imm9
  | .st1RelM5 qp r2 r3 hint imm9 => encM5 5 0x34 qp r2 r3 hint imm9
  | .st2RelM5 qp r2 r3 hint imm9 => encM5 5 0x35 qp r2 r3 hint imm9
  | .st4RelM5 qp r2 r3 hint imm9 => encM5 5 0x36 qp r2 r3 hint imm9
  | .st8RelM5 qp r2 r3 hint imm9 => encM5 5 0x37 qp r2 r3 hint imm9
  | .st8SpillM5 qp r2 r3 hint imm9 => encM5 5 0x3b qp r2 r3 hint imm9
  | .st16M4 qp r2 r3 hint h => encM4 4 0 0x30 1 qp r2 r3 hint h
  | .st16RelM4 qp r2 r3 hint h => encM4 4 0 0x34 1 qp r2 r3 hint h
  | .ldfeM6 qp f1 r3 hint h => encM6 6 0 0 0 qp f1 r3 hint h
  | .ldf8M6 qp f1 r3 hint h => encM6 6 0 1 0 qp f1 r3 hint h
  | .ldfsM6 qp f1 r3 hint h => encM6 6 0 2 0 qp f1 r3 hint h
  | .ldfdM6 qp f1 r3 hint h => encM6 6 0 3 0 qp f1 r3 hint h
  | .ldfeSM6 qp f1 r3 hint h => encM6 6 0 4 0 qp f1 r3 hint h
  | .ldf8SM6 qp f1 r3 hint h => encM6 6 0 5 0 qp f1 r3 hint h
  | .ldfsSM6 qp f1 r3 hint h => encM6 6 0 6 0 qp f1 r3 hint h
  | .ldfdSM6 qp f1 r3 hint h => encM6 6 0 7 0 qp f1 r3 hint h
  | .ldfeAM6 qp f1 r3 hint h => encM6 6 0 8 0 qp f1 r3 hint h
  | .ldf8AM6 qp f1 r3 hint h => encM6 6 0 9 0 qp f1 r3 hint h
  | .ldfsAM6 qp f1 r3 hint h => encM6 6 0 0xa 0 qp f1 r3 hint h
  | .ldfdAM6 qp f1 r3 hint h => encM6 6 0 0xb 0 qp f1 r3 hint h
  | .ldfeSaM6 qp f1 r3 hint h => encM6 6 0 0xc 0 qp f1 r3 hint h
  | .ldf8SaM6 qp f1 r3 hint h => encM6 6 0 0xd 0 qp f1 r3 hint h
  | .ldfsSaM6 qp f1 r3 hint h => encM6 6 0 0xe 0 qp f1 r3 hint h
  | .ldfdSaM6 qp f1 r3 hint h => encM6 6 0 0xf 0 qp f1 r3 hint h
  | .ldfeCClrM6 qp f1 r3 hint h => encM6 6 0 0x20 0 qp f1 r3 hint h
  | .ldf8CClrM6 qp f1 r3 hint h => encM6 6 0 0x21 0 qp f1 r3 hint h
  | .ldfsCClrM6 qp f1 r3 hint h => encM6 6 0 0x22 0 qp f1 r3 hint h
  | .ldfdCClrM6 qp f1 r3 hint h => encM6 6 0 0x23 0 qp f1 r3 hint h
  | .ldfeCNcM6 qp f1 r3 hint h => encM6 6 0 0x24 0 qp f1 r3 hint h
  | .ldf8CNcM6 qp f1 r3 hint h => encM6 6 0 0x25 0 qp f1 r3 hint h
  | .ldfsCNcM6 qp f1 r3 hint h => encM6 6 0 0x26 0 qp f1 r3 hint h
  | .ldfdCNcM6 qp f1 r3 hint h => encM6 6 0 0x27 0 qp f1 r3 hint h
  | .ldfFillM6 qp f1 r3 hint h => encM6 6 0 0x1b 0 qp f1 r3 hint h
  | .ldfeM7 qp f1 r2 r3 hint => encM7 6 1 0 0 qp f1 r2 r3 hint
  | .ldf8M7 qp f1 r2 r3 hint => encM7 6 1 1 0 qp f1 r2 r3 hint
  | .ldfsM7 qp f1 r2 r3 hint => encM7 6 1 2 0 qp f1 r2 r3 hint
  | .ldfdM7 qp f1 r2 r3 hint => encM7 6 1 3 0 qp f1 r2 r3 hint
  | .ldfeSM7 qp f1 r2 r3 hint => encM7 6 1 4 0 qp f1 r2 r3 hint
  | .ldf8SM7 qp f1 r2 r3 hint => encM7 6 1 5 0 qp f1 r2 r3 hint
  | .ldfsSM7 qp f1 r2 r3 hint => encM7 6 1 6 0 qp f1 r2 r3 hint
  | .ldfdSM7 qp f1 r2 r3 hint => encM7 6 1 7 0 qp f1 r2 r3 hint
  | .ldfeAM7 qp f1 r2 r3 hint => encM7 6 1 8 0 qp f1 r2 r3 hint
  | .ldf8AM7 qp f1 r2 r3 hint => encM7 6 1 9 0 qp f1 r2 r3 hint
  | .ldfsAM7 qp f1 r2 r3 hint => encM7 6 1 0xa 0 qp f1 r2 r3 hint
  | .ldfdAM7 qp f1 r2 r3 hint => encM7 6 1 0xb 0 qp f1 r2 r3 hint
  | .ldfeSaM7 qp f1 r2 r3 hint => encM7 6 1 0xc 0 qp f1 r2 r3 hint
  | .ldf8SaM7 qp f1 r2 r3 hint => encM7 6 1 0xd 0 qp f1 r2 r3 hint
  | .ldfsSaM7 qp f1 r2 r3 hint => encM7 6 1 0xe 0 qp f1 r2 r3 hint
  | .ldfdSaM7 qp f1 r2 r3 hint => encM7 6 1 0xf 0 qp f1 r2 r3 hint
  | .ldfeCClrM7 qp f1 r2 r3 hint => encM7 6 1 0x20 0 qp f1 r2 r3 hint
  | .ldf8CClrM7 qp f1 r2 r3 hint => encM7 6 1 0x21 0 qp f1 r2 r3 hint
  | .ldfsCClrM7 qp f1 r2 r3 hint => encM7 6 1 0x22 0 qp f1 r2 r3 hint
  | .ldfdCClrM7 qp f1 r2 r3 hint => encM7 6 1 0x23 0 qp f1 r2 r3 hint
  | .ldfeCNcM7 qp f1 r2 r3 hint => encM7 6 1 0x24 0 qp f1 r2 r3 hint
  | .ldf8CNcM7 qp f1 r2 r3 hint => encM7 6 1 0x25 0 qp f1 r2 r3 hint
  | .ldfsCNcM7 qp f1 r2 r3 hint => encM7 6 1 0x26 0 qp f1 r2 r3 hint
  | .ldfdCNcM7 qp f1 r2 r3 hint => encM7 6 1 0x27 0 qp f1 r2 r3 hint
  | .ldfFillM7 qp f1 r2 r3 hint => encM7 6 1 0x1b 0 qp f1 r2 r3 hint
  | .ldfeM8 qp f1 r3 hint imm9 => encM8 7 0 qp f1 r3 hint imm9
  | .ldf8M8 qp f1 r3 hint imm9 => encM8 7 1 qp f1 r3 hint imm9
  | .ldfsM8 qp f1 r3 hint imm9 => encM8 7 2 qp f1 r3 hint imm9
  | .ldfdM8 qp f1 r3 hint imm9 => encM8 7 3 qp f1 r3 hint imm9
  | .ldfeSM8 qp f1 r3 hint imm9 => encM8 7 4 qp f1 r3 hint imm9
  | .ldf8SM8 qp f1 r3 hint imm9 => encM8 7 5 qp f1 r3 hint imm9
  | .ldfsSM8 qp f1 r3 hint imm9 => encM8 7 6 qp f1 r3 hint imm9
  | .ldfdSM8 qp f1 r3 hint imm9 => encM8 7 7 qp f1 r3 hint imm9
  | .ldfeAM8 qp f1 r3 hint imm9 => encM8 7 8 qp f1 r3 hint imm9
  | .ldf8AM8 qp f1 r3 hint imm9 => encM8 7 9 qp f1 r3 hint imm9
  | .ldfsAM8 qp f1 r3 hint imm9 => encM8 7 0xa qp f1 r3 hint imm9
  | .ldfdAM8 qp f1 r3 hint imm9 => encM8 7 0xb qp f1 r3 hint imm9
  | .ldfeSaM8 qp f1 r3 hint imm9 => encM8 7 0xc qp f1 r3 hint imm9
  | .ldf8SaM8 qp f1 r3 hint imm9 => encM8 7 0xd qp f1 r3 hint imm9
  | .ldfsSaM8 qp f1 r3 hint imm9 => encM8 7 0xe qp f1 r3 hint imm9
  | .ldfdSaM8 qp f1 r3 hint imm9 => encM8 7 0xf qp f1 r3 hint imm9
  | .ldfeCClrM8 qp f1 r3 hint imm9 => encM8 7 0x20 qp f1 r3 hint imm9
  | .ldf8CClrM8 qp f1 r3 hint imm9 => encM8 7 0x21 qp f1 r3 hint imm9
  | .ldfsCClrM8 qp f1 r3 hint imm9 => encM8 7 0x22 qp f1 r3 hint imm9
  | .ldfdCClrM8 qp f1 r3 hint imm9 => encM8 7 0x23 qp f1 r3 hint imm9
  | .ldfeCNcM8 qp f1 r3 hint imm9 => encM8 7 0x24 qp f1 r3 hint imm9
  | .ldf8CNcM8 qp f1 r3 hint imm9 => encM8 7 0x25 qp f1 r3 hint imm9
  | .ldfsCNcM8 qp f1 r3 hint imm9 => encM8 7 0x26 qp f1 r3 hint imm9
  | .ldfdCNcM8 qp f1 r3 hint imm9 => encM8 7 0x27 qp f1 r3 hint imm9
  | .ldfFillM8 qp f1 r3 hint imm9 => encM8 7 0x1b qp f1 r3 hint imm9
  | .stfeM9 qp f2 r3 hint h => encM9 6 0 0x30 0 qp f2 r3 hint h
  | .stf8M9 qp f2 r3 hint h => encM9 6 0 0x31 0 qp f2 r3 hint h
  | .stfsM9 qp f2 r3 hint h => encM9 6 0 0x32 0 qp f2 r3 hint h
  | .stfdM9 qp f2 r3 hint h => encM9 6 0 0x33 0 qp f2 r3 hint h
  | .stfSpillM9 qp f2 r3 hint h => encM9 6 0 0x3b 0 qp f2 r3 hint h
  | .stfeM10 qp f2 r3 hint imm9 => encM10 7 0x30 qp f2 r3 hint imm9
  | .stf8M10 qp f2 r3 hint imm9 => encM10 7 0x31 qp f2 r3 hint imm9
  | .stfsM10 qp f2 r3 hint imm9 => encM10 7 0x32 qp f2 r3 hint imm9
  | .stfdM10 qp f2 r3 hint imm9 => encM10 7 0x33 qp f2 r3 hint imm9
  | .stfSpillM10 qp f2 r3 hint imm9 => encM10 7 0x3b qp f2 r3 hint imm9
  | .ldfp8M11 qp f1 f2 r3 hint => encM11 6 0 1 1 qp f1 f2 r3 hint
  | .ldfpsM11 qp f1 f2 r3 hint => encM11 6 0 2 1 qp f1 f2 r3 hint
  | .ldfpdM11 qp f1 f2 r3 hint => encM11 6 0 3 1 qp f1 f2 r3 hint
  | .ldfp8SM11 qp f1 f2 r3 hint => encM11 6 0 5 1 qp f1 f2 r3 hint
  | .ldfpsSM11 qp f1 f2 r3 hint => encM11 6 0 6 1 qp f1 f2 r3 hint
  | .ldfpdSM11 qp f1 f2 r3 hint => encM11 6 0 7 1 qp f1 f2 r3 hint
  | .ldfp8AM11 qp f1 f2 r3 hint => encM11 6 0 9 1 qp f1 f2 r3 hint
  | .ldfpsAM11 qp f1 f2 r3 hint => encM11 6 0 0xa 1 qp f1 f2 r3 hint
  | .ldfpdAM11 qp f1 f2 r3 hint => encM11 6 0 0xb 1 qp f1 f2 r3 hint
  | .ldfp8SaM11 qp f1 f2 r3 hint => encM11 6 0 0xd 1 qp f1 f2 r3 hint
  | .ldfpsSaM11 qp f1 f2 r3 hint => encM11 6 0 0xe 1 qp f1 f2 r3 hint
  | .ldfpdSaM11 qp f1 f2 r3 hint => encM11 6 0 0xf 1 qp f1 f2 r3 hint
  | .ldfp8CClrM11 qp f1 f2 r3 hint => encM11 6 0 0x21 1 qp f1 f2 r3 hint
  | .ldfpsCClrM11 qp f1 f2 r3 hint => encM11 6 0 0x22 1 qp f1 f2 r3 hint
  | .ldfpdCClrM11 qp f1 f2 r3 hint => encM11 6 0 0x23 1 qp f1 f2 r3 hint
  | .ldfp8CNcM11 qp f1 f2 r3 hint => encM11 6 0 0x25 1 qp f1 f2 r3 hint
  | .ldfpsCNcM11 qp f1 f2 r3 hint => encM11 6 0 0x26 1 qp f1 f2 r3 hint
  | .ldfpdCNcM11 qp f1 f2 r3 hint => encM11 6 0 0x27 1 qp f1 f2 r3 hint
  | .ldfp8M12 qp f1 f2 r3 hint => encM12 6 1 1 1 qp f1 f2 r3 hint
  | .ldfpsM12 qp f1 f2 r3 hint => encM12 6 1 2 1 qp f1 f2 r3 hint
  | .ldfpdM12 qp f1 f2 r3 hint => encM12 6 1 3 1 qp f1 f2 r3 hint
  | .ldfp8SM12 qp f1 f2 r3 hint => encM12 6 1 5 1 qp f1 f2 r3 hint
  | .ldfpsSM12 qp f1 f2 r3 hint => encM12 6 1 6 1 qp f1 f2 r3 hint
  | .ldfpdSM12 qp f1 f2 r3 hint => encM12 6 1 7 1 qp f1 f2 r3 hint
  | .ldfp8AM12 qp f1 f2 r3 hint => encM12 6 1 9 1 qp f1 f2 r3 hint
  | .ldfpsAM12 qp f1 f2 r3 hint => encM12 6 1 0xa 1 qp f1 f2 r3 hint
  | .ldfpdAM12 qp f1 f2 r3 hint => encM12 6 1 0xb 1 qp f1 f2 r3 hint
  | .ldfp8SaM12 qp f1 f2 r3 hint => encM12 6 1 0xd 1 qp f1 f2 r3 hint
  | .ldfpsSaM12 qp f1 f2 r3 hint => encM12 6 1 0xe 1 qp f1 f2 r3 hint
  | .ldfpdSaM12 qp f1 f2 r3 hint => encM12 6 1 0xf 1 qp f1 f2 r3 hint
  | .ldfp8CClrM12 qp f1 f2 r3 hint => encM12 6 1 0x21 1 qp f1 f2 r3 hint
  | .ldfpsCClrM12 qp f1 f2 r3 hint => encM12 6 1 0x22 1 qp f1 f2 r3 hint
  | .ldfpdCClrM12 qp f1 f2 r3 hint => encM12 6 1 0x23 1 qp f1 f2 r3 hint
  | .ldfp8CNcM12 qp f1 f2 r3 hint => encM12 6 1 0x25 1 qp f1 f2 r3 hint
  | .ldfpsCNcM12 qp f1 f2 r3 hint => encM12 6 1 0x26 1 qp f1 f2 r3 hint
  | .ldfpdCNcM12 qp f1 f2 r3 hint => encM12 6 1 0x27 1 qp f1 f2 r3 hint
  | .lfetchExclM13 qp r3 hint h => encM13 6 0 0x2d 0 qp r3 hint h
  | .lfetchFaultM13 qp r3 hint h => encM13 6 0 0x2e 0 qp r3 hint h
  | .lfetchFaultExclM13 qp r3 hint h => encM13 6 0 0x2f 0 qp r3 hint h
  | .lfetchM51 qp r3 hint h => encM51 6 0 0x2c 0 0 qp r3 hint h
  | .lfetchCountM52 qp r3 hint stride5b h cnt6a => encM52 6 0 0x2c 0 1 qp r3 hint stride5b h cnt6a
  | .lfetchM14 qp r2 r3 hint h => encM14 6 1 0x2c 0 qp r2 r3 hint h
  | .lfetchExclM14 qp r2 r3 hint h => encM14 6 1 0x2d 0 qp r2 r3 hint h
  | .lfetchFaultM14 qp r2 r3 hint h => encM14 6 1 0x2e 0 qp r2 r3 hint h
  | .lfetchFaultExclM14 qp r2 r3 hint h => encM14 6 1 0x2f 0 qp r2 r3 hint h
  | .lfetchM15 qp r3 hint h imm9 => encM15 7 0x2c qp r3 hint h imm9
  | .lfetchExclM15 qp r3 hint h imm9 => encM15 7 0x2d qp r3 hint h imm9
  | .lfetchFaultM15 qp r3 hint h imm9 => encM15 7 0x2e qp r3 hint h imm9
  | .lfetchFaultExclM15 qp r3 hint h imm9 => encM15 7 0x2f qp r3 hint h imm9
  | .cmpxchg1AcqM16 qp r1 r2 r3 hint => encM16 4 0 0 1 qp r1 r2 r3 hint
  | .cmpxchg1RelM16 qp r1 r2 r3 hint => encM16 4 0 4 1 qp r1 r2 r3 hint
  | .xchg1M16 qp r1 r2 r3 hint => encM16 4 0 8 1 qp r1 r2 r3 hint
  | .cmpxchg2AcqM16 qp r1 r2 r3 hint => encM16 4 0 1 1 qp r1 r2 r3 hint
  | .cmpxchg2RelM16 qp r1 r2 r3 hint => encM16 4 0 5 1 qp r1 r2 r3 hint
  | .xchg2M16 qp r1 r2 r3 hint => encM16 4 0 9 1 qp r1 r2 r3 hint
  | .cmpxchg4AcqM16 qp r1 r2 r3 hint => encM16 4 0 2 1 qp r1 r2 r3 hint
  | .cmpxchg4RelM16 qp r1 r2 r3 hint => encM16 4 0 6 1 qp r1 r2 r3 hint
  | .xchg4M16 qp r1 r2 r3 hint => encM16 4 0 0xa 1 qp r1 r2 r3 hint
  | .cmpxchg8AcqM16 qp r1 r2 r3 hint => encM16 4 0 3 1 qp r1 r2 r3 hint
  | .cmpxchg8RelM16 qp r1 r2 r3 hint => encM16 4 0 7 1 qp r1 r2 r3 hint
  | .xchg8M16 qp r1 r2 r3 hint => encM16 4 0 0xb 1 qp r1 r2 r3 hint
  | .cmp8xchg16AcqM16 qp r1 r2 r3 hint => encM16 4 0 0x20 1 qp r1 r2 r3 hint
  | .cmp8xchg16RelM16 qp r1 r2 r3 hint => encM16 4 0 0x24 1 qp r1 r2 r3 hint
  | .fetchadd4AcqM17 qp r1 r3 hint inc3 => encM17 4 0 0x12 1 qp r1 r3 hint inc3
  | .fetchadd8AcqM17 qp r1 r3 hint inc3 => encM17 4 0 0x13 1 qp r1 r3 hint inc3
  | .fetchadd4RelM17 qp r1 r3 hint inc3 => encM17 4 0 0x16 1 qp r1 r3 hint inc3
  | .fetchadd8RelM17 qp r1 r3 hint inc3 => encM17 4 0 0x17 1 qp r1 r3 hint inc3
  | .setfSigM18 qp f1 r2 => encM18 6 0 0x1c 1 qp f1 r2
  | .getfSigM19 qp r1 f2 => encM19 4 0 0x1c 1 qp r1 f2
  | .setfExpM18 qp f1 r2 => encM18 6 0 0x1d 1 qp f1 r2
  | .getfExpM19 qp r1 f2 => encM19 4 0 0x1d 1 qp r1 f2
  | .setfSM18 qp f1 r2 => encM18 6 0 0x1e 1 qp f1 r2
  | .getfSM19 qp r1 f2 => encM19 4 0 0x1e 1 qp r1 f2
  | .setfDM18 qp f1 r2 => encM18 6 0 0x1f 1 qp f1 r2
  | .getfDM19 qp r1 f2 => encM19 4 0 0x1f 1 qp r1 f2
  | .chkSMM20 qp r2 disp21 => encM20 1 1 qp r2 disp21
  | .chkSM21 qp f2 disp21 => encM21 1 3 qp f2 disp21
  | .chkANcM22 qp r1 disp21 => encM22 0 4 qp r1 disp21
  | .chkAClrM22 qp r1 disp21 => encM22 0 5 qp r1 disp21
  | .chkANcM23 qp f1 disp21 => encM23 0 6 qp f1 disp21
  | .chkAClrM23 qp f1 disp21 => encM23 0 7 qp f1 disp21
  | .invalaM24 qp => encM24 0 0 1 0 qp
  | .fwbM24 qp => encM24 0 0 2 0 qp
  | .mfM24 qp => encM24 0 0 2 2 qp
  | .mfAM24 qp => encM24 0 0 2 3 qp
  | .srlzDM24 qp => encM24 0 0 3 0 qp
  | .srlzIM24 qp => encM24 0 0 3 1 qp
  | .syncIM24 qp => encM24 0 0 3 3 qp
  | .flushrsM25 => encM25 0 0 0 0xc
  | .loadrsM25 => encM25 0 0 0 0xa
  | .invalaEM26 qp r1 => encM26 0 0 1 2 qp r1
  | .invalaEM27 qp f1 => encM27 0 0 1 3 qp f1
  | .fcM28 qp r3 => encM28 1 0 0 0x30 qp r3
  | .fcIM28 qp r3 => encM28 1 1 0 0x30 qp r3
  | .movMToArM29 qp r2 ar3 => encM29 1 0 0x2a qp r2 ar3
  | .movMToArImmM30 qp ar3 imm8 => encM30 0 0 2 8 qp ar3 imm8
  | .movMFromArM31 qp r1 ar3 => encM31 1 0 0x22 qp r1 ar3
  | .movToCrM32 qp r2 cr3 => encM32 1 0 0x2c qp r2 cr3
  | .movFromCrM33 qp r1 cr3 => encM33 1 0 0x24 qp r1 cr3
  | .allocM34 qp r1 sor sol sof => encM34 1 6 qp r1 sor sol sof
  | .movToPsrLM35 qp r2 => encM35 1 0 0x2d qp r2
  | .movToPsrUmM35 qp r2 => encM35 1 0 0x29 qp r2
  | .movFromPsrM36 qp r1 => encM36 1 0 0x25 qp r1
  | .movFromPsrUmM36 qp r1 => encM36 1 0 0x21 qp r1
  | .breakMM37 qp imm21 => encM37 0 0 0 0 qp imm21
  | .probeRM38 qp r1 r2 r3 => encM38 1 0 0x38 qp r1 r2 r3
  | .probeWM38 qp r1 r2 r3 => encM38 1 0 0x39 qp r1 r2 r3
  | .probeRM39 qp r1 r3 i2b => encM39 1 0 0x18 qp r1 r3 i2b
  | .probeWM39 qp r1 r3 i2b => encM39 1 0 0x19 qp r1 r3 i2b
  | .probeRwFaultM40 qp r3 i2b => encM40 1 0 0x31 qp r3 i2b
  | .probeRFaultM40 qp r3 i2b => encM40 1 0 0x32 qp r3 i2b
  | .probeWFaultM40 qp r3 i2b => encM40 1 0 0x33 qp r3 i2b
  | .itcDM41 qp r2 => encM41 1 0 0x2e qp r2
  | .itcIM41 qp r2 => encM41 1 0 0x2f qp r2
  | .movToRrM42 qp r2 r3 => encM42 1 0 0 qp r2 r3
  | .movToDbrM42 qp r2 r3 => encM42 1 0 1 qp r2 r3
  | .movToIbrM42 qp r2 r3 => encM42 1 0 2 qp r2 r3
  | .movToPkrM42 qp r2 r3 => encM42 1 0 3 qp r2 r3
  | .movToPmcM42 qp r2 r3 => encM42 1 0 4 qp r2 r3
  | .movToPmdM42 qp r2 r3 => encM42 1 0 5 qp r2 r3
  | .itrDM42 qp r2 r3 => encM42 1 0 0xe qp r2 r3
  | .itrIM42 qp r2 r3 => encM42 1 0 0xf qp r2 r3
  | .movFromRrM43 qp r1 r3 => encM43 1 0 0x10 qp r1 r3
  | .movFromDbrM43 qp r1 r3 => encM43 1 0 0x11 qp r1 r3
  | .movFromIbrM43 qp r1 r3 => encM43 1 0 0x12 qp r1 r3
  | .movFromPkrM43 qp r1 r3 => encM43 1 0 0x13 qp r1 r3
  | .movFromPmcM43 qp r1 r3 => encM43 1 0 0x14 qp r1 r3
  | .movFromPmdM43 qp r1 r3 => encM43 1 0 0x15 qp r1 r3
  | .movFromCpuidM43 qp r1 r3 => encM43 1 0 0x17 qp r1 r3
  | .movFromDahrM43 qp r1 r3 => encM43 1 0 0x20 qp r1 r3
  | .sumM44 qp imm24 => encM44 0 0 4 qp imm24
  | .rumM44 qp imm24 => encM44 0 0 5 qp imm24
  | .ssmM44 qp imm24 => encM44 0 0 6 qp imm24
  | .rsmM44 qp imm24 => encM44 0 0 7 qp imm24
  | .ptcLM45 qp r2 r3 => encM45 1 0 9 qp r2 r3
  | .ptcGM45 qp r2 r3 => encM45 1 0 0xa qp r2 r3
  | .ptcGaM45 qp r2 r3 => encM45 1 0 0xb qp r2 r3
  | .ptrDM45 qp r2 r3 => encM45 1 0 0xc qp r2 r3
  | .ptrIM45 qp r2 r3 => encM45 1 0 0xd qp r2 r3
  | .thashM46 qp r1 r3 => encM46 1 0 0x1a qp r1 r3
  | .ttagM46 qp r1 r3 => encM46 1 0 0x1b qp r1 r3
  | .tpaM46 qp r1 r3 => encM46 1 0 0x1e qp r1 r3
  | .takM46 qp r1 r3 => encM46 1 0 0x1f qp r1 r3
  | .ptcEM47 qp r3 => encM47 1 0 0x34 qp r3
  | .nopMM48 qp imm21 => encM48 0 0 0 1 0 qp imm21
  | .hintMM49 qp imm19 => encM49 0 0 0 1 1 0 qp imm19
  | .movToDahrImmM50 qp dahr3 imm16 => encM50 0 0 0 1 1 1 qp dahr3 imm16
  | .brCondB1 qp d wh p disp21 => encB1 4 0 qp d wh p disp21
  | .brWexitB1 qp d wh p disp21 => encB1 4 2 qp d wh p disp21
  | .brWtopB1 qp d wh p disp21 => encB1 4 3 qp d wh p disp21
  | .brCloopB2 d wh p disp21 => encB2 4 5 d wh p disp21
  | .brCexitB2 d wh p disp21 => encB2 4 6 d wh p disp21
  | .brCtopB2 d wh p disp21 => encB2 4 7 d wh p disp21
  | .brCallB3 qp b1 d wh p disp21 => encB3 5 qp b1 d wh p disp21
  | .brCondB4 qp b2 d wh p => encB4 0 0x20 0 qp b2 d wh p
  | .brIaB4 qp b2 d wh p => encB4 0 0x20 1 qp b2 d wh p
  | .brRetB4 qp b2 d wh p => encB4 0 0x21 4 qp b2 d wh p
  | .brCallB5 qp b1 b2 d wh p => encB5 1 qp b1 b2 d wh p
  | .brpB6 ih p wh pbtv disp21 tag9 => encB6 7 ih p wh pbtv disp21 tag9
  | .brpB7 b2 ih p wh pbtv tag9 => encB7 2 0x10 b2 ih p wh pbtv tag9
  | .brpRetB7 b2 ih p wh pbtv tag9 => encB7 2 0x11 b2 ih p wh pbtv tag9
  | .coverB8 => encB8 0 2
  | .clrrrbB8 => encB8 0 4
  | .clrrrbPrB8 => encB8 0 5
  | .rfiB8 => encB8 0 8
  | .bsw0B8 => encB8 0 0xc
  | .bsw1B8 => encB8 0 0xd
  | .epcB8 => encB8 0 0x10
  | .vmsw0B8 => encB8 0 0x18
  | .vmsw1B8 => encB8 0 0x19
  | .breakBB9 qp imm21 => encB9 0 0 qp imm21
  | .nopBB9 qp imm21 => encB9 2 0 qp imm21
  | .hintBB9 qp imm21 => encB9 2 1 qp imm21
  | .fmaF1 qp f1 f2 f3 f4 sf => encF1 8 0 qp f1 f2 f3 f4 sf
  | .fmaSF1 qp f1 f2 f3 f4 sf => encF1 8 1 qp f1 f2 f3 f4 sf
  | .fmaDF1 qp f1 f2 f3 f4 sf => encF1 9 0 qp f1 f2 f3 f4 sf
  | .fpmaF1 qp f1 f2 f3 f4 sf => encF1 9 1 qp f1 f2 f3 f4 sf
  | .fmsF1 qp f1 f2 f3 f4 sf => encF1 0xa 0 qp f1 f2 f3 f4 sf
  | .fmsSF1 qp f1 f2 f3 f4 sf => encF1 0xa 1 qp f1 f2 f3 f4 sf
  | .fmsDF1 qp f1 f2 f3 f4 sf => encF1 0xb 0 qp f1 f2 f3 f4 sf
  | .fpmsF1 qp f1 f2 f3 f4 sf => encF1 0xb 1 qp f1 f2 f3 f4 sf
  | .fnmaF1 qp f1 f2 f3 f4 sf => encF1 0xc 0 qp f1 f2 f3 f4 sf
  | .fnmaSF1 qp f1 f2 f3 f4 sf => encF1 0xc 1 qp f1 f2 f3 f4 sf
  | .fnmaDF1 qp f1 f2 f3 f4 sf => encF1 0xd 0 qp f1 f2 f3 f4 sf
  | .fpnmaF1 qp f1 f2 f3 f4 sf => encF1 0xd 1 qp f1 f2 f3 f4 sf
  | .xmaLF2 qp f1 f2 f3 f4 => encF2 0xe 1 0 qp f1 f2 f3 f4
  | .xmaHuF2 qp f1 f2 f3 f4 => encF2 0xe 1 2 qp f1 f2 f3 f4
  | .xmaHF2 qp f1 f2 f3 f4 => encF2 0xe 1 3 qp f1 f2 f3 f4
  | .fselectF3 qp f1 f2 f3 f4 => encF3 0xe 0 qp f1 f2 f3 f4
  | .fcmpEqF4 qp p1 p2 f2 f3 sf => encF4 4 0 0 0 qp p1 p2 f2 f3 sf
  | .fcmpEqUncF4 qp p1 p2 f2 f3 sf => encF4 4 0 0 1 qp p1 p2 f2 f3 sf
  | .fcmpLtF4 qp p1 p2 f2 f3 sf => encF4 4 1 0 0 qp p1 p2 f2 f3 sf
  | .fcmpLtUncF4 qp p1 p2 f2 f3 sf => encF4 4 1 0 1 qp p1 p2 f2 f3 sf
  | .fcmpLeF4 qp p1 p2 f2 f3 sf => encF4 4 0 1 0 qp p1 p2 f2 f3 sf
  | .fcmpLeUncF4 qp p1 p2 f2 f3 sf => encF4 4 0 1 1 qp p1 p2 f2 f3 sf
  | .fcmpUnordF4 qp p1 p2 f2 f3 sf => encF4 4 1 1 0 qp p1 p2 f2 f3 sf
  | .fcmpUnordUncF4 qp p1 p2 f2 f3 sf => encF4 4 1 1 1 qp p1 p2 f2 f3 sf
  | .fclassMF5 qp p1 p2 f2 fclass9 => encF5 5 0 qp p1 p2 f2 fclass9
  | .fclassMUncF5 qp p1 p2 f2 fclass9 => encF5 5 1 qp p1 p2 f2 fclass9
  | .frcpaF6 qp p2 f1 f2 f3 sf => encF6 0 0 1 qp p2 f1 f2 f3 sf
  | .fprcpaF6 qp p2 f1 f2 f3 sf => encF6 1 0 1 qp p2 f1 f2 f3 sf
  | .frsqrtaF7 qp p2 f1 f3 sf => encF7 0 1 1 qp p2 f1 f3 sf
  | .fprsqrtaF7 qp p2 f1 f3 sf => encF7 1 1 1 qp p2 f1 f3 sf
  | .fminF8 qp f1 f2 f3 sf => encF8 0 0 0x14 qp f1 f2 f3 sf
  | .fmaxF8 qp f1 f2 f3 sf => encF8 0 0 0x15 qp f1 f2 f3 sf
  | .faminF8 qp f1 f2 f3 sf => encF8 0 0 0x16 qp f1 f2 f3 sf
  | .famaxF8 qp f1 f2 f3 sf => encF8 0 0 0x17 qp f1 f2 f3 sf
  | .fpminF8 qp f1 f2 f3 sf => encF8 1 0 0x14 qp f1 f2 f3 sf
  | .fpmaxF8 qp f1 f2 f3 sf => encF8 1 0 0x15 qp f1 f2 f3 sf
  | .fpaminF8 qp f1 f2 f3 sf => encF8 1 0 0x16 qp f1 f2 f3 sf
  | .fpamaxF8 qp f1 f2 f3 sf => encF8 1 0 0x17 qp f1 f2 f3 sf
  | .fpcmpEqF8 qp f1 f2 f3 sf => encF8 1 0 0x30 qp f1 f2 f3 sf
  | .fpcmpLtF8 qp f1 f2 f3 sf => encF8 1 0 0x31 qp f1 f2 f3 sf
  | .fpcmpLeF8 qp f1 f2 f3 sf => encF8 1 0 0x32 qp f1 f2 f3 sf
  | .fpcmpUnordF8 qp f1 f2 f3 sf => encF8 1 0 0x33 qp f1 f2 f3 sf
  | .fpcmpNeqF8 qp f1 f2 f3 sf => encF8 1 0 0x34 qp f1 f2 f3 sf
  | .fpcmpNltF8 qp f1 f2 f3 sf => encF8 1 0 0x35 qp f1 f2 f3 sf
  | .fpcmpNleF8 qp f1 f2 f3 sf => encF8 1 0 0x36 qp f1 f2 f3 sf
  | .fpcmpOrdF8 qp f1 f2 f3 sf => encF8 1 0 0x37 qp f1 f2 f3 sf
  | .fmergeSF9 qp f1 f2 f3 => encF9 0 0 0x10 qp f1 f2 f3
  | .fmergeNsF9 qp f1 f2 f3 => encF9 0 0 0x11 qp f1 f2 f3
  | .fmergeSeF9 qp f1 f2 f3 => encF9 0 0 0x12 qp f1 f2 f3
  | .fmixLrF9 qp f1 f2 f3 => encF9 0 0 0x39 qp f1 f2 f3
  | .fmixRF9 qp f1 f2 f3 => encF9 0 0 0x3a qp f1 f2 f3
  | .fmixLF9 qp f1 f2 f3 => encF9 0 0 0x3b qp f1 f2 f3
  | .fsxtRF9 qp f1 f2 f3 => encF9 0 0 0x3c qp f1 f2 f3
  | .fsxtLF9 qp f1 f2 f3 => encF9 0 0 0x3d qp f1 f2 f3
  | .fpackF9 qp f1 f2 f3 => encF9 0 0 0x28 qp f1 f2 f3
  | .fswapF9 qp f1 f2 f3 => encF9 0 0 0x34 qp f1 f2 f3
  | .fswapNlF9 qp f1 f2 f3 => encF9 0 0 0x35 qp f1 f2 f3
  | .fswapNrF9 qp f1 f2 f3 => encF9 0 0 0x36 qp f1 f2 f3
  | .fandF9 qp f1 f2 f3 => encF9 0 0 0x2c qp f1 f2 f3
  | .fandcmF9 qp f1 f2 f3 => encF9 0 0 0x2d qp f1 f2 f3
  | .forF9 qp f1 f2 f3 => encF9 0 0 0x2e qp f1 f2 f3
  | .fxorF9 qp f1 f2 f3 => encF9 0 0 0x2f qp f1 f2 f3
  | .fpmergeSF9 qp f1 f2 f3 => encF9 1 0 0x10 qp f1 f2 f3
  | .fpmergeNsF9 qp f1 f2 f3 => encF9 1 0 0x11 qp f1 f2 f3
  | .fpmergeSeF9 qp f1 f2 f3 => encF9 1 0 0x12 qp f1 f2 f3
  | .fcvtFxF10 qp f1 f2 sf => encF10 0 0 0x18 qp f1 f2 sf
  | .fcvtFxuF10 qp f1 f2 sf => encF10 0 0 0x19 qp f1 f2 sf
  | .fcvtFxTruncF10 qp f1 f2 sf => encF10 0 0 0x1a qp f1 f2 sf
  | .fcvtFxuTruncF10 qp f1 f2 sf => encF10 0 0 0x1b qp f1 f2 sf
  | .fpcvtFxF10 qp f1 f2 sf => encF10 1 0 0x18 qp f1 f2 sf
  | .fpcvtFxuF10 qp f1 f2 sf => encF10 1 0 0x19 qp f1 f2 sf
  | .fpcvtFxTruncF10 qp f1 f2 sf => encF10 1 0 0x1a qp f1 f2 sf
  | .fpcvtFxuTruncF10 qp f1 f2 sf => encF10 1 0 0x1b qp f1 f2 sf
  | .fcvtXfF11 qp f1 f2 => encF11 0 0 0x1c qp f1 f2
  | .fsetcF12 qp sf omask7c amask7b => encF12 0 0 4 qp sf omask7c amask7b
  | .fclrfF13 qp sf => encF13 0 0 5 qp sf
  | .fchkfF14 qp sf disp21 => encF14 0 0 8 qp sf disp21
  | .breakFF15 qp imm21 => encF15 0 0 0 qp imm21
  | .nopFF16 qp imm21 => encF16 0 0 1 0 qp imm21
  | .hintFF16 qp imm21 => encF16 0 0 1 1 qp imm21
  | .breakXX1 qp imm62 => encX1 0 0 0 qp imm62
  | .movlX2 qp r1 imm64 => encX2 6 0 qp r1 imm64
  | .brlCondX3 qp d wh p disp60 => encX3 0xc 0 qp d wh p disp60
  | .brlCallX4 qp b1 d wh p disp60 => encX4 0xd qp b1 d wh p disp60
  | .nopXX5 qp imm62 => encX5 0 0 1 0 qp imm62
  | .hintXX5 qp imm62 => encX5 0 0 1 1 qp imm62

/-- The unit a bare 41-bit word is read under: the opcode table's words carry no template, so the first unit type, in
the order M, I, X, F, B, that has an instruction for the word (log entry 4). -/
noncomputable def wordUnit (l w : Slot) : Option (SlotUnit × Instr) :=
  [SlotUnit.m, .i, .x, .f, .b].findSome? fun u =>
    match decodeSlot u l w with
    | .instr i => some (u, i)
    | _ => none

/-- The instruction read from an opcode-table word: bits 40:0 are the slot; bits 81:41, when the word has them, the L
slot of an X-unit instruction. -/
noncomputable def decodeTableWord (_nbits w : Nat) : Option Instr :=
  (wordUnit (BitVec.ofNat 41 (w >>> 41)) (BitVec.ofNat 41 w)).map Prod.snd

end Sys2Proof
end

