-- ==== Sys2Proof/Config.lean ====
section
/-! DEFINITION. What an implementation fixes (the parameters of R9, with the test configuration that the spec's
decision file offers; log entry 5) and the free values of the model (R14, D52; log entry 6). -/

namespace Sys2Proof.Config

/-! ### Parameters with the spec's offered values (92_eei_decisions.md section 7; DESIGN CHOICE, log entry 5) -/

/-- `IMPL_VA_MSB` (R176). -/
def implVaMsb : Nat := 60
/-- `IMPL_PA_MSB` (R176). -/
def implPaMsb : Nat := 49
/-- `N_ITR` = `N_DTR` (R126: at least 8). -/
abbrev nItr : Nat := 8
abbrev nDtr : Nat := 8
/-- `N_PKR` (R113: at least 16). -/
abbrev nPkr : Nat := 16
/-- `N_DBR` = `N_IBR` (R114: at least 8). -/
abbrev nDebug : Nat := 8
/-- `DAHR_DEFAULT[i]` (R76; D10 offers 0). -/
def dahrDefault : BitVec 16 := 0
/-- `PAGE_SIZES` as the logarithms of the sizes (R237; 4K to 256M). -/
def pageSizes : List Nat := [12, 13, 14, 16, 18, 20, 22, 24, 26, 28]
/-- `ITC_STEP` (D11). -/
def itcStep : Word := 1
/-- `RUC_RATE` (D11). -/
def rucStep : Word := 1
/-- `ISR_CODE_UNIMPL_DATA_ADDR` (R1139). -/
def isrUnimplData : BitVec 16 := 0x30
/-- `RSE.N_STACK_PHYS` (R9, R127: at least 96). -/
abbrev nStackPhys : Nat := 96

/-! ### Parameters without an offered value: every value that R9 allows (log entry 5) -/

/-- How many entries beyond one the instruction translation cache has. -/
opaque moreItc : Nat
/-- How many entries beyond one the data translation cache has. -/
opaque moreDtc : Nat
/-- `N_ITC` (R9: at least 1): no more entries than these stay in the instruction translation cache. -/
def nItc : Nat := moreItc + 1
/-- `N_DTC` (R9: at least 1): no more entries than these stay in the data translation cache. -/
def nDtc : Nat := moreDtc + 1
/-- How many generic monitor pairs there are beyond the four that R115 asks for; of the 256 names one at least is
not there (log entry 5). -/
opaque moreMonitors : Fin 248
/-- `IMPL_MAXGENERIC_PMCPMD` (R9, R115: at least 7). -/
def maxGeneric : Nat := moreMonitors.val + 7
/-- The width of a count beyond one bit; R1050 gives it the range up to 60. -/
opaque morePmdBits : Fin 60
/-- `PMD_WIDTH` (R9, R117, R1050). -/
def pmdWidth : Nat := morePmdBits.val + 1
/-- The logarithm of the line size beyond 5. -/
opaque lineShift : Nat
/-- `LINE_SIZE` (R9: a power of two of at least 32). -/
def lineSize : Nat := 2 ^ (lineShift + 5)
/-- `PARTIAL_IP` (R9): IIP holds an unimplemented instruction address sign-extended (virtual) or zero-extended (physical)
where a trap reports it. -/
opaque partialIp : Bool

/-! ### What is implemented (R9): each optional feature is present, every check is at the earliest point (D43) -/

/-- `IMPL_DAHR`: without it `mov dahr` is a nop and a read of a DAHR is illegal (R670, R690). -/
@[simp] def implDahr : Bool := true
/-- `IMPL_DAHS`: without it the hint stack has no level, so that a push or a pop leaves the defaults (R77). -/
@[simp] def implDahs : Bool := true
/-- How many levels beyond one the hint stack has. -/
opaque moreLevels : Nat
/-- `DAHS_DEPTH` (R9, R77): any number of levels (log entry 5). -/
def dahsDepth : Nat := if implDahs then moreLevels + 1 else 0
/-- `IMPL_RUC`: without it AR 45 is reserved. -/
@[simp] def implRuc : Bool := true
/-- `IMPL_BRL`: without it `brl` is an Illegal Operation (R560). -/
@[simp] def implBrl : Bool := true
/-- `IMPL_LD16_ST16`: without it `ld16`, `st16` and `cmp8xchg16` are Illegal Operations. -/
@[simp] def implLd16St16 : Bool := true
/-- `IMPL_LFETCH_COUNT`: without it `lfetch.count` is `lfetch`. Neither moves what this model holds (R626). -/
@[simp] def implLfetchCount : Bool := true
/-- `IMPL_VM`: without it PSR.vm is reserved, `vmsw` is a Virtualization fault (R569), the PAL_VP procedures are absent. -/
@[simp] def implVm : Bool := true
/-- `IMPL_IIB`: without it CR 26 and 27 are reserved and delivery does not write them. -/
@[simp] def implIib : Bool := true
/-- `IMPL_ITO`: without it CR 4 is reserved. -/
@[simp] def implIto : Bool := true
/-- `IMPL_PMC_CH_VMM`: without it the fields ch and vmm of a PMC are not implemented. -/
@[simp] def implPmcChVmm : Bool := true
/-- `IMPL_CLZ` (R810): without it `clz` is an Illegal Operation. -/
@[simp] def implClz : Bool := true
/-- `IMPL_MPY4` (R811, R812): without it `mpy4` and `mpyshl4` are Illegal Operations. -/
@[simp] def implMpy4 : Bool := true
/-- `LINT_PINS` (D65): without them LRR0 and LRR1 read 0 and their writes have no effect (R107). -/
@[simp] def lintPins : Bool := false
/-- `impl_uia_fault_supported` (D43): an unimplemented instruction address is a fault of the fetch; else a trap of the
instruction that reached it. -/
@[simp] def uiaFault : Bool := true
/-- `impl_check_mov_ifa` (R700): `mov` to IFA checks the address; else the TLB inserts do. -/
@[simp] def checkMovIfa : Bool := true
/-- `impl_check_mov_itir` (R700): `mov` to ITIR checks the reserved fields. -/
@[simp] def checkMovItir : Bool := true
/-- `impl_check_tlb_itir` (R700): the inserts check ITIR for an absent translation too. -/
@[simp] def checkTlbItir : Bool := true
/-- `impl_check_mov_psr_l` (R700): `mov` to PSR.l checks bits 63:32 of its source. -/
@[simp] def checkMovPsrL : Bool := true
/-- `impl_itir_cwi_mask` (R700, D43): the identity. -/
@[simp] def itirMask (v : Word) : Word := v
/-- `impl_ia32_ar_reserved_ignored` (R90): reserved fields of the IA-32 registers are ignored, not checked. -/
@[simp] def ia32Ignored : Bool := true
/-- The check types of `check_branch_implemented` (R655, R656, R960). -/
inductive CheckType where
  | chksGeneral | chksFloat | chkaGeneral | chkaFloat | fchkf
deriving DecidableEq, Repr
/-- `check_branch_implemented(type)` (D43): a failing check of the type branches; else it is a Speculative Operation
fault. -/
@[simp] def checkBranch : CheckType → Bool := fun _ => true
/-- The execution units that have a `hint` (R672). -/
inductive HintUnit where
  | i | m | f | b | x
deriving DecidableEq, Repr
/-- `is_supported_hint(h)`, which "may depend on unit and slot" (R9): any predicate. `execute_hint` moves nothing that this
model holds (R672), so that no meaning depends on the answer. -/
opaque supportedHint (unit : HintUnit) (slot : BitVec 2) (imm : BitVec 62) : Bool
/-- 10-byte and 16-byte accesses work on pages that are not write-back (R9); else they are Unsupported Data References
(for the 10-byte forms DEDUCED, log entry 52). -/
@[simp] def wideUncacheable : Bool := false

/-- The event select code of the processor-cycles event (R1168; model specific). -/
def eventCycles : BitVec 8 := 0x12
/-- The event select code of the retired-instructions event (R1168; model specific). -/
def eventRetired : BitVec 8 := 0x08
/-- `BRAND_STRING` (R1040), its terminating NUL included. The length that PAL_BRAND_INFO returns counts the NUL: R1040 does
not say whether it does (DESIGN CHOICE, log entry 30). -/
def brandString : List Byte := [0x49, 0x74, 0x61, 0x6E, 0x69, 0x75, 0x6D, 0x00]
/-- One bit that reports a feature. -/
def flag (present : Bool) (k : Nat) : Word := if present then BitVec.ofNat 64 (2 ^ k) else 0

/-- `CPUID[i]` (R119): register 4 reports `brl`, the 16-byte accesses, RUC, `clz` and `mpy4` (R796). -/
def cpuid : Nat → Word
  | 0 => 0x49656E69756E6547
  | 1 => 0x000000006C65746E
  | 3 => 0x0000000020000004
  | 4 => flag implBrl 0 ||| flag implLd16St16 2 ||| flag implRuc 3 ||| flag implClz 32 ||| flag implMpy4 33
  | _ => 0
/-- `CPUID[3].number`: the largest implemented CPUID register (R119). -/
def cpuidLast : Nat := 4
/-- The features that the parameters decide (R1056): VM 40, fault form 36, IIB 34, ITO 33, PMC.ch and .vmm 32. -/
def featuresBuilt : Word :=
  flag implVm 40 ||| flag uiaFault 36 ||| flag implIib 34 ||| flag implIto 33 ||| flag implPmcChVmm 32
/-- `PAL_FEATURES_AVAIL` (R1056): beside those, `vmsw` enable 54, P-states 52, spontaneous deferral 44, simple
unimplemented addresses 38 (the reverse of `PARTIAL_IP`), absent pins 37 (the reverse of `LINT_PINS`), ALAT disable 35. -/
def featuresAvail : Word := 0x0050100800000000 ||| flag (!partialIp) 38 ||| flag (!lintPins) 37 ||| featuresBuilt
/-- The features software may change (R1056, column Control). -/
def featuresControl : Word := 0x0050110800000000

/-- The size of the processor dynamic state (R1046; implementation dependent). -/
def dynamicStateSize : Word := 0
/-- PAL_HALT_INFO's eight entries (R1045): LIGHT_HALT and HALT, both coherent; latencies and power 0. -/
def haltInfo : List Word := [0x3000000000000000, 0x3000000000000000, 0, 0, 0, 0, 0, 0]
/-- PAL_PSTATE_INFO's entries (R1086), two words for each state: P0 alone, its performance index 100. -/
def pStates : List Word := [100, 0]
/-- A buffer-dependent PAL procedure needs the PAL memory buffer (R1023, R1030: status -9). -/
@[simp] def palBufferNeeded : Bool := false
/-- PAL_TEST_INFO's answers (R1070; it has no page): the bytes a test needs and the alignment of its buffer. -/
def testBytesNeeded : Nat := 0
def testAlignment : Nat := 8
/-- PAL_TEST_INFO says that the self-test control word is implemented (R1070). -/
@[simp] def testControlImplemented : Bool := false

/-! ### Free values: opaque, so that nothing can be proved of what they are (R14, D32, D52; log entry 6) -/

/-- Which open value of the spec is asked for. -/
inductive Site where
  /-- The value and NaT bit of an out-of-frame stacked register (R52). -/
  | outOfFrame (r : Nat)
  /-- The value and NaT bit of a physical stacked register that newly enters the frame (R829). -/
  | newFrame (phys : Nat)
  /-- AR[RNAT] after a write of BSPSTORE or a `loadrs` (R680, R706). -/
  | rnat
  /-- The value beside a NaT bit (R239, D32). -/
  | natd
  /-- `thash` and `ttag` of a NaT or an unimplemented address (R699). -/
  | hashUndefined
  /-- IIB0 and IIB1 of an interruption that is no fault (R1120: "unspecified"). -/
  | iib (word : Nat)
  /-- The ISR.code bits that mark an Unimplemented Instruction Address fault or trap (R1151, N93). -/
  | uiaCode
  /-- The count of a monitor that need not keep it (R116). -/
  | pmdLost (i : Nat)
  /-- The vector that the external controller gives for an INTA access (R1166). -/
  | intaVector
  /-- A TC entry survives this step (R203). -/
  | keepTc (index : Nat)
  /-- An ALAT entry survives this step (R125). -/
  | keepAlat (index : Nat)
  /-- `alat_cmp` misses although an entry matches (R16). -/
  | alatMiss
  /-- A speculative load without a fault is deferred all the same (R603). -/
  | spontaneous
  /-- A NaT collection bit that no register's spill has defined. -/
  | dispersal
  /-- What PAL_TEST_PROC returns and leaves in FR32 to FR127 (R1070). -/
  | selfTest (k : Nat)
  /-- The PAL virtualization service address (R1075). -/
  | vsaBase
  /-- The logical address of this processor (R1060; PAL_FIXED_ADDR has no page). -/
  | logicalAddress
  /-- What PALE_PMI leaves undefined or scratch at its hand-off (R1115). -/
  | pmi (k : Nat)
  /-- What PALE_INIT and PALE_CHECK leave at their hand-off (R1110, R1128: no exit state is given). -/
  | firmware (k : Nat)
  /-- ISR.code of a Speculative Operation fault (R1142, U39). -/
  | speculation
  /-- A cache line that an error is to be injected into is present (R1100). -/
  | linePresent
  /-- What an error record holds where the injection does not say (R1090 to R1096). -/
  | errorField (k : Nat)
  /-- A placed error is met in this step (R1100: what meets it is not stated). -/
  | errorMet (index : Nat)
  /-- The cause that PAL reports at a virtualization intercept (R1075: its encoding is not stated). -/
  | interceptCause
  /-- A word of the running virtual processor's VPD that is undefined while it runs (R1080). -/
  | vpd (offset : Nat)
deriving DecidableEq, Repr

/-- A 64-bit free value: one for each site and each reading of the model's counter. -/
opaque freeWord : Site → Nat → Word
/-- A free truth value. -/
opaque freeBit : Site → Nat → Bool
/-- The long-format hash index of `tlb_vhpt_hash` (R221: implementation specific). -/
opaque longHash : (vrn : BitVec 3) → (va : BitVec 61) → (rid : BitVec 24) → (ps : BitVec 6) → Word
/-- `tlb_vhpt_tag` before its bit 63 is cleared (R222: implementation specific). -/
opaque vhptTag : (va : BitVec 61) → (rid : BitVec 24) → (ps : BitVec 6) → Word
/-- What the reciprocal table gives, in units of 2^-12 (R941: `FP_RECIP_TABLES` is not in the source). -/
opaque recipTable : (sig : Word) → BitVec 13
/-- What the reciprocal square root table gives, in units of 2^-12 (R941); the flag is the exponent's parity. -/
opaque rsqrtTable : (odd : Bool) → (sig : Word) → BitVec 13
/-- The operand limit violations of `fprcpa` (and, with the flag, `fprsqrta`) near the single-precision range limits
(R943: the limits are not stated). -/
opaque limitsViolated : (sqrt : Bool) → (f2 : BitVec 32) → (f3 : BitVec 32) → Bool
/-- The operands of `frcpa` whose quotient is near the range limits (R940: the limits are not stated). -/
opaque nearLimits : (e2 : BitVec 17) → (s2 : Word) → (e3 : BitVec 17) → (s3 : Word) → Bool
/-- The value sets a reserved field of an IA-32 application register (R90: the layouts are not stated). -/
opaque ia32Reserved : (ar : Nat) → (v : Word) → Bool
/-- The bit of the VPD's vdc that is d_vmsw (R1081: not stated). -/
opaque dVmswBit : Fin 64
/-- The bit of the VPD's vdc that is d_to_pmd (R1081: not stated). -/
opaque dToPmdBit : Fin 64
/-- The bit of the VPD's vac that is a_int (R1169: not stated). -/
opaque aIntBit : Fin 64
/-- A combination of the VPD's vac and vdc that is not supported (R1076: which are is not stated). -/
opaque vpUnsupported : (vac : Word) → (vdc : Word) → Bool
/-- The bits of the VPD's vac that are a_bsw and a_from_cpuid (R1080: not stated). -/
opaque aBswBit : Fin 64
opaque aFromCpuidBit : Fin 64
/-- How often a processor may lose a translation that forward progress needs before an instruction completes (R204: it "must
eventually guarantee visibility", and no bound is stated). -/
opaque tcLossBound : Nat
/-- The guest's virtual TPR lets `vhpi` through (R1169: its encoding is lost). -/
opaque vhpiUnmasked : (vhpi : Word) → (vtpr : Word) → Bool

end Sys2Proof.Config
end

