-- ==== Sys2Proof/Machine/State.lean ====
section
/-! DEFINITION. The machine's state as plain data (10_state.md; INVENTORY.md lists every field), the reasons a step can
stop, and the state at the start point (R1200). -/

namespace Sys2Proof.Machine

/-- A general register: 64-bit value and NaT bit (R50). -/
structure Gr where
  val : Word
  nat : Bool
deriving DecidableEq, Repr

/-- A floating-point register in register format: sign, biased exponent, significand with explicit integer bit (R71). -/
structure Fr where
  sign : Bool
  exp : BitVec 17
  sig : Word
deriving DecidableEq, Repr

/-- The current frame marker (R53); PFS.pfm and IFS.ifm have its layout. -/
structure Cfm where
  sof : BitVec 7
  sol : BitVec 7
  sor : BitVec 4
  rrbGr : BitVec 7
  rrbFr : BitVec 7
  rrbPr : BitVec 6
deriving DecidableEq, Repr

/-- The home of a general register operand after renaming and banking (R53, R54). -/
inductive GrLoc where
  | zero
  | static (i : Fin 16)
  | bank0 (i : Fin 16)
  | bank1 (i : Fin 16)
  | stacked (i : Fin Config.nStackPhys)
  | outOfFrame
deriving DecidableEq, Repr

/-- The physical register an ALAT entry belongs to (R125). -/
inductive AlatReg where
  | gr (loc : GrLoc)
  | fr (i : Fin 128)
deriving DecidableEq, Repr

/-- An ALAT entry: register, physical address, size in bytes (R125). -/
structure AlatEntry where
  reg : AlatReg
  paddr : Word
  size : Nat
deriving DecidableEq, Repr

/-- A TLB entry (R201). Its being in a list or in a filled TR slot is the hidden valid bit. -/
structure TlbEntry where
  p : Bool
  ma : BitVec 3
  a : Bool
  d : Bool
  pl : BitVec 2
  ar : BitVec 3
  ppn : BitVec 38
  ed : Bool
  ps : BitVec 6
  key : BitVec 24
  vpn : BitVec 52
  rid : BitVec 24
deriving DecidableEq, Repr

/-- The application registers that exist (R80). ITC and RUC count (R81, R82). -/
structure AppRegs where
  kr : Vector Word 8
  rsc : Word
  bsp : Word
  bspstore : Word
  rnat : Word
  fcr : Word
  eflag : Word
  csd : Word
  ssd : Word
  cflg : Word
  fsr : Word
  fir : Word
  fdr : Word
  ccv : Word
  unat : Word
  fpsr : Word
  itc : Word
  ruc : Word
  pfs : Word
  lc : Word
  ec : BitVec 6
deriving DecidableEq, Repr

/-- The control registers that hold state (R100). IVR and EOI are views of `irr` and `inService`. -/
structure CtlRegs where
  dcr : Word
  itm : Word
  iva : Word
  ito : Word
  pta : Word
  gpta : Word
  ipsr : Word
  isr : Word
  iip : Word
  ifa : Word
  itir : Word
  iipa : Word
  ifs : Word
  iim : Word
  iha : Word
  iib0 : Word
  iib1 : Word
  lid : Word
  tpr : Word
  /-- IRR0-IRR3: the pending bit of each vector (R106, R128). -/
  irr : BitVec 256
  itv : Word
  pmv : Word
  cmcv : Word
  lrr0 : Word
  lrr1 : Word
deriving DecidableEq, Repr

/-- The register stack engine's hidden state (R127). The partitions' sizes follow from the three pointers. -/
structure RseState where
  /-- RSE.BOF: the physical stacked register that is GR32. -/
  bof : Fin Config.nStackPhys
  /-- RSE.BspLoad: the backing store address one above the next load. -/
  bspLoad : Word
  /-- RSE.CFLE: current frame load enable. -/
  cfle : Bool
  /-- The NaT dispersal register (R136). -/
  dispersal : Word
deriving DecidableEq, Repr

/-- The power states of a logical processor (R130, R1185). -/
inductive PowerState where
  | normal
  | lowPower
  | lightHalt
  | halt
deriving DecidableEq, Repr

/-- A hardware error as PAL_MC_ERROR_INFO reports it (R1090): the structure (bit 8 + `unit` of the error map), its check
word (R1091 to R1096), whose bits tv, rq, rp and pi say which of the other four hold anything. -/
structure ErrorRecord where
  unit : Fin 40
  check : Word
  target : Word
  requester : Word
  responder : Word
  ip : Word
deriving DecidableEq, Repr

/-- An error that PAL_MC_ERROR_INJECT places (R1100): its severity (0 corrected, 1 recoverable, 2 fatal), whether it is
consumed at once, and what consuming it logs. -/
structure Injection where
  severity : BitVec 2
  consume : Bool
  record : ErrorRecord
deriving DecidableEq, Repr

/-- The outstanding trigger of a delayed injection (R1100, R1101): a data or an instruction access to an address at a
privilege level. -/
structure Trigger where
  data : Bool
  pl : BitVec 2
  address : Word
  injection : Injection
deriving DecidableEq, Repr

/-- A registered virtual processor: its VPD, host IVT and optional intercept handler (R1076). -/
structure VirtualProcessor where
  vpd : Word
  hostIva : Word
  optHandler : Word
deriving DecidableEq, Repr

/-- The virtual processor that PAL_VP_RESTORE made current (R1077), with the controls of its VPD (R1080, R1081). -/
structure VirtualRun where
  vpd : Word
  vac : Word
  vdc : Word
deriving DecidableEq, Repr

/-- What PALE_INIT and PALE_CHECK save of the interrupted context where their hand-off leaves it nowhere else: the min-state
save area, whose layout is not in the source (R1110, R1203; log entry 55). -/
structure MinState where
  ip : Word
  psr : Word
  grStatic : Vector Gr 16
  grBank0 : Vector Gr 16
  pr : BitVec 64
  br : Vector Word 8
  ipsr : Word
  iip : Word
  ifs : Word
deriving DecidableEq, Repr

/-- What PAL procedures set and read (48_pal_procedures.md); no instruction names it. -/
structure PalState where
  /-- Processor feature set 0, feature_status (R1056). -/
  features : Word
  /-- The hardware sharing policy (R1060). -/
  hwPolicy : Word
  /-- The current P-state (R1085). -/
  pState : BitVec 4
  power : PowerState
  /-- The physical base of the processor interrupt block (R1052, R1166). -/
  interruptBlock : Word
  /-- The physical base of the I/O port space block (R1052, R175). -/
  ioBlock : Word
  /-- The external task priority byte of the interrupt block (R1166). -/
  xtp : Byte
  /-- The registered SAL PMI handler (R1116). -/
  pmiEntry : Word
  /-- The SAL handler to which PALE_INIT hands off (R1171). -/
  initEntry : Word
  /-- The SAL handler to which PALE_CHECK hands off (R1128). -/
  checkEntry : Word
  /-- XR0: the min-state save area address (R1115). -/
  xr0 : Word
  /-- The logged errors, the oldest first (R1090). -/
  errors : List ErrorRecord
  /-- The processor state parameter of the last error, as PALE_CHECK hands it off (R1090, R1110). -/
  psp : Word
  /-- The processor state parameter of the last PALE_INIT hand-off (R1110, R1171). -/
  initPsp : Word
  /-- What the last PALE_INIT or PALE_CHECK hand-off saved (R1110, R1203). -/
  minState : Option MinState
  /-- Errors injected and not yet consumed (R1100). -/
  latent : List Injection
  /-- The outstanding trigger (R1100). -/
  trigger : Option Trigger
  /-- The PAL virtual environment: entered, its options, its physical and virtual base (R1075). -/
  vpEntered : Bool
  vpConfig : Word
  vpPbase : Word
  vpVbase : Word
  /-- The physical base of the virtual environment's buffer that a call has initialised, if any (R1075). -/
  vpBuffer : Option Word
  /-- The registered virtual processors (R1076). -/
  vps : List VirtualProcessor
  /-- The virtual processor that runs, if any (R1077). -/
  vpRun : Option VirtualRun
  /-- The opcode that PAL provides at a virtualization intercept (R1075). -/
  interceptOpcode : Slot
  /-- The cause that PAL provides there under config_options bit 9 (R1075). -/
  interceptCause : Option Word
deriving DecidableEq, Repr

/-- What forward progress needs of the translation caches (R204): the last translation that software installed for each
fault since an instruction last completed with PSR.ic = 1, the latest first, each with the stream it is for (true:
instructions); how often one of them was lost; and whether an `rfi` has followed the latest. -/
structure TcProgress where
  required : List (Bool × TlbEntry)
  losses : Nat
  resumed : Bool
deriving DecidableEq, Repr

/-- Nothing installed. -/
def TcProgress.none : TcProgress := ⟨[], 0, false⟩

/-- The whole machine. -/
structure State where
  ip : Word
  psr : Word
  cfm : Cfm
  /-- GR0 to GR15; index 0 is never written (R51). -/
  grStatic : Vector Gr 16
  /-- GR16 to GR31 of bank 0 (R54). -/
  grBank0 : Vector Gr 16
  /-- GR16 to GR31 of bank 1 (R54). -/
  grBank1 : Vector Gr 16
  /-- The physical stacked registers (R127). -/
  grStacked : Vector Gr Config.nStackPhys
  /-- The physical floating-point registers; indices 0 and 1 are never written (R70). -/
  fr : Vector Fr 128
  /-- The physical predicates; bit 0 is hardwired and read as 1 (R61). -/
  pr : BitVec 64
  br : Vector Word 8
  ar : AppRegs
  cr : CtlRegs
  /-- The in-service indication of each external interrupt vector (R128). -/
  inService : BitVec 256
  rse : RseState
  alat : List AlatEntry
  itr : Vector (Option TlbEntry) Config.nItr
  dtr : Vector (Option TlbEntry) Config.nDtr
  itc : List TlbEntry
  dtc : List TlbEntry
  rr : Vector Word 8
  pkr : Vector Word Config.nPkr
  dbr : Vector Word Config.nDebug
  ibr : Vector Word Config.nDebug
  pmc : Vector Word 256
  pmd : Vector Word 256
  dahr : Vector (BitVec 16) 8
  /-- The data access hint stack, the top level first (R77). -/
  dahs : List (Vector (BitVec 16) 8)
  /-- Memory's listed bytes: addresses strictly rising, none equal to what an unlisted address reads as. -/
  mem : List Host.Cell
  /-- The address of the bundle of the last successfully executed instruction (IIPA's source, R105, R681). -/
  lastIp : Word
  /-- The bundle the current instruction was fetched from (R1120: IIB0-1; R17: `followed_by_stop`). -/
  curBundle : Bundle
  /-- The pending platform management interrupts, one bit for each vector (R128, R1170). -/
  pmiPending : BitVec 16
  /-- A pending initialization interrupt (R128, R1171). -/
  initPending : Bool
  /-- A pending Machine Check for an error that an injection made (R1100, R1128). -/
  checkPending : Bool
  pal : PalState
  /-- THE MODEL'S OWN: what forward progress needs of the translation caches (R204; log entry 19). -/
  progress : TcProgress
  /-- THE MODEL'S OWN: the last instruction completed in this instruction group, so that the next one is not its first
  (R251, R264; log entry 11). -/
  midGroup : Bool
  /-- THE MODEL'S OWN: the counter that free values are drawn at; each step advances it (log entry 6). -/
  fresh : Nat
deriving DecidableEq, Repr

/-- Why the machine stops where no interruption of the architecture is described. -/
inductive Fault where
  /-- `undefined_behavior()` (R14, D51): raised by `itc`, `ptc.g`, `ptc.ga`, `brl`, `rfi` not followed by a stop
  (R264, R560, R566, R676), by `alloc`, `flushrs`, `loadrs` that do not begin a group (R264, U5), by `br.ia` outside its
  mode (R556), by a region or protection key register write or a purge that takes away the translation of the running
  instruction stream (R692, U14). Safe. -/
  | undefinedBehavior
  /-- A Machine Check abort (R1128): raised by inserts, purges and VHPT walks that overlap a translation register (R208,
  R215), whether or not the reference of the walk faults. R1128 lets a model end there. Safe. -/
  | machineCheck
  /-- An access to the processor interrupt block of a form R1166 calls undefined: raised by loads, stores, semaphores,
  fetches, RSE and VHPT references. Safe. -/
  | interruptBlock
deriving DecidableEq, Repr

/-- Why the model has no meaning for what it is asked to run. -/
inductive Refusal where
  /-- An instruction whose meaning has not been written: raised by an arm of `exec`. Safe. -/
  | notModelled (mnemonic : String)
  /-- The next instruction is an IA-32 instruction (PSR.is = 1, D2): raised by `step`. Safe. -/
  | ia32Instruction
deriving DecidableEq, Repr

/-- Every register the start point leaves arbitrary holds 0 (DESIGN CHOICE, log entry 7). -/
def Gr.zero : Gr := ⟨0, false⟩

/-- FR1 holds +1.0, FR0 and, by choice (log entry 7), every other register +0.0 (R70). -/
def Fr.zero : Fr := ⟨false, 0, 0⟩

/-- +1.0 in register format (R70, R922). -/
def Fr.one : Fr := ⟨false, 0xFFFF, 0x8000000000000000⟩

/-- The application registers at the start point (R1200, log entry 7). -/
def AppRegs.reset : AppRegs where
  kr := Vector.replicate 8 0
  rsc := 0
  bsp := 0
  bspstore := 0
  rnat := 0
  fcr := 0
  eflag := 0
  csd := 0
  ssd := 0
  cflg := 0
  fsr := 0
  fir := 0
  fdr := 0
  ccv := 0
  unat := 0
  fpsr := 0x0009804C0270033F
  itc := 0
  ruc := 0
  pfs := 0
  lc := 0
  ec := 0

/-- The control registers at the start point: DCR and TPR 0, ITV, PMV and CMCV masked, the rest by choice (R1200). -/
def CtlRegs.reset : CtlRegs where
  dcr := 0
  itm := 0
  iva := 0
  ito := 0
  pta := 0
  gpta := 0
  ipsr := 0
  isr := 0
  iip := 0
  ifa := 0
  itir := 0
  iipa := 0
  ifs := 0
  iim := 0
  iha := 0
  iib0 := 0
  iib1 := 0
  lid := 0
  tpr := 0
  irr := 0
  itv := 0x10000
  pmv := 0x10000
  cmcv := 0x10000
  lrr0 := 0
  lrr1 := 0

/-- PAL's state at the start point: the default block pointers (R175), P0, performance policy (R1200). -/
def PalState.reset : PalState where
  features := Config.flag (!Config.lintPins) 37 ||| Config.featuresBuilt
  hwPolicy := 0
  pState := 0
  power := .normal
  interruptBlock := 0x00000000FEE00000
  ioBlock := 0x0003FFFFFC000000
  xtp := 0
  pmiEntry := 0
  initEntry := 0
  checkEntry := 0
  xr0 := 0
  errors := []
  psp := 0
  initPsp := 0
  minState := none
  latent := []
  trigger := none
  vpEntered := false
  vpConfig := 0
  vpPbase := 0
  vpVbase := 0
  vpBuffer := none
  vps := []
  vpRun := none
  interceptOpcode := 0
  interceptCause := none

/-- The machine at the start point of R1200: PSR.ic = 1 and PSR.bn = 1, every other PSR bit 0. -/
def State.reset : State where
  ip := 0
  psr := 0x0000100000002000
  cfm := ⟨0, 0, 0, 0, 0, 0⟩
  grStatic := Vector.replicate 16 Gr.zero
  grBank0 := Vector.replicate 16 Gr.zero
  grBank1 := Vector.replicate 16 Gr.zero
  grStacked := Vector.replicate Config.nStackPhys Gr.zero
  fr := (Vector.replicate 128 Fr.zero).set 1 Fr.one
  pr := 1
  br := Vector.replicate 8 0
  ar := AppRegs.reset
  cr := CtlRegs.reset
  inService := 0
  rse := ⟨0, 0, false, 0⟩
  alat := []
  itr := Vector.replicate Config.nItr none
  dtr := Vector.replicate Config.nDtr none
  itc := []
  dtc := []
  rr := Vector.replicate 8 0
  pkr := Vector.replicate Config.nPkr 0
  dbr := Vector.replicate Config.nDebug 0
  ibr := Vector.replicate Config.nDebug 0
  pmc := (Vector.replicate 256 0).set 0 1
  pmd := Vector.replicate 256 0
  dahr := Vector.replicate 8 Config.dahrDefault
  dahs := List.replicate Config.dahsDepth (Vector.replicate 8 Config.dahrDefault)
  mem := []
  lastIp := 0
  curBundle := 0
  pmiPending := 0
  initPending := false
  checkPending := false
  pal := PalState.reset
  progress := TcProgress.none
  midGroup := false
  fresh := 0

end Sys2Proof.Machine
end

