-- ==== Sys2Proof/Machine/Cells.lean ====
section
/-! DEFINITION. Memory in its canonical form and byte order (R120, R150, R151), and what finds the page of an address
(R176, R201): the part of the memory system that the hand-off of an interruption needs. -/

namespace Sys2Proof.Machine

/-! ### Memory as a list of cells -/

namespace Memory

/-- What a byte that the list does not name reads as (DESIGN CHOICE, log entry 8). -/
def unlisted : Byte := 0

/-- The canonical form: addresses strictly rising, no entry equal to what an unlisted address reads as. -/
def wf : List Host.Cell → Bool
  | [] => true
  | [(_, b)] => b != unlisted
  | (a, b) :: (a', b') :: rest => b != unlisted && decide (a < a') && wf ((a', b') :: rest)

/-- The byte at address `x`. -/
def readByte : List Host.Cell → Nat → Byte
  | [], _ => unlisted
  | (a, b) :: rest, x => if x < a then unlisted else if x = a then b else readByte rest x

/-- Memory with the byte at `x` made `v`, in canonical form. -/
def writeByte : List Host.Cell → Nat → Byte → List Host.Cell
  | [], x, v => if v = unlisted then [] else [(x, v)]
  | (a, b) :: rest, x, v =>
    if x < a then if v = unlisted then (a, b) :: rest else (x, v) :: (a, b) :: rest
    else if x = a then
      if v = unlisted then rest.dropWhile (fun c => decide (c.1 ≤ x)) else (x, v) :: rest
    else (a, b) :: writeByte rest x v

/-- `count` bytes from address `x` up. -/
def readBytes (m : List Host.Cell) (x : Nat) : Nat → List Byte
  | 0 => []
  | count + 1 => readByte m x :: readBytes m (x + 1) count

/-- Memory with `bytes` stored from address `x` up. -/
def writeBytes (m : List Host.Cell) (x : Nat) : List Byte → List Host.Cell
  | [] => m
  | b :: rest => writeBytes (writeByte m x b) (x + 1) rest

end Memory

/-- The physical address that a 64-bit address names: bit 63 is the uncacheable attribute (R120). -/
def physAddr (a : Word) : Nat := (fld a 0 63).toNat

/-- The bytes of an `n`-byte value in memory order: the byte at the lowest address first (R150). -/
def orderBytes (be : Bool) (bytes : List Byte) : List Byte := if be then bytes.reverse else bytes

/-- `MemRead(addr, n)` (R12, R150), zero-extended. -/
def State.memRead (s : State) (paddr : Word) (n : Nat) (be : Bool) : Word :=
  ofBytesLE 64 (orderBytes be (Memory.readBytes s.mem (physAddr paddr) n))

/-- `MemWrite(addr, n, v)` (R12, R150). -/
def State.memWrite (s : State) (paddr : Word) (n : Nat) (be : Bool) (v : Word) : State :=
  { s with mem := Memory.writeBytes s.mem (physAddr paddr) (orderBytes be (toBytesLE n v)) }

/-- The byte of memory at a physical address. -/
def State.byteAt (s : State) (a : Nat) : Byte := Memory.readByte s.mem a

/-- `alat_inval_multiple_entries(paddr, size)` (R16): every entry that overlaps the bytes. -/
def State.alatInvalRange (s : State) (paddr : Word) (size : Nat) : State :=
  { s with alat := s.alat.filter (fun e =>
      decide (physAddr e.paddr + e.size ≤ physAddr paddr ∨ physAddr paddr + size ≤ physAddr e.paddr)) }

/-! ### Implemented addresses, regions, pages -/

/-- `unimplemented_virtual_address(va, vm)` (R176): bits 60:m are not all alike, m the most significant bit. -/
def unimplementedVa (va : Word) (vm : Bool) : Bool :=
  let m := if vm then Config.implVaMsb - 1 else Config.implVaMsb
  let top := (fld va 0 61).toNat / 2 ^ m
  top != 0 && top != 2 ^ (61 - m) - 1

/-- `unimplemented_physical_address(pa)` (R176). -/
def unimplementedPa (pa : Word) : Bool := decide (2 ^ (Config.implPaMsb + 1) ≤ physAddr pa)

/-- The virtual region number of an address (R120). -/
def vrn (va : Word) : BitVec 3 := fld va 61 3

/-- The region register that an address selects (R112). -/
def State.region (s : State) (va : Word) : Word := s.rr[(vrn va).toFin]

/-- RR.rid (R112). -/
def rrRid (rr : Word) : BitVec 24 := fld rr 8 24

/-- The 61-bit offset of an entry's page, before alignment. -/
def TlbEntry.base (e : TlbEntry) : BitVec 61 := fld e.vpn 0 49 ++ (0 : BitVec 12)

/-- The match condition of a reference (R201): region id and offset bits 60:ps. -/
def TlbEntry.matches (e : TlbEntry) (rid : BitVec 24) (va : Word) : Bool :=
  e.rid == rid && (e.base >>> e.ps.toNat == fld va 0 61 >>> e.ps.toNat)

/-- The physical address of a hit (R201). -/
def TlbEntry.physical (e : TlbEntry) (va : Word) : Word :=
  let low : Word := BitVec.ofNat 64 (2 ^ e.ps.toNat - 1)
  ((e.ppn.zeroExtend 64 <<< 12) &&& ~~~low) ||| (va &&& low)

/-- A register of `trs` that maps the address. -/
def State.findTr {n : Nat} (s : State) (trs : Vector (Option TlbEntry) n) (va : Word) : Option TlbEntry :=
  trs.toList.reduceOption.find? (fun e => e.matches (rrRid (s.region va)) va)

end Sys2Proof.Machine
end

