-- ==== Sys2Proof/Machine/Ops.lean ====
section
/-! DEFINITION. Named operations over the registers; taking an interruption (R1120), returning from one, and the
completion of an instruction (R1245), each said once. -/

namespace Sys2Proof.Machine

/-! ### The processor status register (R110) -/

namespace Psr
def be : Nat := 1
def up : Nat := 2
def ac : Nat := 3
def mfl : Nat := 4
def mfh : Nat := 5
def ic : Nat := 13
def i : Nat := 14
def pk : Nat := 15
def dt : Nat := 17
def dfl : Nat := 18
def dfh : Nat := 19
def sp : Nat := 20
def pp : Nat := 21
def di : Nat := 22
def si : Nat := 23
def db : Nat := 24
def lp : Nat := 25
def tb : Nat := 26
def rt : Nat := 27
def is : Nat := 34
def mc : Nat := 35
def it : Nat := 36
def id : Nat := 37
def da : Nat := 38
def dd : Nat := 39
def ss : Nat := 40
def ed : Nat := 43
def bn : Nat := 44
def ia : Nat := 45
def vm : Nat := 46
/-- The reserved bits of PSR{23:0}: 0, 12:6, 16 (R110). -/
def reservedSm : BitVec 24 := 0x011FC1
/-- The reserved bits of PSR{31:0}: those of the system mask and 31:28 (R110). -/
def reservedL : BitVec 32 := 0xF0011FC1
/-- The reserved bits of PSR (R110): those of PSR{31:0}, 63:47, and vm where it is not implemented. -/
def reserved : Word := 0xFFFF8000F0011FC1 ||| Config.flag (!Config.implVm) 46
/-- What delivery keeps: up, ac, mfl, mfh, pk, dt, rt, mc, it (R1120). -/
def keptOnEntry : Word := 0x000000180802803C
/-- The single-instruction disables da, dd, id, ia, ed (R1146). -/
def oneShot : Word := 0x000028E000000000
end Psr

/-- One bit of PSR. -/
def State.psrBit (s : State) (k : Nat) : Bool := bit s.psr k

/-- `s` with one bit of PSR written. -/
def State.setPsrBit (s : State) (k : Nat) (b : Bool) : State := { s with psr := setBit s.psr k b }

/-- PSR.cpl (R110): 0 is the most privileged level. -/
def State.cpl (s : State) : BitVec 2 := fld s.psr 32 2

def State.setCpl (s : State) (v : BitVec 2) : State := { s with psr := setFld s.psr 32 v }

/-- PSR.ri (R110): the slot of the next instruction. -/
def State.ri (s : State) : BitVec 2 := fld s.psr 41 2

def State.setRi (s : State) (v : BitVec 2) : State := { s with psr := setFld s.psr 41 v }

/-! ### The current frame marker (R53) -/

/-- CFM, PFS.pfm and IFS.ifm as 38 bits. -/
def Cfm.toBits (c : Cfm) : BitVec 38 :=
  c.rrbPr ++ c.rrbFr ++ c.rrbGr ++ c.sor ++ c.sol ++ c.sof

def Cfm.ofBits (v : BitVec 38) : Cfm :=
  ⟨fld v 0 7, fld v 7 7, fld v 14 4, fld v 18 7, fld v 25 7, fld v 32 6⟩

/-- The frame marker with every field 0. -/
def Cfm.empty : Cfm := ⟨0, 0, 0, 0, 0, 0⟩

/-- `rotate_regs()` (R56). -/
def Cfm.rotate (c : Cfm) : Cfm :=
  { c with
    rrbGr := if c.sor = 0 then c.rrbGr
      else if c.rrbGr = 0 then BitVec.ofNat 7 (8 * c.sor.toNat - 1) else c.rrbGr - 1
    rrbFr := if c.rrbFr = 0 then 95 else c.rrbFr - 1
    rrbPr := if c.rrbPr = 0 then 47 else c.rrbPr - 1 }

/-- The index within the frame that virtual stacked register `32 + v` is renamed to (R53). -/
def Cfm.frameIndex (c : Cfm) (v : Nat) : Nat :=
  if v < 8 * c.sor.toNat then (v + c.rrbGr.toNat) % (8 * c.sor.toNat) else v

/-! ### General registers (R50 to R54) -/

/-- Where operand number `r` lives: GR0, a static register, a bank register, a stacked register, or out of frame. -/
def State.grLoc (s : State) (r : BitVec 7) : GrLoc :=
  let n := r.toNat
  if n = 0 then .zero
  else if n < 16 then .static (Fin.ofNat 16 n)
  else if n < 32 then
    if s.psrBit Psr.bn then .bank1 (Fin.ofNat 16 (n - 16)) else .bank0 (Fin.ofNat 16 (n - 16))
  else if n - 32 < s.cfm.sof.toNat then
    .stacked (Fin.ofNat Config.nStackPhys (s.rse.bof.val + s.cfm.frameIndex (n - 32)))
  else .outOfFrame

/-- Read GR `r`: GR0 is 0 (R51); an out-of-frame register is a free value (R52, D52). -/
def State.gr (s : State) (r : BitVec 7) : Gr :=
  match s.grLoc r with
  | .zero => ⟨0, false⟩
  | .static i => s.grStatic[i]
  | .bank0 i => s.grBank0[i]
  | .bank1 i => s.grBank1[i]
  | .stacked i => s.grStacked[i]
  | .outOfFrame =>
    ⟨Config.freeWord (.outOfFrame r.toNat) s.fresh, Config.freeBit (.outOfFrame r.toNat) s.fresh⟩

/-- Write the register at a home; GR0 and an out-of-frame register hold nothing (R51, R52). -/
def State.setLoc (s : State) (l : GrLoc) (v : Gr) : State :=
  match l with
  | .zero => s
  | .static i => { s with grStatic := s.grStatic.set i v }
  | .bank0 i => { s with grBank0 := s.grBank0.set i v }
  | .bank1 i => { s with grBank1 := s.grBank1.set i v }
  | .stacked i => { s with grStacked := s.grStacked.set i v }
  | .outOfFrame => s

/-- Write value and NaT of GR `r` together (R57). -/
def State.setGr (s : State) (r : BitVec 7) (v : Gr) : State := s.setLoc (s.grLoc r) v

/-- `check_target_register(r1)` (R17) as a truth value: GR0 or an out-of-frame register is no target. -/
def State.badTarget (s : State) (r : BitVec 7) : Bool :=
  match s.grLoc r with
  | .zero | .outOfFrame => true
  | _ => false

/-! ### Predicates, branch and floating-point registers -/

/-- The physical predicate that operand number `p` names (R61). -/
def State.prIndex (s : State) (p : BitVec 6) : Nat :=
  if p.toNat < 16 then p.toNat else 16 + (p.toNat - 16 + s.cfm.rrbPr.toNat) % 48

/-- PR[p]; PR0 is 1 (R61). -/
def State.prBit (s : State) (p : BitVec 6) : Bool :=
  if p = 0 then true else bit s.pr (s.prIndex p)

/-- Write PR[p]; a write of PR0 is discarded (R61). -/
def State.setPr (s : State) (p : BitVec 6) (b : Bool) : State :=
  if p = 0 then s else { s with pr := setBit s.pr (s.prIndex p) b }

def State.brReg (s : State) (b : BitVec 3) : Word := s.br[b.toFin]

def State.setBr (s : State) (b : BitVec 3) (v : Word) : State := { s with br := s.br.set b.toFin v }

/-- The physical register that FR operand number `f` names (R70). -/
def State.frIndex (s : State) (f : BitVec 7) : Fin 128 :=
  if f.toNat < 32 then f.toFin else Fin.ofNat 128 (32 + (f.toNat - 32 + s.cfm.rrbFr.toNat) % 96)

/-- Read FR `f`; FR0 is +0.0 and FR1 is +1.0 (R70). -/
def State.fpr (s : State) (f : BitVec 7) : Fr :=
  if f = 0 then Fr.zero else if f = 1 then Fr.one else s.fr[s.frIndex f]

/-- `fp_update_psr(f1)` (R72): the partition that holds `f` is marked modified. -/
def State.markModified (s : State) (f : BitVec 7) : State :=
  s.setPsrBit (if f.toNat < 32 then Psr.mfl else Psr.mfh) true

/-- Write FR `f` and mark its partition (R72); FR0 and FR1 hold nothing that could be written (R70). -/
def State.setFpr (s : State) (f : BitVec 7) (v : Fr) : State :=
  if f = 0 ∨ f = 1 then s else { s with fr := s.fr.set (s.frIndex f) v }.markModified f

/-! ### The data access hint registers and their stack (R75 to R78) -/

/-- The value of every DAHR that software has not programmed (R76). -/
def dahrDefaults : Vector (BitVec 16) 8 := Vector.replicate 8 Config.dahrDefault

/-- `dahr_push_onto_dahs()` (R77): the bottom level is lost; of a stack without levels the pushed one is. -/
def State.dahrPush (s : State) : State :=
  if !Config.implDahr then s else { s with dahr := dahrDefaults, dahs := (s.dahr :: s.dahs).dropLast }

/-- `dahr_pop_from_dahs()` (R77): the bottom level is the default, and so is what a stack without levels gives. -/
def State.dahrPop (s : State) : State :=
  if !Config.implDahr then s
  else { s with dahr := s.dahs.headD dahrDefaults, dahs := (s.dahs ++ [dahrDefaults]).tail }

/-- `dahr_dahs_revert_to_default()` (R77). -/
def State.dahrRevert (s : State) : State :=
  if !Config.implDahr then s else { s with dahr := dahrDefaults, dahs := s.dahs.map fun _ => dahrDefaults }

/-! ### Interruptions (R1120 to R1125) -/

/-- The vectors of the interruption vector table (R1125). -/
inductive Ivt where
  | vhptTranslation | instructionTlb | dataTlb | alternateInstructionTlb | alternateDataTlb | dataNestedTlb
  | instructionKeyMiss | dataKeyMiss | dirtyBit | instructionAccessBit | dataAccessBit | breakInstruction
  | externalInterrupt | virtualExternalInterrupt | pageNotPresent | keyPermission | instructionAccessRights
  | dataAccessRights | generalException | disabledFpRegister | natConsumption | speculation | debug
  | unalignedReference | unsupportedDataReference | floatingPointFault | floatingPointTrap
  | lowerPrivilegeTransfer | takenBranch | singleStep | virtualization
deriving DecidableEq, Repr

/-- The offset of each vector in the table (R1125). -/
def Ivt.offset : Ivt → BitVec 15
  | .vhptTranslation => 0x0000
  | .instructionTlb => 0x0400
  | .dataTlb => 0x0800
  | .alternateInstructionTlb => 0x0C00
  | .alternateDataTlb => 0x1000
  | .dataNestedTlb => 0x1400
  | .instructionKeyMiss => 0x1800
  | .dataKeyMiss => 0x1C00
  | .dirtyBit => 0x2000
  | .instructionAccessBit => 0x2400
  | .dataAccessBit => 0x2800
  | .breakInstruction => 0x2C00
  | .externalInterrupt => 0x3000
  | .virtualExternalInterrupt => 0x3400
  | .pageNotPresent => 0x5000
  | .keyPermission => 0x5100
  | .instructionAccessRights => 0x5200
  | .dataAccessRights => 0x5300
  | .generalException => 0x5400
  | .disabledFpRegister => 0x5500
  | .natConsumption => 0x5600
  | .speculation => 0x5700
  | .debug => 0x5900
  | .unalignedReference => 0x5A00
  | .unsupportedDataReference => 0x5B00
  | .floatingPointFault => 0x5C00
  | .floatingPointTrap => 0x5D00
  | .lowerPrivilegeTransfer => 0x5E00
  | .takenBranch => 0x5F00
  | .singleStep => 0x6000
  | .virtualization => 0x6100

/-- What kind of interruption it is, for IIB0-1 (R1120): `fetchFault` is a fault whose bundle cannot be read. -/
inductive Kind where
  | fault | fetchFault | trap | interrupt
deriving DecidableEq, Repr

/-- The access that an interruption reports in ISR (R1122). -/
structure Access where
  r : Bool := false
  w : Bool := false
  x : Bool := false
  na : Bool := false
  sp : Bool := false
  rs : Bool := false
  ir : Bool := false
  /-- code{3:0} of a non-access reference (R1122). -/
  naCode : BitVec 4 := 0
deriving DecidableEq, Repr

/-- No memory access. -/
def Access.none : Access := {}

/-- An interruption: its vector, what ISR reports, and the parameter registers it writes (R1122, R1123). -/
structure Interruption where
  kind : Kind := .fault
  vector : Ivt
  code : BitVec 16 := 0
  access : Access := {}
  ed : Bool := false
  /-- ISR.ei where it is not PSR.ri: the slot of a trapping instruction. -/
  ei : Option (BitVec 2) := Option.none
  ifa : Option Word := Option.none
  itir : Option Word := Option.none
  iha : Option Word := Option.none
  iim : Option Word := Option.none
deriving DecidableEq, Repr

/-- ISR as delivery composes it (R1122). ei is PSR.ri where an interruption does not say: for an external interrupt, which
R1122 does not name, it is the interrupted slot (DESIGN CHOICE, log entry 18). -/
def Interruption.isr (i : Interruption) (s : State) : Word :=
  let b (v : Bool) (k : Nat) : Word := if v then BitVec.ofNat 64 (2 ^ k) else 0
  i.code.zeroExtend 64 ||| b i.access.x 32 ||| b i.access.w 33 ||| b i.access.r 34 ||| b i.access.na 35
    ||| b i.access.sp 36 ||| b i.access.rs 37 ||| b i.access.ir 38 ||| b (!s.psrBit Psr.ic) 39
    ||| ((i.ei.getD s.ri).zeroExtend 64 <<< 41) ||| b i.ed 43

/-- PSR after delivery (R1120): `be` and `pp` from DCR, the bits of `keptOnEntry` as they were, every other bit 0. -/
def State.entryPsr (s : State) : Word :=
  setBit (setBit (s.psr &&& Psr.keptOnEntry) Psr.be (bit s.cr.dcr 1)) Psr.pp (bit s.cr.dcr 0)

/-- The address of a vector: IVA{63:15} and the offset (R1120). -/
def State.vectorAddress (s : State) (v : Ivt) : Word := fld s.cr.iva 15 49 ++ v.offset

/-- One half of the bundle at IIP for a fault (R1120); of another interruption the registers are unspecified (R1120, U39),
and of a fault of the fetch whose bundle has no address to be read at they are free too (DESIGN CHOICE, log entry 61). -/
def State.iibWord (s : State) (i : Interruption) (k : Nat) : Word :=
  if i.kind = Kind.fault then fld s.curBundle (64 * k) 64 else Config.freeWord (.iib k) s.fresh

/-- The interruption registers that delivery writes when PSR.ic is 1 (R1120, R1123). -/
def State.collect (s : State) (i : Interruption) : State :=
  { s with
    cr := { s.cr with
      ipsr := s.psr
      iip := s.ip
      iipa := s.lastIp
      ifs := setBit s.cr.ifs 63 false
      ifa := i.ifa.getD s.cr.ifa
      itir := i.itir.getD s.cr.itir
      iha := i.iha.getD s.cr.iha
      iim := i.iim.getD s.cr.iim
      iib0 := if Config.implIib then s.iibWord i 0 else s.cr.iib0
      iib1 := if Config.implIib then s.iibWord i 1 else s.cr.iib1 } }.dahrPush

/-! ### Virtualization intercepts (R1075 to R1080) -/

/-- The intercept handler of the running virtual processor, 0 where it registered none (R1076). -/
def State.interceptHandler (s : State) (run : VirtualRun) : Word :=
  ((s.pal.vps.find? (fun v => v.vpd = run.vpd)).map VirtualProcessor.optHandler).getD 0

/-- A word of the running virtual processor's VPD written by PAL (R1080): in the byte order of the environment, at the
physical address that a data translation register gives. -/
def State.storeVpd (s : State) (run : VirtualRun) (offset : Nat) (v : Word) : State :=
  let va := run.vpd + BitVec.ofNat 64 offset
  match s.findTr s.dtr va with
  | none => s
  | some e => (s.memWrite (e.physical va) 8 (bit s.pal.vpConfig 2) v).alatInvalRange (e.physical va) 8

/-- The predicates as PAL leaves them in the VPD at an intercept hand-off (R1080). -/
def State.storeVpr (s : State) (run : VirtualRun) : State := s.storeVpd run 1432 (s.pr ||| 1)

/-- The opcode in the current slot, which PAL provides at an intercept (R1075). -/
def State.opcode (s : State) : Slot := fld s.curBundle (5 + 41 * s.ri.toNat) 41

/-- PAL's hand-off of a Virtualization fault of the instruction `opcode` while a virtual processor runs, after delivery: to
its intercept handler if it has one (R1076), with the counters disabled under `fr_pmc` (R1075), the predicates in its VPD
(R1080), the opcode and, under config_options bit 9, the cause (R1075; where they stand and how a cause is encoded is not
in the source: fields of PAL's state, the cause a free value; log entry 43). -/
def State.intercept (s : State) (opcode : Slot) : State :=
  match s.pal.vpRun with
  | none => s
  | some run =>
    let t := s.storeVpr run
    let handler := s.interceptHandler run
    let frozen := setBit (setBit t.psr Psr.up false) Psr.pp false
    { t with
      ip := if handler = 0 then t.ip else handler &&& ~~~(15 : Word)
      psr := if bit t.pal.vpConfig 1 then frozen else t.psr
      pal := { t.pal with
        interceptOpcode := opcode
        interceptCause := if bit t.pal.vpConfig 9 then some (Config.freeWord .interceptCause s.fresh) else none } }

/-- The entry of an interruption's handler (R1120). For a trap, `s` is the state after the instruction, its ip and ri
those of the next instruction. RSE.CFLE becomes 0 (DEDUCED, log entry 12). The handler begins an instruction group. -/
def enterHandler (i : Interruption) (s : State) : State :=
  let t := if s.psrBit Psr.ic then s.collect i else s
  { t with
    cr := { t.cr with isr := i.isr s }
    psr := s.entryPsr
    ip := s.vectorAddress i.vector
    rse := { t.rse with cfle := false }
    midGroup := false }

/-- TAKING AN INTERRUPTION (R1120): a Virtualization fault goes through PAL's intercept hand-off (R1076). -/
def deliver (i : Interruption) (s : State) : State :=
  if i.vector = .virtualization then (enterHandler i s).intercept s.opcode else enterHandler i s

/-- The part of `rfi` that restores PSR, IP and the hint registers (R566, R1126): the address and the state with the
interrupted PSR. The frame is restored by the register stack's operation. -/
def State.restorePsr (s : State) : State :=
  let t := { s with psr := s.cr.ipsr }
  if bit s.cr.ipsr Psr.ic then t.dahrPop else t

/-! ### The interruptions that instructions raise by name (section 2 of 60_exceptions.md) -/

def illegalOperation : Interruption := { vector := .generalException }

/-- R1131: the non-access code stands in code{3:0}. -/
def privilegedOperation (a : Access) : Interruption :=
  { vector := .generalException, code := 0x10 ||| a.naCode.zeroExtend 16, access := a }

def privilegedRegister : Interruption := { vector := .generalException, code := 0x20 }

def reservedRegisterField : Interruption := { vector := .generalException, code := 0x30 }

def disabledIsTransition : Interruption := { vector := .generalException, code := 0x40 }

/-- R1135: code bit 0 for the low, bit 1 for the high partition. -/
def disabledFp (code : BitVec 16) : Interruption := { vector := .disabledFpRegister, code := code }

/-- R1136. -/
def natConsumption (a : Access) : Interruption :=
  { vector := .natConsumption, code := 0x10 ||| a.naCode.zeroExtend 16, access := a }

def virtualizationFault : Interruption := { vector := .virtualization }

/-- R1139. -/
def unimplementedData (a : Access) : Interruption :=
  { vector := .generalException, code := Config.isrUnimplData ||| a.naCode.zeroExtend 16, access := a }

/-- R1141: IIM holds the immediate. -/
def breakFault (imm : Word) : Interruption := { vector := .breakInstruction, iim := some imm }

/-! ### Outcomes of a meaning and the completion of an instruction -/

/-- How a meaning ends when its instruction does not complete. -/
inductive Stop where
  /-- A fault at the state the instruction started in. -/
  | interrupt (i : Interruption)
  /-- An interruption at a state in which a part of the instruction (register stack traffic) has been done. -/
  | interruptAt (s : State) (i : Interruption)
  | stuck (f : Fault)
deriving DecidableEq, Repr

/-- Where control goes after a completed instruction. -/
inductive Flow where
  /-- The next slot, or the next bundle after slot 2 (R59). -/
  | sequential
  /-- The next bundle: an L+X pair is over (R59). -/
  | nextBundle
  /-- A taken branch; `lowered` says that it lowered the privilege level (R557). -/
  | branch (target : Word) (lowered : Bool)
  /-- `rfi`: PSR, with the slot, has been loaded (R566). -/
  | returned (target : Word)
deriving DecidableEq, Repr

/-- A completed instruction: its state changes but for ip and slot, where control goes, the ISR.code bits of a
Floating-point Exception trap (R924), IIPA's source where the instruction wrote it (R681), and, for an `rfi` that was
executed with PSR.ss = 1, its slot (R1140). -/
structure Done where
  st : State
  flow : Flow := .sequential
  fpTrap : Option (BitVec 16) := Option.none
  lastIp : Option Word := Option.none
  stepped : Option (BitVec 2) := Option.none
deriving DecidableEq, Repr

/-- What a meaning computes. -/
abbrev Body := Except Stop Done

/-- Raise `i` when `c` holds. -/
def check (c : Bool) (i : Interruption) : Except Stop Unit :=
  if c then .error (.interrupt i) else .ok ()

/-- Stop with a named fault when `c` holds. -/
def stuckIf (c : Bool) (f : Fault) : Except Stop Unit :=
  if c then .error (.stuck f) else .ok ()

/-- `followed_by_stop()` (R17): of the instruction in the current slot; an L+X pair ends with the bundle. -/
def State.followedByStop (s : State) : Bool :=
  let t := bundleTemplate s.curBundle
  stopAfter t (if t == 4 || t == 5 then (if s.ri = 0 then 0 else 2) else s.ri.toNat)

/-- The instruction may have notation f (R264): the first of its group, in slot 0 or after a stop in slot 1. -/
def State.firstInGroup (s : State) : Bool :=
  !s.midGroup && (s.ri == 0 || (s.ri == 1 && stopAfter (bundleTemplate s.curBundle) 0))

/-- IP and slot after an instruction (R59, R1245). -/
def State.goto (s : State) : Flow → State
  | .sequential =>
    if s.ri = 0 then s.setRi 1 else if s.ri = 1 then s.setRi 2 else { s.setRi 0 with ip := s.ip + 16 }
  | .nextBundle => { s.setRi 0 with ip := s.ip + 16 }
  | .branch target _ => { s.setRi 0 with ip := target }
  | .returned target => { s with ip := target }

/-- Pend vector `v` (R1160). -/
def State.pend (s : State) (v : BitVec 8) : State :=
  { s with cr := { s.cr with irr := s.cr.irr ||| (1 <<< v.toNat) } }

/-- The logical processor executes nothing (R130, R1185). -/
def State.halted (s : State) : Bool := s.pal.power == .lightHalt || s.pal.power == .halt

/-- The generic monitors' enable equation (R116); `ch` chooses the halted or the running state. -/
def State.monitorEnabled (s : State) (cfg : Word) : Bool :=
  !bit s.pmc[0] 0 && bit cfg 32 == s.halted && bit (fld cfg 0 4) s.cpl.toNat
    && !(fld cfg 33 2 == 1 && s.psrBit Psr.vm) && !(fld cfg 33 2 == 2 && !s.psrBit Psr.vm)
    && ((!bit cfg 6 && s.psrBit Psr.up) || (bit cfg 6 && s.psrBit Psr.pp))

/-- Generic monitor `k` (4 and up) counts one event, of those it selects, if it is enabled; a carry out of the count sets its
overflow bit, bit `k` of the 256 in PMC0 to PMC3, and, with `oi`, freezes the monitors and pends the vector of PMV (R117,
R118, R1168). -/
def State.countOne (s : State) (k : Fin 256) : State :=
  let cfg := s.pmc[k]
  if s.monitorEnabled cfg then
    let n := fld s.pmd[k] 0 Config.pmdWidth + 1
    let s := { s with pmd := s.pmd.set k (n.zeroExtend 64) }
    if n = 0 then
      let w : Fin 256 := ⟨k.val / 64, Nat.lt_of_le_of_lt (Nat.div_le_self _ _) k.isLt⟩
      let s := { s with pmc := s.pmc.set w (setBit s.pmc[w] (k.val % 64) true) }
      if bit cfg 5 then
        let s := { s with pmc := s.pmc.set 0 (setBit s.pmc[0] 0 true) }
        if bit s.cr.pmv 16 then s else s.pend (fld s.cr.pmv 0 8)
      else s
    else s
  else s

/-- The generic monitors, PMC4 to PMC[IMPL_MAXGENERIC_PMCPMD], that select the event of code `ev` (R115, R116). -/
def State.selecting (s : State) (ev : BitVec 8) : List (Fin 256) :=
  ((List.finRange 256).drop 4).filter fun k => fld s.pmc[k] 8 8 == ev && decide (k.val ≤ Config.maxGeneric)

/-- One event seen by the generic monitors that select it (R115, R1168), the lower-numbered one first: where one overflows and
freezes them, those above it do not count that event. R1168 does not say whether they do (DESIGN CHOICE, log entry 42). Frozen
ones count nothing. -/
def State.countEvent (s : State) (ev : BitVec 8) : State :=
  let u := if bit s.pmc[0] 0 then s else (s.selecting ev).foldl State.countOne s
  { s with pmc := u.pmc, pmd := u.pmd, cr := { s.cr with irr := u.cr.irr } }

/-- The traps of a completed instruction, as ISR.code bits (R1150). -/
def trapCode (s : State) (flow : Flow) (fp : Option (BitVec 16)) : BitVec 16 :=
  let lp : Bool := match flow with | .branch _ lowered => lowered && s.psrBit Psr.lp | _ => false
  let tb : Bool := match flow with | .branch _ _ => s.psrBit Psr.tb | _ => false
  fp.getD 0 ||| (if lp then 2 else 0) ||| (if tb then 4 else 0) ||| (if s.psrBit Psr.ss then 8 else 0)

/-- The vector of the highest-priority trap among those `code` names (R1150). -/
def trapVector (code : BitVec 16) : Ivt :=
  if bit code 0 then .floatingPointTrap
  else if bit code 1 then .lowerPrivilegeTransfer
  else if bit code 2 then .takenBranch
  else .singleStep

/-- The next instruction's address is not implemented, on a processor that reports it by a trap (R1151, D43). -/
def State.trapsUnimplemented (s : State) : Bool :=
  !Config.uiaFault && (if s.psrBit Psr.it then unimplementedVa s.ip (s.psrBit Psr.vm) else unimplementedPa s.ip)

/-- IP as that trap leaves it in IIP under `partially_implemented_ip()` (R1151): sign- or zero-extended. -/
def State.extendIp (s : State) : State :=
  if !Config.partialIp then s
  else
    { s with ip :=
        if s.psrBit Psr.it then (fld s.ip 0 (Config.implVaMsb + 1) : BitVec _).signExtend 64
        else zx (fld s.ip 0 (Config.implPaMsb + 1) : BitVec _) }

/-- The traps after an instruction (R1150): `t` is the state at the next one, `code` the ISR.code bits of the traps that
are due, `slot` the instruction's. The Unimplemented Instruction Address trap is the highest; its code bits are not known
(N93). -/
def takeTraps (code : BitVec 16) (slot : BitVec 2) (t : State) : State :=
  if t.trapsUnimplemented then
    deliver { kind := .trap, vector := .lowerPrivilegeTransfer
              code := code ||| fld (Config.freeWord .uiaCode t.fresh) 0 16, ei := some slot } t.extendIp
  else if code = 0 then t
  else deliver { kind := .trap, vector := trapVector code, code := code, ei := some slot } t

/-- The instruction ends its group (R251): a stop or a taken branch follows. -/
def Flow.endsGroup (s : State) : Flow → Bool
  | .sequential | .nextBundle => s.followedByStop
  | .branch _ _ | .returned _ => true

/-- What the completion of an instruction leaves to forward progress (R204): an `rfi` returns from the fault for which the
latest translation was installed; another instruction, with PSR.ic = 1, is the one for which all were. -/
def TcProgress.completed (p : TcProgress) (flow : Flow) (ic : Bool) : TcProgress :=
  match flow with
  | .returned _ => { p with resumed := true }
  | _ => if ic then .none else p

/-- The completion of an instruction (R1245, R1146, R1150): IIPA's source and the group move on, the single-instruction
disables are cleared, ip and slot move on, the instruction is counted, and its traps are taken. `rfi` loads the disables for
the next instruction; of the traps it can have a Single Step trap alone (R1140; log entry 14). An instruction that changes
PSR is counted under the PSR that it leaves: R1168 does not say under which (DESIGN CHOICE, log entry 42). What forward
progress needed is served once an instruction completes with PSR.ic = 1 (R204). -/
def retire (d : Done) : State :=
  let s := { d.st with
    lastIp := d.lastIp.getD d.st.ip
    midGroup := !d.flow.endsGroup d.st
    progress := d.st.progress.completed d.flow (d.st.psrBit Psr.ic) }
  match d.flow with
  | .returned target =>
    let t := { s with ip := target }.countEvent Config.eventRetired
    takeTraps (if d.stepped.isSome then 8 else 0) (d.stepped.getD 0) t
  | flow =>
    let s := { s with psr := s.psr &&& ~~~Psr.oneShot }
    takeTraps (trapCode s flow d.fpTrap) s.ri ((s.goto flow).countEvent Config.eventRetired)

/-- The outcome of a meaning that started in `s`: completed, or an interruption taken, or stopped. -/
def finish (s : State) : Body → Host.Outcome State Fault Refusal
  | .ok d => .next (retire d)
  | .error (.interrupt i) => .next (deliver i s)
  | .error (.interruptAt t i) => .next (deliver i t)
  | .error (.stuck f) => .fault f

/-- A predicated instruction: with PR[qp] = 0 it only moves on (R60). -/
def predicated (qp : BitVec 6) (s : State) (body : Body) : Host.Outcome State Fault Refusal :=
  finish s (if s.prBit qp then body else .ok { st := s })

/-- A completed instruction that changed the state to `t`. -/
def done (t : State) : Body := .ok { st := t }

/-- A taken branch to `target` with state `t` (R557; an unimplemented target faults at the fetch, R1151). -/
def taken (t : State) (target : Word) (lowered : Bool := false) : Body :=
  .ok { st := t, flow := .branch target lowered }

end Sys2Proof.Machine
end

