-- ==== Sys2Proof/Machine/Memory.lean ====
section
/-! DEFINITION. Memory attributes and access sizes (R151, R235), the processor interrupt block (R1166), and the ALAT (R125,
R16). -/

namespace Sys2Proof.Machine

/-! ### The processor interrupt block (R1166) -/

/-- Memory attributes (R235). -/
def maWb : BitVec 3 := 0
def maUc : BitVec 3 := 4
def maUce : BitVec 3 := 5
def maWc : BitVec 3 := 6
def maNat : BitVec 3 := 7

/-- `ma_is_speculative(mattr)` (R235). -/
def maSpeculative (ma : BitVec 3) : Bool := ma == maWb || ma == maWc || ma == maNat

/-- The offset in the interrupt block, if the address lies in its 2 MB (R175). -/
def State.blockOffset (s : State) (paddr : Word) : Option Nat :=
  let a := physAddr paddr
  let base := physAddr s.pal.interruptBlock
  if base ≤ a ∧ a < base + 0x200000 then some (a - base) else none

/-- An interrupt message for this processor (R1166, R107): what it pends. A PMI message pends PMI vector 0 (R1170). -/
def State.receiveMessage (s : State) (data : Word) : State :=
  let vec : BitVec 8 := fld data 0 8
  match (fld data 8 3).toNat with
  | 0 => if vec = 0 ∨ vec = 2 ∨ 16 ≤ vec.toNat then s.pend vec else s
  | 2 => { s with pmiPending := s.pmiPending ||| 1 }
  | 4 => s.pend 2
  | 5 => { s with initPending := true }
  | 7 => s.pend 0
  | _ => s

/-- An uncacheable attribute (R235). -/
def maUncacheable (ma : BitVec 3) : Bool := ma == maUc || ma == maUce

/-- A load from the interrupt block: the INTA byte, or a form R1166 calls undefined. -/
def State.blockRead (s : State) (off n : Nat) (ma : BitVec 3) : Except Stop Word :=
  if off = 0x1E0000 ∧ n = 1 ∧ maUncacheable ma then
    .ok (fld (Config.freeWord .intaVector s.fresh) 0 8 |>.zeroExtend 64)
  else .error (.stuck .interruptBlock)

/-- A store to the interrupt block: an interrupt message (to another processor: nothing that this core shows), the XTP
byte, or a form R1166 calls undefined. -/
def State.blockWrite (s : State) (off n : Nat) (ma : BitVec 3) (v : Word) : Except Stop State :=
  if off < 0x100000 ∧ n = 8 ∧ maUncacheable ma then
    let target : BitVec 20 := BitVec.ofNat 20 off
    if fld target 12 8 = fld s.cr.lid 24 8 ∧ fld target 4 8 = fld s.cr.lid 16 8 then .ok (s.receiveMessage v)
    else .ok s
  else if off = 0x1E0008 ∧ n = 1 ∧ maUncacheable ma then .ok { s with pal := { s.pal with xtp := fld v 0 8 } }
  else .error (.stuck .interruptBlock)

/-- `mem_read` (R15) of at most 8 bytes. -/
def State.load (s : State) (paddr : Word) (n : Nat) (be : Bool) (ma : BitVec 3) : Except Stop Word :=
  match s.blockOffset paddr with
  | some off => s.blockRead off n ma
  | none => .ok (s.memRead paddr n be)

/-- `mem_write` (R15) of at most 8 bytes. -/
def State.store (s : State) (paddr : Word) (n : Nat) (be : Bool) (ma : BitVec 3) (v : Word) : Except Stop State :=
  match s.blockOffset paddr with
  | some off => s.blockWrite off n ma v
  | none => .ok (s.memWrite paddr n be v)

/-! ### The ALAT (R16, R125) -/

/-- The physical register an operand names, as the ALAT knows it. -/
def State.alatGr (s : State) (r : BitVec 7) : AlatReg := .gr (s.grLoc r)

def State.alatFr (s : State) (f : BitVec 7) : AlatReg := .fr (s.frIndex f)

/-- Feature bit 35 of PAL (R1056): data speculation and the ALAT are disabled. -/
def State.alatDisabled (s : State) : Bool := bit s.pal.features 35

/-- `alat_cmp` (R16): an entry for the register, unless the implementation chooses to miss (a free value). -/
def State.alatCmp (s : State) (r : AlatReg) : Bool :=
  !s.alatDisabled && s.alat.any (fun e => e.reg = r) && !Config.freeBit .alatMiss s.fresh

/-- `alat_inval` (R16). -/
def State.alatInval (s : State) : State := { s with alat := [] }

/-- `alat_inval_single_entry` (R16). -/
def State.alatInvalEntry (s : State) (r : AlatReg) : State :=
  { s with alat := s.alat.filter (fun e => e.reg ≠ r) }

/-- `alat_write` (R16): at most one entry for a register. -/
def State.alatWrite (s : State) (r : AlatReg) (paddr : Word) (size : Nat) : State :=
  { s with alat := ⟨r, paddr, size⟩ :: s.alat.filter (fun e => e.reg ≠ r) }

end Sys2Proof.Machine
end

