-- ==== Sys2Proof/Machine/MachineCheck.lean ====
section
/-! DEFINITION. How the machine meets a hardware error (R1100, R1110, R1128, R1175): the processor state parameter, the log,
what is pended. The only hardware errors of this model are injected ones (log entry 59). -/

namespace Sys2Proof.Machine

/-- A field of a 64-bit word at bit `k`. -/
def fieldAt {n : Nat} (k : Nat) (v : BitVec n) : Word := v.zeroExtend 64 <<< k

/-! ### The processor state parameter (R1110) -/

/-- The fields of the processor state parameter at PALE_CHECK exit (R1110). -/
structure Psp where
  rz : Bool := false
  ra : Bool := false
  me : Bool := false
  mn : Bool := false
  sy : Bool := false
  co : Bool := false
  ci : Bool := false
  us : Bool := false
  hd : Bool := false
  tl : Bool := false
  mi : Bool := false
  pi : Bool := false
  pm : Bool := false
  dy : Bool := false
  init : Bool := false
  rs : Bool := false
  cm : Bool := false
  ex : Bool := false
  /-- Bits 31:20: which register groups are valid (cr, pc, dr, tr, rr, ar, br, pr, fp, b1, b0, gr). -/
  valid : BitVec 12 := 0
  dsize : BitVec 16 := 0
  se : Bool := false
  cc : Bool := false
  tc : Bool := false
  bc : Bool := false
  rc : Bool := false
  uc : Bool := false
deriving DecidableEq, Repr

def Psp.toWord (p : Psp) : Word :=
  Config.flag p.rz 2 ||| Config.flag p.ra 3 ||| Config.flag p.me 4 ||| Config.flag p.mn 5 ||| Config.flag p.sy 6
    ||| Config.flag p.co 7 ||| Config.flag p.ci 8 ||| Config.flag p.us 9 ||| Config.flag p.hd 10
    ||| Config.flag p.tl 11 ||| Config.flag p.mi 12 ||| Config.flag p.pi 13 ||| Config.flag p.pm 14
    ||| Config.flag p.dy 15 ||| Config.flag p.init 16 ||| Config.flag p.rs 17 ||| Config.flag p.cm 18
    ||| Config.flag p.ex 19 ||| fieldAt 20 p.valid ||| fieldAt 32 p.dsize ||| Config.flag p.se 48
    ||| Config.flag p.cc 59 ||| Config.flag p.tc 60 ||| Config.flag p.bc 61 ||| Config.flag p.rc 62
    ||| Config.flag p.uc 63

/-- The implications that R1110 states between the fields; the dynamic state's size is a multiple of 8. -/
def Psp.consistent (p : Psp) : Bool :=
  (!p.co || (!p.us && p.ci)) && (p.ci || (p.us && !p.co && !p.sy)) && (!p.us || (!p.co && !p.sy)) && (!p.pm || p.pi)
    && p.dsize.toNat % 8 == 0

/-- The state parameter for a consumed error of a structure (DESIGN CHOICE, log entry 59): a corrected or recoverable one
is continuable and isolated, a fatal one has left uncontained damage; `distinct` for a second, other error; every register
group and the RSE are valid. sy is 0 of every error, since the table of the combinations of sy, co, ci and us is not in the
source (R1110), and mn is 0, since no rule says how a min-state save area is registered, although the context is saved in
`pal.minState` (both DESIGN CHOICE, log entry 59). -/
def Psp.ofError (severity : BitVec 2) (distinct : Bool) (unit : Fin 40) : Psp where
  me := distinct
  co := severity != 2
  ci := severity != 2
  us := severity == 2
  mi := true
  rs := true
  cm := severity == 0
  valid := BitVec.allOnes 12
  cc := unit.val < 8
  tc := 8 ≤ unit.val && unit.val < 16
  bc := 16 ≤ unit.val && unit.val < 20
  rc := 20 ≤ unit.val && unit.val < 24
  uc := 24 ≤ unit.val

/-- The state parameter of two errors of one Machine Check (R1110): it vouches only for what both leave valid (sy, co, ci,
rs, cm and the register groups), and reports what either did. -/
def Psp.merge (p q : Word) : Word :=
  let vouched : Word := 0x00000000FFF601C0
  (p &&& q &&& vouched) ||| ((p ||| q) &&& ~~~vouched)

/-! ### Meeting an error (R1100, R1128, R1175) -/

/-- The information of kind `k` in a record, where the check word's valid bit says that it exists (R1090, R1091). -/
def ErrorRecord.info (e : ErrorRecord) (k : Nat) : Option Word :=
  match k with
  | 0 => some e.check
  | 1 => if bit e.check 60 then some e.target else none
  | 2 => if bit e.check 61 then some e.requester else none
  | 3 => if bit e.check 62 then some e.responder else none
  | 4 => if bit e.check 63 then some e.ip else none
  | _ => none

/-- The corrected machine check interrupt (R1175): pended at CMCV's vector unless it is masked. -/
def State.pendCorrected (s : State) : State := if bit s.cr.cmcv 16 then s else s.pend (fld s.cr.cmcv 0 8)

/-- Two records of one error: the same structure, and the same valid information. -/
def ErrorRecord.repeats (e f : ErrorRecord) : Bool :=
  e.unit == f.unit && (List.range 5).all fun k => e.info k == f.info k

/-- The record with the privilege level of the bundle that meets the error (R1091: pl, bits 57:56 of every check word). -/
def ErrorRecord.metAt (e : ErrorRecord) (cpl : BitVec 2) : ErrorRecord := { e with check := setFld e.check 56 cpl }

/-- An injected error is met at the current privilege level: it is logged, with its state parameter or, while a Machine Check
is pending, merged into that one's, `me` for an error that does not repeat the last (R1110; log entry 59); a corrected one
pends the corrected machine check interrupt, another a Machine Check. -/
def State.meetError (s : State) (i : Injection) : State :=
  let record := i.record.metAt s.cpl
  let distinct := s.checkPending && s.pal.errors.getLast?.any fun e => !e.repeats record
  let one := (Psp.ofError i.severity distinct record.unit).toWord
  let psp := if s.checkPending then Psp.merge s.pal.psp one else one
  let t := { s with pal := { s.pal with errors := s.pal.errors ++ [record], psp := psp } }
  if i.severity = 0 then t.pendCorrected else { t with checkPending := true }

/-- An injection takes place (R1100): consumed at once, or placed in its structure. -/
def State.placeError (s : State) (i : Injection) : State :=
  if i.consume then s.meetError i else { s with pal := { s.pal with latent := s.pal.latent ++ [i] } }

/-- A program meets the oldest error that was placed (R1100). -/
def State.meetLatent (s : State) : State :=
  match s.pal.latent with
  | [] => s
  | i :: rest => { s with pal := { s.pal with latent := rest } }.meetError i

end Sys2Proof.Machine
end

