-- ==== Sys2Proof/Machine/Tlb.lean ====
section
/-! DEFINITION. Address translation and protection (20_memory.md section 7 on, rules R176, R200 to R238), debug
breakpoints on data (R1138), the triggers of injected errors (R1101), and the TLB's inserts and purges (R214 to R222). -/

namespace Sys2Proof.Machine

/-! ### Implemented addresses and region registers -/

/-- RR.ps and RR.ve (R112). -/
def rrPs (rr : Word) : BitVec 6 := fld rr 2 6
def rrVe (rr : Word) : Bool := bit rr 0

/-- ITIR.ps and ITIR.key (R201). -/
def itirPs (itir : Word) : BitVec 6 := fld itir 2 6
def itirKey (itir : Word) : BitVec 24 := fld itir 8 24

/-- The ITIR that a TLB miss leaves: ps and rid of the region register (R1123). -/
def State.missItir (s : State) (va : Word) : Word :=
  (rrPs (s.region va)).zeroExtend 64 <<< 2 ||| (rrRid (s.region va)).zeroExtend 64 <<< 8

/-! ### TLB entries (R201, R202, R209) -/

/-- The entry that a translation in insertion format makes (R201): of one that is not present, bits 63:1 of the page word
are ignored (R202). -/
def TlbEntry.ofFormat (pte itir va : Word) (rid : BitVec 24) : TlbEntry :=
  let g := if bit pte 0 then pte else 0
  { p := bit g 0
    ma := fld g 2 3
    a := bit g 5
    d := bit g 6
    pl := fld g 7 2
    ar := fld g 9 3
    ppn := fld g 12 38
    ed := bit g 52
    ps := itirPs itir
    key := itirKey itir
    vpn := fld va 12 52
    rid := rid }

/-- Two ranges of the same region overlap (R209): they agree above the larger page size. -/
def TlbEntry.overlaps (e : TlbEntry) (rid : BitVec 24) (va : Word) (ps : BitVec 6) : Bool :=
  let m := max e.ps.toNat ps.toNat
  e.rid == rid && (e.base >>> m == fld va 0 61 >>> m)

/-- The ITIR that a fault on a matching entry leaves: its ps and key (R1123). -/
def TlbEntry.itir (e : TlbEntry) : Word := e.ps.zeroExtend 64 <<< 2 ||| e.key.zeroExtend 64 <<< 8

/-- Reserved fields and encodings of ITIR (R205, R700). -/
def itirReserved (v : Word) : Bool :=
  fld v 0 2 != 0 || fld v 32 32 != 0 || !Config.pageSizes.contains (itirPs v).toNat

/-- `is_reserved_field(TLB_TYPE, pte, itir)` (R205): reserved bits and encodings; a not-present pte is not checked, and
its ITIR only under `impl_check_tlb_itir` (R700). -/
def tlbReserved (pte itir : Word) : Bool :=
  (Config.checkTlbItir || bit pte 0) && itirReserved itir
    || (bit pte 0 && (bit pte 1 || fld pte 50 2 != 0 || (fld pte 2 3 != 0 && !bit pte 4)))

/-- The first matching entry: the translation registers, then the translation cache. -/
def tlbFind {n : Nat} (trs : Vector (Option TlbEntry) n) (tcs : List TlbEntry) (rid : BitVec 24) (va : Word) :
    Option TlbEntry :=
  (trs.toList.reduceOption ++ tcs).find? (fun e => e.matches rid va)

def State.findData (s : State) (va : Word) : Option TlbEntry := tlbFind s.dtr s.dtc (rrRid (s.region va)) va

def State.findInst (s : State) (va : Word) : Option TlbEntry := tlbFind s.itr s.itc (rrRid (s.region va)) va

/-! ### Access rights, keys, breakpoints -/

/-- Page access rights (R236): whether a read, a write, an execute is granted at privilege `cpl`. -/
def rights (ar : BitVec 3) (pl cpl : BitVec 2) : Bool × Bool × Bool :=
  if cpl ≤ pl then
    match ar.toNat with
    | 0 => (true, false, false)
    | 1 => (true, false, true)
    | 2 => (true, true, false)
    | 3 => (true, true, true)
    | 4 => (true, cpl == 0, false)
    | 5 => (true, cpl == 0, true)
    | 6 => (true, true, cpl != 0)
    | _ => (cpl == 0, false, true)
  else (false, false, ar == 7)

/-- `tlb_search_pkr(key)` (R220): the slot of a valid protection key register with the key. -/
def State.searchPkr (s : State) (key : BitVec 24) : Option (Fin Config.nPkr) :=
  (List.finRange Config.nPkr).find? (fun i => bit s.pkr[i] 0 && fld s.pkr[i] 8 24 == key)

/-- One breakpoint pair matches some byte of the access (R1138). -/
def debugPair (addr ctl : Word) (a : Word) (size : Nat) (cpl : BitVec 2) : Bool :=
  let mask : BitVec 56 := fld ctl 0 56
  bit (fld ctl 56 4) cpl.toNat
    && (List.range size).any (fun k => (fld (a + BitVec.ofNat 64 k) 0 56 &&& mask) == (fld addr 0 56 &&& mask))

/-- The two registers of breakpoint pair `k`: the address and, odd-numbered, the mask with its controls (R114). -/
def breakpoint (regs : Vector Word Config.nDebug) (k : Nat) : Word × Word :=
  (regs[2 * k]?.getD 0, regs[2 * k + 1]?.getD 0)

/-- Some pair that `enabled` allows matches a byte of the access (R114, R1138). -/
def breakpointHit (regs : Vector Word Config.nDebug) (enabled : Word → Bool) (a : Word) (size : Nat) (cpl : BitVec 2) :
    Bool :=
  (List.range (Config.nDebug / 2)).any fun k =>
    enabled (breakpoint regs k).2 && debugPair (breakpoint regs k).1 (breakpoint regs k).2 a size cpl

/-- A data breakpoint matches (R114, R1138). -/
def State.dataBreak (s : State) (a : Word) (size : Nat) (acc : Access) (cpl : BitVec 2) : Bool :=
  s.psrBit Psr.db && !s.psrBit Psr.dd &&
    breakpointHit s.dbr (fun ctl => (acc.r && bit ctl 63) || (acc.w && bit ctl 62)) a size cpl

/-- An instruction breakpoint matches the bundle (R114, R1138). -/
def State.instBreak (s : State) (a : Word) : Bool :=
  s.psrBit Psr.db && !s.psrBit Psr.id && breakpointHit s.ibr (fun ctl => bit ctl 63) a 16 s.cpl

/-- The outstanding trigger matches an access of `size` bytes at `a` as an address breakpoint with a full mask would: some
byte of it, in a context of the trigger's privilege level, the PSR.cpl of the access (R1101, R1138; log entry 59). -/
def Trigger.fires (t : Trigger) (data : Bool) (a : Word) (size : Nat) (cpl : BitVec 2) : Bool :=
  t.data == data && t.pl == cpl && debugPair t.address (-1) a size cpl

/-- A memory access that sets the outstanding trigger off (R1100, R1101): the trigger is spent, its error placed or met. -/
def State.meetTrigger (s : State) (data : Bool) (a : Word) (size : Nat) : State :=
  match s.pal.trigger with
  | none => s
  | some t =>
    if t.fires data a size s.cpl then { s with pal := { s.pal with trigger := none } }.placeError t.injection else s

/-! ### The virtual hash page table (R221, R222) -/

/-- `tlb_vhpt_hash` (R221) of an address: the short format by the formula; the long format's index is free but for a
multiple of 32, the size of an entry (DESIGN CHOICE, log entry 21). GPTA, which R104 lists as read by `thash`, has no part
in it: no rule says what it does (DESIGN CHOICE, log entry 21). -/
def State.vhptHash (s : State) (va : Word) : Word :=
  let rr := s.region va
  let size := max (fld s.cr.pta 2 6 : BitVec 6).toNat 15
  let mask : Word := BitVec.ofNat 64 (2 ^ size - 1)
  let base : Word := (fld s.cr.pta 15 46 : BitVec 46).zeroExtend 64 <<< 15
  let index : Word :=
    if bit s.cr.pta 8 then Config.longHash (vrn va) (fld va 0 61) (rrRid rr) (rrPs rr) &&& ~~~(31 : Word)
    else ((fld va 0 61).zeroExtend 64 >>> (rrPs rr).toNat) <<< 3
  let region : Word := if bit s.cr.pta 8 then (fld s.cr.pta 61 3 : BitVec 3).zeroExtend 64 <<< 61
    else (vrn va).zeroExtend 64 <<< 61
  region ||| (base &&& ~~~mask) ||| (index &&& mask)

/-- `tlb_vhpt_tag` (R222): bit 63 is 0. -/
def State.vhptTag (s : State) (va : Word) : Word :=
  setBit (Config.vhptTag (fld va 0 61) (rrRid (s.region va)) (rrPs (s.region va))) 63 false

/-! ### Translation of data references (R210) -/

/-- A data reference: what it reports, its size and alignment, its privilege level, and whether it needs a
write-back page (R166). -/
structure Ref where
  access : Access
  size : Nat
  align : Nat
  pl : BitVec 2
  cacheableOnly : Bool := false
deriving DecidableEq, Repr

/-- A translated reference: physical address, attribute, the reference's own address and size, and the entry the VHPT
walker inserted, if any (R208). -/
structure Translation where
  pa : Word
  ma : BitVec 3
  va : Word
  size : Nat
  walked : Option TlbEntry := none
deriving DecidableEq, Repr

/-- A reference that does not complete: its fault, and the entry the VHPT walker inserted for it all the same (R208). -/
structure Faulted where
  fault : Interruption
  walked : Option TlbEntry := none
deriving DecidableEq, Repr

/-- A data fault with IFA, the access and, where R1123 gives them, ITIR and IHA. -/
def dataFault (v : Ivt) (r : Ref) (va : Word) (code : BitVec 16 := 0) (itir iha : Option Word := none) :
    Interruption :=
  { vector := v, code := code ||| r.access.naCode.zeroExtend 16, access := r.access, ifa := some va, itir, iha }

/-- Checks 6 to 12 of R210 on the matching entry, in order; debug, alignment and support follow in `finalFault`. -/
def State.entryFault (s : State) (e : TlbEntry) (r : Ref) (va : Word) : Option Interruption :=
  let key := s.searchPkr e.key
  let (rOk, wOk, _) := rights e.ar e.pl r.pl
  if !e.p then some (dataFault .pageNotPresent r va (itir := some e.itir))
  else if e.ma = maNat then some (dataFault .natConsumption r va (code := 0x20))
  else if s.psrBit Psr.pk && key.isNone then some (dataFault .dataKeyMiss r va (itir := some e.itir))
  else if s.psrBit Psr.pk && (key.any fun i => (r.access.r && bit s.pkr[i] 2) || (r.access.w && bit s.pkr[i] 1)) then
    some (dataFault .keyPermission r va (itir := some e.itir))
  else if (r.access.r && !rOk) || (r.access.w && !wOk) then
    some (dataFault .dataAccessRights r va (itir := some e.itir))
  else if r.access.w && !e.d && !s.psrBit Psr.da then some (dataFault .dirtyBit r va (itir := some e.itir))
  else if !e.a && !s.psrBit Psr.da then some (dataFault .dataAccessBit r va (itir := some e.itir))
  else none

/-- Checks 13 to 15 of R210; misalignment always faults (R160, D30). A breakpoint's plm is tested at PSR.cpl, whatever the
level of the reference's rights is (R1138). -/
def State.finalFault (s : State) (r : Ref) (va : Word) (ma : BitVec 3) : Option Interruption :=
  if s.dataBreak va r.size r.access s.cpl then some (dataFault .debug r va)
  else if va.toNat % r.align ≠ 0 then some (dataFault .unalignedReference r va)
  else if r.cacheableOnly && ma != maWb then some (dataFault .unsupportedDataReference r va)
  else none

/-- What the VHPT walker finds (R210, R221). -/
inductive Walk where
  /-- The walker's own reference missed or faulted. -/
  | vhptFault
  /-- No entry, or one that cannot be inserted. -/
  | notFound
  | found (e : TlbEntry)
deriving DecidableEq, Repr

/-- The VHPT walker (R200, R221): its reference is a privileged 8-byte read in DCR's byte order, translated by the data
TLB alone; the long format's entry has its ITIR at +8 and its tag at +16 (PRESUMED, log entry 21). An entry of the short
format, which is the page entry alone, has the page size and the key of the region register, as a miss's ITIR has (R1123); a
reference to the interrupt block, which R1166 leaves undefined, ends in the VHPT Translation fault (both DESIGN CHOICE, log
entry 21). -/
def State.walkVhpt (s : State) (va : Word) : Walk :=
  let addr := s.vhptHash va
  let be := bit s.cr.dcr 1
  let r : Ref := { access := { r := true }, size := 8, align := 8, pl := 0 }
  match s.findData addr with
  | none => .vhptFault
  | some e =>
    if unimplementedVa addr (s.psrBit Psr.vm) || (s.entryFault e r addr).isSome || e.ma != maWb
        || (s.blockOffset (e.physical addr)).isSome then .vhptFault
    else
      let pa := e.physical addr
      let pte := s.memRead pa 8 be
      let itir := if bit s.cr.pta 8 then s.memRead (pa + 8) 8 be else s.missItir va
      let tagOk := !bit s.cr.pta 8 || s.memRead (pa + 16) 8 be == s.vhptTag va
      if !tagOk || tlbReserved pte itir then .notFound
      else .found (TlbEntry.ofFormat pte itir va (rrRid (s.region va)))

/-- The entry for a data reference: a TLB hit, or what the walker inserts, or the miss's fault (R210 checks 2 to 5;
R1124: with PSR.ic = 0 a failed lookup is the Data Nested TLB fault). R200 names PSR.dt for data references and PSR.it for
fetches: the walker asks PSR.dt for every data reference, also for one of the RSE, which PSR.rt translates (DESIGN CHOICE,
log entry 21). -/
def State.dataEntry (s : State) (va : Word) (r : Ref) : Except Interruption (TlbEntry × Option TlbEntry) :=
  match s.findData va with
  | some e => .ok (e, none)
  | none =>
    let enabled := bit s.cr.pta 0 && rrVe (s.region va) && s.psrBit Psr.dt
    let walk := if enabled then s.walkVhpt va else .notFound
    match walk with
    | .found e => .ok (e, some e)
    | _ =>
      if !s.psrBit Psr.ic then .error { vector := .dataNestedTlb, access := r.access, code := r.access.naCode.zeroExtend 16 }
      else if !enabled then .error (dataFault .alternateDataTlb r va (itir := some (s.missItir va)))
      else if walk = .vhptFault then
        .error (dataFault .vhptTranslation r va (itir := some (s.missItir va)) (iha := some (s.vhptHash va)))
      else .error (dataFault .dataTlb r va (itir := some (s.missItir va)) (iha := some (s.vhptHash va)))

/-- `tlb_translate` (R210): the translated address, or the first fault; `on` is the PSR bit that governs the
reference. With translation off the attribute is bit 63. -/
def State.translate (s : State) (on : Bool) (va : Word) (r : Ref) : Except Faulted Translation :=
  if on then
    if unimplementedVa va (s.psrBit Psr.vm) then .error ⟨unimplementedData r.access, none⟩
    else
      match s.dataEntry va r with
      | .error i => .error ⟨i, none⟩
      | .ok (e, walked) =>
        match s.entryFault e r va with
        | some i => .error ⟨i, walked⟩
        | none =>
          match s.finalFault r va e.ma with
          | some i => .error ⟨i, walked⟩
          | none => .ok ⟨e.physical va, e.ma, va, r.size, walked⟩
  else if unimplementedPa va then .error ⟨unimplementedData r.access, none⟩
  else
    let ma := if bit va 63 then maUc else maWb
    match s.finalFault r va ma with
    | some i => .error ⟨i, none⟩
    | none => .ok ⟨va, ma, va, r.size, none⟩

/-- `tlb_translate_nonaccess` (R211): for `fc` (access rights are checked) and `tpa`. With PSR.dt = 0, of which R211 and
R697 say nothing, the address is untranslated as for a data reference (R210), and the TLB is not searched (DESIGN CHOICE,
log entry 53). -/
def State.translateNonaccess (s : State) (va : Word) (acc : Access) (fc : Bool) : Except Faulted Translation :=
  let r : Ref := { access := acc, size := 1, align := 1, pl := s.cpl }
  if s.psrBit Psr.dt then
    if unimplementedVa va (s.psrBit Psr.vm) then .error ⟨unimplementedData acc, none⟩
    else
      match s.dataEntry va r with
      | .error i => .error ⟨i, none⟩
      | .ok (e, walked) =>
        if !e.p then .error ⟨dataFault .pageNotPresent r va (itir := some e.itir), walked⟩
        else if e.ma = maNat then .error ⟨dataFault .natConsumption r va (code := 0x20), walked⟩
        else if fc && !(rights e.ar e.pl s.cpl).1 then
          .error ⟨dataFault .dataAccessRights r va (itir := some e.itir), walked⟩
        else .ok ⟨e.physical va, e.ma, va, 1, walked⟩
  else if unimplementedPa va then .error ⟨unimplementedData acc, none⟩
  else .ok ⟨va, if bit va 63 then maUc else maWb, va, 1, none⟩

/-- `tlb_grant_permission` (R212): whether `probe` finds the access granted; an unimplemented address grants nothing
(DEDUCED, log entry 22). -/
def State.grantPermission (s : State) (va : Word) (acc : Access) (pl : BitVec 2) :
    Except Faulted (Bool × Option TlbEntry) :=
  let r : Ref := { access := acc, size := 1, align := 1, pl }
  if s.psrBit Psr.dt then
    if unimplementedVa va (s.psrBit Psr.vm) then .ok (false, none)
    else
      match s.dataEntry va r with
      | .error i => .error ⟨i, none⟩
      | .ok (e, walked) =>
        let key := s.searchPkr e.key
        if !e.p then .error ⟨dataFault .pageNotPresent r va (itir := some e.itir), walked⟩
        else if e.ma = maNat then .error ⟨dataFault .natConsumption r va (code := 0x20), walked⟩
        else if s.psrBit Psr.pk && key.isNone then
          .error ⟨dataFault .dataKeyMiss r va (itir := some e.itir), walked⟩
        else
          let (rOk, wOk, _) := rights e.ar e.pl pl
          let denied := s.psrBit Psr.pk &&
            (key.any fun i => (acc.r && bit s.pkr[i] 2) || (acc.w && bit s.pkr[i] 1))
          .ok ((!acc.r || rOk) && (!acc.w || wOk) && !denied, walked)
  else .ok (!unimplementedPa va, none)

/-- `tlb_access_key` (R213). -/
def State.accessKey (s : State) (va : Word) : Word :=
  if unimplementedVa va (s.psrBit Psr.vm) then 1
  else match s.findData va with
    | some e => if e.p then e.key.zeroExtend 64 <<< 8 else 1
    | none => 1

/-! ### Inserts and purges (R214 to R219) -/

/-- The entries of a translation cache that do not overlap a range. -/
def purgeTc (tc : List TlbEntry) (rid : BitVec 24) (va : Word) (ps : BitVec 6) : List TlbEntry :=
  tc.filter (fun e => !e.overlaps rid va ps)

/-- Some translation register overlaps a range. -/
def trOverlap {n : Nat} (trs : Vector (Option TlbEntry) n) (rid : BitVec 24) (va : Word) (ps : BitVec 6) : Bool :=
  trs.toList.any (fun o => o.any fun e => e.overlaps rid va ps)

/-- Some translation register of a stream overlaps a range. -/
def State.overlapsTr (s : State) (inst : Bool) (rid : BitVec 24) (va : Word) (ps : BitVec 6) : Bool :=
  if inst then trOverlap s.itr rid va ps else trOverlap s.dtr rid va ps

/-- The translation registers without those that overlap a range. -/
def purgeTr {n : Nat} (trs : Vector (Option TlbEntry) n) (rid : BitVec 24) (va : Word) (ps : BitVec 6) :
    Vector (Option TlbEntry) n :=
  trs.map (fun o => o.filter fun e => !e.overlaps rid va ps)

/-- A translation cache of `n` entries with a new one. Of the entries for which there is no room the oldest go; any may have
gone before (R203), so that every replacement algorithm is one that the model allows (R9). -/
def fillTc (n : Nat) (e : TlbEntry) (tc : List TlbEntry) : List TlbEntry := (e :: tc).take n

/-- What the VHPT walker inserted joins the data TC, its overlapping entries purged (R208). -/
def State.keepWalk (s : State) : Option TlbEntry → State
  | none => s
  | some e => { s with dtc := fillTc Config.nDtc e (purgeTc s.dtc e.rid (e.base.zeroExtend 64) e.ps) }

/-- The same for an instruction reference. -/
def State.keepInstWalk (s : State) : Option TlbEntry → State
  | none => s
  | some e => { s with itc := fillTc Config.nItc e (purgeTc s.itc e.rid (e.base.zeroExtend 64) e.ps) }

/-- A VHPT walker's insert that overlaps a translation register of its stream is a Machine Check (R208, R1128). -/
def State.checkWalk (s : State) (inst : Bool) (w : Option TlbEntry) : Except Stop Unit :=
  stuckIf (w.any fun e => s.overlapsTr inst e.rid (e.base.zeroExtend 64) e.ps) .machineCheck

/-- What a data reference that completes leaves: what the walker inserted, and the outstanding trigger met (R208, R1101). -/
def State.touch (s : State) (a : Translation) : State := (s.keepWalk a.walked).meetTrigger true a.va a.size

/-- How a data reference that faults ends (R208, R210): with the fault, what the walker inserted kept, unless that insert is
a Machine Check. -/
def State.faulted {α : Type} (s : State) (x : Faulted) : Except Stop α := do
  s.checkWalk false x.walked
  .error (.interruptAt (s.keepWalk x.walked) x.fault)

/-- A data reference whose fault is raised (R208, R210); `on` is the PSR bit that governs it. -/
def State.dataReference (s : State) (on : Bool) (va : Word) (r : Ref) : Except Stop Translation :=
  match s.translate on va r with
  | .error x => s.faulted x
  | .ok a => do
    s.checkWalk false a.walked
    .ok a

/-- Software has installed a translation (R204): until an `rfi` it is the one that the fault in hand needs. -/
def TcProgress.install (p : TcProgress) (inst : Bool) (e : TlbEntry) : TcProgress where
  required := (inst, e) :: (if p.resumed then p.required else p.required.drop 1).filter (fun x => x ≠ (inst, e))
  losses := p.losses
  resumed := false

/-- `itc.i` and `itc.d` after their checks (R676): an overlap with a translation register of the same stream is a
Machine Check (R208, R1128). -/
def State.insertTc (s : State) (inst : Bool) (e : TlbEntry) : Except Stop State :=
  let va : Word := e.base.zeroExtend 64
  let progress := s.progress.install inst e
  if s.overlapsTr inst e.rid va e.ps then .error (.stuck .machineCheck)
  else if inst then .ok { s with itc := fillTc Config.nItc e (purgeTc s.itc e.rid va e.ps), progress := progress }
  else .ok { s with dtc := fillTc Config.nDtc e (purgeTc s.dtc e.rid va e.ps), progress := progress }

/-- `itr.i` and `itr.d` after their checks (R677): an overlap with another register of the stream is a Machine Check. The
slot's own old translation is replaced, overlapping or not, and stays as a TC entry where R677 lets it (DESIGN CHOICE, log
entry 54). -/
def State.insertTr (s : State) (inst : Bool) (slot : Nat) (e : TlbEntry) : Except Stop State :=
  let va : Word := e.base.zeroExtend 64
  if inst then
    let k := Fin.ofNat Config.nItr slot
    if trOverlap (s.itr.set k none) e.rid va e.ps then .error (.stuck .machineCheck)
    else
      .ok { s with
        itr := s.itr.set k (some e), itc := (purgeTc (s.itr[k].toList ++ s.itc) e.rid va e.ps).take Config.nItc }
  else
    let k := Fin.ofNat Config.nDtr slot
    if trOverlap (s.dtr.set k none) e.rid va e.ps then .error (.stuck .machineCheck)
    else
      .ok { s with
        dtr := s.dtr.set k (some e), dtc := (purgeTc (s.dtr[k].toList ++ s.dtc) e.rid va e.ps).take Config.nDtc }

/-- The local part of `ptc.l`, `ptc.g`, `ptc.ga` (R710, R215): an overlap with a TR is a Machine Check. -/
def State.purgeLocal (s : State) (va : Word) (ps : BitVec 6) : Except Stop State :=
  let rid := rrRid (s.region va)
  if trOverlap s.itr rid va ps || trOverlap s.dtr rid va ps then .error (.stuck .machineCheck)
  else .ok { s with itc := purgeTc s.itc rid va ps, dtc := purgeTc s.dtc rid va ps }

/-- `ptc.e` (R713): every local TC entry goes. -/
def State.purgeCaches (s : State) : State := { s with itc := [], dtc := [] }

/-- `ptr.d` and `ptr.i` (R714, R715). -/
def State.purgeTrs (s : State) (inst : Bool) (va : Word) (ps : BitVec 6) : State :=
  let rid := rrRid (s.region va)
  if inst then { s with itr := purgeTr s.itr rid va ps, itc := purgeTc s.itc rid va ps }
  else { s with dtr := purgeTr s.dtr rid va ps, dtc := purgeTc s.dtc rid va ps }

end Sys2Proof.Machine
end

