-- ==== Sys2Proof/Machine/Rse.lean ====
section
/-! DEFINITION. The register stack engine (R127, R135 to R139). It is lazy: it moves registers only when it must
(D34). The partitions follow from three addresses: `[bspstore, bsp)` is dirty, `[bspLoad, bspstore)` is clean, what
lies below is invalid; `bspstore > bsp` says that the current frame is incomplete, its registers from `bsp` up to
`bspstore` still to be loaded (DEDUCED, log entry 16). -/

namespace Sys2Proof.Machine

/-! ### Backing store addresses -/

/-- The slot of a backing store address in its 64-slot group: address bits 8:3 (R127). -/
def bsSlot (a : Word) : Nat := (fld a 3 6 : BitVec 6).toNat

/-- The address of the NaT collection of the 64-slot group that `a` lies in (R127). -/
def collectionOf (a : Word) : Word := a ||| 0x1F8

/-- A NaT collection slot (R127). -/
def isCollection (a : Word) : Bool := bsSlot a == 63

/-- `a` lies below `b` in the backing store (addresses wrap). -/
def bsBelow (a b : Word) : Bool := (a - b).msb

/-- The registers with a place in `[a, b)`. -/
def regsBetween (a b : Word) : Nat :=
  let n := ((b - a) >>> 3).toNat
  n - (bsSlot a + n) / 64

/-- The address `n` registers above `a`, the NaT collections between counted in (R138): never that of a collection. -/
def bsGrow (a : Word) (n : Nat) : Word := a + BitVec.ofNat 64 (8 * (n + (bsSlot a + n) / 63))

/-- The address `n` registers below `a`, the NaT collections between counted in (R139). -/
def bsShrink (a : Word) (n : Nat) : Word :=
  if n = 0 then a else a - BitVec.ofNat 64 (8 * (n + (62 + n - bsSlot a) / 63))

/-! ### Partitions (R127) -/

/-- RSE.ndirty. -/
def State.ndirty (s : State) : Nat :=
  if bsBelow s.ar.bspstore s.ar.bsp then regsBetween s.ar.bspstore s.ar.bsp else 0

/-- The next load and the next store lie in one group, whose collection is then still open: the dispersal register has the
bits of the group that is next to be loaded from (R136; log entry 16). -/
def State.loadsOpenGroup (s : State) : Bool := collectionOf (s.rse.bspLoad - 8) == collectionOf s.ar.bspstore

/-- RSE.nclean. -/
def State.nclean (s : State) : Nat := regsBetween s.rse.bspLoad s.ar.bspstore

/-- The physical register whose backing store place is `a` (RSE.StoreReg and RSE.LoadReg are such registers). -/
def State.physAt (s : State) (a : Word) : Fin Config.nStackPhys :=
  if bsBelow a s.ar.bsp then
    Fin.ofNat Config.nStackPhys (s.rse.bof.val + Config.nStackPhys * 2 ^ 61 - regsBetween a s.ar.bsp)
  else Fin.ofNat Config.nStackPhys (s.rse.bof.val + regsBetween s.ar.bsp a)

/-! ### RSC (R88) -/

def State.rscMode (s : State) : BitVec 2 := fld s.ar.rsc 0 2
def State.rscPl (s : State) : BitVec 2 := fld s.ar.rsc 2 2
def State.rscBe (s : State) : Bool := bit s.ar.rsc 4
def State.rscLoadrs (s : State) : BitVec 14 := fld s.ar.rsc 16 14

/-- A mandatory RSE reference (R137, R1122): 8 bytes at privilege RSC.pl, marked rs, and ir for the current frame. -/
def State.rseRef (s : State) (w ir : Bool) : Ref :=
  { access := { r := !w, w, rs := true, ir }, size := 8, align := 8, pl := s.rscPl }

/-! ### One store, one load -/

/-- The translation of a mandatory reference (R137, R1122): its fault is taken with the traffic done so far. -/
def State.translateRse (s : State) (a : Word) (r : Ref) : Except Stop Translation :=
  s.dataReference (s.psrBit Psr.rt) a r

/-- `rse_store(MANDATORY)` (R137). A register's NaT bit serves a later load of its group too (log entry 16). -/
def State.rseStore (s : State) : Except Stop State := do
  let a := s.ar.bspstore
  let t ← s.translateRse a (s.rseRef true false)
  if isCollection a then
    let u ← s.store t.pa 8 s.rscBe t.ma s.ar.rnat
    .ok { (u.touch t).alatInvalRange t.pa 8 with
          ar := { u.ar with bspstore := a + 8 } }
  else
    let g := s.grStacked[s.physAt a]
    let u ← s.store t.pa 8 s.rscBe t.ma g.val
    .ok { (u.touch t).alatInvalRange t.pa 8 with
          ar := { u.ar with bspstore := a + 8, rnat := setBit u.ar.rnat (bsSlot a) g.nat }
          rse := { u.rse with
            dispersal := if s.loadsOpenGroup then setBit u.rse.dispersal (bsSlot a) g.nat else u.rse.dispersal } }

/-- `rse_load(MANDATORY)` (R136): into the current frame if RSE.CFLE is 1 (the store pointer then follows the load
pointer down, log entry 16), else into the clean partition. A collection goes to the dispersal register, its bit 63
ignored (R88); with RSE.CFLE = 1 it goes to AR[RNAT] too, so that later stores complete it (DESIGN CHOICE, log entry 16:
R136 names the dispersal register alone, which "may not be the same as AR[RNAT]"). -/
def State.rseLoad (s : State) : Except Stop State := do
  let a := s.rse.bspLoad - 8
  let t ← s.translateRse a (s.rseRef false s.rse.cfle)
  let v ← s.load t.pa 8 s.rscBe t.ma
  let u := s.touch t
  let store := if s.rse.cfle then a else s.ar.bspstore
  if isCollection a then
    let bits := setBit v 63 false
    .ok { u with
      ar := { u.ar with bspstore := store, rnat := if s.rse.cfle then bits else s.ar.rnat }
      rse := { u.rse with bspLoad := a, dispersal := bits } }
  else
    .ok { u with
      grStacked := u.grStacked.set (s.physAt a) ⟨v, bit s.rse.dispersal (bsSlot a)⟩
      ar := { u.ar with bspstore := store }
      rse := { u.rse with bspLoad := a } }

/-- Mandatory stores until at most `limit` registers are dirty; `fuel` bounds the stores (a dirty partition of all
registers and its collections). -/
def State.storeUntil (limit : Nat) : Nat → State → Except Stop State
  | 0, s => .ok s
  | fuel + 1, s => if s.ndirty ≤ limit then .ok s else do storeUntil limit fuel (← s.rseStore)

/-- Mandatory stores until the store pointer is BSP (R705). -/
def State.flushDirty : Nat → State → Except Stop State
  | 0, s => .ok s
  | fuel + 1, s => if bsBelow s.ar.bspstore s.ar.bsp then do flushDirty fuel (← s.rseStore) else .ok s

/-- Mandatory loads until the load pointer is at or below `target`. -/
def State.loadUntil (target : Word) : Nat → State → Except Stop State
  | 0, s => .ok s
  | fuel + 1, s => if bsBelow target s.rse.bspLoad then do loadUntil target fuel (← s.rseLoad) else .ok s

/-- More stores or loads than this no partition needs. -/
def rseFuel : Nat := Config.nStackPhys + 32

/-! ### Frames -/

/-- `alat_frame_update` (R16): only entries of registers that are dirty or in the frame remain. R16 says no more than that the
ALAT is told of the change: that the others go, and that an entry of a register which newly enters the frame stays, is the
model's (DESIGN CHOICE, log entry 20). -/
def State.alatPrune (s : State) : State :=
  let live (i : Fin Config.nStackPhys) : Bool :=
    decide ((i.val + Config.nStackPhys - s.rse.bof.val) % Config.nStackPhys < s.cfm.sof.toNat) ||
      decide ((s.rse.bof.val + Config.nStackPhys - 1 - i.val) % Config.nStackPhys < s.ndirty)
  { s with alat := s.alat.filter (fun e => match e.reg with | .gr (.stacked i) => live i | _ => true) }

/-- The stacked registers with those at frame indices `[old, new)` undefined (R829, D52). -/
def State.undefineRegs (s : State) (old new : Nat) : State :=
  { s with grStacked := Vector.ofFn fun i =>
      let k := (i.val + Config.nStackPhys - s.rse.bof.val) % Config.nStackPhys
      if old ≤ k ∧ k < new then
        ⟨Config.freeWord (.newFrame i.val) s.fresh, Config.freeBit (.newFrame i.val) s.fresh⟩
      else s.grStacked[i] }

/-- The clean partition becomes invalid: the next load is that of the word below the store pointer, whose group AR[RNAT]
collects (R88, R127). -/
def State.dropClean (s : State) : State :=
  { s with rse := { s.rse with
      bspLoad := s.ar.bspstore, dispersal := if s.loadsOpenGroup then s.rse.dispersal else s.ar.rnat } }

/-- No clean register is kept where the frame needs its room (R138). -/
def State.makeRoom (s : State) (sof : Nat) : State :=
  if sof + s.ndirty + s.nclean ≤ Config.nStackPhys then s else s.dropClean

/-- `rse_new_frame(current, new)` (R138): mandatory stores make room; new registers are undefined. -/
def State.rseNewFrame (s : State) (new : BitVec 7) : Except Stop State := do
  let t ← s.storeUntil (Config.nStackPhys - new.toNat) rseFuel
  .ok ((t.makeRoom new.toNat).undefineRegs s.cfm.sof.toNat new.toNat)

/-- `rse_preserve_frame(n)` (R138). -/
def State.rsePreserveFrame (s : State) (n : Nat) : State :=
  { s with
    ar := { s.ar with bsp := bsGrow s.ar.bsp n }
    rse := { s.rse with bof := Fin.ofNat Config.nStackPhys (s.rse.bof.val + n) } }

/-- AR[RNAT] once the store pointer has come down to `a` past a collection that stays stored (R88: the NaT bits of the
registers of the group below `a`): a register's own bit where it is in the register file, else the dispersal register's,
which has those of the group that is next to be loaded from. The other bits stay (log entry 16). -/
def State.reopened (s : State) (a : Word) : Word :=
  (List.range (bsSlot a)).foldl (fun w k =>
    let x := (a &&& ~~~(0x1FF : Word)) + BitVec.ofNat 64 (8 * k)
    setBit w k (if bsBelow x s.rse.bspLoad then bit s.rse.dispersal k else s.grStacked[s.physAt x].nat)) s.ar.rnat

/-- `rse_restore_frame` (R139) without its result: renaming and BSP move down by `n` registers; clean registers that
enter the frame are in it, the rest is to be loaded. -/
def State.rseRestoreFrame (s : State) (n : Nat) : State :=
  let bsp := bsShrink s.ar.bsp n
  let store :=
    if bsBelow bsp s.ar.bspstore then (if bsBelow bsp s.rse.bspLoad then s.rse.bspLoad else bsp)
    else s.ar.bspstore
  { s with
    ar := { s.ar with
      bsp := bsp
      bspstore := store
      rnat := if collectionOf store == collectionOf s.ar.bspstore then s.ar.rnat else s.reopened store }
    rse := { s.rse with
      bof := Fin.ofNat Config.nStackPhys (s.rse.bof.val + Config.nStackPhys - n % Config.nStackPhys) } }

/-- The result of `rse_restore_frame` (R139): the frame grows beyond the invalid and clean registers. -/
def State.restoreFatal (s : State) (sol sof : Nat) : Bool :=
  decide (s.cfm.sof.toNat + (Config.nStackPhys - s.cfm.sof.toNat - s.ndirty) + sol < sof)

/-- The frame that a bad PFS leaves (R558): empty, with nothing to load. -/
def State.rseEmptyFrame (s : State) : State :=
  { s with
    cfm := Cfm.empty
    ar := { s.ar with bspstore := if bsBelow s.ar.bsp s.ar.bspstore then s.ar.bsp else s.ar.bspstore }
    rse := { s.rse with bspLoad := if bsBelow s.ar.bsp s.rse.bspLoad then s.ar.bsp else s.rse.bspLoad } }

/-- `rse_enable_current_frame_load()` (R135). -/
def State.enableFrameLoad (s : State) : State :=
  if bsBelow s.ar.bsp s.rse.bspLoad then { s with rse := { s.rse with cfle := true } } else s

/-- The frame that `br.ret` and `rfi` restore (R558, R566): `c` becomes the frame marker, `below` registers under the
current frame come back, registers above what was the current frame are undefined; a bad `c` leaves an empty frame. -/
def State.returnFrame (s : State) (c : Cfm) (below : Nat) : State :=
  let t := s.rseRestoreFrame below
  let u :=
    if s.restoreFatal below c.sof.toNat then t.rseEmptyFrame
    else ({ t with cfm := c }.makeRoom c.sof.toNat).undefineRegs (below + s.cfm.sof.toNat) c.sof.toNat
  u.alatPrune.enableFrameLoad

/-- The frame of a callee or of a handler after `cover` (R552, R564): the lowest `n` registers are preserved. -/
def State.leaveFrame (s : State) (n : Nat) (c : Cfm) : State :=
  { s.rsePreserveFrame n with cfm := c }.alatPrune

/-- The mandatory loads of the current frame, before the next instruction (R135, R558). -/
def State.completeFrame (s : State) : Except Stop State :=
  if s.rse.cfle then do
    let t ← s.loadUntil s.ar.bsp rseFuel
    .ok { t with rse := { t.rse with cfle := false } }
  else .ok s

/-- A frame marker that a frame can have (R53, R829). -/
def Cfm.wf (c : Cfm) : Bool :=
  decide (c.sof.toNat ≤ 96 ∧ c.sol.toNat ≤ c.sof.toNat ∧ 8 * c.sor.toNat ≤ c.sof.toNat
    ∧ (c.rrbGr = 0 ∨ c.rrbGr.toNat < 8 * c.sor.toNat) ∧ c.rrbFr.toNat < 96 ∧ c.rrbPr.toNat < 48)

/-- `rse_invalidate_non_current_regs()` (R135): the dirty and the clean partition are empty. -/
def State.invalidateNonCurrent (s : State) : State :=
  ({ s with ar := { s.ar with bspstore := s.ar.bsp } } : State).dropClean

/-- `flushrs` (R705). -/
def State.flushRse (s : State) : Except Stop State := s.flushDirty rseFuel

/-- `loadrs` (R706): `rse_ensure_regs_loaded(RSC.loadrs)`; AR[RNAT] is then undefined. More registers than fit beside
the frame are an Illegal Operation (R135; the frame's share DEDUCED, log entry 17). An RSC.loadrs that is no multiple of 8, of
which R706 does not speak, loads the register that holds its last bytes whole (DESIGN CHOICE, log entry 17). -/
def State.ensureLoaded (s : State) : Except Stop State := do
  let target := (s.ar.bsp - s.rscLoadrs.zeroExtend 64) &&& ~~~(7 : Word)
  check (decide (Config.nStackPhys < s.cfm.sof.toNat + regsBetween target s.ar.bsp)) illegalOperation
  let t ← s.loadUntil target rseFuel
  .ok { t with
    ar := { t.ar with bspstore := target, rnat := Config.freeWord .rnat s.fresh }
    rse := { t.rse with bspLoad := target } }

/-- `mov` to AR[BSPSTORE] (R139, R680): the dirty partition keeps its size, clean registers become invalid, AR[RNAT] is
undefined, the hint registers revert. Bits 2:0 of the value are dropped, as those of BSP are 0 (R88): of BSPSTORE's no rule
speaks (DESIGN CHOICE, log entry 26). With nothing dirty no collection intervenes, and BSP is the new store pointer. -/
def State.setBspstore (s : State) (v : Word) : State :=
  let a := v &&& ~~~(7 : Word)
  let rnat := Config.freeWord .rnat s.fresh
  { s with
    ar := { s.ar with bspstore := a, bsp := if s.ndirty = 0 then a else bsGrow a s.ndirty, rnat := rnat }
    rse := { s.rse with bspLoad := a, dispersal := rnat } }.dahrRevert

end Sys2Proof.Machine
end

