-- ==== Sys2Proof/Machine/Interrupt.lean ====
section
/-! DEFINITION. External interrupts and their control registers (R1160 to R1164), virtual external interrupts (R1169), the
interval timer (R1165), and the hand-offs of PAL's own interruptions: PMI, INIT, Machine Check (R1115, R1170, R1171). -/

namespace Sys2Proof.Machine

/-- The vectors in order of priority, highest first (R1162): NMI, ExtINT, then 255 down to 16. -/
def vectorOrder : List Nat := 2 :: 0 :: (List.range 240).map (fun k => 255 - k)

/-- TPR lets a pending vector through (R1164): NMI always; ExtINT unless mmi; others unless mmi or by class. -/
def State.unmasked (s : State) (v : Nat) : Bool :=
  v == 2 || (!bit s.cr.tpr 16 && (v == 0 || decide ((fld s.cr.tpr 4 4 : BitVec 4).toNat < v / 16)))

/-- The first vector in order that is pending, unmasked and above every vector in service (R1160, R1162). -/
def State.pickVector (s : State) : List Nat → Option Nat
  | [] => none
  | v :: rest =>
    if bit s.inService v then none
    else if bit s.cr.irr v && s.unmasked v then some v
    else s.pickVector rest

/-- The interrupt that would be taken or read from IVR, if any. -/
def State.highestInterrupt (s : State) : Option Nat :=
  if s.cr.irr = 0 then none else s.pickVector vectorOrder

/-- Reading IVR (R1162): the vector goes from pending to in service; the spurious vector 15 if none qualifies. -/
def State.readIvr (s : State) : Word × State :=
  match s.highestInterrupt with
  | none => (15, s)
  | some v =>
    (BitVec.ofNat 64 v,
      { s with cr := { s.cr with irr := setBit s.cr.irr v false }, inService := setBit s.inService v true })

/-- Writing EOI (R1163): the highest-priority vector in service is done. -/
def State.endOfInterrupt (s : State) : State :=
  match vectorOrder.find? (fun v => bit s.inService v) with
  | none => s
  | some v => { s with inService := setBit s.inService v false }

/-- The external interruption (R1160). -/
def externalInterrupt : Interruption := { kind := .interrupt, vector := .externalInterrupt }

/-- `deliver_unmasked_pending_interrupt()` qualifies (R1160). -/
def State.interruptPending (s : State) : Bool := s.psrBit Psr.i && s.highestInterrupt.isSome

/-! ### Virtual external interrupts (R1169) -/

/-- A word of the running virtual processor's VPD (R1080), where a data translation register maps it. -/
def State.vpdWord (s : State) (run : VirtualRun) (offset : Word) : Option Word :=
  (s.findTr s.dtr (run.vpd + offset)).map fun e =>
    s.memRead (e.physical (run.vpd + offset)) 8 (bit s.pal.vpConfig 2)

/-- `pending_virtual_interrupt()` (R1169): under PSR.vm and the acceleration a_int, `vhpi` (256) is let through by the
guest's PSR.i (vpsr, 1424) and TPR (vcr[66], 2576). The bit a_int and the encoding of `vhpi` are free values. -/
def State.virtualPending (s : State) : Bool :=
  s.psrBit Psr.vm &&
    match s.pal.vpRun with
    | none => false
    | some run =>
      bit run.vac Config.aIntBit.val &&
        match s.vpdWord run 1424, s.vpdWord run 256, s.vpdWord run 2576 with
        | some vpsr, some vhpi, some vtpr => bit vpsr Psr.i && Config.vhpiUnmasked vhpi vtpr
        | _, _, _ => false

/-- The Virtual External Interrupt, raised to the VMM (R1169). -/
def virtualExternalInterrupt : Interruption := { kind := .interrupt, vector := .virtualExternalInterrupt }

/-! ### Time (R1165, R1245) -/

/-- What a `mov` from ITC returns (R82). -/
def State.itcValue (s : State) : Word := s.ar.itc + (if Config.implIto then s.cr.ito else 0)

/-- ITC and RUC advance (R1245, D11); RUC counts while the processor is active, LIGHT_HALT of the only processor included
(R81, R1185; log entry 36). The timer interrupt is pended on a match (R1165). -/
def State.advanceTime (s : State) : State :=
  let step := if s.pal.power = .halt then 0 else Config.rucStep
  let t := { s with ar := { s.ar with itc := s.ar.itc + Config.itcStep, ruc := s.ar.ruc + step } }
  if t.itcValue = t.cr.itm ∧ bit t.cr.itv 16 = false then t.pend (fld t.cr.itv 0 8) else t

/-! ### The hand-offs of PAL's interruptions -/

/-- PSR at the hand-off to the SAL PMI handler (R1115): mc, mfl, mfh, pk kept. -/
def pmiKept : Word := 0x0000000800008030

/-- PALE_PMI's hand-off to the registered handler with vector `v` (R1115). What PAL leaves undefined or scratch is free, NaT
bits too; that GR24 to GR29 of bank 0 are no NaTs is the model's choice (log entry 48). -/
def State.handOffPmi (s : State) (v : BitVec 8) : State :=
  let free (k : Nat) : Word := Config.freeWord (.pmi k) s.fresh
  let scratch (k : Nat) : Gr := ⟨free k, Config.freeBit (.pmi k) s.fresh⟩
  let b0 := ((((((s.grBank0.set 8 ⟨v.zeroExtend 64, false⟩).set 9 ⟨s.pal.xr0, false⟩).set 10 ⟨s.ar.rsc, false⟩).set
    11 ⟨s.brReg 0, false⟩).set 12 ⟨s.brReg 1, false⟩).set 13 ⟨s.pr ||| 1, false⟩).set 14 (scratch 0)
  { s with
    grBank0 := b0.set 15 (scratch 1)
    pr := free 2 ||| 1
    br := (s.br.set 0 (free 3)).set 1 (free 4)
    ar := { s.ar with rsc := setFld s.ar.rsc 0 (0 : BitVec 2) }
    cr := { s.cr with ipsr := s.psr, iip := s.ip, ifs := setBit s.cr.ifs 63 false }
    rse := { s.rse with cfle := false }
    psr := s.psr &&& pmiKept
    ip := s.pal.pmiEntry &&& ~~~(15 : Word)
    midGroup := false
    pmiPending := setBit s.pmiPending v.toNat false }.dahrPush

/-- The PMI vector that is handed off first: the lowest of those pending (DESIGN CHOICE, log entry 60). -/
def State.nextPmi (s : State) : Option (BitVec 8) :=
  ((List.range 16).find? fun v => bit s.pmiPending v).map (BitVec.ofNat 8)

/-- The processor state parameter at PALE_INIT's hand-off (R1110). Of its fields marked "x", rz, ra and mn are given by `x`;
every register group and the RSE are valid, as co = 1 asks; dy is 0, there being no dynamic state, and dsize is what
PAL_MC_DYNAMIC_STATE gives (R1046; log entry 55). -/
def initStateParameter (x : Word) : Word :=
  (x &&& 0x000000000000002C) ||| 0x00000000FFF30180 |||
    (fld Config.dynamicStateSize 0 16 : BitVec 16).zeroExtend 64 <<< 32

/-- What the hand-off saves (R1203). -/
def State.toMinState (s : State) : MinState where
  ip := s.ip
  psr := s.psr
  grStatic := s.grStatic
  grBank0 := s.grBank0
  pr := s.pr ||| 1
  br := s.br
  ipsr := s.cr.ipsr
  iip := s.cr.iip
  ifs := s.cr.ifs

/-- PALE_INIT's and PALE_CHECK's hand-off to a registered handler (R1171, R1128, D60). Of the exit state the spec gives the
processor state parameter alone, which says what is valid (R1110, R1203): what firmware has to use to get there is saved, and
free in its register; the rest is as it was (DESIGN CHOICE, log entry 55), the hint registers pushed as by any interruption
(R77). -/
def State.handOffFirmware (s : State) (entry : Word) : State :=
  let free (k : Nat) : Word := Config.freeWord (.firmware k) s.fresh
  let freeGr (k : Nat) : Gr := ⟨free k, Config.freeBit (.firmware k) s.fresh⟩
  { (if s.psrBit Psr.ic then s.dahrPush else s) with
    grStatic := Vector.ofFn fun i => if i.val = 0 then s.grStatic[i] else freeGr i.val
    grBank0 := Vector.ofFn fun i => freeGr (16 + i.val)
    pr := free 32 ||| 1
    br := Vector.ofFn fun i => free (33 + i.val)
    psr := setFld (setBit (free 41 &&& ~~~Psr.reserved) Psr.is false) 41 (0 : BitVec 2)
    cr := { s.cr with ipsr := free 42 &&& ~~~Psr.reserved, iip := free 43, ifs := free 44 }
    rse := { s.rse with cfle := false }
    midGroup := false
    pal := { s.pal with minState := some s.toMinState }
    ip := entry &&& ~~~(15 : Word) }

/-- INIT is taken (R1171), with its state parameter (R1110). -/
def State.handOffInit (s : State) : State :=
  let psp := initStateParameter (Config.freeWord (.firmware 45) s.fresh)
  let t := s.handOffFirmware s.pal.initEntry
  { t with initPending := false, pal := { t.pal with initPsp := psp } }

/-- A Machine Check for an injected error is taken (R1100, R1128); its state parameter is logged. -/
def State.handOffCheck (s : State) : State :=
  { s.handOffFirmware s.pal.checkEntry with checkPending := false }

end Sys2Proof.Machine
end

