-- ==== Sys2Proof/Machine/Operands.lean ====
section
/-! DEFINITION. Operand forms: encoded immediates and their values (R270, Table 4-80), branch targets, and results over
register operands with their NaT bits (R55). -/

namespace Sys2Proof.Machine

/-! ### Immediates -/

/-- `sign_ext(imm << 4, 25)` added to IP (R550): the target of an IP-relative branch or check. -/
def State.target25 (s : State) (disp : BitVec 21) : Word := s.ip + (sx disp <<< 4)

/-- The target of a long branch (R560). -/
def State.target64 (s : State) (disp : BitVec 60) : Word := s.ip + (disp.zeroExtend 64 <<< 4)

/-- `count2` = ct2d + 1 (R332, R341). -/
def count2 (ct2d : BitVec 2) : Nat := ct2d.toNat + 1

/-- `len` = len6d + 1 (R803). -/
def len6 (len6d : BitVec 6) : Nat := len6d.toNat + 1

/-- `len4` = len4d + 1 (R804). -/
def len4 (len4d : BitVec 4) : Nat := len4d.toNat + 1

/-- A complemented position: `pos6` = 63 - cpos (R804, R805). -/
def compPos (cpos : BitVec 6) : Nat := 63 - cpos.toNat

/-- A complemented count: `count5` = 31 - ccount5c (R891). -/
def compCount (c : BitVec 5) : Nat := 31 - c.toNat

/-- `pmpyshr2`'s shift counts (R875): 0, 7, 15, 16. -/
def shiftCount2 (ct2d : BitVec 2) : Nat :=
  match ct2d.toNat with
  | 0 => 0
  | 1 => 7
  | 2 => 15
  | _ => 16

/-- `fetchadd`'s increment (R636): its sign and one of 16, 8, 4, 1. -/
def fetchInc (inc3 : BitVec 3) : Word :=
  let mag : Word := match (fld inc3 0 2 : BitVec 2).toNat with
    | 0 => 16
    | 1 => 8
    | 2 => 4
    | _ => 1
  if bit inc3 2 then -mag else mag

/-- `mask17` (R378, R823): bit 0 is 0, bit 16 stands for every rotating predicate. -/
def predMask (mask16 : BitVec 16) : Word := ((mask16 ++ (0 : BitVec 1) : BitVec 17)).signExtend 64

/-- `imm44` (R379, R822): bits 15:0 are 0. -/
def rotImm (imm28 : BitVec 28) : Word := ((imm28 ++ (0 : BitVec 16) : BitVec 44)).signExtend 64

/-! ### Results over registers -/

/-- A result of one register: its NaT bit is the source's (R55). -/
def Gr.map (f : Word → Word) (a : Gr) : Gr := ⟨f a.val, a.nat⟩

/-- A result of two registers: its NaT bit is the OR of theirs (R55). -/
def Gr.map₂ (f : Word → Word → Word) (a b : Gr) : Gr := ⟨f a.val b.val, a.nat || b.nat⟩

/-- A value without a deferred exception. -/
def Gr.ofWord (v : Word) : Gr := ⟨v, false⟩

/-- `check_target_register(r1)` (R17). -/
def State.checkTarget (s : State) (r : BitVec 7) : Except Stop Unit := check (s.badTarget r) illegalOperation

/-- The instructions that write one general register and do nothing else (conventions of 43_integer.md). -/
def writeGr (qp : BitVec 6) (r1 : BitVec 7) (v : Gr) (s : State) : Host.Outcome State Fault Refusal :=
  predicated qp s do
    s.checkTarget r1
    done (s.setGr r1 v)

/-- An optional instruction (R1130 (4)): without its feature it is an Illegal Operation where PR[qp] is 1. -/
def ifImplemented (present : Bool) (qp : BitVec 6) (s : State) (run : Host.Outcome State Fault Refusal) :
    Host.Outcome State Fault Refusal :=
  if present then run else predicated qp s (.error (.interrupt illegalOperation))

/-- NaTVal, the floating-point deferred-exception token (R71). -/
def Fr.natVal : Fr := ⟨false, 0x1FFFE, 0⟩

/-- The ISR code of a Disabled FP Register fault on some of `regs`, 0 if there is none (R72, R1135): bit 0 for FR2 to
FR31 under PSR.dfl, bit 1 for FR32 to FR127 under PSR.dfh. -/
def State.disabledCode (s : State) (regs : List (BitVec 7)) : BitVec 16 :=
  (if s.psrBit Psr.dfl && regs.any (fun f => decide (2 ≤ f.toNat ∧ f.toNat < 32)) then 1 else 0) |||
    (if s.psrBit Psr.dfh && regs.any (fun f => decide (32 ≤ f.toNat)) then 2 else 0)

/-- The Disabled FP Register fault of an instruction that names `regs` (R72). -/
def State.checkFp (s : State) (regs : List (BitVec 7)) : Except Stop Unit :=
  check (s.disabledCode regs != 0) (disabledFp (s.disabledCode regs))

/-- `fp_check_target_register(f1)` (R17). -/
def checkFpTarget (f : BitVec 7) : Except Stop Unit := check (f == 0 || f == 1) illegalOperation

/-- The base update of a memory instruction (R608). -/
inductive Post where
  | none
  | reg (r2 : BitVec 7)
  | imm (v : Word)
deriving DecidableEq, Repr

def Post.updates : Post → Bool
  | .none => false
  | _ => true

/-- The updated base register, from the state before the instruction (R608). -/
def State.postValue (s : State) (r3 : BitVec 7) : Post → Gr
  | .none => s.gr r3
  | .reg r2 => Gr.map₂ (fun a b => a + b) (s.gr r3) (s.gr r2)
  | .imm v => (s.gr r3).map (fun a => a + v)

/-- `t` with the base register updated by its value from `s` (R608). -/
def State.postUpdate (t s : State) (r3 : BitVec 7) (p : Post) : State :=
  if p.updates then t.setGr r3 (s.postValue r3 p) else t

/-- The target check on an updated base register (R601, R620, R625). -/
def State.checkPost (s : State) (r3 : BitVec 7) (p : Post) : Except Stop Unit :=
  check (p.updates && s.badTarget r3) illegalOperation

/-- The index of the data access hint register that a hint field selects (R640). -/
def hint8 (h : BitVec 1) (hint : BitVec 2) : BitVec 3 := h ++ hint
def hint4 (hint : BitVec 2) : BitVec 3 := hint.zeroExtend 3

/-- An instruction that has no effect but to move on (R672, R673, R686 to R689). -/
def noEffect (qp : BitVec 6) (s : State) : Host.Outcome State Fault Refusal := predicated qp s (done s)

end Sys2Proof.Machine
end

