-- ==== Sys2Proof/Machine/Flags.lean ====
section
/-! DEFINITION. Predicate results of compares (R790) and the floating-point status register (R89): the architecture
has no other flags (R60). -/

namespace Sys2Proof.Machine

/-! ### Predicate results -/

/-- The compare types (R790). -/
inductive CmpType where
  | normal
  | unc
  | and
  | or
  | orAndcm
deriving DecidableEq, Repr

/-- Both predicate targets written, p1 first. -/
def State.setPrs (s : State) (p1 p2 : BitVec 6) (b1 b2 : Bool) : State := (s.setPr p1 b1).setPr p2 b2

/-- The predicates that a compare of type `ct` writes for relation `rel`, `nat` the OR of its sources' NaT bits (R790). -/
def State.writePreds (s : State) (ct : CmpType) (p1 p2 : BitVec 6) (rel nat : Bool) : State :=
  match ct with
  | .and => if nat || !rel then s.setPrs p1 p2 false false else s
  | .or => if !nat && rel then s.setPrs p1 p2 true true else s
  | .orAndcm => if !nat && rel then s.setPrs p1 p2 true false else s
  | .normal | .unc => if nat then s.setPrs p1 p2 false false else s.setPrs p1 p2 rel (!rel)

/-- A compare (R790): an unconditional one clears both targets when PR[qp] is 0; equal targets are illegal. -/
def compare (ct : CmpType) (qp p1 p2 : BitVec 6) (rel nat : Bool) (s : State) :
    Host.Outcome State Fault Refusal :=
  finish s <|
    if s.prBit qp then do
      check (p1 == p2) illegalOperation
      done (s.writePreds ct p1 p2 rel nat)
    else if ct = .unc then do
      check (p1 == p2) illegalOperation
      done (s.setPrs p1 p2 false false)
    else done s

/-! ### The floating-point status register (R89) -/

/-- The trap disable bits vd, dd, zd, od, ud, id. -/
def fpsrTraps (f : Word) : BitVec 6 := fld f 0 6

/-- The controls ftz, wre, pc, rc, td of a status field. -/
def fpsrControls (f : Word) (sf : BitVec 2) : BitVec 7 := fld f (6 + 13 * sf.toNat) 7

/-- The flags v, d, z, o, u, i of a status field. -/
def fpsrFlags (f : Word) (sf : BitVec 2) : BitVec 6 := fld f (13 + 13 * sf.toNat) 6

def setFpsrControls (f : Word) (sf : BitVec 2) (c : BitVec 7) : Word := setFld f (6 + 13 * sf.toNat) c

def setFpsrFlags (f : Word) (sf : BitVec 2) (c : BitVec 6) : Word := setFld f (13 + 13 * sf.toNat) c

/-- A reserved value of a status field's controls: pc = 1, or td in sf0 (R89, R958). -/
def controlsReserved (sf : BitVec 2) (c : BitVec 7) : Bool := fld c 2 2 == 1 || (sf == 0 && bit c 6)

/-- A value with a one in a reserved field of FPSR (R89), or with the reserved encoding pc = 1 in a status field: R958
names that encoding for `fsetc` alone, and that a move to FPSR with it faults too is the model's choice (log entry 64). -/
def fpsrReserved (f : Word) : Bool :=
  fld f 58 6 != 0 || controlsReserved 0 (fpsrControls f 0) || controlsReserved 1 (fpsrControls f 1)
    || controlsReserved 2 (fpsrControls f 2) || controlsReserved 3 (fpsrControls f 3)

/-- The controls of a status field in named form (R923). -/
structure FpControls where
  ftz : Bool
  wre : Bool
  pc : BitVec 2
  rc : BitVec 2
  td : Bool
deriving DecidableEq, Repr

def FpControls.ofBits (c : BitVec 7) : FpControls := ⟨bit c 0, bit c 1, fld c 2 2, fld c 4 2, bit c 6⟩

/-- The controls that an instruction with completer `.sf` obeys; td of sf0 is reserved (R89). -/
def State.fpControls (s : State) (sf : BitVec 2) : FpControls := FpControls.ofBits (fpsrControls s.ar.fpsr sf)

/-- The exception conditions of one floating-point operation, as the flags v, d, z, o, u, i. -/
structure FpFlags where
  v : Bool := false
  d : Bool := false
  z : Bool := false
  o : Bool := false
  u : Bool := false
  i : Bool := false
deriving DecidableEq, Repr

def FpFlags.toBits (x : FpFlags) : BitVec 6 :=
  BitVec.ofBool x.i ++ BitVec.ofBool x.u ++ BitVec.ofBool x.o ++ BitVec.ofBool x.z ++ BitVec.ofBool x.d
    ++ BitVec.ofBool x.v

/-- `fp_update_fpsr` (R921, R924): the flags of status field `sf` accumulate. -/
def State.raiseFlags (s : State) (sf : BitVec 2) (x : FpFlags) : State :=
  { s with ar := { s.ar with
      fpsr := setFpsrFlags s.ar.fpsr sf (fpsrFlags s.ar.fpsr sf ||| x.toBits) } }

/-- The trap disables that an instruction with completer `.sf` obeys: all of them where td is set (R923). -/
def State.fpDisables (s : State) (sf : BitVec 2) : BitVec 6 :=
  if sf ≠ 0 ∧ (s.fpControls sf).td then BitVec.allOnes 6 else fpsrTraps s.ar.fpsr

end Sys2Proof.Machine
end

