-- ==== Sys2Proof/Machine/IntAlu.lean ====
section
/-! DEFINITION. The integer ALU (formats A1 to A5, X2; 43_integer.md section 1). -/

namespace Sys2Proof.Machine

/-- A 32-bit pointer (R765, R774): the low 32 bits of `t`, bits 62:61 from bits 31:30 of the base, the rest 0. -/
def pointer32 (t base : Word) : Word :=
  (0 : BitVec 1) ++ (fld base 30 2 : BitVec 2) ++ (0 : BitVec 29) ++ (fld t 0 32 : BitVec 32)

/-- `addp4` (R765). -/
def addPointer (a base : Word) : Word := pointer32 (a + base) base

/-- `shladd` (R773). -/
def shiftAdd (n : Nat) (a b : Word) : Word := (a <<< n) + b

/-- `shladdp4` (R774). -/
def shiftAddPointer (n : Nat) (a base : Word) : Word := pointer32 (shiftAdd n a base) base

/-- An L+X instruction: with PR[qp] = 0, too, the next bundle follows (R59, R252). -/
def predicatedLong (qp : BitVec 6) (s : State) (body : Except Stop State) : Host.Outcome State Fault Refusal :=
  finish s <|
    if s.prBit qp then do
      let t ← body
      .ok { st := t, flow := .nextBundle }
    else .ok { st := s, flow := .nextBundle }

/-- `add r1 = r2, r3` (R761). -/
def execAddA1 (qp : BitVec 6) (r1 r2 r3 : BitVec 7) (s : State) : Host.Outcome State Fault Refusal :=
  writeGr qp r1 (Gr.map₂ (fun a b => a + b) (s.gr r2) (s.gr r3)) s

/-- `add r1 = r2, r3, 1` (R762). -/
def execAddPlus1A1 (qp : BitVec 6) (r1 r2 r3 : BitVec 7) (s : State) : Host.Outcome State Fault Refusal :=
  writeGr qp r1 (Gr.map₂ (fun a b => a + b + 1) (s.gr r2) (s.gr r3)) s

/-- `sub r1 = r2, r3` (R766). -/
def execSubA1 (qp : BitVec 6) (r1 r2 r3 : BitVec 7) (s : State) : Host.Outcome State Fault Refusal :=
  writeGr qp r1 (Gr.map₂ (fun a b => a - b) (s.gr r2) (s.gr r3)) s

/-- `sub r1 = r2, r3, 1` (R766). -/
def execSubMinus1A1 (qp : BitVec 6) (r1 r2 r3 : BitVec 7) (s : State) : Host.Outcome State Fault Refusal :=
  writeGr qp r1 (Gr.map₂ (fun a b => a - b - 1) (s.gr r2) (s.gr r3)) s

/-- `addp4 r1 = r2, r3` (R765). -/
def execAddp4A1 (qp : BitVec 6) (r1 r2 r3 : BitVec 7) (s : State) : Host.Outcome State Fault Refusal :=
  writeGr qp r1 (Gr.map₂ addPointer (s.gr r2) (s.gr r3)) s

/-- `and r1 = r2, r3` (R769). -/
def execAndA1 (qp : BitVec 6) (r1 r2 r3 : BitVec 7) (s : State) : Host.Outcome State Fault Refusal :=
  writeGr qp r1 (Gr.map₂ (fun a b => a &&& b) (s.gr r2) (s.gr r3)) s

/-- `andcm r1 = r2, r3` (R770). -/
def execAndcmA1 (qp : BitVec 6) (r1 r2 r3 : BitVec 7) (s : State) : Host.Outcome State Fault Refusal :=
  writeGr qp r1 (Gr.map₂ (fun a b => a &&& ~~~b) (s.gr r2) (s.gr r3)) s

/-- `or r1 = r2, r3` (R771). -/
def execOrA1 (qp : BitVec 6) (r1 r2 r3 : BitVec 7) (s : State) : Host.Outcome State Fault Refusal :=
  writeGr qp r1 (Gr.map₂ (fun a b => a ||| b) (s.gr r2) (s.gr r3)) s

/-- `xor r1 = r2, r3` (R772). -/
def execXorA1 (qp : BitVec 6) (r1 r2 r3 : BitVec 7) (s : State) : Host.Outcome State Fault Refusal :=
  writeGr qp r1 (Gr.map₂ (fun a b => a ^^^ b) (s.gr r2) (s.gr r3)) s

/-- `shladd r1 = r2, count2, r3 (count2 = ct2d + 1)` (R773). -/
def execShladdA2 (qp : BitVec 6) (r1 r2 r3 : BitVec 7) (ct2d : BitVec 2) (s : State) : Host.Outcome State Fault Refusal :=
  writeGr qp r1 (Gr.map₂ (shiftAdd (count2 ct2d)) (s.gr r2) (s.gr r3)) s

/-- `shladdp4 r1 = r2, count2, r3 (count2 = ct2d + 1)` (R774). -/
def execShladdp4A2 (qp : BitVec 6) (r1 r2 r3 : BitVec 7) (ct2d : BitVec 2) (s : State) : Host.Outcome State Fault Refusal :=
  writeGr qp r1 (Gr.map₂ (shiftAddPointer (count2 ct2d)) (s.gr r2) (s.gr r3)) s

/-- `sub r1 = imm8, r3 (imm8 = sign_ext(s<<7 | imm7b, 8))` (R768). -/
def execSubA3 (qp : BitVec 6) (r1 r3 : BitVec 7) (imm8 : BitVec 8) (s : State) : Host.Outcome State Fault Refusal :=
  writeGr qp r1 ((s.gr r3).map (fun b => sx imm8 - b)) s

/-- `and r1 = imm8, r3 (imm8 = sign_ext(s<<7 | imm7b, 8))` (R769). -/
def execAndA3 (qp : BitVec 6) (r1 r3 : BitVec 7) (imm8 : BitVec 8) (s : State) : Host.Outcome State Fault Refusal :=
  writeGr qp r1 ((s.gr r3).map (fun b => sx imm8 &&& b)) s

/-- `andcm r1 = imm8, r3 (imm8 = sign_ext(s<<7 | imm7b, 8))` (R770). -/
def execAndcmA3 (qp : BitVec 6) (r1 r3 : BitVec 7) (imm8 : BitVec 8) (s : State) : Host.Outcome State Fault Refusal :=
  writeGr qp r1 ((s.gr r3).map (fun b => sx imm8 &&& ~~~b)) s

/-- `or r1 = imm8, r3 (imm8 = sign_ext(s<<7 | imm7b, 8))` (R771). -/
def execOrA3 (qp : BitVec 6) (r1 r3 : BitVec 7) (imm8 : BitVec 8) (s : State) : Host.Outcome State Fault Refusal :=
  writeGr qp r1 ((s.gr r3).map (fun b => sx imm8 ||| b)) s

/-- `xor r1 = imm8, r3 (imm8 = sign_ext(s<<7 | imm7b, 8))` (R772). -/
def execXorA3 (qp : BitVec 6) (r1 r3 : BitVec 7) (imm8 : BitVec 8) (s : State) : Host.Outcome State Fault Refusal :=
  writeGr qp r1 ((s.gr r3).map (fun b => sx imm8 ^^^ b)) s

/-- `adds r1 = imm14, r3 (imm14 = sign_ext(s<<13 | imm6d<<7 | imm7b, 14))` (R763). -/
def execAddsA4 (qp : BitVec 6) (r1 r3 : BitVec 7) (imm14 : BitVec 14) (s : State) : Host.Outcome State Fault Refusal :=
  writeGr qp r1 ((s.gr r3).map (fun b => sx imm14 + b)) s

/-- `addp4 r1 = imm14, r3` (R765). -/
def execAddp4A4 (qp : BitVec 6) (r1 r3 : BitVec 7) (imm14 : BitVec 14) (s : State) : Host.Outcome State Fault Refusal :=
  writeGr qp r1 ((s.gr r3).map (fun b => addPointer (sx imm14) b)) s

/-- `addl r1 = imm22, r3 (r3 in GR0-GR3; imm22 = sign_ext(s<<21 | imm5c<<16 | imm9d<<7 | imm7b, 22))` (R764). -/
def execAddlA5 (qp : BitVec 6) (r1 : BitVec 7) (r3 : BitVec 2) (imm22 : BitVec 22) (s : State) : Host.Outcome State Fault Refusal :=
  writeGr qp r1 ((s.gr (r3.zeroExtend 7)).map (fun b => sx imm22 + b)) s

/-- `movl r1 = imm64 (= i<<63 | imm41<<22 | ic<<21 | imm5c<<16 | imm9d<<7 | imm7b; imm41 = L slot)` (R830). -/
def execMovlX2 (qp : BitVec 6) (r1 : BitVec 7) (imm64 : BitVec 64) (s : State) : Host.Outcome State Fault Refusal :=
  predicatedLong qp s do
    s.checkTarget r1
    .ok (s.setGr r1 (Gr.ofWord imm64))

end Sys2Proof.Machine
end

