-- ==== Sys2Proof/Machine/Branch.lean ====
section
/-! DEFINITION. The branch unit (formats B1 to B9, X3, X4; 40_branch.md). Hint fields have no effect (R559). -/

namespace Sys2Proof.Machine

/-! ### Targets, groups, frames -/

/-- The target of an indirect branch: the low four bits are ignored (R550). -/
def State.targetBr (s : State) (b2 : BitVec 3) : Word := s.brReg b2 &&& ~~~(15 : Word)

/-- A loop branch outside slot 2 is an Illegal Operation (R555). -/
def State.checkSlot2 (s : State) : Except Stop Unit := check (s.ri != 2) illegalOperation

/-- An instruction of notation l that is not the last of its group is an Illegal Operation (R264). -/
def State.checkLast (s : State) : Except Stop Unit := check (!s.followedByStop) illegalOperation

/-- PFS with pfm, pec and ppl replaced (R83, R552). -/
def State.savedPfs (s : State) : Word :=
  setFld (setFld (setFld s.ar.pfs 0 s.cfm.toBits) 52 s.ar.ec) 62 s.cpl

/-- The state after a call (R552): link, PFS, the callee's frame, the hint registers pushed. -/
def State.call (s : State) (b1 : BitVec 3) : State :=
  let t := { s.setBr b1 (s.ip + 16) with ar := { s.ar with pfs := s.savedPfs } }
  (t.leaveFrame s.cfm.sol.toNat { Cfm.empty with sof := s.cfm.sof - s.cfm.sol }).dahrPush

/-- `br.call` (R552). -/
def branchCall (qp : BitVec 6) (b1 : BitVec 3) (target : Word) (s : State) : Host.Outcome State Fault Refusal :=
  predicated qp s (taken (s.call b1) target)

/-- A branch that is taken or not, with its state (R557). -/
def branchIf (c : Bool) (t : State) (target : Word) : Body := if c then taken t target else done t

/-- `rotate_regs()` (R56). -/
def State.rotate (s : State) : State := { s with cfm := s.cfm.rotate }

/-- `br.ctop` and `br.cexit` (R553) but for the condition: LC counts down, then EC. -/
def State.countedLoop (s : State) : State :=
  if s.ar.lc ≠ 0 then ({ s with ar := { s.ar with lc := s.ar.lc - 1 } }.setPr 63 true).rotate
  else if s.ar.ec ≠ 0 then ({ s with ar := { s.ar with ec := s.ar.ec - 1 } }.setPr 63 false).rotate
  else s.setPr 63 false

/-- The condition of `br.ctop` (R553). -/
def State.countedTaken (s : State) : Bool := s.ar.lc != 0 || decide (1 < s.ar.ec.toNat)

/-- `br.wtop` and `br.wexit` (R554) but for the condition. -/
def State.whileLoop (s : State) (qp : BitVec 6) : State :=
  if s.prBit qp then (s.setPr 63 false).rotate
  else if s.ar.ec ≠ 0 then ({ s with ar := { s.ar with ec := s.ar.ec - 1 } }.setPr 63 false).rotate
  else s.setPr 63 false

/-- The condition of `br.wtop` (R554). -/
def State.whileTaken (s : State) (qp : BitVec 6) : Bool := s.prBit qp || decide (1 < s.ar.ec.toNat)

/-- A `br.ret` would load a frame marker that no frame can have, a Reserved Register/Field fault (R1133 (5)). A fatal one is
not loaded: the return completes with an empty frame (R558; log entry 25). -/
def State.badReturn (s : State) : Bool :=
  let pfm := Cfm.ofBits (fld s.ar.pfs 0 38)
  !s.restoreFatal pfm.sol.toNat pfm.sof.toNat && !pfm.wf

/-- `br.ret` (R558) but for IP: frame, EC, privilege level, hint registers. -/
def State.returned (s : State) : State :=
  let pfm := Cfm.ofBits (fld s.ar.pfs 0 38)
  let ppl : BitVec 2 := fld s.ar.pfs 62 2
  let t := s.returnFrame pfm pfm.sol.toNat
  let u := { t with ar := { t.ar with ec := fld s.ar.pfs 52 6 } }
  (if s.cpl < ppl then u.setCpl ppl else u).dahrPop

/-- The state that `br.ia` reaches (R556): PSR.is 1, an empty frame, no clean registers. The ALAT, undefined after the
switch (U10), keeps its entries, also for the handler of a trap of the branch itself (DESIGN CHOICE, log entry 56). -/
def State.enterIa32 (s : State) : State :=
  { s with cfm := Cfm.empty }.invalidateNonCurrent.setPsrBit Psr.is true

/-- The target of `br.ia`: bits 31:0 (R59); a trap of the branch leaves all 64 bits in IIP (R556). -/
def State.ia32Target (s : State) (b2 : BitVec 3) : Word :=
  if s.psrBit Psr.ss || s.psrBit Psr.tb then s.brReg b2 else zx (fld (s.brReg b2) 0 32 : BitVec 32)

/-- A long branch (R560): it must be followed by a stop; without `IMPL_BRL` it is illegal, taken or not. -/
def longBranch (qp : BitVec 6) (t : State) (target : Word) (s : State) : Host.Outcome State Fault Refusal :=
  finish s do
    stuckIf (!s.followedByStop) .undefinedBehavior
    check (!Config.implBrl) illegalOperation
    if s.prBit qp then taken t target else .ok { st := s, flow := .nextBundle }

/-- The entry that maps the bundle at IP with promotion rights (R568). -/
def State.promotion (s : State) : Option TlbEntry :=
  (s.findInst s.ip).filter (fun e => e.ar == 7)

/-- `epc` (R568): the privilege level of a promoting page, 0 with translation off. -/
def State.promoted (s : State) : State :=
  if s.psrBit Psr.it then
    match s.promotion with
    | some e => if e.pl < s.cpl then s.setCpl e.pl else s
    | none => s
  else s.setCpl 0

/-- `rfi` (R566, R1126): PSR, the frame of a valid IFS, the hint registers, IP. -/
def State.interruptReturn (s : State) : State :=
  let t := s.restorePsr
  if bit s.cr.ifs 63 then
    let c := Cfm.ofBits (fld s.cr.ifs 0 38)
    t.returnFrame c c.sof.toNat
  else t.enableFrameLoad

/-- `bsw` (R567). -/
def bankSwitch (b : Bool) (s : State) : Host.Outcome State Fault Refusal :=
  finish s do
    s.checkLast
    check (s.cpl != 0) (privilegedOperation {})
    check (s.psrBit Psr.vm) virtualizationFault
    done (s.setPsrBit Psr.bn b)

/-- A control of the running virtual processor's vdc (R1080, R1081). -/
def State.vdcBit (s : State) (k : Fin 64) : Bool := s.pal.vpRun.any fun run => bit run.vdc k.val

/-- Features 40 and 54 and, while a virtual processor runs, d_vmsw = 0 let `vmsw` run, from a page that an instruction TR
maps with rights 7 (R569, R1056, R1081). -/
def State.vmswAllowed (s : State) : Bool :=
  Config.implVm && !s.vdcBit Config.dVmswBit && bit s.pal.features 40 && bit s.pal.features 54 && s.psrBit Psr.it &&
    s.itr.toList.any (fun o => o.any fun e => e.ar == 7 && e.matches (rrRid (s.region s.ip)) s.ip)

/-- `vmsw` (R569): where it may not run, the Virtualization fault, as R1056 (bit 54) and R1081 (d_vmsw) say too; R1130 (4),
which names R569, calls it an Illegal Operation (log entry 43). -/
def vmSwitch (b : Bool) (s : State) : Host.Outcome State Fault Refusal :=
  finish s do
    check (s.cpl != 0) (privilegedOperation {})
    check (!s.vmswAllowed) virtualizationFault
    done (s.setPsrBit Psr.vm b)

/-- `br.cond target25 (= IP + sign_ext(s<<20 | imm20b, 21) << 4)` (R551). -/
def execBrCondB1 (qp : BitVec 6) (_d : BitVec 1) (_wh : BitVec 2) (_p : BitVec 1) (disp21 : BitVec 21) (s : State) : Host.Outcome State Fault Refusal :=
  predicated qp s (taken s (s.target25 disp21))

/-- `br.cond b2` (R551). -/
def execBrCondB4 (qp : BitVec 6) (b2 : BitVec 3) (_d : BitVec 1) (_wh : BitVec 2) (_p : BitVec 1) (s : State) : Host.Outcome State Fault Refusal :=
  predicated qp s (taken s (s.targetBr b2))

/-- `br.call b1 = target25` (R552). -/
def execBrCallB3 (qp : BitVec 6) (b1 : BitVec 3) (_d : BitVec 1) (_wh : BitVec 2) (_p : BitVec 1) (disp21 : BitVec 21) (s : State) : Host.Outcome State Fault Refusal :=
  branchCall qp b1 (s.target25 disp21) s

/-- `br.call b1 = b2` (R552). -/
def execBrCallB5 (qp : BitVec 6) (b1 b2 : BitVec 3) (_d : BitVec 1) (_wh : BitVec 3) (_p : BitVec 1) (s : State) : Host.Outcome State Fault Refusal :=
  branchCall qp b1 (s.targetBr b2) s

/-- `br.cloop target25` (R555). -/
def execBrCloopB2 (_d : BitVec 1) (_wh : BitVec 2) (_p : BitVec 1) (disp21 : BitVec 21) (s : State) : Host.Outcome State Fault Refusal :=
  finish s do
    s.checkSlot2
    branchIf (s.ar.lc != 0) { s with ar := { s.ar with lc := if s.ar.lc = 0 then 0 else s.ar.lc - 1 } }
      (s.target25 disp21)

/-- `br.ctop target25` (R553). -/
def execBrCtopB2 (_d : BitVec 1) (_wh : BitVec 2) (_p : BitVec 1) (disp21 : BitVec 21) (s : State) : Host.Outcome State Fault Refusal :=
  finish s do
    s.checkSlot2
    branchIf s.countedTaken s.countedLoop (s.target25 disp21)

/-- `br.cexit target25` (R553). -/
def execBrCexitB2 (_d : BitVec 1) (_wh : BitVec 2) (_p : BitVec 1) (disp21 : BitVec 21) (s : State) : Host.Outcome State Fault Refusal :=
  finish s do
    s.checkSlot2
    branchIf (!s.countedTaken) s.countedLoop (s.target25 disp21)

/-- `br.wtop target25` (R554). -/
def execBrWtopB1 (qp : BitVec 6) (_d : BitVec 1) (_wh : BitVec 2) (_p : BitVec 1) (disp21 : BitVec 21) (s : State) : Host.Outcome State Fault Refusal :=
  finish s do
    s.checkSlot2
    branchIf (s.whileTaken qp) (s.whileLoop qp) (s.target25 disp21)

/-- `br.wexit target25` (R554). -/
def execBrWexitB1 (qp : BitVec 6) (_d : BitVec 1) (_wh : BitVec 2) (_p : BitVec 1) (disp21 : BitVec 21) (s : State) : Host.Outcome State Fault Refusal :=
  finish s do
    s.checkSlot2
    branchIf (!s.whileTaken qp) (s.whileLoop qp) (s.target25 disp21)

/-- `br.ret b2` (R558). -/
def execBrRetB4 (qp : BitVec 6) (b2 : BitVec 3) (_d : BitVec 1) (_wh : BitVec 2) (_p : BitVec 1) (s : State) : Host.Outcome State Fault Refusal :=
  predicated qp s do
    check s.badReturn reservedRegisterField
    taken s.returned (s.targetBr b2) (decide (s.cpl < (fld s.ar.pfs 62 2 : BitVec 2)))

/-- `br.ia b2` (R556). -/
def execBrIaB4 (qp : BitVec 6) (b2 : BitVec 3) (_d : BitVec 1) (_wh : BitVec 2) (_p : BitVec 1) (s : State) : Host.Outcome State Fault Refusal :=
  finish s do
    stuckIf (!s.psrBit Psr.ic || !s.psrBit Psr.dt || s.psrBit Psr.mc || !s.psrBit Psr.it) .undefinedBehavior
    check (qp != 0) illegalOperation
    check (s.ar.bspstore != s.ar.bsp) illegalOperation
    check (s.psrBit Psr.di) disabledIsTransition
    taken s.enterIa32 (s.ia32Target b2)

/-- `brl.cond target64 (= IP + ((i<<59 | imm39<<20 | imm20b) << 4); imm39 = L slot bits 40:2)` (R560). -/
def execBrlCondX3 (qp : BitVec 6) (_d : BitVec 1) (_wh : BitVec 2) (_p : BitVec 1) (disp60 : BitVec 60) (s : State) : Host.Outcome State Fault Refusal :=
  longBranch qp s (s.target64 disp60) s

/-- `brl.call b1 = target64` (R561). -/
def execBrlCallX4 (qp : BitVec 6) (b1 : BitVec 3) (_d : BitVec 1) (_wh : BitVec 2) (_p : BitVec 1) (disp60 : BitVec 60) (s : State) : Host.Outcome State Fault Refusal :=
  longBranch qp (s.call b1) (s.target64 disp60) s

/-- `brp target25, tag13` (R562). -/
def execBrpB6 (_ih _p : BitVec 1) (_wh : BitVec 2) (_pbtv : BitVec 3) (_disp21 : BitVec 21) (_tag9 : BitVec 9) (s : State) : Host.Outcome State Fault Refusal :=
  finish s (done s)

/-- `brp b2, tag13` (R562). -/
def execBrpB7 (_b2 : BitVec 3) (_ih _p : BitVec 1) (_wh : BitVec 2) (_pbtv : BitVec 3) (_tag9 : BitVec 9) (s : State) : Host.Outcome State Fault Refusal :=
  finish s (done s)

/-- `brp.ret b2, tag13` (R562). -/
def execBrpRetB7 (_b2 : BitVec 3) (_ih _p : BitVec 1) (_wh : BitVec 2) (_pbtv : BitVec 3) (_tag9 : BitVec 9) (s : State) : Host.Outcome State Fault Refusal :=
  finish s (done s)

/-- `cover` (R564). -/
def execCoverB8 (s : State) : Host.Outcome State Fault Refusal :=
  finish s do
    s.checkLast
    check (s.psrBit Psr.vm && !s.psrBit Psr.ic) virtualizationFault
    let t := s.leaveFrame s.cfm.sof.toNat Cfm.empty
    done (if s.psrBit Psr.ic then t
      else { t with cr := { t.cr with ifs := setBit (setFld t.cr.ifs 0 s.cfm.toBits) 63 true } })

/-- `clrrrb` (R565). -/
def execClrrrbB8 (s : State) : Host.Outcome State Fault Refusal :=
  finish s do
    s.checkLast
    done { s with cfm := { s.cfm with rrbGr := 0, rrbFr := 0, rrbPr := 0 } }

/-- `clrrrb.pr` (R565). -/
def execClrrrbPrB8 (s : State) : Host.Outcome State Fault Refusal :=
  finish s do
    s.checkLast
    done { s with cfm := { s.cfm with rrbPr := 0 } }

/-- `rfi` (R566). A reserved slot number in PSR.ri or IPSR.ri is a Reserved Register/Field fault of the `rfi`: R1133 (6) gives
it among the causes that the source states, against a comment in R566's pseudocode, which is general knowledge (log entry
39). -/
def execRfiB8 (s : State) : Host.Outcome State Fault Refusal :=
  finish s do
    stuckIf (!s.followedByStop) .undefinedBehavior
    check (s.cpl != 0) (privilegedOperation {})
    check (s.psrBit Psr.vm) virtualizationFault
    check (s.ri == 3 || (fld s.cr.ipsr 41 2 : BitVec 2) == 3) reservedRegisterField
    check (bit s.cr.ifs 63 && !(Cfm.ofBits (fld s.cr.ifs 0 38)).wf) reservedRegisterField
    .ok { st := s.interruptReturn
          stepped := if s.psrBit Psr.ss then some s.ri else none
          flow := .returned (if bit s.cr.ipsr Psr.is then zx (fld s.cr.iip 0 32 : BitVec 32) else s.cr.iip &&& ~~~(15 : Word)) }

/-- `bsw.0` (R567). -/
def execBsw0B8 (s : State) : Host.Outcome State Fault Refusal :=
  bankSwitch false s

/-- `bsw.1` (R567). -/
def execBsw1B8 (s : State) : Host.Outcome State Fault Refusal :=
  bankSwitch true s

/-- `epc` (R568). -/
def execEpcB8 (s : State) : Host.Outcome State Fault Refusal :=
  finish s do
    check (decide ((fld s.ar.pfs 62 2 : BitVec 2) < s.cpl)) illegalOperation
    done s.promoted

/-- `vmsw.0` (R569). -/
def execVmsw0B8 (s : State) : Host.Outcome State Fault Refusal :=
  vmSwitch false s

/-- `vmsw.1` (R569). -/
def execVmsw1B8 (s : State) : Host.Outcome State Fault Refusal :=
  vmSwitch true s

/-- `break.b imm21` (R563). -/
def execBreakBB9 (qp : BitVec 6) (_imm21 : BitVec 21) (s : State) : Host.Outcome State Fault Refusal :=
  predicated qp s (.error (.interrupt (breakFault 0)))

/-- `nop.b imm21` (R570). -/
def execNopBB9 (qp : BitVec 6) (_imm21 : BitVec 21) (s : State) : Host.Outcome State Fault Refusal :=
  noEffect qp s

/-- `hint.b imm21` (R571). -/
def execHintBB9 (qp : BitVec 6) (_imm21 : BitVec 21) (s : State) : Host.Outcome State Fault Refusal :=
  noEffect qp s

end Sys2Proof.Machine
end

