-- ==== Sys2Proof/Machine/Compare.lean ====
section
/-! DEFINITION. Integer compares and tests (formats A6 to A8, I16, I17, I30; 43_integer.md section 2). -/

namespace Sys2Proof.Machine

/-- The relations of the compares (R791). -/
inductive Rel where
  | eq | ne | lt | le | gt | ge | ltu
deriving DecidableEq, Repr

/-- A relation between two values of any width (R791). -/
def Rel.holds {n : Nat} (r : Rel) (a b : BitVec n) : Bool :=
  match r with
  | .eq => a == b
  | .ne => a != b
  | .lt => a.slt b
  | .le => a.sle b
  | .gt => b.slt a
  | .ge => b.sle a
  | .ltu => a.ult b

/-- The low 32 bits, which `cmp4` compares (R792). -/
def low32 (a : Word) : BitVec 32 := fld a 0 32

/-- `cmp` (R791): `a` on the left. -/
def cmp8 (ct : CmpType) (rel : Rel) (qp p1 p2 : BitVec 6) (a b : Gr) (s : State) :
    Host.Outcome State Fault Refusal :=
  compare ct qp p1 p2 (rel.holds a.val b.val) (a.nat || b.nat) s

/-- `cmp4` (R792). -/
def cmp4 (ct : CmpType) (rel : Rel) (qp p1 p2 : BitVec 6) (a b : Gr) (s : State) :
    Host.Outcome State Fault Refusal :=
  compare ct qp p1 p2 (rel.holds (low32 a.val) (low32 b.val)) (a.nat || b.nat) s

/-- `tf`'s feature bit (R796): CPUID[4]{imm5b + 32}. -/
def featureBit (imm5b : BitVec 5) : Bool := bit (Config.cpuid 4) (32 + imm5b.toNat)

/-- `cmp.lt p1, p2 = r2, r3` (R791). -/
def execCmpLtA6 (qp p1 p2 : BitVec 6) (r2 r3 : BitVec 7) (s : State) : Host.Outcome State Fault Refusal :=
  cmp8 .normal .lt qp p1 p2 (s.gr r2) (s.gr r3) s

/-- `cmp.ltu p1, p2 = r2, r3` (R791). -/
def execCmpLtuA6 (qp p1 p2 : BitVec 6) (r2 r3 : BitVec 7) (s : State) : Host.Outcome State Fault Refusal :=
  cmp8 .normal .ltu qp p1 p2 (s.gr r2) (s.gr r3) s

/-- `cmp.eq p1, p2 = r2, r3` (R791). -/
def execCmpEqA6 (qp p1 p2 : BitVec 6) (r2 r3 : BitVec 7) (s : State) : Host.Outcome State Fault Refusal :=
  cmp8 .normal .eq qp p1 p2 (s.gr r2) (s.gr r3) s

/-- `cmp.lt.unc p1, p2 = r2, r3` (R791). -/
def execCmpLtUncA6 (qp p1 p2 : BitVec 6) (r2 r3 : BitVec 7) (s : State) : Host.Outcome State Fault Refusal :=
  cmp8 .unc .lt qp p1 p2 (s.gr r2) (s.gr r3) s

/-- `cmp.ltu.unc p1, p2 = r2, r3` (R791). -/
def execCmpLtuUncA6 (qp p1 p2 : BitVec 6) (r2 r3 : BitVec 7) (s : State) : Host.Outcome State Fault Refusal :=
  cmp8 .unc .ltu qp p1 p2 (s.gr r2) (s.gr r3) s

/-- `cmp.eq.unc p1, p2 = r2, r3` (R791). -/
def execCmpEqUncA6 (qp p1 p2 : BitVec 6) (r2 r3 : BitVec 7) (s : State) : Host.Outcome State Fault Refusal :=
  cmp8 .unc .eq qp p1 p2 (s.gr r2) (s.gr r3) s

/-- `cmp.eq.and p1, p2 = r2, r3` (R791). -/
def execCmpEqAndA6 (qp p1 p2 : BitVec 6) (r2 r3 : BitVec 7) (s : State) : Host.Outcome State Fault Refusal :=
  cmp8 .and .eq qp p1 p2 (s.gr r2) (s.gr r3) s

/-- `cmp.eq.or p1, p2 = r2, r3` (R791). -/
def execCmpEqOrA6 (qp p1 p2 : BitVec 6) (r2 r3 : BitVec 7) (s : State) : Host.Outcome State Fault Refusal :=
  cmp8 .or .eq qp p1 p2 (s.gr r2) (s.gr r3) s

/-- `cmp.eq.or.andcm p1, p2 = r2, r3` (R791). -/
def execCmpEqOrAndcmA6 (qp p1 p2 : BitVec 6) (r2 r3 : BitVec 7) (s : State) : Host.Outcome State Fault Refusal :=
  cmp8 .orAndcm .eq qp p1 p2 (s.gr r2) (s.gr r3) s

/-- `cmp.ne.and p1, p2 = r2, r3` (R791). -/
def execCmpNeAndA6 (qp p1 p2 : BitVec 6) (r2 r3 : BitVec 7) (s : State) : Host.Outcome State Fault Refusal :=
  cmp8 .and .ne qp p1 p2 (s.gr r2) (s.gr r3) s

/-- `cmp.ne.or p1, p2 = r2, r3` (R791). -/
def execCmpNeOrA6 (qp p1 p2 : BitVec 6) (r2 r3 : BitVec 7) (s : State) : Host.Outcome State Fault Refusal :=
  cmp8 .or .ne qp p1 p2 (s.gr r2) (s.gr r3) s

/-- `cmp.ne.or.andcm p1, p2 = r2, r3` (R791). -/
def execCmpNeOrAndcmA6 (qp p1 p2 : BitVec 6) (r2 r3 : BitVec 7) (s : State) : Host.Outcome State Fault Refusal :=
  cmp8 .orAndcm .ne qp p1 p2 (s.gr r2) (s.gr r3) s

/-- `cmp4.lt p1, p2 = r2, r3` (R792). -/
def execCmp4LtA6 (qp p1 p2 : BitVec 6) (r2 r3 : BitVec 7) (s : State) : Host.Outcome State Fault Refusal :=
  cmp4 .normal .lt qp p1 p2 (s.gr r2) (s.gr r3) s

/-- `cmp4.ltu p1, p2 = r2, r3` (R792). -/
def execCmp4LtuA6 (qp p1 p2 : BitVec 6) (r2 r3 : BitVec 7) (s : State) : Host.Outcome State Fault Refusal :=
  cmp4 .normal .ltu qp p1 p2 (s.gr r2) (s.gr r3) s

/-- `cmp4.eq p1, p2 = r2, r3` (R792). -/
def execCmp4EqA6 (qp p1 p2 : BitVec 6) (r2 r3 : BitVec 7) (s : State) : Host.Outcome State Fault Refusal :=
  cmp4 .normal .eq qp p1 p2 (s.gr r2) (s.gr r3) s

/-- `cmp4.lt.unc p1, p2 = r2, r3` (R792). -/
def execCmp4LtUncA6 (qp p1 p2 : BitVec 6) (r2 r3 : BitVec 7) (s : State) : Host.Outcome State Fault Refusal :=
  cmp4 .unc .lt qp p1 p2 (s.gr r2) (s.gr r3) s

/-- `cmp4.ltu.unc p1, p2 = r2, r3` (R792). -/
def execCmp4LtuUncA6 (qp p1 p2 : BitVec 6) (r2 r3 : BitVec 7) (s : State) : Host.Outcome State Fault Refusal :=
  cmp4 .unc .ltu qp p1 p2 (s.gr r2) (s.gr r3) s

/-- `cmp4.eq.unc p1, p2 = r2, r3` (R792). -/
def execCmp4EqUncA6 (qp p1 p2 : BitVec 6) (r2 r3 : BitVec 7) (s : State) : Host.Outcome State Fault Refusal :=
  cmp4 .unc .eq qp p1 p2 (s.gr r2) (s.gr r3) s

/-- `cmp4.eq.and p1, p2 = r2, r3` (R792). -/
def execCmp4EqAndA6 (qp p1 p2 : BitVec 6) (r2 r3 : BitVec 7) (s : State) : Host.Outcome State Fault Refusal :=
  cmp4 .and .eq qp p1 p2 (s.gr r2) (s.gr r3) s

/-- `cmp4.eq.or p1, p2 = r2, r3` (R792). -/
def execCmp4EqOrA6 (qp p1 p2 : BitVec 6) (r2 r3 : BitVec 7) (s : State) : Host.Outcome State Fault Refusal :=
  cmp4 .or .eq qp p1 p2 (s.gr r2) (s.gr r3) s

/-- `cmp4.eq.or.andcm p1, p2 = r2, r3` (R792). -/
def execCmp4EqOrAndcmA6 (qp p1 p2 : BitVec 6) (r2 r3 : BitVec 7) (s : State) : Host.Outcome State Fault Refusal :=
  cmp4 .orAndcm .eq qp p1 p2 (s.gr r2) (s.gr r3) s

/-- `cmp4.ne.and p1, p2 = r2, r3` (R792). -/
def execCmp4NeAndA6 (qp p1 p2 : BitVec 6) (r2 r3 : BitVec 7) (s : State) : Host.Outcome State Fault Refusal :=
  cmp4 .and .ne qp p1 p2 (s.gr r2) (s.gr r3) s

/-- `cmp4.ne.or p1, p2 = r2, r3` (R792). -/
def execCmp4NeOrA6 (qp p1 p2 : BitVec 6) (r2 r3 : BitVec 7) (s : State) : Host.Outcome State Fault Refusal :=
  cmp4 .or .ne qp p1 p2 (s.gr r2) (s.gr r3) s

/-- `cmp4.ne.or.andcm p1, p2 = r2, r3` (R792). -/
def execCmp4NeOrAndcmA6 (qp p1 p2 : BitVec 6) (r2 r3 : BitVec 7) (s : State) : Host.Outcome State Fault Refusal :=
  cmp4 .orAndcm .ne qp p1 p2 (s.gr r2) (s.gr r3) s

/-- `cmp.gt.and p1, p2 = r0, r3` (R791). -/
def execCmpGtAndA7 (qp p1 p2 : BitVec 6) (r3 : BitVec 7) (s : State) : Host.Outcome State Fault Refusal :=
  cmp8 .and .gt qp p1 p2 ⟨0, false⟩ (s.gr r3) s

/-- `cmp.gt.or p1, p2 = r0, r3` (R791). -/
def execCmpGtOrA7 (qp p1 p2 : BitVec 6) (r3 : BitVec 7) (s : State) : Host.Outcome State Fault Refusal :=
  cmp8 .or .gt qp p1 p2 ⟨0, false⟩ (s.gr r3) s

/-- `cmp.gt.or.andcm p1, p2 = r0, r3` (R791). -/
def execCmpGtOrAndcmA7 (qp p1 p2 : BitVec 6) (r3 : BitVec 7) (s : State) : Host.Outcome State Fault Refusal :=
  cmp8 .orAndcm .gt qp p1 p2 ⟨0, false⟩ (s.gr r3) s

/-- `cmp.le.and p1, p2 = r0, r3` (R791). -/
def execCmpLeAndA7 (qp p1 p2 : BitVec 6) (r3 : BitVec 7) (s : State) : Host.Outcome State Fault Refusal :=
  cmp8 .and .le qp p1 p2 ⟨0, false⟩ (s.gr r3) s

/-- `cmp.le.or p1, p2 = r0, r3` (R791). -/
def execCmpLeOrA7 (qp p1 p2 : BitVec 6) (r3 : BitVec 7) (s : State) : Host.Outcome State Fault Refusal :=
  cmp8 .or .le qp p1 p2 ⟨0, false⟩ (s.gr r3) s

/-- `cmp.le.or.andcm p1, p2 = r0, r3` (R791). -/
def execCmpLeOrAndcmA7 (qp p1 p2 : BitVec 6) (r3 : BitVec 7) (s : State) : Host.Outcome State Fault Refusal :=
  cmp8 .orAndcm .le qp p1 p2 ⟨0, false⟩ (s.gr r3) s

/-- `cmp.ge.and p1, p2 = r0, r3` (R791). -/
def execCmpGeAndA7 (qp p1 p2 : BitVec 6) (r3 : BitVec 7) (s : State) : Host.Outcome State Fault Refusal :=
  cmp8 .and .ge qp p1 p2 ⟨0, false⟩ (s.gr r3) s

/-- `cmp.ge.or p1, p2 = r0, r3` (R791). -/
def execCmpGeOrA7 (qp p1 p2 : BitVec 6) (r3 : BitVec 7) (s : State) : Host.Outcome State Fault Refusal :=
  cmp8 .or .ge qp p1 p2 ⟨0, false⟩ (s.gr r3) s

/-- `cmp.ge.or.andcm p1, p2 = r0, r3` (R791). -/
def execCmpGeOrAndcmA7 (qp p1 p2 : BitVec 6) (r3 : BitVec 7) (s : State) : Host.Outcome State Fault Refusal :=
  cmp8 .orAndcm .ge qp p1 p2 ⟨0, false⟩ (s.gr r3) s

/-- `cmp.lt.and p1, p2 = r0, r3` (R791). -/
def execCmpLtAndA7 (qp p1 p2 : BitVec 6) (r3 : BitVec 7) (s : State) : Host.Outcome State Fault Refusal :=
  cmp8 .and .lt qp p1 p2 ⟨0, false⟩ (s.gr r3) s

/-- `cmp.lt.or p1, p2 = r0, r3` (R791). -/
def execCmpLtOrA7 (qp p1 p2 : BitVec 6) (r3 : BitVec 7) (s : State) : Host.Outcome State Fault Refusal :=
  cmp8 .or .lt qp p1 p2 ⟨0, false⟩ (s.gr r3) s

/-- `cmp.lt.or.andcm p1, p2 = r0, r3` (R791). -/
def execCmpLtOrAndcmA7 (qp p1 p2 : BitVec 6) (r3 : BitVec 7) (s : State) : Host.Outcome State Fault Refusal :=
  cmp8 .orAndcm .lt qp p1 p2 ⟨0, false⟩ (s.gr r3) s

/-- `cmp4.gt.and p1, p2 = r0, r3` (R792). -/
def execCmp4GtAndA7 (qp p1 p2 : BitVec 6) (r3 : BitVec 7) (s : State) : Host.Outcome State Fault Refusal :=
  cmp4 .and .gt qp p1 p2 ⟨0, false⟩ (s.gr r3) s

/-- `cmp4.gt.or p1, p2 = r0, r3` (R792). -/
def execCmp4GtOrA7 (qp p1 p2 : BitVec 6) (r3 : BitVec 7) (s : State) : Host.Outcome State Fault Refusal :=
  cmp4 .or .gt qp p1 p2 ⟨0, false⟩ (s.gr r3) s

/-- `cmp4.gt.or.andcm p1, p2 = r0, r3` (R792). -/
def execCmp4GtOrAndcmA7 (qp p1 p2 : BitVec 6) (r3 : BitVec 7) (s : State) : Host.Outcome State Fault Refusal :=
  cmp4 .orAndcm .gt qp p1 p2 ⟨0, false⟩ (s.gr r3) s

/-- `cmp4.le.and p1, p2 = r0, r3` (R792). -/
def execCmp4LeAndA7 (qp p1 p2 : BitVec 6) (r3 : BitVec 7) (s : State) : Host.Outcome State Fault Refusal :=
  cmp4 .and .le qp p1 p2 ⟨0, false⟩ (s.gr r3) s

/-- `cmp4.le.or p1, p2 = r0, r3` (R792). -/
def execCmp4LeOrA7 (qp p1 p2 : BitVec 6) (r3 : BitVec 7) (s : State) : Host.Outcome State Fault Refusal :=
  cmp4 .or .le qp p1 p2 ⟨0, false⟩ (s.gr r3) s

/-- `cmp4.le.or.andcm p1, p2 = r0, r3` (R792). -/
def execCmp4LeOrAndcmA7 (qp p1 p2 : BitVec 6) (r3 : BitVec 7) (s : State) : Host.Outcome State Fault Refusal :=
  cmp4 .orAndcm .le qp p1 p2 ⟨0, false⟩ (s.gr r3) s

/-- `cmp4.ge.and p1, p2 = r0, r3` (R792). -/
def execCmp4GeAndA7 (qp p1 p2 : BitVec 6) (r3 : BitVec 7) (s : State) : Host.Outcome State Fault Refusal :=
  cmp4 .and .ge qp p1 p2 ⟨0, false⟩ (s.gr r3) s

/-- `cmp4.ge.or p1, p2 = r0, r3` (R792). -/
def execCmp4GeOrA7 (qp p1 p2 : BitVec 6) (r3 : BitVec 7) (s : State) : Host.Outcome State Fault Refusal :=
  cmp4 .or .ge qp p1 p2 ⟨0, false⟩ (s.gr r3) s

/-- `cmp4.ge.or.andcm p1, p2 = r0, r3` (R792). -/
def execCmp4GeOrAndcmA7 (qp p1 p2 : BitVec 6) (r3 : BitVec 7) (s : State) : Host.Outcome State Fault Refusal :=
  cmp4 .orAndcm .ge qp p1 p2 ⟨0, false⟩ (s.gr r3) s

/-- `cmp4.lt.and p1, p2 = r0, r3` (R792). -/
def execCmp4LtAndA7 (qp p1 p2 : BitVec 6) (r3 : BitVec 7) (s : State) : Host.Outcome State Fault Refusal :=
  cmp4 .and .lt qp p1 p2 ⟨0, false⟩ (s.gr r3) s

/-- `cmp4.lt.or p1, p2 = r0, r3` (R792). -/
def execCmp4LtOrA7 (qp p1 p2 : BitVec 6) (r3 : BitVec 7) (s : State) : Host.Outcome State Fault Refusal :=
  cmp4 .or .lt qp p1 p2 ⟨0, false⟩ (s.gr r3) s

/-- `cmp4.lt.or.andcm p1, p2 = r0, r3` (R792). -/
def execCmp4LtOrAndcmA7 (qp p1 p2 : BitVec 6) (r3 : BitVec 7) (s : State) : Host.Outcome State Fault Refusal :=
  cmp4 .orAndcm .lt qp p1 p2 ⟨0, false⟩ (s.gr r3) s

/-- `cmp.lt p1, p2 = imm8, r3 (imm8 = sign_ext(s<<7 | imm7b, 8))` (R791). -/
def execCmpLtA8 (qp p1 p2 : BitVec 6) (r3 : BitVec 7) (imm8 : BitVec 8) (s : State) : Host.Outcome State Fault Refusal :=
  cmp8 .normal .lt qp p1 p2 ⟨sx imm8, false⟩ (s.gr r3) s

/-- `cmp.ltu p1, p2 = imm8, r3 (imm8 = sign_ext(s<<7 | imm7b, 8))` (R791). -/
def execCmpLtuA8 (qp p1 p2 : BitVec 6) (r3 : BitVec 7) (imm8 : BitVec 8) (s : State) : Host.Outcome State Fault Refusal :=
  cmp8 .normal .ltu qp p1 p2 ⟨sx imm8, false⟩ (s.gr r3) s

/-- `cmp.eq p1, p2 = imm8, r3 (imm8 = sign_ext(s<<7 | imm7b, 8))` (R791). -/
def execCmpEqA8 (qp p1 p2 : BitVec 6) (r3 : BitVec 7) (imm8 : BitVec 8) (s : State) : Host.Outcome State Fault Refusal :=
  cmp8 .normal .eq qp p1 p2 ⟨sx imm8, false⟩ (s.gr r3) s

/-- `cmp.lt.unc p1, p2 = imm8, r3 (imm8 = sign_ext(s<<7 | imm7b, 8))` (R791). -/
def execCmpLtUncA8 (qp p1 p2 : BitVec 6) (r3 : BitVec 7) (imm8 : BitVec 8) (s : State) : Host.Outcome State Fault Refusal :=
  cmp8 .unc .lt qp p1 p2 ⟨sx imm8, false⟩ (s.gr r3) s

/-- `cmp.ltu.unc p1, p2 = imm8, r3 (imm8 = sign_ext(s<<7 | imm7b, 8))` (R791). -/
def execCmpLtuUncA8 (qp p1 p2 : BitVec 6) (r3 : BitVec 7) (imm8 : BitVec 8) (s : State) : Host.Outcome State Fault Refusal :=
  cmp8 .unc .ltu qp p1 p2 ⟨sx imm8, false⟩ (s.gr r3) s

/-- `cmp.eq.unc p1, p2 = imm8, r3 (imm8 = sign_ext(s<<7 | imm7b, 8))` (R791). -/
def execCmpEqUncA8 (qp p1 p2 : BitVec 6) (r3 : BitVec 7) (imm8 : BitVec 8) (s : State) : Host.Outcome State Fault Refusal :=
  cmp8 .unc .eq qp p1 p2 ⟨sx imm8, false⟩ (s.gr r3) s

/-- `cmp.eq.and p1, p2 = imm8, r3 (imm8 = sign_ext(s<<7 | imm7b, 8))` (R791). -/
def execCmpEqAndA8 (qp p1 p2 : BitVec 6) (r3 : BitVec 7) (imm8 : BitVec 8) (s : State) : Host.Outcome State Fault Refusal :=
  cmp8 .and .eq qp p1 p2 ⟨sx imm8, false⟩ (s.gr r3) s

/-- `cmp.eq.or p1, p2 = imm8, r3 (imm8 = sign_ext(s<<7 | imm7b, 8))` (R791). -/
def execCmpEqOrA8 (qp p1 p2 : BitVec 6) (r3 : BitVec 7) (imm8 : BitVec 8) (s : State) : Host.Outcome State Fault Refusal :=
  cmp8 .or .eq qp p1 p2 ⟨sx imm8, false⟩ (s.gr r3) s

/-- `cmp.eq.or.andcm p1, p2 = imm8, r3 (imm8 = sign_ext(s<<7 | imm7b, 8))` (R791). -/
def execCmpEqOrAndcmA8 (qp p1 p2 : BitVec 6) (r3 : BitVec 7) (imm8 : BitVec 8) (s : State) : Host.Outcome State Fault Refusal :=
  cmp8 .orAndcm .eq qp p1 p2 ⟨sx imm8, false⟩ (s.gr r3) s

/-- `cmp.ne.and p1, p2 = imm8, r3 (imm8 = sign_ext(s<<7 | imm7b, 8))` (R791). -/
def execCmpNeAndA8 (qp p1 p2 : BitVec 6) (r3 : BitVec 7) (imm8 : BitVec 8) (s : State) : Host.Outcome State Fault Refusal :=
  cmp8 .and .ne qp p1 p2 ⟨sx imm8, false⟩ (s.gr r3) s

/-- `cmp.ne.or p1, p2 = imm8, r3 (imm8 = sign_ext(s<<7 | imm7b, 8))` (R791). -/
def execCmpNeOrA8 (qp p1 p2 : BitVec 6) (r3 : BitVec 7) (imm8 : BitVec 8) (s : State) : Host.Outcome State Fault Refusal :=
  cmp8 .or .ne qp p1 p2 ⟨sx imm8, false⟩ (s.gr r3) s

/-- `cmp.ne.or.andcm p1, p2 = imm8, r3 (imm8 = sign_ext(s<<7 | imm7b, 8))` (R791). -/
def execCmpNeOrAndcmA8 (qp p1 p2 : BitVec 6) (r3 : BitVec 7) (imm8 : BitVec 8) (s : State) : Host.Outcome State Fault Refusal :=
  cmp8 .orAndcm .ne qp p1 p2 ⟨sx imm8, false⟩ (s.gr r3) s

/-- `cmp4.lt p1, p2 = imm8, r3 (imm8 = sign_ext(s<<7 | imm7b, 8))` (R792). -/
def execCmp4LtA8 (qp p1 p2 : BitVec 6) (r3 : BitVec 7) (imm8 : BitVec 8) (s : State) : Host.Outcome State Fault Refusal :=
  cmp4 .normal .lt qp p1 p2 ⟨sx imm8, false⟩ (s.gr r3) s

/-- `cmp4.ltu p1, p2 = imm8, r3 (imm8 = sign_ext(s<<7 | imm7b, 8))` (R792). -/
def execCmp4LtuA8 (qp p1 p2 : BitVec 6) (r3 : BitVec 7) (imm8 : BitVec 8) (s : State) : Host.Outcome State Fault Refusal :=
  cmp4 .normal .ltu qp p1 p2 ⟨sx imm8, false⟩ (s.gr r3) s

/-- `cmp4.eq p1, p2 = imm8, r3 (imm8 = sign_ext(s<<7 | imm7b, 8))` (R792). -/
def execCmp4EqA8 (qp p1 p2 : BitVec 6) (r3 : BitVec 7) (imm8 : BitVec 8) (s : State) : Host.Outcome State Fault Refusal :=
  cmp4 .normal .eq qp p1 p2 ⟨sx imm8, false⟩ (s.gr r3) s

/-- `cmp4.lt.unc p1, p2 = imm8, r3 (imm8 = sign_ext(s<<7 | imm7b, 8))` (R792). -/
def execCmp4LtUncA8 (qp p1 p2 : BitVec 6) (r3 : BitVec 7) (imm8 : BitVec 8) (s : State) : Host.Outcome State Fault Refusal :=
  cmp4 .unc .lt qp p1 p2 ⟨sx imm8, false⟩ (s.gr r3) s

/-- `cmp4.ltu.unc p1, p2 = imm8, r3 (imm8 = sign_ext(s<<7 | imm7b, 8))` (R792). -/
def execCmp4LtuUncA8 (qp p1 p2 : BitVec 6) (r3 : BitVec 7) (imm8 : BitVec 8) (s : State) : Host.Outcome State Fault Refusal :=
  cmp4 .unc .ltu qp p1 p2 ⟨sx imm8, false⟩ (s.gr r3) s

/-- `cmp4.eq.unc p1, p2 = imm8, r3 (imm8 = sign_ext(s<<7 | imm7b, 8))` (R792). -/
def execCmp4EqUncA8 (qp p1 p2 : BitVec 6) (r3 : BitVec 7) (imm8 : BitVec 8) (s : State) : Host.Outcome State Fault Refusal :=
  cmp4 .unc .eq qp p1 p2 ⟨sx imm8, false⟩ (s.gr r3) s

/-- `cmp4.eq.and p1, p2 = imm8, r3 (imm8 = sign_ext(s<<7 | imm7b, 8))` (R792). -/
def execCmp4EqAndA8 (qp p1 p2 : BitVec 6) (r3 : BitVec 7) (imm8 : BitVec 8) (s : State) : Host.Outcome State Fault Refusal :=
  cmp4 .and .eq qp p1 p2 ⟨sx imm8, false⟩ (s.gr r3) s

/-- `cmp4.eq.or p1, p2 = imm8, r3 (imm8 = sign_ext(s<<7 | imm7b, 8))` (R792). -/
def execCmp4EqOrA8 (qp p1 p2 : BitVec 6) (r3 : BitVec 7) (imm8 : BitVec 8) (s : State) : Host.Outcome State Fault Refusal :=
  cmp4 .or .eq qp p1 p2 ⟨sx imm8, false⟩ (s.gr r3) s

/-- `cmp4.eq.or.andcm p1, p2 = imm8, r3 (imm8 = sign_ext(s<<7 | imm7b, 8))` (R792). -/
def execCmp4EqOrAndcmA8 (qp p1 p2 : BitVec 6) (r3 : BitVec 7) (imm8 : BitVec 8) (s : State) : Host.Outcome State Fault Refusal :=
  cmp4 .orAndcm .eq qp p1 p2 ⟨sx imm8, false⟩ (s.gr r3) s

/-- `cmp4.ne.and p1, p2 = imm8, r3 (imm8 = sign_ext(s<<7 | imm7b, 8))` (R792). -/
def execCmp4NeAndA8 (qp p1 p2 : BitVec 6) (r3 : BitVec 7) (imm8 : BitVec 8) (s : State) : Host.Outcome State Fault Refusal :=
  cmp4 .and .ne qp p1 p2 ⟨sx imm8, false⟩ (s.gr r3) s

/-- `cmp4.ne.or p1, p2 = imm8, r3 (imm8 = sign_ext(s<<7 | imm7b, 8))` (R792). -/
def execCmp4NeOrA8 (qp p1 p2 : BitVec 6) (r3 : BitVec 7) (imm8 : BitVec 8) (s : State) : Host.Outcome State Fault Refusal :=
  cmp4 .or .ne qp p1 p2 ⟨sx imm8, false⟩ (s.gr r3) s

/-- `cmp4.ne.or.andcm p1, p2 = imm8, r3 (imm8 = sign_ext(s<<7 | imm7b, 8))` (R792). -/
def execCmp4NeOrAndcmA8 (qp p1 p2 : BitVec 6) (r3 : BitVec 7) (imm8 : BitVec 8) (s : State) : Host.Outcome State Fault Refusal :=
  cmp4 .orAndcm .ne qp p1 p2 ⟨sx imm8, false⟩ (s.gr r3) s

/-- `tbit.z p1, p2 = r3, pos6` (R794). -/
def execTbitZI16 (qp p1 p2 : BitVec 6) (r3 : BitVec 7) (pos6b : BitVec 6) (s : State) : Host.Outcome State Fault Refusal :=
  compare .normal qp p1 p2 (!(bit (s.gr r3).val pos6b.toNat)) (s.gr r3).nat s

/-- `tbit.z.unc p1, p2 = r3, pos6` (R794). -/
def execTbitZUncI16 (qp p1 p2 : BitVec 6) (r3 : BitVec 7) (pos6b : BitVec 6) (s : State) : Host.Outcome State Fault Refusal :=
  compare .unc qp p1 p2 (!(bit (s.gr r3).val pos6b.toNat)) (s.gr r3).nat s

/-- `tbit.z.and p1, p2 = r3, pos6` (R794). -/
def execTbitZAndI16 (qp p1 p2 : BitVec 6) (r3 : BitVec 7) (pos6b : BitVec 6) (s : State) : Host.Outcome State Fault Refusal :=
  compare .and qp p1 p2 (!(bit (s.gr r3).val pos6b.toNat)) (s.gr r3).nat s

/-- `tbit.nz.and p1, p2 = r3, pos6` (R794). -/
def execTbitNzAndI16 (qp p1 p2 : BitVec 6) (r3 : BitVec 7) (pos6b : BitVec 6) (s : State) : Host.Outcome State Fault Refusal :=
  compare .and qp p1 p2 (bit (s.gr r3).val pos6b.toNat) (s.gr r3).nat s

/-- `tbit.z.or p1, p2 = r3, pos6` (R794). -/
def execTbitZOrI16 (qp p1 p2 : BitVec 6) (r3 : BitVec 7) (pos6b : BitVec 6) (s : State) : Host.Outcome State Fault Refusal :=
  compare .or qp p1 p2 (!(bit (s.gr r3).val pos6b.toNat)) (s.gr r3).nat s

/-- `tbit.nz.or p1, p2 = r3, pos6` (R794). -/
def execTbitNzOrI16 (qp p1 p2 : BitVec 6) (r3 : BitVec 7) (pos6b : BitVec 6) (s : State) : Host.Outcome State Fault Refusal :=
  compare .or qp p1 p2 (bit (s.gr r3).val pos6b.toNat) (s.gr r3).nat s

/-- `tbit.z.or.andcm p1, p2 = r3, pos6` (R794). -/
def execTbitZOrAndcmI16 (qp p1 p2 : BitVec 6) (r3 : BitVec 7) (pos6b : BitVec 6) (s : State) : Host.Outcome State Fault Refusal :=
  compare .orAndcm qp p1 p2 (!(bit (s.gr r3).val pos6b.toNat)) (s.gr r3).nat s

/-- `tbit.nz.or.andcm p1, p2 = r3, pos6` (R794). -/
def execTbitNzOrAndcmI16 (qp p1 p2 : BitVec 6) (r3 : BitVec 7) (pos6b : BitVec 6) (s : State) : Host.Outcome State Fault Refusal :=
  compare .orAndcm qp p1 p2 (bit (s.gr r3).val pos6b.toNat) (s.gr r3).nat s

/-- `tnat.z p1, p2 = r3` (R795). -/
def execTnatZI17 (qp p1 p2 : BitVec 6) (r3 : BitVec 7) (s : State) : Host.Outcome State Fault Refusal :=
  compare .normal qp p1 p2 (!((s.gr r3).nat)) false s

/-- `tnat.z.unc p1, p2 = r3` (R795). -/
def execTnatZUncI17 (qp p1 p2 : BitVec 6) (r3 : BitVec 7) (s : State) : Host.Outcome State Fault Refusal :=
  compare .unc qp p1 p2 (!((s.gr r3).nat)) false s

/-- `tnat.z.and p1, p2 = r3` (R795). -/
def execTnatZAndI17 (qp p1 p2 : BitVec 6) (r3 : BitVec 7) (s : State) : Host.Outcome State Fault Refusal :=
  compare .and qp p1 p2 (!((s.gr r3).nat)) false s

/-- `tnat.nz.and p1, p2 = r3` (R795). -/
def execTnatNzAndI17 (qp p1 p2 : BitVec 6) (r3 : BitVec 7) (s : State) : Host.Outcome State Fault Refusal :=
  compare .and qp p1 p2 ((s.gr r3).nat) false s

/-- `tnat.z.or p1, p2 = r3` (R795). -/
def execTnatZOrI17 (qp p1 p2 : BitVec 6) (r3 : BitVec 7) (s : State) : Host.Outcome State Fault Refusal :=
  compare .or qp p1 p2 (!((s.gr r3).nat)) false s

/-- `tnat.nz.or p1, p2 = r3` (R795). -/
def execTnatNzOrI17 (qp p1 p2 : BitVec 6) (r3 : BitVec 7) (s : State) : Host.Outcome State Fault Refusal :=
  compare .or qp p1 p2 ((s.gr r3).nat) false s

/-- `tnat.z.or.andcm p1, p2 = r3` (R795). -/
def execTnatZOrAndcmI17 (qp p1 p2 : BitVec 6) (r3 : BitVec 7) (s : State) : Host.Outcome State Fault Refusal :=
  compare .orAndcm qp p1 p2 (!((s.gr r3).nat)) false s

/-- `tnat.nz.or.andcm p1, p2 = r3` (R795). -/
def execTnatNzOrAndcmI17 (qp p1 p2 : BitVec 6) (r3 : BitVec 7) (s : State) : Host.Outcome State Fault Refusal :=
  compare .orAndcm qp p1 p2 ((s.gr r3).nat) false s

/-- `tf.z p1, p2 = imm5 (imm5 = imm5b + 32)` (R796). -/
def execTfZI30 (qp p1 p2 : BitVec 6) (imm5b : BitVec 5) (s : State) : Host.Outcome State Fault Refusal :=
  compare .normal qp p1 p2 (!(featureBit imm5b)) false s

/-- `tf.z.unc p1, p2 = imm5 (imm5 = imm5b + 32)` (R796). -/
def execTfZUncI30 (qp p1 p2 : BitVec 6) (imm5b : BitVec 5) (s : State) : Host.Outcome State Fault Refusal :=
  compare .unc qp p1 p2 (!(featureBit imm5b)) false s

/-- `tf.z.and p1, p2 = imm5 (imm5 = imm5b + 32)` (R796). -/
def execTfZAndI30 (qp p1 p2 : BitVec 6) (imm5b : BitVec 5) (s : State) : Host.Outcome State Fault Refusal :=
  compare .and qp p1 p2 (!(featureBit imm5b)) false s

/-- `tf.nz.and p1, p2 = imm5 (imm5 = imm5b + 32)` (R796). -/
def execTfNzAndI30 (qp p1 p2 : BitVec 6) (imm5b : BitVec 5) (s : State) : Host.Outcome State Fault Refusal :=
  compare .and qp p1 p2 (featureBit imm5b) false s

/-- `tf.z.or p1, p2 = imm5 (imm5 = imm5b + 32)` (R796). -/
def execTfZOrI30 (qp p1 p2 : BitVec 6) (imm5b : BitVec 5) (s : State) : Host.Outcome State Fault Refusal :=
  compare .or qp p1 p2 (!(featureBit imm5b)) false s

/-- `tf.nz.or p1, p2 = imm5 (imm5 = imm5b + 32)` (R796). -/
def execTfNzOrI30 (qp p1 p2 : BitVec 6) (imm5b : BitVec 5) (s : State) : Host.Outcome State Fault Refusal :=
  compare .or qp p1 p2 (featureBit imm5b) false s

/-- `tf.z.or.andcm p1, p2 = imm5 (imm5 = imm5b + 32)` (R796). -/
def execTfZOrAndcmI30 (qp p1 p2 : BitVec 6) (imm5b : BitVec 5) (s : State) : Host.Outcome State Fault Refusal :=
  compare .orAndcm qp p1 p2 (!(featureBit imm5b)) false s

/-- `tf.nz.or.andcm p1, p2 = imm5 (imm5 = imm5b + 32)` (R796). -/
def execTfNzOrAndcmI30 (qp p1 p2 : BitVec 6) (imm5b : BitVec 5) (s : State) : Host.Outcome State Fault Refusal :=
  compare .orAndcm qp p1 p2 (featureBit imm5b) false s

end Sys2Proof.Machine
end

