-- ==== Sys2Proof/Machine/Load.lean ====
section
/-! DEFINITION. Integer loads (formats M1 to M3; 41_load_store.md section 1), and what loads of both register files
share: deferral and the ALAT. -/

namespace Sys2Proof.Machine

/-- The load types (R606). -/
inductive LdType where
  | normal | s | a | sa | bias | acq | cClr | cNc | cClrAcq
deriving DecidableEq, Repr

/-- ld.s and ld.sa. -/
def LdType.speculative (t : LdType) : Bool := t == .s || t == .sa

/-- ld.a and ld.sa. -/
def LdType.advanced (t : LdType) : Bool := t == .a || t == .sa

/-- The check loads that remove the entry. -/
def LdType.checkClear (t : LdType) : Bool := t == .cClr || t == .cClrAcq

/-- The check loads. -/
def LdType.isCheck (t : LdType) : Bool := t == .cNc || t.checkClear

/-- The read access that a load reports (R1122). -/
def LdType.access (t : LdType) : Access := { r := true, sp := t.speculative }

/-- The default of `SPEC_DEFERRAL_POLICY` (R602, D33): with PSR.ic = 0 every fault of a speculative load is deferred,
with PSR.ic = 1 only Data NaT Page Consumption. -/
def State.defersFault (s : State) (i : Interruption) : Bool :=
  !s.psrBit Psr.ic || (i.vector = Ivt.natConsumption ∧ i.code = 0x20)

/-- `spontaneous_deferral` (R603): never while PAL's feature bit 44 is 0 (R1056; the default of D33); else a free choice,
unless the hint register selects `pipe_block` (R79). -/
def State.defersFreely (s : State) (hint : BitVec 3) : Bool :=
  bit s.pal.features 44 && !bit s.dahr[hint.toFin] 9 && Config.freeBit .spontaneous s.fresh

/-- Where a load goes (R601). -/
inductive Destination where
  /-- It is deferred, with what the VHPT walker inserted for it (R208). -/
  | deferred (walked : Option TlbEntry)
  | memory (a : Translation)
deriving DecidableEq, Repr

/-- Where a load goes (R601, R602, R603, R167). With PSR.ic = 1 the page's attribute is looked at after every fault of R210:
of a speculative load to a page without the speculative attribute that also meets a fault which is not deferred, R602 says
both that the fault is raised and that the load is always deferred, and the fault is raised (DESIGN CHOICE, log entry 33). -/
def State.loadAddress (s : State) (t : LdType) (hint : BitVec 3) (base : Gr) (r : Ref) :
    Except Stop Destination :=
  if t.speculative && (base.nat || s.psrBit Psr.ed) then .ok (.deferred none)
  else
    match s.translate (s.psrBit Psr.dt) base.val r with
    | .error x =>
      if t.speculative && s.defersFault x.fault then do
        s.checkWalk false x.walked
        .ok (.deferred x.walked)
      else s.faulted x
    | .ok a => do
      s.checkWalk false a.walked
      if (t.speculative || t.advanced) && !maSpeculative a.ma then .ok (.deferred a.walked)
      else if t.speculative && s.defersFreely hint then .ok (.deferred a.walked)
      else .ok (.memory a)

/-- The entry for `reg` after a load that read memory (R601): removed by clear and advanced forms, made by no-clear
and advanced forms where the page may be read speculatively. -/
def State.loadAlat (s : State) (t : LdType) (reg : AlatReg) (a : Translation) (size : Nat) : State :=
  if (t == .cNc || t.advanced) && maSpeculative a.ma then s.alatWrite reg a.pa size
  else if t.checkClear || t.advanced then s.alatInvalEntry reg
  else s

/-- The same for a load that reads nothing: deferred, or a check load that hits (R601). -/
def State.skipAlat (s : State) (t : LdType) (reg : AlatReg) : State :=
  if t.checkClear || t.advanced then s.alatInvalEntry reg else s

/-- The reference of a load at the current privilege level. -/
def State.loadRef (s : State) (t : LdType) (size align : Nat) : Ref :=
  { access := t.access, size, align, pl := s.cpl }

/-- The register part of `ld` (R601): what stands in GR r1 after the access, `fill` for the NaT bit from UNAT (R605).
A check load that hits leaves r1 as it is. -/
def State.loadInto (s : State) (t : LdType) (fill : Bool) (size : Nat) (hint : BitVec 3) (r1 r3 : BitVec 7) :
    Except Stop State :=
  let base := s.gr r3
  let reg := s.alatGr r1
  if t.isCheck && s.alatCmp reg then .ok (s.skipAlat t reg)
  else do
    match ← s.loadAddress t hint base (s.loadRef t size size) with
    | .deferred walked =>
      .ok (((s.keepWalk walked).skipAlat t reg).setGr r1
        (if t.speculative then ⟨Config.freeWord .natd s.fresh, true⟩ else Gr.ofWord 0))
    | .memory a =>
      let v ← s.load a.pa size (s.psrBit Psr.be) a.ma
      let nat := fill && bit s.ar.unat (fld base.val 3 6 : BitVec 6).toNat
      .ok (((s.touch a).loadAlat t reg a size).setGr r1 ⟨v, nat⟩)

/-- `ld` (R601, R605) of `size` bytes. -/
def loadGr (t : LdType) (fill : Bool) (size : Nat) (hint : BitVec 3) (post : Post) (qp : BitVec 6)
    (r1 r3 : BitVec 7) (s : State) : Host.Outcome State Fault Refusal :=
  predicated qp s do
    check (post.updates && r1 == r3) illegalOperation
    s.checkTarget r1
    s.checkPost r3 post
    check (!t.speculative && (s.gr r3).nat) (natConsumption t.access)
    let u ← s.loadInto t fill size hint r1 r3
    done (u.postUpdate s r3 post)

/-- A reference with its support restricted to write-back pages where wider ones are not supported (R166, R9). -/
def Ref.wide (r : Ref) : Ref := { r with cacheableOnly := !Config.wideUncacheable }

/-- `ld16` (R601, R604): the low address to GR r1, the high one to AR[CSD]. -/
def load16 (qp : BitVec 6) (r1 r3 : BitVec 7) (s : State) : Host.Outcome State Fault Refusal :=
  ifImplemented Config.implLd16St16 qp s <| predicated qp s do
    s.checkTarget r1
    check (s.gr r3).nat (natConsumption { r := true })
    match ← s.loadAddress .normal 0 (s.gr r3) (s.loadRef .normal 16 16).wide with
    | .deferred walked => done (s.keepWalk walked)
    | .memory a =>
      let lo ← s.load a.pa 8 (s.psrBit Psr.be) a.ma
      let hi ← s.load (a.pa + 8) 8 (s.psrBit Psr.be) a.ma
      let u := (s.touch a).setGr r1 (Gr.ofWord lo)
      done { u with ar := { u.ar with csd := hi } }

/-- `ld1 r1 = [r3]` (R601). -/
def execLd1M1 (qp : BitVec 6) (r1 r3 : BitVec 7) (hint : BitVec 2) (h : BitVec 1) (s : State) : Host.Outcome State Fault Refusal :=
  loadGr .normal false 1 (hint8 h hint) .none qp r1 r3 s

/-- `ld2 r1 = [r3]` (R601). -/
def execLd2M1 (qp : BitVec 6) (r1 r3 : BitVec 7) (hint : BitVec 2) (h : BitVec 1) (s : State) : Host.Outcome State Fault Refusal :=
  loadGr .normal false 2 (hint8 h hint) .none qp r1 r3 s

/-- `ld4 r1 = [r3]` (R601). -/
def execLd4M1 (qp : BitVec 6) (r1 r3 : BitVec 7) (hint : BitVec 2) (h : BitVec 1) (s : State) : Host.Outcome State Fault Refusal :=
  loadGr .normal false 4 (hint8 h hint) .none qp r1 r3 s

/-- `ld8 r1 = [r3]` (R601). -/
def execLd8M1 (qp : BitVec 6) (r1 r3 : BitVec 7) (hint : BitVec 2) (h : BitVec 1) (s : State) : Host.Outcome State Fault Refusal :=
  loadGr .normal false 8 (hint8 h hint) .none qp r1 r3 s

/-- `ld1.s r1 = [r3]` (R601). -/
def execLd1SM1 (qp : BitVec 6) (r1 r3 : BitVec 7) (hint : BitVec 2) (h : BitVec 1) (s : State) : Host.Outcome State Fault Refusal :=
  loadGr .s false 1 (hint8 h hint) .none qp r1 r3 s

/-- `ld2.s r1 = [r3]` (R601). -/
def execLd2SM1 (qp : BitVec 6) (r1 r3 : BitVec 7) (hint : BitVec 2) (h : BitVec 1) (s : State) : Host.Outcome State Fault Refusal :=
  loadGr .s false 2 (hint8 h hint) .none qp r1 r3 s

/-- `ld4.s r1 = [r3]` (R601). -/
def execLd4SM1 (qp : BitVec 6) (r1 r3 : BitVec 7) (hint : BitVec 2) (h : BitVec 1) (s : State) : Host.Outcome State Fault Refusal :=
  loadGr .s false 4 (hint8 h hint) .none qp r1 r3 s

/-- `ld8.s r1 = [r3]` (R601). -/
def execLd8SM1 (qp : BitVec 6) (r1 r3 : BitVec 7) (hint : BitVec 2) (h : BitVec 1) (s : State) : Host.Outcome State Fault Refusal :=
  loadGr .s false 8 (hint8 h hint) .none qp r1 r3 s

/-- `ld1.a r1 = [r3]` (R601). -/
def execLd1AM1 (qp : BitVec 6) (r1 r3 : BitVec 7) (hint : BitVec 2) (h : BitVec 1) (s : State) : Host.Outcome State Fault Refusal :=
  loadGr .a false 1 (hint8 h hint) .none qp r1 r3 s

/-- `ld2.a r1 = [r3]` (R601). -/
def execLd2AM1 (qp : BitVec 6) (r1 r3 : BitVec 7) (hint : BitVec 2) (h : BitVec 1) (s : State) : Host.Outcome State Fault Refusal :=
  loadGr .a false 2 (hint8 h hint) .none qp r1 r3 s

/-- `ld4.a r1 = [r3]` (R601). -/
def execLd4AM1 (qp : BitVec 6) (r1 r3 : BitVec 7) (hint : BitVec 2) (h : BitVec 1) (s : State) : Host.Outcome State Fault Refusal :=
  loadGr .a false 4 (hint8 h hint) .none qp r1 r3 s

/-- `ld8.a r1 = [r3]` (R601). -/
def execLd8AM1 (qp : BitVec 6) (r1 r3 : BitVec 7) (hint : BitVec 2) (h : BitVec 1) (s : State) : Host.Outcome State Fault Refusal :=
  loadGr .a false 8 (hint8 h hint) .none qp r1 r3 s

/-- `ld1.sa r1 = [r3]` (R601). -/
def execLd1SaM1 (qp : BitVec 6) (r1 r3 : BitVec 7) (hint : BitVec 2) (h : BitVec 1) (s : State) : Host.Outcome State Fault Refusal :=
  loadGr .sa false 1 (hint8 h hint) .none qp r1 r3 s

/-- `ld2.sa r1 = [r3]` (R601). -/
def execLd2SaM1 (qp : BitVec 6) (r1 r3 : BitVec 7) (hint : BitVec 2) (h : BitVec 1) (s : State) : Host.Outcome State Fault Refusal :=
  loadGr .sa false 2 (hint8 h hint) .none qp r1 r3 s

/-- `ld4.sa r1 = [r3]` (R601). -/
def execLd4SaM1 (qp : BitVec 6) (r1 r3 : BitVec 7) (hint : BitVec 2) (h : BitVec 1) (s : State) : Host.Outcome State Fault Refusal :=
  loadGr .sa false 4 (hint8 h hint) .none qp r1 r3 s

/-- `ld8.sa r1 = [r3]` (R601). -/
def execLd8SaM1 (qp : BitVec 6) (r1 r3 : BitVec 7) (hint : BitVec 2) (h : BitVec 1) (s : State) : Host.Outcome State Fault Refusal :=
  loadGr .sa false 8 (hint8 h hint) .none qp r1 r3 s

/-- `ld1.bias r1 = [r3]` (R601). -/
def execLd1BiasM1 (qp : BitVec 6) (r1 r3 : BitVec 7) (hint : BitVec 2) (h : BitVec 1) (s : State) : Host.Outcome State Fault Refusal :=
  loadGr .bias false 1 (hint8 h hint) .none qp r1 r3 s

/-- `ld2.bias r1 = [r3]` (R601). -/
def execLd2BiasM1 (qp : BitVec 6) (r1 r3 : BitVec 7) (hint : BitVec 2) (h : BitVec 1) (s : State) : Host.Outcome State Fault Refusal :=
  loadGr .bias false 2 (hint8 h hint) .none qp r1 r3 s

/-- `ld4.bias r1 = [r3]` (R601). -/
def execLd4BiasM1 (qp : BitVec 6) (r1 r3 : BitVec 7) (hint : BitVec 2) (h : BitVec 1) (s : State) : Host.Outcome State Fault Refusal :=
  loadGr .bias false 4 (hint8 h hint) .none qp r1 r3 s

/-- `ld8.bias r1 = [r3]` (R601). -/
def execLd8BiasM1 (qp : BitVec 6) (r1 r3 : BitVec 7) (hint : BitVec 2) (h : BitVec 1) (s : State) : Host.Outcome State Fault Refusal :=
  loadGr .bias false 8 (hint8 h hint) .none qp r1 r3 s

/-- `ld1.acq r1 = [r3]` (R601). -/
def execLd1AcqM1 (qp : BitVec 6) (r1 r3 : BitVec 7) (hint : BitVec 2) (h : BitVec 1) (s : State) : Host.Outcome State Fault Refusal :=
  loadGr .acq false 1 (hint8 h hint) .none qp r1 r3 s

/-- `ld2.acq r1 = [r3]` (R601). -/
def execLd2AcqM1 (qp : BitVec 6) (r1 r3 : BitVec 7) (hint : BitVec 2) (h : BitVec 1) (s : State) : Host.Outcome State Fault Refusal :=
  loadGr .acq false 2 (hint8 h hint) .none qp r1 r3 s

/-- `ld4.acq r1 = [r3]` (R601). -/
def execLd4AcqM1 (qp : BitVec 6) (r1 r3 : BitVec 7) (hint : BitVec 2) (h : BitVec 1) (s : State) : Host.Outcome State Fault Refusal :=
  loadGr .acq false 4 (hint8 h hint) .none qp r1 r3 s

/-- `ld8.acq r1 = [r3]` (R601). -/
def execLd8AcqM1 (qp : BitVec 6) (r1 r3 : BitVec 7) (hint : BitVec 2) (h : BitVec 1) (s : State) : Host.Outcome State Fault Refusal :=
  loadGr .acq false 8 (hint8 h hint) .none qp r1 r3 s

/-- `ld1.c.clr r1 = [r3]` (R601). -/
def execLd1CClrM1 (qp : BitVec 6) (r1 r3 : BitVec 7) (hint : BitVec 2) (h : BitVec 1) (s : State) : Host.Outcome State Fault Refusal :=
  loadGr .cClr false 1 (hint8 h hint) .none qp r1 r3 s

/-- `ld2.c.clr r1 = [r3]` (R601). -/
def execLd2CClrM1 (qp : BitVec 6) (r1 r3 : BitVec 7) (hint : BitVec 2) (h : BitVec 1) (s : State) : Host.Outcome State Fault Refusal :=
  loadGr .cClr false 2 (hint8 h hint) .none qp r1 r3 s

/-- `ld4.c.clr r1 = [r3]` (R601). -/
def execLd4CClrM1 (qp : BitVec 6) (r1 r3 : BitVec 7) (hint : BitVec 2) (h : BitVec 1) (s : State) : Host.Outcome State Fault Refusal :=
  loadGr .cClr false 4 (hint8 h hint) .none qp r1 r3 s

/-- `ld8.c.clr r1 = [r3]` (R601). -/
def execLd8CClrM1 (qp : BitVec 6) (r1 r3 : BitVec 7) (hint : BitVec 2) (h : BitVec 1) (s : State) : Host.Outcome State Fault Refusal :=
  loadGr .cClr false 8 (hint8 h hint) .none qp r1 r3 s

/-- `ld1.c.nc r1 = [r3]` (R601). -/
def execLd1CNcM1 (qp : BitVec 6) (r1 r3 : BitVec 7) (hint : BitVec 2) (h : BitVec 1) (s : State) : Host.Outcome State Fault Refusal :=
  loadGr .cNc false 1 (hint8 h hint) .none qp r1 r3 s

/-- `ld2.c.nc r1 = [r3]` (R601). -/
def execLd2CNcM1 (qp : BitVec 6) (r1 r3 : BitVec 7) (hint : BitVec 2) (h : BitVec 1) (s : State) : Host.Outcome State Fault Refusal :=
  loadGr .cNc false 2 (hint8 h hint) .none qp r1 r3 s

/-- `ld4.c.nc r1 = [r3]` (R601). -/
def execLd4CNcM1 (qp : BitVec 6) (r1 r3 : BitVec 7) (hint : BitVec 2) (h : BitVec 1) (s : State) : Host.Outcome State Fault Refusal :=
  loadGr .cNc false 4 (hint8 h hint) .none qp r1 r3 s

/-- `ld8.c.nc r1 = [r3]` (R601). -/
def execLd8CNcM1 (qp : BitVec 6) (r1 r3 : BitVec 7) (hint : BitVec 2) (h : BitVec 1) (s : State) : Host.Outcome State Fault Refusal :=
  loadGr .cNc false 8 (hint8 h hint) .none qp r1 r3 s

/-- `ld1.c.clr.acq r1 = [r3]` (R601). -/
def execLd1CClrAcqM1 (qp : BitVec 6) (r1 r3 : BitVec 7) (hint : BitVec 2) (h : BitVec 1) (s : State) : Host.Outcome State Fault Refusal :=
  loadGr .cClrAcq false 1 (hint8 h hint) .none qp r1 r3 s

/-- `ld2.c.clr.acq r1 = [r3]` (R601). -/
def execLd2CClrAcqM1 (qp : BitVec 6) (r1 r3 : BitVec 7) (hint : BitVec 2) (h : BitVec 1) (s : State) : Host.Outcome State Fault Refusal :=
  loadGr .cClrAcq false 2 (hint8 h hint) .none qp r1 r3 s

/-- `ld4.c.clr.acq r1 = [r3]` (R601). -/
def execLd4CClrAcqM1 (qp : BitVec 6) (r1 r3 : BitVec 7) (hint : BitVec 2) (h : BitVec 1) (s : State) : Host.Outcome State Fault Refusal :=
  loadGr .cClrAcq false 4 (hint8 h hint) .none qp r1 r3 s

/-- `ld8.c.clr.acq r1 = [r3]` (R601). -/
def execLd8CClrAcqM1 (qp : BitVec 6) (r1 r3 : BitVec 7) (hint : BitVec 2) (h : BitVec 1) (s : State) : Host.Outcome State Fault Refusal :=
  loadGr .cClrAcq false 8 (hint8 h hint) .none qp r1 r3 s

/-- `ld8.fill r1 = [r3]` (R605). -/
def execLd8FillM1 (qp : BitVec 6) (r1 r3 : BitVec 7) (hint : BitVec 2) (h : BitVec 1) (s : State) : Host.Outcome State Fault Refusal :=
  loadGr .normal true 8 (hint8 h hint) .none qp r1 r3 s

/-- `ld16 r1, ar.csd = [r3]` (R604). -/
def execLd16M1 (qp : BitVec 6) (r1 r3 : BitVec 7) (_hint : BitVec 2) (_h : BitVec 1) (s : State) : Host.Outcome State Fault Refusal :=
  load16 qp r1 r3 s

/-- `ld16.acq r1, ar.csd = [r3]` (R604). -/
def execLd16AcqM1 (qp : BitVec 6) (r1 r3 : BitVec 7) (_hint : BitVec 2) (_h : BitVec 1) (s : State) : Host.Outcome State Fault Refusal :=
  load16 qp r1 r3 s

/-- `ld1 r1 = [r3], r2` (R601). -/
def execLd1M2 (qp : BitVec 6) (r1 r2 r3 : BitVec 7) (hint : BitVec 2) (s : State) : Host.Outcome State Fault Refusal :=
  loadGr .normal false 1 (hint4 hint) (.reg r2) qp r1 r3 s

/-- `ld2 r1 = [r3], r2` (R601). -/
def execLd2M2 (qp : BitVec 6) (r1 r2 r3 : BitVec 7) (hint : BitVec 2) (s : State) : Host.Outcome State Fault Refusal :=
  loadGr .normal false 2 (hint4 hint) (.reg r2) qp r1 r3 s

/-- `ld4 r1 = [r3], r2` (R601). -/
def execLd4M2 (qp : BitVec 6) (r1 r2 r3 : BitVec 7) (hint : BitVec 2) (s : State) : Host.Outcome State Fault Refusal :=
  loadGr .normal false 4 (hint4 hint) (.reg r2) qp r1 r3 s

/-- `ld8 r1 = [r3], r2` (R601). -/
def execLd8M2 (qp : BitVec 6) (r1 r2 r3 : BitVec 7) (hint : BitVec 2) (s : State) : Host.Outcome State Fault Refusal :=
  loadGr .normal false 8 (hint4 hint) (.reg r2) qp r1 r3 s

/-- `ld1.s r1 = [r3], r2` (R601). -/
def execLd1SM2 (qp : BitVec 6) (r1 r2 r3 : BitVec 7) (hint : BitVec 2) (s : State) : Host.Outcome State Fault Refusal :=
  loadGr .s false 1 (hint4 hint) (.reg r2) qp r1 r3 s

/-- `ld2.s r1 = [r3], r2` (R601). -/
def execLd2SM2 (qp : BitVec 6) (r1 r2 r3 : BitVec 7) (hint : BitVec 2) (s : State) : Host.Outcome State Fault Refusal :=
  loadGr .s false 2 (hint4 hint) (.reg r2) qp r1 r3 s

/-- `ld4.s r1 = [r3], r2` (R601). -/
def execLd4SM2 (qp : BitVec 6) (r1 r2 r3 : BitVec 7) (hint : BitVec 2) (s : State) : Host.Outcome State Fault Refusal :=
  loadGr .s false 4 (hint4 hint) (.reg r2) qp r1 r3 s

/-- `ld8.s r1 = [r3], r2` (R601). -/
def execLd8SM2 (qp : BitVec 6) (r1 r2 r3 : BitVec 7) (hint : BitVec 2) (s : State) : Host.Outcome State Fault Refusal :=
  loadGr .s false 8 (hint4 hint) (.reg r2) qp r1 r3 s

/-- `ld1.a r1 = [r3], r2` (R601). -/
def execLd1AM2 (qp : BitVec 6) (r1 r2 r3 : BitVec 7) (hint : BitVec 2) (s : State) : Host.Outcome State Fault Refusal :=
  loadGr .a false 1 (hint4 hint) (.reg r2) qp r1 r3 s

/-- `ld2.a r1 = [r3], r2` (R601). -/
def execLd2AM2 (qp : BitVec 6) (r1 r2 r3 : BitVec 7) (hint : BitVec 2) (s : State) : Host.Outcome State Fault Refusal :=
  loadGr .a false 2 (hint4 hint) (.reg r2) qp r1 r3 s

/-- `ld4.a r1 = [r3], r2` (R601). -/
def execLd4AM2 (qp : BitVec 6) (r1 r2 r3 : BitVec 7) (hint : BitVec 2) (s : State) : Host.Outcome State Fault Refusal :=
  loadGr .a false 4 (hint4 hint) (.reg r2) qp r1 r3 s

/-- `ld8.a r1 = [r3], r2` (R601). -/
def execLd8AM2 (qp : BitVec 6) (r1 r2 r3 : BitVec 7) (hint : BitVec 2) (s : State) : Host.Outcome State Fault Refusal :=
  loadGr .a false 8 (hint4 hint) (.reg r2) qp r1 r3 s

/-- `ld1.sa r1 = [r3], r2` (R601). -/
def execLd1SaM2 (qp : BitVec 6) (r1 r2 r3 : BitVec 7) (hint : BitVec 2) (s : State) : Host.Outcome State Fault Refusal :=
  loadGr .sa false 1 (hint4 hint) (.reg r2) qp r1 r3 s

/-- `ld2.sa r1 = [r3], r2` (R601). -/
def execLd2SaM2 (qp : BitVec 6) (r1 r2 r3 : BitVec 7) (hint : BitVec 2) (s : State) : Host.Outcome State Fault Refusal :=
  loadGr .sa false 2 (hint4 hint) (.reg r2) qp r1 r3 s

/-- `ld4.sa r1 = [r3], r2` (R601). -/
def execLd4SaM2 (qp : BitVec 6) (r1 r2 r3 : BitVec 7) (hint : BitVec 2) (s : State) : Host.Outcome State Fault Refusal :=
  loadGr .sa false 4 (hint4 hint) (.reg r2) qp r1 r3 s

/-- `ld8.sa r1 = [r3], r2` (R601). -/
def execLd8SaM2 (qp : BitVec 6) (r1 r2 r3 : BitVec 7) (hint : BitVec 2) (s : State) : Host.Outcome State Fault Refusal :=
  loadGr .sa false 8 (hint4 hint) (.reg r2) qp r1 r3 s

/-- `ld1.bias r1 = [r3], r2` (R601). -/
def execLd1BiasM2 (qp : BitVec 6) (r1 r2 r3 : BitVec 7) (hint : BitVec 2) (s : State) : Host.Outcome State Fault Refusal :=
  loadGr .bias false 1 (hint4 hint) (.reg r2) qp r1 r3 s

/-- `ld2.bias r1 = [r3], r2` (R601). -/
def execLd2BiasM2 (qp : BitVec 6) (r1 r2 r3 : BitVec 7) (hint : BitVec 2) (s : State) : Host.Outcome State Fault Refusal :=
  loadGr .bias false 2 (hint4 hint) (.reg r2) qp r1 r3 s

/-- `ld4.bias r1 = [r3], r2` (R601). -/
def execLd4BiasM2 (qp : BitVec 6) (r1 r2 r3 : BitVec 7) (hint : BitVec 2) (s : State) : Host.Outcome State Fault Refusal :=
  loadGr .bias false 4 (hint4 hint) (.reg r2) qp r1 r3 s

/-- `ld8.bias r1 = [r3], r2` (R601). -/
def execLd8BiasM2 (qp : BitVec 6) (r1 r2 r3 : BitVec 7) (hint : BitVec 2) (s : State) : Host.Outcome State Fault Refusal :=
  loadGr .bias false 8 (hint4 hint) (.reg r2) qp r1 r3 s

/-- `ld1.acq r1 = [r3], r2` (R601). -/
def execLd1AcqM2 (qp : BitVec 6) (r1 r2 r3 : BitVec 7) (hint : BitVec 2) (s : State) : Host.Outcome State Fault Refusal :=
  loadGr .acq false 1 (hint4 hint) (.reg r2) qp r1 r3 s

/-- `ld2.acq r1 = [r3], r2` (R601). -/
def execLd2AcqM2 (qp : BitVec 6) (r1 r2 r3 : BitVec 7) (hint : BitVec 2) (s : State) : Host.Outcome State Fault Refusal :=
  loadGr .acq false 2 (hint4 hint) (.reg r2) qp r1 r3 s

/-- `ld4.acq r1 = [r3], r2` (R601). -/
def execLd4AcqM2 (qp : BitVec 6) (r1 r2 r3 : BitVec 7) (hint : BitVec 2) (s : State) : Host.Outcome State Fault Refusal :=
  loadGr .acq false 4 (hint4 hint) (.reg r2) qp r1 r3 s

/-- `ld8.acq r1 = [r3], r2` (R601). -/
def execLd8AcqM2 (qp : BitVec 6) (r1 r2 r3 : BitVec 7) (hint : BitVec 2) (s : State) : Host.Outcome State Fault Refusal :=
  loadGr .acq false 8 (hint4 hint) (.reg r2) qp r1 r3 s

/-- `ld1.c.clr r1 = [r3], r2` (R601). -/
def execLd1CClrM2 (qp : BitVec 6) (r1 r2 r3 : BitVec 7) (hint : BitVec 2) (s : State) : Host.Outcome State Fault Refusal :=
  loadGr .cClr false 1 (hint4 hint) (.reg r2) qp r1 r3 s

/-- `ld2.c.clr r1 = [r3], r2` (R601). -/
def execLd2CClrM2 (qp : BitVec 6) (r1 r2 r3 : BitVec 7) (hint : BitVec 2) (s : State) : Host.Outcome State Fault Refusal :=
  loadGr .cClr false 2 (hint4 hint) (.reg r2) qp r1 r3 s

/-- `ld4.c.clr r1 = [r3], r2` (R601). -/
def execLd4CClrM2 (qp : BitVec 6) (r1 r2 r3 : BitVec 7) (hint : BitVec 2) (s : State) : Host.Outcome State Fault Refusal :=
  loadGr .cClr false 4 (hint4 hint) (.reg r2) qp r1 r3 s

/-- `ld8.c.clr r1 = [r3], r2` (R601). -/
def execLd8CClrM2 (qp : BitVec 6) (r1 r2 r3 : BitVec 7) (hint : BitVec 2) (s : State) : Host.Outcome State Fault Refusal :=
  loadGr .cClr false 8 (hint4 hint) (.reg r2) qp r1 r3 s

/-- `ld1.c.nc r1 = [r3], r2` (R601). -/
def execLd1CNcM2 (qp : BitVec 6) (r1 r2 r3 : BitVec 7) (hint : BitVec 2) (s : State) : Host.Outcome State Fault Refusal :=
  loadGr .cNc false 1 (hint4 hint) (.reg r2) qp r1 r3 s

/-- `ld2.c.nc r1 = [r3], r2` (R601). -/
def execLd2CNcM2 (qp : BitVec 6) (r1 r2 r3 : BitVec 7) (hint : BitVec 2) (s : State) : Host.Outcome State Fault Refusal :=
  loadGr .cNc false 2 (hint4 hint) (.reg r2) qp r1 r3 s

/-- `ld4.c.nc r1 = [r3], r2` (R601). -/
def execLd4CNcM2 (qp : BitVec 6) (r1 r2 r3 : BitVec 7) (hint : BitVec 2) (s : State) : Host.Outcome State Fault Refusal :=
  loadGr .cNc false 4 (hint4 hint) (.reg r2) qp r1 r3 s

/-- `ld8.c.nc r1 = [r3], r2` (R601). -/
def execLd8CNcM2 (qp : BitVec 6) (r1 r2 r3 : BitVec 7) (hint : BitVec 2) (s : State) : Host.Outcome State Fault Refusal :=
  loadGr .cNc false 8 (hint4 hint) (.reg r2) qp r1 r3 s

/-- `ld1.c.clr.acq r1 = [r3], r2` (R601). -/
def execLd1CClrAcqM2 (qp : BitVec 6) (r1 r2 r3 : BitVec 7) (hint : BitVec 2) (s : State) : Host.Outcome State Fault Refusal :=
  loadGr .cClrAcq false 1 (hint4 hint) (.reg r2) qp r1 r3 s

/-- `ld2.c.clr.acq r1 = [r3], r2` (R601). -/
def execLd2CClrAcqM2 (qp : BitVec 6) (r1 r2 r3 : BitVec 7) (hint : BitVec 2) (s : State) : Host.Outcome State Fault Refusal :=
  loadGr .cClrAcq false 2 (hint4 hint) (.reg r2) qp r1 r3 s

/-- `ld4.c.clr.acq r1 = [r3], r2` (R601). -/
def execLd4CClrAcqM2 (qp : BitVec 6) (r1 r2 r3 : BitVec 7) (hint : BitVec 2) (s : State) : Host.Outcome State Fault Refusal :=
  loadGr .cClrAcq false 4 (hint4 hint) (.reg r2) qp r1 r3 s

/-- `ld8.c.clr.acq r1 = [r3], r2` (R601). -/
def execLd8CClrAcqM2 (qp : BitVec 6) (r1 r2 r3 : BitVec 7) (hint : BitVec 2) (s : State) : Host.Outcome State Fault Refusal :=
  loadGr .cClrAcq false 8 (hint4 hint) (.reg r2) qp r1 r3 s

/-- `ld8.fill r1 = [r3], r2` (R605). -/
def execLd8FillM2 (qp : BitVec 6) (r1 r2 r3 : BitVec 7) (hint : BitVec 2) (s : State) : Host.Outcome State Fault Refusal :=
  loadGr .normal true 8 (hint4 hint) (.reg r2) qp r1 r3 s

/-- `ld1 r1 = [r3], imm9 (= sign_ext(s<<8 | i<<7 | imm7b, 9))` (R601). -/
def execLd1M3 (qp : BitVec 6) (r1 r3 : BitVec 7) (hint : BitVec 2) (imm9 : BitVec 9) (s : State) : Host.Outcome State Fault Refusal :=
  loadGr .normal false 1 (hint4 hint) (.imm (sx imm9)) qp r1 r3 s

/-- `ld2 r1 = [r3], imm9 (= sign_ext(s<<8 | i<<7 | imm7b, 9))` (R601). -/
def execLd2M3 (qp : BitVec 6) (r1 r3 : BitVec 7) (hint : BitVec 2) (imm9 : BitVec 9) (s : State) : Host.Outcome State Fault Refusal :=
  loadGr .normal false 2 (hint4 hint) (.imm (sx imm9)) qp r1 r3 s

/-- `ld4 r1 = [r3], imm9 (= sign_ext(s<<8 | i<<7 | imm7b, 9))` (R601). -/
def execLd4M3 (qp : BitVec 6) (r1 r3 : BitVec 7) (hint : BitVec 2) (imm9 : BitVec 9) (s : State) : Host.Outcome State Fault Refusal :=
  loadGr .normal false 4 (hint4 hint) (.imm (sx imm9)) qp r1 r3 s

/-- `ld8 r1 = [r3], imm9 (= sign_ext(s<<8 | i<<7 | imm7b, 9))` (R601). -/
def execLd8M3 (qp : BitVec 6) (r1 r3 : BitVec 7) (hint : BitVec 2) (imm9 : BitVec 9) (s : State) : Host.Outcome State Fault Refusal :=
  loadGr .normal false 8 (hint4 hint) (.imm (sx imm9)) qp r1 r3 s

/-- `ld1.s r1 = [r3], imm9 (= sign_ext(s<<8 | i<<7 | imm7b, 9))` (R601). -/
def execLd1SM3 (qp : BitVec 6) (r1 r3 : BitVec 7) (hint : BitVec 2) (imm9 : BitVec 9) (s : State) : Host.Outcome State Fault Refusal :=
  loadGr .s false 1 (hint4 hint) (.imm (sx imm9)) qp r1 r3 s

/-- `ld2.s r1 = [r3], imm9 (= sign_ext(s<<8 | i<<7 | imm7b, 9))` (R601). -/
def execLd2SM3 (qp : BitVec 6) (r1 r3 : BitVec 7) (hint : BitVec 2) (imm9 : BitVec 9) (s : State) : Host.Outcome State Fault Refusal :=
  loadGr .s false 2 (hint4 hint) (.imm (sx imm9)) qp r1 r3 s

/-- `ld4.s r1 = [r3], imm9 (= sign_ext(s<<8 | i<<7 | imm7b, 9))` (R601). -/
def execLd4SM3 (qp : BitVec 6) (r1 r3 : BitVec 7) (hint : BitVec 2) (imm9 : BitVec 9) (s : State) : Host.Outcome State Fault Refusal :=
  loadGr .s false 4 (hint4 hint) (.imm (sx imm9)) qp r1 r3 s

/-- `ld8.s r1 = [r3], imm9 (= sign_ext(s<<8 | i<<7 | imm7b, 9))` (R601). -/
def execLd8SM3 (qp : BitVec 6) (r1 r3 : BitVec 7) (hint : BitVec 2) (imm9 : BitVec 9) (s : State) : Host.Outcome State Fault Refusal :=
  loadGr .s false 8 (hint4 hint) (.imm (sx imm9)) qp r1 r3 s

/-- `ld1.a r1 = [r3], imm9 (= sign_ext(s<<8 | i<<7 | imm7b, 9))` (R601). -/
def execLd1AM3 (qp : BitVec 6) (r1 r3 : BitVec 7) (hint : BitVec 2) (imm9 : BitVec 9) (s : State) : Host.Outcome State Fault Refusal :=
  loadGr .a false 1 (hint4 hint) (.imm (sx imm9)) qp r1 r3 s

/-- `ld2.a r1 = [r3], imm9 (= sign_ext(s<<8 | i<<7 | imm7b, 9))` (R601). -/
def execLd2AM3 (qp : BitVec 6) (r1 r3 : BitVec 7) (hint : BitVec 2) (imm9 : BitVec 9) (s : State) : Host.Outcome State Fault Refusal :=
  loadGr .a false 2 (hint4 hint) (.imm (sx imm9)) qp r1 r3 s

/-- `ld4.a r1 = [r3], imm9 (= sign_ext(s<<8 | i<<7 | imm7b, 9))` (R601). -/
def execLd4AM3 (qp : BitVec 6) (r1 r3 : BitVec 7) (hint : BitVec 2) (imm9 : BitVec 9) (s : State) : Host.Outcome State Fault Refusal :=
  loadGr .a false 4 (hint4 hint) (.imm (sx imm9)) qp r1 r3 s

/-- `ld8.a r1 = [r3], imm9 (= sign_ext(s<<8 | i<<7 | imm7b, 9))` (R601). -/
def execLd8AM3 (qp : BitVec 6) (r1 r3 : BitVec 7) (hint : BitVec 2) (imm9 : BitVec 9) (s : State) : Host.Outcome State Fault Refusal :=
  loadGr .a false 8 (hint4 hint) (.imm (sx imm9)) qp r1 r3 s

/-- `ld1.sa r1 = [r3], imm9 (= sign_ext(s<<8 | i<<7 | imm7b, 9))` (R601). -/
def execLd1SaM3 (qp : BitVec 6) (r1 r3 : BitVec 7) (hint : BitVec 2) (imm9 : BitVec 9) (s : State) : Host.Outcome State Fault Refusal :=
  loadGr .sa false 1 (hint4 hint) (.imm (sx imm9)) qp r1 r3 s

/-- `ld2.sa r1 = [r3], imm9 (= sign_ext(s<<8 | i<<7 | imm7b, 9))` (R601). -/
def execLd2SaM3 (qp : BitVec 6) (r1 r3 : BitVec 7) (hint : BitVec 2) (imm9 : BitVec 9) (s : State) : Host.Outcome State Fault Refusal :=
  loadGr .sa false 2 (hint4 hint) (.imm (sx imm9)) qp r1 r3 s

/-- `ld4.sa r1 = [r3], imm9 (= sign_ext(s<<8 | i<<7 | imm7b, 9))` (R601). -/
def execLd4SaM3 (qp : BitVec 6) (r1 r3 : BitVec 7) (hint : BitVec 2) (imm9 : BitVec 9) (s : State) : Host.Outcome State Fault Refusal :=
  loadGr .sa false 4 (hint4 hint) (.imm (sx imm9)) qp r1 r3 s

/-- `ld8.sa r1 = [r3], imm9 (= sign_ext(s<<8 | i<<7 | imm7b, 9))` (R601). -/
def execLd8SaM3 (qp : BitVec 6) (r1 r3 : BitVec 7) (hint : BitVec 2) (imm9 : BitVec 9) (s : State) : Host.Outcome State Fault Refusal :=
  loadGr .sa false 8 (hint4 hint) (.imm (sx imm9)) qp r1 r3 s

/-- `ld1.bias r1 = [r3], imm9 (= sign_ext(s<<8 | i<<7 | imm7b, 9))` (R601). -/
def execLd1BiasM3 (qp : BitVec 6) (r1 r3 : BitVec 7) (hint : BitVec 2) (imm9 : BitVec 9) (s : State) : Host.Outcome State Fault Refusal :=
  loadGr .bias false 1 (hint4 hint) (.imm (sx imm9)) qp r1 r3 s

/-- `ld2.bias r1 = [r3], imm9 (= sign_ext(s<<8 | i<<7 | imm7b, 9))` (R601). -/
def execLd2BiasM3 (qp : BitVec 6) (r1 r3 : BitVec 7) (hint : BitVec 2) (imm9 : BitVec 9) (s : State) : Host.Outcome State Fault Refusal :=
  loadGr .bias false 2 (hint4 hint) (.imm (sx imm9)) qp r1 r3 s

/-- `ld4.bias r1 = [r3], imm9 (= sign_ext(s<<8 | i<<7 | imm7b, 9))` (R601). -/
def execLd4BiasM3 (qp : BitVec 6) (r1 r3 : BitVec 7) (hint : BitVec 2) (imm9 : BitVec 9) (s : State) : Host.Outcome State Fault Refusal :=
  loadGr .bias false 4 (hint4 hint) (.imm (sx imm9)) qp r1 r3 s

/-- `ld8.bias r1 = [r3], imm9 (= sign_ext(s<<8 | i<<7 | imm7b, 9))` (R601). -/
def execLd8BiasM3 (qp : BitVec 6) (r1 r3 : BitVec 7) (hint : BitVec 2) (imm9 : BitVec 9) (s : State) : Host.Outcome State Fault Refusal :=
  loadGr .bias false 8 (hint4 hint) (.imm (sx imm9)) qp r1 r3 s

/-- `ld1.acq r1 = [r3], imm9 (= sign_ext(s<<8 | i<<7 | imm7b, 9))` (R601). -/
def execLd1AcqM3 (qp : BitVec 6) (r1 r3 : BitVec 7) (hint : BitVec 2) (imm9 : BitVec 9) (s : State) : Host.Outcome State Fault Refusal :=
  loadGr .acq false 1 (hint4 hint) (.imm (sx imm9)) qp r1 r3 s

/-- `ld2.acq r1 = [r3], imm9 (= sign_ext(s<<8 | i<<7 | imm7b, 9))` (R601). -/
def execLd2AcqM3 (qp : BitVec 6) (r1 r3 : BitVec 7) (hint : BitVec 2) (imm9 : BitVec 9) (s : State) : Host.Outcome State Fault Refusal :=
  loadGr .acq false 2 (hint4 hint) (.imm (sx imm9)) qp r1 r3 s

/-- `ld4.acq r1 = [r3], imm9 (= sign_ext(s<<8 | i<<7 | imm7b, 9))` (R601). -/
def execLd4AcqM3 (qp : BitVec 6) (r1 r3 : BitVec 7) (hint : BitVec 2) (imm9 : BitVec 9) (s : State) : Host.Outcome State Fault Refusal :=
  loadGr .acq false 4 (hint4 hint) (.imm (sx imm9)) qp r1 r3 s

/-- `ld8.acq r1 = [r3], imm9 (= sign_ext(s<<8 | i<<7 | imm7b, 9))` (R601). -/
def execLd8AcqM3 (qp : BitVec 6) (r1 r3 : BitVec 7) (hint : BitVec 2) (imm9 : BitVec 9) (s : State) : Host.Outcome State Fault Refusal :=
  loadGr .acq false 8 (hint4 hint) (.imm (sx imm9)) qp r1 r3 s

/-- `ld1.c.clr r1 = [r3], imm9 (= sign_ext(s<<8 | i<<7 | imm7b, 9))` (R601). -/
def execLd1CClrM3 (qp : BitVec 6) (r1 r3 : BitVec 7) (hint : BitVec 2) (imm9 : BitVec 9) (s : State) : Host.Outcome State Fault Refusal :=
  loadGr .cClr false 1 (hint4 hint) (.imm (sx imm9)) qp r1 r3 s

/-- `ld2.c.clr r1 = [r3], imm9 (= sign_ext(s<<8 | i<<7 | imm7b, 9))` (R601). -/
def execLd2CClrM3 (qp : BitVec 6) (r1 r3 : BitVec 7) (hint : BitVec 2) (imm9 : BitVec 9) (s : State) : Host.Outcome State Fault Refusal :=
  loadGr .cClr false 2 (hint4 hint) (.imm (sx imm9)) qp r1 r3 s

/-- `ld4.c.clr r1 = [r3], imm9 (= sign_ext(s<<8 | i<<7 | imm7b, 9))` (R601). -/
def execLd4CClrM3 (qp : BitVec 6) (r1 r3 : BitVec 7) (hint : BitVec 2) (imm9 : BitVec 9) (s : State) : Host.Outcome State Fault Refusal :=
  loadGr .cClr false 4 (hint4 hint) (.imm (sx imm9)) qp r1 r3 s

/-- `ld8.c.clr r1 = [r3], imm9 (= sign_ext(s<<8 | i<<7 | imm7b, 9))` (R601). -/
def execLd8CClrM3 (qp : BitVec 6) (r1 r3 : BitVec 7) (hint : BitVec 2) (imm9 : BitVec 9) (s : State) : Host.Outcome State Fault Refusal :=
  loadGr .cClr false 8 (hint4 hint) (.imm (sx imm9)) qp r1 r3 s

/-- `ld1.c.nc r1 = [r3], imm9 (= sign_ext(s<<8 | i<<7 | imm7b, 9))` (R601). -/
def execLd1CNcM3 (qp : BitVec 6) (r1 r3 : BitVec 7) (hint : BitVec 2) (imm9 : BitVec 9) (s : State) : Host.Outcome State Fault Refusal :=
  loadGr .cNc false 1 (hint4 hint) (.imm (sx imm9)) qp r1 r3 s

/-- `ld2.c.nc r1 = [r3], imm9 (= sign_ext(s<<8 | i<<7 | imm7b, 9))` (R601). -/
def execLd2CNcM3 (qp : BitVec 6) (r1 r3 : BitVec 7) (hint : BitVec 2) (imm9 : BitVec 9) (s : State) : Host.Outcome State Fault Refusal :=
  loadGr .cNc false 2 (hint4 hint) (.imm (sx imm9)) qp r1 r3 s

/-- `ld4.c.nc r1 = [r3], imm9 (= sign_ext(s<<8 | i<<7 | imm7b, 9))` (R601). -/
def execLd4CNcM3 (qp : BitVec 6) (r1 r3 : BitVec 7) (hint : BitVec 2) (imm9 : BitVec 9) (s : State) : Host.Outcome State Fault Refusal :=
  loadGr .cNc false 4 (hint4 hint) (.imm (sx imm9)) qp r1 r3 s

/-- `ld8.c.nc r1 = [r3], imm9 (= sign_ext(s<<8 | i<<7 | imm7b, 9))` (R601). -/
def execLd8CNcM3 (qp : BitVec 6) (r1 r3 : BitVec 7) (hint : BitVec 2) (imm9 : BitVec 9) (s : State) : Host.Outcome State Fault Refusal :=
  loadGr .cNc false 8 (hint4 hint) (.imm (sx imm9)) qp r1 r3 s

/-- `ld1.c.clr.acq r1 = [r3], imm9 (= sign_ext(s<<8 | i<<7 | imm7b, 9))` (R601). -/
def execLd1CClrAcqM3 (qp : BitVec 6) (r1 r3 : BitVec 7) (hint : BitVec 2) (imm9 : BitVec 9) (s : State) : Host.Outcome State Fault Refusal :=
  loadGr .cClrAcq false 1 (hint4 hint) (.imm (sx imm9)) qp r1 r3 s

/-- `ld2.c.clr.acq r1 = [r3], imm9 (= sign_ext(s<<8 | i<<7 | imm7b, 9))` (R601). -/
def execLd2CClrAcqM3 (qp : BitVec 6) (r1 r3 : BitVec 7) (hint : BitVec 2) (imm9 : BitVec 9) (s : State) : Host.Outcome State Fault Refusal :=
  loadGr .cClrAcq false 2 (hint4 hint) (.imm (sx imm9)) qp r1 r3 s

/-- `ld4.c.clr.acq r1 = [r3], imm9 (= sign_ext(s<<8 | i<<7 | imm7b, 9))` (R601). -/
def execLd4CClrAcqM3 (qp : BitVec 6) (r1 r3 : BitVec 7) (hint : BitVec 2) (imm9 : BitVec 9) (s : State) : Host.Outcome State Fault Refusal :=
  loadGr .cClrAcq false 4 (hint4 hint) (.imm (sx imm9)) qp r1 r3 s

/-- `ld8.c.clr.acq r1 = [r3], imm9 (= sign_ext(s<<8 | i<<7 | imm7b, 9))` (R601). -/
def execLd8CClrAcqM3 (qp : BitVec 6) (r1 r3 : BitVec 7) (hint : BitVec 2) (imm9 : BitVec 9) (s : State) : Host.Outcome State Fault Refusal :=
  loadGr .cClrAcq false 8 (hint4 hint) (.imm (sx imm9)) qp r1 r3 s

/-- `ld8.fill r1 = [r3], imm9 (= sign_ext(s<<8 | i<<7 | imm7b, 9))` (R605). -/
def execLd8FillM3 (qp : BitVec 6) (r1 r3 : BitVec 7) (hint : BitVec 2) (imm9 : BitVec 9) (s : State) : Host.Outcome State Fault Refusal :=
  loadGr .normal true 8 (hint4 hint) (.imm (sx imm9)) qp r1 r3 s

end Sys2Proof.Machine
end

