-- ==== Sys2Proof/Machine/Store.lean ====
section
/-! DEFINITION. Integer stores (formats M4, M5), line prefetch (M13 to M15, M51, M52), semaphores (M16, M17), speculation
checks and ALAT invalidation (I20, M20 to M24, M26, M27): 41_load_store.md sections 2, 3, 5 and 7. -/

namespace Sys2Proof.Machine

/-- The reference of a store at the current privilege level. -/
def State.storeRef (s : State) (size align : Nat) : Ref :=
  { access := { w := true }, size, align, pl := s.cpl }

/-- A translation whose fault is raised. -/
def State.translateData (s : State) (va : Word) (r : Ref) : Except Stop Translation :=
  s.dataReference (s.psrBit Psr.dt) va r

/-- One write of at most 8 bytes, the overlapping ALAT entries removed (R620). -/
def State.storeAt (s : State) (a : Translation) (size : Nat) (v : Word) : Except Stop State := do
  let u ← s.store a.pa size (s.psrBit Psr.be) a.ma v
  .ok ((u.touch a).alatInvalRange a.pa size)

/-- `st` (R620) of `size` bytes. -/
def storeGr (size : Nat) (post : Post) (qp : BitVec 6) (r2 r3 : BitVec 7) (s : State) :
    Host.Outcome State Fault Refusal :=
  predicated qp s do
    s.checkPost r3 post
    check ((s.gr r3).nat || (s.gr r2).nat) (natConsumption { w := true })
    let a ← s.translateData (s.gr r3).val (s.storeRef size size)
    let u ← s.storeAt a size (s.gr r2).val
    done (u.postUpdate s r3 post)

/-- `st8.spill` (R622): the NaT bit goes to UNAT; beside a NaT bit the 8 bytes are free (R239). -/
def storeSpill (post : Post) (qp : BitVec 6) (r2 r3 : BitVec 7) (s : State) : Host.Outcome State Fault Refusal :=
  predicated qp s do
    s.checkPost r3 post
    check (s.gr r3).nat (natConsumption { w := true })
    let a ← s.translateData (s.gr r3).val (s.storeRef 8 8)
    let g := s.gr r2
    let u ← s.storeAt a 8 (if g.nat then Config.freeWord .natd s.fresh else g.val)
    let k := (fld (s.gr r3).val 3 6 : BitVec 6).toNat
    done ({ u with ar := { u.ar with unat := setBit u.ar.unat k g.nat } }.postUpdate s r3 post)

/-- `st16` (R621): GR r2 at the address, AR[CSD] 8 bytes above. -/
def store16 (qp : BitVec 6) (r2 r3 : BitVec 7) (s : State) : Host.Outcome State Fault Refusal :=
  ifImplemented Config.implLd16St16 qp s <| predicated qp s do
    check ((s.gr r3).nat || (s.gr r2).nat) (natConsumption { w := true })
    let a ← s.translateData (s.gr r3).val (s.storeRef 16 16).wide
    let u ← s.storeAt a 8 (s.gr r2).val
    let v ← u.storeAt { a with pa := a.pa + 8, walked := none } 8 s.ar.csd
    done v

/-! ### Line prefetch (R625 to R627) -/

/-- `lfetch` without faults (R625, R626): the target check and the base update. A counted prefetch is one whether or not
it is implemented (`Config.implLfetchCount`): its further lines, `Config.lineSize` bytes each, move no state. -/
def prefetch (post : Post) (qp : BitVec 6) (r3 : BitVec 7) (s : State) : Host.Outcome State Fault Refusal :=
  predicated qp s do
    s.checkPost r3 post
    done (s.postUpdate s r3 post)

/-- `lfetch.fault` (R625, R627): the faults of a 1-byte load, unless PSR.ed is 1. Whatever the page's attribute, its address
can set off an injected error's trigger: R625 makes no reference to a page that is not cacheable, and that the trigger sees
one is the model's choice (log entry 59). -/
def prefetchFault (post : Post) (qp : BitVec 6) (r3 : BitVec 7) (s : State) : Host.Outcome State Fault Refusal :=
  let acc : Access := { r := true, na := true, naCode := 4 }
  predicated qp s do
    s.checkPost r3 post
    if s.psrBit Psr.ed then done (s.postUpdate s r3 post)
    else do
      check (s.gr r3).nat (natConsumption acc)
      let a ← s.translateData (s.gr r3).val { access := acc, size := 1, align := 1, pl := s.cpl }
      done ((s.touch a).postUpdate s r3 post)

/-! ### Semaphores (R630 to R636) -/

/-- The reference of a semaphore (R630): read and write, naturally aligned, write-back pages only. R166 lets a platform
support other attributes, and R235 calls the `fetchadd` to a UCE page exported to it: the model's platform supports none, so
that each is an Unsupported Data Reference fault (the model's choice, log entry 32). -/
def State.semaphoreRef (s : State) (size : Nat) : Ref :=
  { access := { r := true, w := true }, size, align := size, pl := s.cpl, cacheableOnly := true }

/-- The common part of the semaphores (R630): `write` stores the new value, then GR r1 receives the old
value. -/
def semaphore (size : Nat) (qp : BitVec 6) (r1 r3 : BitVec 7) (nat : Bool)
    (write : State → Translation → Word → Except Stop State) (s : State) : Host.Outcome State Fault Refusal :=
  predicated qp s do
    s.checkTarget r1
    check ((s.gr r3).nat || nat) (natConsumption { r := true, w := true })
    let a ← s.translateData (s.gr r3).val (s.semaphoreRef size)
    let old ← s.load a.pa size (s.psrBit Psr.be) a.ma
    let u ← write (s.touch a) { a with walked := none } old
    done ((u.alatInvalRange a.pa size).setGr r1 (Gr.ofWord old))

/-- `xchg` (R631). -/
def exchange (size : Nat) (qp : BitVec 6) (r1 r2 r3 : BitVec 7) (s : State) : Host.Outcome State Fault Refusal :=
  semaphore size qp r1 r3 (s.gr r2).nat (fun u a _ => u.storeAt a size (s.gr r2).val) s

/-- The low `size` bytes of a register (R632). -/
def lowBytes (size : Nat) (v : Word) : Word := v &&& BitVec.ofNat 64 (2 ^ (8 * size) - 1)

/-- `cmpxchg` (R632). -/
def compareExchange (size : Nat) (qp : BitVec 6) (r1 r2 r3 : BitVec 7) (s : State) :
    Host.Outcome State Fault Refusal :=
  semaphore size qp r1 r3 (s.gr r2).nat
    (fun u a old => if old = lowBytes size s.ar.ccv then u.storeAt a size (s.gr r2).val else .ok u) s

/-- `cmp8xchg16` (R635): the 16 bytes of the enclosing aligned block are written. The rule gives the reference no size but
its 8-byte alignment: the model's is the 8 bytes compared, for the data breakpoints and, beside the bytes stored, for the
ALAT (the model's choice, log entry 65). -/
def compareExchange16 (qp : BitVec 6) (r1 r2 r3 : BitVec 7) (s : State) : Host.Outcome State Fault Refusal :=
  ifImplemented Config.implLd16St16 qp s <| semaphore 8 qp r1 r3 (s.gr r2).nat
    (fun u a old =>
      if old = s.ar.ccv then do
        let block := a.pa &&& ~~~(8 : Word)
        let u ← u.storeAt { a with pa := block } 8 (s.gr r2).val
        u.storeAt { a with pa := block + 8 } 8 s.ar.csd
      else .ok u) s

/-- `fetchadd` (R636). -/
def fetchAdd (size : Nat) (qp : BitVec 6) (r1 r3 : BitVec 7) (inc3 : BitVec 3) (s : State) :
    Host.Outcome State Fault Refusal :=
  semaphore size qp r1 r3 false (fun u a old => u.storeAt a size (old + fetchInc inc3)) s

/-! ### Speculation checks and ALAT invalidation (R655 to R658) -/

/-- What a failing check does (R655, R656, R960, R1142): it branches to the recovery code, or it is a Speculative
Operation fault with the immediate in IIM and a code that the spec does not give (U39). -/
def checkFails (type : Config.CheckType) (disp21 : BitVec 21) (s : State) : Body :=
  if Config.checkBranch type then taken s (s.target25 disp21)
  else
    .error (.interrupt { vector := .speculation, iim := some (disp21.zeroExtend 64)
                         code := (fld (Config.freeWord .speculation s.fresh) 0 4 : BitVec 4).zeroExtend 16 })

/-- `chk.s` on a general register (R655): a NaT bit fails the check. -/
def checkSpeculation (qp : BitVec 6) (r2 : BitVec 7) (disp21 : BitVec 21) (s : State) :
    Host.Outcome State Fault Refusal :=
  predicated qp s (if (s.gr r2).nat then checkFails .chksGeneral disp21 s else done s)

/-- `chk.a` (R656): a miss fails the check; a hit removes the entry in the clear form. -/
def checkAdvanced (type : Config.CheckType) (clear : Bool) (reg : AlatReg) (disp21 : BitVec 21) (s : State) : Body :=
  if s.alatCmp reg then done (if clear then s.alatInvalEntry reg else s) else checkFails type disp21 s

/-- `st1 [r3] = r2` (R620). -/
def execSt1M4 (qp : BitVec 6) (r2 r3 : BitVec 7) (_hint : BitVec 2) (_h : BitVec 1) (s : State) : Host.Outcome State Fault Refusal :=
  storeGr 1 .none qp r2 r3 s

/-- `st2 [r3] = r2` (R620). -/
def execSt2M4 (qp : BitVec 6) (r2 r3 : BitVec 7) (_hint : BitVec 2) (_h : BitVec 1) (s : State) : Host.Outcome State Fault Refusal :=
  storeGr 2 .none qp r2 r3 s

/-- `st4 [r3] = r2` (R620). -/
def execSt4M4 (qp : BitVec 6) (r2 r3 : BitVec 7) (_hint : BitVec 2) (_h : BitVec 1) (s : State) : Host.Outcome State Fault Refusal :=
  storeGr 4 .none qp r2 r3 s

/-- `st8 [r3] = r2` (R620). -/
def execSt8M4 (qp : BitVec 6) (r2 r3 : BitVec 7) (_hint : BitVec 2) (_h : BitVec 1) (s : State) : Host.Outcome State Fault Refusal :=
  storeGr 8 .none qp r2 r3 s

/-- `st1.rel [r3] = r2` (R620). -/
def execSt1RelM4 (qp : BitVec 6) (r2 r3 : BitVec 7) (_hint : BitVec 2) (_h : BitVec 1) (s : State) : Host.Outcome State Fault Refusal :=
  storeGr 1 .none qp r2 r3 s

/-- `st2.rel [r3] = r2` (R620). -/
def execSt2RelM4 (qp : BitVec 6) (r2 r3 : BitVec 7) (_hint : BitVec 2) (_h : BitVec 1) (s : State) : Host.Outcome State Fault Refusal :=
  storeGr 2 .none qp r2 r3 s

/-- `st4.rel [r3] = r2` (R620). -/
def execSt4RelM4 (qp : BitVec 6) (r2 r3 : BitVec 7) (_hint : BitVec 2) (_h : BitVec 1) (s : State) : Host.Outcome State Fault Refusal :=
  storeGr 4 .none qp r2 r3 s

/-- `st8.rel [r3] = r2` (R620). -/
def execSt8RelM4 (qp : BitVec 6) (r2 r3 : BitVec 7) (_hint : BitVec 2) (_h : BitVec 1) (s : State) : Host.Outcome State Fault Refusal :=
  storeGr 8 .none qp r2 r3 s

/-- `st8.spill [r3] = r2` (R622). -/
def execSt8SpillM4 (qp : BitVec 6) (r2 r3 : BitVec 7) (_hint : BitVec 2) (_h : BitVec 1) (s : State) : Host.Outcome State Fault Refusal :=
  storeSpill .none qp r2 r3 s

/-- `st16 [r3] = r2, ar.csd` (R621). -/
def execSt16M4 (qp : BitVec 6) (r2 r3 : BitVec 7) (_hint : BitVec 2) (_h : BitVec 1) (s : State) : Host.Outcome State Fault Refusal :=
  store16 qp r2 r3 s

/-- `st16.rel [r3] = r2, ar.csd` (R621). -/
def execSt16RelM4 (qp : BitVec 6) (r2 r3 : BitVec 7) (_hint : BitVec 2) (_h : BitVec 1) (s : State) : Host.Outcome State Fault Refusal :=
  store16 qp r2 r3 s

/-- `st1 [r3] = r2, imm9 (= sign_ext(s<<8 | i<<7 | imm7a, 9))` (R620). -/
def execSt1M5 (qp : BitVec 6) (r2 r3 : BitVec 7) (_hint : BitVec 2) (imm9 : BitVec 9) (s : State) : Host.Outcome State Fault Refusal :=
  storeGr 1 (.imm (sx imm9)) qp r2 r3 s

/-- `st2 [r3] = r2, imm9 (= sign_ext(s<<8 | i<<7 | imm7a, 9))` (R620). -/
def execSt2M5 (qp : BitVec 6) (r2 r3 : BitVec 7) (_hint : BitVec 2) (imm9 : BitVec 9) (s : State) : Host.Outcome State Fault Refusal :=
  storeGr 2 (.imm (sx imm9)) qp r2 r3 s

/-- `st4 [r3] = r2, imm9 (= sign_ext(s<<8 | i<<7 | imm7a, 9))` (R620). -/
def execSt4M5 (qp : BitVec 6) (r2 r3 : BitVec 7) (_hint : BitVec 2) (imm9 : BitVec 9) (s : State) : Host.Outcome State Fault Refusal :=
  storeGr 4 (.imm (sx imm9)) qp r2 r3 s

/-- `st8 [r3] = r2, imm9 (= sign_ext(s<<8 | i<<7 | imm7a, 9))` (R620). -/
def execSt8M5 (qp : BitVec 6) (r2 r3 : BitVec 7) (_hint : BitVec 2) (imm9 : BitVec 9) (s : State) : Host.Outcome State Fault Refusal :=
  storeGr 8 (.imm (sx imm9)) qp r2 r3 s

/-- `st1.rel [r3] = r2, imm9 (= sign_ext(s<<8 | i<<7 | imm7a, 9))` (R620). -/
def execSt1RelM5 (qp : BitVec 6) (r2 r3 : BitVec 7) (_hint : BitVec 2) (imm9 : BitVec 9) (s : State) : Host.Outcome State Fault Refusal :=
  storeGr 1 (.imm (sx imm9)) qp r2 r3 s

/-- `st2.rel [r3] = r2, imm9 (= sign_ext(s<<8 | i<<7 | imm7a, 9))` (R620). -/
def execSt2RelM5 (qp : BitVec 6) (r2 r3 : BitVec 7) (_hint : BitVec 2) (imm9 : BitVec 9) (s : State) : Host.Outcome State Fault Refusal :=
  storeGr 2 (.imm (sx imm9)) qp r2 r3 s

/-- `st4.rel [r3] = r2, imm9 (= sign_ext(s<<8 | i<<7 | imm7a, 9))` (R620). -/
def execSt4RelM5 (qp : BitVec 6) (r2 r3 : BitVec 7) (_hint : BitVec 2) (imm9 : BitVec 9) (s : State) : Host.Outcome State Fault Refusal :=
  storeGr 4 (.imm (sx imm9)) qp r2 r3 s

/-- `st8.rel [r3] = r2, imm9 (= sign_ext(s<<8 | i<<7 | imm7a, 9))` (R620). -/
def execSt8RelM5 (qp : BitVec 6) (r2 r3 : BitVec 7) (_hint : BitVec 2) (imm9 : BitVec 9) (s : State) : Host.Outcome State Fault Refusal :=
  storeGr 8 (.imm (sx imm9)) qp r2 r3 s

/-- `st8.spill [r3] = r2, imm9 (= sign_ext(s<<8 | i<<7 | imm7a, 9))` (R622). -/
def execSt8SpillM5 (qp : BitVec 6) (r2 r3 : BitVec 7) (_hint : BitVec 2) (imm9 : BitVec 9) (s : State) : Host.Outcome State Fault Refusal :=
  storeSpill (.imm (sx imm9)) qp r2 r3 s

/-- `lfetch.excl [r3]` (R625). -/
def execLfetchExclM13 (qp : BitVec 6) (r3 : BitVec 7) (_hint : BitVec 2) (_h : BitVec 1) (s : State) : Host.Outcome State Fault Refusal :=
  prefetch .none qp r3 s

/-- `lfetch.fault [r3]` (R627). -/
def execLfetchFaultM13 (qp : BitVec 6) (r3 : BitVec 7) (_hint : BitVec 2) (_h : BitVec 1) (s : State) : Host.Outcome State Fault Refusal :=
  prefetchFault .none qp r3 s

/-- `lfetch.fault.excl [r3]` (R627). -/
def execLfetchFaultExclM13 (qp : BitVec 6) (r3 : BitVec 7) (_hint : BitVec 2) (_h : BitVec 1) (s : State) : Host.Outcome State Fault Refusal :=
  prefetchFault .none qp r3 s

/-- `lfetch [r3], r2` (R625). -/
def execLfetchM14 (qp : BitVec 6) (r2 r3 : BitVec 7) (_hint : BitVec 2) (_h : BitVec 1) (s : State) : Host.Outcome State Fault Refusal :=
  prefetch (.reg r2) qp r3 s

/-- `lfetch.excl [r3], r2` (R625). -/
def execLfetchExclM14 (qp : BitVec 6) (r2 r3 : BitVec 7) (_hint : BitVec 2) (_h : BitVec 1) (s : State) : Host.Outcome State Fault Refusal :=
  prefetch (.reg r2) qp r3 s

/-- `lfetch.fault [r3], r2` (R627). -/
def execLfetchFaultM14 (qp : BitVec 6) (r2 r3 : BitVec 7) (_hint : BitVec 2) (_h : BitVec 1) (s : State) : Host.Outcome State Fault Refusal :=
  prefetchFault (.reg r2) qp r3 s

/-- `lfetch.fault.excl [r3], r2` (R627). -/
def execLfetchFaultExclM14 (qp : BitVec 6) (r2 r3 : BitVec 7) (_hint : BitVec 2) (_h : BitVec 1) (s : State) : Host.Outcome State Fault Refusal :=
  prefetchFault (.reg r2) qp r3 s

/-- `lfetch [r3], imm9` (R625). -/
def execLfetchM15 (qp : BitVec 6) (r3 : BitVec 7) (_hint : BitVec 2) (_h : BitVec 1) (imm9 : BitVec 9) (s : State) : Host.Outcome State Fault Refusal :=
  prefetch (.imm (sx imm9)) qp r3 s

/-- `lfetch.excl [r3], imm9` (R625). -/
def execLfetchExclM15 (qp : BitVec 6) (r3 : BitVec 7) (_hint : BitVec 2) (_h : BitVec 1) (imm9 : BitVec 9) (s : State) : Host.Outcome State Fault Refusal :=
  prefetch (.imm (sx imm9)) qp r3 s

/-- `lfetch.fault [r3], imm9` (R627). -/
def execLfetchFaultM15 (qp : BitVec 6) (r3 : BitVec 7) (_hint : BitVec 2) (_h : BitVec 1) (imm9 : BitVec 9) (s : State) : Host.Outcome State Fault Refusal :=
  prefetchFault (.imm (sx imm9)) qp r3 s

/-- `lfetch.fault.excl [r3], imm9` (R627). -/
def execLfetchFaultExclM15 (qp : BitVec 6) (r3 : BitVec 7) (_hint : BitVec 2) (_h : BitVec 1) (imm9 : BitVec 9) (s : State) : Host.Outcome State Fault Refusal :=
  prefetchFault (.imm (sx imm9)) qp r3 s

/-- `lfetch [r3]` (R625). -/
def execLfetchM51 (qp : BitVec 6) (r3 : BitVec 7) (_hint : BitVec 2) (_h : BitVec 1) (s : State) : Host.Outcome State Fault Refusal :=
  prefetch .none qp r3 s

/-- `lfetch.count [r3], cnt6, stride5 (cnt6 = cnt6a + 1; stride5 = sign_ext(stride5b, 5) << 6)` (R626). -/
def execLfetchCountM52 (qp : BitVec 6) (r3 : BitVec 7) (_hint : BitVec 2) (_stride5b : BitVec 5) (_h : BitVec 1) (_cnt6a : BitVec 6) (s : State) : Host.Outcome State Fault Refusal :=
  prefetch .none qp r3 s

/-- `cmpxchg1.acq r1 = [r3], r2, ar.ccv` (R632). -/
def execCmpxchg1AcqM16 (qp : BitVec 6) (r1 r2 r3 : BitVec 7) (_hint : BitVec 2) (s : State) : Host.Outcome State Fault Refusal :=
  compareExchange 1 qp r1 r2 r3 s

/-- `cmpxchg1.rel r1 = [r3], r2, ar.ccv` (R632). -/
def execCmpxchg1RelM16 (qp : BitVec 6) (r1 r2 r3 : BitVec 7) (_hint : BitVec 2) (s : State) : Host.Outcome State Fault Refusal :=
  compareExchange 1 qp r1 r2 r3 s

/-- `xchg1 r1 = [r3], r2` (R631). -/
def execXchg1M16 (qp : BitVec 6) (r1 r2 r3 : BitVec 7) (_hint : BitVec 2) (s : State) : Host.Outcome State Fault Refusal :=
  exchange 1 qp r1 r2 r3 s

/-- `cmpxchg2.acq r1 = [r3], r2, ar.ccv` (R632). -/
def execCmpxchg2AcqM16 (qp : BitVec 6) (r1 r2 r3 : BitVec 7) (_hint : BitVec 2) (s : State) : Host.Outcome State Fault Refusal :=
  compareExchange 2 qp r1 r2 r3 s

/-- `cmpxchg2.rel r1 = [r3], r2, ar.ccv` (R632). -/
def execCmpxchg2RelM16 (qp : BitVec 6) (r1 r2 r3 : BitVec 7) (_hint : BitVec 2) (s : State) : Host.Outcome State Fault Refusal :=
  compareExchange 2 qp r1 r2 r3 s

/-- `xchg2 r1 = [r3], r2` (R631). -/
def execXchg2M16 (qp : BitVec 6) (r1 r2 r3 : BitVec 7) (_hint : BitVec 2) (s : State) : Host.Outcome State Fault Refusal :=
  exchange 2 qp r1 r2 r3 s

/-- `cmpxchg4.acq r1 = [r3], r2, ar.ccv` (R632). -/
def execCmpxchg4AcqM16 (qp : BitVec 6) (r1 r2 r3 : BitVec 7) (_hint : BitVec 2) (s : State) : Host.Outcome State Fault Refusal :=
  compareExchange 4 qp r1 r2 r3 s

/-- `cmpxchg4.rel r1 = [r3], r2, ar.ccv` (R632). -/
def execCmpxchg4RelM16 (qp : BitVec 6) (r1 r2 r3 : BitVec 7) (_hint : BitVec 2) (s : State) : Host.Outcome State Fault Refusal :=
  compareExchange 4 qp r1 r2 r3 s

/-- `xchg4 r1 = [r3], r2` (R631). -/
def execXchg4M16 (qp : BitVec 6) (r1 r2 r3 : BitVec 7) (_hint : BitVec 2) (s : State) : Host.Outcome State Fault Refusal :=
  exchange 4 qp r1 r2 r3 s

/-- `cmpxchg8.acq r1 = [r3], r2, ar.ccv` (R632). -/
def execCmpxchg8AcqM16 (qp : BitVec 6) (r1 r2 r3 : BitVec 7) (_hint : BitVec 2) (s : State) : Host.Outcome State Fault Refusal :=
  compareExchange 8 qp r1 r2 r3 s

/-- `cmpxchg8.rel r1 = [r3], r2, ar.ccv` (R632). -/
def execCmpxchg8RelM16 (qp : BitVec 6) (r1 r2 r3 : BitVec 7) (_hint : BitVec 2) (s : State) : Host.Outcome State Fault Refusal :=
  compareExchange 8 qp r1 r2 r3 s

/-- `xchg8 r1 = [r3], r2` (R631). -/
def execXchg8M16 (qp : BitVec 6) (r1 r2 r3 : BitVec 7) (_hint : BitVec 2) (s : State) : Host.Outcome State Fault Refusal :=
  exchange 8 qp r1 r2 r3 s

/-- `cmp8xchg16.acq r1 = [r3], r2, ar.csd, ar.ccv` (R635). -/
def execCmp8xchg16AcqM16 (qp : BitVec 6) (r1 r2 r3 : BitVec 7) (_hint : BitVec 2) (s : State) : Host.Outcome State Fault Refusal :=
  compareExchange16 qp r1 r2 r3 s

/-- `cmp8xchg16.rel r1 = [r3], r2, ar.csd, ar.ccv` (R635). -/
def execCmp8xchg16RelM16 (qp : BitVec 6) (r1 r2 r3 : BitVec 7) (_hint : BitVec 2) (s : State) : Host.Outcome State Fault Refusal :=
  compareExchange16 qp r1 r2 r3 s

/-- `fetchadd4.acq r1 = [r3], inc3 (i2b 0,1,2,3 = 16,8,4,1; s = sign)` (R636). -/
def execFetchadd4AcqM17 (qp : BitVec 6) (r1 r3 : BitVec 7) (_hint : BitVec 2) (inc3 : BitVec 3) (s : State) : Host.Outcome State Fault Refusal :=
  fetchAdd 4 qp r1 r3 inc3 s

/-- `fetchadd8.acq r1 = [r3], inc3 (i2b 0,1,2,3 = 16,8,4,1; s = sign)` (R636). -/
def execFetchadd8AcqM17 (qp : BitVec 6) (r1 r3 : BitVec 7) (_hint : BitVec 2) (inc3 : BitVec 3) (s : State) : Host.Outcome State Fault Refusal :=
  fetchAdd 8 qp r1 r3 inc3 s

/-- `fetchadd4.rel r1 = [r3], inc3 (i2b 0,1,2,3 = 16,8,4,1; s = sign)` (R636). -/
def execFetchadd4RelM17 (qp : BitVec 6) (r1 r3 : BitVec 7) (_hint : BitVec 2) (inc3 : BitVec 3) (s : State) : Host.Outcome State Fault Refusal :=
  fetchAdd 4 qp r1 r3 inc3 s

/-- `fetchadd8.rel r1 = [r3], inc3 (i2b 0,1,2,3 = 16,8,4,1; s = sign)` (R636). -/
def execFetchadd8RelM17 (qp : BitVec 6) (r1 r3 : BitVec 7) (_hint : BitVec 2) (inc3 : BitVec 3) (s : State) : Host.Outcome State Fault Refusal :=
  fetchAdd 8 qp r1 r3 inc3 s

/-- `chk.s.i r2, target25 (= IP + sign_ext(s<<20 | imm13c<<7 | imm7a, 21) << 4)` (R655). -/
def execChkSII20 (qp : BitVec 6) (r2 : BitVec 7) (disp21 : BitVec 21) (s : State) : Host.Outcome State Fault Refusal :=
  checkSpeculation qp r2 disp21 s

/-- `chk.s.m r2, target25` (R655). -/
def execChkSMM20 (qp : BitVec 6) (r2 : BitVec 7) (disp21 : BitVec 21) (s : State) : Host.Outcome State Fault Refusal :=
  checkSpeculation qp r2 disp21 s

/-- `chk.s f2, target25` (R655). -/
def execChkSM21 (qp : BitVec 6) (f2 : BitVec 7) (disp21 : BitVec 21) (s : State) : Host.Outcome State Fault Refusal :=
  predicated qp s do
    s.checkFp [f2]
    if s.fpr f2 = Fr.natVal then checkFails .chksFloat disp21 s else done s

/-- `chk.a.nc r1, target25` (R656). -/
def execChkANcM22 (qp : BitVec 6) (r1 : BitVec 7) (disp21 : BitVec 21) (s : State) : Host.Outcome State Fault Refusal :=
  predicated qp s (checkAdvanced .chkaGeneral false (s.alatGr r1) disp21 s)

/-- `chk.a.clr r1, target25` (R656). -/
def execChkAClrM22 (qp : BitVec 6) (r1 : BitVec 7) (disp21 : BitVec 21) (s : State) : Host.Outcome State Fault Refusal :=
  predicated qp s (checkAdvanced .chkaGeneral true (s.alatGr r1) disp21 s)

/-- `chk.a.nc f1, target25` (R656). -/
def execChkANcM23 (qp : BitVec 6) (f1 : BitVec 7) (disp21 : BitVec 21) (s : State) : Host.Outcome State Fault Refusal :=
  predicated qp s (checkAdvanced .chkaFloat false (s.alatFr f1) disp21 s)

/-- `chk.a.clr f1, target25` (R656). -/
def execChkAClrM23 (qp : BitVec 6) (f1 : BitVec 7) (disp21 : BitVec 21) (s : State) : Host.Outcome State Fault Refusal :=
  predicated qp s (checkAdvanced .chkaFloat true (s.alatFr f1) disp21 s)

/-- `invala` (R657). -/
def execInvalaM24 (qp : BitVec 6) (s : State) : Host.Outcome State Fault Refusal :=
  predicated qp s (done s.alatInval)

/-- `invala.e r1` (R658). -/
def execInvalaEM26 (qp : BitVec 6) (r1 : BitVec 7) (s : State) : Host.Outcome State Fault Refusal :=
  predicated qp s (done (s.alatInvalEntry (s.alatGr r1)))

/-- `invala.e f1` (R658). -/
def execInvalaEM27 (qp : BitVec 6) (f1 : BitVec 7) (s : State) : Host.Outcome State Fault Refusal :=
  predicated qp s (done (s.alatInvalEntry (s.alatFr f1)))

end Sys2Proof.Machine
end

