-- ==== Sys2Proof/Machine/FpMem.lean ====
section
/-! DEFINITION. Floating-point loads and stores (formats M6 to M12; 41_load_store.md section 6), the memory formats
(R649), and moves between the register files (`setf`, `getf`: M18, M19; R962, R963). -/

namespace Sys2Proof.Machine

/-! ### Memory formats (R649) -/

/-- A single-precision value in register format (R649). -/
def frOfSingle (v : BitVec 32) : Fr :=
  let e : BitVec 8 := fld v 23 8
  let frac : BitVec 23 := fld v 0 23
  let exp : BitVec 17 :=
    if e = 0xFF then 0x1FFFF else if e = 0 then (if frac = 0 then 0 else 0xFF81) else e.zeroExtend 17 + 0xFF80
  ⟨bit v 31, exp, BitVec.ofBool (e != 0) ++ frac ++ (0 : BitVec 40)⟩

/-- A double-precision value in register format (R649). -/
def frOfDouble (v : BitVec 64) : Fr :=
  let e : BitVec 11 := fld v 52 11
  let frac : BitVec 52 := fld v 0 52
  let exp : BitVec 17 :=
    if e = 0x7FF then 0x1FFFF else if e = 0 then (if frac = 0 then 0 else 0xFC01) else e.zeroExtend 17 + 0xFC00
  ⟨bit v 63, exp, BitVec.ofBool (e != 0) ++ frac ++ (0 : BitVec 11)⟩

/-- A double-extended value in register format (R649). -/
def frOfExtended (v : BitVec 80) : Fr :=
  let e : BitVec 15 := fld v 64 15
  let exp : BitVec 17 := if e = 0x7FFF then 0x1FFFF else if e = 0 then 0 else e.zeroExtend 17 + 0xC000
  ⟨bit v 79, exp, fld v 0 64⟩

/-- An integer in the significand (R649). -/
def Fr.ofInteger (v : Word) : Fr := ⟨false, 0x1003E, v⟩

/-- The stored single-precision image (R649). -/
def Fr.toSingle (f : Fr) : BitVec 32 :=
  let e : BitVec 8 := if bit f.sig 63 then (fld f.exp 16 1 : BitVec 1) ++ (fld f.exp 0 7 : BitVec 7) else 0
  BitVec.ofBool f.sign ++ e ++ (fld f.sig 40 23 : BitVec 23)

/-- The stored double-precision image (R649). The rule prints the zero exponent for an integer bit 0 with the single
format alone; that it holds of the double too, so that a denormal keeps its value, is DEDUCED (log entry 66). -/
def Fr.toDouble (f : Fr) : BitVec 64 :=
  let e : BitVec 11 := if bit f.sig 63 then (fld f.exp 16 1 : BitVec 1) ++ (fld f.exp 0 10 : BitVec 10) else 0
  BitVec.ofBool f.sign ++ e ++ (fld f.sig 11 52 : BitVec 52)

/-- The stored double-extended image (R649). -/
def Fr.toExtended (f : Fr) : BitVec 80 :=
  BitVec.ofBool f.sign ++ (fld f.exp 16 1 : BitVec 1) ++ (fld f.exp 0 14 : BitVec 14) ++ f.sig

/-- Sign and exponent right-justified, as `stf.spill` and `getf.exp` have them (R648, R963). -/
def Fr.signExp (f : Fr) : Word := (BitVec.ofBool f.sign ++ f.exp : BitVec 18).zeroExtend 64

/-- The memory formats of the scalar forms (R645, R647). -/
inductive FpFormat where
  | single | double | extended | integer | whole
deriving DecidableEq, Repr

/-- The bytes accessed (R645). -/
def FpFormat.size : FpFormat → Nat
  | .single => 4
  | .double => 8
  | .extended => 10
  | .integer => 8
  | .whole => 16

/-- The alignment (R160): 16 for the 10-byte forms. -/
def FpFormat.align : FpFormat → Nat
  | .extended => 16
  | f => f.size

/-- The reference of a format: a 10-byte access needs a page that supports it (R210 item 15, which R166 does not spell
out: treated as the 16-byte ones are, DEDUCED, log entry 52). -/
def FpFormat.ref (f : FpFormat) (r : Ref) : Ref := if f = .extended then r.wide else r

/-- The value of a format other than `whole` from the memory value. -/
def FpFormat.decode (f : FpFormat) (v : BitVec 80) : Fr :=
  match f with
  | .single => frOfSingle (fld v 0 32)
  | .double => frOfDouble (fld v 0 64)
  | .extended => frOfExtended v
  | .integer | .whole => Fr.ofInteger (fld v 0 64)

/-- The memory value of a format other than `whole`. -/
def FpFormat.encode (f : FpFormat) (x : Fr) : BitVec 80 :=
  match f with
  | .single => x.toSingle.zeroExtend 80
  | .double => x.toDouble.zeroExtend 80
  | .extended => x.toExtended
  | .integer | .whole => x.sig.zeroExtend 80

/-- `n` bytes of memory, at most 10; more than 8 bytes of the interrupt block is a form R1166 does not define. -/
def State.loadWide (s : State) (a : Translation) (n : Nat) : Except Stop (BitVec 80) :=
  if n ≤ 8 then do
    let v ← s.load a.pa n (s.psrBit Psr.be) a.ma
    .ok (v.zeroExtend 80)
  else
    match s.blockOffset a.pa with
    | some _ => .error (.stuck .interruptBlock)
    | none => .ok (ofBytesLE 80 (orderBytes (s.psrBit Psr.be) (Memory.readBytes s.mem (physAddr a.pa) n)))

/-- The register image that a load of format `f` reads (R645, R648: a fill has the significand in the lower eight
bytes, sign and exponent in the upper eight, each in byte order; log entry 23). -/
def State.readFr (s : State) (f : FpFormat) (a : Translation) : Except Stop Fr :=
  match f with
  | .whole => do
    let sig ← s.load a.pa 8 (s.psrBit Psr.be) a.ma
    let se ← s.load (a.pa + 8) 8 (s.psrBit Psr.be) a.ma
    .ok ⟨bit se 17, fld se 0 17, sig⟩
  | f => do
    let v ← s.loadWide a f.size
    .ok (f.decode v)

/-- A store of at most 10 bytes. -/
def State.storeWide (s : State) (a : Translation) (n : Nat) (v : BitVec 80) : Except Stop State :=
  if n ≤ 8 then s.store a.pa n (s.psrBit Psr.be) a.ma (fld v 0 64)
  else
    match s.blockOffset a.pa with
    | some _ => .error (.stuck .interruptBlock)
    | none =>
      .ok { s with mem := Memory.writeBytes s.mem (physAddr a.pa) (orderBytes (s.psrBit Psr.be) (toBytesLE n v)) }

/-- The memory after a store of format `f` (R647, R648). -/
def State.writeFr (s : State) (f : FpFormat) (a : Translation) (x : Fr) : Except Stop State :=
  match f with
  | .whole => do
    let u ← s.store a.pa 8 (s.psrBit Psr.be) a.ma x.sig
    u.store (a.pa + 8) 8 (s.psrBit Psr.be) a.ma x.signExp
  | f => s.storeWide a f.size (f.encode x)

/-! ### Loads -/

/-- The image that a deferred load leaves (R645): NaTVal for a speculative one; an advanced load of a page without
the speculative attribute leaves zero (log entry 24). -/
def deferredFr (t : LdType) : Fr := if t.speculative then Fr.natVal else Fr.zero

/-- The register part of `ldf` (R645, as R601). `ldf` in each of its types is an fr-writer (R645), so a check load that
hits, and leaves the register as it is, marks the partition modified too. -/
def State.loadFrInto (s : State) (t : LdType) (f : FpFormat) (hint : BitVec 3) (f1 r3 : BitVec 7) :
    Except Stop State :=
  let reg := s.alatFr f1
  if t.isCheck && s.alatCmp reg then .ok ((s.skipAlat t reg).markModified f1)
  else do
    match ← s.loadAddress t hint (s.gr r3) (f.ref (s.loadRef t f.size f.align)) with
    | .deferred walked => .ok (((s.keepWalk walked).skipAlat t reg).setFpr f1 (deferredFr t))
    | .memory a =>
      let x ← s.readFr f a
      .ok (((s.touch a).loadAlat t reg a f.size).setFpr f1 x)

/-- `ldfs`, `ldfd`, `ldfe`, `ldf8`, `ldf.fill` (R645, R648). -/
def loadFr (t : LdType) (f : FpFormat) (hint : BitVec 3) (post : Post) (qp : BitVec 6) (f1 r3 : BitVec 7)
    (s : State) : Host.Outcome State Fault Refusal :=
  predicated qp s do
    checkFpTarget f1
    s.checkPost r3 post
    s.checkFp [f1]
    check (!t.speculative && (s.gr r3).nat) (natConsumption t.access)
    let u ← s.loadFrInto t f hint f1 r3
    done (u.postUpdate s r3 post)

/-- The register part of `ldfp` (R646): the lower value to f1, the upper to f2; the ALAT knows the pair by f1
(log entry 24). R646 takes the types of `ldf`, so that a check load that hits marks the partitions of both targets
modified (R645; DEDUCED, log entry 24). -/
def State.loadPairInto (s : State) (t : LdType) (f : FpFormat) (hint : BitVec 3) (f1 f2 r3 : BitVec 7) :
    Except Stop State :=
  let reg := s.alatFr f1
  if t.isCheck && s.alatCmp reg then .ok (((s.skipAlat t reg).markModified f1).markModified f2)
  else do
    match ← s.loadAddress t hint (s.gr r3) (s.loadRef t (2 * f.size) (2 * f.size)) with
    | .deferred walked =>
      .ok ((((s.keepWalk walked).skipAlat t reg).setFpr f1 (deferredFr t)).setFpr f2 (deferredFr t))
    | .memory a =>
      let x ← s.readFr f a
      let y ← s.readFr f { a with pa := a.pa + BitVec.ofNat 64 f.size }
      .ok ((((s.touch a).loadAlat t reg a (2 * f.size)).setFpr f1 x).setFpr f2 y)

/-- `ldfps`, `ldfpd`, `ldfp8` (R646): one odd and one even register. R646 says `register number` and not whether that is the
operand's or the physical one after rotation: the operand's is tested (DESIGN CHOICE, log entry 67). -/
def loadPair (t : LdType) (f : FpFormat) (hint : BitVec 3) (post : Post) (qp : BitVec 6) (f1 f2 r3 : BitVec 7)
    (s : State) : Host.Outcome State Fault Refusal :=
  predicated qp s do
    check (bit f1 0 == bit f2 0) illegalOperation
    checkFpTarget f1
    checkFpTarget f2
    s.checkPost r3 post
    s.checkFp [f1, f2]
    check (!t.speculative && (s.gr r3).nat) (natConsumption t.access)
    let u ← s.loadPairInto t f hint f1 f2 r3
    done (u.postUpdate s r3 post)

/-! ### Stores and moves -/

/-- `stfs`, `stfd`, `stfe`, `stf8`, `stf.spill` (R647, R648). -/
def storeFr (f : FpFormat) (post : Post) (qp : BitVec 6) (f2 r3 : BitVec 7) (s : State) :
    Host.Outcome State Fault Refusal :=
  predicated qp s do
    s.checkPost r3 post
    s.checkFp [f2]
    check ((s.gr r3).nat || (f != .whole && s.fpr f2 == Fr.natVal)) (natConsumption { w := true })
    let a ← s.translateData (s.gr r3).val (f.ref (s.storeRef f.size f.align))
    let u ← s.writeFr f a (s.fpr f2)
    done (((u.touch a).alatInvalRange a.pa f.size).postUpdate s r3 post)

/-- `setf` (R962): a NaT bit becomes NaTVal. -/
def setFrFrom (image : Word → Fr) (qp : BitVec 6) (f1 r2 : BitVec 7) (s : State) :
    Host.Outcome State Fault Refusal :=
  predicated qp s do
    checkFpTarget f1
    s.checkFp [f1]
    done (s.setFpr f1 (if (s.gr r2).nat then Fr.natVal else image (s.gr r2).val))

/-- `getf` (R963): NaTVal sets the NaT bit. -/
def getFrTo (image : Fr → Word) (qp : BitVec 6) (r1 f2 : BitVec 7) (s : State) :
    Host.Outcome State Fault Refusal :=
  predicated qp s do
    s.checkTarget r1
    s.checkFp [f2]
    done (s.setGr r1 ⟨image (s.fpr f2), s.fpr f2 == Fr.natVal⟩)

/-- `ldfe f1 = [r3]` (R645). -/
def execLdfeM6 (qp : BitVec 6) (f1 r3 : BitVec 7) (hint : BitVec 2) (h : BitVec 1) (s : State) : Host.Outcome State Fault Refusal :=
  loadFr .normal .extended (hint8 h hint) .none qp f1 r3 s

/-- `ldf8 f1 = [r3]` (R645). -/
def execLdf8M6 (qp : BitVec 6) (f1 r3 : BitVec 7) (hint : BitVec 2) (h : BitVec 1) (s : State) : Host.Outcome State Fault Refusal :=
  loadFr .normal .integer (hint8 h hint) .none qp f1 r3 s

/-- `ldfs f1 = [r3]` (R645). -/
def execLdfsM6 (qp : BitVec 6) (f1 r3 : BitVec 7) (hint : BitVec 2) (h : BitVec 1) (s : State) : Host.Outcome State Fault Refusal :=
  loadFr .normal .single (hint8 h hint) .none qp f1 r3 s

/-- `ldfd f1 = [r3]` (R645). -/
def execLdfdM6 (qp : BitVec 6) (f1 r3 : BitVec 7) (hint : BitVec 2) (h : BitVec 1) (s : State) : Host.Outcome State Fault Refusal :=
  loadFr .normal .double (hint8 h hint) .none qp f1 r3 s

/-- `ldfe.s f1 = [r3]` (R645). -/
def execLdfeSM6 (qp : BitVec 6) (f1 r3 : BitVec 7) (hint : BitVec 2) (h : BitVec 1) (s : State) : Host.Outcome State Fault Refusal :=
  loadFr .s .extended (hint8 h hint) .none qp f1 r3 s

/-- `ldf8.s f1 = [r3]` (R645). -/
def execLdf8SM6 (qp : BitVec 6) (f1 r3 : BitVec 7) (hint : BitVec 2) (h : BitVec 1) (s : State) : Host.Outcome State Fault Refusal :=
  loadFr .s .integer (hint8 h hint) .none qp f1 r3 s

/-- `ldfs.s f1 = [r3]` (R645). -/
def execLdfsSM6 (qp : BitVec 6) (f1 r3 : BitVec 7) (hint : BitVec 2) (h : BitVec 1) (s : State) : Host.Outcome State Fault Refusal :=
  loadFr .s .single (hint8 h hint) .none qp f1 r3 s

/-- `ldfd.s f1 = [r3]` (R645). -/
def execLdfdSM6 (qp : BitVec 6) (f1 r3 : BitVec 7) (hint : BitVec 2) (h : BitVec 1) (s : State) : Host.Outcome State Fault Refusal :=
  loadFr .s .double (hint8 h hint) .none qp f1 r3 s

/-- `ldfe.a f1 = [r3]` (R645). -/
def execLdfeAM6 (qp : BitVec 6) (f1 r3 : BitVec 7) (hint : BitVec 2) (h : BitVec 1) (s : State) : Host.Outcome State Fault Refusal :=
  loadFr .a .extended (hint8 h hint) .none qp f1 r3 s

/-- `ldf8.a f1 = [r3]` (R645). -/
def execLdf8AM6 (qp : BitVec 6) (f1 r3 : BitVec 7) (hint : BitVec 2) (h : BitVec 1) (s : State) : Host.Outcome State Fault Refusal :=
  loadFr .a .integer (hint8 h hint) .none qp f1 r3 s

/-- `ldfs.a f1 = [r3]` (R645). -/
def execLdfsAM6 (qp : BitVec 6) (f1 r3 : BitVec 7) (hint : BitVec 2) (h : BitVec 1) (s : State) : Host.Outcome State Fault Refusal :=
  loadFr .a .single (hint8 h hint) .none qp f1 r3 s

/-- `ldfd.a f1 = [r3]` (R645). -/
def execLdfdAM6 (qp : BitVec 6) (f1 r3 : BitVec 7) (hint : BitVec 2) (h : BitVec 1) (s : State) : Host.Outcome State Fault Refusal :=
  loadFr .a .double (hint8 h hint) .none qp f1 r3 s

/-- `ldfe.sa f1 = [r3]` (R645). -/
def execLdfeSaM6 (qp : BitVec 6) (f1 r3 : BitVec 7) (hint : BitVec 2) (h : BitVec 1) (s : State) : Host.Outcome State Fault Refusal :=
  loadFr .sa .extended (hint8 h hint) .none qp f1 r3 s

/-- `ldf8.sa f1 = [r3]` (R645). -/
def execLdf8SaM6 (qp : BitVec 6) (f1 r3 : BitVec 7) (hint : BitVec 2) (h : BitVec 1) (s : State) : Host.Outcome State Fault Refusal :=
  loadFr .sa .integer (hint8 h hint) .none qp f1 r3 s

/-- `ldfs.sa f1 = [r3]` (R645). -/
def execLdfsSaM6 (qp : BitVec 6) (f1 r3 : BitVec 7) (hint : BitVec 2) (h : BitVec 1) (s : State) : Host.Outcome State Fault Refusal :=
  loadFr .sa .single (hint8 h hint) .none qp f1 r3 s

/-- `ldfd.sa f1 = [r3]` (R645). -/
def execLdfdSaM6 (qp : BitVec 6) (f1 r3 : BitVec 7) (hint : BitVec 2) (h : BitVec 1) (s : State) : Host.Outcome State Fault Refusal :=
  loadFr .sa .double (hint8 h hint) .none qp f1 r3 s

/-- `ldfe.c.clr f1 = [r3]` (R645). -/
def execLdfeCClrM6 (qp : BitVec 6) (f1 r3 : BitVec 7) (hint : BitVec 2) (h : BitVec 1) (s : State) : Host.Outcome State Fault Refusal :=
  loadFr .cClr .extended (hint8 h hint) .none qp f1 r3 s

/-- `ldf8.c.clr f1 = [r3]` (R645). -/
def execLdf8CClrM6 (qp : BitVec 6) (f1 r3 : BitVec 7) (hint : BitVec 2) (h : BitVec 1) (s : State) : Host.Outcome State Fault Refusal :=
  loadFr .cClr .integer (hint8 h hint) .none qp f1 r3 s

/-- `ldfs.c.clr f1 = [r3]` (R645). -/
def execLdfsCClrM6 (qp : BitVec 6) (f1 r3 : BitVec 7) (hint : BitVec 2) (h : BitVec 1) (s : State) : Host.Outcome State Fault Refusal :=
  loadFr .cClr .single (hint8 h hint) .none qp f1 r3 s

/-- `ldfd.c.clr f1 = [r3]` (R645). -/
def execLdfdCClrM6 (qp : BitVec 6) (f1 r3 : BitVec 7) (hint : BitVec 2) (h : BitVec 1) (s : State) : Host.Outcome State Fault Refusal :=
  loadFr .cClr .double (hint8 h hint) .none qp f1 r3 s

/-- `ldfe.c.nc f1 = [r3]` (R645). -/
def execLdfeCNcM6 (qp : BitVec 6) (f1 r3 : BitVec 7) (hint : BitVec 2) (h : BitVec 1) (s : State) : Host.Outcome State Fault Refusal :=
  loadFr .cNc .extended (hint8 h hint) .none qp f1 r3 s

/-- `ldf8.c.nc f1 = [r3]` (R645). -/
def execLdf8CNcM6 (qp : BitVec 6) (f1 r3 : BitVec 7) (hint : BitVec 2) (h : BitVec 1) (s : State) : Host.Outcome State Fault Refusal :=
  loadFr .cNc .integer (hint8 h hint) .none qp f1 r3 s

/-- `ldfs.c.nc f1 = [r3]` (R645). -/
def execLdfsCNcM6 (qp : BitVec 6) (f1 r3 : BitVec 7) (hint : BitVec 2) (h : BitVec 1) (s : State) : Host.Outcome State Fault Refusal :=
  loadFr .cNc .single (hint8 h hint) .none qp f1 r3 s

/-- `ldfd.c.nc f1 = [r3]` (R645). -/
def execLdfdCNcM6 (qp : BitVec 6) (f1 r3 : BitVec 7) (hint : BitVec 2) (h : BitVec 1) (s : State) : Host.Outcome State Fault Refusal :=
  loadFr .cNc .double (hint8 h hint) .none qp f1 r3 s

/-- `ldf.fill f1 = [r3]` (R648). -/
def execLdfFillM6 (qp : BitVec 6) (f1 r3 : BitVec 7) (hint : BitVec 2) (h : BitVec 1) (s : State) : Host.Outcome State Fault Refusal :=
  loadFr .normal .whole (hint8 h hint) .none qp f1 r3 s

/-- `ldfe f1 = [r3], r2` (R645). -/
def execLdfeM7 (qp : BitVec 6) (f1 r2 r3 : BitVec 7) (hint : BitVec 2) (s : State) : Host.Outcome State Fault Refusal :=
  loadFr .normal .extended (hint4 hint) (.reg r2) qp f1 r3 s

/-- `ldf8 f1 = [r3], r2` (R645). -/
def execLdf8M7 (qp : BitVec 6) (f1 r2 r3 : BitVec 7) (hint : BitVec 2) (s : State) : Host.Outcome State Fault Refusal :=
  loadFr .normal .integer (hint4 hint) (.reg r2) qp f1 r3 s

/-- `ldfs f1 = [r3], r2` (R645). -/
def execLdfsM7 (qp : BitVec 6) (f1 r2 r3 : BitVec 7) (hint : BitVec 2) (s : State) : Host.Outcome State Fault Refusal :=
  loadFr .normal .single (hint4 hint) (.reg r2) qp f1 r3 s

/-- `ldfd f1 = [r3], r2` (R645). -/
def execLdfdM7 (qp : BitVec 6) (f1 r2 r3 : BitVec 7) (hint : BitVec 2) (s : State) : Host.Outcome State Fault Refusal :=
  loadFr .normal .double (hint4 hint) (.reg r2) qp f1 r3 s

/-- `ldfe.s f1 = [r3], r2` (R645). -/
def execLdfeSM7 (qp : BitVec 6) (f1 r2 r3 : BitVec 7) (hint : BitVec 2) (s : State) : Host.Outcome State Fault Refusal :=
  loadFr .s .extended (hint4 hint) (.reg r2) qp f1 r3 s

/-- `ldf8.s f1 = [r3], r2` (R645). -/
def execLdf8SM7 (qp : BitVec 6) (f1 r2 r3 : BitVec 7) (hint : BitVec 2) (s : State) : Host.Outcome State Fault Refusal :=
  loadFr .s .integer (hint4 hint) (.reg r2) qp f1 r3 s

/-- `ldfs.s f1 = [r3], r2` (R645). -/
def execLdfsSM7 (qp : BitVec 6) (f1 r2 r3 : BitVec 7) (hint : BitVec 2) (s : State) : Host.Outcome State Fault Refusal :=
  loadFr .s .single (hint4 hint) (.reg r2) qp f1 r3 s

/-- `ldfd.s f1 = [r3], r2` (R645). -/
def execLdfdSM7 (qp : BitVec 6) (f1 r2 r3 : BitVec 7) (hint : BitVec 2) (s : State) : Host.Outcome State Fault Refusal :=
  loadFr .s .double (hint4 hint) (.reg r2) qp f1 r3 s

/-- `ldfe.a f1 = [r3], r2` (R645). -/
def execLdfeAM7 (qp : BitVec 6) (f1 r2 r3 : BitVec 7) (hint : BitVec 2) (s : State) : Host.Outcome State Fault Refusal :=
  loadFr .a .extended (hint4 hint) (.reg r2) qp f1 r3 s

/-- `ldf8.a f1 = [r3], r2` (R645). -/
def execLdf8AM7 (qp : BitVec 6) (f1 r2 r3 : BitVec 7) (hint : BitVec 2) (s : State) : Host.Outcome State Fault Refusal :=
  loadFr .a .integer (hint4 hint) (.reg r2) qp f1 r3 s

/-- `ldfs.a f1 = [r3], r2` (R645). -/
def execLdfsAM7 (qp : BitVec 6) (f1 r2 r3 : BitVec 7) (hint : BitVec 2) (s : State) : Host.Outcome State Fault Refusal :=
  loadFr .a .single (hint4 hint) (.reg r2) qp f1 r3 s

/-- `ldfd.a f1 = [r3], r2` (R645). -/
def execLdfdAM7 (qp : BitVec 6) (f1 r2 r3 : BitVec 7) (hint : BitVec 2) (s : State) : Host.Outcome State Fault Refusal :=
  loadFr .a .double (hint4 hint) (.reg r2) qp f1 r3 s

/-- `ldfe.sa f1 = [r3], r2` (R645). -/
def execLdfeSaM7 (qp : BitVec 6) (f1 r2 r3 : BitVec 7) (hint : BitVec 2) (s : State) : Host.Outcome State Fault Refusal :=
  loadFr .sa .extended (hint4 hint) (.reg r2) qp f1 r3 s

/-- `ldf8.sa f1 = [r3], r2` (R645). -/
def execLdf8SaM7 (qp : BitVec 6) (f1 r2 r3 : BitVec 7) (hint : BitVec 2) (s : State) : Host.Outcome State Fault Refusal :=
  loadFr .sa .integer (hint4 hint) (.reg r2) qp f1 r3 s

/-- `ldfs.sa f1 = [r3], r2` (R645). -/
def execLdfsSaM7 (qp : BitVec 6) (f1 r2 r3 : BitVec 7) (hint : BitVec 2) (s : State) : Host.Outcome State Fault Refusal :=
  loadFr .sa .single (hint4 hint) (.reg r2) qp f1 r3 s

/-- `ldfd.sa f1 = [r3], r2` (R645). -/
def execLdfdSaM7 (qp : BitVec 6) (f1 r2 r3 : BitVec 7) (hint : BitVec 2) (s : State) : Host.Outcome State Fault Refusal :=
  loadFr .sa .double (hint4 hint) (.reg r2) qp f1 r3 s

/-- `ldfe.c.clr f1 = [r3], r2` (R645). -/
def execLdfeCClrM7 (qp : BitVec 6) (f1 r2 r3 : BitVec 7) (hint : BitVec 2) (s : State) : Host.Outcome State Fault Refusal :=
  loadFr .cClr .extended (hint4 hint) (.reg r2) qp f1 r3 s

/-- `ldf8.c.clr f1 = [r3], r2` (R645). -/
def execLdf8CClrM7 (qp : BitVec 6) (f1 r2 r3 : BitVec 7) (hint : BitVec 2) (s : State) : Host.Outcome State Fault Refusal :=
  loadFr .cClr .integer (hint4 hint) (.reg r2) qp f1 r3 s

/-- `ldfs.c.clr f1 = [r3], r2` (R645). -/
def execLdfsCClrM7 (qp : BitVec 6) (f1 r2 r3 : BitVec 7) (hint : BitVec 2) (s : State) : Host.Outcome State Fault Refusal :=
  loadFr .cClr .single (hint4 hint) (.reg r2) qp f1 r3 s

/-- `ldfd.c.clr f1 = [r3], r2` (R645). -/
def execLdfdCClrM7 (qp : BitVec 6) (f1 r2 r3 : BitVec 7) (hint : BitVec 2) (s : State) : Host.Outcome State Fault Refusal :=
  loadFr .cClr .double (hint4 hint) (.reg r2) qp f1 r3 s

/-- `ldfe.c.nc f1 = [r3], r2` (R645). -/
def execLdfeCNcM7 (qp : BitVec 6) (f1 r2 r3 : BitVec 7) (hint : BitVec 2) (s : State) : Host.Outcome State Fault Refusal :=
  loadFr .cNc .extended (hint4 hint) (.reg r2) qp f1 r3 s

/-- `ldf8.c.nc f1 = [r3], r2` (R645). -/
def execLdf8CNcM7 (qp : BitVec 6) (f1 r2 r3 : BitVec 7) (hint : BitVec 2) (s : State) : Host.Outcome State Fault Refusal :=
  loadFr .cNc .integer (hint4 hint) (.reg r2) qp f1 r3 s

/-- `ldfs.c.nc f1 = [r3], r2` (R645). -/
def execLdfsCNcM7 (qp : BitVec 6) (f1 r2 r3 : BitVec 7) (hint : BitVec 2) (s : State) : Host.Outcome State Fault Refusal :=
  loadFr .cNc .single (hint4 hint) (.reg r2) qp f1 r3 s

/-- `ldfd.c.nc f1 = [r3], r2` (R645). -/
def execLdfdCNcM7 (qp : BitVec 6) (f1 r2 r3 : BitVec 7) (hint : BitVec 2) (s : State) : Host.Outcome State Fault Refusal :=
  loadFr .cNc .double (hint4 hint) (.reg r2) qp f1 r3 s

/-- `ldf.fill f1 = [r3], r2` (R648). -/
def execLdfFillM7 (qp : BitVec 6) (f1 r2 r3 : BitVec 7) (hint : BitVec 2) (s : State) : Host.Outcome State Fault Refusal :=
  loadFr .normal .whole (hint4 hint) (.reg r2) qp f1 r3 s

/-- `ldfe f1 = [r3], imm9` (R645). -/
def execLdfeM8 (qp : BitVec 6) (f1 r3 : BitVec 7) (hint : BitVec 2) (imm9 : BitVec 9) (s : State) : Host.Outcome State Fault Refusal :=
  loadFr .normal .extended (hint4 hint) (.imm (sx imm9)) qp f1 r3 s

/-- `ldf8 f1 = [r3], imm9` (R645). -/
def execLdf8M8 (qp : BitVec 6) (f1 r3 : BitVec 7) (hint : BitVec 2) (imm9 : BitVec 9) (s : State) : Host.Outcome State Fault Refusal :=
  loadFr .normal .integer (hint4 hint) (.imm (sx imm9)) qp f1 r3 s

/-- `ldfs f1 = [r3], imm9` (R645). -/
def execLdfsM8 (qp : BitVec 6) (f1 r3 : BitVec 7) (hint : BitVec 2) (imm9 : BitVec 9) (s : State) : Host.Outcome State Fault Refusal :=
  loadFr .normal .single (hint4 hint) (.imm (sx imm9)) qp f1 r3 s

/-- `ldfd f1 = [r3], imm9` (R645). -/
def execLdfdM8 (qp : BitVec 6) (f1 r3 : BitVec 7) (hint : BitVec 2) (imm9 : BitVec 9) (s : State) : Host.Outcome State Fault Refusal :=
  loadFr .normal .double (hint4 hint) (.imm (sx imm9)) qp f1 r3 s

/-- `ldfe.s f1 = [r3], imm9` (R645). -/
def execLdfeSM8 (qp : BitVec 6) (f1 r3 : BitVec 7) (hint : BitVec 2) (imm9 : BitVec 9) (s : State) : Host.Outcome State Fault Refusal :=
  loadFr .s .extended (hint4 hint) (.imm (sx imm9)) qp f1 r3 s

/-- `ldf8.s f1 = [r3], imm9` (R645). -/
def execLdf8SM8 (qp : BitVec 6) (f1 r3 : BitVec 7) (hint : BitVec 2) (imm9 : BitVec 9) (s : State) : Host.Outcome State Fault Refusal :=
  loadFr .s .integer (hint4 hint) (.imm (sx imm9)) qp f1 r3 s

/-- `ldfs.s f1 = [r3], imm9` (R645). -/
def execLdfsSM8 (qp : BitVec 6) (f1 r3 : BitVec 7) (hint : BitVec 2) (imm9 : BitVec 9) (s : State) : Host.Outcome State Fault Refusal :=
  loadFr .s .single (hint4 hint) (.imm (sx imm9)) qp f1 r3 s

/-- `ldfd.s f1 = [r3], imm9` (R645). -/
def execLdfdSM8 (qp : BitVec 6) (f1 r3 : BitVec 7) (hint : BitVec 2) (imm9 : BitVec 9) (s : State) : Host.Outcome State Fault Refusal :=
  loadFr .s .double (hint4 hint) (.imm (sx imm9)) qp f1 r3 s

/-- `ldfe.a f1 = [r3], imm9` (R645). -/
def execLdfeAM8 (qp : BitVec 6) (f1 r3 : BitVec 7) (hint : BitVec 2) (imm9 : BitVec 9) (s : State) : Host.Outcome State Fault Refusal :=
  loadFr .a .extended (hint4 hint) (.imm (sx imm9)) qp f1 r3 s

/-- `ldf8.a f1 = [r3], imm9` (R645). -/
def execLdf8AM8 (qp : BitVec 6) (f1 r3 : BitVec 7) (hint : BitVec 2) (imm9 : BitVec 9) (s : State) : Host.Outcome State Fault Refusal :=
  loadFr .a .integer (hint4 hint) (.imm (sx imm9)) qp f1 r3 s

/-- `ldfs.a f1 = [r3], imm9` (R645). -/
def execLdfsAM8 (qp : BitVec 6) (f1 r3 : BitVec 7) (hint : BitVec 2) (imm9 : BitVec 9) (s : State) : Host.Outcome State Fault Refusal :=
  loadFr .a .single (hint4 hint) (.imm (sx imm9)) qp f1 r3 s

/-- `ldfd.a f1 = [r3], imm9` (R645). -/
def execLdfdAM8 (qp : BitVec 6) (f1 r3 : BitVec 7) (hint : BitVec 2) (imm9 : BitVec 9) (s : State) : Host.Outcome State Fault Refusal :=
  loadFr .a .double (hint4 hint) (.imm (sx imm9)) qp f1 r3 s

/-- `ldfe.sa f1 = [r3], imm9` (R645). -/
def execLdfeSaM8 (qp : BitVec 6) (f1 r3 : BitVec 7) (hint : BitVec 2) (imm9 : BitVec 9) (s : State) : Host.Outcome State Fault Refusal :=
  loadFr .sa .extended (hint4 hint) (.imm (sx imm9)) qp f1 r3 s

/-- `ldf8.sa f1 = [r3], imm9` (R645). -/
def execLdf8SaM8 (qp : BitVec 6) (f1 r3 : BitVec 7) (hint : BitVec 2) (imm9 : BitVec 9) (s : State) : Host.Outcome State Fault Refusal :=
  loadFr .sa .integer (hint4 hint) (.imm (sx imm9)) qp f1 r3 s

/-- `ldfs.sa f1 = [r3], imm9` (R645). -/
def execLdfsSaM8 (qp : BitVec 6) (f1 r3 : BitVec 7) (hint : BitVec 2) (imm9 : BitVec 9) (s : State) : Host.Outcome State Fault Refusal :=
  loadFr .sa .single (hint4 hint) (.imm (sx imm9)) qp f1 r3 s

/-- `ldfd.sa f1 = [r3], imm9` (R645). -/
def execLdfdSaM8 (qp : BitVec 6) (f1 r3 : BitVec 7) (hint : BitVec 2) (imm9 : BitVec 9) (s : State) : Host.Outcome State Fault Refusal :=
  loadFr .sa .double (hint4 hint) (.imm (sx imm9)) qp f1 r3 s

/-- `ldfe.c.clr f1 = [r3], imm9` (R645). -/
def execLdfeCClrM8 (qp : BitVec 6) (f1 r3 : BitVec 7) (hint : BitVec 2) (imm9 : BitVec 9) (s : State) : Host.Outcome State Fault Refusal :=
  loadFr .cClr .extended (hint4 hint) (.imm (sx imm9)) qp f1 r3 s

/-- `ldf8.c.clr f1 = [r3], imm9` (R645). -/
def execLdf8CClrM8 (qp : BitVec 6) (f1 r3 : BitVec 7) (hint : BitVec 2) (imm9 : BitVec 9) (s : State) : Host.Outcome State Fault Refusal :=
  loadFr .cClr .integer (hint4 hint) (.imm (sx imm9)) qp f1 r3 s

/-- `ldfs.c.clr f1 = [r3], imm9` (R645). -/
def execLdfsCClrM8 (qp : BitVec 6) (f1 r3 : BitVec 7) (hint : BitVec 2) (imm9 : BitVec 9) (s : State) : Host.Outcome State Fault Refusal :=
  loadFr .cClr .single (hint4 hint) (.imm (sx imm9)) qp f1 r3 s

/-- `ldfd.c.clr f1 = [r3], imm9` (R645). -/
def execLdfdCClrM8 (qp : BitVec 6) (f1 r3 : BitVec 7) (hint : BitVec 2) (imm9 : BitVec 9) (s : State) : Host.Outcome State Fault Refusal :=
  loadFr .cClr .double (hint4 hint) (.imm (sx imm9)) qp f1 r3 s

/-- `ldfe.c.nc f1 = [r3], imm9` (R645). -/
def execLdfeCNcM8 (qp : BitVec 6) (f1 r3 : BitVec 7) (hint : BitVec 2) (imm9 : BitVec 9) (s : State) : Host.Outcome State Fault Refusal :=
  loadFr .cNc .extended (hint4 hint) (.imm (sx imm9)) qp f1 r3 s

/-- `ldf8.c.nc f1 = [r3], imm9` (R645). -/
def execLdf8CNcM8 (qp : BitVec 6) (f1 r3 : BitVec 7) (hint : BitVec 2) (imm9 : BitVec 9) (s : State) : Host.Outcome State Fault Refusal :=
  loadFr .cNc .integer (hint4 hint) (.imm (sx imm9)) qp f1 r3 s

/-- `ldfs.c.nc f1 = [r3], imm9` (R645). -/
def execLdfsCNcM8 (qp : BitVec 6) (f1 r3 : BitVec 7) (hint : BitVec 2) (imm9 : BitVec 9) (s : State) : Host.Outcome State Fault Refusal :=
  loadFr .cNc .single (hint4 hint) (.imm (sx imm9)) qp f1 r3 s

/-- `ldfd.c.nc f1 = [r3], imm9` (R645). -/
def execLdfdCNcM8 (qp : BitVec 6) (f1 r3 : BitVec 7) (hint : BitVec 2) (imm9 : BitVec 9) (s : State) : Host.Outcome State Fault Refusal :=
  loadFr .cNc .double (hint4 hint) (.imm (sx imm9)) qp f1 r3 s

/-- `ldf.fill f1 = [r3], imm9` (R648). -/
def execLdfFillM8 (qp : BitVec 6) (f1 r3 : BitVec 7) (hint : BitVec 2) (imm9 : BitVec 9) (s : State) : Host.Outcome State Fault Refusal :=
  loadFr .normal .whole (hint4 hint) (.imm (sx imm9)) qp f1 r3 s

/-- `stfe [r3] = f2` (R647). -/
def execStfeM9 (qp : BitVec 6) (f2 r3 : BitVec 7) (_hint : BitVec 2) (_h : BitVec 1) (s : State) : Host.Outcome State Fault Refusal :=
  storeFr .extended .none qp f2 r3 s

/-- `stf8 [r3] = f2` (R647). -/
def execStf8M9 (qp : BitVec 6) (f2 r3 : BitVec 7) (_hint : BitVec 2) (_h : BitVec 1) (s : State) : Host.Outcome State Fault Refusal :=
  storeFr .integer .none qp f2 r3 s

/-- `stfs [r3] = f2` (R647). -/
def execStfsM9 (qp : BitVec 6) (f2 r3 : BitVec 7) (_hint : BitVec 2) (_h : BitVec 1) (s : State) : Host.Outcome State Fault Refusal :=
  storeFr .single .none qp f2 r3 s

/-- `stfd [r3] = f2` (R647). -/
def execStfdM9 (qp : BitVec 6) (f2 r3 : BitVec 7) (_hint : BitVec 2) (_h : BitVec 1) (s : State) : Host.Outcome State Fault Refusal :=
  storeFr .double .none qp f2 r3 s

/-- `stf.spill [r3] = f2` (R647). -/
def execStfSpillM9 (qp : BitVec 6) (f2 r3 : BitVec 7) (_hint : BitVec 2) (_h : BitVec 1) (s : State) : Host.Outcome State Fault Refusal :=
  storeFr .whole .none qp f2 r3 s

/-- `stfe [r3] = f2, imm9` (R647). -/
def execStfeM10 (qp : BitVec 6) (f2 r3 : BitVec 7) (_hint : BitVec 2) (imm9 : BitVec 9) (s : State) : Host.Outcome State Fault Refusal :=
  storeFr .extended (.imm (sx imm9)) qp f2 r3 s

/-- `stf8 [r3] = f2, imm9` (R647). -/
def execStf8M10 (qp : BitVec 6) (f2 r3 : BitVec 7) (_hint : BitVec 2) (imm9 : BitVec 9) (s : State) : Host.Outcome State Fault Refusal :=
  storeFr .integer (.imm (sx imm9)) qp f2 r3 s

/-- `stfs [r3] = f2, imm9` (R647). -/
def execStfsM10 (qp : BitVec 6) (f2 r3 : BitVec 7) (_hint : BitVec 2) (imm9 : BitVec 9) (s : State) : Host.Outcome State Fault Refusal :=
  storeFr .single (.imm (sx imm9)) qp f2 r3 s

/-- `stfd [r3] = f2, imm9` (R647). -/
def execStfdM10 (qp : BitVec 6) (f2 r3 : BitVec 7) (_hint : BitVec 2) (imm9 : BitVec 9) (s : State) : Host.Outcome State Fault Refusal :=
  storeFr .double (.imm (sx imm9)) qp f2 r3 s

/-- `stf.spill [r3] = f2, imm9` (R647). -/
def execStfSpillM10 (qp : BitVec 6) (f2 r3 : BitVec 7) (_hint : BitVec 2) (imm9 : BitVec 9) (s : State) : Host.Outcome State Fault Refusal :=
  storeFr .whole (.imm (sx imm9)) qp f2 r3 s

/-- `ldfp8 f1, f2 = [r3]` (R646). -/
def execLdfp8M11 (qp : BitVec 6) (f1 f2 r3 : BitVec 7) (hint : BitVec 2) (s : State) : Host.Outcome State Fault Refusal :=
  loadPair .normal .integer (hint4 hint) .none qp f1 f2 r3 s

/-- `ldfps f1, f2 = [r3]` (R646). -/
def execLdfpsM11 (qp : BitVec 6) (f1 f2 r3 : BitVec 7) (hint : BitVec 2) (s : State) : Host.Outcome State Fault Refusal :=
  loadPair .normal .single (hint4 hint) .none qp f1 f2 r3 s

/-- `ldfpd f1, f2 = [r3]` (R646). -/
def execLdfpdM11 (qp : BitVec 6) (f1 f2 r3 : BitVec 7) (hint : BitVec 2) (s : State) : Host.Outcome State Fault Refusal :=
  loadPair .normal .double (hint4 hint) .none qp f1 f2 r3 s

/-- `ldfp8.s f1, f2 = [r3]` (R646). -/
def execLdfp8SM11 (qp : BitVec 6) (f1 f2 r3 : BitVec 7) (hint : BitVec 2) (s : State) : Host.Outcome State Fault Refusal :=
  loadPair .s .integer (hint4 hint) .none qp f1 f2 r3 s

/-- `ldfps.s f1, f2 = [r3]` (R646). -/
def execLdfpsSM11 (qp : BitVec 6) (f1 f2 r3 : BitVec 7) (hint : BitVec 2) (s : State) : Host.Outcome State Fault Refusal :=
  loadPair .s .single (hint4 hint) .none qp f1 f2 r3 s

/-- `ldfpd.s f1, f2 = [r3]` (R646). -/
def execLdfpdSM11 (qp : BitVec 6) (f1 f2 r3 : BitVec 7) (hint : BitVec 2) (s : State) : Host.Outcome State Fault Refusal :=
  loadPair .s .double (hint4 hint) .none qp f1 f2 r3 s

/-- `ldfp8.a f1, f2 = [r3]` (R646). -/
def execLdfp8AM11 (qp : BitVec 6) (f1 f2 r3 : BitVec 7) (hint : BitVec 2) (s : State) : Host.Outcome State Fault Refusal :=
  loadPair .a .integer (hint4 hint) .none qp f1 f2 r3 s

/-- `ldfps.a f1, f2 = [r3]` (R646). -/
def execLdfpsAM11 (qp : BitVec 6) (f1 f2 r3 : BitVec 7) (hint : BitVec 2) (s : State) : Host.Outcome State Fault Refusal :=
  loadPair .a .single (hint4 hint) .none qp f1 f2 r3 s

/-- `ldfpd.a f1, f2 = [r3]` (R646). -/
def execLdfpdAM11 (qp : BitVec 6) (f1 f2 r3 : BitVec 7) (hint : BitVec 2) (s : State) : Host.Outcome State Fault Refusal :=
  loadPair .a .double (hint4 hint) .none qp f1 f2 r3 s

/-- `ldfp8.sa f1, f2 = [r3]` (R646). -/
def execLdfp8SaM11 (qp : BitVec 6) (f1 f2 r3 : BitVec 7) (hint : BitVec 2) (s : State) : Host.Outcome State Fault Refusal :=
  loadPair .sa .integer (hint4 hint) .none qp f1 f2 r3 s

/-- `ldfps.sa f1, f2 = [r3]` (R646). -/
def execLdfpsSaM11 (qp : BitVec 6) (f1 f2 r3 : BitVec 7) (hint : BitVec 2) (s : State) : Host.Outcome State Fault Refusal :=
  loadPair .sa .single (hint4 hint) .none qp f1 f2 r3 s

/-- `ldfpd.sa f1, f2 = [r3]` (R646). -/
def execLdfpdSaM11 (qp : BitVec 6) (f1 f2 r3 : BitVec 7) (hint : BitVec 2) (s : State) : Host.Outcome State Fault Refusal :=
  loadPair .sa .double (hint4 hint) .none qp f1 f2 r3 s

/-- `ldfp8.c.clr f1, f2 = [r3]` (R646). -/
def execLdfp8CClrM11 (qp : BitVec 6) (f1 f2 r3 : BitVec 7) (hint : BitVec 2) (s : State) : Host.Outcome State Fault Refusal :=
  loadPair .cClr .integer (hint4 hint) .none qp f1 f2 r3 s

/-- `ldfps.c.clr f1, f2 = [r3]` (R646). -/
def execLdfpsCClrM11 (qp : BitVec 6) (f1 f2 r3 : BitVec 7) (hint : BitVec 2) (s : State) : Host.Outcome State Fault Refusal :=
  loadPair .cClr .single (hint4 hint) .none qp f1 f2 r3 s

/-- `ldfpd.c.clr f1, f2 = [r3]` (R646). -/
def execLdfpdCClrM11 (qp : BitVec 6) (f1 f2 r3 : BitVec 7) (hint : BitVec 2) (s : State) : Host.Outcome State Fault Refusal :=
  loadPair .cClr .double (hint4 hint) .none qp f1 f2 r3 s

/-- `ldfp8.c.nc f1, f2 = [r3]` (R646). -/
def execLdfp8CNcM11 (qp : BitVec 6) (f1 f2 r3 : BitVec 7) (hint : BitVec 2) (s : State) : Host.Outcome State Fault Refusal :=
  loadPair .cNc .integer (hint4 hint) .none qp f1 f2 r3 s

/-- `ldfps.c.nc f1, f2 = [r3]` (R646). -/
def execLdfpsCNcM11 (qp : BitVec 6) (f1 f2 r3 : BitVec 7) (hint : BitVec 2) (s : State) : Host.Outcome State Fault Refusal :=
  loadPair .cNc .single (hint4 hint) .none qp f1 f2 r3 s

/-- `ldfpd.c.nc f1, f2 = [r3]` (R646). -/
def execLdfpdCNcM11 (qp : BitVec 6) (f1 f2 r3 : BitVec 7) (hint : BitVec 2) (s : State) : Host.Outcome State Fault Refusal :=
  loadPair .cNc .double (hint4 hint) .none qp f1 f2 r3 s

/-- `ldfp8 f1, f2 = [r3], 16` (R646). -/
def execLdfp8M12 (qp : BitVec 6) (f1 f2 r3 : BitVec 7) (hint : BitVec 2) (s : State) : Host.Outcome State Fault Refusal :=
  loadPair .normal .integer (hint4 hint) (.imm 16) qp f1 f2 r3 s

/-- `ldfps f1, f2 = [r3], 8` (R646). -/
def execLdfpsM12 (qp : BitVec 6) (f1 f2 r3 : BitVec 7) (hint : BitVec 2) (s : State) : Host.Outcome State Fault Refusal :=
  loadPair .normal .single (hint4 hint) (.imm 8) qp f1 f2 r3 s

/-- `ldfpd f1, f2 = [r3], 16` (R646). -/
def execLdfpdM12 (qp : BitVec 6) (f1 f2 r3 : BitVec 7) (hint : BitVec 2) (s : State) : Host.Outcome State Fault Refusal :=
  loadPair .normal .double (hint4 hint) (.imm 16) qp f1 f2 r3 s

/-- `ldfp8.s f1, f2 = [r3], 16` (R646). -/
def execLdfp8SM12 (qp : BitVec 6) (f1 f2 r3 : BitVec 7) (hint : BitVec 2) (s : State) : Host.Outcome State Fault Refusal :=
  loadPair .s .integer (hint4 hint) (.imm 16) qp f1 f2 r3 s

/-- `ldfps.s f1, f2 = [r3], 8` (R646). -/
def execLdfpsSM12 (qp : BitVec 6) (f1 f2 r3 : BitVec 7) (hint : BitVec 2) (s : State) : Host.Outcome State Fault Refusal :=
  loadPair .s .single (hint4 hint) (.imm 8) qp f1 f2 r3 s

/-- `ldfpd.s f1, f2 = [r3], 16` (R646). -/
def execLdfpdSM12 (qp : BitVec 6) (f1 f2 r3 : BitVec 7) (hint : BitVec 2) (s : State) : Host.Outcome State Fault Refusal :=
  loadPair .s .double (hint4 hint) (.imm 16) qp f1 f2 r3 s

/-- `ldfp8.a f1, f2 = [r3], 16` (R646). -/
def execLdfp8AM12 (qp : BitVec 6) (f1 f2 r3 : BitVec 7) (hint : BitVec 2) (s : State) : Host.Outcome State Fault Refusal :=
  loadPair .a .integer (hint4 hint) (.imm 16) qp f1 f2 r3 s

/-- `ldfps.a f1, f2 = [r3], 8` (R646). -/
def execLdfpsAM12 (qp : BitVec 6) (f1 f2 r3 : BitVec 7) (hint : BitVec 2) (s : State) : Host.Outcome State Fault Refusal :=
  loadPair .a .single (hint4 hint) (.imm 8) qp f1 f2 r3 s

/-- `ldfpd.a f1, f2 = [r3], 16` (R646). -/
def execLdfpdAM12 (qp : BitVec 6) (f1 f2 r3 : BitVec 7) (hint : BitVec 2) (s : State) : Host.Outcome State Fault Refusal :=
  loadPair .a .double (hint4 hint) (.imm 16) qp f1 f2 r3 s

/-- `ldfp8.sa f1, f2 = [r3], 16` (R646). -/
def execLdfp8SaM12 (qp : BitVec 6) (f1 f2 r3 : BitVec 7) (hint : BitVec 2) (s : State) : Host.Outcome State Fault Refusal :=
  loadPair .sa .integer (hint4 hint) (.imm 16) qp f1 f2 r3 s

/-- `ldfps.sa f1, f2 = [r3], 8` (R646). -/
def execLdfpsSaM12 (qp : BitVec 6) (f1 f2 r3 : BitVec 7) (hint : BitVec 2) (s : State) : Host.Outcome State Fault Refusal :=
  loadPair .sa .single (hint4 hint) (.imm 8) qp f1 f2 r3 s

/-- `ldfpd.sa f1, f2 = [r3], 16` (R646). -/
def execLdfpdSaM12 (qp : BitVec 6) (f1 f2 r3 : BitVec 7) (hint : BitVec 2) (s : State) : Host.Outcome State Fault Refusal :=
  loadPair .sa .double (hint4 hint) (.imm 16) qp f1 f2 r3 s

/-- `ldfp8.c.clr f1, f2 = [r3], 16` (R646). -/
def execLdfp8CClrM12 (qp : BitVec 6) (f1 f2 r3 : BitVec 7) (hint : BitVec 2) (s : State) : Host.Outcome State Fault Refusal :=
  loadPair .cClr .integer (hint4 hint) (.imm 16) qp f1 f2 r3 s

/-- `ldfps.c.clr f1, f2 = [r3], 8` (R646). -/
def execLdfpsCClrM12 (qp : BitVec 6) (f1 f2 r3 : BitVec 7) (hint : BitVec 2) (s : State) : Host.Outcome State Fault Refusal :=
  loadPair .cClr .single (hint4 hint) (.imm 8) qp f1 f2 r3 s

/-- `ldfpd.c.clr f1, f2 = [r3], 16` (R646). -/
def execLdfpdCClrM12 (qp : BitVec 6) (f1 f2 r3 : BitVec 7) (hint : BitVec 2) (s : State) : Host.Outcome State Fault Refusal :=
  loadPair .cClr .double (hint4 hint) (.imm 16) qp f1 f2 r3 s

/-- `ldfp8.c.nc f1, f2 = [r3], 16` (R646). -/
def execLdfp8CNcM12 (qp : BitVec 6) (f1 f2 r3 : BitVec 7) (hint : BitVec 2) (s : State) : Host.Outcome State Fault Refusal :=
  loadPair .cNc .integer (hint4 hint) (.imm 16) qp f1 f2 r3 s

/-- `ldfps.c.nc f1, f2 = [r3], 8` (R646). -/
def execLdfpsCNcM12 (qp : BitVec 6) (f1 f2 r3 : BitVec 7) (hint : BitVec 2) (s : State) : Host.Outcome State Fault Refusal :=
  loadPair .cNc .single (hint4 hint) (.imm 8) qp f1 f2 r3 s

/-- `ldfpd.c.nc f1, f2 = [r3], 16` (R646). -/
def execLdfpdCNcM12 (qp : BitVec 6) (f1 f2 r3 : BitVec 7) (hint : BitVec 2) (s : State) : Host.Outcome State Fault Refusal :=
  loadPair .cNc .double (hint4 hint) (.imm 16) qp f1 f2 r3 s

/-- `setf.sig f1 = r2` (R962). -/
def execSetfSigM18 (qp : BitVec 6) (f1 r2 : BitVec 7) (s : State) : Host.Outcome State Fault Refusal :=
  setFrFrom Fr.ofInteger qp f1 r2 s

/-- `setf.exp f1 = r2` (R962). -/
def execSetfExpM18 (qp : BitVec 6) (f1 r2 : BitVec 7) (s : State) : Host.Outcome State Fault Refusal :=
  setFrFrom (fun v => ⟨bit v 17, fld v 0 17, 0x8000000000000000⟩) qp f1 r2 s

/-- `setf.s f1 = r2` (R962). -/
def execSetfSM18 (qp : BitVec 6) (f1 r2 : BitVec 7) (s : State) : Host.Outcome State Fault Refusal :=
  setFrFrom (fun v => frOfSingle (fld v 0 32)) qp f1 r2 s

/-- `setf.d f1 = r2` (R962). -/
def execSetfDM18 (qp : BitVec 6) (f1 r2 : BitVec 7) (s : State) : Host.Outcome State Fault Refusal :=
  setFrFrom frOfDouble qp f1 r2 s

/-- `getf.sig r1 = f2` (R963). -/
def execGetfSigM19 (qp : BitVec 6) (r1 f2 : BitVec 7) (s : State) : Host.Outcome State Fault Refusal :=
  getFrTo (fun x => x.sig) qp r1 f2 s

/-- `getf.exp r1 = f2` (R963). -/
def execGetfExpM19 (qp : BitVec 6) (r1 f2 : BitVec 7) (s : State) : Host.Outcome State Fault Refusal :=
  getFrTo Fr.signExp qp r1 f2 s

/-- `getf.s r1 = f2` (R963). -/
def execGetfSM19 (qp : BitVec 6) (r1 f2 : BitVec 7) (s : State) : Host.Outcome State Fault Refusal :=
  getFrTo (fun x => x.toSingle.zeroExtend 64) qp r1 f2 s

/-- `getf.d r1 = f2` (R963). -/
def execGetfDM19 (qp : BitVec 6) (r1 f2 : BitVec 7) (s : State) : Host.Outcome State Fault Refusal :=
  getFrTo Fr.toDouble qp r1 f2 s

end Sys2Proof.Machine
end

