-- ==== Sys2Proof/Machine/Float.lean ====
section
/-! DEFINITION. Floating-point values, exact arithmetic and rounding (R922 to R924). A finite value is exact as a sign, a
natural magnitude and a power of two; every result is rounded once. -/

namespace Sys2Proof.Machine

/-! ### Classes (R922) -/

/-- The classes of a register value (R922); `finite` covers normal and unnormal numbers. -/
inductive FpClass where
  | natVal | zero | finite | infinity | quiet | signaling | unsupported
deriving DecidableEq, Repr

/-- The class of a register (R922). -/
def Fr.cls (f : Fr) : FpClass :=
  if f = Fr.natVal then .natVal
  else if f.exp = 0x1FFFF then
    if !bit f.sig 63 then .unsupported
    else if f.sig = 0x8000000000000000 then .infinity
    else if bit f.sig 62 then .quiet
    else .signaling
  else if f.sig = 0 then .zero
  else .finite

/-- A NaN of either kind. -/
def Fr.isNan (f : Fr) : Bool := f.cls == .quiet || f.cls == .signaling

/-- `fp_is_unorm` (R922): unnormalized numbers, denormals, pseudo-denormals and pseudo-zeros (log entry 28). -/
def Fr.isUnorm (f : Fr) : Bool :=
  f.exp != 0x1FFFF && f != Fr.natVal &&
    ((f.exp == 0 && f.sig != 0) || (f.exp != 0 && !bit f.sig 63))

/-- `fp_is_normal` (R922). -/
def Fr.isNormal (f : Fr) : Bool := f.exp != 0 && f.exp != 0x1FFFF && bit f.sig 63

/-- QNaN Indefinite (R922). -/
def Fr.indefinite : Fr := ⟨true, 0x1FFFF, 0xC000000000000000⟩

/-- An infinity (R922). -/
def Fr.inf (sign : Bool) : Fr := ⟨sign, 0x1FFFF, 0x8000000000000000⟩

/-- A zero (R922). -/
def Fr.signedZero (sign : Bool) : Fr := ⟨sign, 0, 0⟩

/-- A NaN made quiet (R930). -/
def Fr.quieted (f : Fr) : Fr := { f with sig := f.sig ||| 0x4000000000000000 }

/-! ### Exact values -/

/-- The value (-1)^sign * mag * 2^exp. -/
structure Exact where
  sign : Bool
  mag : Nat
  exp : Int
deriving DecidableEq, Repr

/-- The exact value of a finite register; `fp_reg_read` gives exponent 0 its true value (R921, R922). -/
def Fr.exact (f : Fr) : Exact :=
  let e : BitVec 17 := if f.exp = 0 then 0xC001 else f.exp
  ⟨f.sign, f.sig.toNat, (e.toNat : Int) - 65598⟩

/-- `fmul` (R921). -/
def Exact.mul (a b : Exact) : Exact := ⟨a.sign != b.sign, a.mag * b.mag, a.exp + b.exp⟩

/-- The value as an integer multiple of 2^e, for e at most its exponent. -/
def Exact.scaled (a : Exact) (e : Int) : Int :=
  let m : Int := (a.mag <<< (a.exp - e).toNat : Nat)
  if a.sign then -m else m

/-- `fadd` (R921); an exact zero of unlike signs is positive unless rounding is `down`. -/
def Exact.add (down : Bool) (a b : Exact) : Exact :=
  let e := min a.exp b.exp
  let sum := a.scaled e + b.scaled e
  if sum = 0 then ⟨if a.sign = b.sign then a.sign else down, 0, e⟩ else ⟨decide (sum < 0), sum.natAbs, e⟩

/-- The quotient with a sticky bit below many more bits than any precision has. -/
def Exact.div (a b : Exact) : Exact :=
  let k := 140 + Nat.log2 b.mag
  let n := a.mag <<< k
  ⟨a.sign != b.sign, 2 * (n / b.mag) + (if n % b.mag = 0 then 0 else 1), a.exp - b.exp - k - 1⟩

/-- The integer square root of `n`, its bits below `i` still to be found. -/
def isqrtFrom (n : Nat) : Nat → Nat → Nat
  | 0, acc => acc
  | i + 1, acc => isqrtFrom n i (if (acc + 2 ^ i) * (acc + 2 ^ i) ≤ n then acc + 2 ^ i else acc)

/-- The integer square root. -/
def isqrt (n : Nat) : Nat := isqrtFrom n (Nat.log2 n / 2 + 1) 0

/-- The square root of a positive value, with a sticky bit. -/
def Exact.sqrt (a : Exact) : Exact :=
  let k : Nat := if a.exp % 2 = 0 then 140 else 141
  let n := a.mag <<< k
  let r := isqrt n
  ⟨false, 2 * r + (if r * r = n then 0 else 1), (a.exp - k) / 2 - 1⟩

/-- A register value as an exact one for comparison: an infinity lies beyond every finite value. -/
def Fr.ordered (f : Fr) : Exact := if f.cls = .infinity then ⟨f.sign, 1, 70000⟩ else f.exact

/-- `fp_less_than` of two values that are not NaN (R921). -/
def fpLess (a b : Fr) : Bool :=
  let e := min a.ordered.exp b.ordered.exp
  decide (a.ordered.scaled e < b.ordered.scaled e)

/-- `fp_equal` of two values that are not NaN (R921): -0 equals +0. -/
def fpEqual (a b : Fr) : Bool :=
  let e := min a.ordered.exp b.ordered.exp
  a.ordered.scaled e == b.ordered.scaled e

/-! ### Rounding (R923) -/

/-- The value rounded to an integer multiple of 2^lsb: the multiple, whether it is inexact, whether it was
incremented. Rounding control 0 nearest even, 1 down, 2 up, 3 toward zero. -/
def Exact.roundAt (x : Exact) (rc : BitVec 2) (lsb : Int) : Nat × Bool × Bool :=
  if lsb ≤ x.exp then (x.mag <<< (x.exp - lsb).toNat, false, false)
  else
    let d := (lsb - x.exp).toNat
    let q := x.mag / 2 ^ d
    let r := x.mag % 2 ^ d
    let up : Bool :=
      match rc.toNat with
      | 0 => decide (2 ^ d < 2 * r) || (2 * r == 2 ^ d && q % 2 == 1)
      | 1 => x.sign && r != 0
      | 2 => !x.sign && r != 0
      | _ => false
    (if up then q + 1 else q, r != 0, up)

/-- A result format: significand bits and the range of unbiased exponents (R923). -/
structure FpRange where
  prec : Nat
  emin : Int
  emax : Int
deriving DecidableEq, Repr

/-- The precision completers (R923). -/
inductive FpPc where
  | s | d | none
deriving DecidableEq, Repr

/-- The single format of the parallel instructions (R923). -/
def singleRange : FpRange := ⟨24, -126, 127⟩

/-- The result format of a precision completer under a status field (R923). -/
def fpRange (pc : FpPc) (c : FpControls) : FpRange :=
  let prec := match pc with
    | .s => 24
    | .d => 53
    | .none => if c.pc = 0 then 24 else if c.pc = 2 then 53 else 64
  if c.wre then ⟨prec, -65534, 65535⟩
  else match pc with
    | .s => ⟨prec, -126, 127⟩
    | .d => ⟨prec, -1022, 1023⟩
    | .none => ⟨prec, -16382, 16383⟩

/-- A rounded result with the trap conditions O, U, I and whether rounding incremented it (R924). -/
structure Rounded where
  val : Fr
  o : Bool := false
  u : Bool := false
  i : Bool := false
  fpa : Bool := false
deriving DecidableEq, Repr

/-- A normalized register value with unbiased exponent `e` (modulo 2^17) and a significand of `prec` bits. -/
def packFr (sign : Bool) (e : Int) (q prec : Nat) : Fr :=
  ⟨sign, BitVec.ofInt 17 (e + 65535), BitVec.ofNat 64 (q <<< (64 - prec))⟩

/-- The result below the smallest normal number: a register-format denormal, a zero, or the smallest normal number
(R923; exponent 0 is the double-extended denormal's, R922). -/
def packTiny (sign : Bool) (f : FpRange) (q : Nat) : Fr :=
  let sig := BitVec.ofNat 64 (q <<< (64 - f.prec))
  if q = 0 then Fr.signedZero sign
  else if f.emin = -16382 ∧ bit sig 63 = false then ⟨sign, 0, sig⟩
  else ⟨sign, BitVec.ofInt 17 (f.emin + 65535), sig⟩

/-- What a disabled overflow leaves (R924): an infinity, or the largest number where rounding is the other way. -/
def overflowed (sign : Bool) (rc : BitVec 2) (f : FpRange) : Fr :=
  if rc = 0 ∨ (rc = 1 ∧ sign) ∨ (rc = 2 ∧ !sign) then Fr.inf sign
  else packFr sign f.emax (2 ^ f.prec - 1) f.prec

/-- `fp_ieee_round` (R923, R924): `od` and `ud` say that the Overflow and the Underflow trap are disabled; an enabled trap
delivers the result with its exponent wrapped: R924 does not say by how much, and it is the exponent modulo 2^17, so that a
result in single or double precision keeps its own (DESIGN CHOICE, log entry 45). Tininess is found after rounding; with the
Underflow trap disabled a tiny result sets U only if it is inexact, with the trap enabled every tiny result does (DEDUCED,
log entry 28). -/
def Exact.round (x : Exact) (c : FpControls) (od ud : Bool) (f : FpRange) : Rounded :=
  if x.mag = 0 then { val := Fr.signedZero x.sign }
  else
    let e0 : Int := (Nat.log2 x.mag : Int) + x.exp
    let (q0, inexact, inc) := x.roundAt c.rc (e0 - f.prec + 1)
    let carry := q0 == 2 ^ f.prec
    let e := if carry then e0 + 1 else e0
    let q := if carry then 2 ^ (f.prec - 1) else q0
    if f.emax < e then
      if od then { val := overflowed x.sign c.rc f, o := true, i := true, fpa := inc }
      else { val := packFr x.sign e q f.prec, o := true, i := inexact, fpa := inc }
    else if e < f.emin then
      if !ud then { val := packFr x.sign e q f.prec, u := true, i := inexact, fpa := inc }
      else if c.ftz then { val := Fr.signedZero x.sign, u := true, i := true }
      else
        let (t, inexact, inc) := x.roundAt c.rc (f.emin - f.prec + 1)
        { val := packTiny x.sign f t, u := inexact, i := inexact, fpa := inc }
    else { val := packFr x.sign e q f.prec, i := inexact, fpa := inc }

/-! ### One floating-point operation: conditions, faults, traps (R924, R1143) -/

/-- One scalar or one half of a parallel operation: the flags it raises, its value, and whether rounding incremented. -/
structure FpHalf (α : Type) where
  flags : FpFlags := {}
  val : α
  fpa : Bool := false
deriving DecidableEq, Repr

/-- The four ISR.code bits of the enabled faults V, D, Z, SWA (R1143; SWA never occurs, R924). -/
def faultBits (dis : BitVec 6) (x : FpFlags) : BitVec 4 :=
  (0 : BitVec 1) ++ BitVec.ofBool (x.z && !bit dis 2) ++ BitVec.ofBool (x.d && !bit dis 1) ++ BitVec.ofBool (x.v && !bit dis 0)

/-- The four ISR.code bits of the enabled traps O, U, I, and fpa (R1143). -/
def trapBits (dis : BitVec 6) (x : FpFlags) (fpa : Bool) : BitVec 4 :=
  let o := x.o && !bit dis 3
  let u := x.u && !bit dis 4
  let i := x.i && !bit dis 5
  BitVec.ofBool (fpa && (o || u || i)) ++ BitVec.ofBool i ++ BitVec.ofBool u ++ BitVec.ofBool o

/-- The Floating-point Exception fault (R1143). -/
def fpFault (lo hi : BitVec 4) : Interruption :=
  { vector := .floatingPointFault, code := (hi ++ lo : BitVec 8).zeroExtend 16 }

/-- ISR.code of a Floating-point Exception trap, if one is raised (R1143, R1150). -/
def fpTrapCode (lo hi : BitVec 4) : Option (BitVec 16) :=
  if lo = 0 ∧ hi = 0 then none else some (1 ||| (hi.zeroExtend 16 <<< 7) ||| (lo.zeroExtend 16 <<< 11))

/-- The flags of two halves together. -/
def FpFlags.or (a b : FpFlags) : FpFlags :=
  ⟨a.v || b.v, a.d || b.d, a.z || b.z, a.o || b.o, a.u || b.u, a.i || b.i⟩

/-- A rounded result as an operation's outcome. -/
def Rounded.half (r : Rounded) (d : Bool) : FpHalf Fr :=
  { flags := { d := d, o := r.o, u := r.u, i := r.i }, val := r.val, fpa := r.fpa }

/-- An Invalid operation with default `v`. -/
def invalidHalf {α : Type} (v : α) : FpHalf α := { flags := { v := true }, val := v }

/-- What the exception checks of multiply and add forms decide before computing (R921, R924, R930): unsupported
operands, then NaN operands in the order given, make the result. That an unsupported operand goes before a NaN, and
that an unnormal operand beside a NaN raises no Denormal, are the model's choices (log entry 28). -/
def nanResult (operands : List Fr) : Option (FpHalf Fr) :=
  if operands.any (fun f => f.cls == .unsupported) then some (invalidHalf Fr.indefinite)
  else
    match operands.find? Fr.isNan with
    | some f => some { flags := { v := operands.any (fun g => g.cls == .signaling) }, val := f.quieted }
    | none => none

/-- A parallel register's halves, and a register from two halves (R933). -/
def Fr.lowSingle (f : Fr) : BitVec 32 := fld f.sig 0 32
def Fr.highSingle (f : Fr) : BitVec 32 := fld f.sig 32 32
def Fr.ofHalves (hi lo : BitVec 32) : Fr := Fr.ofInteger (hi ++ lo)


end Sys2Proof.Machine
end

