-- ==== Sys2Proof/Machine/FpArith.lean ====
section
/-! DEFINITION. Floating-point arithmetic (formats F1, F4, F6 to F8, F10; 45_fp.md sections 2, 3, 4 and 6): the
instructions that read the controls of a status field and write its flags. -/

namespace Sys2Proof.Machine

/-! ### The skeleton (R925) -/

/-- An arithmetic instruction with one result (R925). -/
def scalarArith (qp : BitVec 6) (f1 : BitVec 7) (srcs : List (BitVec 7)) (sf : BitVec 2) (r : FpHalf Fr) (s : State) :
    Host.Outcome State Fault Refusal :=
  let dis := s.fpDisables sf
  predicated qp s do
    checkFpTarget f1
    s.checkFp (f1 :: srcs)
    if srcs.any (fun f => s.fpr f == Fr.natVal) then done (s.setFpr f1 Fr.natVal)
    else do
      check (faultBits dis r.flags != 0) (fpFault (faultBits dis r.flags) 0)
      .ok { st := (s.raiseFlags sf r.flags).setFpr f1 r.val
            fpTrap := fpTrapCode (trapBits dis r.flags r.fpa) 0 }

/-- A parallel arithmetic instruction: one outcome for each half (R933). -/
def parallelArith (qp : BitVec 6) (f1 : BitVec 7) (srcs : List (BitVec 7)) (sf : BitVec 2)
    (hi lo : FpHalf (BitVec 32)) (s : State) : Host.Outcome State Fault Refusal :=
  let dis := s.fpDisables sf
  predicated qp s do
    checkFpTarget f1
    s.checkFp (f1 :: srcs)
    if srcs.any (fun f => s.fpr f == Fr.natVal) then done (s.setFpr f1 Fr.natVal)
    else do
      check (faultBits dis lo.flags != 0 || faultBits dis hi.flags != 0)
        (fpFault (faultBits dis lo.flags) (faultBits dis hi.flags))
      .ok { st := (s.raiseFlags sf (hi.flags.or lo.flags)).setFpr f1 (Fr.ofHalves hi.val lo.val)
            fpTrap := fpTrapCode (trapBits dis lo.flags lo.fpa) (trapBits dis hi.flags hi.fpa) }

/-- A rounded result in single format; the exponent of a result that traps for Overflow or Underflow is wrapped in the
8 bits of the format (R924; DESIGN CHOICE, log entry 45). -/
def Fr.packedSingle (f : Fr) : BitVec 32 :=
  if bit f.sig 63 && f.exp != 0x1FFFF then
    BitVec.ofBool f.sign ++ (fld (f.exp + 0x80) 0 8 : BitVec 8) ++ (fld f.sig 40 23 : BitVec 23)
  else f.toSingle

/-- A half's result in single format. -/
def FpHalf.single (h : FpHalf Fr) : FpHalf (BitVec 32) := ⟨h.flags, h.val.packedSingle, h.fpa⟩

/-! ### Multiply-add (R930 to R933) -/

/-- The signs of the multiply-add forms. -/
inductive FmaKind where
  | fma | fms | fnma
deriving DecidableEq, Repr

/-- `f3 * f4 + f2` with the signs of the form, before rounding (R930 to R932); `f2 = none` where the add is skipped.
The first NaN in the order f4, f2, f3 is the result. -/
def fmaExact (k : FmaKind) (rc : BitVec 2) (f3 f4 : Fr) (f2 : Option Fr) : Exact :=
  let p := f3.exact.mul f4.exact
  let p := if k = .fnma then { p with sign := !p.sign } else p
  match f2 with
  | none => p
  | some c =>
    let c := if k = .fms then { c.exact with sign := !c.sign } else c.exact
    Exact.add (rc == 1) p c

/-- A multiply-add with its exception checks (R924, R930). Where R930 lists both, a NaN operand comes before infinity times
zero: the result is the quieted NaN, and no Invalid is raised unless it was signaling (DESIGN CHOICE, log entry 28). -/
def fmaHalf (k : FmaKind) (c : FpControls) (dis : BitVec 6) (range : FpRange) (f3 f4 : Fr) (f2 : Option Fr) :
    FpHalf Fr :=
  let ops := f4 :: f2.toList ++ [f3]
  match nanResult ops with
  | some r => r
  | none =>
    let d := ops.any Fr.isUnorm
    let psign := (f3.sign != f4.sign) != (k == .fnma)
    let pinf := f3.cls == .infinity || f4.cls == .infinity
    let csign := (f2.getD Fr.zero).sign != (k == .fms)
    let cinf := f2.any (fun f => f.cls == .infinity)
    if pinf && (f3.cls == .zero || f4.cls == .zero) then invalidHalf Fr.indefinite
    else if pinf && cinf && psign != csign then invalidHalf Fr.indefinite
    else if pinf then { flags := { d := d }, val := Fr.inf psign }
    else if cinf then { flags := { d := d }, val := Fr.inf csign }
    else ((fmaExact k c.rc f3 f4 f2).round c (bit dis 3) (bit dis 4) range).half d

/-- The addend operand: none for FR0 (R930). -/
def State.addend (s : State) (f2 : BitVec 7) : Option Fr := if f2 = 0 then none else some (s.fpr f2)

/-- `fma`, `fms`, `fnma` (R930 to R932). -/
def multiplyAdd (k : FmaKind) (pc : FpPc) (qp : BitVec 6) (f1 f2 f3 f4 : BitVec 7) (sf : BitVec 2) (s : State) :
    Host.Outcome State Fault Refusal :=
  let c := s.fpControls sf
  scalarArith qp f1 [f2, f3, f4] sf
    (fmaHalf k c (s.fpDisables sf) (fpRange pc c) (s.fpr f3) (s.fpr f4) (s.addend f2)) s

/-- `fpma`, `fpms`, `fpnma` (R933). -/
def parallelMultiplyAdd (k : FmaKind) (qp : BitVec 6) (f1 f2 f3 f4 : BitVec 7) (sf : BitVec 2) (s : State) :
    Host.Outcome State Fault Refusal :=
  let c := s.fpControls sf
  let half (part : Fr → BitVec 32) : FpHalf (BitVec 32) :=
    (fmaHalf k c (s.fpDisables sf) singleRange (frOfSingle (part (s.fpr f3))) (frOfSingle (part (s.fpr f4)))
      ((s.addend f2).map fun f => frOfSingle (part f))).single
  parallelArith qp f1 [f2, f3, f4] sf (half Fr.highSingle) (half Fr.lowSingle) s

/-! ### Compares (R938, R946) -/

/-- The encoded relations. -/
inductive FpRel where
  | eq | lt | le | unord | neq | nlt | nle | ord
deriving DecidableEq, Repr

/-- Two operands without an order: a NaN or an unsupported format. -/
def unorderedFr (a b : Fr) : Bool :=
  a.isNan || b.isNan || a.cls == .unsupported || b.cls == .unsupported

/-- The relation (R938, R946). -/
def FpRel.holds (r : FpRel) (a b : Fr) : Bool :=
  let u := unorderedFr a b
  match r with
  | .eq => !u && fpEqual a b
  | .lt => !u && fpLess a b
  | .le => !u && (fpLess a b || fpEqual a b)
  | .unord => u
  | .neq => !(!u && fpEqual a b)
  | .nlt => !(!u && fpLess a b)
  | .nle => !(!u && (fpLess a b || fpEqual a b))
  | .ord => !u

/-- A quiet NaN is invalid for the ordered relations (R938, R946). -/
def FpRel.quietInvalid : FpRel → Bool
  | .lt | .le | .nlt | .nle => true
  | _ => false

/-- The conditions of a compare (R938): a NaN operand hides an unnormal one. R938 and R946 name NaNs alone: an operand of an
unsupported format is unordered too, and Invalid in every relation (DESIGN CHOICE, log entry 63). -/
def FpRel.flags (r : FpRel) (a b : Fr) : FpFlags :=
  if unorderedFr a b then
    { v := [a, b].any (fun f => f.cls == .signaling || f.cls == .unsupported) || r.quietInvalid }
  else { d := a.isUnorm || b.isUnorm }

/-- `fcmp` (R938). -/
def compareFr (r : FpRel) (unc : Bool) (qp p1 p2 : BitVec 6) (f2 f3 : BitVec 7) (sf : BitVec 2) (s : State) :
    Host.Outcome State Fault Refusal :=
  let a := s.fpr f2
  let b := s.fpr f3
  finish s <|
    if s.prBit qp then do
      check (p1 == p2) illegalOperation
      s.checkFp [f2, f3]
      if a = Fr.natVal ∨ b = Fr.natVal then done (s.setPrs p1 p2 false false)
      else do
        let code := faultBits (s.fpDisables sf) (r.flags a b)
        check (code != 0) (fpFault code 0)
        done ((s.raiseFlags sf (r.flags a b)).setPrs p1 p2 (r.holds a b) (!r.holds a b))
    else if unc then do
      check (p1 == p2) illegalOperation
      done (s.setPrs p1 p2 false false)
    else done s

/-- `fpcmp` (R946): a mask in each half. -/
def parallelCompare (r : FpRel) (qp : BitVec 6) (f1 f2 f3 : BitVec 7) (sf : BitVec 2) (s : State) :
    Host.Outcome State Fault Refusal :=
  let half (part : Fr → BitVec 32) : FpHalf (BitVec 32) :=
    let a := frOfSingle (part (s.fpr f2))
    let b := frOfSingle (part (s.fpr f3))
    { flags := r.flags a b, val := if r.holds a b then BitVec.allOnes 32 else 0 }
  parallelArith qp f1 [f2, f3] sf (half Fr.highSingle) (half Fr.lowSingle) s

/-! ### Minimum and maximum (R944, R945) -/

/-- The four choices: the operand is f2 if the test holds, f3 otherwise. -/
inductive MinMax where
  | min | max | amin | amax
deriving DecidableEq, Repr

/-- The test for f2 (R944). -/
def MinMax.first (m : MinMax) (a b : Fr) : Bool :=
  let abs (f : Fr) : Fr := { f with sign := false }
  !unorderedFr a b &&
    match m with
    | .min => fpLess a b
    | .max => fpLess b a
    | .amin => fpLess (abs a) (abs b)
    | .amax => fpLess (abs b) (abs a)

/-- Minimum or maximum with its conditions: Invalid for any NaN (R944). Of an operand of an unsupported format, which R944
does not name, the result is f3 and the operation is Invalid, as for a NaN (DESIGN CHOICE, log entry 63). -/
def MinMax.half (m : MinMax) (a b : Fr) : FpHalf Fr :=
  { flags := if unorderedFr a b then { v := true } else { d := a.isUnorm || b.isUnorm }
    val := if m.first a b then a else b }

/-- `fmin`, `fmax`, `famin`, `famax` (R944). -/
def minMax (m : MinMax) (qp : BitVec 6) (f1 f2 f3 : BitVec 7) (sf : BitVec 2) (s : State) :
    Host.Outcome State Fault Refusal :=
  scalarArith qp f1 [f2, f3] sf (m.half (s.fpr f2) (s.fpr f3)) s

/-- The parallel forms (R945): each half is copied as it is. -/
def parallelMinMax (m : MinMax) (qp : BitVec 6) (f1 f2 f3 : BitVec 7) (sf : BitVec 2) (s : State) :
    Host.Outcome State Fault Refusal :=
  let half (part : Fr → BitVec 32) : FpHalf (BitVec 32) :=
    let x := part (s.fpr f2)
    let y := part (s.fpr f3)
    { flags := (m.half (frOfSingle x) (frOfSingle y)).flags
      val := if m.first (frOfSingle x) (frOfSingle y) then x else y }
  parallelArith qp f1 [f2, f3] sf (half Fr.highSingle) (half Fr.lowSingle) s

/-! ### Conversions to integer (R954 to R956) -/

/-- The conversion to an integer of `n` bits, signed or unsigned (R954, R955): Invalid out of range. -/
def toIntegerHalf (n : Nat) (signed : Bool) (rc : BitVec 2) (f : Fr) : FpHalf (BitVec n) :=
  let indefinite : BitVec n := BitVec.ofNat n (2 ^ (n - 1))
  if f.isNan || f.cls == .unsupported || f.cls == .infinity then invalidHalf indefinite
  else
    let (q, inexact, inc) := f.exact.roundAt rc 0
    let v : Int := if f.sign then -(q : Int) else q
    let lo : Int := if signed then -(2 ^ (n - 1) : Nat) else 0
    let hi : Int := if signed then (2 ^ (n - 1) : Nat) - 1 else (2 ^ n : Nat) - 1
    if v < lo ∨ hi < v then invalidHalf indefinite
    else { flags := { d := f.isUnorm, i := inexact }, val := BitVec.ofInt n v, fpa := inc }

/-- Rounding by the status field, or toward zero (R954). -/
def State.convertRc (s : State) (trunc : Bool) (sf : BitVec 2) : BitVec 2 := if trunc then 3 else (s.fpControls sf).rc

/-- `fcvt.fx`, `fcvt.fxu` (R954, R955). -/
def convertToInteger (signed trunc : Bool) (qp : BitVec 6) (f1 f2 : BitVec 7) (sf : BitVec 2) (s : State) :
    Host.Outcome State Fault Refusal :=
  let h := toIntegerHalf 64 signed (s.convertRc trunc sf) (s.fpr f2)
  scalarArith qp f1 [f2] sf ⟨h.flags, Fr.ofInteger h.val, h.fpa⟩ s

/-- `fpcvt` (R956). -/
def parallelConvert (signed trunc : Bool) (qp : BitVec 6) (f1 f2 : BitVec 7) (sf : BitVec 2) (s : State) :
    Host.Outcome State Fault Refusal :=
  let half (part : Fr → BitVec 32) : FpHalf (BitVec 32) :=
    toIntegerHalf 32 signed (s.convertRc trunc sf) (frOfSingle (part (s.fpr f2)))
  parallelArith qp f1 [f2] sf (half Fr.highSingle) (half Fr.lowSingle) s

/-! ### Reciprocal approximations (R940 to R943) -/

/-- An outcome with the predicate that says it is an approximation. -/
structure Approx where
  half : FpHalf Fr
  approximate : Bool
deriving DecidableEq, Repr

/-- The unbiased exponent and the normalized 64-bit significand of a finite non-zero value. -/
def Fr.normalized (f : Fr) : Int × Nat :=
  let x := f.exact
  let k := Nat.log2 x.mag
  ((k : Int) + x.exp, x.mag <<< (63 - k))

/-- At most 11 significant bits, of a number below 2^13. -/
def elevenBits (u : Nat) : Bool := u < 2048 || (u < 4096 && u % 2 == 0) || u % 4 == 0

/-- An approximation of the reciprocal of m / 2^63 in units of 2^-12, of 11 significant bits (R941): whatever value within
the error bound the table gives, else the reciprocal cut. A relative error below 2^-8.886 is an error of
|2^75 - m * u| of at most 79854084191308625924, the greatest integer below 2^66.114. -/
def recipSig (m : Nat) : Nat :=
  let u := (Config.recipTable (BitVec.ofNat 64 m)).toNat
  let err : Int := (2 ^ 75 : Nat) - (m * u : Nat)
  if elevenBits u && decide (err.natAbs ≤ 79854084191308625924) then u else 2 * (2 ^ 74 / m)

/-- The same for the reciprocal square root of m / 2^63, or of twice that where `odd` (R941). A relative error below
2^-8.831 leaves x * u^2 between the integers nearest within (1 - 2^-8.831)^2 * 2^87 and (1 + 2^-8.831)^2 * 2^87. -/
def rsqrtSig (odd : Bool) (m : Nat) : Nat :=
  let u := (Config.rsqrtTable odd (BitVec.ofNat 64 m)).toNat
  let x := if odd then 2 * m else m
  if elevenBits u && decide (154063666136703572203576523 ≤ x * u * u)
      && decide (x * u * u ≤ 155422835956108090749940591) then u
  else 2 * isqrt (2 ^ 85 / x)

/-- The register with the value u * 2^(e - 12), for a `u` of at most 11 significant bits. -/
def packApprox (sign : Bool) (e : Int) (u : Nat) : Fr := packFr sign (e - 12 + Nat.log2 u) u (Nat.log2 u + 1)

/-- The exponents of `frcpa`'s operands or result lie where the quotient can be near the range limits (R940): outside
the double-extended range by choice of the implementation, or the approximation is not representable
(log entry 29). -/
def recipNearLimits (a b : Fr) : Bool :=
  let (ea, _) := a.normalized
  let (eb, _) := b.normalized
  decide (65532 < eb ∨ eb < -65535) ||
    (decide (16383 < ea ∨ ea < -16382 ∨ 16383 < eb ∨ eb < -16382) && Config.nearLimits a.exp a.sig b.exp b.sig)

/-- `fp_ieee_recip` with its checks (R940): a special quotient, or an approximation of 1 / b. -/
def recip (c : FpControls) (range : FpRange) (near : Bool) (a b : Fr) : Approx :=
  match nanResult [a, b] with
  | some r => ⟨r, false⟩
  | none =>
    let d := a.isUnorm || b.isUnorm
    let sign := a.sign != b.sign
    if (a.cls == .zero && b.cls == .zero) || (a.cls == .infinity && b.cls == .infinity) then
      ⟨invalidHalf Fr.indefinite, false⟩
    else if a.cls == .infinity then ⟨{ flags := { d }, val := Fr.inf sign }, false⟩
    else if b.cls == .infinity || a.cls == .zero then ⟨{ flags := { d }, val := Fr.signedZero sign }, false⟩
    else if b.cls == .zero then ⟨{ flags := { d, z := true }, val := Fr.inf sign }, false⟩
    else if near then ⟨{ flags := { d }, val := ((a.exact.div b.exact).round c true true range).val }, false⟩
    else
      let (eb, m) := b.normalized
      ⟨{ flags := { d }, val := packApprox b.sign (-eb) (recipSig m) }, true⟩

/-- `fp_ieee_recip_sqrt` with its checks (R942): `quotient` asks for the square root itself. -/
def recipSqrt (c : FpControls) (range : FpRange) (near : Bool) (a : Fr) : Approx :=
  match nanResult [a] with
  | some r => ⟨r, false⟩
  | none =>
    let d := a.isUnorm
    if a.cls == .zero then ⟨{ flags := { d }, val := Fr.signedZero a.sign }, false⟩
    else if a.sign then ⟨invalidHalf Fr.indefinite, false⟩
    else if a.cls == .infinity then ⟨{ val := Fr.inf false }, false⟩
    else if near then ⟨{ flags := { d }, val := (a.exact.sqrt.round c true true range).val }, false⟩
    else
      let (e, m) := a.normalized
      let odd := e % 2 != 0
      ⟨{ flags := { d }, val := packApprox false (-(e / 2)) (rsqrtSig odd m) }, true⟩

/-- `frcpa`, `frsqrta` (R940, R942): p2 says that the result is an approximation; PR[qp] = 0 clears it. -/
def approximation (qp p2 : BitVec 6) (f1 : BitVec 7) (srcs : List (BitVec 7)) (sf : BitVec 2) (r : Approx)
    (s : State) : Host.Outcome State Fault Refusal :=
  finish s <|
    if s.prBit qp then do
      checkFpTarget f1
      s.checkFp (f1 :: srcs)
      if srcs.any (fun f => s.fpr f == Fr.natVal) then done ((s.setFpr f1 Fr.natVal).setPr p2 false)
      else do
        let code := faultBits (s.fpDisables sf) r.half.flags
        check (code != 0) (fpFault code 0)
        done (((s.raiseFlags sf r.half.flags).setFpr f1 r.half.val).setPr p2 r.approximate)
    else done (s.setPr p2 false)

/-- The parallel forms (R943): p2 only if both halves are ordinary and within the limits; else both hold the IEEE
result, which `exact` gives. -/
def parallelApproximation (qp p2 : BitVec 6) (f1 : BitVec 7) (srcs : List (BitVec 7)) (sf : BitVec 2)
    (half : Bool → (Fr → BitVec 32) → Approx) (s : State) : Host.Outcome State Fault Refusal :=
  let both := (half false Fr.highSingle).approximate && (half false Fr.lowSingle).approximate
  let hi := half (!both) Fr.highSingle
  let lo := half (!both) Fr.lowSingle
  let dis := s.fpDisables sf
  finish s <|
    if s.prBit qp then do
      checkFpTarget f1
      s.checkFp (f1 :: srcs)
      if srcs.any (fun f => s.fpr f == Fr.natVal) then done ((s.setFpr f1 Fr.natVal).setPr p2 false)
      else do
        check (faultBits dis lo.half.flags != 0 || faultBits dis hi.half.flags != 0)
          (fpFault (faultBits dis lo.half.flags) (faultBits dis hi.half.flags))
        done (((s.raiseFlags sf (hi.half.flags.or lo.half.flags)).setFpr f1
          (Fr.ofHalves hi.half.val.toSingle lo.half.val.toSingle)).setPr p2 both)
    else done (s.setPr p2 false)

/-- A single whose exponent lies well within the range: no limit is near (log entry 29). -/
def singleSafe (x : BitVec 32) : Bool :=
  let e : BitVec 8 := fld x 23 8
  decide (64 ≤ e.toNat ∧ e.toNat ≤ 190)

/-- Operand limit violations (R943): a reciprocal that is no normal single is one; else, off the safe range, the
implementation's choice. -/
def singleLimits (sqrt : Bool) (x y : BitVec 32) : Bool :=
  let e : BitVec 8 := fld y 23 8
  !(singleSafe x && singleSafe y) &&
    (!sqrt && (e == 0 || decide (251 < e.toNat)) || Config.limitsViolated sqrt x y)

/-- `fma f1 = f3, f4, f2 (.sf in bits 35:34)` (R930). -/
def execFmaF1 (qp : BitVec 6) (f1 f2 f3 f4 : BitVec 7) (sf : BitVec 2) (s : State) : Host.Outcome State Fault Refusal :=
  multiplyAdd .fma .none qp f1 f2 f3 f4 sf s

/-- `fma.s f1 = f3, f4, f2 (.sf in bits 35:34)` (R930). -/
def execFmaSF1 (qp : BitVec 6) (f1 f2 f3 f4 : BitVec 7) (sf : BitVec 2) (s : State) : Host.Outcome State Fault Refusal :=
  multiplyAdd .fma .s qp f1 f2 f3 f4 sf s

/-- `fma.d f1 = f3, f4, f2 (.sf in bits 35:34)` (R930). -/
def execFmaDF1 (qp : BitVec 6) (f1 f2 f3 f4 : BitVec 7) (sf : BitVec 2) (s : State) : Host.Outcome State Fault Refusal :=
  multiplyAdd .fma .d qp f1 f2 f3 f4 sf s

/-- `fms f1 = f3, f4, f2 (.sf in bits 35:34)` (R931). -/
def execFmsF1 (qp : BitVec 6) (f1 f2 f3 f4 : BitVec 7) (sf : BitVec 2) (s : State) : Host.Outcome State Fault Refusal :=
  multiplyAdd .fms .none qp f1 f2 f3 f4 sf s

/-- `fms.s f1 = f3, f4, f2 (.sf in bits 35:34)` (R931). -/
def execFmsSF1 (qp : BitVec 6) (f1 f2 f3 f4 : BitVec 7) (sf : BitVec 2) (s : State) : Host.Outcome State Fault Refusal :=
  multiplyAdd .fms .s qp f1 f2 f3 f4 sf s

/-- `fms.d f1 = f3, f4, f2 (.sf in bits 35:34)` (R931). -/
def execFmsDF1 (qp : BitVec 6) (f1 f2 f3 f4 : BitVec 7) (sf : BitVec 2) (s : State) : Host.Outcome State Fault Refusal :=
  multiplyAdd .fms .d qp f1 f2 f3 f4 sf s

/-- `fnma f1 = f3, f4, f2 (.sf in bits 35:34)` (R932). -/
def execFnmaF1 (qp : BitVec 6) (f1 f2 f3 f4 : BitVec 7) (sf : BitVec 2) (s : State) : Host.Outcome State Fault Refusal :=
  multiplyAdd .fnma .none qp f1 f2 f3 f4 sf s

/-- `fnma.s f1 = f3, f4, f2 (.sf in bits 35:34)` (R932). -/
def execFnmaSF1 (qp : BitVec 6) (f1 f2 f3 f4 : BitVec 7) (sf : BitVec 2) (s : State) : Host.Outcome State Fault Refusal :=
  multiplyAdd .fnma .s qp f1 f2 f3 f4 sf s

/-- `fnma.d f1 = f3, f4, f2 (.sf in bits 35:34)` (R932). -/
def execFnmaDF1 (qp : BitVec 6) (f1 f2 f3 f4 : BitVec 7) (sf : BitVec 2) (s : State) : Host.Outcome State Fault Refusal :=
  multiplyAdd .fnma .d qp f1 f2 f3 f4 sf s

/-- `fpma f1 = f3, f4, f2 (.sf in bits 35:34)` (R933). -/
def execFpmaF1 (qp : BitVec 6) (f1 f2 f3 f4 : BitVec 7) (sf : BitVec 2) (s : State) : Host.Outcome State Fault Refusal :=
  parallelMultiplyAdd .fma qp f1 f2 f3 f4 sf s

/-- `fpms f1 = f3, f4, f2 (.sf in bits 35:34)` (R933). -/
def execFpmsF1 (qp : BitVec 6) (f1 f2 f3 f4 : BitVec 7) (sf : BitVec 2) (s : State) : Host.Outcome State Fault Refusal :=
  parallelMultiplyAdd .fms qp f1 f2 f3 f4 sf s

/-- `fpnma f1 = f3, f4, f2 (.sf in bits 35:34)` (R933). -/
def execFpnmaF1 (qp : BitVec 6) (f1 f2 f3 f4 : BitVec 7) (sf : BitVec 2) (s : State) : Host.Outcome State Fault Refusal :=
  parallelMultiplyAdd .fnma qp f1 f2 f3 f4 sf s

/-- `fcmp.eq p1, p2 = f2, f3` (R938). -/
def execFcmpEqF4 (qp p1 p2 : BitVec 6) (f2 f3 : BitVec 7) (sf : BitVec 2) (s : State) : Host.Outcome State Fault Refusal :=
  compareFr .eq false qp p1 p2 f2 f3 sf s

/-- `fcmp.eq.unc p1, p2 = f2, f3` (R938). -/
def execFcmpEqUncF4 (qp p1 p2 : BitVec 6) (f2 f3 : BitVec 7) (sf : BitVec 2) (s : State) : Host.Outcome State Fault Refusal :=
  compareFr .eq true qp p1 p2 f2 f3 sf s

/-- `fcmp.lt p1, p2 = f2, f3` (R938). -/
def execFcmpLtF4 (qp p1 p2 : BitVec 6) (f2 f3 : BitVec 7) (sf : BitVec 2) (s : State) : Host.Outcome State Fault Refusal :=
  compareFr .lt false qp p1 p2 f2 f3 sf s

/-- `fcmp.lt.unc p1, p2 = f2, f3` (R938). -/
def execFcmpLtUncF4 (qp p1 p2 : BitVec 6) (f2 f3 : BitVec 7) (sf : BitVec 2) (s : State) : Host.Outcome State Fault Refusal :=
  compareFr .lt true qp p1 p2 f2 f3 sf s

/-- `fcmp.le p1, p2 = f2, f3` (R938). -/
def execFcmpLeF4 (qp p1 p2 : BitVec 6) (f2 f3 : BitVec 7) (sf : BitVec 2) (s : State) : Host.Outcome State Fault Refusal :=
  compareFr .le false qp p1 p2 f2 f3 sf s

/-- `fcmp.le.unc p1, p2 = f2, f3` (R938). -/
def execFcmpLeUncF4 (qp p1 p2 : BitVec 6) (f2 f3 : BitVec 7) (sf : BitVec 2) (s : State) : Host.Outcome State Fault Refusal :=
  compareFr .le true qp p1 p2 f2 f3 sf s

/-- `fcmp.unord p1, p2 = f2, f3` (R938). -/
def execFcmpUnordF4 (qp p1 p2 : BitVec 6) (f2 f3 : BitVec 7) (sf : BitVec 2) (s : State) : Host.Outcome State Fault Refusal :=
  compareFr .unord false qp p1 p2 f2 f3 sf s

/-- `fcmp.unord.unc p1, p2 = f2, f3` (R938). -/
def execFcmpUnordUncF4 (qp p1 p2 : BitVec 6) (f2 f3 : BitVec 7) (sf : BitVec 2) (s : State) : Host.Outcome State Fault Refusal :=
  compareFr .unord true qp p1 p2 f2 f3 sf s

/-- `fpcmp.eq f1 = f2, f3` (R946). -/
def execFpcmpEqF8 (qp : BitVec 6) (f1 f2 f3 : BitVec 7) (sf : BitVec 2) (s : State) : Host.Outcome State Fault Refusal :=
  parallelCompare .eq qp f1 f2 f3 sf s

/-- `fpcmp.lt f1 = f2, f3` (R946). -/
def execFpcmpLtF8 (qp : BitVec 6) (f1 f2 f3 : BitVec 7) (sf : BitVec 2) (s : State) : Host.Outcome State Fault Refusal :=
  parallelCompare .lt qp f1 f2 f3 sf s

/-- `fpcmp.le f1 = f2, f3` (R946). -/
def execFpcmpLeF8 (qp : BitVec 6) (f1 f2 f3 : BitVec 7) (sf : BitVec 2) (s : State) : Host.Outcome State Fault Refusal :=
  parallelCompare .le qp f1 f2 f3 sf s

/-- `fpcmp.unord f1 = f2, f3` (R946). -/
def execFpcmpUnordF8 (qp : BitVec 6) (f1 f2 f3 : BitVec 7) (sf : BitVec 2) (s : State) : Host.Outcome State Fault Refusal :=
  parallelCompare .unord qp f1 f2 f3 sf s

/-- `fpcmp.neq f1 = f2, f3` (R946). -/
def execFpcmpNeqF8 (qp : BitVec 6) (f1 f2 f3 : BitVec 7) (sf : BitVec 2) (s : State) : Host.Outcome State Fault Refusal :=
  parallelCompare .neq qp f1 f2 f3 sf s

/-- `fpcmp.nlt f1 = f2, f3` (R946). -/
def execFpcmpNltF8 (qp : BitVec 6) (f1 f2 f3 : BitVec 7) (sf : BitVec 2) (s : State) : Host.Outcome State Fault Refusal :=
  parallelCompare .nlt qp f1 f2 f3 sf s

/-- `fpcmp.nle f1 = f2, f3` (R946). -/
def execFpcmpNleF8 (qp : BitVec 6) (f1 f2 f3 : BitVec 7) (sf : BitVec 2) (s : State) : Host.Outcome State Fault Refusal :=
  parallelCompare .nle qp f1 f2 f3 sf s

/-- `fpcmp.ord f1 = f2, f3` (R946). -/
def execFpcmpOrdF8 (qp : BitVec 6) (f1 f2 f3 : BitVec 7) (sf : BitVec 2) (s : State) : Host.Outcome State Fault Refusal :=
  parallelCompare .ord qp f1 f2 f3 sf s

/-- `fmin f1 = f2, f3` (R944). -/
def execFminF8 (qp : BitVec 6) (f1 f2 f3 : BitVec 7) (sf : BitVec 2) (s : State) : Host.Outcome State Fault Refusal :=
  minMax .min qp f1 f2 f3 sf s

/-- `fpmin f1 = f2, f3` (R945). -/
def execFpminF8 (qp : BitVec 6) (f1 f2 f3 : BitVec 7) (sf : BitVec 2) (s : State) : Host.Outcome State Fault Refusal :=
  parallelMinMax .min qp f1 f2 f3 sf s

/-- `fmax f1 = f2, f3` (R944). -/
def execFmaxF8 (qp : BitVec 6) (f1 f2 f3 : BitVec 7) (sf : BitVec 2) (s : State) : Host.Outcome State Fault Refusal :=
  minMax .max qp f1 f2 f3 sf s

/-- `fpmax f1 = f2, f3` (R945). -/
def execFpmaxF8 (qp : BitVec 6) (f1 f2 f3 : BitVec 7) (sf : BitVec 2) (s : State) : Host.Outcome State Fault Refusal :=
  parallelMinMax .max qp f1 f2 f3 sf s

/-- `famin f1 = f2, f3` (R944). -/
def execFaminF8 (qp : BitVec 6) (f1 f2 f3 : BitVec 7) (sf : BitVec 2) (s : State) : Host.Outcome State Fault Refusal :=
  minMax .amin qp f1 f2 f3 sf s

/-- `fpamin f1 = f2, f3` (R945). -/
def execFpaminF8 (qp : BitVec 6) (f1 f2 f3 : BitVec 7) (sf : BitVec 2) (s : State) : Host.Outcome State Fault Refusal :=
  parallelMinMax .amin qp f1 f2 f3 sf s

/-- `famax f1 = f2, f3` (R944). -/
def execFamaxF8 (qp : BitVec 6) (f1 f2 f3 : BitVec 7) (sf : BitVec 2) (s : State) : Host.Outcome State Fault Refusal :=
  minMax .amax qp f1 f2 f3 sf s

/-- `fpamax f1 = f2, f3` (R945). -/
def execFpamaxF8 (qp : BitVec 6) (f1 f2 f3 : BitVec 7) (sf : BitVec 2) (s : State) : Host.Outcome State Fault Refusal :=
  parallelMinMax .amax qp f1 f2 f3 sf s

/-- `fcvt.fx f1 = f2` (R954). -/
def execFcvtFxF10 (qp : BitVec 6) (f1 f2 : BitVec 7) (sf : BitVec 2) (s : State) : Host.Outcome State Fault Refusal :=
  convertToInteger true false qp f1 f2 sf s

/-- `fpcvt.fx f1 = f2` (R956). -/
def execFpcvtFxF10 (qp : BitVec 6) (f1 f2 : BitVec 7) (sf : BitVec 2) (s : State) : Host.Outcome State Fault Refusal :=
  parallelConvert true false qp f1 f2 sf s

/-- `fcvt.fx.trunc f1 = f2` (R954). -/
def execFcvtFxTruncF10 (qp : BitVec 6) (f1 f2 : BitVec 7) (sf : BitVec 2) (s : State) : Host.Outcome State Fault Refusal :=
  convertToInteger true true qp f1 f2 sf s

/-- `fpcvt.fx.trunc f1 = f2` (R956). -/
def execFpcvtFxTruncF10 (qp : BitVec 6) (f1 f2 : BitVec 7) (sf : BitVec 2) (s : State) : Host.Outcome State Fault Refusal :=
  parallelConvert true true qp f1 f2 sf s

/-- `fcvt.fxu f1 = f2` (R955). -/
def execFcvtFxuF10 (qp : BitVec 6) (f1 f2 : BitVec 7) (sf : BitVec 2) (s : State) : Host.Outcome State Fault Refusal :=
  convertToInteger false false qp f1 f2 sf s

/-- `fpcvt.fxu f1 = f2` (R956). -/
def execFpcvtFxuF10 (qp : BitVec 6) (f1 f2 : BitVec 7) (sf : BitVec 2) (s : State) : Host.Outcome State Fault Refusal :=
  parallelConvert false false qp f1 f2 sf s

/-- `fcvt.fxu.trunc f1 = f2` (R955). -/
def execFcvtFxuTruncF10 (qp : BitVec 6) (f1 f2 : BitVec 7) (sf : BitVec 2) (s : State) : Host.Outcome State Fault Refusal :=
  convertToInteger false true qp f1 f2 sf s

/-- `fpcvt.fxu.trunc f1 = f2` (R956). -/
def execFpcvtFxuTruncF10 (qp : BitVec 6) (f1 f2 : BitVec 7) (sf : BitVec 2) (s : State) : Host.Outcome State Fault Refusal :=
  parallelConvert false true qp f1 f2 sf s

/-- `frcpa f1, p2 = f2, f3` (R940). -/
def execFrcpaF6 (qp p2 : BitVec 6) (f1 f2 f3 : BitVec 7) (sf : BitVec 2) (s : State) : Host.Outcome State Fault Refusal :=
  let c := s.fpControls sf
  approximation qp p2 f1 [f2, f3] sf
    (recip c (fpRange .none c) (recipNearLimits (s.fpr f2) (s.fpr f3)) (s.fpr f2) (s.fpr f3)) s

/-- `frsqrta f1, p2 = f3` (R942). -/
def execFrsqrtaF7 (qp p2 : BitVec 6) (f1 f3 : BitVec 7) (sf : BitVec 2) (s : State) : Host.Outcome State Fault Refusal :=
  let c := s.fpControls sf
  approximation qp p2 f1 [f3] sf (recipSqrt c (fpRange .none c) false (s.fpr f3)) s

/-- `fprcpa f1, p2 = f2, f3` (R943). -/
def execFprcpaF6 (qp p2 : BitVec 6) (f1 f2 f3 : BitVec 7) (sf : BitVec 2) (s : State) : Host.Outcome State Fault Refusal :=
  let c := s.fpControls sf
  parallelApproximation qp p2 f1 [f2, f3] sf (fun exact part =>
    let x := part (s.fpr f2)
    let y := part (s.fpr f3)
    recip c singleRange (exact || singleLimits false x y) (frOfSingle x) (frOfSingle y)) s

/-- `fprsqrta f1, p2 = f3` (R943). -/
def execFprsqrtaF7 (qp p2 : BitVec 6) (f1 f3 : BitVec 7) (sf : BitVec 2) (s : State) : Host.Outcome State Fault Refusal :=
  let c := s.fpControls sf
  parallelApproximation qp p2 f1 [f3] sf (fun exact part =>
    let y := part (s.fpr f3)
    recipSqrt c singleRange (exact || singleLimits true y y) (frOfSingle y)) s

end Sys2Proof.Machine
end

