-- ==== Sys2Proof/Machine/FpMisc.lean ====
section
/-! DEFINITION. Floating-point instructions without arithmetic exceptions (formats F2, F3, F5, F9, F11 to F14; 45_fp.md
sections 2, 3, 5, 6 and 7). -/

namespace Sys2Proof.Machine

/-- An instruction that writes FR f1 and touches no status field (R925): NaTVal in a source gives NaTVal. -/
def writeFp (qp : BitVec 6) (f1 : BitVec 7) (srcs : List (BitVec 7)) (v : Fr) (s : State) :
    Host.Outcome State Fault Refusal :=
  predicated qp s do
    checkFpTarget f1
    s.checkFp (f1 :: srcs)
    done (s.setFpr f1 (if srcs.any (fun f => s.fpr f == Fr.natVal) then Fr.natVal else v))

/-- The 128-bit multiply-add of `xma` (R936): signed multiplicands. -/
def xmaSigned (a b c : Word) : BitVec 128 := a.signExtend 128 * b.signExtend 128 + c.zeroExtend 128

/-- The same with unsigned multiplicands. -/
def xmaUnsigned (a b c : Word) : BitVec 128 := a.zeroExtend 128 * b.zeroExtend 128 + c.zeroExtend 128

/-- `fcvt.xf` (R957): the signed integer, normalized. -/
def integerToFr (v : Word) : Fr :=
  let sign := v.msb
  let m := v.toInt.natAbs
  if m = 0 then Fr.zero else packFr sign (Nat.log2 m) (m <<< (63 - Nat.log2 m)) 64

/-- The relation of `fclass` (R939). -/
def classHolds (fclass9 : BitVec 9) (f : Fr) : Bool :=
  let c := f.cls
  ((bit fclass9 0 && !f.sign || bit fclass9 1 && f.sign) &&
      (bit fclass9 2 && c == .zero || bit fclass9 3 && f.isUnorm || bit fclass9 4 && f.isNormal
        || bit fclass9 5 && c == .infinity))
    || bit fclass9 6 && c == .signaling || bit fclass9 7 && c == .quiet || bit fclass9 8 && c == .natVal

/-- `fclass` (R939): as a compare; NaTVal that is not asked for clears both predicates. -/
def classify (unc : Bool) (qp p1 p2 : BitVec 6) (f2 : BitVec 7) (fclass9 : BitVec 9) (s : State) :
    Host.Outcome State Fault Refusal :=
  let f := s.fpr f2
  finish s <|
    if s.prBit qp then do
      check (p1 == p2) illegalOperation
      s.checkFp [f2]
      if f = Fr.natVal ∧ bit fclass9 8 = false then done (s.setPrs p1 p2 false false)
      else done (s.setPrs p1 p2 (classHolds fclass9 f) (!classHolds fclass9 f))
    else if unc then do
      check (p1 == p2) illegalOperation
      done (s.setPrs p1 p2 false false)
    else done s

/-- A result in the integer container from the two halves of the sources' significands (R948 to R952). -/
def pairFr (hi lo : BitVec 32) : Fr := Fr.ofHalves hi lo

/-- One half of `fpmerge` (R948): the bits of `mask` from `a`, the rest from `b`. -/
def mergeBits (mask a b : BitVec 32) : BitVec 32 := (a &&& mask) ||| (b &&& ~~~mask)

/-- `fpmerge` on both halves of the sources. -/
def mergeHalves (f : BitVec 32 → BitVec 32 → BitVec 32) (a b : Fr) : Fr :=
  pairFr (f a.highSingle b.highSingle) (f a.lowSingle b.lowSingle)

/-- The 32 copies of a sign bit (R950). -/
def signCopies (b : Bool) : BitVec 32 := if b then BitVec.allOnes 32 else 0

/-- A set flag whose trap is enabled, or that sf0 does not have (R960). -/
def State.fchkfFails (s : State) (sf : BitVec 2) : Bool :=
  let flags := fpsrFlags s.ar.fpsr sf
  flags &&& ~~~fpsrTraps s.ar.fpsr != 0 || flags &&& ~~~fpsrFlags s.ar.fpsr 0 != 0

/-- `xma.l f1 = f3, f4, f2` (R936). -/
def execXmaLF2 (qp : BitVec 6) (f1 f2 f3 f4 : BitVec 7) (s : State) : Host.Outcome State Fault Refusal :=
  writeFp qp f1 [f2, f3, f4] (Fr.ofInteger (fld (xmaSigned (s.fpr f3).sig (s.fpr f4).sig (s.fpr f2).sig) 0 64)) s

/-- `xma.h f1 = f3, f4, f2` (R936). -/
def execXmaHF2 (qp : BitVec 6) (f1 f2 f3 f4 : BitVec 7) (s : State) : Host.Outcome State Fault Refusal :=
  writeFp qp f1 [f2, f3, f4] (Fr.ofInteger (fld (xmaSigned (s.fpr f3).sig (s.fpr f4).sig (s.fpr f2).sig) 64 64)) s

/-- `xma.hu f1 = f3, f4, f2` (R936). -/
def execXmaHuF2 (qp : BitVec 6) (f1 f2 f3 f4 : BitVec 7) (s : State) : Host.Outcome State Fault Refusal :=
  writeFp qp f1 [f2, f3, f4] (Fr.ofInteger (fld (xmaUnsigned (s.fpr f3).sig (s.fpr f4).sig (s.fpr f2).sig) 64 64)) s

/-- `fselect f1 = f3, f4, f2` (R937). -/
def execFselectF3 (qp : BitVec 6) (f1 f2 f3 f4 : BitVec 7) (s : State) : Host.Outcome State Fault Refusal :=
  writeFp qp f1 [f2, f3, f4] (Fr.ofInteger (((s.fpr f3).sig &&& (s.fpr f2).sig) ||| ((s.fpr f4).sig &&& ~~~(s.fpr f2).sig))) s

/-- `fclass.m p1, p2 = f2, fclass9 (= fclass7c<<2 | fc2)` (R939). -/
def execFclassMF5 (qp p1 p2 : BitVec 6) (f2 : BitVec 7) (fclass9 : BitVec 9) (s : State) : Host.Outcome State Fault Refusal :=
  classify false qp p1 p2 f2 fclass9 s

/-- `fclass.m.unc p1, p2 = f2, fclass9` (R939). -/
def execFclassMUncF5 (qp p1 p2 : BitVec 6) (f2 : BitVec 7) (fclass9 : BitVec 9) (s : State) : Host.Outcome State Fault Refusal :=
  classify true qp p1 p2 f2 fclass9 s

/-- `fmerge.s f1 = f2, f3` (R947). -/
def execFmergeSF9 (qp : BitVec 6) (f1 f2 f3 : BitVec 7) (s : State) : Host.Outcome State Fault Refusal :=
  writeFp qp f1 [f2, f3] ({ s.fpr f3 with sign := (s.fpr f2).sign }) s

/-- `fmerge.ns f1 = f2, f3` (R947). -/
def execFmergeNsF9 (qp : BitVec 6) (f1 f2 f3 : BitVec 7) (s : State) : Host.Outcome State Fault Refusal :=
  writeFp qp f1 [f2, f3] ({ s.fpr f3 with sign := !(s.fpr f2).sign }) s

/-- `fmerge.se f1 = f2, f3` (R947). -/
def execFmergeSeF9 (qp : BitVec 6) (f1 f2 f3 : BitVec 7) (s : State) : Host.Outcome State Fault Refusal :=
  writeFp qp f1 [f2, f3] ({ s.fpr f2 with sig := (s.fpr f3).sig }) s

/-- `fpmerge.s f1 = f2, f3` (R948). -/
def execFpmergeSF9 (qp : BitVec 6) (f1 f2 f3 : BitVec 7) (s : State) : Host.Outcome State Fault Refusal :=
  writeFp qp f1 [f2, f3] (mergeHalves (mergeBits 0x80000000) (s.fpr f2) (s.fpr f3)) s

/-- `fpmerge.ns f1 = f2, f3` (R948). -/
def execFpmergeNsF9 (qp : BitVec 6) (f1 f2 f3 : BitVec 7) (s : State) : Host.Outcome State Fault Refusal :=
  writeFp qp f1 [f2, f3] (mergeHalves (fun a b => mergeBits 0x80000000 (~~~a) b) (s.fpr f2) (s.fpr f3)) s

/-- `fpmerge.se f1 = f2, f3` (R948). -/
def execFpmergeSeF9 (qp : BitVec 6) (f1 f2 f3 : BitVec 7) (s : State) : Host.Outcome State Fault Refusal :=
  writeFp qp f1 [f2, f3] (mergeHalves (mergeBits 0xFF800000) (s.fpr f2) (s.fpr f3)) s

/-- `fmix.l f1 = f2, f3` (R949). -/
def execFmixLF9 (qp : BitVec 6) (f1 f2 f3 : BitVec 7) (s : State) : Host.Outcome State Fault Refusal :=
  writeFp qp f1 [f2, f3] (pairFr (s.fpr f2).highSingle (s.fpr f3).highSingle) s

/-- `fmix.r f1 = f2, f3` (R949). -/
def execFmixRF9 (qp : BitVec 6) (f1 f2 f3 : BitVec 7) (s : State) : Host.Outcome State Fault Refusal :=
  writeFp qp f1 [f2, f3] (pairFr (s.fpr f2).lowSingle (s.fpr f3).lowSingle) s

/-- `fmix.lr f1 = f2, f3` (R949). -/
def execFmixLrF9 (qp : BitVec 6) (f1 f2 f3 : BitVec 7) (s : State) : Host.Outcome State Fault Refusal :=
  writeFp qp f1 [f2, f3] (pairFr (s.fpr f2).highSingle (s.fpr f3).lowSingle) s

/-- `fsxt.l f1 = f2, f3` (R950). -/
def execFsxtLF9 (qp : BitVec 6) (f1 f2 f3 : BitVec 7) (s : State) : Host.Outcome State Fault Refusal :=
  writeFp qp f1 [f2, f3] (pairFr (signCopies (bit (s.fpr f2).sig 63)) (s.fpr f3).highSingle) s

/-- `fsxt.r f1 = f2, f3` (R950). -/
def execFsxtRF9 (qp : BitVec 6) (f1 f2 f3 : BitVec 7) (s : State) : Host.Outcome State Fault Refusal :=
  writeFp qp f1 [f2, f3] (pairFr (signCopies (bit (s.fpr f2).sig 31)) (s.fpr f3).lowSingle) s

/-- `fpack f1 = f2, f3` (R951). -/
def execFpackF9 (qp : BitVec 6) (f1 f2 f3 : BitVec 7) (s : State) : Host.Outcome State Fault Refusal :=
  writeFp qp f1 [f2, f3] (pairFr (s.fpr f2).toSingle (s.fpr f3).toSingle) s

/-- `fswap f1 = f2, f3` (R952). -/
def execFswapF9 (qp : BitVec 6) (f1 f2 f3 : BitVec 7) (s : State) : Host.Outcome State Fault Refusal :=
  writeFp qp f1 [f2, f3] (pairFr (s.fpr f3).lowSingle (s.fpr f2).highSingle) s

/-- `fswap.nl f1 = f2, f3` (R952). -/
def execFswapNlF9 (qp : BitVec 6) (f1 f2 f3 : BitVec 7) (s : State) : Host.Outcome State Fault Refusal :=
  writeFp qp f1 [f2, f3] (pairFr ((s.fpr f3).lowSingle ^^^ 0x80000000) (s.fpr f2).highSingle) s

/-- `fswap.nr f1 = f2, f3` (R952). -/
def execFswapNrF9 (qp : BitVec 6) (f1 f2 f3 : BitVec 7) (s : State) : Host.Outcome State Fault Refusal :=
  writeFp qp f1 [f2, f3] (pairFr (s.fpr f3).lowSingle ((s.fpr f2).highSingle ^^^ 0x80000000)) s

/-- `fand f1 = f2, f3` (R953). -/
def execFandF9 (qp : BitVec 6) (f1 f2 f3 : BitVec 7) (s : State) : Host.Outcome State Fault Refusal :=
  writeFp qp f1 [f2, f3] (Fr.ofInteger ((s.fpr f2).sig &&& (s.fpr f3).sig)) s

/-- `fandcm f1 = f2, f3` (R953). -/
def execFandcmF9 (qp : BitVec 6) (f1 f2 f3 : BitVec 7) (s : State) : Host.Outcome State Fault Refusal :=
  writeFp qp f1 [f2, f3] (Fr.ofInteger ((s.fpr f2).sig &&& ~~~(s.fpr f3).sig)) s

/-- `for f1 = f2, f3` (R953). -/
def execForF9 (qp : BitVec 6) (f1 f2 f3 : BitVec 7) (s : State) : Host.Outcome State Fault Refusal :=
  writeFp qp f1 [f2, f3] (Fr.ofInteger ((s.fpr f2).sig ||| (s.fpr f3).sig)) s

/-- `fxor f1 = f2, f3` (R953). -/
def execFxorF9 (qp : BitVec 6) (f1 f2 f3 : BitVec 7) (s : State) : Host.Outcome State Fault Refusal :=
  writeFp qp f1 [f2, f3] (Fr.ofInteger ((s.fpr f2).sig ^^^ (s.fpr f3).sig)) s

/-- `fcvt.xf f1 = f2` (R957). -/
def execFcvtXfF11 (qp : BitVec 6) (f1 f2 : BitVec 7) (s : State) : Host.Outcome State Fault Refusal :=
  writeFp qp f1 [f2] (integerToFr (s.fpr f2).sig) s

/-- `fsetc amask7, omask7` (R958). -/
def execFsetcF12 (qp : BitVec 6) (sf : BitVec 2) (omask7c amask7b : BitVec 7) (s : State) : Host.Outcome State Fault Refusal :=
  let c := (fpsrControls s.ar.fpsr 0 &&& amask7b) ||| omask7c
  predicated qp s do
    check (controlsReserved sf c) reservedRegisterField
    done { s with ar := { s.ar with fpsr := setFpsrControls s.ar.fpsr sf c } }

/-- `fclrf` (R959). -/
def execFclrfF13 (qp : BitVec 6) (sf : BitVec 2) (s : State) : Host.Outcome State Fault Refusal :=
  predicated qp s (done { s with ar := { s.ar with fpsr := setFpsrFlags s.ar.fpsr sf 0 } })

/-- `fchkf target25 (= IP + sign_ext(s<<20 | imm20a, 21) << 4)` (R960). -/
def execFchkfF14 (qp : BitVec 6) (sf : BitVec 2) (disp21 : BitVec 21) (s : State) : Host.Outcome State Fault Refusal :=
  predicated qp s (if s.fchkfFails sf then checkFails .fchkf disp21 s else done s)

end Sys2Proof.Machine
end

