-- ==== Sys2Proof/Machine/Moves.lean ====
section
/-! DEFINITION. Moves to and from branch, predicate, application, control and status registers, hints, breaks, register
stack control (formats I18, I19, I21 to I28, M24, M25, M29 to M37, M44, M48 to M50, F15, F16, X1, X5; 42_system.md
sections 1, 3, 4 and 7, 43_integer.md section 4). -/

namespace Sys2Proof.Machine

/-! ### Application registers (R80) -/

/-- What an application register number names (R80, R91, R92). -/
inductive Ar where
  | kr (i : Fin 8)
  | rsc | bsp | bspstore | rnat | fcr | eflag | csd | ssd | cflg | fsr | fir | fdr | ccv | unat | fpsr | itc | ruc
  | pfs | lc | ec
  | ignored
  | reserved
deriving DecidableEq, Repr

/-- The register of a number (R80). -/
def arOf (n : BitVec 7) : Ar :=
  let n := n.toNat
  if n < 8 then .kr (Fin.ofNat 8 n)
  else if n = 16 then .rsc
  else if n = 17 then .bsp
  else if n = 18 then .bspstore
  else if n = 19 then .rnat
  else if n = 21 then .fcr
  else if n = 24 then .eflag
  else if n = 25 then .csd
  else if n = 26 then .ssd
  else if n = 27 then .cflg
  else if n = 28 then .fsr
  else if n = 29 then .fir
  else if n = 30 then .fdr
  else if n = 32 then .ccv
  else if n = 36 then .unat
  else if n = 40 then .fpsr
  else if n = 44 then .itc
  else if n = 45 then (if Config.implRuc then .ruc else .reserved)
  else if n = 64 then .pfs
  else if n = 65 then .lc
  else if n = 66 then .ec
  else if (48 ≤ n ∧ n < 64) ∨ 112 ≤ n then .ignored
  else .reserved

/-- The register may be accessed from the I unit (`iForm`) or the M unit (R92, R93). -/
def Ar.onUnit (iForm : Bool) : Ar → Bool
  | .reserved => false
  | .ignored => true
  | .pfs | .lc | .ec => iForm
  | _ => !iForm

/-- The value that a `mov` reads (R680). -/
def State.arValue (s : State) : Ar → Word
  | .kr i => s.ar.kr[i]
  | .rsc => s.ar.rsc
  | .bsp => s.ar.bsp
  | .bspstore => s.ar.bspstore
  | .rnat => s.ar.rnat
  | .fcr => s.ar.fcr
  | .eflag => s.ar.eflag
  | .csd => s.ar.csd
  | .ssd => s.ar.ssd
  | .cflg => s.ar.cflg
  | .fsr => s.ar.fsr
  | .fir => s.ar.fir
  | .fdr => s.ar.fdr
  | .ccv => s.ar.ccv
  | .unat => s.ar.unat
  | .fpsr => s.ar.fpsr
  | .itc => s.itcValue
  | .ruc => s.ar.ruc
  | .pfs => s.ar.pfs
  | .lc => s.ar.lc
  | .ec => s.ar.ec.zeroExtend 64
  | .ignored | .reserved => 0

/-- The number of an IA-32 register (R90). -/
def Ar.ia32Number : Ar → Option Nat
  | .fcr => some 21
  | .eflag => some 24
  | .csd => some 25
  | .ssd => some 26
  | .cflg => some 27
  | .fsr => some 28
  | .fir => some 29
  | .fdr => some 30
  | _ => none

/-- A value that would write a one into a reserved field of the register (R88, R89); those of the IA-32 registers, whose
layouts the spec does not give, are ignored (R90, log entry 50). -/
def Ar.reservedField (v : Word) (r : Ar) : Bool :=
  match r with
  | .rsc => v &&& 0xFFFFFFFFC000FFE0 != 0
  | .fpsr => fpsrReserved v
  | _ => !Config.ia32Ignored && r.ia32Number.any fun n => Config.ia32Reserved n v

/-- RSC with its privilege field clamped to the current level (R680). -/
def State.clampRsc (s : State) (v : Word) : Word :=
  if (fld v 2 2 : BitVec 2) < s.cpl then setFld v 2 s.cpl else v

/-- The register written, ignored bits masked (R680, R83, R84, R88). A written RNAT also serves later loads of its group
(log entry 16). -/
def State.setAr (s : State) (r : Ar) (v : Word) : State :=
  match r with
  | .kr i => { s with ar := { s.ar with kr := s.ar.kr.set i v } }
  | .rsc => { s with ar := { s.ar with rsc := s.clampRsc v } }
  | .bspstore => s.setBspstore v
  | .rnat =>
    let v := setBit v 63 false
    { s with
      ar := { s.ar with rnat := v }
      rse := { s.rse with dispersal := if s.loadsOpenGroup then v else s.rse.dispersal } }
  | .fcr => { s with ar := { s.ar with fcr := v } }
  | .eflag => { s with ar := { s.ar with eflag := v } }
  | .csd => { s with ar := { s.ar with csd := v } }
  | .ssd => { s with ar := { s.ar with ssd := v } }
  | .cflg => { s with ar := { s.ar with cflg := v } }
  | .fsr => { s with ar := { s.ar with fsr := v } }
  | .fir => { s with ar := { s.ar with fir := v } }
  | .fdr => { s with ar := { s.ar with fdr := v } }
  | .ccv => { s with ar := { s.ar with ccv := v } }
  | .unat => { s with ar := { s.ar with unat := v } }
  | .fpsr => { s with ar := { s.ar with fpsr := v } }
  | .itc => { s with ar := { s.ar with itc := v } }
  | .ruc => { s with ar := { s.ar with ruc := v } }
  | .pfs => { s with ar := { s.ar with pfs := v &&& 0xC3F0003FFFFFFFFF } }
  | .lc => { s with ar := { s.ar with lc := v } }
  | .ec => { s with ar := { s.ar with ec := fld v 0 6 } }
  | .bsp | .ignored | .reserved => s

/-- BSPSTORE and RNAT may be accessed in enforced lazy mode only (R88, R680). -/
def State.checkLazy (s : State) (r : Ar) : Except Stop Unit :=
  check ((r == .bspstore || r == .rnat) && s.rscMode != 0) illegalOperation

/-- The counters ITC and RUC. -/
def Ar.isCounter (r : Ar) : Bool := r == .itc || r == .ruc

/-- `mov r1 = ar3` (R680, R90). A read of ITC or RUC is virtualized under PSR.si alone, as R680's operation has it
(DESIGN CHOICE, log entry 57: the prose of R81 and R1137 asks for PSR.vm only). -/
def moveFromAr (iForm : Bool) (qp : BitVec 6) (r1 ar3 : BitVec 7) (s : State) : Host.Outcome State Fault Refusal :=
  let r := arOf ar3
  predicated qp s do
    check (!r.onUnit iForm) illegalOperation
    s.checkTarget r1
    s.checkLazy r
    check (r.isCounter && s.psrBit Psr.si && s.cpl != 0 || r == .cflg && s.cpl != 0) privilegedRegister
    check (r.isCounter && s.psrBit Psr.si && s.psrBit Psr.vm) virtualizationFault
    done (s.setGr r1 (Gr.ofWord (s.arValue r)))

/-- `mov ar3 = r2` and `mov ar3 = imm8` (R680, R87, R90). -/
def moveToAr (iForm : Bool) (qp : BitVec 6) (ar3 : BitVec 7) (src : Gr) (s : State) :
    Host.Outcome State Fault Refusal :=
  let r := arOf ar3
  predicated qp s do
    check (!r.onUnit iForm) illegalOperation
    check (r == .bsp) illegalOperation
    s.checkLazy r
    check src.nat (natConsumption {})
    check (r.reservedField src.val) reservedRegisterField
    check ((decide (ar3.toNat < 8) || r.isCounter || r == .cflg) && s.cpl != 0) privilegedRegister
    check (r.isCounter && s.psrBit Psr.vm) virtualizationFault
    done (s.setAr r src.val)

/-! ### Control registers (R100) -/

/-- What a control register number names (R100). -/
inductive Cr where
  | dcr | itm | iva | ito | pta | gpta | ipsr | isr | iip | ifa | itir | iipa | ifs | iim | iha | iib0 | iib1
  | lid | ivr | tpr | eoi
  | irr (i : Fin 4)
  | itv | pmv | cmcv | lrr0 | lrr1
  | reserved
deriving DecidableEq, Repr

/-- The register of a number (R100). -/
def crOf (n : BitVec 7) : Cr :=
  match n.toNat with
  | 0 => .dcr
  | 1 => .itm
  | 2 => .iva
  | 4 => if Config.implIto then .ito else .reserved
  | 8 => .pta
  | 9 => .gpta
  | 16 => .ipsr
  | 17 => .isr
  | 19 => .iip
  | 20 => .ifa
  | 21 => .itir
  | 22 => .iipa
  | 23 => .ifs
  | 24 => .iim
  | 25 => .iha
  | 26 => if Config.implIib then .iib0 else .reserved
  | 27 => if Config.implIib then .iib1 else .reserved
  | 64 => .lid
  | 65 => .ivr
  | 66 => .tpr
  | 67 => .eoi
  | 68 => .irr 0
  | 69 => .irr 1
  | 70 => .irr 2
  | 71 => .irr 3
  | 72 => .itv
  | 73 => .pmv
  | 74 => .cmcv
  | 80 => .lrr0
  | 81 => .lrr1
  | _ => .reserved

/-- `is_interruption_cr` (R105). -/
def Cr.isInterruption : Cr → Bool
  | .ipsr | .isr | .iip | .ifa | .itir | .iipa | .ifs | .iim | .iha | .iib0 | .iib1 => true
  | _ => false

/-- `is_read_only_reg(CR_TYPE)` (R108). -/
def Cr.readOnly : Cr → Bool
  | .ivr | .irr _ => true
  | _ => false

/-- The value and the state after a read: a read of IVR serves the interrupt (R1162); EOI reads 0 (R1163); without
LINT pins LRR0 and LRR1 read 0 (R107). -/
def State.readCr (s : State) : Cr → Word × State
  | .dcr => (s.cr.dcr, s)
  | .itm => (s.cr.itm, s)
  | .iva => (s.cr.iva, s)
  | .ito => (s.cr.ito, s)
  | .pta => (s.cr.pta, s)
  | .gpta => (s.cr.gpta, s)
  | .ipsr => (s.cr.ipsr, s)
  | .isr => (s.cr.isr, s)
  | .iip => (s.cr.iip, s)
  | .ifa => (s.cr.ifa, s)
  | .itir => (Config.itirMask s.cr.itir, s)
  | .iipa => (s.cr.iipa, s)
  | .ifs => (s.cr.ifs, s)
  | .iim => (s.cr.iim, s)
  | .iha => (s.cr.iha, s)
  | .iib0 => (s.cr.iib0, s)
  | .iib1 => (s.cr.iib1, s)
  | .lid => (s.cr.lid, s)
  | .ivr => s.readIvr
  | .tpr => (s.cr.tpr, s)
  | .eoi => (0, s)
  | .irr i => (fld s.cr.irr (64 * i.val) 64, s)
  | .itv => (s.cr.itv, s)
  | .pmv => (s.cr.pmv, s)
  | .cmcv => (s.cr.cmcv, s)
  | .lrr0 => (if bit s.pal.features 37 then 0 else s.cr.lrr0, s)
  | .lrr1 => (if bit s.pal.features 37 then 0 else s.cr.lrr1, s)
  | .reserved => (0, s)

/-- The delivery modes 001, 011 and 110 are reserved, and the bits 11 and 14 (R107). -/
def lrrReserved (v : Word) : Bool :=
  bit v 11 || bit v 14 || fld v 8 3 == 1 || fld v 8 3 == 3 || fld v 8 3 == 6

/-- A value that would write a one into a reserved field, or a reserved encoding (R101, R105, R107, R110, R1122). Bits
to which the spec gives no field are plain storage (log entry 26). -/
def Cr.reservedField (v : Word) : Cr → Bool
  | .dcr => v &&& 0xFFFFFFFFFFFF80F8 != 0
  | .ipsr => v &&& Psr.reserved != 0
  | .isr => v &&& 0xFFFFF000FF000000 != 0
  | .itir => Config.checkMovItir && itirReserved v
  | .lrr0 | .lrr1 => lrrReserved v
  | _ => false

/-- The register written, ignored bits masked (R103, R681, R1161 to R1164). -/
def State.setCr (s : State) (c : Cr) (v : Word) : State :=
  match c with
  | .dcr => { s with cr := { s.cr with dcr := v } }
  | .itm => { s with cr := { s.cr with itm := v } }
  | .iva => { s with cr := { s.cr with iva := v &&& ~~~(0x7FFF : Word) } }
  | .ito => { s with cr := { s.cr with ito := v } }
  | .pta => { s with cr := { s.cr with pta := v } }
  | .gpta => { s with cr := { s.cr with gpta := v } }
  | .ipsr => { s with cr := { s.cr with ipsr := v } }
  | .isr => { s with cr := { s.cr with isr := v } }
  | .iip => { s with cr := { s.cr with iip := v } }
  | .ifa => { s with cr := { s.cr with ifa := v } }
  | .itir => { s with cr := { s.cr with itir := v } }
  | .iipa => { s with cr := { s.cr with iipa := v }, lastIp := v }
  | .ifs => { s with cr := { s.cr with ifs := v } }
  | .iim => { s with cr := { s.cr with iim := v } }
  | .iha => { s with cr := { s.cr with iha := v } }
  | .iib0 => { s with cr := { s.cr with iib0 := v } }
  | .iib1 => { s with cr := { s.cr with iib1 := v } }
  | .lid => { s with cr := { s.cr with lid := v &&& 0xFFFF0000 } }
  | .tpr => { s with cr := { s.cr with tpr := v &&& 0x100F0 } }
  | .eoi => s.endOfInterrupt
  | .itv => { s with cr := { s.cr with itv := v } }
  | .pmv => { s with cr := { s.cr with pmv := v } }
  | .cmcv => { s with cr := { s.cr with cmcv := v } }
  | .lrr0 => if bit s.pal.features 37 then s else { s with cr := { s.cr with lrr0 := v &&& 0x1E7FF } }
  | .lrr1 => if bit s.pal.features 37 then s else { s with cr := { s.cr with lrr1 := v &&& 0x1E7FF } }
  | .ivr | .irr _ | .reserved => s

/-- `mov r1 = cr3` (R681). -/
def moveFromCr (qp : BitVec 6) (r1 cr3 : BitVec 7) (s : State) : Host.Outcome State Fault Refusal :=
  let c := crOf cr3
  predicated qp s do
    check (c == .reserved || (s.psrBit Psr.ic && c.isInterruption)) illegalOperation
    s.checkTarget r1
    check (s.cpl != 0) (privilegedOperation {})
    check (s.psrBit Psr.vm) virtualizationFault
    done ((s.readCr c).2.setGr r1 (Gr.ofWord (s.readCr c).1))

/-- `mov cr3 = r2` (R681, R700). -/
def moveToCr (qp : BitVec 6) (r2 cr3 : BitVec 7) (s : State) : Host.Outcome State Fault Refusal :=
  let c := crOf cr3
  let v := (s.gr r2).val
  predicated qp s do
    check (c == .reserved || c.readOnly || (s.psrBit Psr.ic && c.isInterruption)) illegalOperation
    check (s.cpl != 0) (privilegedOperation {})
    check (s.gr r2).nat (natConsumption {})
    check (c.reservedField v) reservedRegisterField
    check (c == .ifa && Config.checkMovIfa && unimplementedVa v (s.psrBit Psr.vm)) (unimplementedData {})
    check (s.psrBit Psr.vm) virtualizationFault
    .ok { st := s.setCr c v, lastIp := if c = .iipa then some v else none }

/-! ### The processor status register (R682 to R685) -/

/-- PSR as `mov r1 = psr` reads it (R682): is, ri, id, da, dd, ss, ed, ia and vm read as 0. -/
def State.psrRead (s : State) : Word := s.psr &&& ~~~(0x00006FE400000000 : Word)

/-- `impl_check_mov_psr_l` (R682, R700): reserved bits of PSR{63:32} set in a source whose low half alone is written. -/
def psrHighReserved (v : Word) : Bool :=
  Config.checkMovPsrL && (fld v 47 17 != 0 || !Config.implVm && bit v Psr.vm)

/-- The user mask bits 5:1 with PSR.up kept where PSR.sp is 1, at level 0 too (R683, R684, whose vector V2.13.3 runs at level
0; R111's "and cpl != 0" is not followed: log entry 38). -/
def State.setUserMask (s : State) (v : BitVec 6) : State :=
  let up := if s.psrBit Psr.sp then s.psrBit Psr.up else bit v Psr.up
  { s with psr := setFld s.psr 1 (fld (setBit v Psr.up up) 1 5 : BitVec 5) }

/-- `sum` and `rum` (R684). -/
def userMask (qp : BitVec 6) (imm24 : BitVec 24) (new : BitVec 6) (s : State) : Host.Outcome State Fault Refusal :=
  predicated qp s do
    check (imm24 &&& 0xFFFFC1 != 0) reservedRegisterField
    done (s.setUserMask new)

/-- `ssm` and `rsm` (R685). -/
def systemMask (qp : BitVec 6) (imm24 : BitVec 24) (new : BitVec 24) (s : State) :
    Host.Outcome State Fault Refusal :=
  predicated qp s do
    check (s.cpl != 0) (privilegedOperation {})
    check (imm24 &&& Psr.reservedSm != 0) reservedRegisterField
    check (s.psrBit Psr.vm) virtualizationFault
    done { s with psr := setFld s.psr 0 new }

/-! ### Register stack control (R705, R706, R829) -/

/-- An instruction of notation f that does not begin a group is undefined (R264, R829, R705, U5). -/
def State.checkFirst (s : State) : Except Stop Unit := stuckIf (!s.firstInGroup) .undefinedBehavior

/-- The target check of `alloc` against the new frame (R17). -/
def badTargetSof (r1 : BitVec 7) (sof : BitVec 7) : Bool :=
  r1 == 0 || decide (32 ≤ r1.toNat ∧ sof.toNat ≤ r1.toNat - 32)

/-- The frame marker that `alloc` makes (R829): the rename bases stay. -/
def Cfm.allocated (c : Cfm) (sor : BitVec 4) (sol sof : BitVec 7) : Cfm := { c with sof := sof, sol := sol, sor := sor }

/-- `alloc` (R829, D42): the faults are raised whatever PR[qp] is. -/
def allocate (qp : BitVec 6) (r1 : BitVec 7) (sor : BitVec 4) (sol sof : BitVec 7) (s : State) :
    Host.Outcome State Fault Refusal :=
  finish s do
    s.checkFirst
    check (badTargetSof r1 sof) illegalOperation
    check (decide (96 < sof.toNat ∨ sof.toNat < 8 * sor.toNat ∨ sof.toNat < sol.toNat)) illegalOperation
    check (sor != s.cfm.sor && (s.cfm.rrbGr != 0 || s.cfm.rrbFr != 0 || s.cfm.rrbPr != 0)) reservedRegisterField
    if s.prBit qp then do
      let t ← s.rseNewFrame sof
      let u := { t with cfm := t.cfm.allocated sor sol sof }.alatPrune
      done (u.setGr r1 (Gr.ofWord s.ar.pfs))
    else done s

/-! ### Predicates -/

/-- The predicates under `mask` written from `v`, as if CFM.rrb.pr were 0 (R822, R823). -/
def State.setPredicates (s : State) (v mask : Word) : State := { s with pr := (s.pr &&& ~~~mask) ||| (v &&& mask) }

/-- `mov b1 = r2` (R820). -/
def moveToBr (qp : BitVec 6) (b1 : BitVec 3) (r2 : BitVec 7) (s : State) : Host.Outcome State Fault Refusal :=
  predicated qp s do
    check (s.gr r2).nat (natConsumption {})
    done (s.setBr b1 (s.gr r2).val)

/-- `break` (R674): CR[IIM] is the immediate, zero-extended. -/
def breakWith (qp : BitVec 6) (imm : Word) (s : State) : Host.Outcome State Fault Refusal :=
  predicated qp s (.error (.interrupt (breakFault imm)))

/-- `nop.i imm21 (= i<<20 | imm20a)` (R673). -/
def execNopII18 (qp : BitVec 6) (_imm21 : BitVec 21) (s : State) : Host.Outcome State Fault Refusal :=
  noEffect qp s

/-- `hint.i imm21` (R672). -/
def execHintII18 (qp : BitVec 6) (_imm21 : BitVec 21) (s : State) : Host.Outcome State Fault Refusal :=
  noEffect qp s

/-- `nop.m imm21 (= i<<20 | imm20a)` (R673). -/
def execNopMM48 (qp : BitVec 6) (_imm21 : BitVec 21) (s : State) : Host.Outcome State Fault Refusal :=
  noEffect qp s

/-- `hint.m imm19 (= i<<18 | imm14b<<4 | imm4a)` (R672). -/
def execHintMM49 (qp : BitVec 6) (_imm19 : BitVec 19) (s : State) : Host.Outcome State Fault Refusal :=
  noEffect qp s

/-- `nop.f imm21` (R673). -/
def execNopFF16 (qp : BitVec 6) (_imm21 : BitVec 21) (s : State) : Host.Outcome State Fault Refusal :=
  noEffect qp s

/-- `hint.f imm21` (R672). -/
def execHintFF16 (qp : BitVec 6) (_imm21 : BitVec 21) (s : State) : Host.Outcome State Fault Refusal :=
  noEffect qp s

/-- `fwb` (R689). -/
def execFwbM24 (qp : BitVec 6) (s : State) : Host.Outcome State Fault Refusal :=
  noEffect qp s

/-- `mf` (R688). -/
def execMfM24 (qp : BitVec 6) (s : State) : Host.Outcome State Fault Refusal :=
  noEffect qp s

/-- `mf.a` (R688). -/
def execMfAM24 (qp : BitVec 6) (s : State) : Host.Outcome State Fault Refusal :=
  noEffect qp s

/-- `srlz.d` (R686). -/
def execSrlzDM24 (qp : BitVec 6) (s : State) : Host.Outcome State Fault Refusal :=
  noEffect qp s

/-- `srlz.i` (R686). -/
def execSrlzIM24 (qp : BitVec 6) (s : State) : Host.Outcome State Fault Refusal :=
  noEffect qp s

/-- `sync.i` (R687). -/
def execSyncIM24 (qp : BitVec 6) (s : State) : Host.Outcome State Fault Refusal :=
  noEffect qp s

/-- `nop.x imm62` (R673). -/
def execNopXX5 (qp : BitVec 6) (_imm62 : BitVec 62) (s : State) : Host.Outcome State Fault Refusal :=
  predicatedLong qp s (.ok s)

/-- `hint.x imm62` (R672). -/
def execHintXX5 (qp : BitVec 6) (_imm62 : BitVec 62) (s : State) : Host.Outcome State Fault Refusal :=
  predicatedLong qp s (.ok s)

/-- `break.i imm21` (R674). -/
def execBreakII19 (qp : BitVec 6) (imm21 : BitVec 21) (s : State) : Host.Outcome State Fault Refusal :=
  breakWith qp (zx imm21) s

/-- `break.m imm21` (R674). -/
def execBreakMM37 (qp : BitVec 6) (imm21 : BitVec 21) (s : State) : Host.Outcome State Fault Refusal :=
  breakWith qp (zx imm21) s

/-- `break.f imm21` (R674). -/
def execBreakFF15 (qp : BitVec 6) (imm21 : BitVec 21) (s : State) : Host.Outcome State Fault Refusal :=
  breakWith qp (zx imm21) s

/-- `break.x imm62 (= imm41<<21 | i<<20 | imm20a; imm41 = L slot)` (R674). -/
def execBreakXX1 (qp : BitVec 6) (imm62 : BitVec 62) (s : State) : Host.Outcome State Fault Refusal :=
  finish s (if s.prBit qp then .error (.interrupt (breakFault (zx imm62)))
    else .ok { st := s, flow := .nextBundle })

/-- `mov b1 = r2, tag13 (hint completers mwh, ph, pvec, ih)` (R820). -/
def execMovToBrI21 (qp : BitVec 6) (b1 : BitVec 3) (r2 : BitVec 7) (_timm9c : BitVec 9) (_ih : BitVec 1) (_wh : BitVec 2) (_p : BitVec 1) (_pbtv : BitVec 3) (s : State) : Host.Outcome State Fault Refusal :=
  moveToBr qp b1 r2 s

/-- `mov.ret b1 = r2, tag13` (R820). -/
def execMovRetToBrI21 (qp : BitVec 6) (b1 : BitVec 3) (r2 : BitVec 7) (_timm9c : BitVec 9) (_ih : BitVec 1) (_wh : BitVec 2) (_p : BitVec 1) (_pbtv : BitVec 3) (s : State) : Host.Outcome State Fault Refusal :=
  moveToBr qp b1 r2 s

/-- `mov r1 = b2` (R821). -/
def execMovFromBrI22 (qp : BitVec 6) (r1 : BitVec 7) (b2 : BitVec 3) (s : State) : Host.Outcome State Fault Refusal :=
  writeGr qp r1 (Gr.ofWord (s.brReg b2)) s

/-- `mov pr = r2, mask17 (= sign_ext(s<<16 | mask8c<<8 | mask7a<<1, 17))` (R823). -/
def execMovToPrI23 (qp : BitVec 6) (r2 : BitVec 7) (mask16 : BitVec 16) (s : State) : Host.Outcome State Fault Refusal :=
  predicated qp s do
    check (s.gr r2).nat (natConsumption {})
    done (s.setPredicates (s.gr r2).val (predMask mask16))

/-- `mov pr.rot = imm44 (= sign_ext(s<<43 | imm27a<<16, 44))` (R822). -/
def execMovToPrRotI24 (qp : BitVec 6) (imm28 : BitVec 28) (s : State) : Host.Outcome State Fault Refusal :=
  predicated qp s (done (s.setPredicates (rotImm imm28) (~~~(0xFFFF : Word))))

/-- `mov r1 = ip` (R825). -/
def execMovFromIpI25 (qp : BitVec 6) (r1 : BitVec 7) (s : State) : Host.Outcome State Fault Refusal :=
  writeGr qp r1 (Gr.ofWord s.ip) s

/-- `mov r1 = pr` (R824). -/
def execMovFromPrI25 (qp : BitVec 6) (r1 : BitVec 7) (s : State) : Host.Outcome State Fault Refusal :=
  writeGr qp r1 (Gr.ofWord (s.pr ||| 1)) s

/-- `mov.i ar3 = r2` (R680). -/
def execMovIToArI26 (qp : BitVec 6) (r2 ar3 : BitVec 7) (s : State) : Host.Outcome State Fault Refusal :=
  moveToAr true qp ar3 (s.gr r2) s

/-- `mov.m ar3 = r2` (R680). -/
def execMovMToArM29 (qp : BitVec 6) (r2 ar3 : BitVec 7) (s : State) : Host.Outcome State Fault Refusal :=
  moveToAr false qp ar3 (s.gr r2) s

/-- `mov.i ar3 = imm8` (R680). -/
def execMovIToArImmI27 (qp : BitVec 6) (ar3 : BitVec 7) (imm8 : BitVec 8) (s : State) : Host.Outcome State Fault Refusal :=
  moveToAr true qp ar3 (Gr.ofWord (sx imm8)) s

/-- `mov.m ar3 = imm8` (R680). -/
def execMovMToArImmM30 (qp : BitVec 6) (ar3 : BitVec 7) (imm8 : BitVec 8) (s : State) : Host.Outcome State Fault Refusal :=
  moveToAr false qp ar3 (Gr.ofWord (sx imm8)) s

/-- `mov.i r1 = ar3` (R680). -/
def execMovIFromArI28 (qp : BitVec 6) (r1 ar3 : BitVec 7) (s : State) : Host.Outcome State Fault Refusal :=
  moveFromAr true qp r1 ar3 s

/-- `mov.m r1 = ar3` (R680). -/
def execMovMFromArM31 (qp : BitVec 6) (r1 ar3 : BitVec 7) (s : State) : Host.Outcome State Fault Refusal :=
  moveFromAr false qp r1 ar3 s

/-- `mov cr3 = r2` (R681). -/
def execMovToCrM32 (qp : BitVec 6) (r2 cr3 : BitVec 7) (s : State) : Host.Outcome State Fault Refusal :=
  moveToCr qp r2 cr3 s

/-- `mov r1 = cr3` (R681). -/
def execMovFromCrM33 (qp : BitVec 6) (r1 cr3 : BitVec 7) (s : State) : Host.Outcome State Fault Refusal :=
  moveFromCr qp r1 cr3 s

/-- `alloc r1 = ar.pfs, i, l, o, r (sof = i+l+o; sol = i+l; sor = r>>3)` (R829). -/
def execAllocM34 (qp : BitVec 6) (r1 : BitVec 7) (sor : BitVec 4) (sol sof : BitVec 7) (s : State) : Host.Outcome State Fault Refusal :=
  allocate qp r1 sor sol sof s

/-- `mov psr.l = r2` (R682). -/
def execMovToPsrLM35 (qp : BitVec 6) (r2 : BitVec 7) (s : State) : Host.Outcome State Fault Refusal :=
  predicated qp s do
    check (s.cpl != 0) (privilegedOperation {})
    check (s.gr r2).nat (natConsumption {})
    check (fld (s.gr r2).val 0 32 &&& Psr.reservedL != 0 || psrHighReserved (s.gr r2).val) reservedRegisterField
    check (s.psrBit Psr.vm) virtualizationFault
    done { s with psr := setFld s.psr 0 (fld (s.gr r2).val 0 32 : BitVec 32) }

/-- `mov psr.um = r2` (R683). -/
def execMovToPsrUmM35 (qp : BitVec 6) (r2 : BitVec 7) (s : State) : Host.Outcome State Fault Refusal :=
  predicated qp s do
    check (s.gr r2).nat (natConsumption {})
    check (fld (s.gr r2).val 6 58 != 0 || bit (s.gr r2).val 0) reservedRegisterField
    done (s.setUserMask (fld (s.gr r2).val 0 6))

/-- `mov r1 = psr` (R682). -/
def execMovFromPsrM36 (qp : BitVec 6) (r1 : BitVec 7) (s : State) : Host.Outcome State Fault Refusal :=
  predicated qp s do
    s.checkTarget r1
    check (s.cpl != 0) (privilegedOperation {})
    check (s.psrBit Psr.vm) virtualizationFault
    done (s.setGr r1 (Gr.ofWord s.psrRead))

/-- `mov r1 = psr.um` (R683). -/
def execMovFromPsrUmM36 (qp : BitVec 6) (r1 : BitVec 7) (s : State) : Host.Outcome State Fault Refusal :=
  writeGr qp r1 (Gr.ofWord ((fld s.psr 0 6 : BitVec 6).zeroExtend 64)) s

/-- `sum imm24 (= i<<23 | i2d<<21 | imm21a)` (R684). -/
def execSumM44 (qp : BitVec 6) (imm24 : BitVec 24) (s : State) : Host.Outcome State Fault Refusal :=
  userMask qp imm24 (fld s.psr 0 6 ||| fld imm24 0 6) s

/-- `rum imm24 (= i<<23 | i2d<<21 | imm21a)` (R684). -/
def execRumM44 (qp : BitVec 6) (imm24 : BitVec 24) (s : State) : Host.Outcome State Fault Refusal :=
  userMask qp imm24 (fld s.psr 0 6 &&& ~~~(fld imm24 0 6)) s

/-- `ssm imm24 (= i<<23 | i2d<<21 | imm21a)` (R685). -/
def execSsmM44 (qp : BitVec 6) (imm24 : BitVec 24) (s : State) : Host.Outcome State Fault Refusal :=
  systemMask qp imm24 (fld s.psr 0 24 ||| imm24) s

/-- `rsm imm24 (= i<<23 | i2d<<21 | imm21a)` (R685). -/
def execRsmM44 (qp : BitVec 6) (imm24 : BitVec 24) (s : State) : Host.Outcome State Fault Refusal :=
  systemMask qp imm24 (fld s.psr 0 24 &&& ~~~imm24) s

/-- `flushrs` (R705). -/
def execFlushrsM25 (s : State) : Host.Outcome State Fault Refusal :=
  finish s do
    s.checkFirst
    let t ← s.flushRse
    done t

/-- `loadrs` (R706). -/
def execLoadrsM25 (s : State) : Host.Outcome State Fault Refusal :=
  finish s do
    s.checkFirst
    check (s.rscMode != 0) illegalOperation
    let t ← s.ensureLoaded
    done t

/-- `mov dahr3 = imm16 (= i<<15 | imm11b<<4 | imm4a)` (R670). -/
def execMovToDahrImmM50 (qp : BitVec 6) (dahr3 : BitVec 3) (imm16 : BitVec 16) (s : State) : Host.Outcome State Fault Refusal :=
  predicated qp s
    (done (if Config.implDahr then { s with dahr := s.dahr.set dahr3.toFin (imm16 &&& 0x07FF) } else s))

end Sys2Proof.Machine
end

