-- ==== Sys2Proof/Machine/Multimedia.lean ====
section
/-! DEFINITION. Multimedia: parallel integer instructions (formats A9, A10, I1 to I8; 44_multimedia.md). Element 0 is the
least significant. -/

namespace Sys2Proof.Machine

/-! ### Elements -/

/-- Byte, halfword and word elements of a register. -/
def byteOf (a : Word) (i : Nat) : BitVec 8 := fld a (8 * i) 8
def halfOf (a : Word) (i : Nat) : BitVec 16 := fld a (16 * i) 16
def wordOf (a : Word) (i : Nat) : BitVec 32 := fld a (32 * i) 32

/-- A register from its elements, the most significant first. -/
def joinBytes (b7 b6 b5 b4 b3 b2 b1 b0 : BitVec 8) : Word := b7 ++ b6 ++ b5 ++ b4 ++ b3 ++ b2 ++ b1 ++ b0
def joinHalves (h3 h2 h1 h0 : BitVec 16) : Word := h3 ++ h2 ++ h1 ++ h0
def joinWords (w1 w0 : BitVec 32) : Word := w1 ++ w0

/-- A register from a function of the element's index. -/
def ofBytes (f : Nat → BitVec 8) : Word := joinBytes (f 7) (f 6) (f 5) (f 4) (f 3) (f 2) (f 1) (f 0)
def ofHalves (f : Nat → BitVec 16) : Word := joinHalves (f 3) (f 2) (f 1) (f 0)
def ofWords (f : Nat → BitVec 32) : Word := joinWords (f 1) (f 0)

/-- Elementwise operations. -/
def bytewise (f : BitVec 8 → BitVec 8 → BitVec 8) (a b : Word) : Word := ofBytes fun i => f (byteOf a i) (byteOf b i)
def halfwise (f : BitVec 16 → BitVec 16 → BitVec 16) (a b : Word) : Word :=
  ofHalves fun i => f (halfOf a i) (halfOf b i)
def wordwise (f : BitVec 32 → BitVec 32 → BitVec 32) (a b : Word) : Word :=
  ofWords fun i => f (wordOf a i) (wordOf b i)

/-! ### Saturation (R860) -/

/-- The exact value `x` clamped to `lo .. hi`. -/
def clampTo (n : Nat) (lo hi x : Int) : BitVec n := BitVec.ofInt n (max lo (min hi x))

/-- Clamped to the signed range of `n` bits. -/
def satSigned (n : Nat) (x : Int) : BitVec n := clampTo n (-(2 ^ (n - 1))) (2 ^ (n - 1) - 1) x

/-- Clamped to the unsigned range of `n` bits. -/
def satUnsigned (n : Nat) (x : Int) : BitVec n := clampTo n 0 (2 ^ n - 1) x

/-- Parallel add and subtract with the completers sss, uuu, uus (R862, R864). -/
def addSss {n : Nat} (a b : BitVec n) : BitVec n := satSigned n (a.toInt + b.toInt)
def addUuu {n : Nat} (a b : BitVec n) : BitVec n := satUnsigned n (a.toNat + b.toNat)
def addUus {n : Nat} (a b : BitVec n) : BitVec n := satUnsigned n (a.toNat + b.toInt)
def subSss {n : Nat} (a b : BitVec n) : BitVec n := satSigned n (a.toInt - b.toInt)
def subUuu {n : Nat} (a b : BitVec n) : BitVec n := satUnsigned n (a.toNat - b.toNat)
def subUus {n : Nat} (a b : BitVec n) : BitVec n := satUnsigned n (a.toNat - b.toInt)

/-! ### Averages and compares -/

/-- Half of an (n+1)-bit value, the bit shifted out ORed into the lowest bit (R865, R866). -/
def halveToOdd {n : Nat} (x : BitVec (n + 1)) : BitVec n := (x.sshiftRight 1 ||| (x &&& 1)).zeroExtend n

/-- `pavg` (R865). -/
def average {n : Nat} (a b : BitVec n) : BitVec n :=
  let sum := a.zeroExtend (n + 1) + b.zeroExtend (n + 1)
  ((sum >>> 1) ||| (sum &&& 1)).zeroExtend n

/-- `pavg.raz` (R865). -/
def averageRaz {n : Nat} (a b : BitVec n) : BitVec n :=
  ((a.zeroExtend (n + 1) + b.zeroExtend (n + 1) + 1) >>> 1).zeroExtend n

/-- `pavgsub` (R866). -/
def averageSub {n : Nat} (a b : BitVec n) : BitVec n := halveToOdd (a.zeroExtend (n + 1) - b.zeroExtend (n + 1))

/-- `pcmp` (R867): all ones or all zeros. -/
def maskOf (n : Nat) (b : Bool) : BitVec n := if b then BitVec.allOnes n else 0
def parallelEq {n : Nat} (a b : BitVec n) : BitVec n := maskOf n (a == b)
def parallelGt {n : Nat} (a b : BitVec n) : BitVec n := maskOf n (b.slt a)

/-! ### Shift and add, multiply -/

/-- `pshladd2` (R868). -/
def shiftLeftAdd2 (count : Nat) (a b : BitVec 16) : BitVec 16 :=
  satSigned 16 ((satSigned 16 (a.toInt * 2 ^ count)).toInt + b.toInt)

/-- `pshradd2` (R869). -/
def shiftRightAdd2 (count : Nat) (a b : BitVec 16) : BitVec 16 :=
  satSigned 16 ((a.sshiftRight count).toInt + b.toInt)

/-- `pmpyshr2` (R875). -/
def multiplyShiftSigned (count : Nat) (a b : BitVec 16) : BitVec 16 :=
  fld ((a.signExtend 32 * b.signExtend 32) >>> count) 0 16

/-- `pmpyshr2.u` (R875). -/
def multiplyShiftUnsigned (count : Nat) (a b : BitVec 16) : BitVec 16 :=
  fld ((a.zeroExtend 32 * b.zeroExtend 32) >>> count) 0 16

/-- The signed 32-bit product of two halfwords (R876). -/
def product2 (a b : BitVec 16) : BitVec 32 := a.signExtend 32 * b.signExtend 32

/-- `pmpy2.r` and `pmpy2.l` (R876). -/
def multiplyRight (a b : Word) : Word :=
  joinWords (product2 (halfOf a 2) (halfOf b 2)) (product2 (halfOf a 0) (halfOf b 0))
def multiplyLeft (a b : Word) : Word :=
  joinWords (product2 (halfOf a 3) (halfOf b 3)) (product2 (halfOf a 1) (halfOf b 1))

/-! ### Arrangement (R880 to R886) -/

/-- `mix` (R880): the odd (`o = 1`) or even (`o = 0`) elements, `a`'s in the more significant place of each pair. -/
def mix1 (o : Nat) (a b : Word) : Word :=
  joinBytes (byteOf a (6 + o)) (byteOf b (6 + o)) (byteOf a (4 + o)) (byteOf b (4 + o))
    (byteOf a (2 + o)) (byteOf b (2 + o)) (byteOf a o) (byteOf b o)
def mix2 (o : Nat) (a b : Word) : Word :=
  joinHalves (halfOf a (2 + o)) (halfOf b (2 + o)) (halfOf a o) (halfOf b o)
def mix4 (o : Nat) (a b : Word) : Word := joinWords (wordOf a o) (wordOf b o)

/-- `unpack` (R881): the high half (`h` the number of its lowest element) or the low half (`h = 0`) interleaved. -/
def unpack1 (h : Nat) (a b : Word) : Word :=
  joinBytes (byteOf a (h + 3)) (byteOf b (h + 3)) (byteOf a (h + 2)) (byteOf b (h + 2))
    (byteOf a (h + 1)) (byteOf b (h + 1)) (byteOf a h) (byteOf b h)
def unpack2 (h : Nat) (a b : Word) : Word :=
  joinHalves (halfOf a (h + 1)) (halfOf b (h + 1)) (halfOf a h) (halfOf b h)
def unpack4 (h : Nat) (a b : Word) : Word := joinWords (wordOf a h) (wordOf b h)

/-- `pack` (R882): `a`'s elements narrowed into the less significant half, `b`'s into the more significant. -/
def pack2 (sat : Int → BitVec 8) (a b : Word) : Word :=
  ofBytes fun i => if i < 4 then sat (halfOf a i).toInt else sat (halfOf b (i - 4)).toInt
def pack4 (a b : Word) : Word :=
  ofHalves fun i => if i < 2 then satSigned 16 (wordOf a i).toInt else satSigned 16 (wordOf b (i - 2)).toInt

/-- `pmin1.u`, `pmax1.u`, `pmin2`, `pmax2` (R883). -/
def minUnsigned (a b : BitVec 8) : BitVec 8 := if a < b then a else b
def maxUnsigned (a b : BitVec 8) : BitVec 8 := if a < b then b else a
def minSigned (a b : BitVec 16) : BitVec 16 := if a.slt b then a else b
def maxSigned (a b : BitVec 16) : BitVec 16 := if a.slt b then b else a

/-- `psad1` (R884). -/
def sumAbsDiff (a b : Word) : Word :=
  BitVec.ofNat 64 (((List.range 8).map fun i =>
    ((byteOf a i).toNat - (byteOf b i).toNat) + ((byteOf b i).toNat - (byteOf a i).toNat)).sum)

/-- `mux1` (R885); `none` for a reserved mbtype4. -/
def permuteBytes (mbt : BitVec 4) (a : Word) : Option Word :=
  let b := byteOf a
  match mbt.toNat with
  | 0 => some (joinBytes (b 0) (b 0) (b 0) (b 0) (b 0) (b 0) (b 0) (b 0))
  | 8 => some (joinBytes (b 7) (b 3) (b 5) (b 1) (b 6) (b 2) (b 4) (b 0))
  | 9 => some (joinBytes (b 7) (b 3) (b 6) (b 2) (b 5) (b 1) (b 4) (b 0))
  | 10 => some (joinBytes (b 7) (b 5) (b 3) (b 1) (b 6) (b 4) (b 2) (b 0))
  | 11 => some (joinBytes (b 0) (b 1) (b 2) (b 3) (b 4) (b 5) (b 6) (b 7))
  | _ => none

/-- `mux2` (R886). -/
def permuteHalves (mht : BitVec 8) (a : Word) : Word := ofHalves fun i => halfOf a (fld mht (2 * i) 2 : BitVec 2).toNat

/-! ### Parallel shifts (R890, R891) -/

/-- A shift count: what exceeds the element's width shifts everything out. -/
def pshr2 (a : Word) (count : Nat) : Word := ofHalves fun i => (halfOf a i).sshiftRight (min count 15)
def pshr4 (a : Word) (count : Nat) : Word := ofWords fun i => (wordOf a i).sshiftRight (min count 31)
def pshr2u (a : Word) (count : Nat) : Word := ofHalves fun i => if 15 < count then 0 else halfOf a i >>> count
def pshr4u (a : Word) (count : Nat) : Word := ofWords fun i => if 31 < count then 0 else wordOf a i >>> count
def pshl2 (a : Word) (count : Nat) : Word := ofHalves fun i => if 15 < count then 0 else halfOf a i <<< count
def pshl4 (a : Word) (count : Nat) : Word := ofWords fun i => if 31 < count then 0 else wordOf a i <<< count

/-- `pshladd2` and `pshradd2` under their reserved count (R262: Illegal Operation where PR[qp] is 1). -/
def shiftAdd2 (f : Nat → BitVec 16 → BitVec 16 → BitVec 16) (qp : BitVec 6) (r1 r2 r3 : BitVec 7) (ct2d : BitVec 2)
    (s : State) : Host.Outcome State Fault Refusal :=
  predicated qp s do
    check (ct2d == 3) illegalOperation
    s.checkTarget r1
    done (s.setGr r1 (Gr.map₂ (halfwise (f (count2 ct2d))) (s.gr r2) (s.gr r3)))

/-- `mux1` (R885): a reserved permutation is an Illegal Operation where PR[qp] is 1. -/
def muxBytes (qp : BitVec 6) (r1 r2 : BitVec 7) (mbt : BitVec 4) (s : State) : Host.Outcome State Fault Refusal :=
  predicated qp s do
    check (permuteBytes mbt (s.gr r2).val).isNone illegalOperation
    s.checkTarget r1
    done (s.setGr r1 ((s.gr r2).map fun a => (permuteBytes mbt a).getD 0))

/-- `padd1 r1 = r2, r3` (R861). -/
def execPadd1A9 (qp : BitVec 6) (r1 r2 r3 : BitVec 7) (s : State) : Host.Outcome State Fault Refusal :=
  writeGr qp r1 (Gr.map₂ (bytewise (fun a b => a + b)) (s.gr r2) (s.gr r3)) s

/-- `padd2 r1 = r2, r3` (R861). -/
def execPadd2A9 (qp : BitVec 6) (r1 r2 r3 : BitVec 7) (s : State) : Host.Outcome State Fault Refusal :=
  writeGr qp r1 (Gr.map₂ (halfwise (fun a b => a + b)) (s.gr r2) (s.gr r3)) s

/-- `padd4 r1 = r2, r3` (R861). -/
def execPadd4A9 (qp : BitVec 6) (r1 r2 r3 : BitVec 7) (s : State) : Host.Outcome State Fault Refusal :=
  writeGr qp r1 (Gr.map₂ (wordwise (fun a b => a + b)) (s.gr r2) (s.gr r3)) s

/-- `padd1.sss r1 = r2, r3` (R862). -/
def execPadd1SssA9 (qp : BitVec 6) (r1 r2 r3 : BitVec 7) (s : State) : Host.Outcome State Fault Refusal :=
  writeGr qp r1 (Gr.map₂ (bytewise addSss) (s.gr r2) (s.gr r3)) s

/-- `padd2.sss r1 = r2, r3` (R862). -/
def execPadd2SssA9 (qp : BitVec 6) (r1 r2 r3 : BitVec 7) (s : State) : Host.Outcome State Fault Refusal :=
  writeGr qp r1 (Gr.map₂ (halfwise addSss) (s.gr r2) (s.gr r3)) s

/-- `padd1.uuu r1 = r2, r3` (R862). -/
def execPadd1UuuA9 (qp : BitVec 6) (r1 r2 r3 : BitVec 7) (s : State) : Host.Outcome State Fault Refusal :=
  writeGr qp r1 (Gr.map₂ (bytewise addUuu) (s.gr r2) (s.gr r3)) s

/-- `padd2.uuu r1 = r2, r3` (R862). -/
def execPadd2UuuA9 (qp : BitVec 6) (r1 r2 r3 : BitVec 7) (s : State) : Host.Outcome State Fault Refusal :=
  writeGr qp r1 (Gr.map₂ (halfwise addUuu) (s.gr r2) (s.gr r3)) s

/-- `padd1.uus r1 = r2, r3` (R862). -/
def execPadd1UusA9 (qp : BitVec 6) (r1 r2 r3 : BitVec 7) (s : State) : Host.Outcome State Fault Refusal :=
  writeGr qp r1 (Gr.map₂ (bytewise addUus) (s.gr r2) (s.gr r3)) s

/-- `padd2.uus r1 = r2, r3` (R862). -/
def execPadd2UusA9 (qp : BitVec 6) (r1 r2 r3 : BitVec 7) (s : State) : Host.Outcome State Fault Refusal :=
  writeGr qp r1 (Gr.map₂ (halfwise addUus) (s.gr r2) (s.gr r3)) s

/-- `psub1 r1 = r2, r3` (R863). -/
def execPsub1A9 (qp : BitVec 6) (r1 r2 r3 : BitVec 7) (s : State) : Host.Outcome State Fault Refusal :=
  writeGr qp r1 (Gr.map₂ (bytewise (fun a b => a - b)) (s.gr r2) (s.gr r3)) s

/-- `psub2 r1 = r2, r3` (R863). -/
def execPsub2A9 (qp : BitVec 6) (r1 r2 r3 : BitVec 7) (s : State) : Host.Outcome State Fault Refusal :=
  writeGr qp r1 (Gr.map₂ (halfwise (fun a b => a - b)) (s.gr r2) (s.gr r3)) s

/-- `psub4 r1 = r2, r3` (R863). -/
def execPsub4A9 (qp : BitVec 6) (r1 r2 r3 : BitVec 7) (s : State) : Host.Outcome State Fault Refusal :=
  writeGr qp r1 (Gr.map₂ (wordwise (fun a b => a - b)) (s.gr r2) (s.gr r3)) s

/-- `psub1.sss r1 = r2, r3` (R864). -/
def execPsub1SssA9 (qp : BitVec 6) (r1 r2 r3 : BitVec 7) (s : State) : Host.Outcome State Fault Refusal :=
  writeGr qp r1 (Gr.map₂ (bytewise subSss) (s.gr r2) (s.gr r3)) s

/-- `psub2.sss r1 = r2, r3` (R864). -/
def execPsub2SssA9 (qp : BitVec 6) (r1 r2 r3 : BitVec 7) (s : State) : Host.Outcome State Fault Refusal :=
  writeGr qp r1 (Gr.map₂ (halfwise subSss) (s.gr r2) (s.gr r3)) s

/-- `psub1.uuu r1 = r2, r3` (R864). -/
def execPsub1UuuA9 (qp : BitVec 6) (r1 r2 r3 : BitVec 7) (s : State) : Host.Outcome State Fault Refusal :=
  writeGr qp r1 (Gr.map₂ (bytewise subUuu) (s.gr r2) (s.gr r3)) s

/-- `psub2.uuu r1 = r2, r3` (R864). -/
def execPsub2UuuA9 (qp : BitVec 6) (r1 r2 r3 : BitVec 7) (s : State) : Host.Outcome State Fault Refusal :=
  writeGr qp r1 (Gr.map₂ (halfwise subUuu) (s.gr r2) (s.gr r3)) s

/-- `psub1.uus r1 = r2, r3` (R864). -/
def execPsub1UusA9 (qp : BitVec 6) (r1 r2 r3 : BitVec 7) (s : State) : Host.Outcome State Fault Refusal :=
  writeGr qp r1 (Gr.map₂ (bytewise subUus) (s.gr r2) (s.gr r3)) s

/-- `psub2.uus r1 = r2, r3` (R864). -/
def execPsub2UusA9 (qp : BitVec 6) (r1 r2 r3 : BitVec 7) (s : State) : Host.Outcome State Fault Refusal :=
  writeGr qp r1 (Gr.map₂ (halfwise subUus) (s.gr r2) (s.gr r3)) s

/-- `pavg1 r1 = r2, r3` (R865). -/
def execPavg1A9 (qp : BitVec 6) (r1 r2 r3 : BitVec 7) (s : State) : Host.Outcome State Fault Refusal :=
  writeGr qp r1 (Gr.map₂ (bytewise average) (s.gr r2) (s.gr r3)) s

/-- `pavg2 r1 = r2, r3` (R865). -/
def execPavg2A9 (qp : BitVec 6) (r1 r2 r3 : BitVec 7) (s : State) : Host.Outcome State Fault Refusal :=
  writeGr qp r1 (Gr.map₂ (halfwise average) (s.gr r2) (s.gr r3)) s

/-- `pavg1.raz r1 = r2, r3` (R865). -/
def execPavg1RazA9 (qp : BitVec 6) (r1 r2 r3 : BitVec 7) (s : State) : Host.Outcome State Fault Refusal :=
  writeGr qp r1 (Gr.map₂ (bytewise averageRaz) (s.gr r2) (s.gr r3)) s

/-- `pavg2.raz r1 = r2, r3` (R865). -/
def execPavg2RazA9 (qp : BitVec 6) (r1 r2 r3 : BitVec 7) (s : State) : Host.Outcome State Fault Refusal :=
  writeGr qp r1 (Gr.map₂ (halfwise averageRaz) (s.gr r2) (s.gr r3)) s

/-- `pavgsub1 r1 = r2, r3` (R866). -/
def execPavgsub1A9 (qp : BitVec 6) (r1 r2 r3 : BitVec 7) (s : State) : Host.Outcome State Fault Refusal :=
  writeGr qp r1 (Gr.map₂ (bytewise averageSub) (s.gr r2) (s.gr r3)) s

/-- `pavgsub2 r1 = r2, r3` (R866). -/
def execPavgsub2A9 (qp : BitVec 6) (r1 r2 r3 : BitVec 7) (s : State) : Host.Outcome State Fault Refusal :=
  writeGr qp r1 (Gr.map₂ (halfwise averageSub) (s.gr r2) (s.gr r3)) s

/-- `pcmp1.eq r1 = r2, r3` (R867). -/
def execPcmp1EqA9 (qp : BitVec 6) (r1 r2 r3 : BitVec 7) (s : State) : Host.Outcome State Fault Refusal :=
  writeGr qp r1 (Gr.map₂ (bytewise parallelEq) (s.gr r2) (s.gr r3)) s

/-- `pcmp2.eq r1 = r2, r3` (R867). -/
def execPcmp2EqA9 (qp : BitVec 6) (r1 r2 r3 : BitVec 7) (s : State) : Host.Outcome State Fault Refusal :=
  writeGr qp r1 (Gr.map₂ (halfwise parallelEq) (s.gr r2) (s.gr r3)) s

/-- `pcmp4.eq r1 = r2, r3` (R867). -/
def execPcmp4EqA9 (qp : BitVec 6) (r1 r2 r3 : BitVec 7) (s : State) : Host.Outcome State Fault Refusal :=
  writeGr qp r1 (Gr.map₂ (wordwise parallelEq) (s.gr r2) (s.gr r3)) s

/-- `pcmp1.gt r1 = r2, r3` (R867). -/
def execPcmp1GtA9 (qp : BitVec 6) (r1 r2 r3 : BitVec 7) (s : State) : Host.Outcome State Fault Refusal :=
  writeGr qp r1 (Gr.map₂ (bytewise parallelGt) (s.gr r2) (s.gr r3)) s

/-- `pcmp2.gt r1 = r2, r3` (R867). -/
def execPcmp2GtA9 (qp : BitVec 6) (r1 r2 r3 : BitVec 7) (s : State) : Host.Outcome State Fault Refusal :=
  writeGr qp r1 (Gr.map₂ (halfwise parallelGt) (s.gr r2) (s.gr r3)) s

/-- `pcmp4.gt r1 = r2, r3` (R867). -/
def execPcmp4GtA9 (qp : BitVec 6) (r1 r2 r3 : BitVec 7) (s : State) : Host.Outcome State Fault Refusal :=
  writeGr qp r1 (Gr.map₂ (wordwise parallelGt) (s.gr r2) (s.gr r3)) s

/-- `pshladd2 r1 = r2, count2, r3 (count2 = ct2d + 1; ct2d = 3 reservedQP)` (R868). -/
def execPshladd2A10 (qp : BitVec 6) (r1 r2 r3 : BitVec 7) (ct2d : BitVec 2) (s : State) : Host.Outcome State Fault Refusal :=
  shiftAdd2 shiftLeftAdd2 qp r1 r2 r3 ct2d s

/-- `pshradd2 r1 = r2, count2, r3 (count2 = ct2d + 1; ct2d = 3 reservedQP)` (R869). -/
def execPshradd2A10 (qp : BitVec 6) (r1 r2 r3 : BitVec 7) (ct2d : BitVec 2) (s : State) : Host.Outcome State Fault Refusal :=
  shiftAdd2 shiftRightAdd2 qp r1 r2 r3 ct2d s

/-- `pmpyshr2 r1 = r2, r3, count2 (count2 = 0, 7, 15, 16 for ct2d = 0..3)` (R875). -/
def execPmpyshr2I1 (qp : BitVec 6) (r1 r2 r3 : BitVec 7) (ct2d : BitVec 2) (s : State) : Host.Outcome State Fault Refusal :=
  writeGr qp r1 (Gr.map₂ (halfwise (multiplyShiftSigned (shiftCount2 ct2d))) (s.gr r2) (s.gr r3)) s

/-- `pmpyshr2.u r1 = r2, r3, count2` (R875). -/
def execPmpyshr2UI1 (qp : BitVec 6) (r1 r2 r3 : BitVec 7) (ct2d : BitVec 2) (s : State) : Host.Outcome State Fault Refusal :=
  writeGr qp r1 (Gr.map₂ (halfwise (multiplyShiftUnsigned (shiftCount2 ct2d))) (s.gr r2) (s.gr r3)) s

/-- `unpack1.h r1 = r2, r3` (R881). -/
def execUnpack1HI2 (qp : BitVec 6) (r1 r2 r3 : BitVec 7) (s : State) : Host.Outcome State Fault Refusal :=
  writeGr qp r1 (Gr.map₂ (unpack1 4) (s.gr r2) (s.gr r3)) s

/-- `unpack1.l r1 = r2, r3` (R881). -/
def execUnpack1LI2 (qp : BitVec 6) (r1 r2 r3 : BitVec 7) (s : State) : Host.Outcome State Fault Refusal :=
  writeGr qp r1 (Gr.map₂ (unpack1 0) (s.gr r2) (s.gr r3)) s

/-- `unpack2.h r1 = r2, r3` (R881). -/
def execUnpack2HI2 (qp : BitVec 6) (r1 r2 r3 : BitVec 7) (s : State) : Host.Outcome State Fault Refusal :=
  writeGr qp r1 (Gr.map₂ (unpack2 2) (s.gr r2) (s.gr r3)) s

/-- `unpack2.l r1 = r2, r3` (R881). -/
def execUnpack2LI2 (qp : BitVec 6) (r1 r2 r3 : BitVec 7) (s : State) : Host.Outcome State Fault Refusal :=
  writeGr qp r1 (Gr.map₂ (unpack2 0) (s.gr r2) (s.gr r3)) s

/-- `unpack4.h r1 = r2, r3` (R881). -/
def execUnpack4HI2 (qp : BitVec 6) (r1 r2 r3 : BitVec 7) (s : State) : Host.Outcome State Fault Refusal :=
  writeGr qp r1 (Gr.map₂ (unpack4 1) (s.gr r2) (s.gr r3)) s

/-- `unpack4.l r1 = r2, r3` (R881). -/
def execUnpack4LI2 (qp : BitVec 6) (r1 r2 r3 : BitVec 7) (s : State) : Host.Outcome State Fault Refusal :=
  writeGr qp r1 (Gr.map₂ (unpack4 0) (s.gr r2) (s.gr r3)) s

/-- `mix1.l r1 = r2, r3` (R880). -/
def execMix1LI2 (qp : BitVec 6) (r1 r2 r3 : BitVec 7) (s : State) : Host.Outcome State Fault Refusal :=
  writeGr qp r1 (Gr.map₂ (mix1 1) (s.gr r2) (s.gr r3)) s

/-- `mix1.r r1 = r2, r3` (R880). -/
def execMix1RI2 (qp : BitVec 6) (r1 r2 r3 : BitVec 7) (s : State) : Host.Outcome State Fault Refusal :=
  writeGr qp r1 (Gr.map₂ (mix1 0) (s.gr r2) (s.gr r3)) s

/-- `mix2.l r1 = r2, r3` (R880). -/
def execMix2LI2 (qp : BitVec 6) (r1 r2 r3 : BitVec 7) (s : State) : Host.Outcome State Fault Refusal :=
  writeGr qp r1 (Gr.map₂ (mix2 1) (s.gr r2) (s.gr r3)) s

/-- `mix2.r r1 = r2, r3` (R880). -/
def execMix2RI2 (qp : BitVec 6) (r1 r2 r3 : BitVec 7) (s : State) : Host.Outcome State Fault Refusal :=
  writeGr qp r1 (Gr.map₂ (mix2 0) (s.gr r2) (s.gr r3)) s

/-- `mix4.l r1 = r2, r3` (R880). -/
def execMix4LI2 (qp : BitVec 6) (r1 r2 r3 : BitVec 7) (s : State) : Host.Outcome State Fault Refusal :=
  writeGr qp r1 (Gr.map₂ (mix4 1) (s.gr r2) (s.gr r3)) s

/-- `mix4.r r1 = r2, r3` (R880). -/
def execMix4RI2 (qp : BitVec 6) (r1 r2 r3 : BitVec 7) (s : State) : Host.Outcome State Fault Refusal :=
  writeGr qp r1 (Gr.map₂ (mix4 0) (s.gr r2) (s.gr r3)) s

/-- `pmin1.u r1 = r2, r3` (R883). -/
def execPmin1UI2 (qp : BitVec 6) (r1 r2 r3 : BitVec 7) (s : State) : Host.Outcome State Fault Refusal :=
  writeGr qp r1 (Gr.map₂ (bytewise minUnsigned) (s.gr r2) (s.gr r3)) s

/-- `pmax1.u r1 = r2, r3` (R883). -/
def execPmax1UI2 (qp : BitVec 6) (r1 r2 r3 : BitVec 7) (s : State) : Host.Outcome State Fault Refusal :=
  writeGr qp r1 (Gr.map₂ (bytewise maxUnsigned) (s.gr r2) (s.gr r3)) s

/-- `pmin2 r1 = r2, r3` (R883). -/
def execPmin2I2 (qp : BitVec 6) (r1 r2 r3 : BitVec 7) (s : State) : Host.Outcome State Fault Refusal :=
  writeGr qp r1 (Gr.map₂ (halfwise minSigned) (s.gr r2) (s.gr r3)) s

/-- `pmax2 r1 = r2, r3` (R883). -/
def execPmax2I2 (qp : BitVec 6) (r1 r2 r3 : BitVec 7) (s : State) : Host.Outcome State Fault Refusal :=
  writeGr qp r1 (Gr.map₂ (halfwise maxSigned) (s.gr r2) (s.gr r3)) s

/-- `psad1 r1 = r2, r3` (R884). -/
def execPsad1I2 (qp : BitVec 6) (r1 r2 r3 : BitVec 7) (s : State) : Host.Outcome State Fault Refusal :=
  writeGr qp r1 (Gr.map₂ sumAbsDiff (s.gr r2) (s.gr r3)) s

/-- `pack2.uss r1 = r2, r3` (R882). -/
def execPack2UssI2 (qp : BitVec 6) (r1 r2 r3 : BitVec 7) (s : State) : Host.Outcome State Fault Refusal :=
  writeGr qp r1 (Gr.map₂ (pack2 (satUnsigned 8)) (s.gr r2) (s.gr r3)) s

/-- `pack2.sss r1 = r2, r3` (R882). -/
def execPack2SssI2 (qp : BitVec 6) (r1 r2 r3 : BitVec 7) (s : State) : Host.Outcome State Fault Refusal :=
  writeGr qp r1 (Gr.map₂ (pack2 (satSigned 8)) (s.gr r2) (s.gr r3)) s

/-- `pack4.sss r1 = r2, r3` (R882). -/
def execPack4SssI2 (qp : BitVec 6) (r1 r2 r3 : BitVec 7) (s : State) : Host.Outcome State Fault Refusal :=
  writeGr qp r1 (Gr.map₂ pack4 (s.gr r2) (s.gr r3)) s

/-- `pmpy2.r r1 = r2, r3` (R876). -/
def execPmpy2RI2 (qp : BitVec 6) (r1 r2 r3 : BitVec 7) (s : State) : Host.Outcome State Fault Refusal :=
  writeGr qp r1 (Gr.map₂ multiplyRight (s.gr r2) (s.gr r3)) s

/-- `pmpy2.l r1 = r2, r3` (R876). -/
def execPmpy2LI2 (qp : BitVec 6) (r1 r2 r3 : BitVec 7) (s : State) : Host.Outcome State Fault Refusal :=
  writeGr qp r1 (Gr.map₂ multiplyLeft (s.gr r2) (s.gr r3)) s

/-- `mux1 r1 = r2, mbtype4 (mbt4c 0 @brcst, 8 @mix, 9 @shuf, A @alt, B @rev; others reservedQP)` (R885). -/
def execMux1I3 (qp : BitVec 6) (r1 r2 : BitVec 7) (mbt4c : BitVec 4) (s : State) : Host.Outcome State Fault Refusal :=
  muxBytes qp r1 r2 mbt4c s

/-- `mux2 r1 = r2, mhtype8` (R886). -/
def execMux2I4 (qp : BitVec 6) (r1 r2 : BitVec 7) (mht8c : BitVec 8) (s : State) : Host.Outcome State Fault Refusal :=
  writeGr qp r1 ((s.gr r2).map (permuteHalves mht8c)) s

/-- `pshr2 r1 = r3, r2 (value r3, count r2)` (R890). -/
def execPshr2I5 (qp : BitVec 6) (r1 r2 r3 : BitVec 7) (s : State) : Host.Outcome State Fault Refusal :=
  writeGr qp r1 (Gr.map₂ (fun a c => pshr2 a c.toNat) (s.gr r3) (s.gr r2)) s

/-- `pshr2 r1 = r3, count5` (R890). -/
def execPshr2I6 (qp : BitVec 6) (r1 r3 : BitVec 7) (count5b : BitVec 5) (s : State) : Host.Outcome State Fault Refusal :=
  writeGr qp r1 ((s.gr r3).map (fun a => pshr2 a count5b.toNat)) s

/-- `pshr4 r1 = r3, r2 (value r3, count r2)` (R890). -/
def execPshr4I5 (qp : BitVec 6) (r1 r2 r3 : BitVec 7) (s : State) : Host.Outcome State Fault Refusal :=
  writeGr qp r1 (Gr.map₂ (fun a c => pshr4 a c.toNat) (s.gr r3) (s.gr r2)) s

/-- `pshr4 r1 = r3, count5` (R890). -/
def execPshr4I6 (qp : BitVec 6) (r1 r3 : BitVec 7) (count5b : BitVec 5) (s : State) : Host.Outcome State Fault Refusal :=
  writeGr qp r1 ((s.gr r3).map (fun a => pshr4 a count5b.toNat)) s

/-- `pshr2.u r1 = r3, r2 (value r3, count r2)` (R890). -/
def execPshr2UI5 (qp : BitVec 6) (r1 r2 r3 : BitVec 7) (s : State) : Host.Outcome State Fault Refusal :=
  writeGr qp r1 (Gr.map₂ (fun a c => pshr2u a c.toNat) (s.gr r3) (s.gr r2)) s

/-- `pshr2.u r1 = r3, count5` (R890). -/
def execPshr2UI6 (qp : BitVec 6) (r1 r3 : BitVec 7) (count5b : BitVec 5) (s : State) : Host.Outcome State Fault Refusal :=
  writeGr qp r1 ((s.gr r3).map (fun a => pshr2u a count5b.toNat)) s

/-- `pshr4.u r1 = r3, r2 (value r3, count r2)` (R890). -/
def execPshr4UI5 (qp : BitVec 6) (r1 r2 r3 : BitVec 7) (s : State) : Host.Outcome State Fault Refusal :=
  writeGr qp r1 (Gr.map₂ (fun a c => pshr4u a c.toNat) (s.gr r3) (s.gr r2)) s

/-- `pshr4.u r1 = r3, count5` (R890). -/
def execPshr4UI6 (qp : BitVec 6) (r1 r3 : BitVec 7) (count5b : BitVec 5) (s : State) : Host.Outcome State Fault Refusal :=
  writeGr qp r1 ((s.gr r3).map (fun a => pshr4u a count5b.toNat)) s

/-- `pshl2 r1 = r2, r3 (value r2, count r3)` (R891). -/
def execPshl2I7 (qp : BitVec 6) (r1 r2 r3 : BitVec 7) (s : State) : Host.Outcome State Fault Refusal :=
  writeGr qp r1 (Gr.map₂ (fun a c => pshl2 a c.toNat) (s.gr r2) (s.gr r3)) s

/-- `pshl2 r1 = r2, count5 (count5 = 31 - ccount5c)` (R891). -/
def execPshl2I8 (qp : BitVec 6) (r1 r2 : BitVec 7) (ccount5c : BitVec 5) (s : State) : Host.Outcome State Fault Refusal :=
  writeGr qp r1 ((s.gr r2).map (fun a => pshl2 a (compCount ccount5c))) s

/-- `pshl4 r1 = r2, r3 (value r2, count r3)` (R891). -/
def execPshl4I7 (qp : BitVec 6) (r1 r2 r3 : BitVec 7) (s : State) : Host.Outcome State Fault Refusal :=
  writeGr qp r1 (Gr.map₂ (fun a c => pshl4 a c.toNat) (s.gr r2) (s.gr r3)) s

/-- `pshl4 r1 = r2, count5 (count5 = 31 - ccount5c)` (R891). -/
def execPshl4I8 (qp : BitVec 6) (r1 r2 : BitVec 7) (ccount5c : BitVec 5) (s : State) : Host.Outcome State Fault Refusal :=
  writeGr qp r1 ((s.gr r2).map (fun a => pshl4 a (compCount ccount5c))) s

end Sys2Proof.Machine
end

