-- ==== Sys2Proof/Machine/ShiftBit.lean ====
section
/-! DEFINITION. Shifts, bit fields, extensions and counts (formats I5, I7, I9 to I15, I29, and `mpy4`, `mpyshl4` of I2;
43_integer.md section 3). -/

namespace Sys2Proof.Machine

/-- `shl` (R800): the whole count. -/
def shiftLeft (a count : Word) : Word := if 63 < count.toNat then 0 else a <<< count.toNat

/-- `shr` (R801): counts above 63 leave copies of the sign. -/
def shiftRightSigned (a count : Word) : Word := a.sshiftRight (min count.toNat 63)

/-- `shr.u` (R801). -/
def shiftRightUnsigned (a count : Word) : Word := if 63 < count.toNat then 0 else a >>> count.toNat

/-- `shrp` (R802): the 128-bit pair, `a` high, shifted right. -/
def shiftPair (n : Nat) (a b : Word) : Word := fld ((a ++ b : BitVec 128) >>> n) 0 64

/-- The length that stays within the register (R803, R804). -/
def clipLen (pos len : Nat) : Nat := min len (64 - pos)

/-- `extr.u` (R803). -/
def extractUnsigned (pos len : Nat) (a : Word) : Word :=
  let n := clipLen pos len
  ((a >>> pos) <<< (64 - n)) >>> (64 - n)

/-- `extr` (R803). -/
def extractSigned (pos len : Nat) (a : Word) : Word :=
  let n := clipLen pos len
  ((a >>> pos) <<< (64 - n)).sshiftRight (64 - n)

/-- The bits that a deposit writes (R804). -/
def depositMask (pos len : Nat) : Word := (BitVec.allOnes 64 >>> (64 - clipLen pos len)) <<< pos

/-- `dep` (R804). -/
def deposit (pos len : Nat) (src base : Word) : Word :=
  (base &&& ~~~depositMask pos len) ||| ((src <<< pos) &&& depositMask pos len)

/-- `sxt` of the low `n` bits (R806). -/
def signExt (n : Nat) (a : Word) : Word := (a.zeroExtend n).signExtend 64

/-- `zxt` of the low `n` bits (R807). -/
def zeroExt (n : Nat) (a : Word) : Word := (a.zeroExtend n).zeroExtend 64

/-- `czx.r` (R808): the index of the first zero element from the right, or their number. -/
def zeroIndexRight (size : Nat) (a : Word) : Word :=
  BitVec.ofNat 64 ((List.range (64 / size)).findIdx (fun k => fld a (size * k) size == 0))

/-- `czx.l` (R808): the same from the left. -/
def zeroIndexLeft (size : Nat) (a : Word) : Word :=
  BitVec.ofNat 64 ((List.range (64 / size)).findIdx (fun k => fld a (64 - size * (k + 1)) size == 0))

/-- `popcnt` (R809). -/
def popCount (a : Word) : Word := BitVec.ofNat 64 ((List.range 64).countP (fun k => bit a k))

/-- `clz` (R810). -/
def leadingZeros (a : Word) : Word := BitVec.ofNat 64 ((List.range 64).findIdx (fun k => bit a (63 - k)))

/-- `mpy4` (R811). -/
def multiply4 (a b : Word) : Word := zeroExt 32 a * zeroExt 32 b

/-- `mpyshl4` (R812). -/
def multiplyShift4 (a b : Word) : Word := ((a >>> 32) * zeroExt 32 b) <<< 32

/-- `shl r1 = r2, r3 (value r2, count r3)` (R800). -/
def execShlI7 (qp : BitVec 6) (r1 r2 r3 : BitVec 7) (s : State) : Host.Outcome State Fault Refusal :=
  writeGr qp r1 (Gr.map₂ shiftLeft (s.gr r2) (s.gr r3)) s

/-- `shr r1 = r3, r2 (value r3, count r2)` (R801). -/
def execShrI5 (qp : BitVec 6) (r1 r2 r3 : BitVec 7) (s : State) : Host.Outcome State Fault Refusal :=
  writeGr qp r1 (Gr.map₂ shiftRightSigned (s.gr r3) (s.gr r2)) s

/-- `shr.u r1 = r3, r2 (value r3, count r2)` (R801). -/
def execShrUI5 (qp : BitVec 6) (r1 r2 r3 : BitVec 7) (s : State) : Host.Outcome State Fault Refusal :=
  writeGr qp r1 (Gr.map₂ shiftRightUnsigned (s.gr r3) (s.gr r2)) s

/-- `shrp r1 = r2, r3, count6` (R802). -/
def execShrpI10 (qp : BitVec 6) (r1 r2 r3 : BitVec 7) (count6d : BitVec 6) (s : State) : Host.Outcome State Fault Refusal :=
  writeGr qp r1 (Gr.map₂ (shiftPair count6d.toNat) (s.gr r2) (s.gr r3)) s

/-- `extr r1 = r3, pos6, len6 (len6 = len6d + 1)` (R803). -/
def execExtrI11 (qp : BitVec 6) (r1 r3 : BitVec 7) (len6d pos6b : BitVec 6) (s : State) : Host.Outcome State Fault Refusal :=
  writeGr qp r1 ((s.gr r3).map (extractSigned pos6b.toNat (len6 len6d))) s

/-- `extr.u r1 = r3, pos6, len6 (len6 = len6d + 1)` (R803). -/
def execExtrUI11 (qp : BitVec 6) (r1 r3 : BitVec 7) (len6d pos6b : BitVec 6) (s : State) : Host.Outcome State Fault Refusal :=
  writeGr qp r1 ((s.gr r3).map (extractUnsigned pos6b.toNat (len6 len6d))) s

/-- `dep.z r1 = r2, pos6, len6 (pos6 = 63 - cpos6c; len6 = len6d + 1)` (R805). -/
def execDepZI12 (qp : BitVec 6) (r1 r2 : BitVec 7) (len6d cpos6c : BitVec 6) (s : State) : Host.Outcome State Fault Refusal :=
  writeGr qp r1 ((s.gr r2).map (fun a => deposit (compPos cpos6c) (len6 len6d) a 0)) s

/-- `dep.z r1 = imm8, pos6, len6` (R805). -/
def execDepZI13 (qp : BitVec 6) (r1 : BitVec 7) (len6d cpos6c : BitVec 6) (imm8 : BitVec 8) (s : State) : Host.Outcome State Fault Refusal :=
  writeGr qp r1 (Gr.ofWord (deposit (compPos cpos6c) (len6 len6d) (sx imm8) 0)) s

/-- `dep r1 = imm1, r3, pos6, len6 (imm1 = sign_ext(s,1); pos6 = 63 - cpos6b)` (R804). -/
def execDepI14 (qp : BitVec 6) (r1 r3 : BitVec 7) (len6d cpos6b : BitVec 6) (imm1 : BitVec 1) (s : State) : Host.Outcome State Fault Refusal :=
  writeGr qp r1 ((s.gr r3).map (fun b => deposit (compPos cpos6b) (len6 len6d) (sx imm1) b)) s

/-- `dep r1 = r2, r3, pos6, len4 (pos6 = 63 - cpos6d; len4 = len4d + 1)` (R804). -/
def execDepI15 (qp : BitVec 6) (r1 r2 r3 : BitVec 7) (cpos6d : BitVec 6) (len4d : BitVec 4) (s : State) : Host.Outcome State Fault Refusal :=
  writeGr qp r1 (Gr.map₂ (deposit (compPos cpos6d) (len4 len4d)) (s.gr r2) (s.gr r3)) s

/-- `popcnt r1 = r3` (R809). -/
def execPopcntI9 (qp : BitVec 6) (r1 r3 : BitVec 7) (s : State) : Host.Outcome State Fault Refusal :=
  writeGr qp r1 ((s.gr r3).map popCount) s

/-- `clz r1 = r3` (R810). -/
def execClzI9 (qp : BitVec 6) (r1 r3 : BitVec 7) (s : State) : Host.Outcome State Fault Refusal :=
  ifImplemented Config.implClz qp s (writeGr qp r1 ((s.gr r3).map leadingZeros) s)

/-- `mpy4 r1 = r2, r3` (R811). -/
def execMpy4I2 (qp : BitVec 6) (r1 r2 r3 : BitVec 7) (s : State) : Host.Outcome State Fault Refusal :=
  ifImplemented Config.implMpy4 qp s (writeGr qp r1 (Gr.map₂ multiply4 (s.gr r2) (s.gr r3)) s)

/-- `mpyshl4 r1 = r2, r3` (R812). -/
def execMpyshl4I2 (qp : BitVec 6) (r1 r2 r3 : BitVec 7) (s : State) : Host.Outcome State Fault Refusal :=
  ifImplemented Config.implMpy4 qp s (writeGr qp r1 (Gr.map₂ multiplyShift4 (s.gr r2) (s.gr r3)) s)

/-- `sxt1 r1 = r3` (R806). -/
def execSxt1I29 (qp : BitVec 6) (r1 r3 : BitVec 7) (s : State) : Host.Outcome State Fault Refusal :=
  writeGr qp r1 ((s.gr r3).map (signExt 8)) s

/-- `zxt1 r1 = r3` (R807). -/
def execZxt1I29 (qp : BitVec 6) (r1 r3 : BitVec 7) (s : State) : Host.Outcome State Fault Refusal :=
  writeGr qp r1 ((s.gr r3).map (zeroExt 8)) s

/-- `sxt2 r1 = r3` (R806). -/
def execSxt2I29 (qp : BitVec 6) (r1 r3 : BitVec 7) (s : State) : Host.Outcome State Fault Refusal :=
  writeGr qp r1 ((s.gr r3).map (signExt 16)) s

/-- `zxt2 r1 = r3` (R807). -/
def execZxt2I29 (qp : BitVec 6) (r1 r3 : BitVec 7) (s : State) : Host.Outcome State Fault Refusal :=
  writeGr qp r1 ((s.gr r3).map (zeroExt 16)) s

/-- `sxt4 r1 = r3` (R806). -/
def execSxt4I29 (qp : BitVec 6) (r1 r3 : BitVec 7) (s : State) : Host.Outcome State Fault Refusal :=
  writeGr qp r1 ((s.gr r3).map (signExt 32)) s

/-- `zxt4 r1 = r3` (R807). -/
def execZxt4I29 (qp : BitVec 6) (r1 r3 : BitVec 7) (s : State) : Host.Outcome State Fault Refusal :=
  writeGr qp r1 ((s.gr r3).map (zeroExt 32)) s

/-- `czx1.l r1 = r3` (R808). -/
def execCzx1LI29 (qp : BitVec 6) (r1 r3 : BitVec 7) (s : State) : Host.Outcome State Fault Refusal :=
  writeGr qp r1 ((s.gr r3).map (zeroIndexLeft 8)) s

/-- `czx1.r r1 = r3` (R808). -/
def execCzx1RI29 (qp : BitVec 6) (r1 r3 : BitVec 7) (s : State) : Host.Outcome State Fault Refusal :=
  writeGr qp r1 ((s.gr r3).map (zeroIndexRight 8)) s

/-- `czx2.l r1 = r3` (R808). -/
def execCzx2LI29 (qp : BitVec 6) (r1 r3 : BitVec 7) (s : State) : Host.Outcome State Fault Refusal :=
  writeGr qp r1 ((s.gr r3).map (zeroIndexLeft 16)) s

/-- `czx2.r r1 = r3` (R808). -/
def execCzx2RI29 (qp : BitVec 6) (r1 r3 : BitVec 7) (s : State) : Host.Outcome State Fault Refusal :=
  writeGr qp r1 ((s.gr r3).map (zeroIndexRight 16)) s

end Sys2Proof.Machine
end

