-- ==== Sys2Proof/Machine/System.lean ====
section
/-! DEFINITION. Translation inserts and purges, translation queries, indirect register files, cache flushes (formats
M28, M38 to M43, M45 to M47; 42_system.md sections 2, 5, 6, 8 and 9). -/

namespace Sys2Proof.Machine

/-! ### Inserts (R676, R677) -/

/-- The address in CR[IFA], checked by the inserts where `mov` to IFA does not (R205, R700). -/
def State.checkIfa (s : State) : Except Stop Unit :=
  check (!Config.checkMovIfa && unimplementedVa s.cr.ifa (s.psrBit Psr.vm)) (unimplementedData {})

/-- The entry that CR[IFA], CR[ITIR], the region register and a physical part make (R201). -/
def State.newEntry (s : State) (pte : Word) : TlbEntry :=
  TlbEntry.ofFormat pte s.cr.itir s.cr.ifa (rrRid (s.region s.cr.ifa))

/-- `itc` (R676). -/
def insertCache (inst : Bool) (qp : BitVec 6) (r2 : BitVec 7) (s : State) : Host.Outcome State Fault Refusal :=
  predicated qp s do
    stuckIf (!s.followedByStop) .undefinedBehavior
    check (s.psrBit Psr.ic) illegalOperation
    check (s.cpl != 0) (privilegedOperation {})
    check (s.gr r2).nat (natConsumption {})
    check (tlbReserved (s.gr r2).val s.cr.itir) reservedRegisterField
    s.checkIfa
    check (s.psrBit Psr.vm) virtualizationFault
    let t ← s.insertTc inst (s.newEntry (s.gr r2).val)
    done t

/-- `itr` (R677): slots above 7 do not exist. -/
def insertRegister (inst : Bool) (qp : BitVec 6) (r2 r3 : BitVec 7) (s : State) : Host.Outcome State Fault Refusal :=
  let slot : BitVec 8 := fld (s.gr r3).val 0 8
  predicated qp s do
    check (s.psrBit Psr.ic) illegalOperation
    check (s.cpl != 0) (privilegedOperation {})
    check ((s.gr r3).nat || (s.gr r2).nat) (natConsumption {})
    check (decide ((if inst then Config.nItr else Config.nDtr) ≤ slot.toNat)) reservedRegisterField
    check (tlbReserved (s.gr r2).val s.cr.itir) reservedRegisterField
    s.checkIfa
    check (s.psrBit Psr.vm) virtualizationFault
    let t ← s.insertTr inst slot.toNat (s.newEntry (s.gr r2).val)
    done t

/-! ### Purges (R710 to R716) -/

/-- The common checks of the purges (R716); the size operand has ITIR's layout (log entry 27). -/
def State.checkPurge (s : State) (r2 r3 : BitVec 7) : Except Stop Unit := do
  check (s.cpl != 0) (privilegedOperation {})
  check ((s.gr r3).nat || (s.gr r2).nat) (natConsumption {})
  check (itirReserved (s.gr r2).val) reservedRegisterField
  check (unimplementedVa (s.gr r3).val (s.psrBit Psr.vm)) (unimplementedData {})
  check (s.psrBit Psr.vm) virtualizationFault

/-- A purge takes away the translation of the executing instruction stream (U14). -/
def State.purgesStream (s : State) (va : Word) (ps : BitVec 6) : Bool :=
  s.psrBit Psr.it && (s.findInst s.ip).any fun e => e.overlaps (rrRid (s.region va)) va ps

/-- `ptc.l` (R710), and `ptc.g`, `ptc.ga` (R711, R712), of which other processors are not modelled: the local
translations; `last`: undefined unless a stop follows (R264); `alat` for the local ALAT. -/
def purgeCache (last alat : Bool) (qp : BitVec 6) (r2 r3 : BitVec 7) (s : State) :
    Host.Outcome State Fault Refusal :=
  predicated qp s do
    stuckIf (last && !s.followedByStop) .undefinedBehavior
    s.checkPurge r2 r3
    let t ← s.purgeLocal (s.gr r3).val (itirPs (s.gr r2).val)
    stuckIf (s.purgesStream (s.gr r3).val (itirPs (s.gr r2).val)) .undefinedBehavior
    done (if alat then t.alatInval else t)

/-- `ptr.d` and `ptr.i` (R714, R715). -/
def purgeRegister (inst : Bool) (qp : BitVec 6) (r2 r3 : BitVec 7) (s : State) : Host.Outcome State Fault Refusal :=
  predicated qp s do
    s.checkPurge r2 r3
    stuckIf (inst && s.purgesStream (s.gr r3).val (itirPs (s.gr r2).val)) .undefinedBehavior
    done (s.purgeTrs inst (s.gr r3).val (itirPs (s.gr r2).val))

/-! ### Queries (R695 to R699) -/

/-- The privilege level of a probe: no more than the current one (R695). -/
def State.probeLevel (s : State) (v : BitVec 2) : BitVec 2 := if v < s.cpl then s.cpl else v

/-- `probe` without faults (R695). -/
def probe (write : Bool) (qp : BitVec 6) (r1 r3 : BitVec 7) (level : Gr) (s : State) :
    Host.Outcome State Fault Refusal :=
  let acc : Access := { r := !write, w := write, na := true, naCode := 2 }
  predicated qp s do
    s.checkTarget r1
    check ((s.gr r3).nat || level.nat) (natConsumption acc)
    match s.grantPermission (s.gr r3).val acc (s.probeLevel (fld level.val 0 2)) with
    | .error x => s.faulted x
    | .ok (granted, walked) => do
      s.checkWalk false walked
      done ((s.keepWalk walked).setGr r1 (Gr.ofWord (if granted then 1 else 0)))

/-- `probe.fault` (R696). -/
def probeFault (read write : Bool) (qp : BitVec 6) (r3 : BitVec 7) (level : BitVec 2) (s : State) :
    Host.Outcome State Fault Refusal :=
  let acc : Access := { r := read, w := write, na := true, naCode := 5 }
  predicated qp s do
    check (s.gr r3).nat (natConsumption acc)
    let a ← s.translateData (s.gr r3).val { access := acc, size := 1, align := 1, pl := s.probeLevel level }
    done (s.keepWalk a.walked)

/-- The nonaccess translation of `tpa` and `fc` (R211), its fault raised. -/
def State.translateQuery (s : State) (va : Word) (acc : Access) (fc : Bool) : Except Stop Translation :=
  match s.translateNonaccess va acc fc with
  | .error x => s.faulted x
  | .ok a => do
    s.checkWalk false a.walked
    .ok a

/-- The address of a data reference is unimplemented (R176). -/
def State.unimplementedAddress (s : State) (va : Word) : Bool :=
  if s.psrBit Psr.dt then unimplementedVa va (s.psrBit Psr.vm) else unimplementedPa va

/-- `thash` and `ttag` (R699): of a NaT or an unimplemented address a free value beside a NaT bit. -/
def hashQuery (f : Word → Word) (qp : BitVec 6) (r1 r3 : BitVec 7) (s : State) : Host.Outcome State Fault Refusal :=
  predicated qp s do
    s.checkTarget r1
    check (s.psrBit Psr.vm) virtualizationFault
    done (s.setGr r1
      (if (s.gr r3).nat || unimplementedVa (s.gr r3).val (s.psrBit Psr.vm) then
        ⟨Config.freeWord .hashUndefined s.fresh, true⟩
      else Gr.ofWord (f (s.gr r3).val)))

/-- `fc` and `fc.i` (R720, R721): faults, and nothing that this model's memory could show. -/
def flushLine (qp : BitVec 6) (r3 : BitVec 7) (s : State) : Host.Outcome State Fault Refusal :=
  let acc : Access := { r := true, na := true, naCode := 1 }
  predicated qp s do
    check (s.gr r3).nat (natConsumption acc)
    let a ← s.translateQuery (s.gr r3).val acc true
    done (s.keepWalk a.walked)

/-! ### Indirect register files (R690, R691) -/

/-- The register files that an indirect move names (R690). -/
inductive IndFile where
  | cpuid | dahr | dbr | ibr | pkr | pmc | pmd | rr
deriving DecidableEq, Repr

/-- The index operand: bits 7:0, for a region register bits 63:61 (R690). -/
def IndFile.index (f : IndFile) (v : Word) : Nat :=
  if f = .rr then (vrn v).toNat else (fld v 0 8 : BitVec 8).toNat

/-- `is_reserved_reg`: PMC and PMD have no reserved index (R115). -/
def IndFile.reservedIndex : IndFile → Nat → Bool
  | .cpuid, i => decide (Config.cpuidLast < i)
  | .dahr, i => decide (8 ≤ i)
  | .dbr, i | .ibr, i => decide (Config.nDebug ≤ i)
  | .pkr, i => decide (Config.nPkr ≤ i)
  | .pmc, _ | .pmd, _ | .rr, _ => false

/-- Files that a less privileged program may read (R690). -/
def IndFile.unprivileged : IndFile → Bool
  | .pmd | .cpuid | .dahr => true
  | _ => false

/-- Files whose read is not virtualized (R690). -/
def IndFile.notVirtualized : IndFile → Bool
  | .pmd | .dahr => true
  | _ => false

/-- `pmd_read` (R115 to R117): unimplemented registers read 0; a monitor with an empty privilege mask need not keep
its count (a free value). -/
def State.pmdRead (s : State) (i : Nat) : Word :=
  if 4 ≤ i ∧ i ≤ Config.maxGeneric then
    let k := Fin.ofNat 256 i
    if fld s.pmc[k] 0 4 = (0 : BitVec 4) then
      (fld (Config.freeWord (.pmdLost i) s.fresh) 0 Config.pmdWidth : BitVec Config.pmdWidth).zeroExtend 64
    else s.pmd[k]
  else 0

/-- `pmc_read` (R115): unimplemented registers read 0. -/
def State.pmcRead (s : State) (i : Nat) : Word :=
  if i ≤ Config.maxGeneric then s.pmc[Fin.ofNat 256 i] else 0

/-- `mov r1 = pmd[r3]` at the current privilege level (R117). -/
def State.pmdVisible (s : State) (i : Nat) : Word :=
  if s.cpl ≠ 0 ∧ (s.psrBit Psr.sp ∨ (3 < i ∧ i ≤ Config.maxGeneric ∧ bit (s.pmcRead i) 6)) then 0
  else s.pmdRead i

/-- The value of an indirect register (R690). -/
def State.indirect (s : State) (f : IndFile) (i : Nat) : Word :=
  match f with
  | .cpuid => Config.cpuid i
  | .dahr => s.dahr[Fin.ofNat 8 i].zeroExtend 64
  | .dbr => s.dbr[Fin.ofNat Config.nDebug i]
  | .ibr => s.ibr[Fin.ofNat Config.nDebug i]
  | .pkr => s.pkr[Fin.ofNat Config.nPkr i]
  | .pmc => s.pmcRead i
  | .pmd => s.pmdVisible i
  | .rr => s.rr[Fin.ofNat 8 i]

/-- `mov r1 = ireg[r3]` (R690, R693). -/
def moveFromIndirect (f : IndFile) (qp : BitVec 6) (r1 r3 : BitVec 7) (s : State) :
    Host.Outcome State Fault Refusal :=
  let i := f.index (s.gr r3).val
  predicated qp s do
    check (f == .dahr && !Config.implDahr) illegalOperation
    s.checkTarget r1
    check (s.cpl != 0 && !f.unprivileged) (privilegedOperation {})
    check (s.gr r3).nat (natConsumption {})
    check (f.reservedIndex i) reservedRegisterField
    check (s.psrBit Psr.vm && !f.notVirtualized) virtualizationFault
    done (s.setGr r1 (Gr.ofWord (s.indirect f i)))

/-- A value that would write a reserved field or encoding: of a region register (R112). -/
def IndFile.reservedField (f : IndFile) (v : Word) : Bool :=
  f == .rr && (bit v 1 || fld v 32 32 != 0 || !Config.pageSizes.contains (rrPs v).toNat)

/-- The protection key registers after a write of one (R113, R691): a valid key makes every other register that holds it
invalid. -/
def State.setPkr (s : State) (i : Fin Config.nPkr) (v : Word) : State :=
  let held (w : Word) : Bool := bit v 0 && bit w 0 && fld w 8 24 == (fld v 8 24 : BitVec 24)
  { s with pkr := (s.pkr.map fun w => if held w then setBit w 0 false else w).set i v }

/-- `pmc_write` (R115, R116): unimplemented registers and bits ignore writes. -/
def State.pmcWrite (s : State) (i : Nat) (v : Word) : State :=
  if i ≤ Config.maxGeneric then
    let named : Word := if Config.implPmcChVmm then 0x000000070000FF7F else 0xFF7F
    { s with pmc := s.pmc.set (Fin.ofNat 256 i) (if i ≤ 3 then v else v &&& named) }
  else s

/-- `pmd_write` (R115, R117): the count field; bits above it are ignored. -/
def State.pmdWrite (s : State) (i : Nat) (v : Word) : State :=
  if 4 ≤ i ∧ i ≤ Config.maxGeneric then
    let count : BitVec Config.pmdWidth := fld v 0 Config.pmdWidth
    { s with pmd := s.pmd.set (Fin.ofNat 256 i) (count.zeroExtend 64) }
  else s

/-- A write of `v` that modifies a register which translates the executing instruction stream (R692), or that invalidates
one by giving its key to another (R691); the lazy RSE makes no eager reference. -/
def State.translatesStream (s : State) (f : IndFile) (i : Nat) (v : Word) : Bool :=
  s.psrBit Psr.it &&
    match f with
    | .rr => decide (i = (vrn s.ip).toNat)
    | .pkr =>
      let holds (w : Word) (key : BitVec 24) : Bool := bit w 0 && fld w 8 24 == key
      s.psrBit Psr.pk && (s.findInst s.ip).any fun e => holds s.pkr[Fin.ofNat Config.nPkr i] e.key || holds v e.key
    | _ => false

/-- A write that PSR.vm virtualizes: all but those of PMDs under d_to_pmd (R691, R1081). -/
def State.virtualizesWrite (s : State) (f : IndFile) : Bool :=
  s.psrBit Psr.vm && !(f == .pmd && s.vdcBit Config.dToPmdBit)

/-- The indirect register written (R691). -/
def State.setIndirect (s : State) (f : IndFile) (i : Nat) (v : Word) : State :=
  match f with
  | .cpuid | .dahr => s
  | .dbr => { s with dbr := s.dbr.set (Fin.ofNat Config.nDebug i) v }
  | .ibr => { s with ibr := s.ibr.set (Fin.ofNat Config.nDebug i) v }
  | .pkr => s.setPkr (Fin.ofNat Config.nPkr i) v
  | .pmc => s.pmcWrite i v
  | .pmd => s.pmdWrite i v
  | .rr => { s with rr := s.rr.set (Fin.ofNat 8 i) v }

/-- `mov ireg[r3] = r2` (R691, R692). -/
def moveToIndirect (f : IndFile) (qp : BitVec 6) (r2 r3 : BitVec 7) (s : State) :
    Host.Outcome State Fault Refusal :=
  let i := f.index (s.gr r3).val
  predicated qp s do
    check (s.cpl != 0) (privilegedOperation {})
    check ((s.gr r2).nat || (s.gr r3).nat) (natConsumption {})
    check (f.reservedIndex i || f.reservedField (s.gr r2).val) reservedRegisterField
    check (s.virtualizesWrite f) virtualizationFault
    stuckIf (s.translatesStream f i (s.gr r2).val) .undefinedBehavior
    done (s.setIndirect f i (s.gr r2).val)

/-- `fc r3` (R720). -/
def execFcM28 (qp : BitVec 6) (r3 : BitVec 7) (s : State) : Host.Outcome State Fault Refusal :=
  flushLine qp r3 s

/-- `fc.i r3` (R721). -/
def execFcIM28 (qp : BitVec 6) (r3 : BitVec 7) (s : State) : Host.Outcome State Fault Refusal :=
  flushLine qp r3 s

/-- `probe.r r1 = r3, r2` (R695). -/
def execProbeRM38 (qp : BitVec 6) (r1 r2 r3 : BitVec 7) (s : State) : Host.Outcome State Fault Refusal :=
  probe false qp r1 r3 (s.gr r2) s

/-- `probe.w r1 = r3, r2` (R695). -/
def execProbeWM38 (qp : BitVec 6) (r1 r2 r3 : BitVec 7) (s : State) : Host.Outcome State Fault Refusal :=
  probe true qp r1 r3 (s.gr r2) s

/-- `probe.r r1 = r3, imm2` (R695). -/
def execProbeRM39 (qp : BitVec 6) (r1 r3 : BitVec 7) (i2b : BitVec 2) (s : State) : Host.Outcome State Fault Refusal :=
  probe false qp r1 r3 (Gr.ofWord (zx i2b)) s

/-- `probe.w r1 = r3, imm2` (R695). -/
def execProbeWM39 (qp : BitVec 6) (r1 r3 : BitVec 7) (i2b : BitVec 2) (s : State) : Host.Outcome State Fault Refusal :=
  probe true qp r1 r3 (Gr.ofWord (zx i2b)) s

/-- `probe.rw.fault r3, imm2` (R696). -/
def execProbeRwFaultM40 (qp : BitVec 6) (r3 : BitVec 7) (i2b : BitVec 2) (s : State) : Host.Outcome State Fault Refusal :=
  probeFault true true qp r3 i2b s

/-- `probe.r.fault r3, imm2` (R696). -/
def execProbeRFaultM40 (qp : BitVec 6) (r3 : BitVec 7) (i2b : BitVec 2) (s : State) : Host.Outcome State Fault Refusal :=
  probeFault true false qp r3 i2b s

/-- `probe.w.fault r3, imm2` (R696). -/
def execProbeWFaultM40 (qp : BitVec 6) (r3 : BitVec 7) (i2b : BitVec 2) (s : State) : Host.Outcome State Fault Refusal :=
  probeFault false true qp r3 i2b s

/-- `itc.d r2` (R676). -/
def execItcDM41 (qp : BitVec 6) (r2 : BitVec 7) (s : State) : Host.Outcome State Fault Refusal :=
  insertCache false qp r2 s

/-- `itc.i r2` (R676). -/
def execItcIM41 (qp : BitVec 6) (r2 : BitVec 7) (s : State) : Host.Outcome State Fault Refusal :=
  insertCache true qp r2 s

/-- `itr.d dtr[r3] = r2` (R677). -/
def execItrDM42 (qp : BitVec 6) (r2 r3 : BitVec 7) (s : State) : Host.Outcome State Fault Refusal :=
  insertRegister false qp r2 r3 s

/-- `itr.i itr[r3] = r2` (R677). -/
def execItrIM42 (qp : BitVec 6) (r2 r3 : BitVec 7) (s : State) : Host.Outcome State Fault Refusal :=
  insertRegister true qp r2 r3 s

/-- `mov rr[r3] = r2` (R691). -/
def execMovToRrM42 (qp : BitVec 6) (r2 r3 : BitVec 7) (s : State) : Host.Outcome State Fault Refusal :=
  moveToIndirect .rr qp r2 r3 s

/-- `mov dbr[r3] = r2` (R691). -/
def execMovToDbrM42 (qp : BitVec 6) (r2 r3 : BitVec 7) (s : State) : Host.Outcome State Fault Refusal :=
  moveToIndirect .dbr qp r2 r3 s

/-- `mov ibr[r3] = r2` (R691). -/
def execMovToIbrM42 (qp : BitVec 6) (r2 r3 : BitVec 7) (s : State) : Host.Outcome State Fault Refusal :=
  moveToIndirect .ibr qp r2 r3 s

/-- `mov pkr[r3] = r2` (R691). -/
def execMovToPkrM42 (qp : BitVec 6) (r2 r3 : BitVec 7) (s : State) : Host.Outcome State Fault Refusal :=
  moveToIndirect .pkr qp r2 r3 s

/-- `mov pmc[r3] = r2` (R691). -/
def execMovToPmcM42 (qp : BitVec 6) (r2 r3 : BitVec 7) (s : State) : Host.Outcome State Fault Refusal :=
  moveToIndirect .pmc qp r2 r3 s

/-- `mov pmd[r3] = r2` (R691). -/
def execMovToPmdM42 (qp : BitVec 6) (r2 r3 : BitVec 7) (s : State) : Host.Outcome State Fault Refusal :=
  moveToIndirect .pmd qp r2 r3 s

/-- `mov r1 = rr[r3]` (R690). -/
def execMovFromRrM43 (qp : BitVec 6) (r1 r3 : BitVec 7) (s : State) : Host.Outcome State Fault Refusal :=
  moveFromIndirect .rr qp r1 r3 s

/-- `mov r1 = dbr[r3]` (R690). -/
def execMovFromDbrM43 (qp : BitVec 6) (r1 r3 : BitVec 7) (s : State) : Host.Outcome State Fault Refusal :=
  moveFromIndirect .dbr qp r1 r3 s

/-- `mov r1 = ibr[r3]` (R690). -/
def execMovFromIbrM43 (qp : BitVec 6) (r1 r3 : BitVec 7) (s : State) : Host.Outcome State Fault Refusal :=
  moveFromIndirect .ibr qp r1 r3 s

/-- `mov r1 = pkr[r3]` (R690). -/
def execMovFromPkrM43 (qp : BitVec 6) (r1 r3 : BitVec 7) (s : State) : Host.Outcome State Fault Refusal :=
  moveFromIndirect .pkr qp r1 r3 s

/-- `mov r1 = pmc[r3]` (R690). -/
def execMovFromPmcM43 (qp : BitVec 6) (r1 r3 : BitVec 7) (s : State) : Host.Outcome State Fault Refusal :=
  moveFromIndirect .pmc qp r1 r3 s

/-- `mov r1 = pmd[r3]` (R690). -/
def execMovFromPmdM43 (qp : BitVec 6) (r1 r3 : BitVec 7) (s : State) : Host.Outcome State Fault Refusal :=
  moveFromIndirect .pmd qp r1 r3 s

/-- `mov r1 = cpuid[r3]` (R693). -/
def execMovFromCpuidM43 (qp : BitVec 6) (r1 r3 : BitVec 7) (s : State) : Host.Outcome State Fault Refusal :=
  moveFromIndirect .cpuid qp r1 r3 s

/-- `mov r1 = dahr[r3]` (R690). -/
def execMovFromDahrM43 (qp : BitVec 6) (r1 r3 : BitVec 7) (s : State) : Host.Outcome State Fault Refusal :=
  moveFromIndirect .dahr qp r1 r3 s

/-- `ptc.l r3, r2` (R710). -/
def execPtcLM45 (qp : BitVec 6) (r2 r3 : BitVec 7) (s : State) : Host.Outcome State Fault Refusal :=
  purgeCache false false qp r2 r3 s

/-- `ptc.g r3, r2` (R711). -/
def execPtcGM45 (qp : BitVec 6) (r2 r3 : BitVec 7) (s : State) : Host.Outcome State Fault Refusal :=
  purgeCache true false qp r2 r3 s

/-- `ptc.ga r3, r2` (R712). -/
def execPtcGaM45 (qp : BitVec 6) (r2 r3 : BitVec 7) (s : State) : Host.Outcome State Fault Refusal :=
  purgeCache true true qp r2 r3 s

/-- `ptr.d r3, r2` (R714). -/
def execPtrDM45 (qp : BitVec 6) (r2 r3 : BitVec 7) (s : State) : Host.Outcome State Fault Refusal :=
  purgeRegister false qp r2 r3 s

/-- `ptr.i r3, r2` (R715). -/
def execPtrIM45 (qp : BitVec 6) (r2 r3 : BitVec 7) (s : State) : Host.Outcome State Fault Refusal :=
  purgeRegister true qp r2 r3 s

/-- `thash r1 = r3` (R699). -/
def execThashM46 (qp : BitVec 6) (r1 r3 : BitVec 7) (s : State) : Host.Outcome State Fault Refusal :=
  hashQuery s.vhptHash qp r1 r3 s

/-- `ttag r1 = r3` (R699). -/
def execTtagM46 (qp : BitVec 6) (r1 r3 : BitVec 7) (s : State) : Host.Outcome State Fault Refusal :=
  hashQuery s.vhptTag qp r1 r3 s

/-- `tpa r1 = r3` (R697). -/
def execTpaM46 (qp : BitVec 6) (r1 r3 : BitVec 7) (s : State) : Host.Outcome State Fault Refusal :=
  let acc : Access := { na := true, naCode := 0 }
  predicated qp s do
    s.checkTarget r1
    check (s.cpl != 0) (privilegedOperation acc)
    check (s.gr r3).nat (natConsumption acc)
    check (s.unimplementedAddress (s.gr r3).val) (unimplementedData acc)
    check (s.psrBit Psr.vm) virtualizationFault
    let a ← s.translateQuery (s.gr r3).val acc false
    done ((s.keepWalk a.walked).setGr r1 (Gr.ofWord a.pa))

/-- `tak r1 = r3` (R698). -/
def execTakM46 (qp : BitVec 6) (r1 r3 : BitVec 7) (s : State) : Host.Outcome State Fault Refusal :=
  let acc : Access := { na := true, naCode := 3 }
  predicated qp s do
    s.checkTarget r1
    check (s.cpl != 0) (privilegedOperation acc)
    check (s.gr r3).nat (natConsumption acc)
    check (s.psrBit Psr.vm) virtualizationFault
    done (s.setGr r1 (Gr.ofWord (s.accessKey (s.gr r3).val)))

/-- `ptc.e r3` (R713). -/
def execPtcEM47 (qp : BitVec 6) (r3 : BitVec 7) (s : State) : Host.Outcome State Fault Refusal :=
  predicated qp s do
    check (s.cpl != 0) (privilegedOperation {})
    check (s.gr r3).nat (natConsumption {})
    check (s.psrBit Psr.vm) virtualizationFault
    done s.purgeCaches

end Sys2Proof.Machine
end

