-- ==== Sys2Proof/Machine/Dispatch.lean ====
section
/-! DEFINITION. The dispatch of every instruction to its meaning, one arm for each constructor. -/

namespace Sys2Proof.Machine

def exec (i : Instr) (s : State) : Host.Outcome State Fault Refusal :=
  match i with
  | .addA1 qp r1 r2 r3 => Sys2Proof.Machine.execAddA1 qp r1 r2 r3 s
  | .addPlus1A1 qp r1 r2 r3 => Sys2Proof.Machine.execAddPlus1A1 qp r1 r2 r3 s
  | .subA1 qp r1 r2 r3 => Sys2Proof.Machine.execSubA1 qp r1 r2 r3 s
  | .subMinus1A1 qp r1 r2 r3 => Sys2Proof.Machine.execSubMinus1A1 qp r1 r2 r3 s
  | .addp4A1 qp r1 r2 r3 => Sys2Proof.Machine.execAddp4A1 qp r1 r2 r3 s
  | .andA1 qp r1 r2 r3 => Sys2Proof.Machine.execAndA1 qp r1 r2 r3 s
  | .andcmA1 qp r1 r2 r3 => Sys2Proof.Machine.execAndcmA1 qp r1 r2 r3 s
  | .orA1 qp r1 r2 r3 => Sys2Proof.Machine.execOrA1 qp r1 r2 r3 s
  | .xorA1 qp r1 r2 r3 => Sys2Proof.Machine.execXorA1 qp r1 r2 r3 s
  | .shladdA2 qp r1 r2 r3 ct2d => Sys2Proof.Machine.execShladdA2 qp r1 r2 r3 ct2d s
  | .shladdp4A2 qp r1 r2 r3 ct2d => Sys2Proof.Machine.execShladdp4A2 qp r1 r2 r3 ct2d s
  | .subA3 qp r1 r3 imm8 => Sys2Proof.Machine.execSubA3 qp r1 r3 imm8 s
  | .andA3 qp r1 r3 imm8 => Sys2Proof.Machine.execAndA3 qp r1 r3 imm8 s
  | .andcmA3 qp r1 r3 imm8 => Sys2Proof.Machine.execAndcmA3 qp r1 r3 imm8 s
  | .orA3 qp r1 r3 imm8 => Sys2Proof.Machine.execOrA3 qp r1 r3 imm8 s
  | .xorA3 qp r1 r3 imm8 => Sys2Proof.Machine.execXorA3 qp r1 r3 imm8 s
  | .addsA4 qp r1 r3 imm14 => Sys2Proof.Machine.execAddsA4 qp r1 r3 imm14 s
  | .addp4A4 qp r1 r3 imm14 => Sys2Proof.Machine.execAddp4A4 qp r1 r3 imm14 s
  | .addlA5 qp r1 r3 imm22 => Sys2Proof.Machine.execAddlA5 qp r1 r3 imm22 s
  | .cmpLtA6 qp p1 p2 r2 r3 => Sys2Proof.Machine.execCmpLtA6 qp p1 p2 r2 r3 s
  | .cmpLtuA6 qp p1 p2 r2 r3 => Sys2Proof.Machine.execCmpLtuA6 qp p1 p2 r2 r3 s
  | .cmpEqA6 qp p1 p2 r2 r3 => Sys2Proof.Machine.execCmpEqA6 qp p1 p2 r2 r3 s
  | .cmpLtUncA6 qp p1 p2 r2 r3 => Sys2Proof.Machine.execCmpLtUncA6 qp p1 p2 r2 r3 s
  | .cmpLtuUncA6 qp p1 p2 r2 r3 => Sys2Proof.Machine.execCmpLtuUncA6 qp p1 p2 r2 r3 s
  | .cmpEqUncA6 qp p1 p2 r2 r3 => Sys2Proof.Machine.execCmpEqUncA6 qp p1 p2 r2 r3 s
  | .cmpEqAndA6 qp p1 p2 r2 r3 => Sys2Proof.Machine.execCmpEqAndA6 qp p1 p2 r2 r3 s
  | .cmpEqOrA6 qp p1 p2 r2 r3 => Sys2Proof.Machine.execCmpEqOrA6 qp p1 p2 r2 r3 s
  | .cmpEqOrAndcmA6 qp p1 p2 r2 r3 => Sys2Proof.Machine.execCmpEqOrAndcmA6 qp p1 p2 r2 r3 s
  | .cmpNeAndA6 qp p1 p2 r2 r3 => Sys2Proof.Machine.execCmpNeAndA6 qp p1 p2 r2 r3 s
  | .cmpNeOrA6 qp p1 p2 r2 r3 => Sys2Proof.Machine.execCmpNeOrA6 qp p1 p2 r2 r3 s
  | .cmpNeOrAndcmA6 qp p1 p2 r2 r3 => Sys2Proof.Machine.execCmpNeOrAndcmA6 qp p1 p2 r2 r3 s
  | .cmpGtAndA7 qp p1 p2 r3 => Sys2Proof.Machine.execCmpGtAndA7 qp p1 p2 r3 s
  | .cmpGtOrA7 qp p1 p2 r3 => Sys2Proof.Machine.execCmpGtOrA7 qp p1 p2 r3 s
  | .cmpGtOrAndcmA7 qp p1 p2 r3 => Sys2Proof.Machine.execCmpGtOrAndcmA7 qp p1 p2 r3 s
  | .cmpLeAndA7 qp p1 p2 r3 => Sys2Proof.Machine.execCmpLeAndA7 qp p1 p2 r3 s
  | .cmpLeOrA7 qp p1 p2 r3 => Sys2Proof.Machine.execCmpLeOrA7 qp p1 p2 r3 s
  | .cmpLeOrAndcmA7 qp p1 p2 r3 => Sys2Proof.Machine.execCmpLeOrAndcmA7 qp p1 p2 r3 s
  | .cmpGeAndA7 qp p1 p2 r3 => Sys2Proof.Machine.execCmpGeAndA7 qp p1 p2 r3 s
  | .cmpGeOrA7 qp p1 p2 r3 => Sys2Proof.Machine.execCmpGeOrA7 qp p1 p2 r3 s
  | .cmpGeOrAndcmA7 qp p1 p2 r3 => Sys2Proof.Machine.execCmpGeOrAndcmA7 qp p1 p2 r3 s
  | .cmpLtAndA7 qp p1 p2 r3 => Sys2Proof.Machine.execCmpLtAndA7 qp p1 p2 r3 s
  | .cmpLtOrA7 qp p1 p2 r3 => Sys2Proof.Machine.execCmpLtOrA7 qp p1 p2 r3 s
  | .cmpLtOrAndcmA7 qp p1 p2 r3 => Sys2Proof.Machine.execCmpLtOrAndcmA7 qp p1 p2 r3 s
  | .cmpLtA8 qp p1 p2 r3 imm8 => Sys2Proof.Machine.execCmpLtA8 qp p1 p2 r3 imm8 s
  | .cmpLtuA8 qp p1 p2 r3 imm8 => Sys2Proof.Machine.execCmpLtuA8 qp p1 p2 r3 imm8 s
  | .cmpEqA8 qp p1 p2 r3 imm8 => Sys2Proof.Machine.execCmpEqA8 qp p1 p2 r3 imm8 s
  | .cmpLtUncA8 qp p1 p2 r3 imm8 => Sys2Proof.Machine.execCmpLtUncA8 qp p1 p2 r3 imm8 s
  | .cmpLtuUncA8 qp p1 p2 r3 imm8 => Sys2Proof.Machine.execCmpLtuUncA8 qp p1 p2 r3 imm8 s
  | .cmpEqUncA8 qp p1 p2 r3 imm8 => Sys2Proof.Machine.execCmpEqUncA8 qp p1 p2 r3 imm8 s
  | .cmpEqAndA8 qp p1 p2 r3 imm8 => Sys2Proof.Machine.execCmpEqAndA8 qp p1 p2 r3 imm8 s
  | .cmpEqOrA8 qp p1 p2 r3 imm8 => Sys2Proof.Machine.execCmpEqOrA8 qp p1 p2 r3 imm8 s
  | .cmpEqOrAndcmA8 qp p1 p2 r3 imm8 => Sys2Proof.Machine.execCmpEqOrAndcmA8 qp p1 p2 r3 imm8 s
  | .cmpNeAndA8 qp p1 p2 r3 imm8 => Sys2Proof.Machine.execCmpNeAndA8 qp p1 p2 r3 imm8 s
  | .cmpNeOrA8 qp p1 p2 r3 imm8 => Sys2Proof.Machine.execCmpNeOrA8 qp p1 p2 r3 imm8 s
  | .cmpNeOrAndcmA8 qp p1 p2 r3 imm8 => Sys2Proof.Machine.execCmpNeOrAndcmA8 qp p1 p2 r3 imm8 s
  | .cmp4LtA6 qp p1 p2 r2 r3 => Sys2Proof.Machine.execCmp4LtA6 qp p1 p2 r2 r3 s
  | .cmp4LtuA6 qp p1 p2 r2 r3 => Sys2Proof.Machine.execCmp4LtuA6 qp p1 p2 r2 r3 s
  | .cmp4EqA6 qp p1 p2 r2 r3 => Sys2Proof.Machine.execCmp4EqA6 qp p1 p2 r2 r3 s
  | .cmp4LtUncA6 qp p1 p2 r2 r3 => Sys2Proof.Machine.execCmp4LtUncA6 qp p1 p2 r2 r3 s
  | .cmp4LtuUncA6 qp p1 p2 r2 r3 => Sys2Proof.Machine.execCmp4LtuUncA6 qp p1 p2 r2 r3 s
  | .cmp4EqUncA6 qp p1 p2 r2 r3 => Sys2Proof.Machine.execCmp4EqUncA6 qp p1 p2 r2 r3 s
  | .cmp4EqAndA6 qp p1 p2 r2 r3 => Sys2Proof.Machine.execCmp4EqAndA6 qp p1 p2 r2 r3 s
  | .cmp4EqOrA6 qp p1 p2 r2 r3 => Sys2Proof.Machine.execCmp4EqOrA6 qp p1 p2 r2 r3 s
  | .cmp4EqOrAndcmA6 qp p1 p2 r2 r3 => Sys2Proof.Machine.execCmp4EqOrAndcmA6 qp p1 p2 r2 r3 s
  | .cmp4NeAndA6 qp p1 p2 r2 r3 => Sys2Proof.Machine.execCmp4NeAndA6 qp p1 p2 r2 r3 s
  | .cmp4NeOrA6 qp p1 p2 r2 r3 => Sys2Proof.Machine.execCmp4NeOrA6 qp p1 p2 r2 r3 s
  | .cmp4NeOrAndcmA6 qp p1 p2 r2 r3 => Sys2Proof.Machine.execCmp4NeOrAndcmA6 qp p1 p2 r2 r3 s
  | .cmp4GtAndA7 qp p1 p2 r3 => Sys2Proof.Machine.execCmp4GtAndA7 qp p1 p2 r3 s
  | .cmp4GtOrA7 qp p1 p2 r3 => Sys2Proof.Machine.execCmp4GtOrA7 qp p1 p2 r3 s
  | .cmp4GtOrAndcmA7 qp p1 p2 r3 => Sys2Proof.Machine.execCmp4GtOrAndcmA7 qp p1 p2 r3 s
  | .cmp4LeAndA7 qp p1 p2 r3 => Sys2Proof.Machine.execCmp4LeAndA7 qp p1 p2 r3 s
  | .cmp4LeOrA7 qp p1 p2 r3 => Sys2Proof.Machine.execCmp4LeOrA7 qp p1 p2 r3 s
  | .cmp4LeOrAndcmA7 qp p1 p2 r3 => Sys2Proof.Machine.execCmp4LeOrAndcmA7 qp p1 p2 r3 s
  | .cmp4GeAndA7 qp p1 p2 r3 => Sys2Proof.Machine.execCmp4GeAndA7 qp p1 p2 r3 s
  | .cmp4GeOrA7 qp p1 p2 r3 => Sys2Proof.Machine.execCmp4GeOrA7 qp p1 p2 r3 s
  | .cmp4GeOrAndcmA7 qp p1 p2 r3 => Sys2Proof.Machine.execCmp4GeOrAndcmA7 qp p1 p2 r3 s
  | .cmp4LtAndA7 qp p1 p2 r3 => Sys2Proof.Machine.execCmp4LtAndA7 qp p1 p2 r3 s
  | .cmp4LtOrA7 qp p1 p2 r3 => Sys2Proof.Machine.execCmp4LtOrA7 qp p1 p2 r3 s
  | .cmp4LtOrAndcmA7 qp p1 p2 r3 => Sys2Proof.Machine.execCmp4LtOrAndcmA7 qp p1 p2 r3 s
  | .cmp4LtA8 qp p1 p2 r3 imm8 => Sys2Proof.Machine.execCmp4LtA8 qp p1 p2 r3 imm8 s
  | .cmp4LtuA8 qp p1 p2 r3 imm8 => Sys2Proof.Machine.execCmp4LtuA8 qp p1 p2 r3 imm8 s
  | .cmp4EqA8 qp p1 p2 r3 imm8 => Sys2Proof.Machine.execCmp4EqA8 qp p1 p2 r3 imm8 s
  | .cmp4LtUncA8 qp p1 p2 r3 imm8 => Sys2Proof.Machine.execCmp4LtUncA8 qp p1 p2 r3 imm8 s
  | .cmp4LtuUncA8 qp p1 p2 r3 imm8 => Sys2Proof.Machine.execCmp4LtuUncA8 qp p1 p2 r3 imm8 s
  | .cmp4EqUncA8 qp p1 p2 r3 imm8 => Sys2Proof.Machine.execCmp4EqUncA8 qp p1 p2 r3 imm8 s
  | .cmp4EqAndA8 qp p1 p2 r3 imm8 => Sys2Proof.Machine.execCmp4EqAndA8 qp p1 p2 r3 imm8 s
  | .cmp4EqOrA8 qp p1 p2 r3 imm8 => Sys2Proof.Machine.execCmp4EqOrA8 qp p1 p2 r3 imm8 s
  | .cmp4EqOrAndcmA8 qp p1 p2 r3 imm8 => Sys2Proof.Machine.execCmp4EqOrAndcmA8 qp p1 p2 r3 imm8 s
  | .cmp4NeAndA8 qp p1 p2 r3 imm8 => Sys2Proof.Machine.execCmp4NeAndA8 qp p1 p2 r3 imm8 s
  | .cmp4NeOrA8 qp p1 p2 r3 imm8 => Sys2Proof.Machine.execCmp4NeOrA8 qp p1 p2 r3 imm8 s
  | .cmp4NeOrAndcmA8 qp p1 p2 r3 imm8 => Sys2Proof.Machine.execCmp4NeOrAndcmA8 qp p1 p2 r3 imm8 s
  | .padd1A9 qp r1 r2 r3 => Sys2Proof.Machine.execPadd1A9 qp r1 r2 r3 s
  | .padd2A9 qp r1 r2 r3 => Sys2Proof.Machine.execPadd2A9 qp r1 r2 r3 s
  | .padd4A9 qp r1 r2 r3 => Sys2Proof.Machine.execPadd4A9 qp r1 r2 r3 s
  | .padd1SssA9 qp r1 r2 r3 => Sys2Proof.Machine.execPadd1SssA9 qp r1 r2 r3 s
  | .padd2SssA9 qp r1 r2 r3 => Sys2Proof.Machine.execPadd2SssA9 qp r1 r2 r3 s
  | .padd1UuuA9 qp r1 r2 r3 => Sys2Proof.Machine.execPadd1UuuA9 qp r1 r2 r3 s
  | .padd2UuuA9 qp r1 r2 r3 => Sys2Proof.Machine.execPadd2UuuA9 qp r1 r2 r3 s
  | .padd1UusA9 qp r1 r2 r3 => Sys2Proof.Machine.execPadd1UusA9 qp r1 r2 r3 s
  | .padd2UusA9 qp r1 r2 r3 => Sys2Proof.Machine.execPadd2UusA9 qp r1 r2 r3 s
  | .psub1A9 qp r1 r2 r3 => Sys2Proof.Machine.execPsub1A9 qp r1 r2 r3 s
  | .psub2A9 qp r1 r2 r3 => Sys2Proof.Machine.execPsub2A9 qp r1 r2 r3 s
  | .psub4A9 qp r1 r2 r3 => Sys2Proof.Machine.execPsub4A9 qp r1 r2 r3 s
  | .psub1SssA9 qp r1 r2 r3 => Sys2Proof.Machine.execPsub1SssA9 qp r1 r2 r3 s
  | .psub2SssA9 qp r1 r2 r3 => Sys2Proof.Machine.execPsub2SssA9 qp r1 r2 r3 s
  | .psub1UuuA9 qp r1 r2 r3 => Sys2Proof.Machine.execPsub1UuuA9 qp r1 r2 r3 s
  | .psub2UuuA9 qp r1 r2 r3 => Sys2Proof.Machine.execPsub2UuuA9 qp r1 r2 r3 s
  | .psub1UusA9 qp r1 r2 r3 => Sys2Proof.Machine.execPsub1UusA9 qp r1 r2 r3 s
  | .psub2UusA9 qp r1 r2 r3 => Sys2Proof.Machine.execPsub2UusA9 qp r1 r2 r3 s
  | .pavg1A9 qp r1 r2 r3 => Sys2Proof.Machine.execPavg1A9 qp r1 r2 r3 s
  | .pavg2A9 qp r1 r2 r3 => Sys2Proof.Machine.execPavg2A9 qp r1 r2 r3 s
  | .pavg1RazA9 qp r1 r2 r3 => Sys2Proof.Machine.execPavg1RazA9 qp r1 r2 r3 s
  | .pavg2RazA9 qp r1 r2 r3 => Sys2Proof.Machine.execPavg2RazA9 qp r1 r2 r3 s
  | .pavgsub1A9 qp r1 r2 r3 => Sys2Proof.Machine.execPavgsub1A9 qp r1 r2 r3 s
  | .pavgsub2A9 qp r1 r2 r3 => Sys2Proof.Machine.execPavgsub2A9 qp r1 r2 r3 s
  | .pcmp1EqA9 qp r1 r2 r3 => Sys2Proof.Machine.execPcmp1EqA9 qp r1 r2 r3 s
  | .pcmp2EqA9 qp r1 r2 r3 => Sys2Proof.Machine.execPcmp2EqA9 qp r1 r2 r3 s
  | .pcmp4EqA9 qp r1 r2 r3 => Sys2Proof.Machine.execPcmp4EqA9 qp r1 r2 r3 s
  | .pcmp1GtA9 qp r1 r2 r3 => Sys2Proof.Machine.execPcmp1GtA9 qp r1 r2 r3 s
  | .pcmp2GtA9 qp r1 r2 r3 => Sys2Proof.Machine.execPcmp2GtA9 qp r1 r2 r3 s
  | .pcmp4GtA9 qp r1 r2 r3 => Sys2Proof.Machine.execPcmp4GtA9 qp r1 r2 r3 s
  | .pshladd2A10 qp r1 r2 r3 ct2d => Sys2Proof.Machine.execPshladd2A10 qp r1 r2 r3 ct2d s
  | .pshradd2A10 qp r1 r2 r3 ct2d => Sys2Proof.Machine.execPshradd2A10 qp r1 r2 r3 ct2d s
  | .pmpyshr2I1 qp r1 r2 r3 ct2d => Sys2Proof.Machine.execPmpyshr2I1 qp r1 r2 r3 ct2d s
  | .pmpyshr2UI1 qp r1 r2 r3 ct2d => Sys2Proof.Machine.execPmpyshr2UI1 qp r1 r2 r3 ct2d s
  | .unpack1HI2 qp r1 r2 r3 => Sys2Proof.Machine.execUnpack1HI2 qp r1 r2 r3 s
  | .mix1RI2 qp r1 r2 r3 => Sys2Proof.Machine.execMix1RI2 qp r1 r2 r3 s
  | .pmin1UI2 qp r1 r2 r3 => Sys2Proof.Machine.execPmin1UI2 qp r1 r2 r3 s
  | .pmax1UI2 qp r1 r2 r3 => Sys2Proof.Machine.execPmax1UI2 qp r1 r2 r3 s
  | .unpack1LI2 qp r1 r2 r3 => Sys2Proof.Machine.execUnpack1LI2 qp r1 r2 r3 s
  | .mix1LI2 qp r1 r2 r3 => Sys2Proof.Machine.execMix1LI2 qp r1 r2 r3 s
  | .psad1I2 qp r1 r2 r3 => Sys2Proof.Machine.execPsad1I2 qp r1 r2 r3 s
  | .pack2UssI2 qp r1 r2 r3 => Sys2Proof.Machine.execPack2UssI2 qp r1 r2 r3 s
  | .unpack2HI2 qp r1 r2 r3 => Sys2Proof.Machine.execUnpack2HI2 qp r1 r2 r3 s
  | .mix2RI2 qp r1 r2 r3 => Sys2Proof.Machine.execMix2RI2 qp r1 r2 r3 s
  | .pmpy2RI2 qp r1 r2 r3 => Sys2Proof.Machine.execPmpy2RI2 qp r1 r2 r3 s
  | .pack2SssI2 qp r1 r2 r3 => Sys2Proof.Machine.execPack2SssI2 qp r1 r2 r3 s
  | .unpack2LI2 qp r1 r2 r3 => Sys2Proof.Machine.execUnpack2LI2 qp r1 r2 r3 s
  | .mix2LI2 qp r1 r2 r3 => Sys2Proof.Machine.execMix2LI2 qp r1 r2 r3 s
  | .pmin2I2 qp r1 r2 r3 => Sys2Proof.Machine.execPmin2I2 qp r1 r2 r3 s
  | .pmax2I2 qp r1 r2 r3 => Sys2Proof.Machine.execPmax2I2 qp r1 r2 r3 s
  | .pmpy2LI2 qp r1 r2 r3 => Sys2Proof.Machine.execPmpy2LI2 qp r1 r2 r3 s
  | .mpy4I2 qp r1 r2 r3 => Sys2Proof.Machine.execMpy4I2 qp r1 r2 r3 s
  | .mpyshl4I2 qp r1 r2 r3 => Sys2Proof.Machine.execMpyshl4I2 qp r1 r2 r3 s
  | .unpack4HI2 qp r1 r2 r3 => Sys2Proof.Machine.execUnpack4HI2 qp r1 r2 r3 s
  | .mix4RI2 qp r1 r2 r3 => Sys2Proof.Machine.execMix4RI2 qp r1 r2 r3 s
  | .pack4SssI2 qp r1 r2 r3 => Sys2Proof.Machine.execPack4SssI2 qp r1 r2 r3 s
  | .unpack4LI2 qp r1 r2 r3 => Sys2Proof.Machine.execUnpack4LI2 qp r1 r2 r3 s
  | .mix4LI2 qp r1 r2 r3 => Sys2Proof.Machine.execMix4LI2 qp r1 r2 r3 s
  | .mux1I3 qp r1 r2 mbt4c => Sys2Proof.Machine.execMux1I3 qp r1 r2 mbt4c s
  | .mux2I4 qp r1 r2 mht8c => Sys2Proof.Machine.execMux2I4 qp r1 r2 mht8c s
  | .pshr2I5 qp r1 r2 r3 => Sys2Proof.Machine.execPshr2I5 qp r1 r2 r3 s
  | .pshr4I5 qp r1 r2 r3 => Sys2Proof.Machine.execPshr4I5 qp r1 r2 r3 s
  | .shrI5 qp r1 r2 r3 => Sys2Proof.Machine.execShrI5 qp r1 r2 r3 s
  | .pshr2UI5 qp r1 r2 r3 => Sys2Proof.Machine.execPshr2UI5 qp r1 r2 r3 s
  | .pshr4UI5 qp r1 r2 r3 => Sys2Proof.Machine.execPshr4UI5 qp r1 r2 r3 s
  | .shrUI5 qp r1 r2 r3 => Sys2Proof.Machine.execShrUI5 qp r1 r2 r3 s
  | .pshr2I6 qp r1 r3 count5b => Sys2Proof.Machine.execPshr2I6 qp r1 r3 count5b s
  | .pshr4I6 qp r1 r3 count5b => Sys2Proof.Machine.execPshr4I6 qp r1 r3 count5b s
  | .pshr2UI6 qp r1 r3 count5b => Sys2Proof.Machine.execPshr2UI6 qp r1 r3 count5b s
  | .pshr4UI6 qp r1 r3 count5b => Sys2Proof.Machine.execPshr4UI6 qp r1 r3 count5b s
  | .pshl2I7 qp r1 r2 r3 => Sys2Proof.Machine.execPshl2I7 qp r1 r2 r3 s
  | .pshl4I7 qp r1 r2 r3 => Sys2Proof.Machine.execPshl4I7 qp r1 r2 r3 s
  | .shlI7 qp r1 r2 r3 => Sys2Proof.Machine.execShlI7 qp r1 r2 r3 s
  | .pshl2I8 qp r1 r2 ccount5c => Sys2Proof.Machine.execPshl2I8 qp r1 r2 ccount5c s
  | .pshl4I8 qp r1 r2 ccount5c => Sys2Proof.Machine.execPshl4I8 qp r1 r2 ccount5c s
  | .popcntI9 qp r1 r3 => Sys2Proof.Machine.execPopcntI9 qp r1 r3 s
  | .clzI9 qp r1 r3 => Sys2Proof.Machine.execClzI9 qp r1 r3 s
  | .shrpI10 qp r1 r2 r3 count6d => Sys2Proof.Machine.execShrpI10 qp r1 r2 r3 count6d s
  | .extrUI11 qp r1 r3 len6d pos6b => Sys2Proof.Machine.execExtrUI11 qp r1 r3 len6d pos6b s
  | .extrI11 qp r1 r3 len6d pos6b => Sys2Proof.Machine.execExtrI11 qp r1 r3 len6d pos6b s
  | .depZI12 qp r1 r2 len6d cpos6c => Sys2Proof.Machine.execDepZI12 qp r1 r2 len6d cpos6c s
  | .depZI13 qp r1 len6d cpos6c imm8 => Sys2Proof.Machine.execDepZI13 qp r1 len6d cpos6c imm8 s
  | .depI14 qp r1 r3 len6d cpos6b imm1 => Sys2Proof.Machine.execDepI14 qp r1 r3 len6d cpos6b imm1 s
  | .depI15 qp r1 r2 r3 cpos6d len4d => Sys2Proof.Machine.execDepI15 qp r1 r2 r3 cpos6d len4d s
  | .tbitZI16 qp p1 p2 r3 pos6b => Sys2Proof.Machine.execTbitZI16 qp p1 p2 r3 pos6b s
  | .tnatZI17 qp p1 p2 r3 => Sys2Proof.Machine.execTnatZI17 qp p1 p2 r3 s
  | .tfZI30 qp p1 p2 imm5b => Sys2Proof.Machine.execTfZI30 qp p1 p2 imm5b s
  | .tbitZUncI16 qp p1 p2 r3 pos6b => Sys2Proof.Machine.execTbitZUncI16 qp p1 p2 r3 pos6b s
  | .tnatZUncI17 qp p1 p2 r3 => Sys2Proof.Machine.execTnatZUncI17 qp p1 p2 r3 s
  | .tfZUncI30 qp p1 p2 imm5b => Sys2Proof.Machine.execTfZUncI30 qp p1 p2 imm5b s
  | .tbitZAndI16 qp p1 p2 r3 pos6b => Sys2Proof.Machine.execTbitZAndI16 qp p1 p2 r3 pos6b s
  | .tnatZAndI17 qp p1 p2 r3 => Sys2Proof.Machine.execTnatZAndI17 qp p1 p2 r3 s
  | .tfZAndI30 qp p1 p2 imm5b => Sys2Proof.Machine.execTfZAndI30 qp p1 p2 imm5b s
  | .tbitNzAndI16 qp p1 p2 r3 pos6b => Sys2Proof.Machine.execTbitNzAndI16 qp p1 p2 r3 pos6b s
  | .tnatNzAndI17 qp p1 p2 r3 => Sys2Proof.Machine.execTnatNzAndI17 qp p1 p2 r3 s
  | .tfNzAndI30 qp p1 p2 imm5b => Sys2Proof.Machine.execTfNzAndI30 qp p1 p2 imm5b s
  | .tbitZOrI16 qp p1 p2 r3 pos6b => Sys2Proof.Machine.execTbitZOrI16 qp p1 p2 r3 pos6b s
  | .tnatZOrI17 qp p1 p2 r3 => Sys2Proof.Machine.execTnatZOrI17 qp p1 p2 r3 s
  | .tfZOrI30 qp p1 p2 imm5b => Sys2Proof.Machine.execTfZOrI30 qp p1 p2 imm5b s
  | .tbitNzOrI16 qp p1 p2 r3 pos6b => Sys2Proof.Machine.execTbitNzOrI16 qp p1 p2 r3 pos6b s
  | .tnatNzOrI17 qp p1 p2 r3 => Sys2Proof.Machine.execTnatNzOrI17 qp p1 p2 r3 s
  | .tfNzOrI30 qp p1 p2 imm5b => Sys2Proof.Machine.execTfNzOrI30 qp p1 p2 imm5b s
  | .tbitZOrAndcmI16 qp p1 p2 r3 pos6b => Sys2Proof.Machine.execTbitZOrAndcmI16 qp p1 p2 r3 pos6b s
  | .tnatZOrAndcmI17 qp p1 p2 r3 => Sys2Proof.Machine.execTnatZOrAndcmI17 qp p1 p2 r3 s
  | .tfZOrAndcmI30 qp p1 p2 imm5b => Sys2Proof.Machine.execTfZOrAndcmI30 qp p1 p2 imm5b s
  | .tbitNzOrAndcmI16 qp p1 p2 r3 pos6b => Sys2Proof.Machine.execTbitNzOrAndcmI16 qp p1 p2 r3 pos6b s
  | .tnatNzOrAndcmI17 qp p1 p2 r3 => Sys2Proof.Machine.execTnatNzOrAndcmI17 qp p1 p2 r3 s
  | .tfNzOrAndcmI30 qp p1 p2 imm5b => Sys2Proof.Machine.execTfNzOrAndcmI30 qp p1 p2 imm5b s
  | .nopII18 qp imm21 => Sys2Proof.Machine.execNopII18 qp imm21 s
  | .hintII18 qp imm21 => Sys2Proof.Machine.execHintII18 qp imm21 s
  | .breakII19 qp imm21 => Sys2Proof.Machine.execBreakII19 qp imm21 s
  | .chkSII20 qp r2 disp21 => Sys2Proof.Machine.execChkSII20 qp r2 disp21 s
  | .movToBrI21 qp b1 r2 timm9c ih wh p pbtv => Sys2Proof.Machine.execMovToBrI21 qp b1 r2 timm9c ih wh p pbtv s
  | .movRetToBrI21 qp b1 r2 timm9c ih wh p pbtv => Sys2Proof.Machine.execMovRetToBrI21 qp b1 r2 timm9c ih wh p pbtv s
  | .movFromBrI22 qp r1 b2 => Sys2Proof.Machine.execMovFromBrI22 qp r1 b2 s
  | .movToPrI23 qp r2 mask16 => Sys2Proof.Machine.execMovToPrI23 qp r2 mask16 s
  | .movToPrRotI24 qp imm28 => Sys2Proof.Machine.execMovToPrRotI24 qp imm28 s
  | .movFromIpI25 qp r1 => Sys2Proof.Machine.execMovFromIpI25 qp r1 s
  | .movFromPrI25 qp r1 => Sys2Proof.Machine.execMovFromPrI25 qp r1 s
  | .movIToArI26 qp r2 ar3 => Sys2Proof.Machine.execMovIToArI26 qp r2 ar3 s
  | .movIToArImmI27 qp ar3 imm8 => Sys2Proof.Machine.execMovIToArImmI27 qp ar3 imm8 s
  | .movIFromArI28 qp r1 ar3 => Sys2Proof.Machine.execMovIFromArI28 qp r1 ar3 s
  | .zxt1I29 qp r1 r3 => Sys2Proof.Machine.execZxt1I29 qp r1 r3 s
  | .zxt2I29 qp r1 r3 => Sys2Proof.Machine.execZxt2I29 qp r1 r3 s
  | .zxt4I29 qp r1 r3 => Sys2Proof.Machine.execZxt4I29 qp r1 r3 s
  | .sxt1I29 qp r1 r3 => Sys2Proof.Machine.execSxt1I29 qp r1 r3 s
  | .sxt2I29 qp r1 r3 => Sys2Proof.Machine.execSxt2I29 qp r1 r3 s
  | .sxt4I29 qp r1 r3 => Sys2Proof.Machine.execSxt4I29 qp r1 r3 s
  | .czx1LI29 qp r1 r3 => Sys2Proof.Machine.execCzx1LI29 qp r1 r3 s
  | .czx2LI29 qp r1 r3 => Sys2Proof.Machine.execCzx2LI29 qp r1 r3 s
  | .czx1RI29 qp r1 r3 => Sys2Proof.Machine.execCzx1RI29 qp r1 r3 s
  | .czx2RI29 qp r1 r3 => Sys2Proof.Machine.execCzx2RI29 qp r1 r3 s
  | .ld1M1 qp r1 r3 hint h => Sys2Proof.Machine.execLd1M1 qp r1 r3 hint h s
  | .ld2M1 qp r1 r3 hint h => Sys2Proof.Machine.execLd2M1 qp r1 r3 hint h s
  | .ld4M1 qp r1 r3 hint h => Sys2Proof.Machine.execLd4M1 qp r1 r3 hint h s
  | .ld8M1 qp r1 r3 hint h => Sys2Proof.Machine.execLd8M1 qp r1 r3 hint h s
  | .ld1SM1 qp r1 r3 hint h => Sys2Proof.Machine.execLd1SM1 qp r1 r3 hint h s
  | .ld2SM1 qp r1 r3 hint h => Sys2Proof.Machine.execLd2SM1 qp r1 r3 hint h s
  | .ld4SM1 qp r1 r3 hint h => Sys2Proof.Machine.execLd4SM1 qp r1 r3 hint h s
  | .ld8SM1 qp r1 r3 hint h => Sys2Proof.Machine.execLd8SM1 qp r1 r3 hint h s
  | .ld1AM1 qp r1 r3 hint h => Sys2Proof.Machine.execLd1AM1 qp r1 r3 hint h s
  | .ld2AM1 qp r1 r3 hint h => Sys2Proof.Machine.execLd2AM1 qp r1 r3 hint h s
  | .ld4AM1 qp r1 r3 hint h => Sys2Proof.Machine.execLd4AM1 qp r1 r3 hint h s
  | .ld8AM1 qp r1 r3 hint h => Sys2Proof.Machine.execLd8AM1 qp r1 r3 hint h s
  | .ld1SaM1 qp r1 r3 hint h => Sys2Proof.Machine.execLd1SaM1 qp r1 r3 hint h s
  | .ld2SaM1 qp r1 r3 hint h => Sys2Proof.Machine.execLd2SaM1 qp r1 r3 hint h s
  | .ld4SaM1 qp r1 r3 hint h => Sys2Proof.Machine.execLd4SaM1 qp r1 r3 hint h s
  | .ld8SaM1 qp r1 r3 hint h => Sys2Proof.Machine.execLd8SaM1 qp r1 r3 hint h s
  | .ld1BiasM1 qp r1 r3 hint h => Sys2Proof.Machine.execLd1BiasM1 qp r1 r3 hint h s
  | .ld2BiasM1 qp r1 r3 hint h => Sys2Proof.Machine.execLd2BiasM1 qp r1 r3 hint h s
  | .ld4BiasM1 qp r1 r3 hint h => Sys2Proof.Machine.execLd4BiasM1 qp r1 r3 hint h s
  | .ld8BiasM1 qp r1 r3 hint h => Sys2Proof.Machine.execLd8BiasM1 qp r1 r3 hint h s
  | .ld1AcqM1 qp r1 r3 hint h => Sys2Proof.Machine.execLd1AcqM1 qp r1 r3 hint h s
  | .ld2AcqM1 qp r1 r3 hint h => Sys2Proof.Machine.execLd2AcqM1 qp r1 r3 hint h s
  | .ld4AcqM1 qp r1 r3 hint h => Sys2Proof.Machine.execLd4AcqM1 qp r1 r3 hint h s
  | .ld8AcqM1 qp r1 r3 hint h => Sys2Proof.Machine.execLd8AcqM1 qp r1 r3 hint h s
  | .ld1CClrM1 qp r1 r3 hint h => Sys2Proof.Machine.execLd1CClrM1 qp r1 r3 hint h s
  | .ld2CClrM1 qp r1 r3 hint h => Sys2Proof.Machine.execLd2CClrM1 qp r1 r3 hint h s
  | .ld4CClrM1 qp r1 r3 hint h => Sys2Proof.Machine.execLd4CClrM1 qp r1 r3 hint h s
  | .ld8CClrM1 qp r1 r3 hint h => Sys2Proof.Machine.execLd8CClrM1 qp r1 r3 hint h s
  | .ld1CNcM1 qp r1 r3 hint h => Sys2Proof.Machine.execLd1CNcM1 qp r1 r3 hint h s
  | .ld2CNcM1 qp r1 r3 hint h => Sys2Proof.Machine.execLd2CNcM1 qp r1 r3 hint h s
  | .ld4CNcM1 qp r1 r3 hint h => Sys2Proof.Machine.execLd4CNcM1 qp r1 r3 hint h s
  | .ld8CNcM1 qp r1 r3 hint h => Sys2Proof.Machine.execLd8CNcM1 qp r1 r3 hint h s
  | .ld1CClrAcqM1 qp r1 r3 hint h => Sys2Proof.Machine.execLd1CClrAcqM1 qp r1 r3 hint h s
  | .ld2CClrAcqM1 qp r1 r3 hint h => Sys2Proof.Machine.execLd2CClrAcqM1 qp r1 r3 hint h s
  | .ld4CClrAcqM1 qp r1 r3 hint h => Sys2Proof.Machine.execLd4CClrAcqM1 qp r1 r3 hint h s
  | .ld8CClrAcqM1 qp r1 r3 hint h => Sys2Proof.Machine.execLd8CClrAcqM1 qp r1 r3 hint h s
  | .ld8FillM1 qp r1 r3 hint h => Sys2Proof.Machine.execLd8FillM1 qp r1 r3 hint h s
  | .ld1M2 qp r1 r2 r3 hint => Sys2Proof.Machine.execLd1M2 qp r1 r2 r3 hint s
  | .ld2M2 qp r1 r2 r3 hint => Sys2Proof.Machine.execLd2M2 qp r1 r2 r3 hint s
  | .ld4M2 qp r1 r2 r3 hint => Sys2Proof.Machine.execLd4M2 qp r1 r2 r3 hint s
  | .ld8M2 qp r1 r2 r3 hint => Sys2Proof.Machine.execLd8M2 qp r1 r2 r3 hint s
  | .ld1SM2 qp r1 r2 r3 hint => Sys2Proof.Machine.execLd1SM2 qp r1 r2 r3 hint s
  | .ld2SM2 qp r1 r2 r3 hint => Sys2Proof.Machine.execLd2SM2 qp r1 r2 r3 hint s
  | .ld4SM2 qp r1 r2 r3 hint => Sys2Proof.Machine.execLd4SM2 qp r1 r2 r3 hint s
  | .ld8SM2 qp r1 r2 r3 hint => Sys2Proof.Machine.execLd8SM2 qp r1 r2 r3 hint s
  | .ld1AM2 qp r1 r2 r3 hint => Sys2Proof.Machine.execLd1AM2 qp r1 r2 r3 hint s
  | .ld2AM2 qp r1 r2 r3 hint => Sys2Proof.Machine.execLd2AM2 qp r1 r2 r3 hint s
  | .ld4AM2 qp r1 r2 r3 hint => Sys2Proof.Machine.execLd4AM2 qp r1 r2 r3 hint s
  | .ld8AM2 qp r1 r2 r3 hint => Sys2Proof.Machine.execLd8AM2 qp r1 r2 r3 hint s
  | .ld1SaM2 qp r1 r2 r3 hint => Sys2Proof.Machine.execLd1SaM2 qp r1 r2 r3 hint s
  | .ld2SaM2 qp r1 r2 r3 hint => Sys2Proof.Machine.execLd2SaM2 qp r1 r2 r3 hint s
  | .ld4SaM2 qp r1 r2 r3 hint => Sys2Proof.Machine.execLd4SaM2 qp r1 r2 r3 hint s
  | .ld8SaM2 qp r1 r2 r3 hint => Sys2Proof.Machine.execLd8SaM2 qp r1 r2 r3 hint s
  | .ld1BiasM2 qp r1 r2 r3 hint => Sys2Proof.Machine.execLd1BiasM2 qp r1 r2 r3 hint s
  | .ld2BiasM2 qp r1 r2 r3 hint => Sys2Proof.Machine.execLd2BiasM2 qp r1 r2 r3 hint s
  | .ld4BiasM2 qp r1 r2 r3 hint => Sys2Proof.Machine.execLd4BiasM2 qp r1 r2 r3 hint s
  | .ld8BiasM2 qp r1 r2 r3 hint => Sys2Proof.Machine.execLd8BiasM2 qp r1 r2 r3 hint s
  | .ld1AcqM2 qp r1 r2 r3 hint => Sys2Proof.Machine.execLd1AcqM2 qp r1 r2 r3 hint s
  | .ld2AcqM2 qp r1 r2 r3 hint => Sys2Proof.Machine.execLd2AcqM2 qp r1 r2 r3 hint s
  | .ld4AcqM2 qp r1 r2 r3 hint => Sys2Proof.Machine.execLd4AcqM2 qp r1 r2 r3 hint s
  | .ld8AcqM2 qp r1 r2 r3 hint => Sys2Proof.Machine.execLd8AcqM2 qp r1 r2 r3 hint s
  | .ld1CClrM2 qp r1 r2 r3 hint => Sys2Proof.Machine.execLd1CClrM2 qp r1 r2 r3 hint s
  | .ld2CClrM2 qp r1 r2 r3 hint => Sys2Proof.Machine.execLd2CClrM2 qp r1 r2 r3 hint s
  | .ld4CClrM2 qp r1 r2 r3 hint => Sys2Proof.Machine.execLd4CClrM2 qp r1 r2 r3 hint s
  | .ld8CClrM2 qp r1 r2 r3 hint => Sys2Proof.Machine.execLd8CClrM2 qp r1 r2 r3 hint s
  | .ld1CNcM2 qp r1 r2 r3 hint => Sys2Proof.Machine.execLd1CNcM2 qp r1 r2 r3 hint s
  | .ld2CNcM2 qp r1 r2 r3 hint => Sys2Proof.Machine.execLd2CNcM2 qp r1 r2 r3 hint s
  | .ld4CNcM2 qp r1 r2 r3 hint => Sys2Proof.Machine.execLd4CNcM2 qp r1 r2 r3 hint s
  | .ld8CNcM2 qp r1 r2 r3 hint => Sys2Proof.Machine.execLd8CNcM2 qp r1 r2 r3 hint s
  | .ld1CClrAcqM2 qp r1 r2 r3 hint => Sys2Proof.Machine.execLd1CClrAcqM2 qp r1 r2 r3 hint s
  | .ld2CClrAcqM2 qp r1 r2 r3 hint => Sys2Proof.Machine.execLd2CClrAcqM2 qp r1 r2 r3 hint s
  | .ld4CClrAcqM2 qp r1 r2 r3 hint => Sys2Proof.Machine.execLd4CClrAcqM2 qp r1 r2 r3 hint s
  | .ld8CClrAcqM2 qp r1 r2 r3 hint => Sys2Proof.Machine.execLd8CClrAcqM2 qp r1 r2 r3 hint s
  | .ld8FillM2 qp r1 r2 r3 hint => Sys2Proof.Machine.execLd8FillM2 qp r1 r2 r3 hint s
  | .ld1M3 qp r1 r3 hint imm9 => Sys2Proof.Machine.execLd1M3 qp r1 r3 hint imm9 s
  | .ld2M3 qp r1 r3 hint imm9 => Sys2Proof.Machine.execLd2M3 qp r1 r3 hint imm9 s
  | .ld4M3 qp r1 r3 hint imm9 => Sys2Proof.Machine.execLd4M3 qp r1 r3 hint imm9 s
  | .ld8M3 qp r1 r3 hint imm9 => Sys2Proof.Machine.execLd8M3 qp r1 r3 hint imm9 s
  | .ld1SM3 qp r1 r3 hint imm9 => Sys2Proof.Machine.execLd1SM3 qp r1 r3 hint imm9 s
  | .ld2SM3 qp r1 r3 hint imm9 => Sys2Proof.Machine.execLd2SM3 qp r1 r3 hint imm9 s
  | .ld4SM3 qp r1 r3 hint imm9 => Sys2Proof.Machine.execLd4SM3 qp r1 r3 hint imm9 s
  | .ld8SM3 qp r1 r3 hint imm9 => Sys2Proof.Machine.execLd8SM3 qp r1 r3 hint imm9 s
  | .ld1AM3 qp r1 r3 hint imm9 => Sys2Proof.Machine.execLd1AM3 qp r1 r3 hint imm9 s
  | .ld2AM3 qp r1 r3 hint imm9 => Sys2Proof.Machine.execLd2AM3 qp r1 r3 hint imm9 s
  | .ld4AM3 qp r1 r3 hint imm9 => Sys2Proof.Machine.execLd4AM3 qp r1 r3 hint imm9 s
  | .ld8AM3 qp r1 r3 hint imm9 => Sys2Proof.Machine.execLd8AM3 qp r1 r3 hint imm9 s
  | .ld1SaM3 qp r1 r3 hint imm9 => Sys2Proof.Machine.execLd1SaM3 qp r1 r3 hint imm9 s
  | .ld2SaM3 qp r1 r3 hint imm9 => Sys2Proof.Machine.execLd2SaM3 qp r1 r3 hint imm9 s
  | .ld4SaM3 qp r1 r3 hint imm9 => Sys2Proof.Machine.execLd4SaM3 qp r1 r3 hint imm9 s
  | .ld8SaM3 qp r1 r3 hint imm9 => Sys2Proof.Machine.execLd8SaM3 qp r1 r3 hint imm9 s
  | .ld1BiasM3 qp r1 r3 hint imm9 => Sys2Proof.Machine.execLd1BiasM3 qp r1 r3 hint imm9 s
  | .ld2BiasM3 qp r1 r3 hint imm9 => Sys2Proof.Machine.execLd2BiasM3 qp r1 r3 hint imm9 s
  | .ld4BiasM3 qp r1 r3 hint imm9 => Sys2Proof.Machine.execLd4BiasM3 qp r1 r3 hint imm9 s
  | .ld8BiasM3 qp r1 r3 hint imm9 => Sys2Proof.Machine.execLd8BiasM3 qp r1 r3 hint imm9 s
  | .ld1AcqM3 qp r1 r3 hint imm9 => Sys2Proof.Machine.execLd1AcqM3 qp r1 r3 hint imm9 s
  | .ld2AcqM3 qp r1 r3 hint imm9 => Sys2Proof.Machine.execLd2AcqM3 qp r1 r3 hint imm9 s
  | .ld4AcqM3 qp r1 r3 hint imm9 => Sys2Proof.Machine.execLd4AcqM3 qp r1 r3 hint imm9 s
  | .ld8AcqM3 qp r1 r3 hint imm9 => Sys2Proof.Machine.execLd8AcqM3 qp r1 r3 hint imm9 s
  | .ld1CClrM3 qp r1 r3 hint imm9 => Sys2Proof.Machine.execLd1CClrM3 qp r1 r3 hint imm9 s
  | .ld2CClrM3 qp r1 r3 hint imm9 => Sys2Proof.Machine.execLd2CClrM3 qp r1 r3 hint imm9 s
  | .ld4CClrM3 qp r1 r3 hint imm9 => Sys2Proof.Machine.execLd4CClrM3 qp r1 r3 hint imm9 s
  | .ld8CClrM3 qp r1 r3 hint imm9 => Sys2Proof.Machine.execLd8CClrM3 qp r1 r3 hint imm9 s
  | .ld1CNcM3 qp r1 r3 hint imm9 => Sys2Proof.Machine.execLd1CNcM3 qp r1 r3 hint imm9 s
  | .ld2CNcM3 qp r1 r3 hint imm9 => Sys2Proof.Machine.execLd2CNcM3 qp r1 r3 hint imm9 s
  | .ld4CNcM3 qp r1 r3 hint imm9 => Sys2Proof.Machine.execLd4CNcM3 qp r1 r3 hint imm9 s
  | .ld8CNcM3 qp r1 r3 hint imm9 => Sys2Proof.Machine.execLd8CNcM3 qp r1 r3 hint imm9 s
  | .ld1CClrAcqM3 qp r1 r3 hint imm9 => Sys2Proof.Machine.execLd1CClrAcqM3 qp r1 r3 hint imm9 s
  | .ld2CClrAcqM3 qp r1 r3 hint imm9 => Sys2Proof.Machine.execLd2CClrAcqM3 qp r1 r3 hint imm9 s
  | .ld4CClrAcqM3 qp r1 r3 hint imm9 => Sys2Proof.Machine.execLd4CClrAcqM3 qp r1 r3 hint imm9 s
  | .ld8CClrAcqM3 qp r1 r3 hint imm9 => Sys2Proof.Machine.execLd8CClrAcqM3 qp r1 r3 hint imm9 s
  | .ld8FillM3 qp r1 r3 hint imm9 => Sys2Proof.Machine.execLd8FillM3 qp r1 r3 hint imm9 s
  | .ld16M1 qp r1 r3 hint h => Sys2Proof.Machine.execLd16M1 qp r1 r3 hint h s
  | .ld16AcqM1 qp r1 r3 hint h => Sys2Proof.Machine.execLd16AcqM1 qp r1 r3 hint h s
  | .st1M4 qp r2 r3 hint h => Sys2Proof.Machine.execSt1M4 qp r2 r3 hint h s
  | .st2M4 qp r2 r3 hint h => Sys2Proof.Machine.execSt2M4 qp r2 r3 hint h s
  | .st4M4 qp r2 r3 hint h => Sys2Proof.Machine.execSt4M4 qp r2 r3 hint h s
  | .st8M4 qp r2 r3 hint h => Sys2Proof.Machine.execSt8M4 qp r2 r3 hint h s
  | .st1RelM4 qp r2 r3 hint h => Sys2Proof.Machine.execSt1RelM4 qp r2 r3 hint h s
  | .st2RelM4 qp r2 r3 hint h => Sys2Proof.Machine.execSt2RelM4 qp r2 r3 hint h s
  | .st4RelM4 qp r2 r3 hint h => Sys2Proof.Machine.execSt4RelM4 qp r2 r3 hint h s
  | .st8RelM4 qp r2 r3 hint h => Sys2Proof.Machine.execSt8RelM4 qp r2 r3 hint h s
  | .st8SpillM4 qp r2 r3 hint h => Sys2Proof.Machine.execSt8SpillM4 qp r2 r3 hint h s
  | .st1M5 qp r2 r3 hint imm9 => Sys2Proof.Machine.execSt1M5 qp r2 r3 hint imm9 s
  | .st2M5 qp r2 r3 hint imm9 => Sys2Proof.Machine.execSt2M5 qp r2 r3 hint imm9 s
  | .st4M5 qp r2 r3 hint imm9 => Sys2Proof.Machine.execSt4M5 qp r2 r3 hint imm9 s
  | .st8M5 qp r2 r3 hint imm9 => Sys2Proof.Machine.execSt8M5 qp r2 r3 hint imm9 s
  | .st1RelM5 qp r2 r3 hint imm9 => Sys2Proof.Machine.execSt1RelM5 qp r2 r3 hint imm9 s
  | .st2RelM5 qp r2 r3 hint imm9 => Sys2Proof.Machine.execSt2RelM5 qp r2 r3 hint imm9 s
  | .st4RelM5 qp r2 r3 hint imm9 => Sys2Proof.Machine.execSt4RelM5 qp r2 r3 hint imm9 s
  | .st8RelM5 qp r2 r3 hint imm9 => Sys2Proof.Machine.execSt8RelM5 qp r2 r3 hint imm9 s
  | .st8SpillM5 qp r2 r3 hint imm9 => Sys2Proof.Machine.execSt8SpillM5 qp r2 r3 hint imm9 s
  | .st16M4 qp r2 r3 hint h => Sys2Proof.Machine.execSt16M4 qp r2 r3 hint h s
  | .st16RelM4 qp r2 r3 hint h => Sys2Proof.Machine.execSt16RelM4 qp r2 r3 hint h s
  | .ldfeM6 qp f1 r3 hint h => Sys2Proof.Machine.execLdfeM6 qp f1 r3 hint h s
  | .ldf8M6 qp f1 r3 hint h => Sys2Proof.Machine.execLdf8M6 qp f1 r3 hint h s
  | .ldfsM6 qp f1 r3 hint h => Sys2Proof.Machine.execLdfsM6 qp f1 r3 hint h s
  | .ldfdM6 qp f1 r3 hint h => Sys2Proof.Machine.execLdfdM6 qp f1 r3 hint h s
  | .ldfeSM6 qp f1 r3 hint h => Sys2Proof.Machine.execLdfeSM6 qp f1 r3 hint h s
  | .ldf8SM6 qp f1 r3 hint h => Sys2Proof.Machine.execLdf8SM6 qp f1 r3 hint h s
  | .ldfsSM6 qp f1 r3 hint h => Sys2Proof.Machine.execLdfsSM6 qp f1 r3 hint h s
  | .ldfdSM6 qp f1 r3 hint h => Sys2Proof.Machine.execLdfdSM6 qp f1 r3 hint h s
  | .ldfeAM6 qp f1 r3 hint h => Sys2Proof.Machine.execLdfeAM6 qp f1 r3 hint h s
  | .ldf8AM6 qp f1 r3 hint h => Sys2Proof.Machine.execLdf8AM6 qp f1 r3 hint h s
  | .ldfsAM6 qp f1 r3 hint h => Sys2Proof.Machine.execLdfsAM6 qp f1 r3 hint h s
  | .ldfdAM6 qp f1 r3 hint h => Sys2Proof.Machine.execLdfdAM6 qp f1 r3 hint h s
  | .ldfeSaM6 qp f1 r3 hint h => Sys2Proof.Machine.execLdfeSaM6 qp f1 r3 hint h s
  | .ldf8SaM6 qp f1 r3 hint h => Sys2Proof.Machine.execLdf8SaM6 qp f1 r3 hint h s
  | .ldfsSaM6 qp f1 r3 hint h => Sys2Proof.Machine.execLdfsSaM6 qp f1 r3 hint h s
  | .ldfdSaM6 qp f1 r3 hint h => Sys2Proof.Machine.execLdfdSaM6 qp f1 r3 hint h s
  | .ldfeCClrM6 qp f1 r3 hint h => Sys2Proof.Machine.execLdfeCClrM6 qp f1 r3 hint h s
  | .ldf8CClrM6 qp f1 r3 hint h => Sys2Proof.Machine.execLdf8CClrM6 qp f1 r3 hint h s
  | .ldfsCClrM6 qp f1 r3 hint h => Sys2Proof.Machine.execLdfsCClrM6 qp f1 r3 hint h s
  | .ldfdCClrM6 qp f1 r3 hint h => Sys2Proof.Machine.execLdfdCClrM6 qp f1 r3 hint h s
  | .ldfeCNcM6 qp f1 r3 hint h => Sys2Proof.Machine.execLdfeCNcM6 qp f1 r3 hint h s
  | .ldf8CNcM6 qp f1 r3 hint h => Sys2Proof.Machine.execLdf8CNcM6 qp f1 r3 hint h s
  | .ldfsCNcM6 qp f1 r3 hint h => Sys2Proof.Machine.execLdfsCNcM6 qp f1 r3 hint h s
  | .ldfdCNcM6 qp f1 r3 hint h => Sys2Proof.Machine.execLdfdCNcM6 qp f1 r3 hint h s
  | .ldfFillM6 qp f1 r3 hint h => Sys2Proof.Machine.execLdfFillM6 qp f1 r3 hint h s
  | .ldfeM7 qp f1 r2 r3 hint => Sys2Proof.Machine.execLdfeM7 qp f1 r2 r3 hint s
  | .ldf8M7 qp f1 r2 r3 hint => Sys2Proof.Machine.execLdf8M7 qp f1 r2 r3 hint s
  | .ldfsM7 qp f1 r2 r3 hint => Sys2Proof.Machine.execLdfsM7 qp f1 r2 r3 hint s
  | .ldfdM7 qp f1 r2 r3 hint => Sys2Proof.Machine.execLdfdM7 qp f1 r2 r3 hint s
  | .ldfeSM7 qp f1 r2 r3 hint => Sys2Proof.Machine.execLdfeSM7 qp f1 r2 r3 hint s
  | .ldf8SM7 qp f1 r2 r3 hint => Sys2Proof.Machine.execLdf8SM7 qp f1 r2 r3 hint s
  | .ldfsSM7 qp f1 r2 r3 hint => Sys2Proof.Machine.execLdfsSM7 qp f1 r2 r3 hint s
  | .ldfdSM7 qp f1 r2 r3 hint => Sys2Proof.Machine.execLdfdSM7 qp f1 r2 r3 hint s
  | .ldfeAM7 qp f1 r2 r3 hint => Sys2Proof.Machine.execLdfeAM7 qp f1 r2 r3 hint s
  | .ldf8AM7 qp f1 r2 r3 hint => Sys2Proof.Machine.execLdf8AM7 qp f1 r2 r3 hint s
  | .ldfsAM7 qp f1 r2 r3 hint => Sys2Proof.Machine.execLdfsAM7 qp f1 r2 r3 hint s
  | .ldfdAM7 qp f1 r2 r3 hint => Sys2Proof.Machine.execLdfdAM7 qp f1 r2 r3 hint s
  | .ldfeSaM7 qp f1 r2 r3 hint => Sys2Proof.Machine.execLdfeSaM7 qp f1 r2 r3 hint s
  | .ldf8SaM7 qp f1 r2 r3 hint => Sys2Proof.Machine.execLdf8SaM7 qp f1 r2 r3 hint s
  | .ldfsSaM7 qp f1 r2 r3 hint => Sys2Proof.Machine.execLdfsSaM7 qp f1 r2 r3 hint s
  | .ldfdSaM7 qp f1 r2 r3 hint => Sys2Proof.Machine.execLdfdSaM7 qp f1 r2 r3 hint s
  | .ldfeCClrM7 qp f1 r2 r3 hint => Sys2Proof.Machine.execLdfeCClrM7 qp f1 r2 r3 hint s
  | .ldf8CClrM7 qp f1 r2 r3 hint => Sys2Proof.Machine.execLdf8CClrM7 qp f1 r2 r3 hint s
  | .ldfsCClrM7 qp f1 r2 r3 hint => Sys2Proof.Machine.execLdfsCClrM7 qp f1 r2 r3 hint s
  | .ldfdCClrM7 qp f1 r2 r3 hint => Sys2Proof.Machine.execLdfdCClrM7 qp f1 r2 r3 hint s
  | .ldfeCNcM7 qp f1 r2 r3 hint => Sys2Proof.Machine.execLdfeCNcM7 qp f1 r2 r3 hint s
  | .ldf8CNcM7 qp f1 r2 r3 hint => Sys2Proof.Machine.execLdf8CNcM7 qp f1 r2 r3 hint s
  | .ldfsCNcM7 qp f1 r2 r3 hint => Sys2Proof.Machine.execLdfsCNcM7 qp f1 r2 r3 hint s
  | .ldfdCNcM7 qp f1 r2 r3 hint => Sys2Proof.Machine.execLdfdCNcM7 qp f1 r2 r3 hint s
  | .ldfFillM7 qp f1 r2 r3 hint => Sys2Proof.Machine.execLdfFillM7 qp f1 r2 r3 hint s
  | .ldfeM8 qp f1 r3 hint imm9 => Sys2Proof.Machine.execLdfeM8 qp f1 r3 hint imm9 s
  | .ldf8M8 qp f1 r3 hint imm9 => Sys2Proof.Machine.execLdf8M8 qp f1 r3 hint imm9 s
  | .ldfsM8 qp f1 r3 hint imm9 => Sys2Proof.Machine.execLdfsM8 qp f1 r3 hint imm9 s
  | .ldfdM8 qp f1 r3 hint imm9 => Sys2Proof.Machine.execLdfdM8 qp f1 r3 hint imm9 s
  | .ldfeSM8 qp f1 r3 hint imm9 => Sys2Proof.Machine.execLdfeSM8 qp f1 r3 hint imm9 s
  | .ldf8SM8 qp f1 r3 hint imm9 => Sys2Proof.Machine.execLdf8SM8 qp f1 r3 hint imm9 s
  | .ldfsSM8 qp f1 r3 hint imm9 => Sys2Proof.Machine.execLdfsSM8 qp f1 r3 hint imm9 s
  | .ldfdSM8 qp f1 r3 hint imm9 => Sys2Proof.Machine.execLdfdSM8 qp f1 r3 hint imm9 s
  | .ldfeAM8 qp f1 r3 hint imm9 => Sys2Proof.Machine.execLdfeAM8 qp f1 r3 hint imm9 s
  | .ldf8AM8 qp f1 r3 hint imm9 => Sys2Proof.Machine.execLdf8AM8 qp f1 r3 hint imm9 s
  | .ldfsAM8 qp f1 r3 hint imm9 => Sys2Proof.Machine.execLdfsAM8 qp f1 r3 hint imm9 s
  | .ldfdAM8 qp f1 r3 hint imm9 => Sys2Proof.Machine.execLdfdAM8 qp f1 r3 hint imm9 s
  | .ldfeSaM8 qp f1 r3 hint imm9 => Sys2Proof.Machine.execLdfeSaM8 qp f1 r3 hint imm9 s
  | .ldf8SaM8 qp f1 r3 hint imm9 => Sys2Proof.Machine.execLdf8SaM8 qp f1 r3 hint imm9 s
  | .ldfsSaM8 qp f1 r3 hint imm9 => Sys2Proof.Machine.execLdfsSaM8 qp f1 r3 hint imm9 s
  | .ldfdSaM8 qp f1 r3 hint imm9 => Sys2Proof.Machine.execLdfdSaM8 qp f1 r3 hint imm9 s
  | .ldfeCClrM8 qp f1 r3 hint imm9 => Sys2Proof.Machine.execLdfeCClrM8 qp f1 r3 hint imm9 s
  | .ldf8CClrM8 qp f1 r3 hint imm9 => Sys2Proof.Machine.execLdf8CClrM8 qp f1 r3 hint imm9 s
  | .ldfsCClrM8 qp f1 r3 hint imm9 => Sys2Proof.Machine.execLdfsCClrM8 qp f1 r3 hint imm9 s
  | .ldfdCClrM8 qp f1 r3 hint imm9 => Sys2Proof.Machine.execLdfdCClrM8 qp f1 r3 hint imm9 s
  | .ldfeCNcM8 qp f1 r3 hint imm9 => Sys2Proof.Machine.execLdfeCNcM8 qp f1 r3 hint imm9 s
  | .ldf8CNcM8 qp f1 r3 hint imm9 => Sys2Proof.Machine.execLdf8CNcM8 qp f1 r3 hint imm9 s
  | .ldfsCNcM8 qp f1 r3 hint imm9 => Sys2Proof.Machine.execLdfsCNcM8 qp f1 r3 hint imm9 s
  | .ldfdCNcM8 qp f1 r3 hint imm9 => Sys2Proof.Machine.execLdfdCNcM8 qp f1 r3 hint imm9 s
  | .ldfFillM8 qp f1 r3 hint imm9 => Sys2Proof.Machine.execLdfFillM8 qp f1 r3 hint imm9 s
  | .stfeM9 qp f2 r3 hint h => Sys2Proof.Machine.execStfeM9 qp f2 r3 hint h s
  | .stf8M9 qp f2 r3 hint h => Sys2Proof.Machine.execStf8M9 qp f2 r3 hint h s
  | .stfsM9 qp f2 r3 hint h => Sys2Proof.Machine.execStfsM9 qp f2 r3 hint h s
  | .stfdM9 qp f2 r3 hint h => Sys2Proof.Machine.execStfdM9 qp f2 r3 hint h s
  | .stfSpillM9 qp f2 r3 hint h => Sys2Proof.Machine.execStfSpillM9 qp f2 r3 hint h s
  | .stfeM10 qp f2 r3 hint imm9 => Sys2Proof.Machine.execStfeM10 qp f2 r3 hint imm9 s
  | .stf8M10 qp f2 r3 hint imm9 => Sys2Proof.Machine.execStf8M10 qp f2 r3 hint imm9 s
  | .stfsM10 qp f2 r3 hint imm9 => Sys2Proof.Machine.execStfsM10 qp f2 r3 hint imm9 s
  | .stfdM10 qp f2 r3 hint imm9 => Sys2Proof.Machine.execStfdM10 qp f2 r3 hint imm9 s
  | .stfSpillM10 qp f2 r3 hint imm9 => Sys2Proof.Machine.execStfSpillM10 qp f2 r3 hint imm9 s
  | .ldfp8M11 qp f1 f2 r3 hint => Sys2Proof.Machine.execLdfp8M11 qp f1 f2 r3 hint s
  | .ldfpsM11 qp f1 f2 r3 hint => Sys2Proof.Machine.execLdfpsM11 qp f1 f2 r3 hint s
  | .ldfpdM11 qp f1 f2 r3 hint => Sys2Proof.Machine.execLdfpdM11 qp f1 f2 r3 hint s
  | .ldfp8SM11 qp f1 f2 r3 hint => Sys2Proof.Machine.execLdfp8SM11 qp f1 f2 r3 hint s
  | .ldfpsSM11 qp f1 f2 r3 hint => Sys2Proof.Machine.execLdfpsSM11 qp f1 f2 r3 hint s
  | .ldfpdSM11 qp f1 f2 r3 hint => Sys2Proof.Machine.execLdfpdSM11 qp f1 f2 r3 hint s
  | .ldfp8AM11 qp f1 f2 r3 hint => Sys2Proof.Machine.execLdfp8AM11 qp f1 f2 r3 hint s
  | .ldfpsAM11 qp f1 f2 r3 hint => Sys2Proof.Machine.execLdfpsAM11 qp f1 f2 r3 hint s
  | .ldfpdAM11 qp f1 f2 r3 hint => Sys2Proof.Machine.execLdfpdAM11 qp f1 f2 r3 hint s
  | .ldfp8SaM11 qp f1 f2 r3 hint => Sys2Proof.Machine.execLdfp8SaM11 qp f1 f2 r3 hint s
  | .ldfpsSaM11 qp f1 f2 r3 hint => Sys2Proof.Machine.execLdfpsSaM11 qp f1 f2 r3 hint s
  | .ldfpdSaM11 qp f1 f2 r3 hint => Sys2Proof.Machine.execLdfpdSaM11 qp f1 f2 r3 hint s
  | .ldfp8CClrM11 qp f1 f2 r3 hint => Sys2Proof.Machine.execLdfp8CClrM11 qp f1 f2 r3 hint s
  | .ldfpsCClrM11 qp f1 f2 r3 hint => Sys2Proof.Machine.execLdfpsCClrM11 qp f1 f2 r3 hint s
  | .ldfpdCClrM11 qp f1 f2 r3 hint => Sys2Proof.Machine.execLdfpdCClrM11 qp f1 f2 r3 hint s
  | .ldfp8CNcM11 qp f1 f2 r3 hint => Sys2Proof.Machine.execLdfp8CNcM11 qp f1 f2 r3 hint s
  | .ldfpsCNcM11 qp f1 f2 r3 hint => Sys2Proof.Machine.execLdfpsCNcM11 qp f1 f2 r3 hint s
  | .ldfpdCNcM11 qp f1 f2 r3 hint => Sys2Proof.Machine.execLdfpdCNcM11 qp f1 f2 r3 hint s
  | .ldfp8M12 qp f1 f2 r3 hint => Sys2Proof.Machine.execLdfp8M12 qp f1 f2 r3 hint s
  | .ldfpsM12 qp f1 f2 r3 hint => Sys2Proof.Machine.execLdfpsM12 qp f1 f2 r3 hint s
  | .ldfpdM12 qp f1 f2 r3 hint => Sys2Proof.Machine.execLdfpdM12 qp f1 f2 r3 hint s
  | .ldfp8SM12 qp f1 f2 r3 hint => Sys2Proof.Machine.execLdfp8SM12 qp f1 f2 r3 hint s
  | .ldfpsSM12 qp f1 f2 r3 hint => Sys2Proof.Machine.execLdfpsSM12 qp f1 f2 r3 hint s
  | .ldfpdSM12 qp f1 f2 r3 hint => Sys2Proof.Machine.execLdfpdSM12 qp f1 f2 r3 hint s
  | .ldfp8AM12 qp f1 f2 r3 hint => Sys2Proof.Machine.execLdfp8AM12 qp f1 f2 r3 hint s
  | .ldfpsAM12 qp f1 f2 r3 hint => Sys2Proof.Machine.execLdfpsAM12 qp f1 f2 r3 hint s
  | .ldfpdAM12 qp f1 f2 r3 hint => Sys2Proof.Machine.execLdfpdAM12 qp f1 f2 r3 hint s
  | .ldfp8SaM12 qp f1 f2 r3 hint => Sys2Proof.Machine.execLdfp8SaM12 qp f1 f2 r3 hint s
  | .ldfpsSaM12 qp f1 f2 r3 hint => Sys2Proof.Machine.execLdfpsSaM12 qp f1 f2 r3 hint s
  | .ldfpdSaM12 qp f1 f2 r3 hint => Sys2Proof.Machine.execLdfpdSaM12 qp f1 f2 r3 hint s
  | .ldfp8CClrM12 qp f1 f2 r3 hint => Sys2Proof.Machine.execLdfp8CClrM12 qp f1 f2 r3 hint s
  | .ldfpsCClrM12 qp f1 f2 r3 hint => Sys2Proof.Machine.execLdfpsCClrM12 qp f1 f2 r3 hint s
  | .ldfpdCClrM12 qp f1 f2 r3 hint => Sys2Proof.Machine.execLdfpdCClrM12 qp f1 f2 r3 hint s
  | .ldfp8CNcM12 qp f1 f2 r3 hint => Sys2Proof.Machine.execLdfp8CNcM12 qp f1 f2 r3 hint s
  | .ldfpsCNcM12 qp f1 f2 r3 hint => Sys2Proof.Machine.execLdfpsCNcM12 qp f1 f2 r3 hint s
  | .ldfpdCNcM12 qp f1 f2 r3 hint => Sys2Proof.Machine.execLdfpdCNcM12 qp f1 f2 r3 hint s
  | .lfetchExclM13 qp r3 hint h => Sys2Proof.Machine.execLfetchExclM13 qp r3 hint h s
  | .lfetchFaultM13 qp r3 hint h => Sys2Proof.Machine.execLfetchFaultM13 qp r3 hint h s
  | .lfetchFaultExclM13 qp r3 hint h => Sys2Proof.Machine.execLfetchFaultExclM13 qp r3 hint h s
  | .lfetchM51 qp r3 hint h => Sys2Proof.Machine.execLfetchM51 qp r3 hint h s
  | .lfetchCountM52 qp r3 hint stride5b h cnt6a => Sys2Proof.Machine.execLfetchCountM52 qp r3 hint stride5b h cnt6a s
  | .lfetchM14 qp r2 r3 hint h => Sys2Proof.Machine.execLfetchM14 qp r2 r3 hint h s
  | .lfetchExclM14 qp r2 r3 hint h => Sys2Proof.Machine.execLfetchExclM14 qp r2 r3 hint h s
  | .lfetchFaultM14 qp r2 r3 hint h => Sys2Proof.Machine.execLfetchFaultM14 qp r2 r3 hint h s
  | .lfetchFaultExclM14 qp r2 r3 hint h => Sys2Proof.Machine.execLfetchFaultExclM14 qp r2 r3 hint h s
  | .lfetchM15 qp r3 hint h imm9 => Sys2Proof.Machine.execLfetchM15 qp r3 hint h imm9 s
  | .lfetchExclM15 qp r3 hint h imm9 => Sys2Proof.Machine.execLfetchExclM15 qp r3 hint h imm9 s
  | .lfetchFaultM15 qp r3 hint h imm9 => Sys2Proof.Machine.execLfetchFaultM15 qp r3 hint h imm9 s
  | .lfetchFaultExclM15 qp r3 hint h imm9 => Sys2Proof.Machine.execLfetchFaultExclM15 qp r3 hint h imm9 s
  | .cmpxchg1AcqM16 qp r1 r2 r3 hint => Sys2Proof.Machine.execCmpxchg1AcqM16 qp r1 r2 r3 hint s
  | .cmpxchg1RelM16 qp r1 r2 r3 hint => Sys2Proof.Machine.execCmpxchg1RelM16 qp r1 r2 r3 hint s
  | .xchg1M16 qp r1 r2 r3 hint => Sys2Proof.Machine.execXchg1M16 qp r1 r2 r3 hint s
  | .cmpxchg2AcqM16 qp r1 r2 r3 hint => Sys2Proof.Machine.execCmpxchg2AcqM16 qp r1 r2 r3 hint s
  | .cmpxchg2RelM16 qp r1 r2 r3 hint => Sys2Proof.Machine.execCmpxchg2RelM16 qp r1 r2 r3 hint s
  | .xchg2M16 qp r1 r2 r3 hint => Sys2Proof.Machine.execXchg2M16 qp r1 r2 r3 hint s
  | .cmpxchg4AcqM16 qp r1 r2 r3 hint => Sys2Proof.Machine.execCmpxchg4AcqM16 qp r1 r2 r3 hint s
  | .cmpxchg4RelM16 qp r1 r2 r3 hint => Sys2Proof.Machine.execCmpxchg4RelM16 qp r1 r2 r3 hint s
  | .xchg4M16 qp r1 r2 r3 hint => Sys2Proof.Machine.execXchg4M16 qp r1 r2 r3 hint s
  | .cmpxchg8AcqM16 qp r1 r2 r3 hint => Sys2Proof.Machine.execCmpxchg8AcqM16 qp r1 r2 r3 hint s
  | .cmpxchg8RelM16 qp r1 r2 r3 hint => Sys2Proof.Machine.execCmpxchg8RelM16 qp r1 r2 r3 hint s
  | .xchg8M16 qp r1 r2 r3 hint => Sys2Proof.Machine.execXchg8M16 qp r1 r2 r3 hint s
  | .cmp8xchg16AcqM16 qp r1 r2 r3 hint => Sys2Proof.Machine.execCmp8xchg16AcqM16 qp r1 r2 r3 hint s
  | .cmp8xchg16RelM16 qp r1 r2 r3 hint => Sys2Proof.Machine.execCmp8xchg16RelM16 qp r1 r2 r3 hint s
  | .fetchadd4AcqM17 qp r1 r3 hint inc3 => Sys2Proof.Machine.execFetchadd4AcqM17 qp r1 r3 hint inc3 s
  | .fetchadd8AcqM17 qp r1 r3 hint inc3 => Sys2Proof.Machine.execFetchadd8AcqM17 qp r1 r3 hint inc3 s
  | .fetchadd4RelM17 qp r1 r3 hint inc3 => Sys2Proof.Machine.execFetchadd4RelM17 qp r1 r3 hint inc3 s
  | .fetchadd8RelM17 qp r1 r3 hint inc3 => Sys2Proof.Machine.execFetchadd8RelM17 qp r1 r3 hint inc3 s
  | .setfSigM18 qp f1 r2 => Sys2Proof.Machine.execSetfSigM18 qp f1 r2 s
  | .getfSigM19 qp r1 f2 => Sys2Proof.Machine.execGetfSigM19 qp r1 f2 s
  | .setfExpM18 qp f1 r2 => Sys2Proof.Machine.execSetfExpM18 qp f1 r2 s
  | .getfExpM19 qp r1 f2 => Sys2Proof.Machine.execGetfExpM19 qp r1 f2 s
  | .setfSM18 qp f1 r2 => Sys2Proof.Machine.execSetfSM18 qp f1 r2 s
  | .getfSM19 qp r1 f2 => Sys2Proof.Machine.execGetfSM19 qp r1 f2 s
  | .setfDM18 qp f1 r2 => Sys2Proof.Machine.execSetfDM18 qp f1 r2 s
  | .getfDM19 qp r1 f2 => Sys2Proof.Machine.execGetfDM19 qp r1 f2 s
  | .chkSMM20 qp r2 disp21 => Sys2Proof.Machine.execChkSMM20 qp r2 disp21 s
  | .chkSM21 qp f2 disp21 => Sys2Proof.Machine.execChkSM21 qp f2 disp21 s
  | .chkANcM22 qp r1 disp21 => Sys2Proof.Machine.execChkANcM22 qp r1 disp21 s
  | .chkAClrM22 qp r1 disp21 => Sys2Proof.Machine.execChkAClrM22 qp r1 disp21 s
  | .chkANcM23 qp f1 disp21 => Sys2Proof.Machine.execChkANcM23 qp f1 disp21 s
  | .chkAClrM23 qp f1 disp21 => Sys2Proof.Machine.execChkAClrM23 qp f1 disp21 s
  | .invalaM24 qp => Sys2Proof.Machine.execInvalaM24 qp s
  | .fwbM24 qp => Sys2Proof.Machine.execFwbM24 qp s
  | .mfM24 qp => Sys2Proof.Machine.execMfM24 qp s
  | .mfAM24 qp => Sys2Proof.Machine.execMfAM24 qp s
  | .srlzDM24 qp => Sys2Proof.Machine.execSrlzDM24 qp s
  | .srlzIM24 qp => Sys2Proof.Machine.execSrlzIM24 qp s
  | .syncIM24 qp => Sys2Proof.Machine.execSyncIM24 qp s
  | .flushrsM25 => Sys2Proof.Machine.execFlushrsM25 s
  | .loadrsM25 => Sys2Proof.Machine.execLoadrsM25 s
  | .invalaEM26 qp r1 => Sys2Proof.Machine.execInvalaEM26 qp r1 s
  | .invalaEM27 qp f1 => Sys2Proof.Machine.execInvalaEM27 qp f1 s
  | .fcM28 qp r3 => Sys2Proof.Machine.execFcM28 qp r3 s
  | .fcIM28 qp r3 => Sys2Proof.Machine.execFcIM28 qp r3 s
  | .movMToArM29 qp r2 ar3 => Sys2Proof.Machine.execMovMToArM29 qp r2 ar3 s
  | .movMToArImmM30 qp ar3 imm8 => Sys2Proof.Machine.execMovMToArImmM30 qp ar3 imm8 s
  | .movMFromArM31 qp r1 ar3 => Sys2Proof.Machine.execMovMFromArM31 qp r1 ar3 s
  | .movToCrM32 qp r2 cr3 => Sys2Proof.Machine.execMovToCrM32 qp r2 cr3 s
  | .movFromCrM33 qp r1 cr3 => Sys2Proof.Machine.execMovFromCrM33 qp r1 cr3 s
  | .allocM34 qp r1 sor sol sof => Sys2Proof.Machine.execAllocM34 qp r1 sor sol sof s
  | .movToPsrLM35 qp r2 => Sys2Proof.Machine.execMovToPsrLM35 qp r2 s
  | .movToPsrUmM35 qp r2 => Sys2Proof.Machine.execMovToPsrUmM35 qp r2 s
  | .movFromPsrM36 qp r1 => Sys2Proof.Machine.execMovFromPsrM36 qp r1 s
  | .movFromPsrUmM36 qp r1 => Sys2Proof.Machine.execMovFromPsrUmM36 qp r1 s
  | .breakMM37 qp imm21 => Sys2Proof.Machine.execBreakMM37 qp imm21 s
  | .probeRM38 qp r1 r2 r3 => Sys2Proof.Machine.execProbeRM38 qp r1 r2 r3 s
  | .probeWM38 qp r1 r2 r3 => Sys2Proof.Machine.execProbeWM38 qp r1 r2 r3 s
  | .probeRM39 qp r1 r3 i2b => Sys2Proof.Machine.execProbeRM39 qp r1 r3 i2b s
  | .probeWM39 qp r1 r3 i2b => Sys2Proof.Machine.execProbeWM39 qp r1 r3 i2b s
  | .probeRwFaultM40 qp r3 i2b => Sys2Proof.Machine.execProbeRwFaultM40 qp r3 i2b s
  | .probeRFaultM40 qp r3 i2b => Sys2Proof.Machine.execProbeRFaultM40 qp r3 i2b s
  | .probeWFaultM40 qp r3 i2b => Sys2Proof.Machine.execProbeWFaultM40 qp r3 i2b s
  | .itcDM41 qp r2 => Sys2Proof.Machine.execItcDM41 qp r2 s
  | .itcIM41 qp r2 => Sys2Proof.Machine.execItcIM41 qp r2 s
  | .movToRrM42 qp r2 r3 => Sys2Proof.Machine.execMovToRrM42 qp r2 r3 s
  | .movToDbrM42 qp r2 r3 => Sys2Proof.Machine.execMovToDbrM42 qp r2 r3 s
  | .movToIbrM42 qp r2 r3 => Sys2Proof.Machine.execMovToIbrM42 qp r2 r3 s
  | .movToPkrM42 qp r2 r3 => Sys2Proof.Machine.execMovToPkrM42 qp r2 r3 s
  | .movToPmcM42 qp r2 r3 => Sys2Proof.Machine.execMovToPmcM42 qp r2 r3 s
  | .movToPmdM42 qp r2 r3 => Sys2Proof.Machine.execMovToPmdM42 qp r2 r3 s
  | .itrDM42 qp r2 r3 => Sys2Proof.Machine.execItrDM42 qp r2 r3 s
  | .itrIM42 qp r2 r3 => Sys2Proof.Machine.execItrIM42 qp r2 r3 s
  | .movFromRrM43 qp r1 r3 => Sys2Proof.Machine.execMovFromRrM43 qp r1 r3 s
  | .movFromDbrM43 qp r1 r3 => Sys2Proof.Machine.execMovFromDbrM43 qp r1 r3 s
  | .movFromIbrM43 qp r1 r3 => Sys2Proof.Machine.execMovFromIbrM43 qp r1 r3 s
  | .movFromPkrM43 qp r1 r3 => Sys2Proof.Machine.execMovFromPkrM43 qp r1 r3 s
  | .movFromPmcM43 qp r1 r3 => Sys2Proof.Machine.execMovFromPmcM43 qp r1 r3 s
  | .movFromPmdM43 qp r1 r3 => Sys2Proof.Machine.execMovFromPmdM43 qp r1 r3 s
  | .movFromCpuidM43 qp r1 r3 => Sys2Proof.Machine.execMovFromCpuidM43 qp r1 r3 s
  | .movFromDahrM43 qp r1 r3 => Sys2Proof.Machine.execMovFromDahrM43 qp r1 r3 s
  | .sumM44 qp imm24 => Sys2Proof.Machine.execSumM44 qp imm24 s
  | .rumM44 qp imm24 => Sys2Proof.Machine.execRumM44 qp imm24 s
  | .ssmM44 qp imm24 => Sys2Proof.Machine.execSsmM44 qp imm24 s
  | .rsmM44 qp imm24 => Sys2Proof.Machine.execRsmM44 qp imm24 s
  | .ptcLM45 qp r2 r3 => Sys2Proof.Machine.execPtcLM45 qp r2 r3 s
  | .ptcGM45 qp r2 r3 => Sys2Proof.Machine.execPtcGM45 qp r2 r3 s
  | .ptcGaM45 qp r2 r3 => Sys2Proof.Machine.execPtcGaM45 qp r2 r3 s
  | .ptrDM45 qp r2 r3 => Sys2Proof.Machine.execPtrDM45 qp r2 r3 s
  | .ptrIM45 qp r2 r3 => Sys2Proof.Machine.execPtrIM45 qp r2 r3 s
  | .thashM46 qp r1 r3 => Sys2Proof.Machine.execThashM46 qp r1 r3 s
  | .ttagM46 qp r1 r3 => Sys2Proof.Machine.execTtagM46 qp r1 r3 s
  | .tpaM46 qp r1 r3 => Sys2Proof.Machine.execTpaM46 qp r1 r3 s
  | .takM46 qp r1 r3 => Sys2Proof.Machine.execTakM46 qp r1 r3 s
  | .ptcEM47 qp r3 => Sys2Proof.Machine.execPtcEM47 qp r3 s
  | .nopMM48 qp imm21 => Sys2Proof.Machine.execNopMM48 qp imm21 s
  | .hintMM49 qp imm19 => Sys2Proof.Machine.execHintMM49 qp imm19 s
  | .movToDahrImmM50 qp dahr3 imm16 => Sys2Proof.Machine.execMovToDahrImmM50 qp dahr3 imm16 s
  | .brCondB1 qp d wh p disp21 => Sys2Proof.Machine.execBrCondB1 qp d wh p disp21 s
  | .brWexitB1 qp d wh p disp21 => Sys2Proof.Machine.execBrWexitB1 qp d wh p disp21 s
  | .brWtopB1 qp d wh p disp21 => Sys2Proof.Machine.execBrWtopB1 qp d wh p disp21 s
  | .brCloopB2 d wh p disp21 => Sys2Proof.Machine.execBrCloopB2 d wh p disp21 s
  | .brCexitB2 d wh p disp21 => Sys2Proof.Machine.execBrCexitB2 d wh p disp21 s
  | .brCtopB2 d wh p disp21 => Sys2Proof.Machine.execBrCtopB2 d wh p disp21 s
  | .brCallB3 qp b1 d wh p disp21 => Sys2Proof.Machine.execBrCallB3 qp b1 d wh p disp21 s
  | .brCondB4 qp b2 d wh p => Sys2Proof.Machine.execBrCondB4 qp b2 d wh p s
  | .brIaB4 qp b2 d wh p => Sys2Proof.Machine.execBrIaB4 qp b2 d wh p s
  | .brRetB4 qp b2 d wh p => Sys2Proof.Machine.execBrRetB4 qp b2 d wh p s
  | .brCallB5 qp b1 b2 d wh p => Sys2Proof.Machine.execBrCallB5 qp b1 b2 d wh p s
  | .brpB6 ih p wh pbtv disp21 tag9 => Sys2Proof.Machine.execBrpB6 ih p wh pbtv disp21 tag9 s
  | .brpB7 b2 ih p wh pbtv tag9 => Sys2Proof.Machine.execBrpB7 b2 ih p wh pbtv tag9 s
  | .brpRetB7 b2 ih p wh pbtv tag9 => Sys2Proof.Machine.execBrpRetB7 b2 ih p wh pbtv tag9 s
  | .coverB8 => Sys2Proof.Machine.execCoverB8 s
  | .clrrrbB8 => Sys2Proof.Machine.execClrrrbB8 s
  | .clrrrbPrB8 => Sys2Proof.Machine.execClrrrbPrB8 s
  | .rfiB8 => Sys2Proof.Machine.execRfiB8 s
  | .bsw0B8 => Sys2Proof.Machine.execBsw0B8 s
  | .bsw1B8 => Sys2Proof.Machine.execBsw1B8 s
  | .epcB8 => Sys2Proof.Machine.execEpcB8 s
  | .vmsw0B8 => Sys2Proof.Machine.execVmsw0B8 s
  | .vmsw1B8 => Sys2Proof.Machine.execVmsw1B8 s
  | .breakBB9 qp imm21 => Sys2Proof.Machine.execBreakBB9 qp imm21 s
  | .nopBB9 qp imm21 => Sys2Proof.Machine.execNopBB9 qp imm21 s
  | .hintBB9 qp imm21 => Sys2Proof.Machine.execHintBB9 qp imm21 s
  | .fmaF1 qp f1 f2 f3 f4 sf => Sys2Proof.Machine.execFmaF1 qp f1 f2 f3 f4 sf s
  | .fmaSF1 qp f1 f2 f3 f4 sf => Sys2Proof.Machine.execFmaSF1 qp f1 f2 f3 f4 sf s
  | .fmaDF1 qp f1 f2 f3 f4 sf => Sys2Proof.Machine.execFmaDF1 qp f1 f2 f3 f4 sf s
  | .fpmaF1 qp f1 f2 f3 f4 sf => Sys2Proof.Machine.execFpmaF1 qp f1 f2 f3 f4 sf s
  | .fmsF1 qp f1 f2 f3 f4 sf => Sys2Proof.Machine.execFmsF1 qp f1 f2 f3 f4 sf s
  | .fmsSF1 qp f1 f2 f3 f4 sf => Sys2Proof.Machine.execFmsSF1 qp f1 f2 f3 f4 sf s
  | .fmsDF1 qp f1 f2 f3 f4 sf => Sys2Proof.Machine.execFmsDF1 qp f1 f2 f3 f4 sf s
  | .fpmsF1 qp f1 f2 f3 f4 sf => Sys2Proof.Machine.execFpmsF1 qp f1 f2 f3 f4 sf s
  | .fnmaF1 qp f1 f2 f3 f4 sf => Sys2Proof.Machine.execFnmaF1 qp f1 f2 f3 f4 sf s
  | .fnmaSF1 qp f1 f2 f3 f4 sf => Sys2Proof.Machine.execFnmaSF1 qp f1 f2 f3 f4 sf s
  | .fnmaDF1 qp f1 f2 f3 f4 sf => Sys2Proof.Machine.execFnmaDF1 qp f1 f2 f3 f4 sf s
  | .fpnmaF1 qp f1 f2 f3 f4 sf => Sys2Proof.Machine.execFpnmaF1 qp f1 f2 f3 f4 sf s
  | .xmaLF2 qp f1 f2 f3 f4 => Sys2Proof.Machine.execXmaLF2 qp f1 f2 f3 f4 s
  | .xmaHuF2 qp f1 f2 f3 f4 => Sys2Proof.Machine.execXmaHuF2 qp f1 f2 f3 f4 s
  | .xmaHF2 qp f1 f2 f3 f4 => Sys2Proof.Machine.execXmaHF2 qp f1 f2 f3 f4 s
  | .fselectF3 qp f1 f2 f3 f4 => Sys2Proof.Machine.execFselectF3 qp f1 f2 f3 f4 s
  | .fcmpEqF4 qp p1 p2 f2 f3 sf => Sys2Proof.Machine.execFcmpEqF4 qp p1 p2 f2 f3 sf s
  | .fcmpEqUncF4 qp p1 p2 f2 f3 sf => Sys2Proof.Machine.execFcmpEqUncF4 qp p1 p2 f2 f3 sf s
  | .fcmpLtF4 qp p1 p2 f2 f3 sf => Sys2Proof.Machine.execFcmpLtF4 qp p1 p2 f2 f3 sf s
  | .fcmpLtUncF4 qp p1 p2 f2 f3 sf => Sys2Proof.Machine.execFcmpLtUncF4 qp p1 p2 f2 f3 sf s
  | .fcmpLeF4 qp p1 p2 f2 f3 sf => Sys2Proof.Machine.execFcmpLeF4 qp p1 p2 f2 f3 sf s
  | .fcmpLeUncF4 qp p1 p2 f2 f3 sf => Sys2Proof.Machine.execFcmpLeUncF4 qp p1 p2 f2 f3 sf s
  | .fcmpUnordF4 qp p1 p2 f2 f3 sf => Sys2Proof.Machine.execFcmpUnordF4 qp p1 p2 f2 f3 sf s
  | .fcmpUnordUncF4 qp p1 p2 f2 f3 sf => Sys2Proof.Machine.execFcmpUnordUncF4 qp p1 p2 f2 f3 sf s
  | .fclassMF5 qp p1 p2 f2 fclass9 => Sys2Proof.Machine.execFclassMF5 qp p1 p2 f2 fclass9 s
  | .fclassMUncF5 qp p1 p2 f2 fclass9 => Sys2Proof.Machine.execFclassMUncF5 qp p1 p2 f2 fclass9 s
  | .frcpaF6 qp p2 f1 f2 f3 sf => Sys2Proof.Machine.execFrcpaF6 qp p2 f1 f2 f3 sf s
  | .fprcpaF6 qp p2 f1 f2 f3 sf => Sys2Proof.Machine.execFprcpaF6 qp p2 f1 f2 f3 sf s
  | .frsqrtaF7 qp p2 f1 f3 sf => Sys2Proof.Machine.execFrsqrtaF7 qp p2 f1 f3 sf s
  | .fprsqrtaF7 qp p2 f1 f3 sf => Sys2Proof.Machine.execFprsqrtaF7 qp p2 f1 f3 sf s
  | .fminF8 qp f1 f2 f3 sf => Sys2Proof.Machine.execFminF8 qp f1 f2 f3 sf s
  | .fmaxF8 qp f1 f2 f3 sf => Sys2Proof.Machine.execFmaxF8 qp f1 f2 f3 sf s
  | .faminF8 qp f1 f2 f3 sf => Sys2Proof.Machine.execFaminF8 qp f1 f2 f3 sf s
  | .famaxF8 qp f1 f2 f3 sf => Sys2Proof.Machine.execFamaxF8 qp f1 f2 f3 sf s
  | .fpminF8 qp f1 f2 f3 sf => Sys2Proof.Machine.execFpminF8 qp f1 f2 f3 sf s
  | .fpmaxF8 qp f1 f2 f3 sf => Sys2Proof.Machine.execFpmaxF8 qp f1 f2 f3 sf s
  | .fpaminF8 qp f1 f2 f3 sf => Sys2Proof.Machine.execFpaminF8 qp f1 f2 f3 sf s
  | .fpamaxF8 qp f1 f2 f3 sf => Sys2Proof.Machine.execFpamaxF8 qp f1 f2 f3 sf s
  | .fpcmpEqF8 qp f1 f2 f3 sf => Sys2Proof.Machine.execFpcmpEqF8 qp f1 f2 f3 sf s
  | .fpcmpLtF8 qp f1 f2 f3 sf => Sys2Proof.Machine.execFpcmpLtF8 qp f1 f2 f3 sf s
  | .fpcmpLeF8 qp f1 f2 f3 sf => Sys2Proof.Machine.execFpcmpLeF8 qp f1 f2 f3 sf s
  | .fpcmpUnordF8 qp f1 f2 f3 sf => Sys2Proof.Machine.execFpcmpUnordF8 qp f1 f2 f3 sf s
  | .fpcmpNeqF8 qp f1 f2 f3 sf => Sys2Proof.Machine.execFpcmpNeqF8 qp f1 f2 f3 sf s
  | .fpcmpNltF8 qp f1 f2 f3 sf => Sys2Proof.Machine.execFpcmpNltF8 qp f1 f2 f3 sf s
  | .fpcmpNleF8 qp f1 f2 f3 sf => Sys2Proof.Machine.execFpcmpNleF8 qp f1 f2 f3 sf s
  | .fpcmpOrdF8 qp f1 f2 f3 sf => Sys2Proof.Machine.execFpcmpOrdF8 qp f1 f2 f3 sf s
  | .fmergeSF9 qp f1 f2 f3 => Sys2Proof.Machine.execFmergeSF9 qp f1 f2 f3 s
  | .fmergeNsF9 qp f1 f2 f3 => Sys2Proof.Machine.execFmergeNsF9 qp f1 f2 f3 s
  | .fmergeSeF9 qp f1 f2 f3 => Sys2Proof.Machine.execFmergeSeF9 qp f1 f2 f3 s
  | .fmixLrF9 qp f1 f2 f3 => Sys2Proof.Machine.execFmixLrF9 qp f1 f2 f3 s
  | .fmixRF9 qp f1 f2 f3 => Sys2Proof.Machine.execFmixRF9 qp f1 f2 f3 s
  | .fmixLF9 qp f1 f2 f3 => Sys2Proof.Machine.execFmixLF9 qp f1 f2 f3 s
  | .fsxtRF9 qp f1 f2 f3 => Sys2Proof.Machine.execFsxtRF9 qp f1 f2 f3 s
  | .fsxtLF9 qp f1 f2 f3 => Sys2Proof.Machine.execFsxtLF9 qp f1 f2 f3 s
  | .fpackF9 qp f1 f2 f3 => Sys2Proof.Machine.execFpackF9 qp f1 f2 f3 s
  | .fswapF9 qp f1 f2 f3 => Sys2Proof.Machine.execFswapF9 qp f1 f2 f3 s
  | .fswapNlF9 qp f1 f2 f3 => Sys2Proof.Machine.execFswapNlF9 qp f1 f2 f3 s
  | .fswapNrF9 qp f1 f2 f3 => Sys2Proof.Machine.execFswapNrF9 qp f1 f2 f3 s
  | .fandF9 qp f1 f2 f3 => Sys2Proof.Machine.execFandF9 qp f1 f2 f3 s
  | .fandcmF9 qp f1 f2 f3 => Sys2Proof.Machine.execFandcmF9 qp f1 f2 f3 s
  | .forF9 qp f1 f2 f3 => Sys2Proof.Machine.execForF9 qp f1 f2 f3 s
  | .fxorF9 qp f1 f2 f3 => Sys2Proof.Machine.execFxorF9 qp f1 f2 f3 s
  | .fpmergeSF9 qp f1 f2 f3 => Sys2Proof.Machine.execFpmergeSF9 qp f1 f2 f3 s
  | .fpmergeNsF9 qp f1 f2 f3 => Sys2Proof.Machine.execFpmergeNsF9 qp f1 f2 f3 s
  | .fpmergeSeF9 qp f1 f2 f3 => Sys2Proof.Machine.execFpmergeSeF9 qp f1 f2 f3 s
  | .fcvtFxF10 qp f1 f2 sf => Sys2Proof.Machine.execFcvtFxF10 qp f1 f2 sf s
  | .fcvtFxuF10 qp f1 f2 sf => Sys2Proof.Machine.execFcvtFxuF10 qp f1 f2 sf s
  | .fcvtFxTruncF10 qp f1 f2 sf => Sys2Proof.Machine.execFcvtFxTruncF10 qp f1 f2 sf s
  | .fcvtFxuTruncF10 qp f1 f2 sf => Sys2Proof.Machine.execFcvtFxuTruncF10 qp f1 f2 sf s
  | .fpcvtFxF10 qp f1 f2 sf => Sys2Proof.Machine.execFpcvtFxF10 qp f1 f2 sf s
  | .fpcvtFxuF10 qp f1 f2 sf => Sys2Proof.Machine.execFpcvtFxuF10 qp f1 f2 sf s
  | .fpcvtFxTruncF10 qp f1 f2 sf => Sys2Proof.Machine.execFpcvtFxTruncF10 qp f1 f2 sf s
  | .fpcvtFxuTruncF10 qp f1 f2 sf => Sys2Proof.Machine.execFpcvtFxuTruncF10 qp f1 f2 sf s
  | .fcvtXfF11 qp f1 f2 => Sys2Proof.Machine.execFcvtXfF11 qp f1 f2 s
  | .fsetcF12 qp sf omask7c amask7b => Sys2Proof.Machine.execFsetcF12 qp sf omask7c amask7b s
  | .fclrfF13 qp sf => Sys2Proof.Machine.execFclrfF13 qp sf s
  | .fchkfF14 qp sf disp21 => Sys2Proof.Machine.execFchkfF14 qp sf disp21 s
  | .breakFF15 qp imm21 => Sys2Proof.Machine.execBreakFF15 qp imm21 s
  | .nopFF16 qp imm21 => Sys2Proof.Machine.execNopFF16 qp imm21 s
  | .hintFF16 qp imm21 => Sys2Proof.Machine.execHintFF16 qp imm21 s
  | .breakXX1 qp imm62 => Sys2Proof.Machine.execBreakXX1 qp imm62 s
  | .movlX2 qp r1 imm64 => Sys2Proof.Machine.execMovlX2 qp r1 imm64 s
  | .brlCondX3 qp d wh p disp60 => Sys2Proof.Machine.execBrlCondX3 qp d wh p disp60 s
  | .brlCallX4 qp b1 d wh p disp60 => Sys2Proof.Machine.execBrlCallX4 qp b1 d wh p disp60 s
  | .nopXX5 qp imm62 => Sys2Proof.Machine.execNopXX5 qp imm62 s
  | .hintXX5 qp imm62 => Sys2Proof.Machine.execHintXX5 qp imm62 s

end Sys2Proof.Machine
end

