-- ==== Sys2Proof/Machine/Fetch.lean ====
section
/-! DEFINITION. What happens before an instruction executes: time, pending interruptions, the completion of the current
frame, and the fetch of the bundle with its faults (R1245, R1121, R1144). -/

namespace Sys2Proof.Machine

/-! ### Time passes (R1245) -/

/-- The entries of a list that are not dropped this step (R125, R203: any entry may go at any time). -/
def keepSome {α : Type} (keep : Nat → Bool) (l : List α) : List α :=
  (l.zipIdx.filter fun p => keep p.2).map Prod.fst

/-- A program meets an error that was placed (R1100): which access meets it is not stated, so that each of them may be met in
any step (a free choice; DESIGN CHOICE, log entry 59). -/
def State.meetPlaced (s : State) : State :=
  let met (i : Nat) : Bool := Config.freeBit (.errorMet i) s.fresh
  (keepSome met s.pal.latent).foldl State.meetError
    { s with pal := { s.pal with latent := keepSome (fun i => !met i) s.pal.latent } }

/-- A translation that forward progress needs, of one stream, and that has been lost as often as it may (R204). -/
def State.guarded (s : State) (inst : Bool) (e : TlbEntry) : Bool :=
  decide (Config.tcLossBound ≤ s.progress.losses) && s.progress.required.contains (inst, e)

/-- The translation caches after a step's losses (R203): any entry may go but for what R204 bounds. -/
def State.keptTc (s : State) (inst : Bool) : List TlbEntry :=
  let tc := if inst then s.itc else s.dtc
  let stays (p : TlbEntry × Nat) : Bool :=
    Config.freeBit (.keepTc (if inst then 2 * p.2 else 2 * p.2 + 1)) s.fresh || s.guarded inst p.1
  (tc.zipIdx.filter stays).map Prod.fst

/-- Some translation that forward progress needs is lost in this step. -/
def State.losesRequired (s : State) : Bool :=
  s.progress.required.any fun p => (if p.1 then s.itc else s.dtc).contains p.2 && !(s.keptTc p.1).contains p.2

/-- The ALAT and the translation caches may lose entries (R125, R203, R204). -/
def State.age (s : State) : State :=
  { s with
    alat := keepSome (fun i => Config.freeBit (.keepAlat i) s.fresh) s.alat
    itc := s.keptTc true
    dtc := s.keptTc false
    progress := { s.progress with losses := s.progress.losses + if s.losesRequired then 1 else 0 } }

/-- The words of the VPD that are undefined while its virtual processor runs (R1080): vpr; under the acceleration a_bsw the
registers of the bank that runs, vgr16 to vgr31 with vpsr.bn = 1, else vbgr16 to vbgr31. The bit a_bsw is an opaque constant
(log entry 43). -/
def State.undefinedVpd (s : State) (run : VirtualRun) : List Nat :=
  let bank : List Nat :=
    match (if bit run.vac Config.aBswBit.val then s.vpdWord run 1424 else none) with
    | none => []
    | some vpsr => (List.range 16).map fun k => (if bit vpsr Psr.bn then 1024 else 1152) + 8 * k
  1432 :: bank

/-- While a virtual processor runs those words hold any value (R1080, U36). -/
def State.spoilVpd (s : State) : State :=
  if s.psrBit Psr.vm then
    match s.pal.vpRun with
    | none => s
    | some run =>
      (s.undefinedVpd run).foldl (fun t offset => t.storeVpd run offset (Config.freeWord (.vpd offset) s.fresh)) s
  else s

/-- The start of a step: the free values' counter, ITC, RUC, the cycle event, lost cache entries, the undefined words of a
running virtual processor's VPD, placed errors met. -/
def State.tick (s : State) : State :=
  { (s.advanceTime.countEvent Config.eventCycles).age.spoilVpd.meetPlaced with fresh := s.fresh + 1 }

/-! ### The fetch (R1144) -/

/-- A fault of the fetch at IP. -/
def State.fetchFault (s : State) (v : Ivt) (code : BitVec 16 := 0) (itir iha : Option Word := none)
    (ed : Bool := false) : Interruption :=
  { kind := .fetchFault, vector := v, code := code, access := { x := true }, ed := ed, ifa := some s.ip, itir, iha }

/-- The Unimplemented Instruction Address fault (R1151): its code bits are not known (a free value). -/
def State.unimplementedIp (s : State) : Interruption :=
  s.fetchFault .lowerPrivilegeTransfer (code := fld (Config.freeWord .uiaCode s.fresh) 0 16)

/-- The entry for the fetch: an instruction TLB hit, or what the walker inserts (R200), or the miss's fault. -/
def State.instEntry (s : State) : Except Interruption (TlbEntry × Option TlbEntry) :=
  match s.findInst s.ip with
  | some e => .ok (e, none)
  | none =>
    let enabled := bit s.cr.pta 0 && rrVe (s.region s.ip) && s.psrBit Psr.it && s.psrBit Psr.ic
    let itir := some (s.missItir s.ip)
    let iha := some (s.vhptHash s.ip)
    if !enabled then .error (s.fetchFault .alternateInstructionTlb (itir := itir))
    else
      match s.walkVhpt s.ip with
      | .found e => .ok (e, some e)
      | .vhptFault => .error (s.fetchFault .vhptTranslation (itir := itir) (iha := iha))
      | .notFound => .error (s.fetchFault .instructionTlb (itir := itir) (iha := iha))

/-- Checks 5 to 10 of R1144 on the matching entry. -/
def State.instEntryFault (s : State) (e : TlbEntry) : Option Interruption :=
  let key := s.searchPkr e.key
  let (_, _, xOk) := rights e.ar e.pl s.cpl
  let fault (v : Ivt) : Option Interruption := some (s.fetchFault v (itir := some e.itir) (ed := e.ed))
  if !e.p then fault .pageNotPresent
  else if e.ma = maNat then some (s.fetchFault .natConsumption (code := 0x20) (ed := e.ed))
  else if s.psrBit Psr.pk && key.isNone then fault .instructionKeyMiss
  else if s.psrBit Psr.pk && (key.any fun i => bit s.pkr[i] 3) then fault .keyPermission
  else if !xOk then fault .instructionAccessRights
  else if !e.a && !s.psrBit Psr.ia then fault .instructionAccessBit
  else none

/-- The Instruction Debug fault (R1144). -/
def State.instBreakFault (s : State) (ed : Bool) : Option Interruption :=
  if s.instBreak s.ip then some (s.fetchFault .debug (ed := ed)) else none

/-- The physical address of the bundle at IP and the entry the walker inserted, or the first fault (R1144). -/
def State.fetchAddress (s : State) : Except Faulted (Word × Option TlbEntry) :=
  if s.psrBit Psr.it then
    if unimplementedVa s.ip (s.psrBit Psr.vm) then .error ⟨s.unimplementedIp, none⟩
    else
      match s.instEntry with
      | .error i => .error ⟨i, none⟩
      | .ok (e, walked) =>
        match s.instEntryFault e with
        | some i => .error ⟨i, walked⟩
        | none =>
          match s.instBreakFault e.ed with
          | some i => .error ⟨i, walked⟩
          | none => .ok (e.physical s.ip, walked)
  else if unimplementedPa s.ip then .error ⟨s.unimplementedIp, none⟩
  else
    match s.instBreakFault false with
    | some i => .error ⟨i, none⟩
    | none => .ok (s.ip, none)

/-- The bundle at a physical address: little-endian whatever PSR.be is (R152). -/
def State.bundleAt (s : State) (pa : Word) : Bundle := ofBytesLE 128 (Memory.readBytes s.mem (physAddr pa) 16)

/-- The bundle at IP, where there is one to read whatever faults its fetch meets: a present translation to a page that is no
NaTPage, or an implemented physical address, outside the interrupt block. -/
def State.bundleAtIp (s : State) : Option Bundle :=
  let pa : Option Word :=
    if s.psrBit Psr.it then
      if unimplementedVa s.ip (s.psrBit Psr.vm) then none
      else match s.instEntry with
        | .error _ => none
        | .ok (e, _) => if e.p && e.ma != maNat then some (e.physical s.ip) else none
    else if unimplementedPa s.ip then none
    else some s.ip
  (pa.filter fun a => (s.blockOffset a).isNone).map s.bundleAt

/-- A fault of the fetch or of the frame's loads with the bundle at IP for IIB0-1 (R105, R1120); where no bundle can be read
they are free (DESIGN CHOICE, log entry 61). -/
def State.withBundle (s : State) (i : Interruption) : State × Interruption :=
  match s.bundleAtIp with
  | some b => ({ s with curBundle := b }, { i with kind := .fault })
  | none => (s, { i with kind := .fetchFault })

/-- The state with the bundle at IP fetched: what the walker inserted is kept (R208), also where the fetch then faults, and an
outstanding trigger on the bundle's address is met (R1101). -/
def State.fetch (s : State) : Except Stop State :=
  match s.fetchAddress with
  | .error x => do
    s.checkWalk true x.walked
    let (t, i) := s.withBundle x.fault
    .error (.interruptAt (t.keepInstWalk x.walked) i)
  | .ok (pa, walked) =>
    match s.blockOffset pa with
    | some _ => .error (.stuck .interruptBlock)
    | none => do
      s.checkWalk true walked
      .ok ({ s.keepInstWalk walked with curBundle := s.bundleAt pa }.meetTrigger false s.ip 16)

/-! ### Before the fetch (R1121) -/

/-- What the boundary before an instruction decides. -/
inductive Boundary where
  /-- The instruction at IP is next. -/
  | run (s : State)
  /-- The step ends here. -/
  | ends (o : Host.Outcome State Fault Refusal)

/-- What ends a halt (R1185): an unmasked external interrupt, and NMI, PMI, INIT, Machine Check even while they are held. -/
def State.wakes (s : State) : Bool :=
  s.interruptPending || bit s.cr.irr 2 || s.pmiPending != 0 || s.initPending || s.checkPending

/-- A halted processor that an event wakes is in the NORMAL state (R1185). -/
def State.awake (s : State) : State :=
  if s.halted && s.wakes then { s with pal := { s.pal with power := .normal } } else s

/-- A fault of the mandatory loads before an instruction (R135). -/
def deliverFrameFault (i : Interruption) (s : State) : State :=
  let (t, j) := s.withBundle i
  deliver j t

/-- Machine Check and INIT (held while PSR.mc is 1, R1128, R1171), PMI (held while PSR.ic is 0, R1170), an external
interrupt (R1160); a processor that stays halted then does nothing, and no virtual interrupt, which R1185 does not name, ends
a halt; else a virtual external interrupt (R1169); else the mandatory loads of an incomplete frame (R135). -/
def State.boundary (s : State) : Boundary :=
  let s := s.awake
  if s.checkPending && !s.psrBit Psr.mc then .ends (.next s.handOffCheck)
  else if s.initPending && !s.psrBit Psr.mc then .ends (.next s.handOffInit)
  else
    match (if s.psrBit Psr.ic then s.nextPmi else none) with
    | some v => .ends (.next (s.handOffPmi v))
    | none =>
      if s.interruptPending then .ends (.next (deliver externalInterrupt s))
      else if s.halted then .ends (.next s)
      else if s.virtualPending then .ends (.next (deliver virtualExternalInterrupt s))
      else
        match s.completeFrame with
        | .error (.interrupt i) => .ends (.next (deliverFrameFault i s))
        | .error (.interruptAt t i) => .ends (.next (deliverFrameFault i t))
        | .error (.stuck f) => .ends (.fault f)
        | .ok t => .run t

/-! ### Slots that hold no instruction (R257 to R262) -/

/-- A reserved slot or template (R1130). -/
def illegalSlot (s : State) : Host.Outcome State Fault Refusal := .next (deliver illegalOperation s)

/-- A reserved encoding that is illegal only where PR[qp] is 1 (R262); `pair` for an L+X pair. -/
def illegalIfQp (qp : BitVec 6) (pair : Bool) (s : State) : Host.Outcome State Fault Refusal :=
  if s.prBit qp then illegalSlot s
  else finish s (.ok { st := s, flow := if pair then .nextBundle else .sequential })

/-! ### Placing one instruction word (for `withFetchWord`) -/

/-- The template and the slot in which an instruction of a unit stands alone, followed by a stop (R251). -/
def aloneIn (u : SlotUnit) : BitVec 5 × BitVec 2 :=
  match u with
  | .m => (0x0B, 0)
  | .i => (0x01, 2)
  | .f => (0x0D, 1)
  | .b => (0x11, 2)
  | .l | .x => (0x05, 1)

/-- A bundle with the word `w` (and, for an L+X pair, `l`) in that slot; the other slots hold no operations. -/
def aloneBundle (u : SlotUnit) (l w : Slot) : Bundle :=
  let nop : Slot := 0x00008000000
  match u with
  | .m => mkBundle 0x0B w nop nop
  | .i => mkBundle 0x01 nop nop w
  | .f => mkBundle 0x0D nop w nop
  | .b => mkBundle 0x11 nop nop w
  | .l | .x => mkBundle 0x05 nop l w

/-- `s` with a bundle stored where the fetch at IP reads it and PSR.ri at a slot. -/
def State.placeBundle (s : State) (b : Bundle) (slot : BitVec 2) : State :=
  let pa := match s.fetchAddress with
    | .ok (pa, _) => pa
    | .error _ => s.ip
  { s.setRi slot with
    mem := Memory.writeBytes s.mem (physAddr pa) (toBytesLE 16 b)
    midGroup := false }

end Sys2Proof.Machine
end

