-- ==== Sys2Proof/Machine/Step.lean ====
section
/-! DEFINITION. One step of the machine: one instruction, or one interruption (R1245). -/

namespace Sys2Proof.Machine

/-- The fetched slot executes: its instruction, or the interruption of a reserved encoding. -/
noncomputable def State.runSlot (s : State) : Host.Outcome State Fault Refusal :=
  match decodeBundle s.curBundle s.ri.toNat with
  | (.instr i, _) => exec i s
  | (.reserved, _) => illegalSlot s
  | (.reservedIfQp qp, pair) => illegalIfQp qp pair s

/-- One step (R1245). IA-32 instructions are refused (D2). -/
noncomputable def step (s : State) : Host.Outcome State Fault Refusal :=
  if s.psrBit Psr.is then .refused .ia32Instruction
  else
    match s.tick.boundary with
    | .ends o => o
    | .run t =>
      match t.fetch with
      | .error e => finish t (.error e)
      | .ok u => u.runSlot

/-- `s` with the instruction word `w` where `step` fetches next: bits 40:0 are its slot, bits 81:41 the L slot. -/
noncomputable def State.withFetchWord (s : State) (_nbits w : Nat) : State :=
  let l : Slot := BitVec.ofNat 41 (w >>> 41)
  let slot : Slot := BitVec.ofNat 41 w
  let u := ((wordUnit l slot).map Prod.fst).getD .m
  s.placeBundle (aloneBundle u l slot) (aloneIn u).2

end Sys2Proof.Machine
end

