-- ==== Sys2Proof/Machine/PalCall.lean ====
section
/-! DEFINITION. What every PAL procedure shares (48_pal_procedures.md section 1; D60, D61): its return values, the mode of a
call, the references it makes. -/

namespace Sys2Proof.Machine

/-- The four return values of a procedure (R1023). -/
structure PalResult where
  status : Word
  v1 : Word := 0
  v2 : Word := 0
  v3 : Word := 0
deriving DecidableEq, Repr

/-- A procedure's answer: its return values and the state, or an interruption of its memory references. -/
abbrev PalReply := Except Stop (PalResult × State)

/-- "Unimplemented procedure" (R1023). -/
def palUnimplemented : PalResult := { status := BitVec.ofInt 64 (-1) }

/-- "Invalid argument" (R1023; D61: for every violation that can be detected). -/
def palInvalid : PalResult := { status := BitVec.ofInt 64 (-2) }

/-- "Target location could not be found" (R1100). -/
def palNotFound : PalResult := { status := BitVec.ofInt 64 (-4) }

/-- "Argument valid but the capability is not supported" (R1100). -/
def palUnsupported : PalResult := { status := BitVec.ofInt 64 (-5) }

/-- "Call requires PAL memory buffer" (R1023). -/
def palNeedsBuffer : PalResult := { status := BitVec.ofInt 64 (-9) }

/-- "No error information available" (R1090). -/
def palNoInformation : PalResult := { status := BitVec.ofInt 64 (-6) }

/-- "Feature set beyond the maximum supported" (R1055). -/
def palBeyondMaximum : PalResult := { status := BitVec.ofInt 64 (-8) }

/-- "Call completed without error". -/
def palOk (v1 : Word := 0) (v2 : Word := 0) (v3 : Word := 0) : PalResult := ⟨0, v1, v2, v3⟩

/-- Physical mode of a call (R1021). -/
def State.palPhysical (s : State) : Bool := !s.psrBit Psr.it && !s.psrBit Psr.rt && !s.psrBit Psr.dt

/-- Virtual mode of a call (R1021). -/
def State.palVirtual (s : State) : Bool := s.psrBit Psr.it && s.psrBit Psr.rt && s.psrBit Psr.dt

/-- The mode column of R1030. -/
inductive PalMode where
  | physical | virtual | both
deriving DecidableEq, Repr

def State.palModeOk (s : State) : PalMode → Bool
  | .physical => s.palPhysical
  | .virtual => s.palVirtual
  | .both => s.palPhysical || s.palVirtual

/-- The reference that a procedure makes to an 8-byte word of a buffer, at the caller's privilege (R1025). -/
def State.palRef (s : State) (a : Access) : Ref := { access := a, size := 8, align := 8, pl := s.cpl }

/-- The translation of a procedure's reference (R1025): its fault is raised. -/
def palTranslate (s : State) (a : Word) (acc : Access) : Except Stop Translation :=
  s.dataReference (s.psrBit Psr.dt) a (s.palRef acc)

/-- Words stored to a return buffer from `a` up, little-endian, with the call's addressing mode (R1025, D62). -/
def palStore (s : State) (a : Word) : List Word → Except Stop State
  | [] => .ok s
  | w :: rest => do
    let t ← palTranslate s a { w := true }
    let u ← s.store t.pa 8 false t.ma w
    palStore ((u.touch t).alatInvalRange t.pa 8) (a + 8) rest

/-- One word of a caller's structure, in a byte order. -/
def palLoad (s : State) (be : Bool) (a : Word) : Except Stop Word := do
  let t ← palTranslate s a { r := true }
  s.load t.pa 8 be t.ma

/-- A buffer filled with `words` and the result `r`; a misaligned buffer is an invalid argument (R1025). -/
def palFill (s : State) (a : Word) (words : List Word) (r : PalResult) : PalReply :=
  if fld a 0 3 != 0 then .ok (palInvalid, s)
  else do
    let u ← palStore s a words
    .ok (r, u)

end Sys2Proof.Machine
end

