-- ==== Sys2Proof/Machine/PalError.lean ====
section
/-! DEFINITION. Machine check information (R1090 to R1096) and error injection (R1100 to R1103) as host-side functions of the
state (D60; log entry 59). The only hardware errors of this model are injected ones. -/

namespace Sys2Proof.Machine

/-! ### Check words (R1091 to R1096) -/

/-- The upper fields that every check word has (R1091). -/
structure CheckCommon where
  /-- `is`: an IA-32 instruction caused the check. -/
  ia32 : Bool := false
  iv : Bool := false
  pl : BitVec 2 := 0
  pv : Bool := false
  mcc : Bool := false
  tv : Bool := false
  rq : Bool := false
  rp : Bool := false
  pi : Bool := false
deriving DecidableEq, Repr

def CheckCommon.toWord (c : CheckCommon) : Word :=
  Config.flag c.ia32 54 ||| Config.flag c.iv 55 ||| fieldAt 56 c.pl ||| Config.flag c.pv 58 ||| Config.flag c.mcc 59
    ||| Config.flag c.tv 60 ||| Config.flag c.rq 61 ||| Config.flag c.rp 62 ||| Config.flag c.pi 63

/-- cache_check (R1092). -/
structure CacheCheck where
  op : BitVec 4 := 0
  level : BitVec 2 := 0
  dl : Bool := false
  tl : Bool := false
  dc : Bool := false
  ic : Bool := false
  mesi : BitVec 3 := 0
  mv : Bool := false
  way : BitVec 5 := 0
  wiv : Bool := false
  dp : Bool := false
  hlth : BitVec 2 := 0
  index : BitVec 20 := 0
  common : CheckCommon
deriving DecidableEq, Repr

def CacheCheck.toWord (c : CacheCheck) : Word :=
  fieldAt 0 c.op ||| fieldAt 4 c.level ||| Config.flag c.dl 8 ||| Config.flag c.tl 9 ||| Config.flag c.dc 10
    ||| Config.flag c.ic 11 ||| fieldAt 12 c.mesi ||| Config.flag c.mv 15 ||| fieldAt 16 c.way ||| Config.flag c.wiv 21
    ||| Config.flag c.dp 23 ||| fieldAt 30 c.hlth ||| fieldAt 32 c.index ||| c.common.toWord

/-- tlb_check (R1093). -/
structure TlbCheck where
  trSlot : BitVec 8 := 0
  trv : Bool := false
  level : BitVec 2 := 0
  dtr : Bool := false
  itr : Bool := false
  dtc : Bool := false
  itc : Bool := false
  op : BitVec 4 := 0
  hlth : BitVec 2 := 0
  common : CheckCommon
deriving DecidableEq, Repr

def TlbCheck.toWord (c : TlbCheck) : Word :=
  fieldAt 0 c.trSlot ||| Config.flag c.trv 8 ||| fieldAt 10 c.level ||| Config.flag c.dtr 16 ||| Config.flag c.itr 17
    ||| Config.flag c.dtc 18 ||| Config.flag c.itc 19 ||| fieldAt 20 c.op ||| fieldAt 30 c.hlth ||| c.common.toWord

/-- bus_check (R1094). -/
structure BusCheck where
  size : BitVec 5 := 0
  ib : Bool := false
  eb : Bool := false
  cc : Bool := false
  kind : BitVec 8 := 0
  sev : BitVec 5 := 0
  hier : BitVec 2 := 0
  dp : Bool := false
  bsi : BitVec 8 := 0
  common : CheckCommon
deriving DecidableEq, Repr

def BusCheck.toWord (c : BusCheck) : Word :=
  fieldAt 0 c.size ||| Config.flag c.ib 5 ||| Config.flag c.eb 6 ||| Config.flag c.cc 7 ||| fieldAt 8 c.kind
    ||| fieldAt 16 c.sev ||| fieldAt 21 c.hier ||| Config.flag c.dp 23 ||| fieldAt 24 c.bsi ||| c.common.toWord

/-- reg_file_check (R1095): without target, requester and responder. -/
structure RegFileCheck where
  id : BitVec 4 := 0
  op : BitVec 4 := 0
  regNum : BitVec 7 := 0
  rnv : Bool := false
  common : CheckCommon
deriving DecidableEq, Repr

def RegFileCheck.toWord (c : RegFileCheck) : Word :=
  fieldAt 0 c.id ||| fieldAt 4 c.op ||| fieldAt 8 c.regNum ||| Config.flag c.rnv 15
    ||| { c.common with tv := false, rq := false, rp := false }.toWord

/-- uarch_check (R1096). -/
structure UarchCheck where
  sid : BitVec 5 := 0
  level : BitVec 3 := 0
  arrayId : BitVec 4 := 0
  op : BitVec 4 := 0
  way : BitVec 6 := 0
  wv : Bool := false
  xv : Bool := false
  index : BitVec 8 := 0
  common : CheckCommon
deriving DecidableEq, Repr

def UarchCheck.toWord (c : UarchCheck) : Word :=
  fieldAt 0 c.sid ||| fieldAt 5 c.level ||| fieldAt 8 c.arrayId ||| fieldAt 12 c.op ||| fieldAt 16 c.way
    ||| Config.flag c.wv 22 ||| Config.flag c.xv 23 ||| fieldAt 32 c.index ||| c.common.toWord

/-- The error_info formats (R1091). -/
inductive CheckInfo where
  | cache (c : CacheCheck)
  | tlb (c : TlbCheck)
  | bus (c : BusCheck)
  | regFile (c : RegFileCheck)
  | uarch (c : UarchCheck)
deriving DecidableEq, Repr

def CheckInfo.toWord : CheckInfo → Word
  | .cache c => c.toWord
  | .tlb c => c.toWord
  | .bus c => c.toWord
  | .regFile c => c.toWord
  | .uarch c => c.toWord

/-- The structures of the error map that report in a format (R1090, R1091): eic and edc 8 to 15, eit and edt 16 to 23, ebh
24 to 27, erf 28 to 31, ems 32 to 47, counted from bit 8. -/
def CheckInfo.reports (c : CheckInfo) (unit : Fin 40) : Bool :=
  match c with
  | .cache _ => unit.val < 8
  | .tlb _ => 8 ≤ unit.val && unit.val < 16
  | .bus _ => 16 ≤ unit.val && unit.val < 20
  | .regFile _ => 20 ≤ unit.val && unit.val < 24
  | .uarch _ => 24 ≤ unit.val

/-! ### PAL_MC_ERROR_INFO (R1090) -/

/-- The processor error map (R1090): this processor is core 0, thread 0. -/
def errorMap (errors : List ErrorRecord) : Word := errors.foldl (fun w e => setBit w (8 + e.unit.val) true) 0

/-- The structure that a `level_index` selects: exactly one structure bit, this core and thread, no reserved bit (R1090). -/
def levelUnit (level : Word) : Option (Fin 40) :=
  let units := (List.finRange 40).filter fun k => bit level (8 + k.val)
  if fld level 0 8 != 0 || fld level 48 16 != 0 || units.length != 1 then none else units.head?

/-- The distinct errors of a log, without what repeats an earlier one (R1090). -/
def distinctErrors (errors : List ErrorRecord) : List ErrorRecord :=
  errors.foldl (fun found e => if found.any fun f => f.repeats e then found else found ++ [e]) []

/-- PAL_MC_ERROR_INFO (R1090): the map, the state parameter, or what `level_index` and `err_type_index` (8 n + k) select of
the n-th distinct error of a structure, with `inc_err_type` 1 where another follows. -/
def palErrorInfo (info level errType : Word) (s : State) : PalReply :=
  let errors := s.pal.errors
  if info = 0 then .ok (if errors.isEmpty then palNoInformation else palOk (errorMap errors), s)
  else if info = 1 then .ok (if errors.isEmpty then palNoInformation else palOk s.pal.psp, s)
  else if info = 2 ∧ errType.toNat % 8 < 5 then
    match levelUnit level with
    | none => .ok (palInvalid, s)
    | some unit =>
      let n := errType.toNat / 8
      let logged := distinctErrors (errors.filter fun e => e.unit = unit)
      match logged[n]? with
      | none => .ok (palNoInformation, s)
      | some e =>
        match e.info (errType.toNat % 8) with
        | none => .ok (palNoInformation, s)
        | some w => .ok (palOk w (if n + 1 < logged.length then 1 else 0), s)
  else .ok (palInvalid, s)

/-! ### PAL_MC_ERROR_INJECT (R1100 to R1103) -/

/-- The structures that `err_struct` names (R1100). -/
inductive ErrorTarget where
  | any | cache | tlb | registerFile | bus
deriving DecidableEq, Repr

/-- The capabilities vectors (R1102, its dp at bit 9 by C56; R1103): every injection that the tables list. -/
def ErrorTarget.capabilities : ErrorTarget → Word
  | .any | .bus => 0
  | .cache => 0x0000000300001E3B
  | .tlb => 0x000000030000001B
  | .registerFile => 0x0000000300011FFF

/-- The trigger fields of `err_struct_info` are legal (R1101). -/
def triggerFieldsOk (v : Word) : Bool :=
  fld v 40 24 == 0 && (!bit v 32 || (decide ((fld v 33 4 : BitVec 4).toNat < 2) && decide ((fld v 37 3 : BitVec 3).toNat < 4)))

/-- `err_struct_info` of a cache error is legal (R1102); a poisoned line has severity 0. -/
def cacheFieldsOk (v : Word) (severity : BitVec 2) : Bool :=
  fld v 10 22 == 0 && triggerFieldsOk v && (!bit v 9 || severity == 0)
    && (!bit v 0 || (decide (1 ≤ (fld v 1 2 : BitVec 2).toNat ∧ (fld v 1 2 : BitVec 2).toNat ≤ 2)
      && decide (1 ≤ (fld v 3 3 : BitVec 3).toNat ∧ (fld v 3 3 : BitVec 3).toNat ≤ 3)
      && decide (1 ≤ (fld v 6 3 : BitVec 3).toNat ∧ (fld v 6 3 : BitVec 3).toNat ≤ 3)))

/-- `err_struct_info` of a TLB error is legal (R1103). -/
def tlbFieldsOk (v : Word) : Bool :=
  fld v 13 19 == 0 && triggerFieldsOk v
    && (!bit v 0 || (decide (1 ≤ (fld v 1 2 : BitVec 2).toNat ∧ (fld v 1 2 : BitVec 2).toNat ≤ 2)
      && decide (1 ≤ (fld v 3 2 : BitVec 2).toNat ∧ (fld v 3 2 : BitVec 2).toNat ≤ 2)))

/-- `err_struct_info` of a register file error is legal (R1103). The procedure, not made of instructions here, uses no
register itself, so that no choice of one conflicts and is undefined (DESIGN CHOICE, log entry 59). -/
def registerFieldsOk (v : Word) : Bool :=
  fld v 13 19 == 0 && triggerFieldsOk v
    && (!bit v 0 || (decide ((fld v 1 4 : BitVec 4).toNat ≤ 13)
      && (decide ((fld v 5 8 : BitVec 8).toNat < 128) || fld v 5 8 == (255 : BitVec 8))))

/-- `err_struct_info` is legal for the structure; PAL's own choice needs none (R1100 to R1103). -/
def ErrorTarget.fieldsOk (t : ErrorTarget) (v : Word) (severity : BitVec 2) : Bool :=
  match t with
  | .any => true
  | .cache => cacheFieldsOk v severity
  | .tlb => tlbFieldsOk v
  | .registerFile => registerFieldsOk v
  | .bus => v == 0

/-- How many words of `err_data_buffer` the injection needs (R1102, R1103). -/
def ErrorTarget.bufferWords (t : ErrorTarget) (v : Word) : Nat :=
  match t with
  | .any | .bus => 0
  | .cache => if bit v 0 || bit v 32 then 3 else 0
  | .tlb => if bit v 32 || (bit v 0 && fld v 3 2 == (1 : BitVec 2)) then 3 else 0
  | .registerFile => if bit v 32 then 1 else 0

/-- The reserved bits of the buffer are 0 (R1102, R1103). -/
def ErrorTarget.bufferOk (t : ErrorTarget) (buffer : List Word) : Bool :=
  match t with
  | .cache => fld (buffer.getD 2 0) 25 39 == 0
  | .tlb => fld (buffer.getD 1 0) 52 12 == 0 && fld (buffer.getD 2 0) 24 40 == 0
  | _ => true

/-- The words of the buffer. -/
def palLoads (s : State) (a : Word) : Nat → Except Stop (List Word)
  | 0 => .ok []
  | n + 1 => do
    let w ← palLoad s false a
    let rest ← palLoads s (a + 8) n
    .ok (w :: rest)

/-- The registers that a register file has, in R1103's numbering; of a file that PAL chooses, every number. -/
def registerExists (file : BitVec 4) (reg : BitVec 7) : Bool :=
  match file.toNat with
  | 1 => decide (16 ≤ reg.toNat ∧ reg.toNat < 32)
  | 4 | 8 | 12 => decide (reg.toNat < 8)
  | 5 => decide (reg.toNat < 64)
  | 6 => arOf reg != .reserved && arOf reg != .ignored
  | 7 => crOf reg != .reserved
  | 9 => decide (reg.toNat < Config.nPkr)
  | 10 | 11 => decide (reg.toNat < Config.nDebug)
  | 13 => decide (4 ≤ reg.toNat ∧ reg.toNat ≤ Config.maxGeneric)
  | _ => true

/-- The target of the injection is there (R1100, status -4): a translation that the buffer or the slot names, a register
that its file has; whether a cache holds a line is free. -/
def ErrorTarget.present (t : ErrorTarget) (v : Word) (buffer : List Word) (s : State) : Bool :=
  let inst := fld v 1 2 == (1 : BitVec 2)
  match t with
  | .cache => !bit v 0 || Config.freeBit .linePresent s.fresh
  | .tlb =>
    if !bit v 0 then true
    else if fld v 3 2 == (1 : BitVec 2) then
      let vpn : BitVec 52 := fld (buffer.getD 1 0) 0 52
      let rid : BitVec 24 := fld (buffer.getD 2 0) 0 24
      (if inst then s.itc else s.dtc).any fun e => e.matches rid (vpn.zeroExtend 64 <<< 12)
    else
      let slot : BitVec 8 := fld v 5 8
      if inst then (s.itr[slot.toNat]?.getD none).isSome else (s.dtr[slot.toNat]?.getD none).isSome
  | .registerFile => !bit v 0 || fld v 5 8 == (255 : BitVec 8) || registerExists (fld v 1 4) (fld v 5 7)
  | .any | .bus => true

/-- The common fields of an injected error's check word: of an Itanium instruction, whose privilege level is that at which
the error is met (`ErrorRecord.metAt`). -/
def injectedCommon (severity : BitVec 2) : CheckCommon := { iv := true, pv := true, mcc := severity == 0 }

/-- The register file numbers of R1103 in R1095's numbering: the banks are the other way round. -/
def regFileId (id : BitVec 4) : BitVec 4 := if id = 1 then 2 else if id = 2 then 1 else id

/-- What consuming the error logs (R1091 to R1096): where the caller leaves the place to PAL, the first-level data cache,
the data translation cache, an unknown register; of a mesi error, the line's state, which nothing states, is one of the four
by a free value (DESIGN CHOICE, log entry 59). -/
def ErrorTarget.record (t : ErrorTarget) (severity : BitVec 2) (v : Word) (buffer : List Word) (s : State) :
    ErrorRecord :=
  let common := injectedCommon severity
  let inst := bit v 0 && fld v 1 2 == (1 : BitVec 2)
  let free (k : Nat) : Word := Config.freeWord (.errorField k) s.fresh
  match t with
  | .any | .bus =>
    { unit := 16, check := (CheckInfo.bus { ib := true, common }).toWord, target := free 0, requester := free 1
      responder := free 2, ip := free 3 }
  | .cache =>
    let part : BitVec 3 := if bit v 0 then fld v 3 3 else 2
    let physical := bit v 0 && fld v 6 3 == (2 : BitVec 3)
    let placed := bit v 0 && fld v 6 3 == (3 : BitVec 3)
    { unit := if inst then 0 else 4
      check := (CheckInfo.cache
        { dl := part == 2, tl := part == 1, dc := !inst, ic := inst, mv := part == 3
          mesi := if part == 3 then (fld (free 4) 0 2 : BitVec 2).zeroExtend 3 else 0, dp := bit v 9, wiv := placed
          way := if placed then fld (buffer.getD 2 0) 0 5 else 0
          index := if placed then fld (buffer.getD 2 0) 5 20 else 0
          common := { common with tv := physical } }).toWord
      target := if physical then buffer.getD 1 0 else free 0
      requester := free 1, responder := free 2, ip := free 3 }
  | .tlb =>
    let reg := bit v 0 && fld v 3 2 == (2 : BitVec 2)
    { unit := if inst then 8 else 12
      check := (CheckInfo.tlb
        { trSlot := if reg then fld v 5 8 else 0, trv := reg, dtr := reg && !inst, itr := reg && inst
          dtc := !reg && !inst, itc := !reg && inst, common }).toWord
      target := free 0, requester := free 1, responder := free 2, ip := free 3 }
  | .registerFile =>
    let named := bit v 0 && fld v 5 8 != (255 : BitVec 8)
    { unit := 20
      check := (CheckInfo.regFile
        { id := if bit v 0 then regFileId (fld v 1 4) else 0, rnv := named
          regNum := if named then fld v 5 7 else 0, common }).toWord
      target := free 0, requester := free 1, responder := free 2, ip := free 3 }

/-- The structure that `err_struct` names; the processor specific ones are not supported (R1100). -/
def errorTarget (errStruct : BitVec 5) : Except PalResult ErrorTarget :=
  match errStruct.toNat with
  | 0 => .ok .any
  | 1 => .ok .cache
  | 2 => .ok .tlb
  | 3 => .ok .registerFile
  | 4 => .ok .bus
  | n => .error (if n < 16 then palInvalid else palUnsupported)

/-- `struct_hier` (R1100). -/
def errorLevel (info : Word) : BitVec 3 := fld info 13 3

/-- `err_type_info` holds a reserved value, or one that a query may not have (R1100). -/
def errorTypeReserved (query : Bool) (info : Word) : Bool :=
  fld info 16 32 != 0 || fld info 6 2 == (3 : BitVec 2) || decide (4 < (errorLevel info).toNat)
    || (query && (fld info 8 5 == (0 : BitVec 5) || errorLevel info == 0))
    || (!query && decide (1 < (fld info 3 3 : BitVec 3).toNat))

/-- The injection of a legal request (R1100): now, or when its trigger is met. This implementation's triggers use no
breakpoint registers, so that `resources` is 0. -/
def palInject (t : ErrorTarget) (info v buffer : Word) (s : State) : PalReply :=
  if 0 < t.bufferWords v ∧ fld buffer 0 3 ≠ (0 : BitVec 3) then .ok (palInvalid, s)
  else do
    let words ← palLoads s buffer (t.bufferWords v)
    let severity : BitVec 2 := fld info 6 2
    let injection : Injection :=
      { severity, consume := fld info 3 3 == (1 : BitVec 3), record := t.record severity v words s }
    if !t.bufferOk words then .ok (palInvalid, s)
    else if 1 < (errorLevel info).toNat then .ok (palUnsupported, s)
    else if !t.present v words s then .ok (palNotFound, s)
    else if t != .any && bit v 32 then
      .ok (palOk t.capabilities,
        { s with pal := { s.pal with trigger := some ⟨bit v 33, fld v 37 2, words.getD 0 0, injection⟩ } })
    else .ok (palOk t.capabilities, s.placeError injection)

/-- PAL_MC_ERROR_INJECT (R1100): query (mode 0), inject (1), cancel the outstanding trigger (2). Every violation that can be
detected is an invalid argument (D61) before the capability is asked for: this implementation has hierarchy level 1 alone. -/
def palErrorInject (info v buffer : Word) (s : State) : PalReply :=
  let mode : BitVec 3 := fld info 0 3
  if mode = 2 then .ok (palOk, { s with pal := { s.pal with trigger := none } })
  else if 2 < mode.toNat then .ok (palInvalid, s)
  else
    if errorTypeReserved (mode == 0) info then .ok (palInvalid, s)
    else
      match errorTarget (fld info 8 5) with
      | .error r => .ok (r, s)
      | .ok t =>
        if !t.fieldsOk v (fld info 6 2) then .ok (palInvalid, s)
        else if mode = 0 then
          .ok (if 1 < (errorLevel info).toNat then palUnsupported else palOk t.capabilities, s)
        else palInject t info v buffer s

end Sys2Proof.Machine
end

