-- ==== Sys2Proof/Machine/Pal.lean ====
section
/-! DEFINITION. What acts on the machine beside its instructions: host events (D65) and the PAL procedures as host-side
functions of the state (48_pal_procedures.md, D60 to D64; log entry 30). No instruction names them. -/

namespace Sys2Proof.Machine

/-! ### Host events -/

/-- The interruptions of PAL that hand off to a registered handler (R1116, R1171, R1128). -/
inductive Firmware where
  | pmi | init | check
deriving DecidableEq, Repr

/-- What the platform, or firmware outside this model, may do between two steps (D65, R1116, R130). -/
inductive HostEvent where
  | external (vector : BitVec 8)
  | nmi
  | extInt
  | init
  | pmi (vector : BitVec 4)
  /-- SAL registers a handler's entry point (R1116). -/
  | register (handler : Firmware) (entry : Word)
  /-- The platform moves the processor to or from the LOW-POWER state (R130, R1185). -/
  | lowPower (enter : Bool)
  /-- A program meets an error that PAL_MC_ERROR_INJECT placed (R1100). -/
  | meetLatent
  /-- An access, of the platform or another agent, that may set off an outstanding trigger (R1101). -/
  | access (data : Bool) (address : Word)
  /-- The signal on LINT0, or with `second` on LINT1, goes high or low (R1167). -/
  | lint (second high : Bool)
  /-- Another processor of the virtual environment has initialised its buffer (R1075). -/
  | vpBuffer (pbase : Word)
deriving DecidableEq, Repr

/-- A change of a local interrupt pin that `lrr` steers (R1167, R107): an assertion, by the polarity ipp, pends what the
delivery mode says; in level mode (tm = 1) a deassertion takes the pending external interrupt back. Nothing happens while the
pin is masked. A level-sensitive PMI or INIT is undefined (U23): the machine is stuck. -/
def State.lintChanged (s : State) (lrr : Word) (high : Bool) : Host.Outcome State Fault Refusal :=
  let level := bit lrr 15
  let mode := (fld lrr 8 3 : BitVec 3).toNat
  if bit lrr 16 then .next s
  else if level && (mode == 2 || mode == 5) then .fault .undefinedBehavior
  else if high != bit lrr 13 then .next (s.receiveMessage lrr)
  else if level then
    let v : Nat := if mode = 0 then (fld lrr 0 8 : BitVec 8).toNat else if mode = 4 then 2 else 0
    .next { s with cr := { s.cr with irr := setBit s.cr.irr v false } }
  else .next s

/-- What a host event makes of the state (R128, R1160, R1170, R1171, R1116, R1185, R1100). -/
def State.hostEvent (s : State) : HostEvent → Host.Outcome State Fault Refusal
  | .external v => .next (s.pend v)
  | .nmi => .next (s.pend 2)
  | .extInt => .next (s.pend 0)
  | .init => .next { s with initPending := true }
  | .pmi v => .next { s with pmiPending := setBit s.pmiPending v.toNat true }
  | .register .pmi entry => .next { s with pal := { s.pal with pmiEntry := entry } }
  | .register .init entry => .next { s with pal := { s.pal with initEntry := entry } }
  | .register .check entry => .next { s with pal := { s.pal with checkEntry := entry } }
  | .lowPower enter =>
    .next (if s.halted then s else { s with pal := { s.pal with power := if enter then .lowPower else .normal } })
  | .meetLatent => .next s.meetLatent
  | .access data address => .next (s.meetTrigger data address 1)
  | .lint second high =>
    if Config.lintPins then s.lintChanged (if second then s.cr.lrr1 else s.cr.lrr0) high else .next s
  | .vpBuffer pbase => .next { s with pal := { s.pal with vpBuffer := some pbase } }

/-! ### Identification, power and configuration -/

/-- The brand string as 8-byte words (R1040). -/
def brandWords : List Byte → List Word
  | b0 :: b1 :: b2 :: b3 :: b4 :: b5 :: b6 :: b7 :: rest =>
    ofBytesLE 64 [b0, b1, b2, b3, b4, b5, b6, b7] :: brandWords rest
  | [] => []
  | short => [ofBytesLE 64 short]

/-- PAL_BRAND_INFO (R1040). The string length that it returns counts the terminating NUL: the rule does not say whether it
does (DESIGN CHOICE, log entry 30). -/
def palBrandInfo (request buffer : Word) (s : State) : PalReply :=
  if request = 0 then
    palFill s buffer (brandWords Config.brandString) (palOk (BitVec.ofNat 64 Config.brandString.length))
  else .ok (palInvalid, s)

/-- PAL_HALT_INFO (R1045). -/
def palHaltInfo (buffer : Word) (s : State) : PalReply := palFill s buffer Config.haltInfo (palOk)

/-- PAL_MC_DYNAMIC_STATE (R1046): this implementation has no dynamic state to copy. -/
def palDynamicState (infoType buffer : Word) (s : State) : PalReply :=
  if infoType = 0 then .ok (palOk Config.dynamicStateSize, s)
  else if infoType = 1 then palFill s buffer [] palOk
  else .ok (palInvalid, s)

/-- Word `j` of the 256-bit mask of the registers from `first` to the highest generic one (R1050). -/
def monitorMask (first j : Nat) : Word :=
  (List.range 64).foldl (fun w k => setBit w k (decide (first ≤ 64 * j + k ∧ 64 * j + k ≤ Config.maxGeneric))) 0

/-- The masks of PAL_PERF_MON_INFO (R1050, R115): PMC0 and PMD4 to the highest generic pair, and what counts each event. -/
def monitorMasks : List Word := [0, 4, 4, 4].flatMap fun first => (List.range 4).map (monitorMask first)

/-- PAL_PERF_MON_INFO (R1050). -/
def palPerfMonInfo (buffer : Word) (s : State) : PalReply :=
  palFill s buffer monitorMasks
    (palOk (BitVec.ofNat 64 (Config.maxGeneric - 3) ||| BitVec.ofNat 64 Config.pmdWidth <<< 8 ||| Config.eventCycles.zeroExtend 64 <<< 16
      ||| Config.eventRetired.zeroExtend 64 <<< 24))

/-- The range lies in the firmware region below 4 GB (R1052). -/
def overlaysFirmware (a size : Nat) : Bool := decide (a < 0x100000000 ∧ 0xFF000000 < a + size)

/-- PAL_PLATFORM_ADDR (R1052). -/
def palPlatformAddr (kind address : Word) (s : State) : PalReply :=
  let a := setBit address 63 false
  let bad (size : Nat) : Bool := unimplementedPa a || a.toNat % size != 0 || overlaysFirmware a.toNat size
  if kind = 0 ∧ bad 0x200000 = false then .ok (palOk, { s with pal := { s.pal with interruptBlock := a } })
  else if kind = 1 ∧ bad 0x4000000 = false then .ok (palOk, { s with pal := { s.pal with ioBlock := a } })
  else .ok (palInvalid, s)

/-- The features software may change now: bit 40 cannot be set again once it is 0 (R1056). -/
def State.featureControl (s : State) : Word :=
  if bit s.pal.features 40 then Config.featuresControl else setBit Config.featuresControl 40 false

/-- The answer for a feature set other than 0 (R1055). -/
def palNoFeatureSet (featureSet : Word) : PalResult := if featureSet.toNat < 16 then palInvalid else palBeyondMaximum

/-- feature_status (R1055, R1056): of the read-only features bit 38 is a parameter's (`PARTIAL_IP`), the others are held. -/
def State.featureStatus (s : State) : Word := s.pal.features ||| Config.flag (!Config.partialIp) 38

/-- PAL_PROC_GET_FEATURES (R1055). -/
def palGetFeatures (featureSet : Word) (s : State) : PalReply :=
  if featureSet = 0 then .ok (palOk Config.featuresAvail s.featureStatus s.featureControl, s)
  else .ok (palNoFeatureSet featureSet, s)

/-- PAL_PROC_SET_FEATURES (R1057); a one in a reserved bit of the set's table (51:48, 31:0) is an invalid argument (R1056,
R1024, D61). -/
def palSetFeatures (select featureSet : Word) (s : State) : PalReply :=
  if featureSet = 0 ∧ select &&& 0x000F0000FFFFFFFF ≠ 0 then .ok (palInvalid, s)
  else if featureSet = 0 then
    let c := s.featureControl
    .ok (palOk, { s with pal := { s.pal with features := (s.pal.features &&& ~~~c) ||| (select &&& c) } })
  else .ok (palNoFeatureSet featureSet, s)

/-- PAL_GET_HW_POLICY (R1060): this logical processor is the only one impacted. -/
def palGetPolicy (procNum : Word) (s : State) : PalReply :=
  if procNum = 0 then .ok (palOk s.pal.hwPolicy 1 (Config.freeWord .logicalAddress 0), s)
  else .ok (palInvalid, s)

/-- PAL_SET_HW_POLICY (R1061). -/
def palSetPolicy (policy : Word) (s : State) : PalReply :=
  if policy.toNat < 4 then .ok (palOk, { s with pal := { s.pal with hwPolicy := policy } })
  else .ok (palInvalid, s)

/-- PAL_PSTATE_INFO (R1086): absent while P-states are disabled (R1056 bit 52); hardware-independent domain 0. -/
def palPstateInfo (buffer : Word) (s : State) : PalReply :=
  if bit s.pal.features 52 then .ok (palUnimplemented, s)
  else palFill s buffer Config.pStates (palOk (BitVec.ofNat 64 (Config.pStates.length / 2)))

/-- PAL_SET_PSTATE (R1085), which has no index of its own: with one P-state every request for it is accepted. -/
def palSetPstate (p : Word) (s : State) : PalReply :=
  if bit s.pal.features 52 then .ok (palUnimplemented, s)
  else if p.toNat < Config.pStates.length / 2 then .ok (palOk, { s with pal := { s.pal with pState := fld p 0 4 } })
  else .ok (palInvalid, s)

/-- PAL_GET_PSTATE (R1085), which has no index of its own: the performance index of the current P-state, which is also
every average over the one state. -/
def palGetPstate (kind : Word) (s : State) : PalReply :=
  if bit s.pal.features 52 then .ok (palUnimplemented, s)
  else if kind.toNat < 4 then .ok (palOk (fld (Config.pStates.getD (2 * s.pal.pState.toNat) 0) 0 7 |>.zeroExtend 64), s)
  else .ok (palInvalid, s)

/-- The halt procedures (R1185), which have no index of their own: the processor executes nothing until an event that wakes
it (`State.wakes`); the call has then returned. -/
def palHalt (light : Bool) (s : State) : PalReply :=
  .ok (palOk, { s with pal := { s.pal with power := if light then .lightHalt else .halt } })

/-! ### Self test, the translation registers -/

/-- The arguments of PAL_TEST_PROC are legal (R1070, D63): a cacheable, aligned buffer of the size needed, a phase, the
cacheable attribute allowed, reserved bits and an unimplemented control word 0. -/
def testArgsOk (address info params : Word) : Bool :=
  !bit address 63 && address.toNat % Config.testAlignment == 0
    && decide (Config.testBytesNeeded ≤ (fld info 0 56 : BitVec 56).toNat) && decide ((fld info 56 8 : BitVec 8).toNat < 2)
    && bit params 0 && fld params 8 8 == 0 && (Config.testControlImplemented || fld params 16 48 == 0)

/-- PAL_TEST_PROC (R1070, D63): the caches of translations are emptied, FR32 to FR127 and the self-test state free; no
hardware failure is found, since a model is always healthy (R1202). This implementation's tests need no buffer. -/
def palTestProc (address info params : Word) (s : State) : PalReply :=
  if !testArgsOk address info params then .ok (palInvalid, s)
  else
    let fr := Vector.ofFn (n := 128) fun i =>
      if i.val < 32 then s.fr[i]
      else
        ⟨Config.freeBit (.selfTest i) s.fresh, fld (Config.freeWord (.selfTest i) s.fresh) 0 17,
          Config.freeWord (.selfTest (128 + i)) s.fresh⟩
    let state := Config.freeWord (.selfTest 0) s.fresh
    .ok (palOk state, { s.purgeCaches with fr := fr })

/-- GR[r] of the translation insertion format (R201). -/
def TlbEntry.insertionWord (e : TlbEntry) : Word :=
  let b (v : Bool) (k : Nat) : Word := if v then BitVec.ofNat 64 (2 ^ k) else 0
  b e.p 0 ||| e.ma.zeroExtend 64 <<< 2 ||| b e.a 5 ||| b e.d 6 ||| e.pl.zeroExtend 64 <<< 7
    ||| e.ar.zeroExtend 64 <<< 9 ||| e.ppn.zeroExtend 64 <<< 12 ||| b e.ed 52

/-- The buffer of PAL_VM_TR_READ (R1071): GR[r], ITIR, IFA with bit 0 for a valid translation, and the region's rid; the
order of the words is a choice (log entry 30). -/
def trImage : Option TlbEntry → List Word
  | none => [0, 0, 0, 0]
  | some e => [e.insertionWord, e.itir, e.vpn.zeroExtend 64 <<< 12 ||| 1, e.rid.zeroExtend 64 <<< 8]

/-- PAL_VM_TR_READ (R1071): every field of an entry is kept, so every field is valid. -/
def palTrRead (regNum trType buffer : Word) (s : State) : PalReply :=
  let read (r : Option (Option TlbEntry)) : PalReply :=
    match r with
    | some e => palFill s buffer (trImage e) (palOk 0xF)
    | none => .ok (palInvalid, s)
  if trType = 0 then read s.itr[regNum.toNat]?
  else if trType = 1 then read s.dtr[regNum.toNat]?
  else .ok (palInvalid, s)

/-! ### Virtual environments (R1075 to R1081) -/

/-- Virtual machine features are not there, or disabled (R1056 bit 40). -/
def State.vmAbsent (s : State) : Bool := !Config.implVm || !bit s.pal.features 40

/-- PAL_VP_INIT_ENV (R1075): instruction and data translation registers map the buffer to `pbase`. With config_options bit 0
the call initialises the buffer; without it the buffer has to have been initialised, by an earlier call or by another
processor, else the argument is invalid (DESIGN CHOICE, log entry 30). What stands in the buffer is PAL's own: neither its
size nor its contents are in the source. -/
def palVpInitEnv (config pbase vbase : Word) (s : State) : PalReply :=
  let toBase (e : TlbEntry) : Bool := e.physical vbase == setBit pbase 63 false
  let mapped := (s.findTr s.itr vbase).any toBase && (s.findTr s.dtr vbase).any toBase
  let initialised := bit config 0 || s.pal.vpBuffer == some pbase
  if s.vmAbsent then .ok (palUnimplemented, s)
  else if !bit config 8 || fld config 3 5 != 0 || fld config 10 53 != 0 || fld pbase 0 12 != 0 || fld vbase 0 12 != 0
      || !mapped || !initialised then .ok (palInvalid, s)
  else
    .ok (palOk (Config.freeWord .vsaBase 0),
      { s with pal := { s.pal with 
        vpEntered := true, vpConfig := config, vpPbase := pbase, vpVbase := vbase, vpBuffer := some pbase } })

/-- Every 4 KB page of the 64 KB at `a` (R1080) is mapped, the last byte's page included where `a` begins within one. -/
def mapped64K (find : Word → Option TlbEntry) (a : Word) : Bool :=
  ((List.range 16).all fun k => (find (a + BitVec.ofNat 64 (4096 * k))).isSome) && (find (a + 0xFFFF)).isSome

/-- Instruction and data translation registers map the VPD (R1077 to R1079). -/
def State.vpdInTrs (s : State) (vpd : Word) : Bool := mapped64K (s.findTr s.itr) vpd && mapped64K (s.findTr s.dtr) vpd

/-- A VPD word in the environment's byte order (R1075, R1080). -/
def State.loadVpd (s : State) (a : Word) : Except Stop Word := palLoad s (bit s.pal.vpConfig 2) a

/-- The procedures on a virtual processor need an environment, and its VPD the environment's address (R1075, R1076). -/
def State.palVpd (s : State) (vpd : Word) : Except Stop Bool :=
  if !s.pal.vpEntered || fld vpd 0 3 != 0 then .ok false
  else do
    let env ← s.loadVpd (vpd + 16)
    .ok (env == s.pal.vpVbase)

/-- The registrations without those of a VPD. -/
def otherVps (vps : List VirtualProcessor) (vpd : Word) : List VirtualProcessor := vps.filter fun v => v.vpd ≠ vpd

/-- PAL_VP_REGISTER (R1076): a data translation maps the VPD, whose vac and vdc (R1080) hold a combination that is supported;
which are not is an opaque function of the two (log entry 62). A later call changes the registration. -/
def palVpRegister (vpd hostIva handler : Word) (s : State) : PalReply :=
  if s.vmAbsent then .ok (palUnimplemented, s)
  else if !mapped64K s.findData vpd then .ok (palInvalid, s)
  else do
    let good ← s.palVpd vpd
    if good then do
      let vac ← s.loadVpd vpd
      let vdc ← s.loadVpd (vpd + 8)
      if Config.vpUnsupported vac vdc then .ok (palInvalid, s)
      else .ok (palOk, { s with pal := { s.pal with vps := ⟨vpd, hostIva, handler⟩ :: otherVps s.pal.vps vpd } })
    else .ok (palInvalid, s)

/-- Under the acceleration a_from_cpuid the VPD's vcpuid[0], vcpuid[1] and bits 63:32 of vcpuid[4] are those of this processor
(R1080). The bit a_from_cpuid of vac is an opaque constant (log entry 43). -/
def State.vcpuidOk (s : State) (vpd vac : Word) : Except Stop Bool :=
  if bit vac Config.aFromCpuidBit.val then do
    let v0 ← s.loadVpd (vpd + 1296)
    let v1 ← s.loadVpd (vpd + 1304)
    let v4 ← s.loadVpd (vpd + 1328)
    .ok (v0 == Config.cpuid 0 && v1 == Config.cpuid 1 && v4 >>> 32 == Config.cpuid 4 >>> 32)
  else .ok true

/-- `s` with CR[IVA] written. -/
def State.setIva (s : State) (v : Word) : State := { s with cr := { s.cr with iva := v &&& ~~~(0x7FFF : Word) } }

/-- PAL_VP_RESTORE (R1077): interruptions go to the host IVT of the virtual processor, whose controls `vac` and `vdc`
(R1080, R1081) hold from now on. The VPD and the environment's buffer stand in translation registers; a vcpuid that differs
from this processor's is an invalid argument (D61). -/
def palVpRestore (vpd : Word) (s : State) : PalReply :=
  let env := s.pal.vpVbase
  if s.vmAbsent then .ok (palUnimplemented, s)
  else if !s.vpdInTrs vpd || (s.findTr s.itr env).isNone || (s.findTr s.dtr env).isNone then .ok (palInvalid, s)
  else do
    let good ← s.palVpd vpd
    match s.pal.vps.find? (fun v => v.vpd = vpd) with
    | none => .ok (palInvalid, s)
    | some v =>
      if good then do
        let vac ← s.loadVpd vpd
        let vdc ← s.loadVpd (vpd + 8)
        let cpuid ← s.vcpuidOk vpd vac
        if cpuid then .ok (palOk, { s.setIva v.hostIva with pal := { s.pal with vpRun := some ⟨vpd, vac, vdc⟩ } })
        else .ok (palInvalid, s)
      else .ok (palInvalid, s)

/-- The current virtual processor after `vpd` has been saved or terminated. That a save ends its run, so that intercepts no
longer reach its handler and its vdc no longer holds, is the model's: R1078 says only where IVA-based interruptions go (DESIGN
CHOICE, log entry 43). -/
def State.leaveVp (s : State) (vpd : Word) : Option VirtualRun := s.pal.vpRun.filter fun run => run.vpd != vpd

/-- PAL_VP_SAVE (R1078): what it saves is implementation specific; interruptions go where they went. -/
def palVpSave (vpd : Word) (s : State) : PalReply :=
  if s.vmAbsent then .ok (palUnimplemented, s)
  else if !s.vpdInTrs vpd then .ok (palInvalid, s)
  else do
    let good ← s.palVpd vpd
    .ok (if good then (palOk, { s with pal := { s.pal with vpRun := s.leaveVp vpd } }) else (palInvalid, s))

/-- PAL_VP_TERMINATE (R1079): the registration of this virtual processor ends. -/
def palVpTerminate (vpd iva : Word) (s : State) : PalReply :=
  if s.vmAbsent then .ok (palUnimplemented, s)
  else if !s.vpdInTrs vpd then .ok (palInvalid, s)
  else do
    let good ← s.palVpd vpd
    if good then
      let t := { s with pal := { s.pal with vps := otherVps s.pal.vps vpd, vpRun := s.leaveVp vpd } }
      .ok (palOk, if iva = 0 then t else t.setIva iva)
    else .ok (palInvalid, s)

/-! ### PAL_PROC (R1020, R1030) -/

/-- The mode in which the table of R1030 lets a procedure be called; an index without a procedure has any mode. R1021 lets
every procedure be called in physical mode; the table's "virtual only", with which R1075 to R1079 agree, is followed for 268
to 272 (DESIGN CHOICE, log entry 30). -/
def palMode : Nat → Option PalMode
  | 15 | 16 | 24 | 25 | 44 | 48 | 49 | 257 | 274 | 276 => some .both
  | 17 | 18 | 50 | 258 | 261 => some .physical
  | 268 | 269 | 270 | 271 | 272 => some .virtual
  | _ => none

/-- The arguments that a procedure does not use: reserved, and 0 (R1023, R1024). -/
def palReserved (index : Nat) (a1 a2 a3 : Word) : List Word :=
  match index with
  | 15 | 44 | 48 | 49 | 257 | 270 | 271 => [a2, a3]
  | 16 | 18 | 24 | 272 | 274 => [a3]
  | 17 => [a1, a3]
  | _ => []

/-- The procedures that R1030 calls dependent on the PAL memory buffer. -/
def palDependent (index : Nat) : Bool := [48, 49, 268, 269, 270, 271, 272, 276].contains index

/-- `PAL_PROC` (R1020): the procedure that `index` selects. PAL_VP_INFO is unimplemented on a physical processor (R1072),
and so is every procedure without a page (R1023, R1031, D60). -/
def palProc (index a1 a2 a3 : Word) (s : State) : PalReply :=
  if (palMode index.toNat).any (fun m => !s.palModeOk m) || (palReserved index.toNat a1 a2 a3).any (fun a => a != 0) then
    .ok (palInvalid, s)
  else if palDependent index.toNat && Config.palBufferNeeded then .ok (palNeedsBuffer, s)
  else
    match index.toNat with
    | 15 => palPerfMonInfo a1 s
    | 16 => palPlatformAddr a1 a2 s
    | 17 => palGetFeatures a2 s
    | 18 => palSetFeatures a1 a2 s
    | 24 => palDynamicState a1 a2 s
    | 25 => palErrorInfo a1 a2 a3 s
    | 44 => palPstateInfo a1 s
    | 48 => palGetPolicy a1 s
    | 49 => palSetPolicy a1 s
    | 257 => palHaltInfo a1 s
    | 258 => palTestProc a1 a2 a3 s
    | 261 => palTrRead a1 a2 a3 s
    | 268 => palVpInitEnv a1 a2 a3 s
    | 269 => palVpRegister a1 a2 a3 s
    | 270 => palVpRestore a1 s
    | 271 => palVpSave a1 s
    | 272 => palVpTerminate a1 a2 s
    | 274 => palBrandInfo a1 a2 s
    | 276 => palErrorInject a1 a2 a3 s
    | _ => .ok (palUnimplemented, s)

end Sys2Proof.Machine
end

