-- ==== Sys2Proof/WellFormed.lean ====
section
/-! DEFINITION. Well-formed instructions: the conditions on encoded operands that no state changes. An instruction that
breaks one decodes all the same and, where PR[qp] is 1, raises the interruption its rule names; an assembler does not
write it. Conditions that the state decides (a target outside the frame, a privilege level) are the machine's. -/

namespace Sys2Proof

/-- GR0 is no target (R17, R51). -/
def targetOk (r : BitVec 7) : Bool := r != 0

/-- FR0 and FR1 are no targets (R17, R70). -/
def frTargetOk (f : BitVec 7) : Bool := f != 0 && f != 1

/-- A load that updates its base loads another register (R601). -/
def updateOk (r1 r3 : BitVec 7) : Bool := targetOk r1 && targetOk r3 && r1 != r3

/-- The two predicate targets of a compare differ (R790). -/
def predsOk (p1 p2 : BitVec 6) : Bool := p1 != p2

/-- A register pair: one odd, one even (R646). -/
def pairOk (f1 f2 : BitVec 7) : Bool := frTargetOk f1 && frTargetOk f2 && f1.getLsbD 0 != f2.getLsbD 0

/-- The shift count of `pshladd2` and `pshradd2` (R341). -/
def shiftOk (ct2d : BitVec 2) : Bool := ct2d != 3

/-- The permutations of `mux1` (R885). -/
def muxOk (mbt4c : BitVec 4) : Bool := [0, 8, 9, 10, 11].contains mbt4c

/-- Application registers that `mov.i` (PFS, LC, EC) or `mov.m` (the others) can name; the ignored ones either (R80, R92,
R93). -/
def arOk (iForm : Bool) (ar3 : BitVec 7) : Bool :=
  let n := ar3.toNat
  if (48 ≤ n ∧ n < 64) ∨ 112 ≤ n then true
  else if n = 64 ∨ n = 65 ∨ n = 66 then iForm
  else !iForm && (decide (n < 8) || [16, 17, 18, 19, 21, 24, 25, 26, 27, 28, 29, 30, 32, 36, 40, 44, 45].contains n)

/-- A `mov` to an application register does not name BSP (R87). -/
def arTargetOk (iForm : Bool) (ar3 : BitVec 7) : Bool := arOk iForm ar3 && ar3 != 17

/-- The control registers that exist (R100). -/
def crOk (cr3 : BitVec 7) : Bool :=
  [0, 1, 2, 4, 8, 9, 16, 17, 19, 20, 21, 22, 23, 24, 25, 26, 27, 64, 65, 66, 67, 68, 69, 70, 71, 72, 73, 74, 80,
    81].contains cr3.toNat

/-- A `mov` to a control register does not name IVR or an IRR (R108). -/
def crTargetOk (cr3 : BitVec 7) : Bool := crOk cr3 && !([65, 68, 69, 70, 71].contains cr3.toNat)

/-- The frame of `alloc` (R829). -/
def frameOk (sor : BitVec 4) (sol sof : BitVec 7) : Bool :=
  decide (sof.toNat ≤ 96 ∧ sol.toNat ≤ sof.toNat ∧ 8 * sor.toNat ≤ sof.toNat)

/-- The immediate of `sum` and `rum` names user mask bits only (R684). -/
def userMaskOk (imm24 : BitVec 24) : Bool := imm24 &&& 0xFFFFC1 == 0

/-- The immediate of `ssm` and `rsm` names no reserved bit (R685, R110). -/
def systemMaskOk (imm24 : BitVec 24) : Bool := imm24 &&& 0x011FC1 == 0

/-- `br.ia` is not predicated (R556). -/
def unpredicated (qp : BitVec 6) : Bool := qp == 0

/-- The conditions of one instruction. -/
def Instr.wf : Instr → Bool
  | .addA1 _ r1 _ _ => targetOk r1
  | .addPlus1A1 _ r1 _ _ => targetOk r1
  | .subA1 _ r1 _ _ => targetOk r1
  | .subMinus1A1 _ r1 _ _ => targetOk r1
  | .addp4A1 _ r1 _ _ => targetOk r1
  | .andA1 _ r1 _ _ => targetOk r1
  | .andcmA1 _ r1 _ _ => targetOk r1
  | .orA1 _ r1 _ _ => targetOk r1
  | .xorA1 _ r1 _ _ => targetOk r1
  | .shladdA2 _ r1 _ _ _ => targetOk r1
  | .shladdp4A2 _ r1 _ _ _ => targetOk r1
  | .subA3 _ r1 _ _ => targetOk r1
  | .andA3 _ r1 _ _ => targetOk r1
  | .andcmA3 _ r1 _ _ => targetOk r1
  | .orA3 _ r1 _ _ => targetOk r1
  | .xorA3 _ r1 _ _ => targetOk r1
  | .addsA4 _ r1 _ _ => targetOk r1
  | .addp4A4 _ r1 _ _ => targetOk r1
  | .addlA5 _ r1 _ _ => targetOk r1
  | .cmpLtA6 _ p1 p2 _ _ => predsOk p1 p2
  | .cmpLtuA6 _ p1 p2 _ _ => predsOk p1 p2
  | .cmpEqA6 _ p1 p2 _ _ => predsOk p1 p2
  | .cmpLtUncA6 _ p1 p2 _ _ => predsOk p1 p2
  | .cmpLtuUncA6 _ p1 p2 _ _ => predsOk p1 p2
  | .cmpEqUncA6 _ p1 p2 _ _ => predsOk p1 p2
  | .cmpEqAndA6 _ p1 p2 _ _ => predsOk p1 p2
  | .cmpEqOrA6 _ p1 p2 _ _ => predsOk p1 p2
  | .cmpEqOrAndcmA6 _ p1 p2 _ _ => predsOk p1 p2
  | .cmpNeAndA6 _ p1 p2 _ _ => predsOk p1 p2
  | .cmpNeOrA6 _ p1 p2 _ _ => predsOk p1 p2
  | .cmpNeOrAndcmA6 _ p1 p2 _ _ => predsOk p1 p2
  | .cmpGtAndA7 _ p1 p2 _ => predsOk p1 p2
  | .cmpGtOrA7 _ p1 p2 _ => predsOk p1 p2
  | .cmpGtOrAndcmA7 _ p1 p2 _ => predsOk p1 p2
  | .cmpLeAndA7 _ p1 p2 _ => predsOk p1 p2
  | .cmpLeOrA7 _ p1 p2 _ => predsOk p1 p2
  | .cmpLeOrAndcmA7 _ p1 p2 _ => predsOk p1 p2
  | .cmpGeAndA7 _ p1 p2 _ => predsOk p1 p2
  | .cmpGeOrA7 _ p1 p2 _ => predsOk p1 p2
  | .cmpGeOrAndcmA7 _ p1 p2 _ => predsOk p1 p2
  | .cmpLtAndA7 _ p1 p2 _ => predsOk p1 p2
  | .cmpLtOrA7 _ p1 p2 _ => predsOk p1 p2
  | .cmpLtOrAndcmA7 _ p1 p2 _ => predsOk p1 p2
  | .cmpLtA8 _ p1 p2 _ _ => predsOk p1 p2
  | .cmpLtuA8 _ p1 p2 _ _ => predsOk p1 p2
  | .cmpEqA8 _ p1 p2 _ _ => predsOk p1 p2
  | .cmpLtUncA8 _ p1 p2 _ _ => predsOk p1 p2
  | .cmpLtuUncA8 _ p1 p2 _ _ => predsOk p1 p2
  | .cmpEqUncA8 _ p1 p2 _ _ => predsOk p1 p2
  | .cmpEqAndA8 _ p1 p2 _ _ => predsOk p1 p2
  | .cmpEqOrA8 _ p1 p2 _ _ => predsOk p1 p2
  | .cmpEqOrAndcmA8 _ p1 p2 _ _ => predsOk p1 p2
  | .cmpNeAndA8 _ p1 p2 _ _ => predsOk p1 p2
  | .cmpNeOrA8 _ p1 p2 _ _ => predsOk p1 p2
  | .cmpNeOrAndcmA8 _ p1 p2 _ _ => predsOk p1 p2
  | .cmp4LtA6 _ p1 p2 _ _ => predsOk p1 p2
  | .cmp4LtuA6 _ p1 p2 _ _ => predsOk p1 p2
  | .cmp4EqA6 _ p1 p2 _ _ => predsOk p1 p2
  | .cmp4LtUncA6 _ p1 p2 _ _ => predsOk p1 p2
  | .cmp4LtuUncA6 _ p1 p2 _ _ => predsOk p1 p2
  | .cmp4EqUncA6 _ p1 p2 _ _ => predsOk p1 p2
  | .cmp4EqAndA6 _ p1 p2 _ _ => predsOk p1 p2
  | .cmp4EqOrA6 _ p1 p2 _ _ => predsOk p1 p2
  | .cmp4EqOrAndcmA6 _ p1 p2 _ _ => predsOk p1 p2
  | .cmp4NeAndA6 _ p1 p2 _ _ => predsOk p1 p2
  | .cmp4NeOrA6 _ p1 p2 _ _ => predsOk p1 p2
  | .cmp4NeOrAndcmA6 _ p1 p2 _ _ => predsOk p1 p2
  | .cmp4GtAndA7 _ p1 p2 _ => predsOk p1 p2
  | .cmp4GtOrA7 _ p1 p2 _ => predsOk p1 p2
  | .cmp4GtOrAndcmA7 _ p1 p2 _ => predsOk p1 p2
  | .cmp4LeAndA7 _ p1 p2 _ => predsOk p1 p2
  | .cmp4LeOrA7 _ p1 p2 _ => predsOk p1 p2
  | .cmp4LeOrAndcmA7 _ p1 p2 _ => predsOk p1 p2
  | .cmp4GeAndA7 _ p1 p2 _ => predsOk p1 p2
  | .cmp4GeOrA7 _ p1 p2 _ => predsOk p1 p2
  | .cmp4GeOrAndcmA7 _ p1 p2 _ => predsOk p1 p2
  | .cmp4LtAndA7 _ p1 p2 _ => predsOk p1 p2
  | .cmp4LtOrA7 _ p1 p2 _ => predsOk p1 p2
  | .cmp4LtOrAndcmA7 _ p1 p2 _ => predsOk p1 p2
  | .cmp4LtA8 _ p1 p2 _ _ => predsOk p1 p2
  | .cmp4LtuA8 _ p1 p2 _ _ => predsOk p1 p2
  | .cmp4EqA8 _ p1 p2 _ _ => predsOk p1 p2
  | .cmp4LtUncA8 _ p1 p2 _ _ => predsOk p1 p2
  | .cmp4LtuUncA8 _ p1 p2 _ _ => predsOk p1 p2
  | .cmp4EqUncA8 _ p1 p2 _ _ => predsOk p1 p2
  | .cmp4EqAndA8 _ p1 p2 _ _ => predsOk p1 p2
  | .cmp4EqOrA8 _ p1 p2 _ _ => predsOk p1 p2
  | .cmp4EqOrAndcmA8 _ p1 p2 _ _ => predsOk p1 p2
  | .cmp4NeAndA8 _ p1 p2 _ _ => predsOk p1 p2
  | .cmp4NeOrA8 _ p1 p2 _ _ => predsOk p1 p2
  | .cmp4NeOrAndcmA8 _ p1 p2 _ _ => predsOk p1 p2
  | .padd1A9 _ r1 _ _ => targetOk r1
  | .padd2A9 _ r1 _ _ => targetOk r1
  | .padd4A9 _ r1 _ _ => targetOk r1
  | .padd1SssA9 _ r1 _ _ => targetOk r1
  | .padd2SssA9 _ r1 _ _ => targetOk r1
  | .padd1UuuA9 _ r1 _ _ => targetOk r1
  | .padd2UuuA9 _ r1 _ _ => targetOk r1
  | .padd1UusA9 _ r1 _ _ => targetOk r1
  | .padd2UusA9 _ r1 _ _ => targetOk r1
  | .psub1A9 _ r1 _ _ => targetOk r1
  | .psub2A9 _ r1 _ _ => targetOk r1
  | .psub4A9 _ r1 _ _ => targetOk r1
  | .psub1SssA9 _ r1 _ _ => targetOk r1
  | .psub2SssA9 _ r1 _ _ => targetOk r1
  | .psub1UuuA9 _ r1 _ _ => targetOk r1
  | .psub2UuuA9 _ r1 _ _ => targetOk r1
  | .psub1UusA9 _ r1 _ _ => targetOk r1
  | .psub2UusA9 _ r1 _ _ => targetOk r1
  | .pavg1A9 _ r1 _ _ => targetOk r1
  | .pavg2A9 _ r1 _ _ => targetOk r1
  | .pavg1RazA9 _ r1 _ _ => targetOk r1
  | .pavg2RazA9 _ r1 _ _ => targetOk r1
  | .pavgsub1A9 _ r1 _ _ => targetOk r1
  | .pavgsub2A9 _ r1 _ _ => targetOk r1
  | .pcmp1EqA9 _ r1 _ _ => targetOk r1
  | .pcmp2EqA9 _ r1 _ _ => targetOk r1
  | .pcmp4EqA9 _ r1 _ _ => targetOk r1
  | .pcmp1GtA9 _ r1 _ _ => targetOk r1
  | .pcmp2GtA9 _ r1 _ _ => targetOk r1
  | .pcmp4GtA9 _ r1 _ _ => targetOk r1
  | .pshladd2A10 _ r1 _ _ ct2d => targetOk r1 && shiftOk ct2d
  | .pshradd2A10 _ r1 _ _ ct2d => targetOk r1 && shiftOk ct2d
  | .pmpyshr2I1 _ r1 _ _ _ => targetOk r1
  | .pmpyshr2UI1 _ r1 _ _ _ => targetOk r1
  | .unpack1HI2 _ r1 _ _ => targetOk r1
  | .mix1RI2 _ r1 _ _ => targetOk r1
  | .pmin1UI2 _ r1 _ _ => targetOk r1
  | .pmax1UI2 _ r1 _ _ => targetOk r1
  | .unpack1LI2 _ r1 _ _ => targetOk r1
  | .mix1LI2 _ r1 _ _ => targetOk r1
  | .psad1I2 _ r1 _ _ => targetOk r1
  | .pack2UssI2 _ r1 _ _ => targetOk r1
  | .unpack2HI2 _ r1 _ _ => targetOk r1
  | .mix2RI2 _ r1 _ _ => targetOk r1
  | .pmpy2RI2 _ r1 _ _ => targetOk r1
  | .pack2SssI2 _ r1 _ _ => targetOk r1
  | .unpack2LI2 _ r1 _ _ => targetOk r1
  | .mix2LI2 _ r1 _ _ => targetOk r1
  | .pmin2I2 _ r1 _ _ => targetOk r1
  | .pmax2I2 _ r1 _ _ => targetOk r1
  | .pmpy2LI2 _ r1 _ _ => targetOk r1
  | .mpy4I2 _ r1 _ _ => targetOk r1
  | .mpyshl4I2 _ r1 _ _ => targetOk r1
  | .unpack4HI2 _ r1 _ _ => targetOk r1
  | .mix4RI2 _ r1 _ _ => targetOk r1
  | .pack4SssI2 _ r1 _ _ => targetOk r1
  | .unpack4LI2 _ r1 _ _ => targetOk r1
  | .mix4LI2 _ r1 _ _ => targetOk r1
  | .mux1I3 _ r1 _ mbt4c => targetOk r1 && muxOk mbt4c
  | .mux2I4 _ r1 _ _ => targetOk r1
  | .pshr2I5 _ r1 _ _ => targetOk r1
  | .pshr4I5 _ r1 _ _ => targetOk r1
  | .shrI5 _ r1 _ _ => targetOk r1
  | .pshr2UI5 _ r1 _ _ => targetOk r1
  | .pshr4UI5 _ r1 _ _ => targetOk r1
  | .shrUI5 _ r1 _ _ => targetOk r1
  | .pshr2I6 _ r1 _ _ => targetOk r1
  | .pshr4I6 _ r1 _ _ => targetOk r1
  | .pshr2UI6 _ r1 _ _ => targetOk r1
  | .pshr4UI6 _ r1 _ _ => targetOk r1
  | .pshl2I7 _ r1 _ _ => targetOk r1
  | .pshl4I7 _ r1 _ _ => targetOk r1
  | .shlI7 _ r1 _ _ => targetOk r1
  | .pshl2I8 _ r1 _ _ => targetOk r1
  | .pshl4I8 _ r1 _ _ => targetOk r1
  | .popcntI9 _ r1 _ => targetOk r1
  | .clzI9 _ r1 _ => targetOk r1
  | .shrpI10 _ r1 _ _ _ => targetOk r1
  | .extrUI11 _ r1 _ _ _ => targetOk r1
  | .extrI11 _ r1 _ _ _ => targetOk r1
  | .depZI12 _ r1 _ _ _ => targetOk r1
  | .depZI13 _ r1 _ _ _ => targetOk r1
  | .depI14 _ r1 _ _ _ _ => targetOk r1
  | .depI15 _ r1 _ _ _ _ => targetOk r1
  | .tbitZI16 _ p1 p2 _ _ => predsOk p1 p2
  | .tnatZI17 _ p1 p2 _ => predsOk p1 p2
  | .tfZI30 _ p1 p2 _ => predsOk p1 p2
  | .tbitZUncI16 _ p1 p2 _ _ => predsOk p1 p2
  | .tnatZUncI17 _ p1 p2 _ => predsOk p1 p2
  | .tfZUncI30 _ p1 p2 _ => predsOk p1 p2
  | .tbitZAndI16 _ p1 p2 _ _ => predsOk p1 p2
  | .tnatZAndI17 _ p1 p2 _ => predsOk p1 p2
  | .tfZAndI30 _ p1 p2 _ => predsOk p1 p2
  | .tbitNzAndI16 _ p1 p2 _ _ => predsOk p1 p2
  | .tnatNzAndI17 _ p1 p2 _ => predsOk p1 p2
  | .tfNzAndI30 _ p1 p2 _ => predsOk p1 p2
  | .tbitZOrI16 _ p1 p2 _ _ => predsOk p1 p2
  | .tnatZOrI17 _ p1 p2 _ => predsOk p1 p2
  | .tfZOrI30 _ p1 p2 _ => predsOk p1 p2
  | .tbitNzOrI16 _ p1 p2 _ _ => predsOk p1 p2
  | .tnatNzOrI17 _ p1 p2 _ => predsOk p1 p2
  | .tfNzOrI30 _ p1 p2 _ => predsOk p1 p2
  | .tbitZOrAndcmI16 _ p1 p2 _ _ => predsOk p1 p2
  | .tnatZOrAndcmI17 _ p1 p2 _ => predsOk p1 p2
  | .tfZOrAndcmI30 _ p1 p2 _ => predsOk p1 p2
  | .tbitNzOrAndcmI16 _ p1 p2 _ _ => predsOk p1 p2
  | .tnatNzOrAndcmI17 _ p1 p2 _ => predsOk p1 p2
  | .tfNzOrAndcmI30 _ p1 p2 _ => predsOk p1 p2
  | .nopII18 _ _ => true
  | .hintII18 _ _ => true
  | .breakII19 _ _ => true
  | .chkSII20 _ _ _ => true
  | .movToBrI21 _ _ _ _ _ _ _ _ => true
  | .movRetToBrI21 _ _ _ _ _ _ _ _ => true
  | .movFromBrI22 _ r1 _ => targetOk r1
  | .movToPrI23 _ _ _ => true
  | .movToPrRotI24 _ _ => true
  | .movFromIpI25 _ r1 => targetOk r1
  | .movFromPrI25 _ r1 => targetOk r1
  | .movIToArI26 _ _ ar3 => arTargetOk true ar3
  | .movIToArImmI27 _ ar3 _ => arTargetOk true ar3
  | .movIFromArI28 _ r1 ar3 => targetOk r1 && arOk true ar3
  | .zxt1I29 _ r1 _ => targetOk r1
  | .zxt2I29 _ r1 _ => targetOk r1
  | .zxt4I29 _ r1 _ => targetOk r1
  | .sxt1I29 _ r1 _ => targetOk r1
  | .sxt2I29 _ r1 _ => targetOk r1
  | .sxt4I29 _ r1 _ => targetOk r1
  | .czx1LI29 _ r1 _ => targetOk r1
  | .czx2LI29 _ r1 _ => targetOk r1
  | .czx1RI29 _ r1 _ => targetOk r1
  | .czx2RI29 _ r1 _ => targetOk r1
  | .ld1M1 _ r1 _ _ _ => targetOk r1
  | .ld2M1 _ r1 _ _ _ => targetOk r1
  | .ld4M1 _ r1 _ _ _ => targetOk r1
  | .ld8M1 _ r1 _ _ _ => targetOk r1
  | .ld1SM1 _ r1 _ _ _ => targetOk r1
  | .ld2SM1 _ r1 _ _ _ => targetOk r1
  | .ld4SM1 _ r1 _ _ _ => targetOk r1
  | .ld8SM1 _ r1 _ _ _ => targetOk r1
  | .ld1AM1 _ r1 _ _ _ => targetOk r1
  | .ld2AM1 _ r1 _ _ _ => targetOk r1
  | .ld4AM1 _ r1 _ _ _ => targetOk r1
  | .ld8AM1 _ r1 _ _ _ => targetOk r1
  | .ld1SaM1 _ r1 _ _ _ => targetOk r1
  | .ld2SaM1 _ r1 _ _ _ => targetOk r1
  | .ld4SaM1 _ r1 _ _ _ => targetOk r1
  | .ld8SaM1 _ r1 _ _ _ => targetOk r1
  | .ld1BiasM1 _ r1 _ _ _ => targetOk r1
  | .ld2BiasM1 _ r1 _ _ _ => targetOk r1
  | .ld4BiasM1 _ r1 _ _ _ => targetOk r1
  | .ld8BiasM1 _ r1 _ _ _ => targetOk r1
  | .ld1AcqM1 _ r1 _ _ _ => targetOk r1
  | .ld2AcqM1 _ r1 _ _ _ => targetOk r1
  | .ld4AcqM1 _ r1 _ _ _ => targetOk r1
  | .ld8AcqM1 _ r1 _ _ _ => targetOk r1
  | .ld1CClrM1 _ r1 _ _ _ => targetOk r1
  | .ld2CClrM1 _ r1 _ _ _ => targetOk r1
  | .ld4CClrM1 _ r1 _ _ _ => targetOk r1
  | .ld8CClrM1 _ r1 _ _ _ => targetOk r1
  | .ld1CNcM1 _ r1 _ _ _ => targetOk r1
  | .ld2CNcM1 _ r1 _ _ _ => targetOk r1
  | .ld4CNcM1 _ r1 _ _ _ => targetOk r1
  | .ld8CNcM1 _ r1 _ _ _ => targetOk r1
  | .ld1CClrAcqM1 _ r1 _ _ _ => targetOk r1
  | .ld2CClrAcqM1 _ r1 _ _ _ => targetOk r1
  | .ld4CClrAcqM1 _ r1 _ _ _ => targetOk r1
  | .ld8CClrAcqM1 _ r1 _ _ _ => targetOk r1
  | .ld8FillM1 _ r1 _ _ _ => targetOk r1
  | .ld1M2 _ r1 _ r3 _ => updateOk r1 r3
  | .ld2M2 _ r1 _ r3 _ => updateOk r1 r3
  | .ld4M2 _ r1 _ r3 _ => updateOk r1 r3
  | .ld8M2 _ r1 _ r3 _ => updateOk r1 r3
  | .ld1SM2 _ r1 _ r3 _ => updateOk r1 r3
  | .ld2SM2 _ r1 _ r3 _ => updateOk r1 r3
  | .ld4SM2 _ r1 _ r3 _ => updateOk r1 r3
  | .ld8SM2 _ r1 _ r3 _ => updateOk r1 r3
  | .ld1AM2 _ r1 _ r3 _ => updateOk r1 r3
  | .ld2AM2 _ r1 _ r3 _ => updateOk r1 r3
  | .ld4AM2 _ r1 _ r3 _ => updateOk r1 r3
  | .ld8AM2 _ r1 _ r3 _ => updateOk r1 r3
  | .ld1SaM2 _ r1 _ r3 _ => updateOk r1 r3
  | .ld2SaM2 _ r1 _ r3 _ => updateOk r1 r3
  | .ld4SaM2 _ r1 _ r3 _ => updateOk r1 r3
  | .ld8SaM2 _ r1 _ r3 _ => updateOk r1 r3
  | .ld1BiasM2 _ r1 _ r3 _ => updateOk r1 r3
  | .ld2BiasM2 _ r1 _ r3 _ => updateOk r1 r3
  | .ld4BiasM2 _ r1 _ r3 _ => updateOk r1 r3
  | .ld8BiasM2 _ r1 _ r3 _ => updateOk r1 r3
  | .ld1AcqM2 _ r1 _ r3 _ => updateOk r1 r3
  | .ld2AcqM2 _ r1 _ r3 _ => updateOk r1 r3
  | .ld4AcqM2 _ r1 _ r3 _ => updateOk r1 r3
  | .ld8AcqM2 _ r1 _ r3 _ => updateOk r1 r3
  | .ld1CClrM2 _ r1 _ r3 _ => updateOk r1 r3
  | .ld2CClrM2 _ r1 _ r3 _ => updateOk r1 r3
  | .ld4CClrM2 _ r1 _ r3 _ => updateOk r1 r3
  | .ld8CClrM2 _ r1 _ r3 _ => updateOk r1 r3
  | .ld1CNcM2 _ r1 _ r3 _ => updateOk r1 r3
  | .ld2CNcM2 _ r1 _ r3 _ => updateOk r1 r3
  | .ld4CNcM2 _ r1 _ r3 _ => updateOk r1 r3
  | .ld8CNcM2 _ r1 _ r3 _ => updateOk r1 r3
  | .ld1CClrAcqM2 _ r1 _ r3 _ => updateOk r1 r3
  | .ld2CClrAcqM2 _ r1 _ r3 _ => updateOk r1 r3
  | .ld4CClrAcqM2 _ r1 _ r3 _ => updateOk r1 r3
  | .ld8CClrAcqM2 _ r1 _ r3 _ => updateOk r1 r3
  | .ld8FillM2 _ r1 _ r3 _ => updateOk r1 r3
  | .ld1M3 _ r1 r3 _ _ => updateOk r1 r3
  | .ld2M3 _ r1 r3 _ _ => updateOk r1 r3
  | .ld4M3 _ r1 r3 _ _ => updateOk r1 r3
  | .ld8M3 _ r1 r3 _ _ => updateOk r1 r3
  | .ld1SM3 _ r1 r3 _ _ => updateOk r1 r3
  | .ld2SM3 _ r1 r3 _ _ => updateOk r1 r3
  | .ld4SM3 _ r1 r3 _ _ => updateOk r1 r3
  | .ld8SM3 _ r1 r3 _ _ => updateOk r1 r3
  | .ld1AM3 _ r1 r3 _ _ => updateOk r1 r3
  | .ld2AM3 _ r1 r3 _ _ => updateOk r1 r3
  | .ld4AM3 _ r1 r3 _ _ => updateOk r1 r3
  | .ld8AM3 _ r1 r3 _ _ => updateOk r1 r3
  | .ld1SaM3 _ r1 r3 _ _ => updateOk r1 r3
  | .ld2SaM3 _ r1 r3 _ _ => updateOk r1 r3
  | .ld4SaM3 _ r1 r3 _ _ => updateOk r1 r3
  | .ld8SaM3 _ r1 r3 _ _ => updateOk r1 r3
  | .ld1BiasM3 _ r1 r3 _ _ => updateOk r1 r3
  | .ld2BiasM3 _ r1 r3 _ _ => updateOk r1 r3
  | .ld4BiasM3 _ r1 r3 _ _ => updateOk r1 r3
  | .ld8BiasM3 _ r1 r3 _ _ => updateOk r1 r3
  | .ld1AcqM3 _ r1 r3 _ _ => updateOk r1 r3
  | .ld2AcqM3 _ r1 r3 _ _ => updateOk r1 r3
  | .ld4AcqM3 _ r1 r3 _ _ => updateOk r1 r3
  | .ld8AcqM3 _ r1 r3 _ _ => updateOk r1 r3
  | .ld1CClrM3 _ r1 r3 _ _ => updateOk r1 r3
  | .ld2CClrM3 _ r1 r3 _ _ => updateOk r1 r3
  | .ld4CClrM3 _ r1 r3 _ _ => updateOk r1 r3
  | .ld8CClrM3 _ r1 r3 _ _ => updateOk r1 r3
  | .ld1CNcM3 _ r1 r3 _ _ => updateOk r1 r3
  | .ld2CNcM3 _ r1 r3 _ _ => updateOk r1 r3
  | .ld4CNcM3 _ r1 r3 _ _ => updateOk r1 r3
  | .ld8CNcM3 _ r1 r3 _ _ => updateOk r1 r3
  | .ld1CClrAcqM3 _ r1 r3 _ _ => updateOk r1 r3
  | .ld2CClrAcqM3 _ r1 r3 _ _ => updateOk r1 r3
  | .ld4CClrAcqM3 _ r1 r3 _ _ => updateOk r1 r3
  | .ld8CClrAcqM3 _ r1 r3 _ _ => updateOk r1 r3
  | .ld8FillM3 _ r1 r3 _ _ => updateOk r1 r3
  | .ld16M1 _ r1 _ _ _ => targetOk r1
  | .ld16AcqM1 _ r1 _ _ _ => targetOk r1
  | .st1M4 _ _ _ _ _ => true
  | .st2M4 _ _ _ _ _ => true
  | .st4M4 _ _ _ _ _ => true
  | .st8M4 _ _ _ _ _ => true
  | .st1RelM4 _ _ _ _ _ => true
  | .st2RelM4 _ _ _ _ _ => true
  | .st4RelM4 _ _ _ _ _ => true
  | .st8RelM4 _ _ _ _ _ => true
  | .st8SpillM4 _ _ _ _ _ => true
  | .st1M5 _ _ r3 _ _ => targetOk r3
  | .st2M5 _ _ r3 _ _ => targetOk r3
  | .st4M5 _ _ r3 _ _ => targetOk r3
  | .st8M5 _ _ r3 _ _ => targetOk r3
  | .st1RelM5 _ _ r3 _ _ => targetOk r3
  | .st2RelM5 _ _ r3 _ _ => targetOk r3
  | .st4RelM5 _ _ r3 _ _ => targetOk r3
  | .st8RelM5 _ _ r3 _ _ => targetOk r3
  | .st8SpillM5 _ _ r3 _ _ => targetOk r3
  | .st16M4 _ _ _ _ _ => true
  | .st16RelM4 _ _ _ _ _ => true
  | .ldfeM6 _ f1 _ _ _ => frTargetOk f1
  | .ldf8M6 _ f1 _ _ _ => frTargetOk f1
  | .ldfsM6 _ f1 _ _ _ => frTargetOk f1
  | .ldfdM6 _ f1 _ _ _ => frTargetOk f1
  | .ldfeSM6 _ f1 _ _ _ => frTargetOk f1
  | .ldf8SM6 _ f1 _ _ _ => frTargetOk f1
  | .ldfsSM6 _ f1 _ _ _ => frTargetOk f1
  | .ldfdSM6 _ f1 _ _ _ => frTargetOk f1
  | .ldfeAM6 _ f1 _ _ _ => frTargetOk f1
  | .ldf8AM6 _ f1 _ _ _ => frTargetOk f1
  | .ldfsAM6 _ f1 _ _ _ => frTargetOk f1
  | .ldfdAM6 _ f1 _ _ _ => frTargetOk f1
  | .ldfeSaM6 _ f1 _ _ _ => frTargetOk f1
  | .ldf8SaM6 _ f1 _ _ _ => frTargetOk f1
  | .ldfsSaM6 _ f1 _ _ _ => frTargetOk f1
  | .ldfdSaM6 _ f1 _ _ _ => frTargetOk f1
  | .ldfeCClrM6 _ f1 _ _ _ => frTargetOk f1
  | .ldf8CClrM6 _ f1 _ _ _ => frTargetOk f1
  | .ldfsCClrM6 _ f1 _ _ _ => frTargetOk f1
  | .ldfdCClrM6 _ f1 _ _ _ => frTargetOk f1
  | .ldfeCNcM6 _ f1 _ _ _ => frTargetOk f1
  | .ldf8CNcM6 _ f1 _ _ _ => frTargetOk f1
  | .ldfsCNcM6 _ f1 _ _ _ => frTargetOk f1
  | .ldfdCNcM6 _ f1 _ _ _ => frTargetOk f1
  | .ldfFillM6 _ f1 _ _ _ => frTargetOk f1
  | .ldfeM7 _ f1 _ r3 _ => frTargetOk f1 && targetOk r3
  | .ldf8M7 _ f1 _ r3 _ => frTargetOk f1 && targetOk r3
  | .ldfsM7 _ f1 _ r3 _ => frTargetOk f1 && targetOk r3
  | .ldfdM7 _ f1 _ r3 _ => frTargetOk f1 && targetOk r3
  | .ldfeSM7 _ f1 _ r3 _ => frTargetOk f1 && targetOk r3
  | .ldf8SM7 _ f1 _ r3 _ => frTargetOk f1 && targetOk r3
  | .ldfsSM7 _ f1 _ r3 _ => frTargetOk f1 && targetOk r3
  | .ldfdSM7 _ f1 _ r3 _ => frTargetOk f1 && targetOk r3
  | .ldfeAM7 _ f1 _ r3 _ => frTargetOk f1 && targetOk r3
  | .ldf8AM7 _ f1 _ r3 _ => frTargetOk f1 && targetOk r3
  | .ldfsAM7 _ f1 _ r3 _ => frTargetOk f1 && targetOk r3
  | .ldfdAM7 _ f1 _ r3 _ => frTargetOk f1 && targetOk r3
  | .ldfeSaM7 _ f1 _ r3 _ => frTargetOk f1 && targetOk r3
  | .ldf8SaM7 _ f1 _ r3 _ => frTargetOk f1 && targetOk r3
  | .ldfsSaM7 _ f1 _ r3 _ => frTargetOk f1 && targetOk r3
  | .ldfdSaM7 _ f1 _ r3 _ => frTargetOk f1 && targetOk r3
  | .ldfeCClrM7 _ f1 _ r3 _ => frTargetOk f1 && targetOk r3
  | .ldf8CClrM7 _ f1 _ r3 _ => frTargetOk f1 && targetOk r3
  | .ldfsCClrM7 _ f1 _ r3 _ => frTargetOk f1 && targetOk r3
  | .ldfdCClrM7 _ f1 _ r3 _ => frTargetOk f1 && targetOk r3
  | .ldfeCNcM7 _ f1 _ r3 _ => frTargetOk f1 && targetOk r3
  | .ldf8CNcM7 _ f1 _ r3 _ => frTargetOk f1 && targetOk r3
  | .ldfsCNcM7 _ f1 _ r3 _ => frTargetOk f1 && targetOk r3
  | .ldfdCNcM7 _ f1 _ r3 _ => frTargetOk f1 && targetOk r3
  | .ldfFillM7 _ f1 _ r3 _ => frTargetOk f1 && targetOk r3
  | .ldfeM8 _ f1 r3 _ _ => frTargetOk f1 && targetOk r3
  | .ldf8M8 _ f1 r3 _ _ => frTargetOk f1 && targetOk r3
  | .ldfsM8 _ f1 r3 _ _ => frTargetOk f1 && targetOk r3
  | .ldfdM8 _ f1 r3 _ _ => frTargetOk f1 && targetOk r3
  | .ldfeSM8 _ f1 r3 _ _ => frTargetOk f1 && targetOk r3
  | .ldf8SM8 _ f1 r3 _ _ => frTargetOk f1 && targetOk r3
  | .ldfsSM8 _ f1 r3 _ _ => frTargetOk f1 && targetOk r3
  | .ldfdSM8 _ f1 r3 _ _ => frTargetOk f1 && targetOk r3
  | .ldfeAM8 _ f1 r3 _ _ => frTargetOk f1 && targetOk r3
  | .ldf8AM8 _ f1 r3 _ _ => frTargetOk f1 && targetOk r3
  | .ldfsAM8 _ f1 r3 _ _ => frTargetOk f1 && targetOk r3
  | .ldfdAM8 _ f1 r3 _ _ => frTargetOk f1 && targetOk r3
  | .ldfeSaM8 _ f1 r3 _ _ => frTargetOk f1 && targetOk r3
  | .ldf8SaM8 _ f1 r3 _ _ => frTargetOk f1 && targetOk r3
  | .ldfsSaM8 _ f1 r3 _ _ => frTargetOk f1 && targetOk r3
  | .ldfdSaM8 _ f1 r3 _ _ => frTargetOk f1 && targetOk r3
  | .ldfeCClrM8 _ f1 r3 _ _ => frTargetOk f1 && targetOk r3
  | .ldf8CClrM8 _ f1 r3 _ _ => frTargetOk f1 && targetOk r3
  | .ldfsCClrM8 _ f1 r3 _ _ => frTargetOk f1 && targetOk r3
  | .ldfdCClrM8 _ f1 r3 _ _ => frTargetOk f1 && targetOk r3
  | .ldfeCNcM8 _ f1 r3 _ _ => frTargetOk f1 && targetOk r3
  | .ldf8CNcM8 _ f1 r3 _ _ => frTargetOk f1 && targetOk r3
  | .ldfsCNcM8 _ f1 r3 _ _ => frTargetOk f1 && targetOk r3
  | .ldfdCNcM8 _ f1 r3 _ _ => frTargetOk f1 && targetOk r3
  | .ldfFillM8 _ f1 r3 _ _ => frTargetOk f1 && targetOk r3
  | .stfeM9 _ _ _ _ _ => true
  | .stf8M9 _ _ _ _ _ => true
  | .stfsM9 _ _ _ _ _ => true
  | .stfdM9 _ _ _ _ _ => true
  | .stfSpillM9 _ _ _ _ _ => true
  | .stfeM10 _ _ r3 _ _ => targetOk r3
  | .stf8M10 _ _ r3 _ _ => targetOk r3
  | .stfsM10 _ _ r3 _ _ => targetOk r3
  | .stfdM10 _ _ r3 _ _ => targetOk r3
  | .stfSpillM10 _ _ r3 _ _ => targetOk r3
  | .ldfp8M11 _ f1 f2 _ _ => pairOk f1 f2
  | .ldfpsM11 _ f1 f2 _ _ => pairOk f1 f2
  | .ldfpdM11 _ f1 f2 _ _ => pairOk f1 f2
  | .ldfp8SM11 _ f1 f2 _ _ => pairOk f1 f2
  | .ldfpsSM11 _ f1 f2 _ _ => pairOk f1 f2
  | .ldfpdSM11 _ f1 f2 _ _ => pairOk f1 f2
  | .ldfp8AM11 _ f1 f2 _ _ => pairOk f1 f2
  | .ldfpsAM11 _ f1 f2 _ _ => pairOk f1 f2
  | .ldfpdAM11 _ f1 f2 _ _ => pairOk f1 f2
  | .ldfp8SaM11 _ f1 f2 _ _ => pairOk f1 f2
  | .ldfpsSaM11 _ f1 f2 _ _ => pairOk f1 f2
  | .ldfpdSaM11 _ f1 f2 _ _ => pairOk f1 f2
  | .ldfp8CClrM11 _ f1 f2 _ _ => pairOk f1 f2
  | .ldfpsCClrM11 _ f1 f2 _ _ => pairOk f1 f2
  | .ldfpdCClrM11 _ f1 f2 _ _ => pairOk f1 f2
  | .ldfp8CNcM11 _ f1 f2 _ _ => pairOk f1 f2
  | .ldfpsCNcM11 _ f1 f2 _ _ => pairOk f1 f2
  | .ldfpdCNcM11 _ f1 f2 _ _ => pairOk f1 f2
  | .ldfp8M12 _ f1 f2 r3 _ => pairOk f1 f2 && targetOk r3
  | .ldfpsM12 _ f1 f2 r3 _ => pairOk f1 f2 && targetOk r3
  | .ldfpdM12 _ f1 f2 r3 _ => pairOk f1 f2 && targetOk r3
  | .ldfp8SM12 _ f1 f2 r3 _ => pairOk f1 f2 && targetOk r3
  | .ldfpsSM12 _ f1 f2 r3 _ => pairOk f1 f2 && targetOk r3
  | .ldfpdSM12 _ f1 f2 r3 _ => pairOk f1 f2 && targetOk r3
  | .ldfp8AM12 _ f1 f2 r3 _ => pairOk f1 f2 && targetOk r3
  | .ldfpsAM12 _ f1 f2 r3 _ => pairOk f1 f2 && targetOk r3
  | .ldfpdAM12 _ f1 f2 r3 _ => pairOk f1 f2 && targetOk r3
  | .ldfp8SaM12 _ f1 f2 r3 _ => pairOk f1 f2 && targetOk r3
  | .ldfpsSaM12 _ f1 f2 r3 _ => pairOk f1 f2 && targetOk r3
  | .ldfpdSaM12 _ f1 f2 r3 _ => pairOk f1 f2 && targetOk r3
  | .ldfp8CClrM12 _ f1 f2 r3 _ => pairOk f1 f2 && targetOk r3
  | .ldfpsCClrM12 _ f1 f2 r3 _ => pairOk f1 f2 && targetOk r3
  | .ldfpdCClrM12 _ f1 f2 r3 _ => pairOk f1 f2 && targetOk r3
  | .ldfp8CNcM12 _ f1 f2 r3 _ => pairOk f1 f2 && targetOk r3
  | .ldfpsCNcM12 _ f1 f2 r3 _ => pairOk f1 f2 && targetOk r3
  | .ldfpdCNcM12 _ f1 f2 r3 _ => pairOk f1 f2 && targetOk r3
  | .lfetchExclM13 _ _ _ _ => true
  | .lfetchFaultM13 _ _ _ _ => true
  | .lfetchFaultExclM13 _ _ _ _ => true
  | .lfetchM51 _ _ _ _ => true
  | .lfetchCountM52 _ _ _ _ _ _ => true
  | .lfetchM14 _ _ r3 _ _ => targetOk r3
  | .lfetchExclM14 _ _ r3 _ _ => targetOk r3
  | .lfetchFaultM14 _ _ r3 _ _ => targetOk r3
  | .lfetchFaultExclM14 _ _ r3 _ _ => targetOk r3
  | .lfetchM15 _ r3 _ _ _ => targetOk r3
  | .lfetchExclM15 _ r3 _ _ _ => targetOk r3
  | .lfetchFaultM15 _ r3 _ _ _ => targetOk r3
  | .lfetchFaultExclM15 _ r3 _ _ _ => targetOk r3
  | .cmpxchg1AcqM16 _ r1 _ _ _ => targetOk r1
  | .cmpxchg1RelM16 _ r1 _ _ _ => targetOk r1
  | .xchg1M16 _ r1 _ _ _ => targetOk r1
  | .cmpxchg2AcqM16 _ r1 _ _ _ => targetOk r1
  | .cmpxchg2RelM16 _ r1 _ _ _ => targetOk r1
  | .xchg2M16 _ r1 _ _ _ => targetOk r1
  | .cmpxchg4AcqM16 _ r1 _ _ _ => targetOk r1
  | .cmpxchg4RelM16 _ r1 _ _ _ => targetOk r1
  | .xchg4M16 _ r1 _ _ _ => targetOk r1
  | .cmpxchg8AcqM16 _ r1 _ _ _ => targetOk r1
  | .cmpxchg8RelM16 _ r1 _ _ _ => targetOk r1
  | .xchg8M16 _ r1 _ _ _ => targetOk r1
  | .cmp8xchg16AcqM16 _ r1 _ _ _ => targetOk r1
  | .cmp8xchg16RelM16 _ r1 _ _ _ => targetOk r1
  | .fetchadd4AcqM17 _ r1 _ _ _ => targetOk r1
  | .fetchadd8AcqM17 _ r1 _ _ _ => targetOk r1
  | .fetchadd4RelM17 _ r1 _ _ _ => targetOk r1
  | .fetchadd8RelM17 _ r1 _ _ _ => targetOk r1
  | .setfSigM18 _ f1 _ => frTargetOk f1
  | .getfSigM19 _ r1 _ => targetOk r1
  | .setfExpM18 _ f1 _ => frTargetOk f1
  | .getfExpM19 _ r1 _ => targetOk r1
  | .setfSM18 _ f1 _ => frTargetOk f1
  | .getfSM19 _ r1 _ => targetOk r1
  | .setfDM18 _ f1 _ => frTargetOk f1
  | .getfDM19 _ r1 _ => targetOk r1
  | .chkSMM20 _ _ _ => true
  | .chkSM21 _ _ _ => true
  | .chkANcM22 _ _ _ => true
  | .chkAClrM22 _ _ _ => true
  | .chkANcM23 _ _ _ => true
  | .chkAClrM23 _ _ _ => true
  | .invalaM24 _ => true
  | .fwbM24 _ => true
  | .mfM24 _ => true
  | .mfAM24 _ => true
  | .srlzDM24 _ => true
  | .srlzIM24 _ => true
  | .syncIM24 _ => true
  | .flushrsM25 => true
  | .loadrsM25 => true
  | .invalaEM26 _ _ => true
  | .invalaEM27 _ _ => true
  | .fcM28 _ _ => true
  | .fcIM28 _ _ => true
  | .movMToArM29 _ _ ar3 => arTargetOk false ar3
  | .movMToArImmM30 _ ar3 _ => arTargetOk false ar3
  | .movMFromArM31 _ r1 ar3 => targetOk r1 && arOk false ar3
  | .movToCrM32 _ _ cr3 => crTargetOk cr3
  | .movFromCrM33 _ r1 cr3 => targetOk r1 && crOk cr3
  | .allocM34 _ r1 sor sol sof => targetOk r1 && frameOk sor sol sof
  | .movToPsrLM35 _ _ => true
  | .movToPsrUmM35 _ _ => true
  | .movFromPsrM36 _ r1 => targetOk r1
  | .movFromPsrUmM36 _ r1 => targetOk r1
  | .breakMM37 _ _ => true
  | .probeRM38 _ r1 _ _ => targetOk r1
  | .probeWM38 _ r1 _ _ => targetOk r1
  | .probeRM39 _ r1 _ _ => targetOk r1
  | .probeWM39 _ r1 _ _ => targetOk r1
  | .probeRwFaultM40 _ _ _ => true
  | .probeRFaultM40 _ _ _ => true
  | .probeWFaultM40 _ _ _ => true
  | .itcDM41 _ _ => true
  | .itcIM41 _ _ => true
  | .movToRrM42 _ _ _ => true
  | .movToDbrM42 _ _ _ => true
  | .movToIbrM42 _ _ _ => true
  | .movToPkrM42 _ _ _ => true
  | .movToPmcM42 _ _ _ => true
  | .movToPmdM42 _ _ _ => true
  | .itrDM42 _ _ _ => true
  | .itrIM42 _ _ _ => true
  | .movFromRrM43 _ r1 _ => targetOk r1
  | .movFromDbrM43 _ r1 _ => targetOk r1
  | .movFromIbrM43 _ r1 _ => targetOk r1
  | .movFromPkrM43 _ r1 _ => targetOk r1
  | .movFromPmcM43 _ r1 _ => targetOk r1
  | .movFromPmdM43 _ r1 _ => targetOk r1
  | .movFromCpuidM43 _ r1 _ => targetOk r1
  | .movFromDahrM43 _ r1 _ => targetOk r1
  | .sumM44 _ imm24 => userMaskOk imm24
  | .rumM44 _ imm24 => userMaskOk imm24
  | .ssmM44 _ imm24 => systemMaskOk imm24
  | .rsmM44 _ imm24 => systemMaskOk imm24
  | .ptcLM45 _ _ _ => true
  | .ptcGM45 _ _ _ => true
  | .ptcGaM45 _ _ _ => true
  | .ptrDM45 _ _ _ => true
  | .ptrIM45 _ _ _ => true
  | .thashM46 _ r1 _ => targetOk r1
  | .ttagM46 _ r1 _ => targetOk r1
  | .tpaM46 _ r1 _ => targetOk r1
  | .takM46 _ r1 _ => targetOk r1
  | .ptcEM47 _ _ => true
  | .nopMM48 _ _ => true
  | .hintMM49 _ _ => true
  | .movToDahrImmM50 _ _ _ => true
  | .brCondB1 _ _ _ _ _ => true
  | .brWexitB1 _ _ _ _ _ => true
  | .brWtopB1 _ _ _ _ _ => true
  | .brCloopB2 _ _ _ _ => true
  | .brCexitB2 _ _ _ _ => true
  | .brCtopB2 _ _ _ _ => true
  | .brCallB3 _ _ _ _ _ _ => true
  | .brCondB4 _ _ _ _ _ => true
  | .brIaB4 qp _ _ _ _ => unpredicated qp
  | .brRetB4 _ _ _ _ _ => true
  | .brCallB5 _ _ _ _ _ _ => true
  | .brpB6 _ _ _ _ _ _ => true
  | .brpB7 _ _ _ _ _ _ => true
  | .brpRetB7 _ _ _ _ _ _ => true
  | .coverB8 => true
  | .clrrrbB8 => true
  | .clrrrbPrB8 => true
  | .rfiB8 => true
  | .bsw0B8 => true
  | .bsw1B8 => true
  | .epcB8 => true
  | .vmsw0B8 => true
  | .vmsw1B8 => true
  | .breakBB9 _ _ => true
  | .nopBB9 _ _ => true
  | .hintBB9 _ _ => true
  | .fmaF1 _ f1 _ _ _ _ => frTargetOk f1
  | .fmaSF1 _ f1 _ _ _ _ => frTargetOk f1
  | .fmaDF1 _ f1 _ _ _ _ => frTargetOk f1
  | .fpmaF1 _ f1 _ _ _ _ => frTargetOk f1
  | .fmsF1 _ f1 _ _ _ _ => frTargetOk f1
  | .fmsSF1 _ f1 _ _ _ _ => frTargetOk f1
  | .fmsDF1 _ f1 _ _ _ _ => frTargetOk f1
  | .fpmsF1 _ f1 _ _ _ _ => frTargetOk f1
  | .fnmaF1 _ f1 _ _ _ _ => frTargetOk f1
  | .fnmaSF1 _ f1 _ _ _ _ => frTargetOk f1
  | .fnmaDF1 _ f1 _ _ _ _ => frTargetOk f1
  | .fpnmaF1 _ f1 _ _ _ _ => frTargetOk f1
  | .xmaLF2 _ f1 _ _ _ => frTargetOk f1
  | .xmaHuF2 _ f1 _ _ _ => frTargetOk f1
  | .xmaHF2 _ f1 _ _ _ => frTargetOk f1
  | .fselectF3 _ f1 _ _ _ => frTargetOk f1
  | .fcmpEqF4 _ p1 p2 _ _ _ => predsOk p1 p2
  | .fcmpEqUncF4 _ p1 p2 _ _ _ => predsOk p1 p2
  | .fcmpLtF4 _ p1 p2 _ _ _ => predsOk p1 p2
  | .fcmpLtUncF4 _ p1 p2 _ _ _ => predsOk p1 p2
  | .fcmpLeF4 _ p1 p2 _ _ _ => predsOk p1 p2
  | .fcmpLeUncF4 _ p1 p2 _ _ _ => predsOk p1 p2
  | .fcmpUnordF4 _ p1 p2 _ _ _ => predsOk p1 p2
  | .fcmpUnordUncF4 _ p1 p2 _ _ _ => predsOk p1 p2
  | .fclassMF5 _ p1 p2 _ _ => predsOk p1 p2
  | .fclassMUncF5 _ p1 p2 _ _ => predsOk p1 p2
  | .frcpaF6 _ _ f1 _ _ _ => frTargetOk f1
  | .fprcpaF6 _ _ f1 _ _ _ => frTargetOk f1
  | .frsqrtaF7 _ _ f1 _ _ => frTargetOk f1
  | .fprsqrtaF7 _ _ f1 _ _ => frTargetOk f1
  | .fminF8 _ f1 _ _ _ => frTargetOk f1
  | .fmaxF8 _ f1 _ _ _ => frTargetOk f1
  | .faminF8 _ f1 _ _ _ => frTargetOk f1
  | .famaxF8 _ f1 _ _ _ => frTargetOk f1
  | .fpminF8 _ f1 _ _ _ => frTargetOk f1
  | .fpmaxF8 _ f1 _ _ _ => frTargetOk f1
  | .fpaminF8 _ f1 _ _ _ => frTargetOk f1
  | .fpamaxF8 _ f1 _ _ _ => frTargetOk f1
  | .fpcmpEqF8 _ f1 _ _ _ => frTargetOk f1
  | .fpcmpLtF8 _ f1 _ _ _ => frTargetOk f1
  | .fpcmpLeF8 _ f1 _ _ _ => frTargetOk f1
  | .fpcmpUnordF8 _ f1 _ _ _ => frTargetOk f1
  | .fpcmpNeqF8 _ f1 _ _ _ => frTargetOk f1
  | .fpcmpNltF8 _ f1 _ _ _ => frTargetOk f1
  | .fpcmpNleF8 _ f1 _ _ _ => frTargetOk f1
  | .fpcmpOrdF8 _ f1 _ _ _ => frTargetOk f1
  | .fmergeSF9 _ f1 _ _ => frTargetOk f1
  | .fmergeNsF9 _ f1 _ _ => frTargetOk f1
  | .fmergeSeF9 _ f1 _ _ => frTargetOk f1
  | .fmixLrF9 _ f1 _ _ => frTargetOk f1
  | .fmixRF9 _ f1 _ _ => frTargetOk f1
  | .fmixLF9 _ f1 _ _ => frTargetOk f1
  | .fsxtRF9 _ f1 _ _ => frTargetOk f1
  | .fsxtLF9 _ f1 _ _ => frTargetOk f1
  | .fpackF9 _ f1 _ _ => frTargetOk f1
  | .fswapF9 _ f1 _ _ => frTargetOk f1
  | .fswapNlF9 _ f1 _ _ => frTargetOk f1
  | .fswapNrF9 _ f1 _ _ => frTargetOk f1
  | .fandF9 _ f1 _ _ => frTargetOk f1
  | .fandcmF9 _ f1 _ _ => frTargetOk f1
  | .forF9 _ f1 _ _ => frTargetOk f1
  | .fxorF9 _ f1 _ _ => frTargetOk f1
  | .fpmergeSF9 _ f1 _ _ => frTargetOk f1
  | .fpmergeNsF9 _ f1 _ _ => frTargetOk f1
  | .fpmergeSeF9 _ f1 _ _ => frTargetOk f1
  | .fcvtFxF10 _ f1 _ _ => frTargetOk f1
  | .fcvtFxuF10 _ f1 _ _ => frTargetOk f1
  | .fcvtFxTruncF10 _ f1 _ _ => frTargetOk f1
  | .fcvtFxuTruncF10 _ f1 _ _ => frTargetOk f1
  | .fpcvtFxF10 _ f1 _ _ => frTargetOk f1
  | .fpcvtFxuF10 _ f1 _ _ => frTargetOk f1
  | .fpcvtFxTruncF10 _ f1 _ _ => frTargetOk f1
  | .fpcvtFxuTruncF10 _ f1 _ _ => frTargetOk f1
  | .fcvtXfF11 _ f1 _ => frTargetOk f1
  | .fsetcF12 _ _ _ _ => true
  | .fclrfF13 _ _ => true
  | .fchkfF14 _ _ _ => true
  | .breakFF15 _ _ => true
  | .nopFF16 _ _ => true
  | .hintFF16 _ _ => true
  | .breakXX1 _ _ => true
  | .movlX2 _ r1 _ => targetOk r1
  | .brlCondX3 _ _ _ _ _ => true
  | .brlCallX4 _ _ _ _ _ _ => true
  | .nopXX5 _ _ => true
  | .hintXX5 _ _ => true

/-- The qualifying predicate of an instruction that does nothing where PR[qp] is 0 (R60). `none` where a rule says
otherwise: unpredicated instructions, `alloc` (R829), unconditional compares (R790) and approximations (R940), which clear
predicates, loop branches (R554), `br.ia` (R556), and the pairs with an L slot, which move on past a bundle. -/
def Instr.qualifier : Instr → Option (BitVec 6)
  | .addA1 qp _ _ _ => some qp
  | .addPlus1A1 qp _ _ _ => some qp
  | .subA1 qp _ _ _ => some qp
  | .subMinus1A1 qp _ _ _ => some qp
  | .addp4A1 qp _ _ _ => some qp
  | .andA1 qp _ _ _ => some qp
  | .andcmA1 qp _ _ _ => some qp
  | .orA1 qp _ _ _ => some qp
  | .xorA1 qp _ _ _ => some qp
  | .shladdA2 qp _ _ _ _ => some qp
  | .shladdp4A2 qp _ _ _ _ => some qp
  | .subA3 qp _ _ _ => some qp
  | .andA3 qp _ _ _ => some qp
  | .andcmA3 qp _ _ _ => some qp
  | .orA3 qp _ _ _ => some qp
  | .xorA3 qp _ _ _ => some qp
  | .addsA4 qp _ _ _ => some qp
  | .addp4A4 qp _ _ _ => some qp
  | .addlA5 qp _ _ _ => some qp
  | .cmpLtA6 qp _ _ _ _ => some qp
  | .cmpLtuA6 qp _ _ _ _ => some qp
  | .cmpEqA6 qp _ _ _ _ => some qp
  | .cmpLtUncA6 _ _ _ _ _ => none
  | .cmpLtuUncA6 _ _ _ _ _ => none
  | .cmpEqUncA6 _ _ _ _ _ => none
  | .cmpEqAndA6 qp _ _ _ _ => some qp
  | .cmpEqOrA6 qp _ _ _ _ => some qp
  | .cmpEqOrAndcmA6 qp _ _ _ _ => some qp
  | .cmpNeAndA6 qp _ _ _ _ => some qp
  | .cmpNeOrA6 qp _ _ _ _ => some qp
  | .cmpNeOrAndcmA6 qp _ _ _ _ => some qp
  | .cmpGtAndA7 qp _ _ _ => some qp
  | .cmpGtOrA7 qp _ _ _ => some qp
  | .cmpGtOrAndcmA7 qp _ _ _ => some qp
  | .cmpLeAndA7 qp _ _ _ => some qp
  | .cmpLeOrA7 qp _ _ _ => some qp
  | .cmpLeOrAndcmA7 qp _ _ _ => some qp
  | .cmpGeAndA7 qp _ _ _ => some qp
  | .cmpGeOrA7 qp _ _ _ => some qp
  | .cmpGeOrAndcmA7 qp _ _ _ => some qp
  | .cmpLtAndA7 qp _ _ _ => some qp
  | .cmpLtOrA7 qp _ _ _ => some qp
  | .cmpLtOrAndcmA7 qp _ _ _ => some qp
  | .cmpLtA8 qp _ _ _ _ => some qp
  | .cmpLtuA8 qp _ _ _ _ => some qp
  | .cmpEqA8 qp _ _ _ _ => some qp
  | .cmpLtUncA8 _ _ _ _ _ => none
  | .cmpLtuUncA8 _ _ _ _ _ => none
  | .cmpEqUncA8 _ _ _ _ _ => none
  | .cmpEqAndA8 qp _ _ _ _ => some qp
  | .cmpEqOrA8 qp _ _ _ _ => some qp
  | .cmpEqOrAndcmA8 qp _ _ _ _ => some qp
  | .cmpNeAndA8 qp _ _ _ _ => some qp
  | .cmpNeOrA8 qp _ _ _ _ => some qp
  | .cmpNeOrAndcmA8 qp _ _ _ _ => some qp
  | .cmp4LtA6 qp _ _ _ _ => some qp
  | .cmp4LtuA6 qp _ _ _ _ => some qp
  | .cmp4EqA6 qp _ _ _ _ => some qp
  | .cmp4LtUncA6 _ _ _ _ _ => none
  | .cmp4LtuUncA6 _ _ _ _ _ => none
  | .cmp4EqUncA6 _ _ _ _ _ => none
  | .cmp4EqAndA6 qp _ _ _ _ => some qp
  | .cmp4EqOrA6 qp _ _ _ _ => some qp
  | .cmp4EqOrAndcmA6 qp _ _ _ _ => some qp
  | .cmp4NeAndA6 qp _ _ _ _ => some qp
  | .cmp4NeOrA6 qp _ _ _ _ => some qp
  | .cmp4NeOrAndcmA6 qp _ _ _ _ => some qp
  | .cmp4GtAndA7 qp _ _ _ => some qp
  | .cmp4GtOrA7 qp _ _ _ => some qp
  | .cmp4GtOrAndcmA7 qp _ _ _ => some qp
  | .cmp4LeAndA7 qp _ _ _ => some qp
  | .cmp4LeOrA7 qp _ _ _ => some qp
  | .cmp4LeOrAndcmA7 qp _ _ _ => some qp
  | .cmp4GeAndA7 qp _ _ _ => some qp
  | .cmp4GeOrA7 qp _ _ _ => some qp
  | .cmp4GeOrAndcmA7 qp _ _ _ => some qp
  | .cmp4LtAndA7 qp _ _ _ => some qp
  | .cmp4LtOrA7 qp _ _ _ => some qp
  | .cmp4LtOrAndcmA7 qp _ _ _ => some qp
  | .cmp4LtA8 qp _ _ _ _ => some qp
  | .cmp4LtuA8 qp _ _ _ _ => some qp
  | .cmp4EqA8 qp _ _ _ _ => some qp
  | .cmp4LtUncA8 _ _ _ _ _ => none
  | .cmp4LtuUncA8 _ _ _ _ _ => none
  | .cmp4EqUncA8 _ _ _ _ _ => none
  | .cmp4EqAndA8 qp _ _ _ _ => some qp
  | .cmp4EqOrA8 qp _ _ _ _ => some qp
  | .cmp4EqOrAndcmA8 qp _ _ _ _ => some qp
  | .cmp4NeAndA8 qp _ _ _ _ => some qp
  | .cmp4NeOrA8 qp _ _ _ _ => some qp
  | .cmp4NeOrAndcmA8 qp _ _ _ _ => some qp
  | .padd1A9 qp _ _ _ => some qp
  | .padd2A9 qp _ _ _ => some qp
  | .padd4A9 qp _ _ _ => some qp
  | .padd1SssA9 qp _ _ _ => some qp
  | .padd2SssA9 qp _ _ _ => some qp
  | .padd1UuuA9 qp _ _ _ => some qp
  | .padd2UuuA9 qp _ _ _ => some qp
  | .padd1UusA9 qp _ _ _ => some qp
  | .padd2UusA9 qp _ _ _ => some qp
  | .psub1A9 qp _ _ _ => some qp
  | .psub2A9 qp _ _ _ => some qp
  | .psub4A9 qp _ _ _ => some qp
  | .psub1SssA9 qp _ _ _ => some qp
  | .psub2SssA9 qp _ _ _ => some qp
  | .psub1UuuA9 qp _ _ _ => some qp
  | .psub2UuuA9 qp _ _ _ => some qp
  | .psub1UusA9 qp _ _ _ => some qp
  | .psub2UusA9 qp _ _ _ => some qp
  | .pavg1A9 qp _ _ _ => some qp
  | .pavg2A9 qp _ _ _ => some qp
  | .pavg1RazA9 qp _ _ _ => some qp
  | .pavg2RazA9 qp _ _ _ => some qp
  | .pavgsub1A9 qp _ _ _ => some qp
  | .pavgsub2A9 qp _ _ _ => some qp
  | .pcmp1EqA9 qp _ _ _ => some qp
  | .pcmp2EqA9 qp _ _ _ => some qp
  | .pcmp4EqA9 qp _ _ _ => some qp
  | .pcmp1GtA9 qp _ _ _ => some qp
  | .pcmp2GtA9 qp _ _ _ => some qp
  | .pcmp4GtA9 qp _ _ _ => some qp
  | .pshladd2A10 qp _ _ _ _ => some qp
  | .pshradd2A10 qp _ _ _ _ => some qp
  | .pmpyshr2I1 qp _ _ _ _ => some qp
  | .pmpyshr2UI1 qp _ _ _ _ => some qp
  | .unpack1HI2 qp _ _ _ => some qp
  | .mix1RI2 qp _ _ _ => some qp
  | .pmin1UI2 qp _ _ _ => some qp
  | .pmax1UI2 qp _ _ _ => some qp
  | .unpack1LI2 qp _ _ _ => some qp
  | .mix1LI2 qp _ _ _ => some qp
  | .psad1I2 qp _ _ _ => some qp
  | .pack2UssI2 qp _ _ _ => some qp
  | .unpack2HI2 qp _ _ _ => some qp
  | .mix2RI2 qp _ _ _ => some qp
  | .pmpy2RI2 qp _ _ _ => some qp
  | .pack2SssI2 qp _ _ _ => some qp
  | .unpack2LI2 qp _ _ _ => some qp
  | .mix2LI2 qp _ _ _ => some qp
  | .pmin2I2 qp _ _ _ => some qp
  | .pmax2I2 qp _ _ _ => some qp
  | .pmpy2LI2 qp _ _ _ => some qp
  | .mpy4I2 qp _ _ _ => some qp
  | .mpyshl4I2 qp _ _ _ => some qp
  | .unpack4HI2 qp _ _ _ => some qp
  | .mix4RI2 qp _ _ _ => some qp
  | .pack4SssI2 qp _ _ _ => some qp
  | .unpack4LI2 qp _ _ _ => some qp
  | .mix4LI2 qp _ _ _ => some qp
  | .mux1I3 qp _ _ _ => some qp
  | .mux2I4 qp _ _ _ => some qp
  | .pshr2I5 qp _ _ _ => some qp
  | .pshr4I5 qp _ _ _ => some qp
  | .shrI5 qp _ _ _ => some qp
  | .pshr2UI5 qp _ _ _ => some qp
  | .pshr4UI5 qp _ _ _ => some qp
  | .shrUI5 qp _ _ _ => some qp
  | .pshr2I6 qp _ _ _ => some qp
  | .pshr4I6 qp _ _ _ => some qp
  | .pshr2UI6 qp _ _ _ => some qp
  | .pshr4UI6 qp _ _ _ => some qp
  | .pshl2I7 qp _ _ _ => some qp
  | .pshl4I7 qp _ _ _ => some qp
  | .shlI7 qp _ _ _ => some qp
  | .pshl2I8 qp _ _ _ => some qp
  | .pshl4I8 qp _ _ _ => some qp
  | .popcntI9 qp _ _ => some qp
  | .clzI9 qp _ _ => some qp
  | .shrpI10 qp _ _ _ _ => some qp
  | .extrUI11 qp _ _ _ _ => some qp
  | .extrI11 qp _ _ _ _ => some qp
  | .depZI12 qp _ _ _ _ => some qp
  | .depZI13 qp _ _ _ _ => some qp
  | .depI14 qp _ _ _ _ _ => some qp
  | .depI15 qp _ _ _ _ _ => some qp
  | .tbitZI16 qp _ _ _ _ => some qp
  | .tnatZI17 qp _ _ _ => some qp
  | .tfZI30 qp _ _ _ => some qp
  | .tbitZUncI16 _ _ _ _ _ => none
  | .tnatZUncI17 _ _ _ _ => none
  | .tfZUncI30 _ _ _ _ => none
  | .tbitZAndI16 qp _ _ _ _ => some qp
  | .tnatZAndI17 qp _ _ _ => some qp
  | .tfZAndI30 qp _ _ _ => some qp
  | .tbitNzAndI16 qp _ _ _ _ => some qp
  | .tnatNzAndI17 qp _ _ _ => some qp
  | .tfNzAndI30 qp _ _ _ => some qp
  | .tbitZOrI16 qp _ _ _ _ => some qp
  | .tnatZOrI17 qp _ _ _ => some qp
  | .tfZOrI30 qp _ _ _ => some qp
  | .tbitNzOrI16 qp _ _ _ _ => some qp
  | .tnatNzOrI17 qp _ _ _ => some qp
  | .tfNzOrI30 qp _ _ _ => some qp
  | .tbitZOrAndcmI16 qp _ _ _ _ => some qp
  | .tnatZOrAndcmI17 qp _ _ _ => some qp
  | .tfZOrAndcmI30 qp _ _ _ => some qp
  | .tbitNzOrAndcmI16 qp _ _ _ _ => some qp
  | .tnatNzOrAndcmI17 qp _ _ _ => some qp
  | .tfNzOrAndcmI30 qp _ _ _ => some qp
  | .nopII18 qp _ => some qp
  | .hintII18 qp _ => some qp
  | .breakII19 qp _ => some qp
  | .chkSII20 qp _ _ => some qp
  | .movToBrI21 qp _ _ _ _ _ _ _ => some qp
  | .movRetToBrI21 qp _ _ _ _ _ _ _ => some qp
  | .movFromBrI22 qp _ _ => some qp
  | .movToPrI23 qp _ _ => some qp
  | .movToPrRotI24 qp _ => some qp
  | .movFromIpI25 qp _ => some qp
  | .movFromPrI25 qp _ => some qp
  | .movIToArI26 qp _ _ => some qp
  | .movIToArImmI27 qp _ _ => some qp
  | .movIFromArI28 qp _ _ => some qp
  | .zxt1I29 qp _ _ => some qp
  | .zxt2I29 qp _ _ => some qp
  | .zxt4I29 qp _ _ => some qp
  | .sxt1I29 qp _ _ => some qp
  | .sxt2I29 qp _ _ => some qp
  | .sxt4I29 qp _ _ => some qp
  | .czx1LI29 qp _ _ => some qp
  | .czx2LI29 qp _ _ => some qp
  | .czx1RI29 qp _ _ => some qp
  | .czx2RI29 qp _ _ => some qp
  | .ld1M1 qp _ _ _ _ => some qp
  | .ld2M1 qp _ _ _ _ => some qp
  | .ld4M1 qp _ _ _ _ => some qp
  | .ld8M1 qp _ _ _ _ => some qp
  | .ld1SM1 qp _ _ _ _ => some qp
  | .ld2SM1 qp _ _ _ _ => some qp
  | .ld4SM1 qp _ _ _ _ => some qp
  | .ld8SM1 qp _ _ _ _ => some qp
  | .ld1AM1 qp _ _ _ _ => some qp
  | .ld2AM1 qp _ _ _ _ => some qp
  | .ld4AM1 qp _ _ _ _ => some qp
  | .ld8AM1 qp _ _ _ _ => some qp
  | .ld1SaM1 qp _ _ _ _ => some qp
  | .ld2SaM1 qp _ _ _ _ => some qp
  | .ld4SaM1 qp _ _ _ _ => some qp
  | .ld8SaM1 qp _ _ _ _ => some qp
  | .ld1BiasM1 qp _ _ _ _ => some qp
  | .ld2BiasM1 qp _ _ _ _ => some qp
  | .ld4BiasM1 qp _ _ _ _ => some qp
  | .ld8BiasM1 qp _ _ _ _ => some qp
  | .ld1AcqM1 qp _ _ _ _ => some qp
  | .ld2AcqM1 qp _ _ _ _ => some qp
  | .ld4AcqM1 qp _ _ _ _ => some qp
  | .ld8AcqM1 qp _ _ _ _ => some qp
  | .ld1CClrM1 qp _ _ _ _ => some qp
  | .ld2CClrM1 qp _ _ _ _ => some qp
  | .ld4CClrM1 qp _ _ _ _ => some qp
  | .ld8CClrM1 qp _ _ _ _ => some qp
  | .ld1CNcM1 qp _ _ _ _ => some qp
  | .ld2CNcM1 qp _ _ _ _ => some qp
  | .ld4CNcM1 qp _ _ _ _ => some qp
  | .ld8CNcM1 qp _ _ _ _ => some qp
  | .ld1CClrAcqM1 qp _ _ _ _ => some qp
  | .ld2CClrAcqM1 qp _ _ _ _ => some qp
  | .ld4CClrAcqM1 qp _ _ _ _ => some qp
  | .ld8CClrAcqM1 qp _ _ _ _ => some qp
  | .ld8FillM1 qp _ _ _ _ => some qp
  | .ld1M2 qp _ _ _ _ => some qp
  | .ld2M2 qp _ _ _ _ => some qp
  | .ld4M2 qp _ _ _ _ => some qp
  | .ld8M2 qp _ _ _ _ => some qp
  | .ld1SM2 qp _ _ _ _ => some qp
  | .ld2SM2 qp _ _ _ _ => some qp
  | .ld4SM2 qp _ _ _ _ => some qp
  | .ld8SM2 qp _ _ _ _ => some qp
  | .ld1AM2 qp _ _ _ _ => some qp
  | .ld2AM2 qp _ _ _ _ => some qp
  | .ld4AM2 qp _ _ _ _ => some qp
  | .ld8AM2 qp _ _ _ _ => some qp
  | .ld1SaM2 qp _ _ _ _ => some qp
  | .ld2SaM2 qp _ _ _ _ => some qp
  | .ld4SaM2 qp _ _ _ _ => some qp
  | .ld8SaM2 qp _ _ _ _ => some qp
  | .ld1BiasM2 qp _ _ _ _ => some qp
  | .ld2BiasM2 qp _ _ _ _ => some qp
  | .ld4BiasM2 qp _ _ _ _ => some qp
  | .ld8BiasM2 qp _ _ _ _ => some qp
  | .ld1AcqM2 qp _ _ _ _ => some qp
  | .ld2AcqM2 qp _ _ _ _ => some qp
  | .ld4AcqM2 qp _ _ _ _ => some qp
  | .ld8AcqM2 qp _ _ _ _ => some qp
  | .ld1CClrM2 qp _ _ _ _ => some qp
  | .ld2CClrM2 qp _ _ _ _ => some qp
  | .ld4CClrM2 qp _ _ _ _ => some qp
  | .ld8CClrM2 qp _ _ _ _ => some qp
  | .ld1CNcM2 qp _ _ _ _ => some qp
  | .ld2CNcM2 qp _ _ _ _ => some qp
  | .ld4CNcM2 qp _ _ _ _ => some qp
  | .ld8CNcM2 qp _ _ _ _ => some qp
  | .ld1CClrAcqM2 qp _ _ _ _ => some qp
  | .ld2CClrAcqM2 qp _ _ _ _ => some qp
  | .ld4CClrAcqM2 qp _ _ _ _ => some qp
  | .ld8CClrAcqM2 qp _ _ _ _ => some qp
  | .ld8FillM2 qp _ _ _ _ => some qp
  | .ld1M3 qp _ _ _ _ => some qp
  | .ld2M3 qp _ _ _ _ => some qp
  | .ld4M3 qp _ _ _ _ => some qp
  | .ld8M3 qp _ _ _ _ => some qp
  | .ld1SM3 qp _ _ _ _ => some qp
  | .ld2SM3 qp _ _ _ _ => some qp
  | .ld4SM3 qp _ _ _ _ => some qp
  | .ld8SM3 qp _ _ _ _ => some qp
  | .ld1AM3 qp _ _ _ _ => some qp
  | .ld2AM3 qp _ _ _ _ => some qp
  | .ld4AM3 qp _ _ _ _ => some qp
  | .ld8AM3 qp _ _ _ _ => some qp
  | .ld1SaM3 qp _ _ _ _ => some qp
  | .ld2SaM3 qp _ _ _ _ => some qp
  | .ld4SaM3 qp _ _ _ _ => some qp
  | .ld8SaM3 qp _ _ _ _ => some qp
  | .ld1BiasM3 qp _ _ _ _ => some qp
  | .ld2BiasM3 qp _ _ _ _ => some qp
  | .ld4BiasM3 qp _ _ _ _ => some qp
  | .ld8BiasM3 qp _ _ _ _ => some qp
  | .ld1AcqM3 qp _ _ _ _ => some qp
  | .ld2AcqM3 qp _ _ _ _ => some qp
  | .ld4AcqM3 qp _ _ _ _ => some qp
  | .ld8AcqM3 qp _ _ _ _ => some qp
  | .ld1CClrM3 qp _ _ _ _ => some qp
  | .ld2CClrM3 qp _ _ _ _ => some qp
  | .ld4CClrM3 qp _ _ _ _ => some qp
  | .ld8CClrM3 qp _ _ _ _ => some qp
  | .ld1CNcM3 qp _ _ _ _ => some qp
  | .ld2CNcM3 qp _ _ _ _ => some qp
  | .ld4CNcM3 qp _ _ _ _ => some qp
  | .ld8CNcM3 qp _ _ _ _ => some qp
  | .ld1CClrAcqM3 qp _ _ _ _ => some qp
  | .ld2CClrAcqM3 qp _ _ _ _ => some qp
  | .ld4CClrAcqM3 qp _ _ _ _ => some qp
  | .ld8CClrAcqM3 qp _ _ _ _ => some qp
  | .ld8FillM3 qp _ _ _ _ => some qp
  | .ld16M1 qp _ _ _ _ => some qp
  | .ld16AcqM1 qp _ _ _ _ => some qp
  | .st1M4 qp _ _ _ _ => some qp
  | .st2M4 qp _ _ _ _ => some qp
  | .st4M4 qp _ _ _ _ => some qp
  | .st8M4 qp _ _ _ _ => some qp
  | .st1RelM4 qp _ _ _ _ => some qp
  | .st2RelM4 qp _ _ _ _ => some qp
  | .st4RelM4 qp _ _ _ _ => some qp
  | .st8RelM4 qp _ _ _ _ => some qp
  | .st8SpillM4 qp _ _ _ _ => some qp
  | .st1M5 qp _ _ _ _ => some qp
  | .st2M5 qp _ _ _ _ => some qp
  | .st4M5 qp _ _ _ _ => some qp
  | .st8M5 qp _ _ _ _ => some qp
  | .st1RelM5 qp _ _ _ _ => some qp
  | .st2RelM5 qp _ _ _ _ => some qp
  | .st4RelM5 qp _ _ _ _ => some qp
  | .st8RelM5 qp _ _ _ _ => some qp
  | .st8SpillM5 qp _ _ _ _ => some qp
  | .st16M4 qp _ _ _ _ => some qp
  | .st16RelM4 qp _ _ _ _ => some qp
  | .ldfeM6 qp _ _ _ _ => some qp
  | .ldf8M6 qp _ _ _ _ => some qp
  | .ldfsM6 qp _ _ _ _ => some qp
  | .ldfdM6 qp _ _ _ _ => some qp
  | .ldfeSM6 qp _ _ _ _ => some qp
  | .ldf8SM6 qp _ _ _ _ => some qp
  | .ldfsSM6 qp _ _ _ _ => some qp
  | .ldfdSM6 qp _ _ _ _ => some qp
  | .ldfeAM6 qp _ _ _ _ => some qp
  | .ldf8AM6 qp _ _ _ _ => some qp
  | .ldfsAM6 qp _ _ _ _ => some qp
  | .ldfdAM6 qp _ _ _ _ => some qp
  | .ldfeSaM6 qp _ _ _ _ => some qp
  | .ldf8SaM6 qp _ _ _ _ => some qp
  | .ldfsSaM6 qp _ _ _ _ => some qp
  | .ldfdSaM6 qp _ _ _ _ => some qp
  | .ldfeCClrM6 qp _ _ _ _ => some qp
  | .ldf8CClrM6 qp _ _ _ _ => some qp
  | .ldfsCClrM6 qp _ _ _ _ => some qp
  | .ldfdCClrM6 qp _ _ _ _ => some qp
  | .ldfeCNcM6 qp _ _ _ _ => some qp
  | .ldf8CNcM6 qp _ _ _ _ => some qp
  | .ldfsCNcM6 qp _ _ _ _ => some qp
  | .ldfdCNcM6 qp _ _ _ _ => some qp
  | .ldfFillM6 qp _ _ _ _ => some qp
  | .ldfeM7 qp _ _ _ _ => some qp
  | .ldf8M7 qp _ _ _ _ => some qp
  | .ldfsM7 qp _ _ _ _ => some qp
  | .ldfdM7 qp _ _ _ _ => some qp
  | .ldfeSM7 qp _ _ _ _ => some qp
  | .ldf8SM7 qp _ _ _ _ => some qp
  | .ldfsSM7 qp _ _ _ _ => some qp
  | .ldfdSM7 qp _ _ _ _ => some qp
  | .ldfeAM7 qp _ _ _ _ => some qp
  | .ldf8AM7 qp _ _ _ _ => some qp
  | .ldfsAM7 qp _ _ _ _ => some qp
  | .ldfdAM7 qp _ _ _ _ => some qp
  | .ldfeSaM7 qp _ _ _ _ => some qp
  | .ldf8SaM7 qp _ _ _ _ => some qp
  | .ldfsSaM7 qp _ _ _ _ => some qp
  | .ldfdSaM7 qp _ _ _ _ => some qp
  | .ldfeCClrM7 qp _ _ _ _ => some qp
  | .ldf8CClrM7 qp _ _ _ _ => some qp
  | .ldfsCClrM7 qp _ _ _ _ => some qp
  | .ldfdCClrM7 qp _ _ _ _ => some qp
  | .ldfeCNcM7 qp _ _ _ _ => some qp
  | .ldf8CNcM7 qp _ _ _ _ => some qp
  | .ldfsCNcM7 qp _ _ _ _ => some qp
  | .ldfdCNcM7 qp _ _ _ _ => some qp
  | .ldfFillM7 qp _ _ _ _ => some qp
  | .ldfeM8 qp _ _ _ _ => some qp
  | .ldf8M8 qp _ _ _ _ => some qp
  | .ldfsM8 qp _ _ _ _ => some qp
  | .ldfdM8 qp _ _ _ _ => some qp
  | .ldfeSM8 qp _ _ _ _ => some qp
  | .ldf8SM8 qp _ _ _ _ => some qp
  | .ldfsSM8 qp _ _ _ _ => some qp
  | .ldfdSM8 qp _ _ _ _ => some qp
  | .ldfeAM8 qp _ _ _ _ => some qp
  | .ldf8AM8 qp _ _ _ _ => some qp
  | .ldfsAM8 qp _ _ _ _ => some qp
  | .ldfdAM8 qp _ _ _ _ => some qp
  | .ldfeSaM8 qp _ _ _ _ => some qp
  | .ldf8SaM8 qp _ _ _ _ => some qp
  | .ldfsSaM8 qp _ _ _ _ => some qp
  | .ldfdSaM8 qp _ _ _ _ => some qp
  | .ldfeCClrM8 qp _ _ _ _ => some qp
  | .ldf8CClrM8 qp _ _ _ _ => some qp
  | .ldfsCClrM8 qp _ _ _ _ => some qp
  | .ldfdCClrM8 qp _ _ _ _ => some qp
  | .ldfeCNcM8 qp _ _ _ _ => some qp
  | .ldf8CNcM8 qp _ _ _ _ => some qp
  | .ldfsCNcM8 qp _ _ _ _ => some qp
  | .ldfdCNcM8 qp _ _ _ _ => some qp
  | .ldfFillM8 qp _ _ _ _ => some qp
  | .stfeM9 qp _ _ _ _ => some qp
  | .stf8M9 qp _ _ _ _ => some qp
  | .stfsM9 qp _ _ _ _ => some qp
  | .stfdM9 qp _ _ _ _ => some qp
  | .stfSpillM9 qp _ _ _ _ => some qp
  | .stfeM10 qp _ _ _ _ => some qp
  | .stf8M10 qp _ _ _ _ => some qp
  | .stfsM10 qp _ _ _ _ => some qp
  | .stfdM10 qp _ _ _ _ => some qp
  | .stfSpillM10 qp _ _ _ _ => some qp
  | .ldfp8M11 qp _ _ _ _ => some qp
  | .ldfpsM11 qp _ _ _ _ => some qp
  | .ldfpdM11 qp _ _ _ _ => some qp
  | .ldfp8SM11 qp _ _ _ _ => some qp
  | .ldfpsSM11 qp _ _ _ _ => some qp
  | .ldfpdSM11 qp _ _ _ _ => some qp
  | .ldfp8AM11 qp _ _ _ _ => some qp
  | .ldfpsAM11 qp _ _ _ _ => some qp
  | .ldfpdAM11 qp _ _ _ _ => some qp
  | .ldfp8SaM11 qp _ _ _ _ => some qp
  | .ldfpsSaM11 qp _ _ _ _ => some qp
  | .ldfpdSaM11 qp _ _ _ _ => some qp
  | .ldfp8CClrM11 qp _ _ _ _ => some qp
  | .ldfpsCClrM11 qp _ _ _ _ => some qp
  | .ldfpdCClrM11 qp _ _ _ _ => some qp
  | .ldfp8CNcM11 qp _ _ _ _ => some qp
  | .ldfpsCNcM11 qp _ _ _ _ => some qp
  | .ldfpdCNcM11 qp _ _ _ _ => some qp
  | .ldfp8M12 qp _ _ _ _ => some qp
  | .ldfpsM12 qp _ _ _ _ => some qp
  | .ldfpdM12 qp _ _ _ _ => some qp
  | .ldfp8SM12 qp _ _ _ _ => some qp
  | .ldfpsSM12 qp _ _ _ _ => some qp
  | .ldfpdSM12 qp _ _ _ _ => some qp
  | .ldfp8AM12 qp _ _ _ _ => some qp
  | .ldfpsAM12 qp _ _ _ _ => some qp
  | .ldfpdAM12 qp _ _ _ _ => some qp
  | .ldfp8SaM12 qp _ _ _ _ => some qp
  | .ldfpsSaM12 qp _ _ _ _ => some qp
  | .ldfpdSaM12 qp _ _ _ _ => some qp
  | .ldfp8CClrM12 qp _ _ _ _ => some qp
  | .ldfpsCClrM12 qp _ _ _ _ => some qp
  | .ldfpdCClrM12 qp _ _ _ _ => some qp
  | .ldfp8CNcM12 qp _ _ _ _ => some qp
  | .ldfpsCNcM12 qp _ _ _ _ => some qp
  | .ldfpdCNcM12 qp _ _ _ _ => some qp
  | .lfetchExclM13 qp _ _ _ => some qp
  | .lfetchFaultM13 qp _ _ _ => some qp
  | .lfetchFaultExclM13 qp _ _ _ => some qp
  | .lfetchM51 qp _ _ _ => some qp
  | .lfetchCountM52 qp _ _ _ _ _ => some qp
  | .lfetchM14 qp _ _ _ _ => some qp
  | .lfetchExclM14 qp _ _ _ _ => some qp
  | .lfetchFaultM14 qp _ _ _ _ => some qp
  | .lfetchFaultExclM14 qp _ _ _ _ => some qp
  | .lfetchM15 qp _ _ _ _ => some qp
  | .lfetchExclM15 qp _ _ _ _ => some qp
  | .lfetchFaultM15 qp _ _ _ _ => some qp
  | .lfetchFaultExclM15 qp _ _ _ _ => some qp
  | .cmpxchg1AcqM16 qp _ _ _ _ => some qp
  | .cmpxchg1RelM16 qp _ _ _ _ => some qp
  | .xchg1M16 qp _ _ _ _ => some qp
  | .cmpxchg2AcqM16 qp _ _ _ _ => some qp
  | .cmpxchg2RelM16 qp _ _ _ _ => some qp
  | .xchg2M16 qp _ _ _ _ => some qp
  | .cmpxchg4AcqM16 qp _ _ _ _ => some qp
  | .cmpxchg4RelM16 qp _ _ _ _ => some qp
  | .xchg4M16 qp _ _ _ _ => some qp
  | .cmpxchg8AcqM16 qp _ _ _ _ => some qp
  | .cmpxchg8RelM16 qp _ _ _ _ => some qp
  | .xchg8M16 qp _ _ _ _ => some qp
  | .cmp8xchg16AcqM16 qp _ _ _ _ => some qp
  | .cmp8xchg16RelM16 qp _ _ _ _ => some qp
  | .fetchadd4AcqM17 qp _ _ _ _ => some qp
  | .fetchadd8AcqM17 qp _ _ _ _ => some qp
  | .fetchadd4RelM17 qp _ _ _ _ => some qp
  | .fetchadd8RelM17 qp _ _ _ _ => some qp
  | .setfSigM18 qp _ _ => some qp
  | .getfSigM19 qp _ _ => some qp
  | .setfExpM18 qp _ _ => some qp
  | .getfExpM19 qp _ _ => some qp
  | .setfSM18 qp _ _ => some qp
  | .getfSM19 qp _ _ => some qp
  | .setfDM18 qp _ _ => some qp
  | .getfDM19 qp _ _ => some qp
  | .chkSMM20 qp _ _ => some qp
  | .chkSM21 qp _ _ => some qp
  | .chkANcM22 qp _ _ => some qp
  | .chkAClrM22 qp _ _ => some qp
  | .chkANcM23 qp _ _ => some qp
  | .chkAClrM23 qp _ _ => some qp
  | .invalaM24 qp => some qp
  | .fwbM24 qp => some qp
  | .mfM24 qp => some qp
  | .mfAM24 qp => some qp
  | .srlzDM24 qp => some qp
  | .srlzIM24 qp => some qp
  | .syncIM24 qp => some qp
  | .flushrsM25 => none
  | .loadrsM25 => none
  | .invalaEM26 qp _ => some qp
  | .invalaEM27 qp _ => some qp
  | .fcM28 qp _ => some qp
  | .fcIM28 qp _ => some qp
  | .movMToArM29 qp _ _ => some qp
  | .movMToArImmM30 qp _ _ => some qp
  | .movMFromArM31 qp _ _ => some qp
  | .movToCrM32 qp _ _ => some qp
  | .movFromCrM33 qp _ _ => some qp
  | .allocM34 _ _ _ _ _ => none
  | .movToPsrLM35 qp _ => some qp
  | .movToPsrUmM35 qp _ => some qp
  | .movFromPsrM36 qp _ => some qp
  | .movFromPsrUmM36 qp _ => some qp
  | .breakMM37 qp _ => some qp
  | .probeRM38 qp _ _ _ => some qp
  | .probeWM38 qp _ _ _ => some qp
  | .probeRM39 qp _ _ _ => some qp
  | .probeWM39 qp _ _ _ => some qp
  | .probeRwFaultM40 qp _ _ => some qp
  | .probeRFaultM40 qp _ _ => some qp
  | .probeWFaultM40 qp _ _ => some qp
  | .itcDM41 qp _ => some qp
  | .itcIM41 qp _ => some qp
  | .movToRrM42 qp _ _ => some qp
  | .movToDbrM42 qp _ _ => some qp
  | .movToIbrM42 qp _ _ => some qp
  | .movToPkrM42 qp _ _ => some qp
  | .movToPmcM42 qp _ _ => some qp
  | .movToPmdM42 qp _ _ => some qp
  | .itrDM42 qp _ _ => some qp
  | .itrIM42 qp _ _ => some qp
  | .movFromRrM43 qp _ _ => some qp
  | .movFromDbrM43 qp _ _ => some qp
  | .movFromIbrM43 qp _ _ => some qp
  | .movFromPkrM43 qp _ _ => some qp
  | .movFromPmcM43 qp _ _ => some qp
  | .movFromPmdM43 qp _ _ => some qp
  | .movFromCpuidM43 qp _ _ => some qp
  | .movFromDahrM43 qp _ _ => some qp
  | .sumM44 qp _ => some qp
  | .rumM44 qp _ => some qp
  | .ssmM44 qp _ => some qp
  | .rsmM44 qp _ => some qp
  | .ptcLM45 qp _ _ => some qp
  | .ptcGM45 qp _ _ => some qp
  | .ptcGaM45 qp _ _ => some qp
  | .ptrDM45 qp _ _ => some qp
  | .ptrIM45 qp _ _ => some qp
  | .thashM46 qp _ _ => some qp
  | .ttagM46 qp _ _ => some qp
  | .tpaM46 qp _ _ => some qp
  | .takM46 qp _ _ => some qp
  | .ptcEM47 qp _ => some qp
  | .nopMM48 qp _ => some qp
  | .hintMM49 qp _ => some qp
  | .movToDahrImmM50 qp _ _ => some qp
  | .brCondB1 qp _ _ _ _ => some qp
  | .brWexitB1 _ _ _ _ _ => none
  | .brWtopB1 _ _ _ _ _ => none
  | .brCloopB2 _ _ _ _ => none
  | .brCexitB2 _ _ _ _ => none
  | .brCtopB2 _ _ _ _ => none
  | .brCallB3 qp _ _ _ _ _ => some qp
  | .brCondB4 qp _ _ _ _ => some qp
  | .brIaB4 _ _ _ _ _ => none
  | .brRetB4 qp _ _ _ _ => some qp
  | .brCallB5 qp _ _ _ _ _ => some qp
  | .brpB6 _ _ _ _ _ _ => none
  | .brpB7 _ _ _ _ _ _ => none
  | .brpRetB7 _ _ _ _ _ _ => none
  | .coverB8 => none
  | .clrrrbB8 => none
  | .clrrrbPrB8 => none
  | .rfiB8 => none
  | .bsw0B8 => none
  | .bsw1B8 => none
  | .epcB8 => none
  | .vmsw0B8 => none
  | .vmsw1B8 => none
  | .breakBB9 qp _ => some qp
  | .nopBB9 qp _ => some qp
  | .hintBB9 qp _ => some qp
  | .fmaF1 qp _ _ _ _ _ => some qp
  | .fmaSF1 qp _ _ _ _ _ => some qp
  | .fmaDF1 qp _ _ _ _ _ => some qp
  | .fpmaF1 qp _ _ _ _ _ => some qp
  | .fmsF1 qp _ _ _ _ _ => some qp
  | .fmsSF1 qp _ _ _ _ _ => some qp
  | .fmsDF1 qp _ _ _ _ _ => some qp
  | .fpmsF1 qp _ _ _ _ _ => some qp
  | .fnmaF1 qp _ _ _ _ _ => some qp
  | .fnmaSF1 qp _ _ _ _ _ => some qp
  | .fnmaDF1 qp _ _ _ _ _ => some qp
  | .fpnmaF1 qp _ _ _ _ _ => some qp
  | .xmaLF2 qp _ _ _ _ => some qp
  | .xmaHuF2 qp _ _ _ _ => some qp
  | .xmaHF2 qp _ _ _ _ => some qp
  | .fselectF3 qp _ _ _ _ => some qp
  | .fcmpEqF4 qp _ _ _ _ _ => some qp
  | .fcmpEqUncF4 _ _ _ _ _ _ => none
  | .fcmpLtF4 qp _ _ _ _ _ => some qp
  | .fcmpLtUncF4 _ _ _ _ _ _ => none
  | .fcmpLeF4 qp _ _ _ _ _ => some qp
  | .fcmpLeUncF4 _ _ _ _ _ _ => none
  | .fcmpUnordF4 qp _ _ _ _ _ => some qp
  | .fcmpUnordUncF4 _ _ _ _ _ _ => none
  | .fclassMF5 qp _ _ _ _ => some qp
  | .fclassMUncF5 _ _ _ _ _ => none
  | .frcpaF6 _ _ _ _ _ _ => none
  | .fprcpaF6 _ _ _ _ _ _ => none
  | .frsqrtaF7 _ _ _ _ _ => none
  | .fprsqrtaF7 _ _ _ _ _ => none
  | .fminF8 qp _ _ _ _ => some qp
  | .fmaxF8 qp _ _ _ _ => some qp
  | .faminF8 qp _ _ _ _ => some qp
  | .famaxF8 qp _ _ _ _ => some qp
  | .fpminF8 qp _ _ _ _ => some qp
  | .fpmaxF8 qp _ _ _ _ => some qp
  | .fpaminF8 qp _ _ _ _ => some qp
  | .fpamaxF8 qp _ _ _ _ => some qp
  | .fpcmpEqF8 qp _ _ _ _ => some qp
  | .fpcmpLtF8 qp _ _ _ _ => some qp
  | .fpcmpLeF8 qp _ _ _ _ => some qp
  | .fpcmpUnordF8 qp _ _ _ _ => some qp
  | .fpcmpNeqF8 qp _ _ _ _ => some qp
  | .fpcmpNltF8 qp _ _ _ _ => some qp
  | .fpcmpNleF8 qp _ _ _ _ => some qp
  | .fpcmpOrdF8 qp _ _ _ _ => some qp
  | .fmergeSF9 qp _ _ _ => some qp
  | .fmergeNsF9 qp _ _ _ => some qp
  | .fmergeSeF9 qp _ _ _ => some qp
  | .fmixLrF9 qp _ _ _ => some qp
  | .fmixRF9 qp _ _ _ => some qp
  | .fmixLF9 qp _ _ _ => some qp
  | .fsxtRF9 qp _ _ _ => some qp
  | .fsxtLF9 qp _ _ _ => some qp
  | .fpackF9 qp _ _ _ => some qp
  | .fswapF9 qp _ _ _ => some qp
  | .fswapNlF9 qp _ _ _ => some qp
  | .fswapNrF9 qp _ _ _ => some qp
  | .fandF9 qp _ _ _ => some qp
  | .fandcmF9 qp _ _ _ => some qp
  | .forF9 qp _ _ _ => some qp
  | .fxorF9 qp _ _ _ => some qp
  | .fpmergeSF9 qp _ _ _ => some qp
  | .fpmergeNsF9 qp _ _ _ => some qp
  | .fpmergeSeF9 qp _ _ _ => some qp
  | .fcvtFxF10 qp _ _ _ => some qp
  | .fcvtFxuF10 qp _ _ _ => some qp
  | .fcvtFxTruncF10 qp _ _ _ => some qp
  | .fcvtFxuTruncF10 qp _ _ _ => some qp
  | .fpcvtFxF10 qp _ _ _ => some qp
  | .fpcvtFxuF10 qp _ _ _ => some qp
  | .fpcvtFxTruncF10 qp _ _ _ => some qp
  | .fpcvtFxuTruncF10 qp _ _ _ => some qp
  | .fcvtXfF11 qp _ _ => some qp
  | .fsetcF12 qp _ _ _ => some qp
  | .fclrfF13 qp _ => some qp
  | .fchkfF14 qp _ _ => some qp
  | .breakFF15 qp _ => some qp
  | .nopFF16 qp _ => some qp
  | .hintFF16 qp _ => some qp
  | .breakXX1 _ _ => none
  | .movlX2 _ _ _ => none
  | .brlCondX3 _ _ _ _ _ => none
  | .brlCallX4 _ _ _ _ _ _ => none
  | .nopXX5 _ _ => none
  | .hintXX5 _ _ => none

end Sys2Proof
end

