-- ==== Sys2Proof/Safety.lean ====
section
/-! DEFINITION. The terms of the claims: the invariants of the machine, what completing an instruction changes whatever the
instruction is, and what it means that an instruction completes with a result. -/

namespace Sys2Proof.Machine

/-! ### Invariants -/

/-- Memory is in its canonical form. -/
def State.memoryOk (s : State) : Bool := Memory.wf s.mem

/-- The reserved bits of PSR (R110). -/
def reservedPsr : Word := 0xFFFF8000F0011FC1

/-- The reserved bits of PSR, and those of IPSR, are 0 (R110, R105). -/
def State.reservedOk (s : State) : Bool := s.psr &&& reservedPsr == 0 && s.cr.ipsr &&& reservedPsr == 0

/-- While the processor runs Itanium instructions, IP holds the address of a bundle (R59). -/
def State.ipOk (s : State) : Bool := s.psrBit Psr.is || fld s.ip 0 4 == 0

/-- The frame marker is one that a frame can have (R53). -/
def State.frameOk (s : State) : Bool := s.cfm.wf

/-- The hint stack has its levels (R77). -/
def State.dahsOk (s : State) : Prop := s.dahs.length = Config.dahsDepth

/-- Every invariant. -/
def State.Inv (s : State) : Prop :=
  s.memoryOk = true ∧ s.reservedOk = true ∧ s.ipOk = true ∧ s.frameOk = true ∧ s.dahsOk

/-! ### Completion (R1245) -/

/-- The place of the next instruction: IP and slot. -/
def State.place (s : State) : Word × BitVec 2 := (s.ip, s.ri)

/-- The place after an instruction that does not branch (R59). -/
def State.nextPlace (s : State) : Word × BitVec 2 :=
  if s.ri = 0 then (s.ip, 1) else if s.ri = 1 then (s.ip, 2) else (s.ip + 16, 0)

/-- The state without what the completion of any instruction may change: the place, the single-instruction disables of PSR
(R1146), IIPA's source (R105), the place in the instruction group (R251), what forward progress needs of the translation
caches (R204), and what counting an event touches: PMC0 to PMC3, PMD, and a pending PMV vector (R1168). -/
def State.settled (s : State) : State :=
  { s with
    ip := 0
    psr := s.psr &&& ~~~(Psr.oneShot ||| 0x0000060000000000)
    lastIp := 0
    midGroup := false
    progress := .none
    pmc := (((s.pmc.set 0 0).set 1 0).set 2 0).set 3 0
    pmd := Vector.replicate 256 0
    cr := { s.cr with irr := 0 } }

/-- `i` completes in `s`: it answers a next state at `place`, and all of that state but what the completion of any
instruction may change is as in `u`. -/
def Reaches (i : Instr) (s u : State) (place : Word × BitVec 2) : Prop :=
  ∃ t, exec i s = .next t ∧ t.place = place ∧ t.settled = u.settled

/-- `i` completes in `s` with the effect `u`, and the next instruction follows (its address, if it is not implemented, is a
fault of its fetch: log entry 5). -/
def Completes (i : Instr) (s u : State) : Prop := Reaches i s u s.nextPlace

/-- Every byte of memory reads in `t` as in `s`. -/
def SameMemory (s t : State) : Prop := ∀ a, t.byteAt a = s.byteAt a

/-- Every general register but `r1` reads in `t` as in `s`; `r1` names its home (R53). -/
def SameGrBut (r1 : BitVec 7) (s t : State) : Prop := ∀ r, s.grLoc r ≠ s.grLoc r1 → t.gr r = s.gr r

/-- `i` completes in `s`, writes `v` to GR `r1`, and changes nothing else: no other register, flag or byte. -/
def WritesGr (i : Instr) (s : State) (r1 : BitVec 7) (v : Gr) : Prop :=
  ∃ t, exec i s = .next t ∧ t.place = s.nextPlace ∧ t.gr r1 = v ∧ SameGrBut r1 s t ∧ SameMemory s t ∧
    t.settled = (s.setGr r1 v).settled

/-- `i` completes in `s`, makes PR[p1] and PR[p2] `b1` and `b2`, and changes nothing else. -/
def WritesPrs (i : Instr) (s : State) (p1 p2 : BitVec 6) (b1 b2 : Bool) : Prop :=
  ∃ t, exec i s = .next t ∧ t.place = s.nextPlace ∧ (p1 ≠ 0 → t.prBit p1 = b1) ∧ (p2 ≠ 0 → t.prBit p2 = b2) ∧
    (∀ p, p ≠ p1 → p ≠ p2 → t.prBit p = s.prBit p) ∧ (∀ r, t.gr r = s.gr r) ∧ SameMemory s t ∧
    t.settled = (s.setPrs p1 p2 b1 b2).settled

/-- `i` completes in `s`, writes `v` to FR `f1` and marks its partition modified (R72); the rest is as in `u`: `s`, or `s`
with the flags of a status field accumulated (R921). -/
def WritesFr (i : Instr) (s u : State) (f1 : BitVec 7) (v : Fr) : Prop :=
  ∃ t, exec i s = .next t ∧ t.place = s.nextPlace ∧ t.fpr f1 = v ∧ (∀ f, f ≠ f1 → t.fpr f = s.fpr f) ∧
    (∀ r, t.gr r = s.gr r) ∧ SameMemory s t ∧ t.settled = (u.setFpr f1 v).settled

/-- An instruction that may write GR `r1` when PR[qp] is 1: no trap follows it (R1150), and `r1` is a target (R17). -/
def ReadyGr (s : State) (qp : BitVec 6) (r1 : BitVec 7) : Prop :=
  s.prBit qp = true ∧ s.psrBit Psr.ss = false ∧ s.badTarget r1 = false

/-- `r` is no target (R17): GR0, or a stacked register outside the current frame. -/
def NoTarget (s : State) (r : BitVec 7) : Prop := r = 0 ∨ 32 + s.cfm.sof.toNat ≤ r.toNat

/-- The step takes interruption `i` at the instruction: the next state is its delivery, nothing else done. -/
def Traps (i : Instr) (s : State) (x : Interruption) : Prop := exec i s = .next (deliver x s)

/-- The faults of an instruction that writes FR `f1` and names `regs` (R17, R72, R925): FR0 or FR1 as the target is an
Illegal Operation, a disabled partition the Disabled FP Register fault with its code. -/
def FpStops (i : Instr) (s : State) (f1 : BitVec 7) (regs : List (BitVec 7)) : Prop :=
  (f1 = 0 ∨ f1 = 1 → Traps i s illegalOperation) ∧
    (f1 ≠ 0 → f1 ≠ 1 → s.disabledCode regs ≠ 0 → Traps i s (disabledFp (s.disabledCode regs)))

/-- The step meets the fault of a data reference (R210) at the instruction: it takes it, what the VHPT walker inserted for the
reference kept; where that insert overlaps a translation register it is a Machine Check (R208). -/
def TrapsAt (i : Instr) (s : State) (x : Faulted) : Prop :=
  (s.checkWalk false x.walked = .ok () → exec i s = .next (deliver x.fault (s.keepWalk x.walked))) ∧
    (s.checkWalk false x.walked ≠ .ok () → exec i s = .fault .machineCheck)

/-! ### Memory references -/

/-- `op r1 = [r3]`, with its hint fields. -/
abbrev FormLd := BitVec 6 → BitVec 7 → BitVec 7 → BitVec 2 → BitVec 1 → Instr
/-- `op r1 = [r3], r2`. -/
abbrev FormLdReg := BitVec 6 → BitVec 7 → BitVec 7 → BitVec 7 → BitVec 2 → Instr
/-- `op r1 = [r3], imm9`. -/
abbrev FormLdImm := BitVec 6 → BitVec 7 → BitVec 7 → BitVec 2 → BitVec 9 → Instr
/-- `op r1 = [r3], inc3`. -/
abbrev FormInc := BitVec 6 → BitVec 7 → BitVec 7 → BitVec 2 → BitVec 3 → Instr

/-- `v` is the `n`-byte value whose byte at the lowest address is `byte 0`: that byte is least significant, or with `be`
most significant; the bytes of `v` above are 0 (R150). -/
def HoldsBytes {w : Nat} (v : BitVec w) (n : Nat) (be : Bool) (byte : Nat → Byte) : Prop :=
  ∀ k, 8 * k < w → fld v (8 * k) 8 = if k < n then byte (if be then n - 1 - k else k) else 0

/-- The bytes of `s` from the physical address `pa` up. -/
def bytesFrom (s : State) (pa : Word) (k : Nat) : Byte := s.byteAt (physAddr pa + k)

/-- The `n` bytes of `u` from `pa` up are the low bytes of `v` in byte order `be` (R150). -/
def Stored {w : Nat} (u : State) (pa : Word) (n : Nat) (be : Bool) (v : BitVec w) : Prop :=
  ∀ k, k < n → bytesFrom u pa k = fld v (8 * (if be then n - 1 - k else k)) 8

/-- Outside the `n` bytes from `pa` up, `u` reads as `s`. -/
def SameOutside (s u : State) (pa : Word) (n : Nat) : Prop :=
  ∀ x, x < physAddr pa ∨ physAddr pa + n ≤ x → u.byteAt x = s.byteAt x

/-- A load of type `t` reads memory, its address translated to `a`: PR[qp] is 1, the base is no NaT, no fault is met (R210),
the VHPT walk overlaps no translation register (R208), the interrupt block is not touched, a speculative load meets no PSR.ed
and no spontaneous deferral (R602, R603, R1056), a speculative or advanced one no page without the speculative attribute
(R235). -/
def LoadReads (s : State) (t : LdType) (qp : BitVec 6) (r3 : BitVec 7) (r : Ref) (a : Translation) : Prop :=
  s.prBit qp = true ∧ s.psrBit Psr.ss = false ∧ (s.gr r3).nat = false ∧
    s.translate (s.psrBit Psr.dt) (s.gr r3).val r = .ok a ∧ s.checkWalk false a.walked = .ok () ∧
    s.blockOffset a.pa = none ∧ (t.speculative = true → s.psrBit Psr.ed = false ∧ bit s.pal.features 44 = false) ∧
    (t.speculative = true ∨ t.advanced = true → maSpeculative a.ma = true)

/-- A base register that is to be updated is a target (R601). -/
def BaseOk (s : State) (r3 : BitVec 7) (post : Post) : Prop := post.updates = true → s.badTarget r3 = false

/-- What a load leaves in the ALAT (R601): entries of other registers stay; an advanced load makes its entry, a check
load removes it (clear) or, on a miss, makes it (no clear, speculative page); other loads touch nothing. -/
def AlatAfterLoad (s u : State) (t : LdType) (hit : Bool) (reg : AlatReg) (a : Translation) (size : Nat) : Prop :=
  (∀ e, e.reg ≠ reg → (e ∈ u.alat ↔ e ∈ s.alat)) ∧
    (t.advanced = true → (⟨reg, a.pa, size⟩ : AlatEntry) ∈ u.alat) ∧
    (t.checkClear = true → ∀ e ∈ u.alat, e.reg ≠ reg) ∧
    (t = .cNc → hit = false → maSpeculative a.ma = true → (⟨reg, a.pa, size⟩ : AlatEntry) ∈ u.alat) ∧
    (t.advanced = false → t.isCheck = false → u.alat = s.alat)

/-- The TLB after the reference: what the walker inserted is kept (R208), of a check load that hits nothing. -/
def WalkKept (s u : State) (hit : Bool) (a : Translation) : Prop :=
  u.dtc = if hit then s.dtc else (s.keepWalk a.walked).dtc

/-- `i` is an integer load of `size` bytes that completes (R601, R605): r1 holds the bytes and no NaT (a fill: UNAT's bit
for the address), or what it held if a check load hits; the base is updated; nothing else changes but ALAT and TLB and, where
the reference sets off an injected error's trigger, what `touch` gives (R1101). -/
def LoadsGr (i : Instr) (s : State) (t : LdType) (fill : Bool) (size : Nat) (post : Post) (r1 r3 : BitVec 7)
    (a : Translation) : Prop :=
  ∃ u v, exec i s = .next u ∧ u.place = s.nextPlace ∧ u.gr r1 = v ∧
    (if t.isCheck && s.alatCmp (s.alatGr r1) then v = s.gr r1
      else HoldsBytes v.val size (s.psrBit Psr.be) (bytesFrom s a.pa) ∧
        v.nat = (fill && s.ar.unat.getLsbD (fld (s.gr r3).val 3 6 : BitVec 6).toNat)) ∧
    (post.updates = true → u.gr r3 = s.postValue r3 post) ∧
    (∀ r, s.grLoc r ≠ s.grLoc r1 → (post.updates = true → s.grLoc r ≠ s.grLoc r3) → u.gr r = s.gr r) ∧
    SameMemory s u ∧
    AlatAfterLoad s u t (t.isCheck && s.alatCmp (s.alatGr r1)) (s.alatGr r1) a size ∧
    WalkKept s u (t.isCheck && s.alatCmp (s.alatGr r1)) a ∧
    u.settled = ((({ (if t.isCheck && s.alatCmp (s.alatGr r1) then s else s.touch a) with alat := u.alat } : State).setGr r1
      v).postUpdate s r3 post).settled

/-- A store or semaphore reaches memory, its address translated to `a`; the VHPT walk overlaps no translation register. -/
def WriteReaches (s : State) (qp : BitVec 6) (r3 : BitVec 7) (r : Ref) (a : Translation) : Prop :=
  s.prBit qp = true ∧ s.psrBit Psr.ss = false ∧ (s.gr r3).nat = false ∧ Memory.wf s.mem = true ∧
    s.translate (s.psrBit Psr.dt) (s.gr r3).val r = .ok a ∧ s.checkWalk false a.walked = .ok () ∧
    s.blockOffset a.pa = none

/-- The ALAT keeps exactly the entries that do not overlap the `n` bytes at `pa` (R16). -/
def AlatAfterStore (s u : State) (pa : Word) (n : Nat) : Prop :=
  ∀ e, e ∈ u.alat ↔ e ∈ s.alat ∧ (physAddr e.paddr + e.size ≤ physAddr pa ∨ physAddr pa + n ≤ physAddr e.paddr)

/-- `i` is a store of the low `n` bytes of `v` that completes (R620): the bytes are stored at `a`, no other byte changes;
of the registers only the base and, for a spill, UNAT (R622); what the reference itself leaves is `touch` (R208, R1101). -/
def StoresValue {w : Nat} (i : Instr) (s : State) (post : Post) (r3 : BitVec 7) (a : Translation) (n : Nat)
    (ar : AppRegs) (v : BitVec w) : Prop :=
  ∃ u, exec i s = .next u ∧ u.place = s.nextPlace ∧ Stored u a.pa n (s.psrBit Psr.be) v ∧ SameOutside s u a.pa n ∧
    (post.updates = true → u.gr r3 = s.postValue r3 post) ∧
    (∀ r, (post.updates = true → s.grLoc r ≠ s.grLoc r3) → u.gr r = s.gr r) ∧
    AlatAfterStore s u a.pa n ∧ u.dtc = (s.keepWalk a.walked).dtc ∧
    u.settled = (({ s.touch a with alat := u.alat, mem := u.mem, ar := ar } : State).postUpdate s r3 post).settled

end Sys2Proof.Machine
end

