-- ==== Sys2Proof/Certificates/Slice0/Obligations.lean ====
section
/-! DEFINITION. The statements: each `Obligations.<Name>` is a proposition about the model, its docstring what it says of the
machine. Tables pair the constructors that share a shape with what each computes. -/

open Sys2Proof Sys2Proof.Machine

namespace Sys2Proof.Machine

/-! ### Tables of forms: a constructor and what it computes -/

/-- `op r1 = r2, r3`. -/
abbrev FormRRR := BitVec 6 → BitVec 7 → BitVec 7 → BitVec 7 → Instr
/-- `op r1 = r3`. -/
abbrev FormRR := BitVec 6 → BitVec 7 → BitVec 7 → Instr
/-- `op r1 = imm8, r3`. -/
abbrev FormRRI8 := BitVec 6 → BitVec 7 → BitVec 7 → BitVec 8 → Instr
/-- `op r1 = r, count5`. -/
abbrev FormRRC := BitVec 6 → BitVec 7 → BitVec 7 → BitVec 5 → Instr

/-- The integer ALU forms `op r1 = r2, r3` with their values (R761, R762, R765, R766, R769 to R772). -/
noncomputable def aluForms : List (FormRRR × (Word → Word → Word)) :=
  [(Instr.addA1, (fun a b => a + b)), (Instr.addPlus1A1, (fun a b => a + b + 1)), (Instr.subA1, (fun a b => a - b)),
    (Instr.subMinus1A1, (fun a b => a - b - 1)), (Instr.addp4A1, addPointer), (Instr.andA1, (fun a b => a &&& b)),
    (Instr.andcmA1, (fun a b => a &&& ~~~b)), (Instr.orA1, (fun a b => a ||| b)),
    (Instr.xorA1, (fun a b => a ^^^ b))]

/-- The forms `op r1 = imm8, r3` (R768 to R772); the immediate is the left operand. -/
noncomputable def aluImmForms : List (FormRRI8 × (Word → Word → Word)) :=
  [(Instr.subA3, fun i b => i - b), (Instr.andA3, fun i b => i &&& b), (Instr.andcmA3, fun i b => i &&& ~~~b),
    (Instr.orA3, fun i b => i ||| b), (Instr.xorA3, fun i b => i ^^^ b)]

/-- The parallel forms of A9 with their values (R861 to R867). -/
noncomputable def parallelForms : List (FormRRR × (Word → Word → Word)) :=
  [(Instr.padd1A9, (bytewise (fun a b => a + b))), (Instr.padd2A9, (halfwise (fun a b => a + b))),
    (Instr.padd4A9, (wordwise (fun a b => a + b))), (Instr.padd1SssA9, (bytewise addSss)),
    (Instr.padd2SssA9, (halfwise addSss)), (Instr.padd1UuuA9, (bytewise addUuu)),
    (Instr.padd2UuuA9, (halfwise addUuu)), (Instr.padd1UusA9, (bytewise addUus)),
    (Instr.padd2UusA9, (halfwise addUus)), (Instr.psub1A9, (bytewise (fun a b => a - b))),
    (Instr.psub2A9, (halfwise (fun a b => a - b))), (Instr.psub4A9, (wordwise (fun a b => a - b))),
    (Instr.psub1SssA9, (bytewise subSss)), (Instr.psub2SssA9, (halfwise subSss)),
    (Instr.psub1UuuA9, (bytewise subUuu)), (Instr.psub2UuuA9, (halfwise subUuu)),
    (Instr.psub1UusA9, (bytewise subUus)), (Instr.psub2UusA9, (halfwise subUus)),
    (Instr.pavg1A9, (bytewise average)), (Instr.pavg2A9, (halfwise average)),
    (Instr.pavg1RazA9, (bytewise averageRaz)), (Instr.pavg2RazA9, (halfwise averageRaz)),
    (Instr.pavgsub1A9, (bytewise averageSub)), (Instr.pavgsub2A9, (halfwise averageSub)),
    (Instr.pcmp1EqA9, (bytewise parallelEq)), (Instr.pcmp2EqA9, (halfwise parallelEq)),
    (Instr.pcmp4EqA9, (wordwise parallelEq)), (Instr.pcmp1GtA9, (bytewise parallelGt)),
    (Instr.pcmp2GtA9, (halfwise parallelGt)), (Instr.pcmp4GtA9, (wordwise parallelGt))]

/-- The parallel forms of I2 with their values (R876, R880 to R884). -/
noncomputable def arrangeForms : List (FormRRR × (Word → Word → Word)) :=
  [(Instr.unpack1HI2, (unpack1 4)), (Instr.mix1RI2, (mix1 0)), (Instr.pmin1UI2, (bytewise minUnsigned)),
    (Instr.pmax1UI2, (bytewise maxUnsigned)), (Instr.unpack1LI2, (unpack1 0)), (Instr.mix1LI2, (mix1 1)),
    (Instr.psad1I2, sumAbsDiff), (Instr.pack2UssI2, (pack2 (satUnsigned 8))), (Instr.unpack2HI2, (unpack2 2)),
    (Instr.mix2RI2, (mix2 0)), (Instr.pmpy2RI2, multiplyRight), (Instr.pack2SssI2, (pack2 (satSigned 8))),
    (Instr.unpack2LI2, (unpack2 0)), (Instr.mix2LI2, (mix2 1)), (Instr.pmin2I2, (halfwise minSigned)),
    (Instr.pmax2I2, (halfwise maxSigned)), (Instr.pmpy2LI2, multiplyLeft), (Instr.unpack4HI2, (unpack4 1)),
    (Instr.mix4RI2, (mix4 0)), (Instr.pack4SssI2, pack4), (Instr.unpack4LI2, (unpack4 0)), (Instr.mix4LI2, (mix4 1))]

/-- The shifts whose value is r2 and whose count is r3 (R800, R891). -/
noncomputable def leftShiftForms : List (FormRRR × (Word → Word → Word)) :=
  [(Instr.pshl2I7, (fun a c => pshl2 a c.toNat)), (Instr.pshl4I7, (fun a c => pshl4 a c.toNat)),
    (Instr.shlI7, shiftLeft)]

/-- The shifts whose value is r3 and whose count is r2 (R801, R890). -/
noncomputable def rightShiftForms : List (FormRRR × (Word → Word → Word)) :=
  [(Instr.pshr2I5, (fun a c => pshr2 a c.toNat)), (Instr.pshr4I5, (fun a c => pshr4 a c.toNat)),
    (Instr.shrI5, shiftRightSigned), (Instr.pshr2UI5, (fun a c => pshr2u a c.toNat)),
    (Instr.pshr4UI5, (fun a c => pshr4u a c.toNat)), (Instr.shrUI5, shiftRightUnsigned)]

/-- Extensions, zero searches and counts (R806 to R810). -/
noncomputable def unaryForms : List (FormRR × (Word → Word)) :=
  [(Instr.zxt1I29, zeroExt 8), (Instr.zxt2I29, zeroExt 16), (Instr.zxt4I29, zeroExt 32), (Instr.sxt1I29, signExt 8),
    (Instr.sxt2I29, signExt 16), (Instr.sxt4I29, signExt 32), (Instr.czx1LI29, zeroIndexLeft 8),
    (Instr.czx2LI29, zeroIndexLeft 16), (Instr.czx1RI29, zeroIndexRight 8), (Instr.czx2RI29, zeroIndexRight 16),
    (Instr.popcntI9, popCount), (Instr.clzI9, leadingZeros)]

/-- Parallel right shifts by an immediate count (R890). -/
noncomputable def rightCountForms : List (FormRRC × (Word → Nat → Word)) :=
  [(Instr.pshr2I6, pshr2), (Instr.pshr4I6, pshr4), (Instr.pshr2UI6, pshr2u), (Instr.pshr4UI6, pshr4u)]

/-- Parallel left shifts by an immediate count, encoded as 31 - count (R891). -/
noncomputable def leftCountForms : List (FormRRC × (Word → Nat → Word)) :=
  [(Instr.pshl2I8, pshl2), (Instr.pshl4I8, pshl4)]

end Sys2Proof.Machine

/-- Integer ALU instructions complete, write their value and NaT bit to r1, and change nothing else (R761, R762, R763,
R764, R766, R768, R769, R770, R771, R772, R773; stated). -/
def Obligations.IntegerAluWritesResult : Prop :=
  ∀ (s : State) (qp : BitVec 6) (r1 r2 r3 : BitVec 7), ReadyGr s qp r1 →
    (∀ f ∈ aluForms,
      WritesGr (f.1 qp r1 r2 r3) s r1 ⟨f.2 (s.gr r2).val (s.gr r3).val, (s.gr r2).nat || (s.gr r3).nat⟩) ∧
    (∀ n : BitVec 2, WritesGr (.shladdA2 qp r1 r2 r3 n) s r1
      ⟨((s.gr r2).val <<< (n.toNat + 1)) + (s.gr r3).val, (s.gr r2).nat || (s.gr r3).nat⟩) ∧
    (∀ n : BitVec 2, WritesGr (.shladdp4A2 qp r1 r2 r3 n) s r1
      ⟨pointer32 (((s.gr r2).val <<< (n.toNat + 1)) + (s.gr r3).val) (s.gr r3).val,
        (s.gr r2).nat || (s.gr r3).nat⟩) ∧
    (∀ f ∈ aluImmForms, ∀ imm : BitVec 8,
      WritesGr (f.1 qp r1 r3 imm) s r1 ⟨f.2 (imm.signExtend 64) (s.gr r3).val, (s.gr r3).nat⟩) ∧
    (∀ imm : BitVec 14,
      WritesGr (.addsA4 qp r1 r3 imm) s r1 ⟨imm.signExtend 64 + (s.gr r3).val, (s.gr r3).nat⟩ ∧
      WritesGr (.addp4A4 qp r1 r3 imm) s r1
        ⟨pointer32 (imm.signExtend 64 + (s.gr r3).val) (s.gr r3).val, (s.gr r3).nat⟩) ∧
    (∀ (b : BitVec 2) (imm : BitVec 22), WritesGr (.addlA5 qp r1 b imm) s r1
      ⟨imm.signExtend 64 + (s.gr (b.zeroExtend 7)).val, (s.gr (b.zeroExtend 7)).nat⟩) ∧
    (∀ imm : BitVec 64, ∃ t, exec (.movlX2 qp r1 imm) s = .next t ∧ t.place = (s.ip + 16, 0) ∧
      t.gr r1 = ⟨imm, false⟩ ∧ SameGrBut r1 s t ∧ SameMemory s t ∧ t.settled = (s.setGr r1 ⟨imm, false⟩).settled)

/-- Shifts, bit fields, extensions, counts and 32-bit products complete and write only r1; these and the integer ALU
instructions are Illegal Operations where r1 is GR0 or outside the frame (R800, R801, R802, R803, R804, R805, R806, R807,
R808, R809, R811, R17; derived). -/
def Obligations.ShiftsAndFieldsWriteResult : Prop :=
  (∀ (s : State) (r : BitVec 7), s.badTarget r = true ↔ NoTarget s r) ∧
  (∀ (s : State) (qp : BitVec 6) (r1 r2 r3 : BitVec 7) (n b : BitVec 2) (i1 : BitVec 1) (i8 : BitVec 8) (i14 : BitVec 14)
      (i22 : BitVec 22) (i64 : BitVec 64) (c : BitVec 5) (len pos : BitVec 6) (len4 : BitVec 4),
    s.prBit qp = true → NoTarget s r1 →
    (∀ f ∈ aluForms ++ leftShiftForms ++ rightShiftForms, Traps (f.1 qp r1 r2 r3) s illegalOperation) ∧
    (∀ f ∈ aluImmForms, Traps (f.1 qp r1 r3 i8) s illegalOperation) ∧
    (∀ f ∈ unaryForms, Traps (f.1 qp r1 r3) s illegalOperation) ∧
    (∀ f ∈ rightCountForms ++ leftCountForms, Traps (f.1 qp r1 r3 c) s illegalOperation) ∧
    ∀ i ∈ [Instr.shladdA2 qp r1 r2 r3 n, .shladdp4A2 qp r1 r2 r3 n, .addsA4 qp r1 r3 i14, .addp4A4 qp r1 r3 i14,
      .addlA5 qp r1 b i22, .movlX2 qp r1 i64, .shrpI10 qp r1 r2 r3 pos, .extrI11 qp r1 r3 len pos,
      .extrUI11 qp r1 r3 len pos, .depZI12 qp r1 r2 len pos, .depZI13 qp r1 len pos i8, .depI14 qp r1 r3 len pos i1,
      .depI15 qp r1 r2 r3 pos len4, .mpy4I2 qp r1 r2 r3, .mpyshl4I2 qp r1 r2 r3], Traps i s illegalOperation) ∧
  ∀ (s : State) (qp : BitVec 6) (r1 r2 r3 : BitVec 7), ReadyGr s qp r1 →
    (∀ f ∈ leftShiftForms,
      WritesGr (f.1 qp r1 r2 r3) s r1 ⟨f.2 (s.gr r2).val (s.gr r3).val, (s.gr r2).nat || (s.gr r3).nat⟩) ∧
    (∀ f ∈ rightShiftForms,
      WritesGr (f.1 qp r1 r2 r3) s r1 ⟨f.2 (s.gr r3).val (s.gr r2).val, (s.gr r3).nat || (s.gr r2).nat⟩) ∧
    (∀ f ∈ unaryForms, WritesGr (f.1 qp r1 r3) s r1 ⟨f.2 (s.gr r3).val, (s.gr r3).nat⟩) ∧
    (∀ f ∈ rightCountForms, ∀ c : BitVec 5,
      WritesGr (f.1 qp r1 r3 c) s r1 ⟨f.2 (s.gr r3).val c.toNat, (s.gr r3).nat⟩) ∧
    (∀ f ∈ leftCountForms, ∀ c : BitVec 5,
      WritesGr (f.1 qp r1 r2 c) s r1 ⟨f.2 (s.gr r2).val (31 - c.toNat), (s.gr r2).nat⟩) ∧
    (∀ n : BitVec 6, WritesGr (.shrpI10 qp r1 r2 r3 n) s r1
      ⟨shiftPair n.toNat (s.gr r2).val (s.gr r3).val, (s.gr r2).nat || (s.gr r3).nat⟩) ∧
    (∀ len pos : BitVec 6,
      WritesGr (.extrI11 qp r1 r3 len pos) s r1
        ⟨extractSigned pos.toNat (len.toNat + 1) (s.gr r3).val, (s.gr r3).nat⟩ ∧
      WritesGr (.extrUI11 qp r1 r3 len pos) s r1
        ⟨extractUnsigned pos.toNat (len.toNat + 1) (s.gr r3).val, (s.gr r3).nat⟩) ∧
    (∀ len cpos : BitVec 6,
      WritesGr (.depZI12 qp r1 r2 len cpos) s r1
        ⟨deposit (63 - cpos.toNat) (len.toNat + 1) (s.gr r2).val 0, (s.gr r2).nat⟩ ∧
      (∀ imm : BitVec 8, WritesGr (.depZI13 qp r1 len cpos imm) s r1
        ⟨deposit (63 - cpos.toNat) (len.toNat + 1) (imm.signExtend 64) 0, false⟩) ∧
      (∀ imm : BitVec 1, WritesGr (.depI14 qp r1 r3 len cpos imm) s r1
        ⟨deposit (63 - cpos.toNat) (len.toNat + 1) (imm.signExtend 64) (s.gr r3).val, (s.gr r3).nat⟩) ∧
      (∀ len4 : BitVec 4, WritesGr (.depI15 qp r1 r2 r3 cpos len4) s r1
        ⟨deposit (63 - cpos.toNat) (len4.toNat + 1) (s.gr r2).val (s.gr r3).val,
          (s.gr r2).nat || (s.gr r3).nat⟩)) ∧
    WritesGr (.mpy4I2 qp r1 r2 r3) s r1
      ⟨multiply4 (s.gr r2).val (s.gr r3).val, (s.gr r2).nat || (s.gr r3).nat⟩ ∧
    WritesGr (.mpyshl4I2 qp r1 r2 r3) s r1
      ⟨multiplyShift4 (s.gr r2).val (s.gr r3).val, (s.gr r2).nat || (s.gr r3).nat⟩

/-- What shifts, extracts, deposits, extensions, searches, counts, products and 32-bit pointers compute (R765, R800,
R801, R802, R803, R804, R806, R807, R808, R809, R890, R891; derived). -/
def Obligations.ShiftedAndDepositedBits : Prop :=
  (∀ (a c : Word) (k : Nat), k < 64 →
    (shiftLeft a c).getLsbD k = (decide (c.toNat ≤ k) && a.getLsbD (k - c.toNat)) ∧
    (shiftRightUnsigned a c).getLsbD k = a.getLsbD (k + c.toNat) ∧
    (shiftRightSigned a c).getLsbD k = (if k + c.toNat < 64 then a.getLsbD (k + c.toNat) else a.getLsbD 63)) ∧
  (∀ (a : Word) (pos len k : Nat), k < 64 → pos < 64 → 0 < len →
    (extractUnsigned pos len a).getLsbD k = (decide (k < len) && a.getLsbD (pos + k)) ∧
    (extractSigned pos len a).getLsbD k =
      (if k < min len (64 - pos) then a.getLsbD (pos + k) else a.getLsbD (pos + min len (64 - pos) - 1))) ∧
  (∀ (a b : Word) (pos len k : Nat), k < 64 → pos < 64 → 0 < len →
    (deposit pos len a b).getLsbD k = (if pos ≤ k ∧ k < pos + len then a.getLsbD (k - pos) else b.getLsbD k)) ∧
  (∀ (a : Word) (n k : Nat), k < 64 → 0 < n → n ≤ 64 →
    (zeroExt n a).getLsbD k = (decide (k < n) && a.getLsbD k) ∧
    (signExt n a).getLsbD k = (if k < n then a.getLsbD k else a.getLsbD (n - 1))) ∧
  (∀ (t b : Word) (k : Nat), k < 64 →
    (pointer32 t b).getLsbD k =
      (if k < 32 then t.getLsbD k else if k = 61 then b.getLsbD 30 else if k = 62 then b.getLsbD 31 else false)) ∧
  (∀ (a b : Word) (n k : Nat), n < 64 → k < 64 →
    (shiftPair n a b).getLsbD k = if k + n < 64 then b.getLsbD (k + n) else a.getLsbD (k + n - 64)) ∧
  (∀ (a : Word) (size : Nat), size = 8 ∨ size = 16 →
    let r := (zeroIndexRight size a).toNat
    let l := (zeroIndexLeft size a).toNat
    (r ≤ 64 / size ∧ (r < 64 / size → fld a (size * r) size = (0 : BitVec size)) ∧
      ∀ j < r, fld a (size * j) size ≠ (0 : BitVec size)) ∧
    (l ≤ 64 / size ∧ (l < 64 / size → fld a (64 - size * (l + 1)) size = (0 : BitVec size)) ∧
      ∀ j < l, fld a (64 - size * (j + 1)) size ≠ (0 : BitVec size))) ∧
  (∀ a : Word, (popCount a).toNat = ∑ k ∈ Finset.range 64, (a.getLsbD k).toNat) ∧
  (∀ a : Word,
    let z := (leadingZeros a).toNat
    z ≤ 64 ∧ (∀ k, 64 - z ≤ k → k < 64 → a.getLsbD k = false) ∧ (z < 64 → a.getLsbD (63 - z) = true)) ∧
  (∀ a b : Word,
    (multiply4 a b).toNat = (a.toNat % 2 ^ 32) * (b.toNat % 2 ^ 32) ∧
    (multiplyShift4 a b).toNat = (a.toNat / 2 ^ 32) * (b.toNat % 2 ^ 32) % 2 ^ 32 * 2 ^ 32) ∧
  (∀ (a : Word) (c i k : Nat), i < 4 → k < 16 →
    (halfOf (pshl2 a c) i).getLsbD k = (decide (c ≤ k) && (halfOf a i).getLsbD (k - c)) ∧
    (halfOf (pshr2u a c) i).getLsbD k = (halfOf a i).getLsbD (k + c) ∧
    (halfOf (pshr2 a c) i).getLsbD k = (halfOf a i).getLsbD (min (k + c) 15)) ∧
  (∀ (a : Word) (c i k : Nat), i < 2 → k < 32 →
    (wordOf (pshl4 a c) i).getLsbD k = (decide (c ≤ k) && (wordOf a i).getLsbD (k - c)) ∧
    (wordOf (pshr4u a c) i).getLsbD k = (wordOf a i).getLsbD (k + c) ∧
    (wordOf (pshr4 a c) i).getLsbD k = (wordOf a i).getLsbD (min (k + c) 31))

/-- Parallel (multimedia) instructions complete and write only r1; reserved counts and permutations are Illegal Operations
(R862, R864, R865, R866, R867, R875, R880, R881, R882, R883, R885, R17; derived). So are all of them where r1 is GR0 or
outside the frame. -/
def Obligations.ParallelInstructionsWriteResult : Prop :=
  (∀ (s : State) (qp : BitVec 6) (r1 r2 r3 : BitVec 7) (n : BitVec 2) (m4 : BitVec 4) (m8 : BitVec 8),
    s.prBit qp = true → NoTarget s r1 →
    (∀ f ∈ parallelForms ++ arrangeForms, Traps (f.1 qp r1 r2 r3) s illegalOperation) ∧
    ∀ i ∈ [Instr.pshladd2A10 qp r1 r2 r3 n, .pshradd2A10 qp r1 r2 r3 n, .pmpyshr2I1 qp r1 r2 r3 n,
      .pmpyshr2UI1 qp r1 r2 r3 n, .mux1I3 qp r1 r2 m4, .mux2I4 qp r1 r2 m8], Traps i s illegalOperation) ∧
  (∀ (s : State) (qp : BitVec 6) (r1 r2 r3 : BitVec 7), ReadyGr s qp r1 →
      (∀ f ∈ parallelForms ++ arrangeForms,
        WritesGr (f.1 qp r1 r2 r3) s r1 ⟨f.2 (s.gr r2).val (s.gr r3).val, (s.gr r2).nat || (s.gr r3).nat⟩) ∧
      (∀ n : BitVec 2, n ≠ 3 →
        WritesGr (.pshladd2A10 qp r1 r2 r3 n) s r1
          ⟨halfwise (shiftLeftAdd2 (n.toNat + 1)) (s.gr r2).val (s.gr r3).val, (s.gr r2).nat || (s.gr r3).nat⟩ ∧
        WritesGr (.pshradd2A10 qp r1 r2 r3 n) s r1
          ⟨halfwise (shiftRightAdd2 (n.toNat + 1)) (s.gr r2).val (s.gr r3).val, (s.gr r2).nat || (s.gr r3).nat⟩) ∧
      (∀ n : BitVec 2,
        WritesGr (.pmpyshr2I1 qp r1 r2 r3 n) s r1
          ⟨halfwise (multiplyShiftSigned (shiftCount2 n)) (s.gr r2).val (s.gr r3).val,
            (s.gr r2).nat || (s.gr r3).nat⟩ ∧
        WritesGr (.pmpyshr2UI1 qp r1 r2 r3 n) s r1
          ⟨halfwise (multiplyShiftUnsigned (shiftCount2 n)) (s.gr r2).val (s.gr r3).val,
            (s.gr r2).nat || (s.gr r3).nat⟩) ∧
      (∀ (m : BitVec 4) (v : Word), permuteBytes m (s.gr r2).val = some v →
        WritesGr (.mux1I3 qp r1 r2 m) s r1 ⟨v, (s.gr r2).nat⟩) ∧
      (∀ m : BitVec 8, WritesGr (.mux2I4 qp r1 r2 m) s r1 ⟨permuteHalves m (s.gr r2).val, (s.gr r2).nat⟩)) ∧
  (∀ (s : State) (qp : BitVec 6) (r1 r2 r3 : BitVec 7), s.prBit qp = true →
    Traps (.pshladd2A10 qp r1 r2 r3 3) s illegalOperation ∧ Traps (.pshradd2A10 qp r1 r2 r3 3) s illegalOperation ∧
      ∀ m : BitVec 4, m ∉ [(0 : BitVec 4), 8, 9, 10, 11] → Traps (.mux1I3 qp r1 r2 m) s illegalOperation) ∧
  (∀ (f : BitVec 8 → BitVec 8 → BitVec 8) (a b : Word) (i : Nat), i < 8 →
    byteOf (bytewise f a b) i = f (byteOf a i) (byteOf b i)) ∧
  (∀ (f : BitVec 16 → BitVec 16 → BitVec 16) (a b : Word) (i : Nat), i < 4 →
    halfOf (halfwise f a b) i = f (halfOf a i) (halfOf b i)) ∧
  (∀ (f : BitVec 32 → BitVec 32 → BitVec 32) (a b : Word) (i : Nat), i < 2 →
    wordOf (wordwise f a b) i = f (wordOf a i) (wordOf b i)) ∧
  (∀ (n : Nat) (a b : BitVec (n + 1)),
    (addSss a b).toInt = max (-(2 ^ n)) (min (2 ^ n - 1) (a.toInt + b.toInt)) ∧
    (subSss a b).toInt = max (-(2 ^ n)) (min (2 ^ n - 1) (a.toInt - b.toInt)) ∧
    (addUuu a b).toNat = min (2 ^ (n + 1) - 1) (a.toNat + b.toNat) ∧
    (subUuu a b).toNat = a.toNat - b.toNat ∧
    ((addUus a b).toNat : Int) = max 0 (min (2 ^ (n + 1) - 1) (a.toNat + b.toInt)) ∧
    ((subUus a b).toNat : Int) = max 0 (min (2 ^ (n + 1) - 1) (a.toNat - b.toInt)) ∧
    parallelEq a b = (if a = b then BitVec.allOnes (n + 1) else 0) ∧
    parallelGt a b = (if b.toInt < a.toInt then BitVec.allOnes (n + 1) else 0)) ∧
  (∀ (a : Word) (i : Nat), i < 8 →
    let moves (m : BitVec 4) (source : Nat) : Prop := ∃ v, permuteBytes m a = some v ∧ byteOf v i = byteOf a source
    moves 0 0 ∧ moves 8 ([0, 4, 2, 6, 1, 5, 3, 7].getD i 0) ∧ moves 9 ([0, 4, 1, 5, 2, 6, 3, 7].getD i 0) ∧
      moves 10 ([0, 2, 4, 6, 1, 3, 5, 7].getD i 0) ∧ moves 11 (7 - i)) ∧
  (∀ a : Word, (permuteBytes 11 a).bind (permuteBytes 11) = some a ∧ permuteHalves 0xE4 a = a) ∧
  (∀ (n : Nat) (a b : BitVec (n + 1)),
    let sum := a.toNat + b.toNat
    (average a b).toNat = (sum / 2 ||| sum % 2) ∧ (averageRaz a b).toNat = (sum + 1) / 2 ∧
    averageSub a b =
      BitVec.ofInt (n + 1) (((a.toNat : Int) - b.toNat) / 2) ||| BitVec.ofNat (n + 1) (sum % 2)) ∧
  (∀ (a b : BitVec 16) (c : Nat),
    let clamp (x : Int) : Int := max (-32768) (min 32767 x)
    (shiftLeftAdd2 c a b).toInt = clamp (clamp (a.toInt * 2 ^ c) + b.toInt) ∧
    (shiftRightAdd2 c a b).toInt = clamp (a.toInt / 2 ^ c + b.toInt) ∧
    (c ≤ 16 → multiplyShiftSigned c a b = BitVec.ofInt 16 (a.toInt * b.toInt / 2 ^ c)) ∧
    (multiplyShiftUnsigned c a b).toNat = a.toNat * b.toNat / 2 ^ c % 2 ^ 16 ∧
    (minSigned a b).toInt = min a.toInt b.toInt ∧ (maxSigned a b).toInt = max a.toInt b.toInt) ∧
  (∀ a b : BitVec 8, (minUnsigned a b).toNat = min a.toNat b.toNat ∧ (maxUnsigned a b).toNat = max a.toNat b.toNat) ∧
  (∀ (a b : Word) (i : Nat), i < 2 →
    (wordOf (multiplyRight a b) i).toInt = (halfOf a (2 * i)).toInt * (halfOf b (2 * i)).toInt ∧
    (wordOf (multiplyLeft a b) i).toInt = (halfOf a (2 * i + 1)).toInt * (halfOf b (2 * i + 1)).toInt ∧
    (let clamp (x : Int) : Int := max (-32768) (min 32767 x);
      (halfOf (pack4 a b) i).toInt = clamp (wordOf a i).toInt ∧
        (halfOf (pack4 a b) (i + 2)).toInt = clamp (wordOf b i).toInt) ∧
    ∀ o : Nat,
      halfOf (unpack2 o a b) (2 * i) = halfOf b (o + i) ∧ halfOf (unpack2 o a b) (2 * i + 1) = halfOf a (o + i) ∧
      halfOf (mix2 o a b) (2 * i) = halfOf b (2 * i + o) ∧ halfOf (mix2 o a b) (2 * i + 1) = halfOf a (2 * i + o)) ∧
  (∀ (a b : Word) (o : Nat),
    wordOf (unpack4 o a b) 0 = wordOf b o ∧ wordOf (unpack4 o a b) 1 = wordOf a o ∧
    wordOf (mix4 o a b) 0 = wordOf b o ∧ wordOf (mix4 o a b) 1 = wordOf a o) ∧
  (∀ (a b : Word) (i o : Nat), i < 4 →
    byteOf (unpack1 o a b) (2 * i) = byteOf b (o + i) ∧ byteOf (unpack1 o a b) (2 * i + 1) = byteOf a (o + i) ∧
    byteOf (mix1 o a b) (2 * i) = byteOf b (2 * i + o) ∧ byteOf (mix1 o a b) (2 * i + 1) = byteOf a (2 * i + o) ∧
    (byteOf (pack2 (satSigned 8) a b) i).toInt = max (-128) (min 127 (halfOf a i).toInt) ∧
    (byteOf (pack2 (satSigned 8) a b) (i + 4)).toInt = max (-128) (min 127 (halfOf b i).toInt) ∧
    ((byteOf (pack2 (satUnsigned 8) a b) i).toNat : Int) = max 0 (min 255 (halfOf a i).toInt) ∧
    ((byteOf (pack2 (satUnsigned 8) a b) (i + 4)).toNat : Int) = max 0 (min 255 (halfOf b i).toInt)) ∧
  (∀ a b : Word, (sumAbsDiff a b).toNat =
    ∑ i ∈ Finset.range 8, (((byteOf a i).toNat : Int) - (byteOf b i).toNat).natAbs) ∧
  (∀ (a : Word) (m : BitVec 8) (i : Nat), i < 4 →
    halfOf (permuteHalves m a) i = halfOf a (fld m (2 * i) 2 : BitVec 2).toNat)

namespace Sys2Proof.Machine

/-! ### Compares -/

/-- `op p1, p2 = r2, r3`. -/
abbrev FormCmp := BitVec 6 → BitVec 6 → BitVec 6 → BitVec 7 → BitVec 7 → Instr
/-- `op p1, p2 = r0, r3`. -/
abbrev FormCmpZ := BitVec 6 → BitVec 6 → BitVec 6 → BitVec 7 → Instr
/-- `op p1, p2 = imm8, r3`. -/
abbrev FormCmpI := BitVec 6 → BitVec 6 → BitVec 6 → BitVec 7 → BitVec 8 → Instr
/-- `op p1, p2 = r3, pos6`. -/
abbrev FormTbit := BitVec 6 → BitVec 6 → BitVec 6 → BitVec 7 → BitVec 6 → Instr
/-- `op p1, p2 = imm5`. -/
abbrev FormTf := BitVec 6 → BitVec 6 → BitVec 6 → BitVec 5 → Instr

/-- What a compare of type `ct` leaves in its targets, which held `old1` and `old2` (R790). -/
def targetsAfter (ct : CmpType) (rel nat old1 old2 : Bool) : Bool × Bool :=
  match ct with
  | .and => if nat || !rel then (false, false) else (old1, old2)
  | .or => if !nat && rel then (true, true) else (old1, old2)
  | .orAndcm => if !nat && rel then (true, false) else (old1, old2)
  | .normal | .unc => if nat then (false, false) else (rel, !rel)

/-- `i` completes and leaves in p1 and p2 what R790 says for `ct`, `rel` and `nat`. -/
def Compares (i : Instr) (s : State) (ct : CmpType) (p1 p2 : BitVec 6) (rel nat : Bool) : Prop :=
  WritesPrs i s p1 p2 (targetsAfter ct rel nat (s.prBit p1) (s.prBit p2)).1
    (targetsAfter ct rel nat (s.prBit p1) (s.prBit p2)).2

/-- A relation on the 64 bits, or on the low 32 bits, of two registers (R791, R792). -/
def relationOf (width : Nat) (r : Rel) (a b : Word) : Bool :=
  if width = 64 then r.holds a b else r.holds (fld a 0 32 : BitVec 32) (fld b 0 32)

/-- Register compares: width, type, relation (R791, R792). -/
noncomputable def compareForms : List (FormCmp × Nat × CmpType × Rel) :=
  [(Instr.cmpLtA6, 64, .normal, .lt), (Instr.cmpLtuA6, 64, .normal, .ltu), (Instr.cmpEqA6, 64, .normal, .eq),
    (Instr.cmpLtUncA6, 64, .unc, .lt), (Instr.cmpLtuUncA6, 64, .unc, .ltu), (Instr.cmpEqUncA6, 64, .unc, .eq),
    (Instr.cmpEqAndA6, 64, .and, .eq), (Instr.cmpEqOrA6, 64, .or, .eq), (Instr.cmpEqOrAndcmA6, 64, .orAndcm, .eq),
    (Instr.cmpNeAndA6, 64, .and, .ne), (Instr.cmpNeOrA6, 64, .or, .ne), (Instr.cmpNeOrAndcmA6, 64, .orAndcm, .ne),
    (Instr.cmp4LtA6, 32, .normal, .lt), (Instr.cmp4LtuA6, 32, .normal, .ltu), (Instr.cmp4EqA6, 32, .normal, .eq),
    (Instr.cmp4LtUncA6, 32, .unc, .lt), (Instr.cmp4LtuUncA6, 32, .unc, .ltu), (Instr.cmp4EqUncA6, 32, .unc, .eq),
    (Instr.cmp4EqAndA6, 32, .and, .eq), (Instr.cmp4EqOrA6, 32, .or, .eq), (Instr.cmp4EqOrAndcmA6, 32, .orAndcm, .eq),
    (Instr.cmp4NeAndA6, 32, .and, .ne), (Instr.cmp4NeOrA6, 32, .or, .ne), (Instr.cmp4NeOrAndcmA6, 32, .orAndcm, .ne)]

/-- Compares with GR0 on the left (R791, R792). -/
noncomputable def compareZeroForms : List (FormCmpZ × Nat × CmpType × Rel) :=
  [(Instr.cmpGtAndA7, 64, .and, .gt), (Instr.cmpGtOrA7, 64, .or, .gt), (Instr.cmpGtOrAndcmA7, 64, .orAndcm, .gt),
    (Instr.cmpLeAndA7, 64, .and, .le), (Instr.cmpLeOrA7, 64, .or, .le), (Instr.cmpLeOrAndcmA7, 64, .orAndcm, .le),
    (Instr.cmpGeAndA7, 64, .and, .ge), (Instr.cmpGeOrA7, 64, .or, .ge), (Instr.cmpGeOrAndcmA7, 64, .orAndcm, .ge),
    (Instr.cmpLtAndA7, 64, .and, .lt), (Instr.cmpLtOrA7, 64, .or, .lt), (Instr.cmpLtOrAndcmA7, 64, .orAndcm, .lt),
    (Instr.cmp4GtAndA7, 32, .and, .gt), (Instr.cmp4GtOrA7, 32, .or, .gt), (Instr.cmp4GtOrAndcmA7, 32, .orAndcm, .gt),
    (Instr.cmp4LeAndA7, 32, .and, .le), (Instr.cmp4LeOrA7, 32, .or, .le), (Instr.cmp4LeOrAndcmA7, 32, .orAndcm, .le),
    (Instr.cmp4GeAndA7, 32, .and, .ge), (Instr.cmp4GeOrA7, 32, .or, .ge), (Instr.cmp4GeOrAndcmA7, 32, .orAndcm, .ge),
    (Instr.cmp4LtAndA7, 32, .and, .lt), (Instr.cmp4LtOrA7, 32, .or, .lt), (Instr.cmp4LtOrAndcmA7, 32, .orAndcm, .lt)]

/-- Compares with an immediate on the left (R791, R792). -/
noncomputable def compareImmForms : List (FormCmpI × Nat × CmpType × Rel) :=
  [(Instr.cmpLtA8, 64, .normal, .lt), (Instr.cmpLtuA8, 64, .normal, .ltu), (Instr.cmpEqA8, 64, .normal, .eq),
    (Instr.cmpLtUncA8, 64, .unc, .lt), (Instr.cmpLtuUncA8, 64, .unc, .ltu), (Instr.cmpEqUncA8, 64, .unc, .eq),
    (Instr.cmpEqAndA8, 64, .and, .eq), (Instr.cmpEqOrA8, 64, .or, .eq), (Instr.cmpEqOrAndcmA8, 64, .orAndcm, .eq),
    (Instr.cmpNeAndA8, 64, .and, .ne), (Instr.cmpNeOrA8, 64, .or, .ne), (Instr.cmpNeOrAndcmA8, 64, .orAndcm, .ne),
    (Instr.cmp4LtA8, 32, .normal, .lt), (Instr.cmp4LtuA8, 32, .normal, .ltu), (Instr.cmp4EqA8, 32, .normal, .eq),
    (Instr.cmp4LtUncA8, 32, .unc, .lt), (Instr.cmp4LtuUncA8, 32, .unc, .ltu), (Instr.cmp4EqUncA8, 32, .unc, .eq),
    (Instr.cmp4EqAndA8, 32, .and, .eq), (Instr.cmp4EqOrA8, 32, .or, .eq), (Instr.cmp4EqOrAndcmA8, 32, .orAndcm, .eq),
    (Instr.cmp4NeAndA8, 32, .and, .ne), (Instr.cmp4NeOrA8, 32, .or, .ne), (Instr.cmp4NeOrAndcmA8, 32, .orAndcm, .ne)]

/-- Bit tests: type, and whether the relation is that the bit is 0 (R794). -/
noncomputable def tbitForms : List (FormTbit × CmpType × Bool) :=
  [(Instr.tbitZI16, .normal, true), (Instr.tbitZUncI16, .unc, true), (Instr.tbitZAndI16, .and, true),
    (Instr.tbitNzAndI16, .and, false), (Instr.tbitZOrI16, .or, true), (Instr.tbitNzOrI16, .or, false),
    (Instr.tbitZOrAndcmI16, .orAndcm, true), (Instr.tbitNzOrAndcmI16, .orAndcm, false)]

/-- NaT tests: type, and whether the relation is that the NaT bit is 0 (R795). -/
noncomputable def tnatForms : List (FormCmpZ × CmpType × Bool) :=
  [(Instr.tnatZI17, .normal, true), (Instr.tnatZUncI17, .unc, true), (Instr.tnatZAndI17, .and, true),
    (Instr.tnatNzAndI17, .and, false), (Instr.tnatZOrI17, .or, true), (Instr.tnatNzOrI17, .or, false),
    (Instr.tnatZOrAndcmI17, .orAndcm, true), (Instr.tnatNzOrAndcmI17, .orAndcm, false)]

/-- Feature tests: type, and whether the relation is that the feature is absent (R796). -/
noncomputable def tfForms : List (FormTf × CmpType × Bool) :=
  [(Instr.tfZI30, .normal, true), (Instr.tfZUncI30, .unc, true), (Instr.tfZAndI30, .and, true),
    (Instr.tfNzAndI30, .and, false), (Instr.tfZOrI30, .or, true), (Instr.tfNzOrI30, .or, false),
    (Instr.tfZOrAndcmI30, .orAndcm, true), (Instr.tfNzOrAndcmI30, .orAndcm, false)]

end Sys2Proof.Machine

/-- cmp and cmp4 of every relation, type and form complete and write the two predicates R790 names; with p1 = p2 they are
Illegal Operations (R61, R790, R791, R792, R1130; derived). -/
def Obligations.ComparesWritePredicates : Prop :=
  (∀ (s : State) (qp p1 p2 : BitVec 6) (r2 r3 : BitVec 7),
    s.prBit qp = true → s.psrBit Psr.ss = false → p1 ≠ p2 →
    (∀ f ∈ compareForms, Compares (f.1 qp p1 p2 r2 r3) s f.2.2.1 p1 p2
      (relationOf f.2.1 f.2.2.2 (s.gr r2).val (s.gr r3).val) ((s.gr r2).nat || (s.gr r3).nat)) ∧
    (∀ f ∈ compareZeroForms, Compares (f.1 qp p1 p2 r3) s f.2.2.1 p1 p2
      (relationOf f.2.1 f.2.2.2 0 (s.gr r3).val) (s.gr r3).nat) ∧
    (∀ f ∈ compareImmForms, ∀ imm : BitVec 8, Compares (f.1 qp p1 p2 r3 imm) s f.2.2.1 p1 p2
      (relationOf f.2.1 f.2.2.2 (imm.signExtend 64) (s.gr r3).val) (s.gr r3).nat)) ∧
  (∀ (s : State) (qp p : BitVec 6) (r2 r3 : BitVec 7), s.prBit qp = true →
    (∀ f ∈ compareForms, Traps (f.1 qp p p r2 r3) s illegalOperation) ∧
    (∀ f ∈ compareZeroForms, Traps (f.1 qp p p r3) s illegalOperation) ∧
    (∀ f ∈ compareImmForms, ∀ imm : BitVec 8, Traps (f.1 qp p p r3 imm) s illegalOperation)) ∧
  (∀ (n : Nat) (a b : BitVec n),
    (Rel.eq.holds a b = true ↔ a = b) ∧ (Rel.ne.holds a b = true ↔ a ≠ b) ∧
    (Rel.lt.holds a b = true ↔ a.toInt < b.toInt) ∧ (Rel.le.holds a b = true ↔ a.toInt ≤ b.toInt) ∧
    (Rel.gt.holds a b = true ↔ b.toInt < a.toInt) ∧ (Rel.ge.holds a b = true ↔ b.toInt ≤ a.toInt) ∧
    (Rel.ltu.holds a b = true ↔ a.toNat < b.toNat))

/-- tbit, tnat and tf complete and write the two predicates from the tested bit; with p1 = p2 they are Illegal Operations
(R790, R794, R795, R796, R1130; derived). -/
def Obligations.BitTestsWritePredicates : Prop :=
  (∀ (s : State) (qp p : BitVec 6) (r3 : BitVec 7), s.prBit qp = true →
    (∀ f ∈ tbitForms, ∀ pos : BitVec 6, Traps (f.1 qp p p r3 pos) s illegalOperation) ∧
    (∀ f ∈ tnatForms, Traps (f.1 qp p p r3) s illegalOperation) ∧
    (∀ f ∈ tfForms, ∀ imm : BitVec 5, Traps (f.1 qp p p imm) s illegalOperation)) ∧
  ∀ (s : State) (qp p1 p2 : BitVec 6) (r3 : BitVec 7),
    s.prBit qp = true → s.psrBit Psr.ss = false → p1 ≠ p2 →
    (∀ f ∈ tbitForms, ∀ pos : BitVec 6, Compares (f.1 qp p1 p2 r3 pos) s f.2.1 p1 p2
      ((s.gr r3).val.getLsbD pos.toNat != f.2.2) (s.gr r3).nat) ∧
    (∀ f ∈ tnatForms, Compares (f.1 qp p1 p2 r3) s f.2.1 p1 p2 ((s.gr r3).nat != f.2.2) false) ∧
    (∀ f ∈ tfForms, ∀ imm : BitVec 5, Compares (f.1 qp p1 p2 imm) s f.2.1 p1 p2
      ((Config.cpuid 4).getLsbD (32 + imm.toNat) != f.2.2) false)

/-- An unconditional compare whose PR[qp] is 0 clears both its predicates (R790, R794, R938, R939; derived). -/
def Obligations.UnconditionalComparesClear : Prop :=
  ∀ (s : State) (qp p1 p2 : BitVec 6) (r2 r3 : BitVec 7) (imm : BitVec 8) (pos : BitVec 6) (i5 : BitVec 5)
    (sf : BitVec 2) (cl : BitVec 9),
    s.prBit qp = false → s.psrBit Psr.ss = false →
    ∀ i ∈ [Instr.cmpLtUncA6 qp p1 p2 r2 r3,
      Instr.cmpLtuUncA6 qp p1 p2 r2 r3,
      Instr.cmpEqUncA6 qp p1 p2 r2 r3,
      Instr.cmp4LtUncA6 qp p1 p2 r2 r3,
      Instr.cmp4LtuUncA6 qp p1 p2 r2 r3,
      Instr.cmp4EqUncA6 qp p1 p2 r2 r3,
      .cmpLtUncA8 qp p1 p2 r3 imm,
      .cmpLtuUncA8 qp p1 p2 r3 imm,
      .cmpEqUncA8 qp p1 p2 r3 imm,
      .cmp4LtUncA8 qp p1 p2 r3 imm,
      .cmp4LtuUncA8 qp p1 p2 r3 imm,
      .cmp4EqUncA8 qp p1 p2 r3 imm,
      .tbitZUncI16 qp p1 p2 r3 pos, .tnatZUncI17 qp p1 p2 r3, .tfZUncI30 qp p1 p2 i5,
      .fcmpEqUncF4 qp p1 p2 r2 r3 sf, .fcmpLtUncF4 qp p1 p2 r2 r3 sf, .fcmpLeUncF4 qp p1 p2 r2 r3 sf,
      .fcmpUnordUncF4 qp p1 p2 r2 r3 sf, .fclassMUncF5 qp p1 p2 r2 cl],
      (p1 ≠ p2 → WritesPrs i s p1 p2 false false) ∧ (p1 = p2 → Traps i s illegalOperation)

namespace Sys2Proof.Machine

/-- The integer loads without base update: load type, fill, bytes (R601, R605). -/
noncomputable def loadForms : List (FormLd × LdType × Bool × Nat) :=
  [(Instr.ld1M1, .normal, false, 1), (Instr.ld2M1, .normal, false, 2), (Instr.ld4M1, .normal, false, 4),
    (Instr.ld8M1, .normal, false, 8), (Instr.ld1SM1, .s, false, 1), (Instr.ld2SM1, .s, false, 2),
    (Instr.ld4SM1, .s, false, 4), (Instr.ld8SM1, .s, false, 8), (Instr.ld1AM1, .a, false, 1),
    (Instr.ld2AM1, .a, false, 2), (Instr.ld4AM1, .a, false, 4), (Instr.ld8AM1, .a, false, 8),
    (Instr.ld1SaM1, .sa, false, 1), (Instr.ld2SaM1, .sa, false, 2), (Instr.ld4SaM1, .sa, false, 4),
    (Instr.ld8SaM1, .sa, false, 8), (Instr.ld1BiasM1, .bias, false, 1), (Instr.ld2BiasM1, .bias, false, 2),
    (Instr.ld4BiasM1, .bias, false, 4), (Instr.ld8BiasM1, .bias, false, 8), (Instr.ld1AcqM1, .acq, false, 1),
    (Instr.ld2AcqM1, .acq, false, 2), (Instr.ld4AcqM1, .acq, false, 4), (Instr.ld8AcqM1, .acq, false, 8),
    (Instr.ld1CClrM1, .cClr, false, 1), (Instr.ld2CClrM1, .cClr, false, 2), (Instr.ld4CClrM1, .cClr, false, 4),
    (Instr.ld8CClrM1, .cClr, false, 8), (Instr.ld1CNcM1, .cNc, false, 1), (Instr.ld2CNcM1, .cNc, false, 2),
    (Instr.ld4CNcM1, .cNc, false, 4), (Instr.ld8CNcM1, .cNc, false, 8), (Instr.ld1CClrAcqM1, .cClrAcq, false, 1),
    (Instr.ld2CClrAcqM1, .cClrAcq, false, 2), (Instr.ld4CClrAcqM1, .cClrAcq, false, 4),
    (Instr.ld8CClrAcqM1, .cClrAcq, false, 8), (Instr.ld8FillM1, .normal, true, 8)]

/-- The integer loads whose base is updated by r2. -/
noncomputable def loadRegForms : List (FormLdReg × LdType × Bool × Nat) :=
  [(Instr.ld1M2, .normal, false, 1), (Instr.ld2M2, .normal, false, 2), (Instr.ld4M2, .normal, false, 4),
    (Instr.ld8M2, .normal, false, 8), (Instr.ld1SM2, .s, false, 1), (Instr.ld2SM2, .s, false, 2),
    (Instr.ld4SM2, .s, false, 4), (Instr.ld8SM2, .s, false, 8), (Instr.ld1AM2, .a, false, 1),
    (Instr.ld2AM2, .a, false, 2), (Instr.ld4AM2, .a, false, 4), (Instr.ld8AM2, .a, false, 8),
    (Instr.ld1SaM2, .sa, false, 1), (Instr.ld2SaM2, .sa, false, 2), (Instr.ld4SaM2, .sa, false, 4),
    (Instr.ld8SaM2, .sa, false, 8), (Instr.ld1BiasM2, .bias, false, 1), (Instr.ld2BiasM2, .bias, false, 2),
    (Instr.ld4BiasM2, .bias, false, 4), (Instr.ld8BiasM2, .bias, false, 8), (Instr.ld1AcqM2, .acq, false, 1),
    (Instr.ld2AcqM2, .acq, false, 2), (Instr.ld4AcqM2, .acq, false, 4), (Instr.ld8AcqM2, .acq, false, 8),
    (Instr.ld1CClrM2, .cClr, false, 1), (Instr.ld2CClrM2, .cClr, false, 2), (Instr.ld4CClrM2, .cClr, false, 4),
    (Instr.ld8CClrM2, .cClr, false, 8), (Instr.ld1CNcM2, .cNc, false, 1), (Instr.ld2CNcM2, .cNc, false, 2),
    (Instr.ld4CNcM2, .cNc, false, 4), (Instr.ld8CNcM2, .cNc, false, 8), (Instr.ld1CClrAcqM2, .cClrAcq, false, 1),
    (Instr.ld2CClrAcqM2, .cClrAcq, false, 2), (Instr.ld4CClrAcqM2, .cClrAcq, false, 4),
    (Instr.ld8CClrAcqM2, .cClrAcq, false, 8), (Instr.ld8FillM2, .normal, true, 8)]

/-- The integer loads whose base is updated by imm9. -/
noncomputable def loadImmForms : List (FormLdImm × LdType × Bool × Nat) :=
  [(Instr.ld1M3, .normal, false, 1), (Instr.ld2M3, .normal, false, 2), (Instr.ld4M3, .normal, false, 4),
    (Instr.ld8M3, .normal, false, 8), (Instr.ld1SM3, .s, false, 1), (Instr.ld2SM3, .s, false, 2),
    (Instr.ld4SM3, .s, false, 4), (Instr.ld8SM3, .s, false, 8), (Instr.ld1AM3, .a, false, 1),
    (Instr.ld2AM3, .a, false, 2), (Instr.ld4AM3, .a, false, 4), (Instr.ld8AM3, .a, false, 8),
    (Instr.ld1SaM3, .sa, false, 1), (Instr.ld2SaM3, .sa, false, 2), (Instr.ld4SaM3, .sa, false, 4),
    (Instr.ld8SaM3, .sa, false, 8), (Instr.ld1BiasM3, .bias, false, 1), (Instr.ld2BiasM3, .bias, false, 2),
    (Instr.ld4BiasM3, .bias, false, 4), (Instr.ld8BiasM3, .bias, false, 8), (Instr.ld1AcqM3, .acq, false, 1),
    (Instr.ld2AcqM3, .acq, false, 2), (Instr.ld4AcqM3, .acq, false, 4), (Instr.ld8AcqM3, .acq, false, 8),
    (Instr.ld1CClrM3, .cClr, false, 1), (Instr.ld2CClrM3, .cClr, false, 2), (Instr.ld4CClrM3, .cClr, false, 4),
    (Instr.ld8CClrM3, .cClr, false, 8), (Instr.ld1CNcM3, .cNc, false, 1), (Instr.ld2CNcM3, .cNc, false, 2),
    (Instr.ld4CNcM3, .cNc, false, 4), (Instr.ld8CNcM3, .cNc, false, 8), (Instr.ld1CClrAcqM3, .cClrAcq, false, 1),
    (Instr.ld2CClrAcqM3, .cClrAcq, false, 2), (Instr.ld4CClrAcqM3, .cClrAcq, false, 4),
    (Instr.ld8CClrAcqM3, .cClrAcq, false, 8), (Instr.ld8FillM3, .normal, true, 8)]

end Sys2Proof.Machine

/-- ld1 to ld8 of every type and form complete: the bytes in r1, the base updated, the ALAT as its type says (R601,
R605, R606, R608, R150, R16; derived). That a check load which hits makes no translation and no access, so that the data
TLB is as in `s` and r1 keeps its value, is the choice of the model: log entry 20 (R16 leaves it to the implementation). -/
def Obligations.LoadsReadMemory : Prop :=
  ∀ (s : State) (qp : BitVec 6) (r1 r2 r3 : BitVec 7) (a : Translation), s.badTarget r1 = false →
    (∀ f ∈ loadForms, ∀ (hint : BitVec 2) (h : BitVec 1),
      LoadReads s f.2.1 qp r3 (s.loadRef f.2.1 f.2.2.2 f.2.2.2) a →
      LoadsGr (f.1 qp r1 r3 hint h) s f.2.1 f.2.2.1 f.2.2.2 .none r1 r3 a) ∧
    (s.badTarget r3 = false → s.grLoc r1 ≠ s.grLoc r3 →
      (∀ f ∈ loadRegForms, ∀ hint : BitVec 2, LoadReads s f.2.1 qp r3 (s.loadRef f.2.1 f.2.2.2 f.2.2.2) a →
        LoadsGr (f.1 qp r1 r2 r3 hint) s f.2.1 f.2.2.1 f.2.2.2 (.reg r2) r1 r3 a) ∧
      (∀ f ∈ loadImmForms, ∀ (hint : BitVec 2) (imm : BitVec 9),
        LoadReads s f.2.1 qp r3 (s.loadRef f.2.1 f.2.2.2 f.2.2.2) a →
        LoadsGr (f.1 qp r1 r3 hint imm) s f.2.1 f.2.2.1 f.2.2.2 (.imm (imm.signExtend 64)) r1 r3 a))

namespace Sys2Proof.Machine

/-- `ldfp f1, f2 = [r3]`. -/
abbrev FormPair := BitVec 6 → BitVec 7 → BitVec 7 → BitVec 7 → BitVec 2 → Instr

/-- An FR may be written: FR2 or above, its partition enabled (R17, R72). -/
def FrOk (s : State) (f : BitVec 7) : Prop := f ≠ 0 ∧ f ≠ 1 ∧ s.disabledCode [f] = 0

/-- The floating-point loads without base update: load type, memory format (R645, R648). -/
noncomputable def fpLoadForms : List (FormLd × LdType × FpFormat) :=
  [(Instr.ldfeM6, .normal, .extended), (Instr.ldf8M6, .normal, .integer), (Instr.ldfsM6, .normal, .single),
    (Instr.ldfdM6, .normal, .double), (Instr.ldfeSM6, .s, .extended), (Instr.ldf8SM6, .s, .integer),
    (Instr.ldfsSM6, .s, .single), (Instr.ldfdSM6, .s, .double), (Instr.ldfeAM6, .a, .extended),
    (Instr.ldf8AM6, .a, .integer), (Instr.ldfsAM6, .a, .single), (Instr.ldfdAM6, .a, .double),
    (Instr.ldfeSaM6, .sa, .extended), (Instr.ldf8SaM6, .sa, .integer), (Instr.ldfsSaM6, .sa, .single),
    (Instr.ldfdSaM6, .sa, .double), (Instr.ldfeCClrM6, .cClr, .extended), (Instr.ldf8CClrM6, .cClr, .integer),
    (Instr.ldfsCClrM6, .cClr, .single), (Instr.ldfdCClrM6, .cClr, .double), (Instr.ldfeCNcM6, .cNc, .extended),
    (Instr.ldf8CNcM6, .cNc, .integer), (Instr.ldfsCNcM6, .cNc, .single), (Instr.ldfdCNcM6, .cNc, .double),
    (Instr.ldfFillM6, .normal, .whole)]

/-- The floating-point loads whose base is updated by r2. -/
noncomputable def fpLoadRegForms : List (FormLdReg × LdType × FpFormat) :=
  [(Instr.ldfeM7, .normal, .extended), (Instr.ldf8M7, .normal, .integer), (Instr.ldfsM7, .normal, .single),
    (Instr.ldfdM7, .normal, .double), (Instr.ldfeSM7, .s, .extended), (Instr.ldf8SM7, .s, .integer),
    (Instr.ldfsSM7, .s, .single), (Instr.ldfdSM7, .s, .double), (Instr.ldfeAM7, .a, .extended),
    (Instr.ldf8AM7, .a, .integer), (Instr.ldfsAM7, .a, .single), (Instr.ldfdAM7, .a, .double),
    (Instr.ldfeSaM7, .sa, .extended), (Instr.ldf8SaM7, .sa, .integer), (Instr.ldfsSaM7, .sa, .single),
    (Instr.ldfdSaM7, .sa, .double), (Instr.ldfeCClrM7, .cClr, .extended), (Instr.ldf8CClrM7, .cClr, .integer),
    (Instr.ldfsCClrM7, .cClr, .single), (Instr.ldfdCClrM7, .cClr, .double), (Instr.ldfeCNcM7, .cNc, .extended),
    (Instr.ldf8CNcM7, .cNc, .integer), (Instr.ldfsCNcM7, .cNc, .single), (Instr.ldfdCNcM7, .cNc, .double),
    (Instr.ldfFillM7, .normal, .whole)]

/-- The floating-point loads whose base is updated by imm9. -/
noncomputable def fpLoadImmForms : List (FormLdImm × LdType × FpFormat) :=
  [(Instr.ldfeM8, .normal, .extended), (Instr.ldf8M8, .normal, .integer), (Instr.ldfsM8, .normal, .single),
    (Instr.ldfdM8, .normal, .double), (Instr.ldfeSM8, .s, .extended), (Instr.ldf8SM8, .s, .integer),
    (Instr.ldfsSM8, .s, .single), (Instr.ldfdSM8, .s, .double), (Instr.ldfeAM8, .a, .extended),
    (Instr.ldf8AM8, .a, .integer), (Instr.ldfsAM8, .a, .single), (Instr.ldfdAM8, .a, .double),
    (Instr.ldfeSaM8, .sa, .extended), (Instr.ldf8SaM8, .sa, .integer), (Instr.ldfsSaM8, .sa, .single),
    (Instr.ldfdSaM8, .sa, .double), (Instr.ldfeCClrM8, .cClr, .extended), (Instr.ldf8CClrM8, .cClr, .integer),
    (Instr.ldfsCClrM8, .cClr, .single), (Instr.ldfdCClrM8, .cClr, .double), (Instr.ldfeCNcM8, .cNc, .extended),
    (Instr.ldf8CNcM8, .cNc, .integer), (Instr.ldfsCNcM8, .cNc, .single), (Instr.ldfdCNcM8, .cNc, .double),
    (Instr.ldfFillM8, .normal, .whole)]

/-- The pair loads without base update (R646). -/
noncomputable def pairForms : List (FormPair × LdType × FpFormat) :=
  [(Instr.ldfp8M11, .normal, .integer), (Instr.ldfpsM11, .normal, .single), (Instr.ldfpdM11, .normal, .double),
    (Instr.ldfp8SM11, .s, .integer), (Instr.ldfpsSM11, .s, .single), (Instr.ldfpdSM11, .s, .double),
    (Instr.ldfp8AM11, .a, .integer), (Instr.ldfpsAM11, .a, .single), (Instr.ldfpdAM11, .a, .double),
    (Instr.ldfp8SaM11, .sa, .integer), (Instr.ldfpsSaM11, .sa, .single), (Instr.ldfpdSaM11, .sa, .double),
    (Instr.ldfp8CClrM11, .cClr, .integer), (Instr.ldfpsCClrM11, .cClr, .single),
    (Instr.ldfpdCClrM11, .cClr, .double), (Instr.ldfp8CNcM11, .cNc, .integer), (Instr.ldfpsCNcM11, .cNc, .single),
    (Instr.ldfpdCNcM11, .cNc, .double)]

/-- The pair loads whose base is updated, with the increment (R646). -/
noncomputable def pairUpdateForms : List (FormPair × LdType × FpFormat × Word) :=
  [(Instr.ldfp8M12, .normal, .integer, 16), (Instr.ldfpsM12, .normal, .single, 8),
    (Instr.ldfpdM12, .normal, .double, 16), (Instr.ldfp8SM12, .s, .integer, 16), (Instr.ldfpsSM12, .s, .single, 8),
    (Instr.ldfpdSM12, .s, .double, 16), (Instr.ldfp8AM12, .a, .integer, 16), (Instr.ldfpsAM12, .a, .single, 8),
    (Instr.ldfpdAM12, .a, .double, 16), (Instr.ldfp8SaM12, .sa, .integer, 16), (Instr.ldfpsSaM12, .sa, .single, 8),
    (Instr.ldfpdSaM12, .sa, .double, 16), (Instr.ldfp8CClrM12, .cClr, .integer, 16),
    (Instr.ldfpsCClrM12, .cClr, .single, 8), (Instr.ldfpdCClrM12, .cClr, .double, 16),
    (Instr.ldfp8CNcM12, .cNc, .integer, 16), (Instr.ldfpsCNcM12, .cNc, .single, 8),
    (Instr.ldfpdCNcM12, .cNc, .double, 16)]

end Sys2Proof.Machine

/-- A speculative or advanced load that is deferred completes with a NaT, NaTVal or zero: a speculative one whose base is
NaT, whose PSR.ed is 1 or whose fault is deferred, either one whose page may not be read speculatively; a fault that is not
deferred is taken (R601, R602, R603, R611, R645, R646, R55, R167; derived). Which faults are deferred is the default of
SPEC_DEFERRAL_POLICY (D33; log entry 33, the model's choice): all with PSR.ic = 0, NaTPage consumption alone with PSR.ic = 1.
That the pairs ldfps, ldfpd, ldfp8 change the ALAT entries of f1 alone and keep those of f2, and that an advanced
floating-point load of such a page leaves zero, rests on log entry 24 (DEDUCED); that one odd and one even means the numbers
in the instruction on log entry 67. -/
def Obligations.SpeculativeLoadsDefer : Prop :=
  ∀ (s : State) (qp : BitVec 6) (r1 r2 r3 : BitVec 7) (t : LdType),
    s.prBit qp = true → s.psrBit Psr.ss = false →
    let defers (r : Ref) (walked : Option TlbEntry) : Prop :=
      (t.speculative = true ∧ ((s.gr r3).nat = true ∨ s.psrBit Psr.ed = true) ∧ walked = none) ∨
        ((s.gr r3).nat = false ∧ (t.speculative = true → s.psrBit Psr.ed = false) ∧
          s.checkWalk false walked = .ok () ∧
          ((t.speculative = true ∧ ∃ x : Interruption,
              (s.psrBit Psr.ic = false ∨ (x.vector = Ivt.natConsumption ∧ x.code = 0x20)) ∧
              s.translate (s.psrBit Psr.dt) (s.gr r3).val r = .error ⟨x, walked⟩) ∨
            ((t.speculative = true ∨ t.advanced = true) ∧ ∃ a : Translation, a.walked = walked ∧
              s.translate (s.psrBit Psr.dt) (s.gr r3).val r = .ok a ∧ maSpeculative a.ma = false)))
    let raises (r : Ref) (i : Instr) : Prop :=
      t.speculative = true → (s.gr r3).nat = false → s.psrBit Psr.ed = false → s.psrBit Psr.ic = true → ∀ x : Faulted,
        s.translate (s.psrBit Psr.dt) (s.gr r3).val r = .error x →
        ¬ (x.fault.vector = Ivt.natConsumption ∧ x.fault.code = 0x20) → TrapsAt i s x
    let frame (u : State) (post : Post) (reg : AlatReg) : Prop :=
      u.place = s.nextPlace ∧ (post.updates = true → u.gr r3 = s.postValue r3 post) ∧ SameMemory s u ∧
        (t.advanced = true → ∀ e ∈ u.alat, e.reg ≠ reg) ∧ (t = .s → u.alat = s.alat) ∧
        (∀ e, e.reg ≠ reg → (e ∈ u.alat ↔ e ∈ s.alat))
    let grAt (r : Ref) (i : Instr) (post : Post) : Prop := raises r i ∧ ∀ walked, defers r walked →
      ∃ u v, exec i s = .next u ∧ frame u post (s.alatGr r1) ∧ u.gr r1 = v ∧
        (if t.speculative then v.nat = true else v = ⟨0, false⟩) ∧
        (∀ r, s.grLoc r ≠ s.grLoc r1 → (post.updates = true → s.grLoc r ≠ s.grLoc r3) → u.gr r = s.gr r) ∧
        u.settled = ((({ s.keepWalk walked with alat := u.alat } : State).setGr r1 v).postUpdate s r3 post).settled
    let frAt (r : Ref) (i : Instr) (post : Post) (f1 : BitVec 7) (targets : List (BitVec 7)) : Prop :=
      raises r i ∧ ∀ walked, defers r walked →
      let v : Fr := if t.speculative then ⟨false, 0x1FFFE, 0⟩ else ⟨false, 0, 0⟩
      ∃ u, exec i s = .next u ∧ frame u post (s.alatFr f1) ∧ (∀ f ∈ targets, u.fpr f = v) ∧
        (∀ f, f ∉ targets → u.fpr f = s.fpr f) ∧
        (∀ r, (post.updates = true → s.grLoc r ≠ s.grLoc r3) → u.gr r = s.gr r) ∧
        u.settled = ((targets.foldl (fun w f => w.setFpr f v)
          ({ s.keepWalk walked with alat := u.alat } : State)).postUpdate s r3 post).settled
    (∀ size, s.badTarget r1 = false →
      (∀ f, (f, t, false, size) ∈ loadForms → ∀ (hint : BitVec 2) (h : BitVec 1),
        grAt (s.loadRef t size size) (f qp r1 r3 hint h) .none) ∧
      (s.badTarget r3 = false → s.grLoc r1 ≠ s.grLoc r3 →
        (∀ f, (f, t, false, size) ∈ loadRegForms → ∀ hint : BitVec 2,
          grAt (s.loadRef t size size) (f qp r1 r2 r3 hint) (.reg r2)) ∧
        (∀ f, (f, t, false, size) ∈ loadImmForms → ∀ (hint : BitVec 2) (imm : BitVec 9),
          grAt (s.loadRef t size size) (f qp r1 r3 hint imm) (.imm (imm.signExtend 64))))) ∧
    (∀ (f1 : BitVec 7) (m : FpFormat), FrOk s f1 →
      let r := m.ref (s.loadRef t m.size m.align)
      (∀ g, (g, t, m) ∈ fpLoadForms → ∀ (hint : BitVec 2) (h : BitVec 1), frAt r (g qp f1 r3 hint h) .none f1 [f1]) ∧
      (s.badTarget r3 = false →
        (∀ g, (g, t, m) ∈ fpLoadRegForms → ∀ hint : BitVec 2, frAt r (g qp f1 r2 r3 hint) (.reg r2) f1 [f1]) ∧
        (∀ g, (g, t, m) ∈ fpLoadImmForms → ∀ (hint : BitVec 2) (imm : BitVec 9),
          frAt r (g qp f1 r3 hint imm) (.imm (imm.signExtend 64)) f1 [f1]))) ∧
    (∀ (f1 f2 : BitVec 7) (m : FpFormat) (hint : BitVec 2), FrOk s f1 → FrOk s f2 → f1.getLsbD 0 ≠ f2.getLsbD 0 →
      let r := s.loadRef t (2 * m.size) (2 * m.size)
      (∀ g, (g, t, m) ∈ pairForms → frAt r (g qp f1 f2 r3 hint) .none f1 [f1, f2]) ∧
      (s.badTarget r3 = false → ∀ g v, (g, t, m, v) ∈ pairUpdateForms →
        frAt r (g qp f1 f2 r3 hint) (.imm v) f1 [f1, f2]))

namespace Sys2Proof.Machine

/-- The integer stores without base update, with their bytes (R620). -/
noncomputable def storeForms : List (FormLd × Nat) :=
  [(Instr.st1M4, 1), (Instr.st2M4, 2), (Instr.st4M4, 4), (Instr.st8M4, 8), (Instr.st1RelM4, 1), (Instr.st2RelM4, 2),
    (Instr.st4RelM4, 4), (Instr.st8RelM4, 8)]

/-- The integer stores whose base is updated by imm9. -/
noncomputable def storeImmForms : List (FormLdImm × Nat) :=
  [(Instr.st1M5, 1), (Instr.st2M5, 2), (Instr.st4M5, 4), (Instr.st8M5, 8), (Instr.st1RelM5, 1), (Instr.st2RelM5, 2),
    (Instr.st4RelM5, 4), (Instr.st8RelM5, 8)]

end Sys2Proof.Machine

/-- st1 to st8 and st8.spill of every form complete: the bytes stored, no other byte changed, the base updated (R620,
R622, R608, R150, R16; derived). -/
def Obligations.StoresWriteMemory : Prop :=
  ∀ (s : State) (qp : BitVec 6) (r2 r3 : BitVec 7) (a : Translation) (hint : BitVec 2) (h : BitVec 1) (imm : BitVec 9),
    (∀ f ∈ storeForms, WriteReaches s qp r3 (s.storeRef f.2 f.2) a → (s.gr r2).nat = false →
      StoresValue (f.1 qp r2 r3 hint h) s .none r3 a f.2 s.ar (s.gr r2).val) ∧
    (∀ f ∈ storeImmForms, WriteReaches s qp r3 (s.storeRef f.2 f.2) a → (s.gr r2).nat = false → s.badTarget r3 = false →
      StoresValue (f.1 qp r2 r3 hint imm) s (.imm (imm.signExtend 64)) r3 a f.2 s.ar (s.gr r2).val) ∧
    (WriteReaches s qp r3 (s.storeRef 8 8) a →
      let unat := setBit s.ar.unat (fld (s.gr r3).val 3 6 : BitVec 6).toNat (s.gr r2).nat
      let spills (i : Instr) (post : Post) : Prop :=
        ∃ v : Word, ((s.gr r2).nat = false → v = (s.gr r2).val) ∧
          StoresValue i s post r3 a 8 { s.ar with unat := unat } v
      spills (.st8SpillM4 qp r2 r3 hint h) .none ∧
      (s.badTarget r3 = false → spills (.st8SpillM5 qp r2 r3 hint imm) (.imm (imm.signExtend 64))))

/-- ld16 and st16 complete: GR at the low address, AR[CSD] eight bytes above (R604, R621, R150, R166; derived). -/
def Obligations.SixteenByteAccesses : Prop :=
  ∀ (s : State) (qp : BitVec 6) (r r3 : BitVec 7) (a : Translation) (hint : BitVec 2) (h : BitVec 1),
    s.blockOffset (a.pa + 8) = none →
    (∀ i ∈ [Instr.ld16M1 qp r r3 hint h, .ld16AcqM1 qp r r3 hint h], s.badTarget r = false →
      LoadReads s .normal qp r3 { s.loadRef .normal 16 16 with cacheableOnly := true } a →
      ∃ u lo hi, exec i s = .next u ∧ u.place = s.nextPlace ∧ u.gr r = ⟨lo, false⟩ ∧ u.ar.csd = hi ∧
        HoldsBytes lo 8 (s.psrBit Psr.be) (bytesFrom s a.pa) ∧
        HoldsBytes hi 8 (s.psrBit Psr.be) (bytesFrom s (a.pa + 8)) ∧ SameGrBut r s u ∧ SameMemory s u ∧
        u.settled = (({ s.touch a with ar := { s.ar with csd := hi } } : State).setGr r ⟨lo, false⟩).settled) ∧
    (∀ i ∈ [Instr.st16M4 qp r r3 hint h, .st16RelM4 qp r r3 hint h], (s.gr r).nat = false →
      WriteReaches s qp r3 { s.storeRef 16 16 with cacheableOnly := true } a → physAddr (a.pa + 8) = physAddr a.pa + 8 →
      ∃ u, exec i s = .next u ∧ u.place = s.nextPlace ∧ Stored u a.pa 8 (s.psrBit Psr.be) (s.gr r).val ∧
        Stored u (a.pa + 8) 8 (s.psrBit Psr.be) s.ar.csd ∧ SameOutside s u a.pa 16 ∧ (∀ q, u.gr q = s.gr q) ∧
        (∀ e, e ∈ u.alat ↔ e ∈ s.alat ∧ ∀ k < 2, physAddr e.paddr + e.size ≤ physAddr a.pa + 8 * k ∨
          physAddr a.pa + 8 * k + 8 ≤ physAddr e.paddr) ∧
        u.settled = ({ s.touch a with alat := u.alat, mem := u.mem } : State).settled)

namespace Sys2Proof.Machine

/-- xchg with its bytes (R631). -/
noncomputable def xchgForms : List (FormLdReg × Nat) :=
  [(Instr.xchg1M16, 1), (Instr.xchg2M16, 2), (Instr.xchg4M16, 4), (Instr.xchg8M16, 8)]

/-- cmpxchg with its bytes (R632). -/
noncomputable def cmpxchgForms : List (FormLdReg × Nat) :=
  [(Instr.cmpxchg1AcqM16, 1), (Instr.cmpxchg1RelM16, 1), (Instr.cmpxchg2AcqM16, 2), (Instr.cmpxchg2RelM16, 2),
    (Instr.cmpxchg4AcqM16, 4), (Instr.cmpxchg4RelM16, 4), (Instr.cmpxchg8AcqM16, 8), (Instr.cmpxchg8RelM16, 8)]

/-- fetchadd with its bytes (R636). -/
noncomputable def fetchaddForms : List (FormInc × Nat) :=
  [(Instr.fetchadd4AcqM17, 4), (Instr.fetchadd8AcqM17, 8), (Instr.fetchadd4RelM17, 4), (Instr.fetchadd8RelM17, 8)]

end Sys2Proof.Machine

/-- xchg, cmpxchg, cmp8xchg16 and fetchadd complete: the old value in r1, the new value in memory (R630, R631, R632,
R635, R636, R150; derived). -/
def Obligations.SemaphoresReadAndWrite : Prop :=
  ∀ (s : State) (qp : BitVec 6) (r1 r2 r3 : BitVec 7) (hint : BitVec 2) (inc : BitVec 3) (a : Translation),
    s.badTarget r1 = false →
    let ready (n : Nat) : Prop := WriteReaches s qp r3 (s.semaphoreRef n) a
    let done (i : Instr) (n : Nat) (u : State) (old : Word) : Prop :=
      exec i s = .next u ∧ u.place = s.nextPlace ∧ u.gr r1 = ⟨old, false⟩ ∧
        HoldsBytes old n (s.psrBit Psr.be) (bytesFrom s a.pa) ∧ SameGrBut r1 s u ∧
        u.settled = (({ s.touch a with alat := u.alat, mem := u.mem } : State).setGr r1 ⟨old, false⟩).settled
    (∀ f ∈ xchgForms, ready f.2 → (s.gr r2).nat = false → ∃ u old, done (f.1 qp r1 r2 r3 hint) f.2 u old ∧
      AlatAfterStore s u a.pa f.2 ∧ Stored u a.pa f.2 (s.psrBit Psr.be) (s.gr r2).val ∧ SameOutside s u a.pa f.2) ∧
    (∀ f ∈ cmpxchgForms, ready f.2 → (s.gr r2).nat = false → ∃ u old, done (f.1 qp r1 r2 r3 hint) f.2 u old ∧
      AlatAfterStore s u a.pa f.2 ∧
      (if old.toNat = s.ar.ccv.toNat % 2 ^ (8 * f.2) then
        Stored u a.pa f.2 (s.psrBit Psr.be) (s.gr r2).val ∧ SameOutside s u a.pa f.2
      else SameMemory s u)) ∧
    (∀ f ∈ fetchaddForms, ready f.2 → ∃ u old, done (f.1 qp r1 r3 hint inc) f.2 u old ∧
      AlatAfterStore s u a.pa f.2 ∧ Stored u a.pa f.2 (s.psrBit Psr.be)
        (old + BitVec.ofInt 64 (([16, 8, 4, 1, -16, -8, -4, -1] : List Int).getD inc.toNat 0)) ∧
      SameOutside s u a.pa f.2) ∧
    (∀ i ∈ [Instr.cmp8xchg16AcqM16 qp r1 r2 r3 hint, .cmp8xchg16RelM16 qp r1 r2 r3 hint], ready 8 →
      (s.gr r2).nat = false →
      let block := a.pa &&& ~~~(8 : Word)
      s.blockOffset block = none → s.blockOffset (block + 8) = none → physAddr (block + 8) = physAddr block + 8 →
      ∃ u old, done i 8 u old ∧
        (if old = s.ar.ccv then Stored u block 8 (s.psrBit Psr.be) (s.gr r2).val ∧
          Stored u (block + 8) 8 (s.psrBit Psr.be) s.ar.csd ∧ SameOutside s u block 16 ∧
          (∀ e, e ∈ u.alat ↔ e ∈ s.alat ∧
            (physAddr e.paddr + e.size ≤ physAddr a.pa ∨ physAddr a.pa + 8 ≤ physAddr e.paddr) ∧
            ∀ k < 2, physAddr e.paddr + e.size ≤ physAddr block + 8 * k ∨
              physAddr block + 8 * k + 8 ≤ physAddr e.paddr)
        else SameMemory s u ∧ AlatAfterStore s u a.pa 8))

namespace Sys2Proof.Machine

/-! ### Floating-point memory references -/

/-- `x` is the register image of the bytes of format `f` in `s` from `pa` up (R645, R648, R649). -/
def FrImage (s : State) (f : FpFormat) (pa : Word) (x : Fr) : Prop :=
  let be := s.psrBit Psr.be
  match f with
  | .single => ∃ m : BitVec 32, HoldsBytes m 4 be (bytesFrom s pa) ∧ x = frOfSingle m
  | .double => ∃ m : BitVec 64, HoldsBytes m 8 be (bytesFrom s pa) ∧ x = frOfDouble m
  | .extended => ∃ m : BitVec 80, HoldsBytes m 10 be (bytesFrom s pa) ∧ x = frOfExtended m
  | .integer => ∃ m : BitVec 64, HoldsBytes m 8 be (bytesFrom s pa) ∧ x = ⟨false, 0x1003E, m⟩
  | .whole => ∃ m : BitVec 64, HoldsBytes x.sig 8 be (bytesFrom s pa) ∧
      HoldsBytes m 8 be (bytesFrom s (pa + 8)) ∧ x.sign = m.getLsbD 17 ∧ x.exp = fld m 0 17

/-- `i` is a floating-point load that completes (R645, R646): the images in the targets, or what they held if a check load
hits; their partitions marked modified either way; the base is updated; nothing else changes but ALAT, TLB and what `touch`
gives (R1101). -/
def LoadsFr (i : Instr) (s : State) (t : LdType) (size : Nat) (post : Post) (r3 f1 : BitVec 7)
    (image : BitVec 7 → Fr → Prop) (targets : List (BitVec 7)) (a : Translation) : Prop :=
  let hit := t.isCheck && s.alatCmp (s.alatFr f1)
  ∃ u, exec i s = .next u ∧ u.place = s.nextPlace ∧
    (∀ f ∈ targets, if hit then u.fpr f = s.fpr f else image f (u.fpr f)) ∧
    (∀ f, f ∉ targets → u.fpr f = s.fpr f) ∧
    (post.updates = true → u.gr r3 = s.postValue r3 post) ∧
    (∀ r, (post.updates = true → s.grLoc r ≠ s.grLoc r3) → u.gr r = s.gr r) ∧ SameMemory s u ∧
    AlatAfterLoad s u t hit (s.alatFr f1) a size ∧ WalkKept s u hit a ∧
    u.settled = ((targets.foldl (fun w f => (w.setFpr f (u.fpr f)).markModified f)
      ({ (if hit then s else s.touch a) with alat := u.alat } : State)).postUpdate s r3 post).settled

end Sys2Proof.Machine

/-- ldfs, ldfd, ldfe, ldf8 and ldf.fill of every type and form complete: the image of the bytes in f1 (R645, R648, R649,
R608, R72, R16; derived). The choices of the model named here: that a check load which hits makes no translation and no
access, log entry 20; that the two halves of ldf.fill are eight bytes each in the order of PSR.be, log entry 23 (DEDUCED). -/
def Obligations.FpLoadsReadMemory : Prop :=
  ∀ (s : State) (qp : BitVec 6) (f1 r2 r3 : BitVec 7) (a : Translation), FrOk s f1 → s.blockOffset (a.pa + 8) = none →
    let ready (t : LdType) (f : FpFormat) : Prop := LoadReads s t qp r3 (f.ref (s.loadRef t f.size f.align)) a
    let loads (i : Instr) (t : LdType) (f : FpFormat) (post : Post) : Prop :=
      LoadsFr i s t f.size post r3 f1 (fun _ x => FrImage s f a.pa x) [f1] a
    (∀ g ∈ fpLoadForms, ∀ (hint : BitVec 2) (h : BitVec 1), ready g.2.1 g.2.2 →
      loads (g.1 qp f1 r3 hint h) g.2.1 g.2.2 .none) ∧
    (s.badTarget r3 = false →
      (∀ g ∈ fpLoadRegForms, ∀ hint : BitVec 2, ready g.2.1 g.2.2 →
        loads (g.1 qp f1 r2 r3 hint) g.2.1 g.2.2 (.reg r2)) ∧
      (∀ g ∈ fpLoadImmForms, ∀ (hint : BitVec 2) (imm : BitVec 9), ready g.2.1 g.2.2 →
        loads (g.1 qp f1 r3 hint imm) g.2.1 g.2.2 (.imm (imm.signExtend 64))))

/-- ldfps, ldfpd and ldfp8 of every type and form complete: two images in an odd and an even register (R646, R649, R608,
R72, R16; derived). The ALAT entry of the pair stands under f1, which R646 leaves open: log entry 24 (DEDUCED,
unsafe), as does that a check load which hits marks the partitions of both targets modified; that it makes no access is log
entry 20, that one odd and one even means the numbers in the instruction log entry 67 (both the model's choice). -/
def Obligations.FpPairLoadsReadMemory : Prop :=
  ∀ (s : State) (qp : BitVec 6) (f1 f2 r3 : BitVec 7) (a : Translation) (hint : BitVec 2),
    FrOk s f1 → FrOk s f2 → f1.getLsbD 0 ≠ f2.getLsbD 0 →
    let ready (t : LdType) (f : FpFormat) : Prop :=
      LoadReads s t qp r3 (s.loadRef t (2 * f.size) (2 * f.size)) a ∧
        s.blockOffset (a.pa + BitVec.ofNat 64 f.size) = none
    let loads (i : Instr) (t : LdType) (f : FpFormat) (post : Post) : Prop :=
      LoadsFr i s t (2 * f.size) post r3 f1
        (fun g x => FrImage s f (if g = f1 then a.pa else a.pa + BitVec.ofNat 64 f.size) x) [f1, f2] a
    (∀ g ∈ pairForms, ready g.2.1 g.2.2 → loads (g.1 qp f1 f2 r3 hint) g.2.1 g.2.2 .none) ∧
    (s.badTarget r3 = false → ∀ g ∈ pairUpdateForms, ready g.2.1 g.2.2.1 →
      loads (g.1 qp f1 f2 r3 hint) g.2.1 g.2.2.1 (.imm g.2.2.2))

namespace Sys2Proof.Machine

/-- The floating-point stores without base update (R647, R648). -/
noncomputable def fpStoreForms : List (FormLd × FpFormat) :=
  [(Instr.stfeM9, .extended), (Instr.stf8M9, .integer), (Instr.stfsM9, .single), (Instr.stfdM9, .double),
    (Instr.stfSpillM9, .whole)]

/-- The floating-point stores whose base is updated by imm9. -/
noncomputable def fpStoreImmForms : List (FormLdImm × FpFormat) :=
  [(Instr.stfeM10, .extended), (Instr.stf8M10, .integer), (Instr.stfsM10, .single), (Instr.stfdM10, .double),
    (Instr.stfSpillM10, .whole)]

/-! ### Data references -/

/-- The entry maps the address: the id of the region register, and the address bits above the page size (R201). -/
def Maps (s : State) (va : Word) (e : TlbEntry) : Prop :=
  e.rid = (fld s.rr[(fld va 61 3 : BitVec 3).toFin] 8 24 : BitVec 24) ∧
    ∀ k, e.ps.toNat ≤ k → k < 61 → (decide (12 ≤ k) && e.vpn.getLsbD (k - 12)) = va.getLsbD k

/-- The rights of page `e` grant the access at level `pl` (R236). -/
def Grants (e : TlbEntry) (acc : Access) (pl : BitVec 2) : Prop :=
  (acc.r = true → pl ≤ e.pl ∧ (e.ar = 7 → pl = 0)) ∧
    (acc.w = true → pl ≤ e.pl ∧ (e.ar = 2 ∨ e.ar = 3 ∨ e.ar = 6 ∨ (e.ar = 4 ∨ e.ar = 5) ∧ pl = 0))

/-- A valid protection key register with the key of `e` (R113, R220). -/
def KeyOf (e : TlbEntry) (k : Word) : Prop := k.getLsbD 0 = true ∧ (fld k 8 24 : BitVec 24) = e.key

/-- The key register `k` disables the access: rd for a read, wd for a write (R113). -/
def KeyDisables (acc : Access) (k : Word) : Prop :=
  (acc.r = true ∧ k.getLsbD 2 = true) ∨ (acc.w = true ∧ k.getLsbD 1 = true)

/-- Under PSR.pk every key register with the key of `e` disables the access. -/
def State.KeysDeny (s : State) (e : TlbEntry) (acc : Access) : Prop :=
  s.psrBit Psr.pk = true ∧ ∀ k ∈ s.pkr.toList, KeyOf e k → KeyDisables acc k

/-- PSR.pk is 0, or no key register with the key of `e` disables the access. -/
def State.KeysAllow (s : State) (e : TlbEntry) (acc : Access) : Prop :=
  s.psrBit Psr.pk = true → ∀ k ∈ s.pkr.toList, KeyOf e k → ¬ KeyDisables acc k

/-- A data fault of reference `r` with its IFA and, where R1123 gives them, ITIR and IHA. -/
def refFault (r : Ref) (va : Word) (v : Ivt) (code : BitVec 16) (itir iha : Option Word) : Interruption :=
  { vector := v, code := code ||| r.access.naCode.zeroExtend 16, access := r.access, ifa := some va, itir, iha }

/-- The VHPT walker is on for a data reference (R200; for one of the RSE log entry 21). -/
def State.Walks (s : State) (va : Word) : Prop :=
  s.cr.pta.getLsbD 0 = true ∧ (s.region va).getLsbD 0 = true ∧ s.psrBit Psr.dt = true

/-- The data address has the page `e`: the TLB holds it, or the walker finds it and inserts it as `walked` (R200). -/
def State.DataPage (s : State) (va : Word) (e : TlbEntry) (walked : Option TlbEntry) : Prop :=
  (s.findData va = some e ∧ walked = none) ∨
    (s.findData va = none ∧ s.Walks va ∧ s.walkVhpt va = .found e ∧ walked = some e)

/-- The data address has no page, and `x` is the fault of the miss (R210 checks 2 to 5, R1123, R1124). -/
def State.DataMiss (s : State) (va : Word) (r : Ref) (x : Interruption) : Prop :=
  let miss := some (s.missItir va)
  let hash := some (s.vhptHash va)
  s.findData va = none ∧
    ((s.psrBit Psr.ic = false ∧ ¬ (s.Walks va ∧ ∃ e, s.walkVhpt va = .found e) ∧
        x = { vector := .dataNestedTlb, code := r.access.naCode.zeroExtend 16, access := r.access }) ∨
      (s.psrBit Psr.ic = true ∧ ¬ s.Walks va ∧ x = refFault r va .alternateDataTlb 0 miss none) ∨
      (s.psrBit Psr.ic = true ∧ s.Walks va ∧ s.walkVhpt va = .vhptFault ∧ x = refFault r va .vhptTranslation 0 miss hash) ∨
      (s.psrBit Psr.ic = true ∧ s.Walks va ∧ s.walkVhpt va = .notFound ∧ x = refFault r va .dataTlb 0 miss hash))

/-- The page can serve no access, and `x` is its fault: absent, a NaTPage, its key in no register (R210 checks 6 to 8). -/
def State.PageFault (s : State) (va : Word) (r : Ref) (e : TlbEntry) (x : Interruption) : Prop :=
  (e.p = false ∧ x = refFault r va .pageNotPresent 0 (some e.itir) none) ∨
    (e.p = true ∧ e.ma = 7 ∧ x = refFault r va .natConsumption 0x20 none none) ∨
    (e.p = true ∧ e.ma ≠ 7 ∧ s.psrBit Psr.pk = true ∧ (∀ k ∈ s.pkr.toList, ¬ KeyOf e k) ∧
      x = refFault r va .dataKeyMiss 0 (some e.itir) none)

/-- A present page, no NaTPage, whose key PSR.pk finds. -/
def State.PageUsable (s : State) (e : TlbEntry) : Prop :=
  e.p = true ∧ e.ma ≠ 7 ∧ (s.psrBit Psr.pk = true → ∃ k ∈ s.pkr.toList, KeyOf e k)

/-- The entry of a page word, an ITIR, an address and a region id (R201); of an absent page only bit 0 counts (R202). -/
def pageEntry (pte itir va : Word) (rid : BitVec 24) : TlbEntry :=
  let v : Word := if pte.getLsbD 0 then pte else 0
  { p := v.getLsbD 0, ma := fld v 2 3, a := v.getLsbD 5, d := v.getLsbD 6, pl := fld v 7 2, ar := fld v 9 3
    ppn := fld v 12 38, ed := v.getLsbD 52, ps := fld itir 2 6, key := fld itir 8 24, vpn := fld va 12 52, rid := rid }

/-- What the TLBs find, the physical address of a page, the ITIR of a hit and of a miss (R200, R201, R1123). -/
def TlbsFind : Prop :=
  ∀ (s : State) (va : Word),
    let data (e : TlbEntry) : Prop := some e ∈ s.dtr.toList ∨ e ∈ s.dtc
    let inst (e : TlbEntry) : Prop := some e ∈ s.itr.toList ∨ e ∈ s.itc
    let word (ps : BitVec 6) (key : BitVec 24) : Word := ps.zeroExtend 64 <<< 2 ||| key.zeroExtend 64 <<< 8
    (∀ e, s.findData va = some e → data e ∧ Maps s va e) ∧ (s.findData va = none → ∀ e, data e → ¬ Maps s va e) ∧
    (∀ e, s.findInst va = some e → inst e ∧ Maps s va e) ∧ (s.findInst va = none → ∀ e, inst e → ¬ Maps s va e) ∧
    s.missItir va = word (fld (s.region va) 2 6) (fld (s.region va) 8 24) ∧
    ∀ e : TlbEntry, e.itir = word e.ps e.key ∧ ∀ k < 64, (e.physical va).getLsbD k =
      if k < e.ps.toNat then va.getLsbD k else decide (12 ≤ k) && e.ppn.getLsbD (k - 12)

/-- What the VHPT walker finds with the short format: a reference that misses the data TLB ends it, a page word with a
reserved field is none, any other is the entry (R200, R201, R205, R221; its page size and key log entry 21). -/
def WalkerReads : Prop :=
  ∀ (s : State) (va : Word),
    let at_ := s.vhptHash va
    (s.findData at_ = none → s.walkVhpt va = .vhptFault) ∧
    ∀ (h : TlbEntry) (v : Word), s.findData at_ = some h → unimplementedVa at_ (s.psrBit Psr.vm) = false → h.p = true →
      h.ma = 0 → s.psrBit Psr.pk = false → (h.a = true ∨ s.psrBit Psr.da = true) →
      s.blockOffset (h.physical at_) = none → s.cr.pta.getLsbD 8 = false →
      HoldsBytes v 8 (s.cr.dcr.getLsbD 1) (bytesFrom s (h.physical at_)) →
      (tlbReserved v (s.missItir va) = true → s.walkVhpt va = .notFound) ∧
      (tlbReserved v (s.missItir va) = false →
        s.walkVhpt va = .found (pageEntry v (s.missItir va) va (fld (s.region va) 8 24)))

/-- A data reference: its faults in the order of R210, or its physical address and attribute; without translation the
address itself and the attribute of its bit 63 (R200, R210, R236, R160, R166, R1138). -/
def DataTranslated : Prop :=
  ∀ (s : State) (va : Word) (r : Ref),
    let breaks : Prop := s.psrBit Psr.db = true ∧ s.psrBit Psr.dd = false ∧ ∃ k < 4,
      let (addr, ctl) := breakpoint s.dbr k
      ((r.access.r = true ∧ ctl.getLsbD 63 = true) ∨ (r.access.w = true ∧ ctl.getLsbD 62 = true)) ∧
        ctl.getLsbD (56 + s.cpl.toNat) = true ∧
        ∃ n < r.size, (fld (va + BitVec.ofNat 64 n) 0 56 : BitVec 56) &&& fld ctl 0 56 = fld addr 0 56 &&& fld ctl 0 56
    let ends (on : Bool) (pa : Word) (ma : BitVec 3) (walked : Option TlbEntry) : Prop :=
      let raises (v : Ivt) : Prop := s.translate on va r = .error ⟨refFault r va v 0 none none, walked⟩
      (breaks → raises .debug) ∧
      (¬ breaks → va.toNat % r.align ≠ 0 → raises .unalignedReference) ∧
      (¬ breaks → va.toNat % r.align = 0 →
        (r.cacheableOnly = true → ma ≠ 0 → raises .unsupportedDataReference) ∧
        (r.cacheableOnly = false ∨ ma = 0 → s.translate on va r = .ok ⟨pa, ma, va, r.size, walked⟩))
    (unimplementedPa va = true → s.translate false va r = .error ⟨unimplementedData r.access, none⟩) ∧
    (unimplementedPa va = false → ends false va (if va.getLsbD 63 then 4 else 0) none) ∧
    (unimplementedVa va (s.psrBit Psr.vm) = true → s.translate true va r = .error ⟨unimplementedData r.access, none⟩) ∧
    (unimplementedVa va (s.psrBit Psr.vm) = false →
      (∀ x, s.DataMiss va r x → s.translate true va r = .error ⟨x, none⟩) ∧
      ∀ (e : TlbEntry) (walked : Option TlbEntry), s.DataPage va e walked →
        let raises (v : Ivt) : Prop := s.translate true va r = .error ⟨refFault r va v 0 (some e.itir) none, walked⟩
        (∀ x, s.PageFault va r e x → s.translate true va r = .error ⟨x, walked⟩) ∧
        (s.PageUsable e →
          (s.KeysDeny e r.access → raises .keyPermission) ∧
          (s.KeysAllow e r.access → ¬ Grants e r.access r.pl → raises .dataAccessRights) ∧
          (s.KeysAllow e r.access → Grants e r.access r.pl →
            (r.access.w = true → e.d = false → s.psrBit Psr.da = false → raises .dirtyBit) ∧
            ((r.access.w = true → e.d = true ∨ s.psrBit Psr.da = true) →
              (e.a = false → s.psrBit Psr.da = false → raises .dataAccessBit) ∧
              (e.a = true ∨ s.psrBit Psr.da = true → ends true (e.physical va) e.ma walked)))))

end Sys2Proof.Machine

/-- Loads, stores and semaphores of every form take the fault of their targets, of a NaT operand, of their address, which is
the first that the translation meets (R210, R236, R200, R201, R160, R1123, R1138, R608, R620, R630, R645, R17; derived). That
a check load which hits looks at no address is log entry 20; a VHPT walk that overlaps a translation register is a Machine
Check, where the model stops: log entry 34; the walker: log entry 21; odd and even of a pair: 67. -/
def Obligations.MemoryFaultsAreTaken : Prop :=
  TlbsFind ∧ WalkerReads ∧ DataTranslated ∧
  ∀ (s : State) (qp : BitVec 6) (r r2 r3 : BitVec 7) (hint : BitVec 2) (h : BitVec 1) (imm : BitVec 9) (inc : BitVec 3),
    s.prBit qp = true →
    let faults (i : Instr) (bad nat : Bool) (reads : Prop) (access : Access) (ref : Ref) : Prop :=
      (bad = true → Traps i s illegalOperation) ∧
      (bad = false → nat = true → Traps i s (natConsumption access)) ∧
      (bad = false → nat = false → reads → ∀ x,
        s.translate (s.psrBit Psr.dt) (s.gr r3).val ref = .error x → TrapsAt i s x)
    let base := (s.gr r3).nat
    let misses (t : LdType) (reg : AlatReg) : Prop := t.isCheck = true → s.alatCmp reg = false
    let loads (i : Instr) (t : LdType) (size : Nat) (update : Bool) : Prop :=
      let bad := s.badTarget r || update && (r == r3 || s.badTarget r3)
      (bad = true → Traps i s illegalOperation) ∧
        (t.speculative = false → faults i bad base (misses t (s.alatGr r)) { r := true } (s.loadRef t size size))
    let fpFaults (i : Instr) (bad : Bool) (regs : List (BitVec 7)) (nat : Bool) (reads : Prop) (access : Access)
        (ref : Ref) : Prop :=
      (bad = true → Traps i s illegalOperation) ∧
        (bad = false → s.disabledCode regs ≠ 0 → Traps i s (disabledFp (s.disabledCode regs))) ∧
        (s.disabledCode regs = 0 → faults i bad nat reads access ref)
    let fpLoads (i : Instr) (t : LdType) (m : FpFormat) (update : Bool) : Prop :=
      fpFaults i (r == 0 || r == 1 || update && s.badTarget r3) [r] (base && !t.speculative)
        (t.speculative = false ∧ misses t (s.alatFr r)) { r := true } (m.ref (s.loadRef t m.size m.align))
    let pairs (i : Instr) (t : LdType) (m : FpFormat) (update : Bool) : Prop :=
      fpFaults i (r.getLsbD 0 == r2.getLsbD 0 || r == 0 || r == 1 || r2 == 0 || r2 == 1 || update && s.badTarget r3)
        [r, r2] (base && !t.speculative) (t.speculative = false ∧ misses t (s.alatFr r)) { r := true }
        (s.loadRef t (2 * m.size) (2 * m.size))
    let stores (i : Instr) (size : Nat) (update : Bool) : Prop :=
      faults i (update && s.badTarget r3) (base || (s.gr r).nat) True { w := true } (s.storeRef size size)
    let spills (i : Instr) (update : Bool) : Prop :=
      faults i (update && s.badTarget r3) base True { w := true } (s.storeRef 8 8)
    let fpStores (i : Instr) (m : FpFormat) (update : Bool) : Prop :=
      fpFaults i (update && s.badTarget r3) [r] (base || m != .whole && decide (s.fpr r = ⟨false, 0x1FFFE, 0⟩)) True
        { w := true } (m.ref (s.storeRef m.size m.align))
    let semaphores (i : Instr) (nat : Bool) (size : Nat) : Prop :=
      faults i (s.badTarget r) (base || nat) True { r := true, w := true } (s.semaphoreRef size)
    ((∀ f ∈ loadForms, loads (f.1 qp r r3 hint h) f.2.1 f.2.2.2 false) ∧
      (∀ f ∈ loadRegForms, loads (f.1 qp r r2 r3 hint) f.2.1 f.2.2.2 true) ∧
      (∀ f ∈ loadImmForms, loads (f.1 qp r r3 hint imm) f.2.1 f.2.2.2 true) ∧
      (∀ i ∈ [Instr.ld16M1 qp r r3 hint h, .ld16AcqM1 qp r r3 hint h],
        faults i (s.badTarget r) base True { r := true } { s.loadRef .normal 16 16 with cacheableOnly := true })) ∧
    ((∀ g ∈ fpLoadForms, fpLoads (g.1 qp r r3 hint h) g.2.1 g.2.2 false) ∧
      (∀ g ∈ fpLoadRegForms, fpLoads (g.1 qp r r2 r3 hint) g.2.1 g.2.2 true) ∧
      (∀ g ∈ fpLoadImmForms, fpLoads (g.1 qp r r3 hint imm) g.2.1 g.2.2 true) ∧
      (∀ g ∈ pairForms, pairs (g.1 qp r r2 r3 hint) g.2.1 g.2.2 false) ∧
      (∀ g ∈ pairUpdateForms, pairs (g.1 qp r r2 r3 hint) g.2.1 g.2.2.1 true)) ∧
    ((∀ f ∈ storeForms, stores (f.1 qp r r3 hint h) f.2 false) ∧
      (∀ f ∈ storeImmForms, stores (f.1 qp r r3 hint imm) f.2 true) ∧
      spills (.st8SpillM4 qp r r3 hint h) false ∧ spills (.st8SpillM5 qp r r3 hint imm) true ∧
      (∀ i ∈ [Instr.st16M4 qp r r3 hint h, .st16RelM4 qp r r3 hint h],
        faults i false (base || (s.gr r).nat) True { w := true }
          { s.storeRef 16 16 with cacheableOnly := true }) ∧
      (∀ g ∈ fpStoreForms, fpStores (g.1 qp r r3 hint h) g.2 false) ∧
      (∀ g ∈ fpStoreImmForms, fpStores (g.1 qp r r3 hint imm) g.2 true)) ∧
    (∀ f ∈ xchgForms ++ cmpxchgForms, semaphores (f.1 qp r r2 r3 hint) (s.gr r2).nat f.2) ∧
    (∀ f ∈ fetchaddForms, semaphores (f.1 qp r r3 hint inc) false f.2) ∧
    ∀ i ∈ [Instr.cmp8xchg16AcqM16 qp r r2 r3 hint, .cmp8xchg16RelM16 qp r r2 r3 hint],
      semaphores i (s.gr r2).nat 8

/-- stfs, stfd, stfe, stf8 and stf.spill complete: the register's image stored, no other byte changed (R647, R648, R649,
R608, R150; derived). The choices of the model named here: that stf.spill stores the significand and then sign and exponent,
each as eight bytes in the order of PSR.be, log entry 23 (DEDUCED, unsafe); the ten bytes of stfe, log entry 52; that a
double with integer bit 0 has the exponent field 0 (`Fr.toDouble`), log entry 66. -/
def Obligations.FpStoresWriteMemory : Prop :=
  ∀ (s : State) (qp : BitVec 6) (f2 r3 : BitVec 7) (a : Translation) (hint : BitVec 2) (h : BitVec 1) (imm : BitVec 9),
    s.disabledCode [f2] = 0 →
    let ready (f : FpFormat) : Prop := WriteReaches s qp r3 (f.ref (s.storeRef f.size f.align)) a
    let narrow (i : Instr) (f : FpFormat) (post : Post) : Prop :=
      match f with
      | .single => StoresValue i s post r3 a 4 s.ar (s.fpr f2).toSingle
      | .double => StoresValue i s post r3 a 8 s.ar (s.fpr f2).toDouble
      | .extended => StoresValue i s post r3 a 10 s.ar (s.fpr f2).toExtended
      | .integer => StoresValue i s post r3 a 8 s.ar (s.fpr f2).sig
      | .whole => True
    let spills (i : Instr) (post : Post) : Prop :=
      ∃ u, exec i s = .next u ∧ u.place = s.nextPlace ∧ Stored u a.pa 8 (s.psrBit Psr.be) (s.fpr f2).sig ∧
        Stored u (a.pa + 8) 8 (s.psrBit Psr.be) ((s.fpr f2).exp.zeroExtend 64 ||| if (s.fpr f2).sign then 0x20000 else 0) ∧
        SameOutside s u a.pa 16 ∧ (post.updates = true → u.gr r3 = s.postValue r3 post) ∧
        (∀ r, (post.updates = true → s.grLoc r ≠ s.grLoc r3) → u.gr r = s.gr r) ∧ AlatAfterStore s u a.pa 16 ∧
        u.settled = (({ s.touch a with alat := u.alat, mem := u.mem } : State).postUpdate s r3 post).settled
    (∀ g ∈ fpStoreForms, ready g.2 → s.fpr f2 ≠ Fr.natVal → narrow (g.1 qp f2 r3 hint h) g.2 .none) ∧
    (s.badTarget r3 = false → ∀ g ∈ fpStoreImmForms, ready g.2 → s.fpr f2 ≠ Fr.natVal →
      narrow (g.1 qp f2 r3 hint imm) g.2 (.imm (imm.signExtend 64))) ∧
    (ready .whole → s.blockOffset (a.pa + 8) = none → physAddr (a.pa + 8) = physAddr a.pa + 8 →
      spills (.stfSpillM9 qp f2 r3 hint h) .none ∧
      (s.badTarget r3 = false → spills (.stfSpillM10 qp f2 r3 hint imm) (.imm (imm.signExtend 64))))

/-- The single, double and double-extended memory formats: fields, exponent bias, and storing what was loaded (R649;
derived). -/
def Obligations.FpMemoryFormats : Prop :=
  (∀ m : BitVec 32,
    let x := frOfSingle m
    let e : BitVec 8 := fld m 23 8
    x.sign = m.getLsbD 31 ∧ (fld x.sig 40 23 : BitVec 23) = fld m 0 23 ∧ (fld x.sig 0 40 : BitVec 40) = 0 ∧
      (x.sig.getLsbD 63 = true ↔ e ≠ 0) ∧
      (0 < e.toNat → e.toNat < 255 → x.exp.toNat + 127 = e.toNat + 65535) ∧ (e = 255 → x.exp = 0x1FFFF) ∧
      (e = 0 → x.exp = if (fld m 0 23 : BitVec 23) = 0 then 0 else 0xFF81) ∧ x.toSingle = m) ∧
  (∀ m : BitVec 64,
    let x := frOfDouble m
    let e : BitVec 11 := fld m 52 11
    x.sign = m.getLsbD 63 ∧ (fld x.sig 11 52 : BitVec 52) = fld m 0 52 ∧ (fld x.sig 0 11 : BitVec 11) = 0 ∧
      (x.sig.getLsbD 63 = true ↔ e ≠ 0) ∧
      (0 < e.toNat → e.toNat < 2047 → x.exp.toNat + 1023 = e.toNat + 65535) ∧ (e = 2047 → x.exp = 0x1FFFF) ∧
      (e = 0 → x.exp = if (fld m 0 52 : BitVec 52) = 0 then 0 else 0xFC01) ∧ x.toDouble = m) ∧
  (∀ m : BitVec 80,
    let x := frOfExtended m
    let e : BitVec 15 := fld m 64 15
    x.sign = m.getLsbD 79 ∧ x.sig = fld m 0 64 ∧
      (0 < e.toNat → e.toNat < 32767 → x.exp.toNat + 16383 = e.toNat + 65535) ∧ (e = 32767 → x.exp = 0x1FFFF) ∧
      (e = 0 → x.exp = 0) ∧ x.toExtended = m)

/-- setf and getf complete: register image of a value, value of a register image, NaT and NaTVal exchanged; a bad target is
an Illegal Operation, a disabled partition its fault (R962, R963, R649, R72, R17; derived). -/
def Obligations.RegisterFileMoves : Prop :=
  (∀ (s : State) (regs : List (BitVec 7)) (k : Nat), (s.disabledCode regs).getLsbD k =
    ((decide (k = 0) && s.psrBit Psr.dfl && regs.any (fun f => decide (2 ≤ f.toNat ∧ f.toNat < 32))) ||
      (decide (k = 1) && s.psrBit Psr.dfh && regs.any (fun f => decide (32 ≤ f.toNat))))) ∧
  (∀ (s : State) (qp : BitVec 6) (f r : BitVec 7), s.prBit qp = true →
    (∀ i ∈ [Instr.setfSigM18 qp f r, .setfExpM18 qp f r, .setfSM18 qp f r, .setfDM18 qp f r], FpStops i s f [f]) ∧
    ∀ i ∈ [Instr.getfSigM19 qp r f, .getfExpM19 qp r f, .getfSM19 qp r f, .getfDM19 qp r f],
      (NoTarget s r → Traps i s illegalOperation) ∧
      (¬ NoTarget s r → s.disabledCode [f] ≠ 0 → Traps i s (disabledFp (s.disabledCode [f])))) ∧
  ∀ (s : State) (qp : BitVec 6) (f r : BitVec 7), s.prBit qp = true → s.psrBit Psr.ss = false →
    (FrOk s f →
      let image (x : Fr) : Fr := if (s.gr r).nat then ⟨false, 0x1FFFE, 0⟩ else x
      let v := (s.gr r).val
      WritesFr (.setfSigM18 qp f r) s s f (image ⟨false, 0x1003E, v⟩) ∧
      WritesFr (.setfExpM18 qp f r) s s f (image ⟨v.getLsbD 17, fld v 0 17, 0x8000000000000000⟩) ∧
      WritesFr (.setfSM18 qp f r) s s f (image (frOfSingle (v.truncate 32))) ∧
      WritesFr (.setfDM18 qp f r) s s f (image (frOfDouble v))) ∧
    (s.badTarget r = false → s.disabledCode [f] = 0 →
      let nat := decide (s.fpr f = ⟨false, 0x1FFFE, 0⟩)
      let x := s.fpr f
      WritesGr (.getfSigM19 qp r f) s r ⟨x.sig, nat⟩ ∧
      WritesGr (.getfExpM19 qp r f) s r ⟨x.exp.zeroExtend 64 ||| (if x.sign then 0x20000 else 0), nat⟩ ∧
      WritesGr (.getfSM19 qp r f) s r ⟨x.toSingle.zeroExtend 64, nat⟩ ∧
      WritesGr (.getfDM19 qp r f) s r ⟨x.toDouble, nat⟩)

/-- lfetch of every form completes: the base updated, nothing else; lfetch.fault takes the faults of its address and of a NaT
base, and any form that of a base which is no target to update (R625, R626, R627, R608, R17, R1136; derived). That the Machine
Check of an overlapping VHPT walk ends the run: log entry 34. -/
def Obligations.PrefetchesUpdateTheBase : Prop :=
  ∀ (s : State) (qp : BitVec 6) (r2 r3 : BitVec 7) (hint : BitVec 2) (h : BitVec 1) (imm : BitVec 9)
    (stride : BitVec 5) (cnt : BitVec 6), s.prBit qp = true → s.psrBit Psr.ss = false →
    let r : Ref := { access := { r := true, na := true, naCode := 4 }, size := 1, align := 1, pl := s.cpl }
    let updated (i : Instr) (u : State) (post : Post) : Prop :=
      ∃ t, exec i s = .next t ∧ t.place = s.nextPlace ∧ (post.updates = true → t.gr r3 = s.postValue r3 post) ∧
        (∀ q, (post.updates = true → s.grLoc q ≠ s.grLoc r3) → t.gr q = s.gr q) ∧ SameMemory s t ∧
        t.settled = (u.postUpdate s r3 post).settled
    let faulting (i : Instr) (post : Post) : Prop :=
      (s.psrBit Psr.ed = true → updated i s post) ∧
      (s.psrBit Psr.ed = false → (s.gr r3).nat = true → Traps i s (natConsumption { r := true, na := true, naCode := 4 })) ∧
      (s.psrBit Psr.ed = false → (s.gr r3).nat = false →
        (∀ a, s.translate (s.psrBit Psr.dt) (s.gr r3).val r = .ok a →
          (s.checkWalk false a.walked = .ok () → updated i (s.touch a) post) ∧
          (s.checkWalk false a.walked ≠ .ok () → exec i s = .fault .machineCheck)) ∧
        (∀ x, s.translate (s.psrBit Psr.dt) (s.gr r3).val r = .error x → TrapsAt i s x))
    (∀ i ∈ [Instr.lfetchM51 qp r3 hint h, .lfetchExclM13 qp r3 hint h, .lfetchCountM52 qp r3 hint stride h cnt],
      updated i s .none) ∧
    (∀ i ∈ [Instr.lfetchFaultM13 qp r3 hint h, .lfetchFaultExclM13 qp r3 hint h], faulting i .none) ∧
    (NoTarget s r3 → ∀ i ∈ [Instr.lfetchM14 qp r2 r3 hint h, .lfetchExclM14 qp r2 r3 hint h, .lfetchFaultM14 qp r2 r3 hint h,
      .lfetchFaultExclM14 qp r2 r3 hint h, .lfetchM15 qp r3 hint h imm, .lfetchExclM15 qp r3 hint h imm,
      .lfetchFaultM15 qp r3 hint h imm, .lfetchFaultExclM15 qp r3 hint h imm], Traps i s illegalOperation) ∧
    (s.badTarget r3 = false →
      (∀ i ∈ [Instr.lfetchM14 qp r2 r3 hint h, .lfetchExclM14 qp r2 r3 hint h], updated i s (.reg r2)) ∧
      (∀ i ∈ [Instr.lfetchFaultM14 qp r2 r3 hint h, .lfetchFaultExclM14 qp r2 r3 hint h], faulting i (.reg r2)) ∧
      (∀ i ∈ [Instr.lfetchM15 qp r3 hint h imm, .lfetchExclM15 qp r3 hint h imm],
        updated i s (.imm (imm.signExtend 64))) ∧
      (∀ i ∈ [Instr.lfetchFaultM15 qp r3 hint h imm, .lfetchFaultExclM15 qp r3 hint h imm],
        faulting i (.imm (imm.signExtend 64))))

/-- chk.s and chk.a complete at the recovery code or the next instruction; invala.e removes the entries of its register
(R655, R656, R658, R550, R16, R72; derived); chk.s of a register in a disabled partition faults. That a failing chk.s or
chk.a always branches, and never takes the Speculative Operation fault that R655 and R656 give otherwise, is
check_branch_implemented TRUE: log entry 35 (D43, DEDUCED). -/
def Obligations.ChecksAndEntryInvalidation : Prop :=
  ∀ (s : State) (qp : BitVec 6) (r : BitVec 7) (disp : BitVec 21),
    s.prBit qp = true → s.psrBit Psr.ss = false → s.psrBit Psr.tb = false →
    let target : Word × BitVec 2 := (s.ip + BitVec.ofInt 64 (16 * disp.toInt), 0)
    let chooses (i : Instr) (c : Bool) : Prop := Reaches i s s (if c then target else s.nextPlace)
    let advanced (nc clr : Instr) (reg : AlatReg) : Prop :=
      let place := if s.alatCmp reg then s.nextPlace else target
      Reaches nc s s place ∧
      Reaches clr s (if s.alatCmp reg then { s with alat := s.alat.filter (fun e => e.reg ≠ reg) } else s) place ∧
      ((∀ e ∈ s.alat, e.reg ≠ reg) → s.alatCmp reg = false)
    chooses (.chkSII20 qp r disp) (s.gr r).nat ∧ chooses (.chkSMM20 qp r disp) (s.gr r).nat ∧
    (s.disabledCode [r] = 0 → chooses (.chkSM21 qp r disp) (decide (s.fpr r = ⟨false, 0x1FFFE, 0⟩))) ∧
    (s.disabledCode [r] ≠ 0 → Traps (.chkSM21 qp r disp) s (disabledFp (s.disabledCode [r]))) ∧
    advanced (.chkANcM22 qp r disp) (.chkAClrM22 qp r disp) (s.alatGr r) ∧
    advanced (.chkANcM23 qp r disp) (.chkAClrM23 qp r disp) (s.alatFr r) ∧
    Completes (.invalaEM26 qp r) s { s with alat := s.alat.filter (fun e => e.reg ≠ .gr (s.grLoc r)) } ∧
    Completes (.invalaEM27 qp r) s { s with alat := s.alat.filter (fun e => e.reg ≠ .fr (s.frIndex r)) }

/-- invala completes with an empty ALAT (R657; stated). -/
def Obligations.InvalaEmptiesTheAlat : Prop :=
  ∀ (s : State) (qp : BitVec 6), s.psrBit Psr.ss = false →
    (s.prBit qp = true → Completes (.invalaM24 qp) s { s with alat := [] }) ∧
    (s.prBit qp = false → Completes (.invalaM24 qp) s s)

namespace Sys2Proof.Machine

/-! ### Branches -/

/-- No trap follows a branch that lowers no privilege: PSR.ss and PSR.tb are 0 (R1150). -/
def Untrapped (s : State) : Prop := s.psrBit Psr.ss = false ∧ s.psrBit Psr.tb = false

/-- IP + 16 * disp21, slot 0 (R550). -/
def relTarget (s : State) (disp : BitVec 21) : Word × BitVec 2 := (s.ip + BitVec.ofInt 64 (16 * disp.toInt), 0)

/-- The bundle that a branch register addresses, slot 0 (R550). -/
def brTarget (s : State) (b : BitVec 3) : Word × BitVec 2 := (s.brReg b &&& 0xFFFFFFFFFFFFFFF0, 0)

end Sys2Proof.Machine

/-- br.cond and brl.cond reach their target if PR[qp] is 1, and the next instruction if it is 0 (R550, R551, R557, R560,
R59; derived). No branch takes the Unimplemented Instruction Address trap of R557, its target faults at the fetch: log
entry 35. -/
def Obligations.BranchesReachTheirTargets : Prop :=
  ∀ (s : State) (qp : BitVec 6) (b : BitVec 3) (d : BitVec 1) (wh : BitVec 2) (p : BitVec 1) (disp : BitVec 21)
    (disp60 : BitVec 60), Untrapped s →
    Reaches (.brCondB1 qp d wh p disp) s s (if s.prBit qp then relTarget s disp else s.nextPlace) ∧
    Reaches (.brCondB4 qp b d wh p) s s (if s.prBit qp then brTarget s b else s.nextPlace) ∧
    (s.followedByStop = true → Reaches (.brlCondX3 qp d wh p disp60) s s
      (if s.prBit qp then (s.ip + BitVec.ofInt 64 (16 * disp60.toInt), 0) else (s.ip + 16, 0))) ∧
    (s.followedByStop = false → exec (.brlCondX3 qp d wh p disp60) s = .fault .undefinedBehavior)

/-- br.call and brl.call link, save CFM, EC and the privilege level in PFS, and enter a frame of the outputs (R552,
R561, R550, R83, R77; derived). No Unimplemented Instruction Address trap of a branch (R557): log entry 35. -/
def Obligations.CallsSaveTheFrame : Prop :=
  ∀ (s : State) (qp : BitVec 6) (b1 b2 : BitVec 3) (d : BitVec 1) (wh : BitVec 2) (wh3 : BitVec 3) (p : BitVec 1)
    (disp : BitVec 21) (disp60 : BitVec 60), s.prBit qp = true → Untrapped s →
    let called (i : Instr) (place : Word × BitVec 2) : Prop :=
      ∃ t, exec i s = .next t ∧ t.place = place ∧ t.brReg b1 = s.ip + 16 ∧ (∀ b, b ≠ b1 → t.brReg b = s.brReg b) ∧
        (fld t.ar.pfs 0 38 : BitVec 38) = s.cfm.toBits ∧ (fld t.ar.pfs 52 6 : BitVec 6) = s.ar.ec ∧
        (fld t.ar.pfs 62 2 : BitVec 2) = s.cpl ∧ (fld t.ar.pfs 38 14 : BitVec 14) = fld s.ar.pfs 38 14 ∧
        (fld t.ar.pfs 58 4 : BitVec 4) = fld s.ar.pfs 58 4 ∧
        t.cfm = { sof := s.cfm.sof - s.cfm.sol, sol := 0, sor := 0, rrbGr := 0, rrbFr := 0, rrbPr := 0 } ∧
        t.dahr = Vector.replicate 8 Config.dahrDefault ∧ t.dahs = (s.dahr :: s.dahs).dropLast ∧
        t.pr = s.pr ∧ t.fr = s.fr ∧ t.grStacked = s.grStacked ∧ SameMemory s t ∧ t.settled = (s.call b1).settled
    called (.brCallB3 qp b1 d wh p disp) (relTarget s disp) ∧
    called (.brCallB5 qp b1 b2 d wh3 p) (brTarget s b2) ∧
    (s.followedByStop = true →
      called (.brlCallX4 qp b1 d wh p disp60) (s.ip + BitVec.ofInt 64 (16 * disp60.toInt), 0))

/-- The caller's output registers are the callee's GR32 and up (R53, R552; derived). No Unimplemented Instruction Address
trap of a branch (R557): log entry 35. -/
def Obligations.OutputsBecomeTheCalleesFrame : Prop :=
  ∀ (s : State) (qp : BitVec 6) (b1 : BitVec 3) (d : BitVec 1) (wh : BitVec 2) (p : BitVec 1) (disp : BitVec 21),
    s.frameOk = true → 8 * s.cfm.sor.toNat ≤ s.cfm.sol.toNat → s.prBit qp = true → Untrapped s →
    ∃ t, exec (.brCallB3 qp b1 d wh p disp) s = .next t ∧
      (∀ k, k < s.cfm.sof.toNat - s.cfm.sol.toNat →
        t.gr (BitVec.ofNat 7 (32 + k)) = s.gr (BitVec.ofNat 7 (32 + s.cfm.sol.toNat + k))) ∧
      (∀ r : BitVec 7, r.toNat < 32 → t.gr r = s.gr r)

/-- br.ret reaches its target with the frame, EC and privilege level of PFS, an empty frame where the frame does not fit
(R558, R550, R77, R139, R1133; derived). A marker that fits and that no frame can have is a Reserved Register/Field fault:
log entry 25. No Unimplemented Instruction Address trap of a branch (R557): log entry 35. -/
def Obligations.ReturnsRestoreTheFrame : Prop :=
  ∀ (s : State) (qp : BitVec 6) (b2 : BitVec 3) (d : BitVec 1) (wh : BitVec 2) (p : BitVec 1),
    s.prBit qp = true → Untrapped s → s.psrBit Psr.lp = false →
    let pfm := Cfm.ofBits (fld s.ar.pfs 0 38)
    let fatal : Bool := s.restoreFatal pfm.sol.toNat pfm.sof.toNat
    (fatal = false → pfm.wf = false → Traps (.brRetB4 qp b2 d wh p) s reservedRegisterField) ∧
    (fatal = true ∨ pfm.wf = true →
    ∃ t, exec (.brRetB4 qp b2 d wh p) s = .next t ∧ t.place = brTarget s b2 ∧ t.ar.ec = fld s.ar.pfs 52 6 ∧
      t.cpl = (if s.cpl < fld s.ar.pfs 62 2 then fld s.ar.pfs 62 2 else s.cpl) ∧
      t.cfm = (if fatal then Cfm.empty else pfm) ∧
      t.dahr = s.dahs.headD (Vector.replicate 8 Config.dahrDefault) ∧
      t.dahs = (s.dahs ++ [Vector.replicate 8 Config.dahrDefault]).tail ∧
      t.br = s.br ∧ t.pr = s.pr ∧ t.fr = s.fr ∧ t.ar.pfs = s.ar.pfs ∧ SameMemory s t ∧
      t.settled = s.returned.settled)

/-- A call and the return through its link restore the caller's frame, registers, EC and place (R552, R558, R53, R138,
R139; derived). No Unimplemented Instruction Address trap of a branch (R557): log entry 35. -/
def Obligations.CallThenReturnRestoresCaller : Prop :=
  ∀ (s : State) (b1 : BitVec 3) (d d' : BitVec 1) (wh wh' : BitVec 2) (p p' : BitVec 1) (disp : BitVec 21),
    s.frameOk = true → Untrapped s → s.psrBit Psr.lp = false → fld s.ip 0 4 = (0 : BitVec 4) →
    ∃ t u, exec (.brCallB3 0 b1 d wh p disp) s = .next t ∧ exec (.brRetB4 0 b1 d' wh' p') t = .next u ∧
      u.place = (s.ip + 16, 0) ∧ u.cfm = s.cfm ∧ u.ar.ec = s.ar.ec ∧ u.cpl = s.cpl ∧ u.rse.bof = s.rse.bof ∧
      u.dahr = (if s.dahs.isEmpty then Vector.replicate 8 Config.dahrDefault else s.dahr) ∧
      (∀ r : BitVec 7, r.toNat < 32 + s.cfm.sof.toNat → u.gr r = s.gr r) ∧ SameMemory s u

/-- br.cloop, br.ctop, br.cexit, br.wtop and br.wexit complete: LC, EC, PR63 and the register bases as their rules say (R553,
R554, R555, R56, R63, R557; derived). No branch takes the Unimplemented Instruction Address trap of R557: log entry 35. -/
def Obligations.LoopBranchesCountAndRotate : Prop :=
  ∀ (s : State) (qp : BitVec 6) (d : BitVec 1) (wh : BitVec 2) (p : BitVec 1) (disp : BitVec 21),
    let place (taken : Bool) : Word × BitVec 2 := if taken then relTarget s disp else s.nextPlace
    let rotated (u : State) : State := { u with cfm := u.cfm.rotate }
    let ended : State := s.setPr 63 false
    let drained : State := if s.ar.ec = 0 then ended else rotated { ended with ar := { s.ar with ec := s.ar.ec - 1 } }
    let counted : State := if s.ar.lc = 0 then drained
      else rotated { s.setPr 63 true with ar := { s.ar with lc := s.ar.lc - 1 } }
    let whiled : State := if s.prBit qp then rotated ended else drained
    let again : Bool := decide (s.ar.lc ≠ 0 ∨ 1 < s.ar.ec.toNat)
    let more : Bool := decide (s.prBit qp = true ∨ 1 < s.ar.ec.toNat)
    (s.ri = 2 → Untrapped s →
      Reaches (.brCloopB2 d wh p disp) s
        { s with ar := { s.ar with lc := if s.ar.lc = 0 then 0 else s.ar.lc - 1 } } (place (decide (s.ar.lc ≠ 0))) ∧
      Reaches (.brCtopB2 d wh p disp) s counted (place again) ∧
      Reaches (.brCexitB2 d wh p disp) s counted (place !again) ∧
      Reaches (.brWtopB1 qp d wh p disp) s whiled (place more) ∧
      Reaches (.brWexitB1 qp d wh p disp) s whiled (place !more)) ∧
    (s.ri ≠ 2 → ∀ i ∈ [Instr.brCloopB2 d wh p disp, .brCtopB2 d wh p disp, .brCexitB2 d wh p disp,
      .brWtopB1 qp d wh p disp, .brWexitB1 qp d wh p disp], Traps i s illegalOperation)

/-- One rotation: what was in rotating register n is in n + 1; PR63 is seen as PR16 (R53, R56, R61, R70, R63; derived). -/
def Obligations.RotationMovesRegistersUp : Prop :=
  ∀ s : State, s.frameOk = true →
    let t : State := { s with cfm := s.cfm.rotate }
    t.frameOk = true ∧
    (∀ r : BitVec 7, 32 ≤ r.toNat → r.toNat + 1 < 32 + 8 * s.cfm.sor.toNat → t.gr (r + 1) = s.gr r) ∧
    (0 < s.cfm.sor.toNat → t.gr 32 = s.gr (BitVec.ofNat 7 (31 + 8 * s.cfm.sor.toNat))) ∧
    (∀ r : BitVec 7, r.toNat < 32 ∨ 32 + 8 * s.cfm.sor.toNat ≤ r.toNat → t.gr r = s.gr r) ∧
    (∀ p : BitVec 6, 16 ≤ p.toNat → p.toNat < 63 → t.prBit (p + 1) = s.prBit p) ∧ t.prBit 16 = s.prBit 63 ∧
    (∀ p : BitVec 6, p.toNat < 16 → t.prBit p = s.prBit p) ∧
    (∀ f : BitVec 7, 32 ≤ f.toNat → f.toNat < 127 → t.fpr (f + 1) = s.fpr f) ∧ t.fpr 32 = s.fpr 127 ∧
    (∀ f : BitVec 7, f.toNat < 32 → t.fpr f = s.fpr f)

/-- cover, clrrrb, bsw, epc, vmsw and brp complete with the effects their rules give (R564, R565, R567, R568, R569, R562,
R264, R1137; derived); cover, bsw and vmsw where they may not run fault. That vmsw without the feature takes the
Virtualization fault of R569 and not the Illegal Operation of R1130, and the bit of vdc that is d_vmsw, is log entry 43. -/
def Obligations.FrameAndBankInstructions : Prop :=
  (∀ s : State, s.followedByStop = true → s.psrBit Psr.vm = true →
    (s.psrBit Psr.ic = false → Traps .coverB8 s virtualizationFault) ∧
    (s.cpl = 0 → Traps .bsw0B8 s virtualizationFault ∧ Traps .bsw1B8 s virtualizationFault)) ∧
  (∀ s : State, s.cpl = 0 → s.vmswAllowed = false → ∀ i ∈ [Instr.vmsw0B8, .vmsw1B8], Traps i s virtualizationFault) ∧
  (∀ s : State,
    (s.vmswAllowed = true ↔ s.pal.features.getLsbD 40 = true ∧ s.pal.features.getLsbD 54 = true ∧
      (∀ run, s.pal.vpRun = some run → run.vdc.getLsbD Config.dVmswBit.val = false) ∧ s.psrBit Psr.it = true ∧
      ∃ e, some e ∈ s.itr.toList ∧ e.ar = 7 ∧ Maps s s.ip e) ∧
    ∀ e, s.promotion = some e ↔ s.findInst s.ip = some e ∧ e.ar = 7) ∧
  ∀ s : State, s.psrBit Psr.ss = false →
    (s.followedByStop = true →
      ((s.psrBit Psr.vm && !s.psrBit Psr.ic) = false →
        ∃ t, exec .coverB8 s = .next t ∧ t.place = s.nextPlace ∧ t.cfm = Cfm.empty ∧ t.grStacked = s.grStacked ∧
          t.ar.bsp = bsGrow s.ar.bsp s.cfm.sof.toNat ∧
          t.rse.bof = Fin.ofNat 96 (s.rse.bof.val + s.cfm.sof.toNat) ∧
          t.cr.ifs = (if s.psrBit Psr.ic then s.cr.ifs else setBit (setFld s.cr.ifs 0 s.cfm.toBits) 63 true) ∧
          (∀ r : BitVec 7, r.toNat < 32 → t.gr r = s.gr r) ∧ SameMemory s t ∧
          t.settled = ({ s.leaveFrame s.cfm.sof.toNat Cfm.empty with cr := { s.cr with ifs := t.cr.ifs } } : State).settled) ∧
      Completes .clrrrbB8 s { s with cfm := { s.cfm with rrbGr := 0, rrbFr := 0, rrbPr := 0 } } ∧
      Completes .clrrrbPrB8 s { s with cfm := { s.cfm with rrbPr := 0 } } ∧
      (s.cpl = 0 → s.psrBit Psr.vm = false →
        Completes .bsw0B8 s { s with psr := setBit s.psr 44 false } ∧
        Completes .bsw1B8 s { s with psr := setBit s.psr 44 true })) ∧
    (s.followedByStop = false → ∀ i ∈ [Instr.coverB8, .clrrrbB8, .clrrrbPrB8, .bsw0B8, .bsw1B8],
      Traps i s illegalOperation) ∧
    (¬ (fld s.ar.pfs 62 2 : BitVec 2) < s.cpl →
      (s.psrBit Psr.it = false → Completes .epcB8 s { s with psr := setFld s.psr 32 (0 : BitVec 2) }) ∧
      (s.psrBit Psr.it = true → Completes .epcB8 s (match s.promotion with
        | some e => if e.pl < s.cpl then { s with psr := setFld s.psr 32 e.pl } else s
        | none => s))) ∧
    ((fld s.ar.pfs 62 2 : BitVec 2) < s.cpl → Traps .epcB8 s illegalOperation) ∧
    (s.cpl = 0 → s.vmswAllowed = true →
      Completes .vmsw0B8 s { s with psr := setBit s.psr 46 false } ∧
      Completes .vmsw1B8 s { s with psr := setBit s.psr 46 true }) ∧
    (∀ (b2 : BitVec 3) (ih p : BitVec 1) (wh : BitVec 2) (v : BitVec 3) (disp : BitVec 21) (tag : BitVec 9),
      ∀ i ∈ [Instr.brpB6 ih p wh v disp tag, .brpB7 b2 ih p wh v tag, .brpRetB7 b2 ih p wh v tag], Completes i s s)

/-- br.ia completes with PSR.is 1 at the branch register's address, and faults where R556 says (R556; derived). The choices
of the model named here: that the ALAT keeps its entries, log entry 56; what the dispersal register then holds, log entry
16. -/
def Obligations.BranchToIa32 : Prop :=
  ∀ (s : State) (qp : BitVec 6) (b2 : BitVec 3) (d : BitVec 1) (wh : BitVec 2) (p : BitVec 1),
    let mode : Prop := s.psrBit Psr.ic = true ∧ s.psrBit Psr.dt = true ∧ s.psrBit Psr.it = true ∧
      s.psrBit Psr.mc = false
    (mode → qp = 0 → s.ar.bspstore = s.ar.bsp → s.psrBit Psr.di = false → Untrapped s →
      ∃ t, exec (.brIaB4 qp b2 d wh p) s = .next t ∧ t.place = ((s.brReg b2).truncate 32 |>.zeroExtend 64, 0) ∧ t.psrBit Psr.is = true ∧
        t.cfm = Cfm.empty ∧ t.settled = ({ s with
          cfm := Cfm.empty, psr := setBit s.psr 34 true
          rse := { s.rse with
            bspLoad := s.ar.bspstore
            dispersal := if collectionOf (s.rse.bspLoad - 8) = collectionOf s.ar.bspstore then s.rse.dispersal
              else s.ar.rnat } } : State).settled) ∧
    (mode → qp ≠ 0 ∨ s.ar.bspstore ≠ s.ar.bsp → Traps (.brIaB4 qp b2 d wh p) s illegalOperation) ∧
    (mode → qp = 0 → s.ar.bspstore = s.ar.bsp → s.psrBit Psr.di = true →
      Traps (.brIaB4 qp b2 d wh p) s disabledIsTransition) ∧
    (¬ mode → exec (.brIaB4 qp b2 d wh p) s = .fault .undefinedBehavior)

/-- break in every unit takes the Break Instruction fault with its immediate in IIM (0 for break.b) (R674, R1141, R563;
derived). -/
def Obligations.BreaksTakeTheBreakFault : Prop :=
  ∀ (s : State) (qp : BitVec 6) (imm : BitVec 21) (imm62 : BitVec 62),
    let breaks : List (Instr × Word) := [(.breakMM37 qp imm, imm.zeroExtend 64), (.breakII19 qp imm, imm.zeroExtend 64),
      (.breakFF15 qp imm, imm.zeroExtend 64), (.breakBB9 qp imm, 0), (.breakXX1 qp imm62, imm62.zeroExtend 64)]
    (s.prBit qp = true → ∀ f ∈ breaks, ∃ t, exec f.1 s = .next t ∧
      t = deliver { vector := .breakInstruction, iim := some f.2 } s ∧
      t.ip = (fld s.cr.iva 15 49 : BitVec 49) ++ (0x2C00 : BitVec 15) ∧
      (s.psrBit Psr.ic = true → t.cr.iim = f.2 ∧ t.cr.iip = s.ip ∧ t.cr.ipsr = s.psr)) ∧
    (s.prBit qp = false → s.psrBit Psr.ss = false → ∀ f ∈ breaks,
      Reaches f.1 s s (if f.1 = .breakXX1 qp imm62 then (s.ip + 16, 0) else s.nextPlace))

/-- nop, hint, mf, srlz, sync.i and fwb complete and change nothing but the place (R672, R673, R570, R571, R686, R687,
R688, R689; derived). What mf, srlz, sync.i and fwb order is already in order here: log entry 41 (DEDUCED); hint:
log entry 44. -/
def Obligations.NoOperationsOnlyMoveOn : Prop :=
  ∀ (s : State) (qp : BitVec 6) (imm21 : BitVec 21) (imm19 : BitVec 19) (imm62 : BitVec 62), s.psrBit Psr.ss = false →
    (∀ i ∈ [Instr.nopMM48 qp imm21, .nopII18 qp imm21, .nopFF16 qp imm21, .nopBB9 qp imm21, .hintMM49 qp imm19,
      .hintII18 qp imm21, .hintFF16 qp imm21, .hintBB9 qp imm21, .mfM24 qp, .mfAM24 qp, .srlzDM24 qp, .srlzIM24 qp,
      .syncIM24 qp, .fwbM24 qp], Completes i s s) ∧
    (∀ i ∈ [Instr.nopXX5 qp imm62, .hintXX5 qp imm62], Reaches i s s (s.ip + 16, 0))

/-- mov to and from br, pr, pr.rot and ip complete; a NaT source takes the Register NaT Consumption fault (R820, R821,
R822, R824, R825; stated). -/
def Obligations.BranchAndPredicateMoves : Prop :=
  ∀ (s : State) (qp : BitVec 6) (b : BitVec 3) (r : BitVec 7) (tim : BitVec 9) (ih : BitVec 1) (wh : BitVec 2)
    (p : BitVec 1) (v : BitVec 3) (mask : BitVec 16) (imm : BitVec 28), s.prBit qp = true → s.psrBit Psr.ss = false →
    (∀ i ∈ [Instr.movToBrI21 qp b r tim ih wh p v, .movRetToBrI21 qp b r tim ih wh p v],
      ((s.gr r).nat = false → Completes i s { s with br := s.br.set b.toFin (s.gr r).val }) ∧
      ((s.gr r).nat = true → Traps i s (natConsumption {}))) ∧
    (s.badTarget r = false →
      WritesGr (.movFromBrI22 qp r b) s r ⟨s.br[b.toFin], false⟩ ∧ WritesGr (.movFromIpI25 qp r) s r ⟨s.ip, false⟩ ∧
      WritesGr (.movFromPrI25 qp r) s r ⟨s.pr ||| 1, false⟩) ∧
    ((s.gr r).nat = true → Traps (.movToPrI23 qp r mask) s (natConsumption {})) ∧
    ((s.gr r).nat = false → ∃ w : Word, Completes (.movToPrI23 qp r mask) s { s with pr := w } ∧
      ∀ k, k < 64 → w.getLsbD k =
        if 1 ≤ k ∧ mask.getLsbD (min k 16 - 1) = true then (s.gr r).val.getLsbD k else s.pr.getLsbD k) ∧
    (∃ w : Word, Completes (.movToPrRotI24 qp imm) s { s with pr := w } ∧
      ∀ k, k < 64 → w.getLsbD k =
        if k < 16 then s.pr.getLsbD k else if k < 44 then imm.getLsbD (k - 16) else imm.getLsbD 27)

namespace Sys2Proof.Machine

/-- The reserved application registers between the others of the M unit (R91). -/
def reservedArs : List (BitVec 7) := [20, 22, 23, 31, 33, 34, 35, 37, 38, 39, 41, 42, 43, 46, 47]

/-- The application registers of the M unit that a program of any level may write in any mode (R680). -/
def plainArs : List (BitVec 7) := [16, 21, 24, 25, 26, 28, 29, 30, 32, 36, 40]

/-- The application registers of the M unit that only level 0 may write (R680). -/
def privilegedArs : List (BitVec 7) := [0, 1, 2, 3, 4, 5, 6, 7, 27, 44, 45]

end Sys2Proof.Machine

/-- mov from an application register of its unit completes with the register's value, or takes the fault R680 names (R680,
R80, R82, R83, R84, R88, R90, R92, R93, R17; derived); a target GR0 or outside the frame is an Illegal Operation, of mov from
br, ip and pr too. That a read of ITC or RUC under PSR.vm asks for PSR.si too is the choice of the model: log entry 57. -/
def Obligations.ApplicationRegistersRead : Prop :=
  (∀ (s : State) (qp : BitVec 6) (r n : BitVec 7) (b : BitVec 3), s.prBit qp = true → NoTarget s r →
    ∀ i ∈ [Instr.movMFromArM31 qp r n, .movIFromArI28 qp r n, .movFromBrI22 qp r b, .movFromIpI25 qp r,
      .movFromPrI25 qp r], Traps i s illegalOperation) ∧
  ∀ (s : State) (qp : BitVec 6) (r1 : BitVec 7), ReadyGr s qp r1 →
    let m (n : BitVec 7) (v : Word) : Prop := WritesGr (.movMFromArM31 qp r1 n) s r1 ⟨v, false⟩
    let i (n : BitVec 7) (v : Word) : Prop := WritesGr (.movIFromArI28 qp r1 n) s r1 ⟨v, false⟩
    i 64 s.ar.pfs ∧ i 65 s.ar.lc ∧ i 66 (s.ar.ec.zeroExtend 64) ∧
    (∀ k : Fin 8, m (BitVec.ofNat 7 k.val) s.ar.kr[k]) ∧ m 16 s.ar.rsc ∧ m 17 s.ar.bsp ∧ m 21 s.ar.fcr ∧
    m 24 s.ar.eflag ∧ m 25 s.ar.csd ∧ m 26 s.ar.ssd ∧ m 28 s.ar.fsr ∧ m 29 s.ar.fir ∧ m 30 s.ar.fdr ∧
    m 32 s.ar.ccv ∧ m 36 s.ar.unat ∧ m 40 s.ar.fpsr ∧
    ((fld s.ar.rsc 0 2 : BitVec 2) = 0 → m 18 s.ar.bspstore ∧ m 19 s.ar.rnat) ∧
    (s.cpl = 0 → m 27 s.ar.cflg) ∧
    (s.psrBit Psr.si = false ∨ (s.cpl = 0 ∧ s.psrBit Psr.vm = false) → m 44 (s.ar.itc + s.cr.ito) ∧ m 45 s.ar.ruc) ∧
    (∀ n : BitVec 7, (48 ≤ n.toNat ∧ n.toNat < 64) ∨ 112 ≤ n.toNat → m n 0 ∧ i n 0) ∧
    (∀ n : BitVec 7, n.toNat < 48 ∨ (66 < n.toNat ∧ n.toNat < 112) →
      Traps (.movIFromArI28 qp r1 n) s illegalOperation) ∧
    (∀ n : BitVec 7, (64 ≤ n.toNat ∧ n.toNat < 112) ∨ (8 ≤ n.toNat ∧ n.toNat < 16) ∨ n ∈ reservedArs →
      Traps (.movMFromArM31 qp r1 n) s illegalOperation) ∧
    ((fld s.ar.rsc 0 2 : BitVec 2) ≠ 0 → ∀ n ∈ ([18, 19] : List (BitVec 7)),
      Traps (.movMFromArM31 qp r1 n) s illegalOperation) ∧
    (s.cpl ≠ 0 → Traps (.movMFromArM31 qp r1 27) s privilegedRegister) ∧
    (s.psrBit Psr.si = true → ∀ n ∈ ([44, 45] : List (BitVec 7)),
      (s.cpl ≠ 0 → Traps (.movMFromArM31 qp r1 n) s privilegedRegister) ∧
      (s.cpl = 0 → s.psrBit Psr.vm = true → Traps (.movMFromArM31 qp r1 n) s virtualizationFault))

/-- mov to an application register of its unit completes; reserved fields, NaT sources and privilege fault (R680, R80, R83,
R84, R87, R88, R89, R90, R92, R93; derived). The choices of the model named here: that the dispersal register takes a written
RNAT while the next load is from the group that it collects is log entry 16, that the IA-32 registers are plain storage log
entry 50, that bits 2:0 of a written BSPSTORE are dropped log entry 26, that FPSR does not take the reserved precision (pc =
1, `fpsrReserved`) log entry 64. -/
def Obligations.ApplicationRegistersWritten : Prop :=
  ∀ (s : State) (qp : BitVec 6) (r2 : BitVec 7) (imm : BitVec 8) (v : Word), s.prBit qp = true →
    s.psrBit Psr.ss = false →
    let src (reg im : Instr) (u : State) : Prop :=
      (s.gr r2 = ⟨v, false⟩ → Completes reg s u) ∧ (v = imm.signExtend 64 → Completes im s u)
    let m (n : BitVec 7) (u : State) : Prop := src (.movMToArM29 qp r2 n) (.movMToArImmM30 qp n imm) u
    let i (n : BitVec 7) (u : State) : Prop := src (.movIToArI26 qp r2 n) (.movIToArImmI27 qp n imm) u
    i 64 { s with ar := { s.ar with pfs := v &&& 0xC3F0003FFFFFFFFF } } ∧ i 65 { s with ar := { s.ar with lc := v } } ∧
    i 66 { s with ar := { s.ar with ec := fld v 0 6 } } ∧
    m 21 { s with ar := { s.ar with fcr := v } } ∧ m 24 { s with ar := { s.ar with eflag := v } } ∧
    m 25 { s with ar := { s.ar with csd := v } } ∧ m 26 { s with ar := { s.ar with ssd := v } } ∧
    m 28 { s with ar := { s.ar with fsr := v } } ∧ m 29 { s with ar := { s.ar with fir := v } } ∧
    m 30 { s with ar := { s.ar with fdr := v } } ∧ m 32 { s with ar := { s.ar with ccv := v } } ∧
    m 36 { s with ar := { s.ar with unat := v } } ∧
    (s.cpl = 0 → (∀ k : Fin 8, m (BitVec.ofNat 7 k.val) { s with ar := { s.ar with kr := s.ar.kr.set k v } }) ∧
      m 27 { s with ar := { s.ar with cflg := v } } ∧
      (s.psrBit Psr.vm = false → m 44 { s with ar := { s.ar with itc := v } } ∧
        m 45 { s with ar := { s.ar with ruc := v } })) ∧
    (v &&& 0xFFFFFFFFC000FFE0 = 0 → m 16 { s with ar := { s.ar with
      rsc := if (fld v 2 2 : BitVec 2) < s.cpl then setFld v 2 s.cpl else v } }) ∧
    (fpsrReserved v = false → m 40 { s with ar := { s.ar with fpsr := v } }) ∧
    (s.rscMode = 0 →
      m 19 { s with
        ar := { s.ar with rnat := setBit v 63 false }
        rse := { s.rse with
          dispersal := if collectionOf (s.rse.bspLoad - 8) = collectionOf s.ar.bspstore then setBit v 63 false
            else s.rse.dispersal } } ∧
      ∃ open_ : Word, m 18 { s with
        ar := { s.ar with bspstore := v &&& 0xFFFFFFFFFFFFFFF8, rnat := open_
                          bsp := if s.ndirty = 0 then v &&& 0xFFFFFFFFFFFFFFF8
                            else bsGrow (v &&& 0xFFFFFFFFFFFFFFF8) s.ndirty }
        rse := { s.rse with bspLoad := v &&& 0xFFFFFFFFFFFFFFF8, dispersal := open_ }
        dahr := Vector.replicate 8 Config.dahrDefault
        dahs := s.dahs.map fun _ => Vector.replicate 8 Config.dahrDefault }) ∧
    (∀ n : BitVec 7, (48 ≤ n.toNat ∧ n.toNat < 64) ∨ 112 ≤ n.toNat → m n s ∧ i n s) ∧
    (∀ n : BitVec 7, n = 17 ∨ n ∈ reservedArs ∨ (8 ≤ n.toNat ∧ n.toNat < 16) ∨ (64 ≤ n.toNat ∧ n.toNat < 112) ∨
        (s.rscMode ≠ 0 ∧ (n = 18 ∨ n = 19)) →
      Traps (.movMToArM29 qp r2 n) s illegalOperation ∧ Traps (.movMToArImmM30 qp n imm) s illegalOperation) ∧
    (∀ n : BitVec 7, n.toNat < 48 ∨ (66 < n.toNat ∧ n.toNat < 112) →
      Traps (.movIToArI26 qp r2 n) s illegalOperation ∧ Traps (.movIToArImmI27 qp n imm) s illegalOperation) ∧
    ((s.gr r2).nat = true →
      (∀ n : BitVec 7, n ∈ plainArs ∨ n ∈ privilegedArs ∨ (s.rscMode = 0 ∧ (n = 18 ∨ n = 19)) →
        Traps (.movMToArM29 qp r2 n) s (natConsumption {})) ∧
      (∀ n ∈ ([64, 65, 66] : List (BitVec 7)), Traps (.movIToArI26 qp r2 n) s (natConsumption {})) ∧
      (∀ n : BitVec 7, (48 ≤ n.toNat ∧ n.toNat < 64) ∨ 112 ≤ n.toNat →
        Traps (.movMToArM29 qp r2 n) s (natConsumption {}) ∧ Traps (.movIToArI26 qp r2 n) s (natConsumption {}))) ∧
    (let faults (n : BitVec 7) (x : Interruption) : Prop :=
      (s.gr r2 = ⟨v, false⟩ → Traps (.movMToArM29 qp r2 n) s x) ∧
      (v = imm.signExtend 64 → Traps (.movMToArImmM30 qp n imm) s x)
    (v &&& 0xFFFFFFFFC000FFE0 ≠ 0 → faults 16 reservedRegisterField) ∧
    (fpsrReserved v = true → faults 40 reservedRegisterField) ∧
    (s.cpl ≠ 0 → ∀ n ∈ privilegedArs, faults n privilegedRegister) ∧
    (s.cpl = 0 → s.psrBit Psr.vm = true → ∀ n ∈ ([44, 45] : List (BitVec 7)), faults n virtualizationFault))

namespace Sys2Proof.Machine

/-! ### The system -/

/-- A privileged instruction may run: PR[qp] is 1, the level is 0, PSR.vm is 0, no trap follows it. -/
def Privileged (s : State) (qp : BitVec 6) : Prop :=
  s.prBit qp = true ∧ s.cpl = 0 ∧ s.psrBit Psr.vm = false ∧ s.psrBit Psr.ss = false

end Sys2Proof.Machine

/-- mov to and from every control register completes at level 0; a reserved number, a bad target, a NaT source, a reserved
field and PSR.vm fault (R681, R100, R101, R103, R105, R106, R107, R1161, R1162, R1163, R1164, R1137; derived). The choices of
the model named here: log entries 5 (the checks of ITIR and IFA by the move), 13, 26 and 37. -/
def Obligations.ControlRegistersMove : Prop :=
  (∀ (s : State) (qp : BitVec 6) (r n : BitVec 7), s.prBit qp = true →
    (NoTarget s r → Traps (.movFromCrM33 qp r n) s illegalOperation) ∧
    (n ∉ ([0, 1, 2, 4, 8, 9, 16, 17, 19, 20, 21, 22, 23, 24, 25, 26, 27, 64, 65, 66, 67, 68, 69, 70, 71, 72, 73, 74, 80,
        81] : List (BitVec 7)) →
      Traps (.movFromCrM33 qp r n) s illegalOperation ∧ Traps (.movToCrM32 qp r n) s illegalOperation)) ∧
  (∀ (s : State) (qp : BitVec 6) (r : BitVec 7), s.prBit qp = true → s.cpl = 0 →
    let v := (s.gr r).val
    let stops (n : BitVec 7) (x : Interruption) : Prop := Traps (.movToCrM32 qp r n) s x
    let open_ (n : BitVec 7) : Prop := n ∈ ([0, 1, 2, 4, 8, 9, 64, 66, 67, 72, 73, 74, 80, 81] : List (BitVec 7)) ∨
      (s.psrBit Psr.ic = false ∧ n ∈ ([16, 17, 19, 20, 21, 22, 23, 24, 25, 26, 27] : List (BitVec 7)))
    let reserved (n : BitVec 7) : Prop := (n = 0 ∧ v &&& 0xFFFFFFFFFFFF80F8 ≠ 0) ∨ (n = 16 ∧ v &&& reservedPsr ≠ 0) ∨
      (n = 17 ∧ v &&& 0xFFFFF000FF000000 ≠ 0) ∨ (n = 21 ∧ itirReserved v = true) ∨
      ((n = 80 ∨ n = 81) ∧ lrrReserved v = true)
    let absent (n : BitVec 7) : Prop := n = 20 ∧ unimplementedVa v (s.psrBit Psr.vm) = true
    (∀ n, open_ n → (s.gr r).nat = true → stops n (natConsumption {})) ∧
    (∀ n, open_ n → (s.gr r).nat = false →
      (reserved n → stops n reservedRegisterField) ∧ (absent n → stops n (unimplementedData {})) ∧
      (¬ reserved n → ¬ absent n → s.psrBit Psr.vm = true → stops n virtualizationFault)) ∧
    (∀ n, open_ n ∨ n ∈ ([65, 68, 69, 70, 71] : List (BitVec 7)) → ¬ NoTarget s r → s.psrBit Psr.vm = true →
      Traps (.movFromCrM33 qp r n) s virtualizationFault)) ∧
  ∀ (s : State) (qp : BitVec 6) (r : BitVec 7), Privileged s qp →
    let v := (s.gr r).val
    let reads (n : BitVec 7) (x : Word) : Prop := WritesGr (.movFromCrM33 qp r n) s r ⟨x, false⟩
    let writes (n : BitVec 7) (u : CtlRegs) : Prop := Completes (.movToCrM32 qp r n) s { s with cr := u }
    let c := s.cr
    (s.badTarget r = false →
      reads 0 c.dcr ∧ reads 1 c.itm ∧ reads 2 c.iva ∧ reads 4 c.ito ∧ reads 8 c.pta ∧ reads 9 c.gpta ∧
      reads 64 c.lid ∧ reads 66 c.tpr ∧ reads 67 0 ∧ (∀ k : Fin 4, reads (68 + BitVec.ofNat 7 k.val) (fld c.irr (64 * k) 64)) ∧
      reads 72 c.itv ∧ reads 73 c.pmv ∧ reads 74 c.cmcv ∧
      (s.pal.features.getLsbD 37 = true → reads 80 0 ∧ reads 81 0) ∧
      (s.psrBit Psr.ic = false → reads 16 c.ipsr ∧ reads 17 c.isr ∧ reads 19 c.iip ∧ reads 20 c.ifa ∧ reads 21 c.itir ∧
        reads 22 c.iipa ∧ reads 23 c.ifs ∧ reads 24 c.iim ∧ reads 25 c.iha ∧ reads 26 c.iib0 ∧ reads 27 c.iib1) ∧
      (s.highestInterrupt = none → reads 65 15) ∧
      (∀ k, s.highestInterrupt = some k → ∃ t, exec (.movFromCrM33 qp r 65) s = .next t ∧ t.place = s.nextPlace ∧
        t.gr r = ⟨BitVec.ofNat 64 k, false⟩ ∧ SameGrBut r s t ∧ SameMemory s t ∧
        t.settled = (({ s with inService := setBit s.inService k true } : State).setGr r
          ⟨BitVec.ofNat 64 k, false⟩).settled ∧
        (∀ j, t.cr.irr.getLsbD j ≠ (setBit s.cr.irr k false).getLsbD j →
          s.pmc[0].getLsbD 0 = false ∧ c.pmv.getLsbD 16 = false ∧ j = (fld c.pmv 0 8 : BitVec 8).toNat))) ∧
    ((s.gr r).nat = false →
      writes 1 { c with itm := v } ∧ writes 2 { c with iva := v &&& 0xFFFFFFFFFFFF8000 } ∧ writes 4 { c with ito := v } ∧
      writes 8 { c with pta := v } ∧ writes 9 { c with gpta := v } ∧ writes 64 { c with lid := v &&& 0xFFFF0000 } ∧
      writes 66 { c with tpr := v &&& 0x100F0 } ∧ writes 72 { c with itv := v } ∧ writes 73 { c with pmv := v } ∧
      writes 74 { c with cmcv := v } ∧ (v &&& 0xFFFFFFFFFFFF80F8 = 0 → writes 0 { c with dcr := v }) ∧
      Completes (.movToCrM32 qp r 67) s s.endOfInterrupt ∧
      (s.pal.features.getLsbD 37 = true → lrrReserved v = false → writes 80 c ∧ writes 81 c) ∧
      (s.psrBit Psr.ic = false →
        (v &&& reservedPsr = 0 → writes 16 { c with ipsr := v }) ∧
        (v &&& 0xFFFFF000FF000000 = 0 → writes 17 { c with isr := v }) ∧ writes 19 { c with iip := v } ∧
        (unimplementedVa v false = false → writes 20 { c with ifa := v }) ∧
        (itirReserved v = false → writes 21 { c with itir := v }) ∧
        (∃ t, exec (.movToCrM32 qp r 22) s = .next t ∧ t.place = s.nextPlace ∧
          t.settled = ({ s with cr := { c with iipa := v } } : State).settled ∧ t.lastIp = v) ∧
        writes 23 { c with ifs := v } ∧ writes 24 { c with iim := v } ∧ writes 25 { c with iha := v } ∧
        writes 26 { c with iib0 := v } ∧ writes 27 { c with iib1 := v })) ∧
    (s.psrBit Psr.ic = true → ∀ n ∈ ([16, 17, 19, 20, 21, 22, 23, 24, 25, 26, 27] : List (BitVec 7)),
      Traps (.movFromCrM33 qp r n) s illegalOperation ∧ Traps (.movToCrM32 qp r n) s illegalOperation) ∧
    (∀ n ∈ ([65, 68, 69, 70, 71] : List (BitVec 7)), Traps (.movToCrM32 qp r n) s illegalOperation)

/-- Moves, sets and resets of PSR parts, and of a hint register, write exactly the bits their rules name, or fault (R682,
R683, R684, R685, R110, R111, R670, R1133, R1136, R1137, R17; derived). That sum and rum keep PSR.up under PSR.sp at level 0
too follows R684 against R111: log entry 38. That mov psr.l looks at the reserved bits above bit 46 of its source is the
parameter impl_check_mov_psr_l: log entry 5 (the model's choice). -/
def Obligations.StatusRegisterMoves : Prop :=
  (∀ (s : State) (qp : BitVec 6) (r : BitVec 7), s.prBit qp = true → NoTarget s r →
    Traps (.movFromPsrM36 qp r) s illegalOperation ∧ Traps (.movFromPsrUmM36 qp r) s illegalOperation) ∧
  (∀ (s : State) (qp : BitVec 6) (r : BitVec 7) (imm : BitVec 24), s.prBit qp = true →
    let v := (s.gr r).val
    let reserved : Prop := fld v 0 32 &&& Psr.reservedL ≠ 0 ∨ (fld v 47 17 : BitVec 17) ≠ 0
    (s.cpl = 0 →
      ((s.gr r).nat = true → Traps (.movToPsrLM35 qp r) s (natConsumption {})) ∧
      ((s.gr r).nat = false → reserved → Traps (.movToPsrLM35 qp r) s reservedRegisterField) ∧
      (s.psrBit Psr.vm = true →
        ((s.gr r).nat = false → ¬ reserved → Traps (.movToPsrLM35 qp r) s virtualizationFault) ∧
        (imm &&& Psr.reservedSm = 0 →
          Traps (.ssmM44 qp imm) s virtualizationFault ∧ Traps (.rsmM44 qp imm) s virtualizationFault) ∧
        (¬ NoTarget s r → Traps (.movFromPsrM36 qp r) s virtualizationFault))) ∧
    ((s.gr r).nat = true → Traps (.movToPsrUmM35 qp r) s (natConsumption {})) ∧
    ((s.gr r).nat = false → v &&& 0xFFFFFFFFFFFFFFC1 ≠ 0 → Traps (.movToPsrUmM35 qp r) s reservedRegisterField) ∧
    (imm &&& 0xFFFFC1 ≠ 0 →
      Traps (.sumM44 qp imm) s reservedRegisterField ∧ Traps (.rumM44 qp imm) s reservedRegisterField)) ∧
  ∀ (s : State) (qp : BitVec 6) (r : BitVec 7) (imm : BitVec 24) (k : BitVec 3) (imm16 : BitVec 16),
    s.prBit qp = true → s.psrBit Psr.ss = false →
    let psrBecomes (i : Instr) (bitAfter : Nat → Bool) : Prop :=
      ∃ w : Word, Completes i s { s with psr := w } ∧ ∀ j, j < 64 → w.getLsbD j = bitAfter j
    let userMask (new : Nat → Bool) (j : Nat) : Bool :=
      if 1 ≤ j ∧ j ≤ 5 ∧ (j = 2 → s.psrBit Psr.sp = false) then new j else s.psr.getLsbD j
    (s.cpl = 0 → s.psrBit Psr.vm = false →
      ((s.gr r).nat = false → fld (s.gr r).val 0 32 &&& Psr.reservedL = 0 →
        (fld (s.gr r).val 47 17 : BitVec 17) = 0 →
        psrBecomes (.movToPsrLM35 qp r) (fun j => if j < 32 then (s.gr r).val.getLsbD j else s.psr.getLsbD j)) ∧
      (imm &&& Psr.reservedSm = 0 →
        psrBecomes (.ssmM44 qp imm) (fun j => s.psr.getLsbD j || imm.getLsbD j) ∧
        psrBecomes (.rsmM44 qp imm) (fun j => s.psr.getLsbD j && !imm.getLsbD j)) ∧
      (imm &&& Psr.reservedSm ≠ 0 → Traps (.ssmM44 qp imm) s reservedRegisterField ∧
        Traps (.rsmM44 qp imm) s reservedRegisterField) ∧
      (s.badTarget r = false → WritesGr (.movFromPsrM36 qp r) s r ⟨s.psr &&& 0xFFFF901BFFFFFFFF, false⟩)) ∧
    ((s.gr r).nat = false → (s.gr r).val &&& 0xFFFFFFFFFFFFFFC1 = 0 →
      psrBecomes (.movToPsrUmM35 qp r) (userMask fun j => (s.gr r).val.getLsbD j)) ∧
    (imm &&& 0xFFFFC1 = 0 →
      psrBecomes (.sumM44 qp imm) (userMask fun j => s.psr.getLsbD j || imm.getLsbD j) ∧
      psrBecomes (.rumM44 qp imm) (userMask fun j => s.psr.getLsbD j && !imm.getLsbD j)) ∧
    (s.badTarget r = false → WritesGr (.movFromPsrUmM36 qp r) s r ⟨s.psr &&& 0x3F, false⟩) ∧
    Completes (.movToDahrImmM50 qp k imm16) s { s with dahr := s.dahr.set k.toFin (imm16 &&& 0x7FF) }

/-- mov to and from every indirect register file completes on an implemented index; a bad target, a NaT operand, a reserved
field and PSR.vm fault (R690, R691, R693, R112, R113, R114, R115, R117, R1081, R1133, R1137, R17; derived). The choices of
the model named here: that DBR, IBR and PKR store all 64 bits, log entry 26 (DEDUCED); that PMC0 to PMC3 are plain storage
while the generic ones keep their named fields alone, log entry 42; the place of d_to_pmd in the VPD, log entry 43. Which writes
take away the translation of the running stream: R692 and U14; the key clause needs the register written, before or after, to
hold the key of that translation. -/
def Obligations.IndirectRegistersMove : Prop :=
  (∀ (s : State) (qp : BitVec 6) (r r3 : BitVec 7), s.prBit qp = true →
    let free : List Instr := [.movFromCpuidM43 qp r r3, .movFromDahrM43 qp r r3, .movFromPmdM43 qp r r3]
    let privileged : List Instr := [.movFromRrM43 qp r r3, .movFromDbrM43 qp r r3, .movFromIbrM43 qp r r3,
      .movFromPkrM43 qp r r3, .movFromPmcM43 qp r r3]
    let writes : List Instr := [.movToRrM42 qp r r3, .movToDbrM42 qp r r3, .movToIbrM42 qp r r3, .movToPkrM42 qp r r3,
      .movToPmcM42 qp r r3, .movToPmdM42 qp r r3]
    let index : Nat := (s.gr r3).val.toNat % 256
    let v := (s.gr r).val
    let reserved : Prop := v.getLsbD 1 = true ∨ (fld v 32 32 : BitVec 32) ≠ 0 ∨
      Config.pageSizes.contains (fld v 2 6 : BitVec 6).toNat = false
    (NoTarget s r → ∀ i ∈ free ++ privileged, Traps i s illegalOperation) ∧
    (¬ NoTarget s r → (s.gr r3).nat = true →
      (∀ i ∈ free, Traps i s (natConsumption {})) ∧
      (s.cpl = 0 → ∀ i ∈ privileged, Traps i s (natConsumption {}))) ∧
    (s.cpl = 0 → (s.gr r).nat = true ∨ (s.gr r3).nat = true → ∀ i ∈ writes, Traps i s (natConsumption {})) ∧
    (s.cpl = 0 → (s.gr r).nat = false → (s.gr r3).nat = false → reserved →
      Traps (.movToRrM42 qp r r3) s reservedRegisterField) ∧
    (s.psrBit Psr.vm = true → (s.gr r3).nat = false →
      let virtual (i : Instr) : Prop := Traps i s virtualizationFault
      (¬ NoTarget s r →
        (index ≤ 4 → virtual (.movFromCpuidM43 qp r r3)) ∧
        (s.cpl = 0 → virtual (.movFromRrM43 qp r r3) ∧ virtual (.movFromPmcM43 qp r r3) ∧
          (index < 8 → virtual (.movFromDbrM43 qp r r3) ∧ virtual (.movFromIbrM43 qp r r3)) ∧
          (index < 16 → virtual (.movFromPkrM43 qp r r3)))) ∧
      (s.cpl = 0 → (s.gr r).nat = false →
        (¬ reserved → virtual (.movToRrM42 qp r r3)) ∧ virtual (.movToPmcM42 qp r r3) ∧
        (index < 8 → virtual (.movToDbrM42 qp r r3) ∧ virtual (.movToIbrM42 qp r r3)) ∧
        (index < 16 → virtual (.movToPkrM42 qp r r3)) ∧
        (s.vdcBit Config.dToPmdBit = false → virtual (.movToPmdM42 qp r r3))))) ∧
  ∀ (s : State) (qp : BitVec 6) (r r3 : BitVec 7), s.prBit qp = true → s.psrBit Psr.ss = false → (s.gr r3).nat = false →
    let index : Nat := (s.gr r3).val.toNat % 256
    let region : Fin 8 := (fld (s.gr r3).val 61 3 : BitVec 3).toFin
    let v := (s.gr r).val
    (s.badTarget r = false →
      let reads (i : Instr) (x : Word) : Prop := WritesGr i s r ⟨x, false⟩
      (index ≤ 4 → s.psrBit Psr.vm = false → reads (.movFromCpuidM43 qp r r3) (Config.cpuid index)) ∧
      (4 < index → Traps (.movFromCpuidM43 qp r r3) s reservedRegisterField) ∧
      (∀ k : Fin 8, k.val = index → reads (.movFromDahrM43 qp r r3) (s.dahr[k].zeroExtend 64)) ∧
      (8 ≤ index → Traps (.movFromDahrM43 qp r r3) s reservedRegisterField) ∧
      ((index < 4 ∨ Config.maxGeneric < index) ∨ (s.cpl ≠ 0 ∧ s.psrBit Psr.sp = true) → reads (.movFromPmdM43 qp r r3) 0) ∧
      (∀ k : Fin 256, k.val = index → 4 ≤ index → index ≤ Config.maxGeneric →
        (s.cpl ≠ 0 → s.pmc[k].getLsbD 6 = true → reads (.movFromPmdM43 qp r r3) 0) ∧
        (s.cpl = 0 ∨ (s.psrBit Psr.sp = false ∧ s.pmc[k].getLsbD 6 = false) →
          ((fld s.pmc[k] 0 4 : BitVec 4) ≠ 0 → reads (.movFromPmdM43 qp r r3) s.pmd[k]) ∧
          ((fld s.pmc[k] 0 4 : BitVec 4) = 0 → ∃ x : Word, x.toNat < 2 ^ Config.pmdWidth ∧
            reads (.movFromPmdM43 qp r r3) x))) ∧
      (s.cpl = 0 → s.psrBit Psr.vm = false →
        reads (.movFromRrM43 qp r r3) s.rr[region] ∧
        (∀ k : Fin 8, k.val = index → reads (.movFromDbrM43 qp r r3) s.dbr[k] ∧
          reads (.movFromIbrM43 qp r r3) s.ibr[k]) ∧
        (∀ k : Fin 256, k.val = index → index ≤ Config.maxGeneric → reads (.movFromPmcM43 qp r r3) s.pmc[k]) ∧
        (Config.maxGeneric < index → reads (.movFromPmcM43 qp r r3) 0) ∧
        (8 ≤ index → Traps (.movFromDbrM43 qp r r3) s reservedRegisterField ∧
          Traps (.movFromIbrM43 qp r r3) s reservedRegisterField) ∧
        (16 ≤ index → Traps (.movFromPkrM43 qp r r3) s reservedRegisterField) ∧
        (∀ k : Fin 16, k.val = index → reads (.movFromPkrM43 qp r r3) s.pkr[k]))) ∧
    (s.cpl = 0 → s.psrBit Psr.vm = false → (s.gr r).nat = false →
      (∀ k : Fin 8, k.val = index →
        Completes (.movToDbrM42 qp r r3) s { s with dbr := s.dbr.set k v } ∧
        Completes (.movToIbrM42 qp r r3) s { s with ibr := s.ibr.set k v }) ∧
      (∀ k : Fin 256, k.val = index → index ≤ Config.maxGeneric →
        (let w := s.pmc.set k (if k.val ≤ 3 then v else v &&& 0x000000070000FF7F)
          ∃ t, exec (.movToPmcM42 qp r r3) s = .next t ∧ t.place = s.nextPlace ∧
            t.settled = ({ s with pmc := w } : State).settled ∧ (w[0].getLsbD 0 = true → t.pmc = w)) ∧
        (∃ t, exec (.movToPmdM42 qp r r3) s = .next t ∧ t.place = s.nextPlace ∧ t.settled = s.settled ∧
          (s.pmc[0].getLsbD 0 = true →
            t.pmd = if k.val ≤ 3 then s.pmd else s.pmd.set k (BitVec.ofNat 64 (v.toNat % 2 ^ Config.pmdWidth))))) ∧
      (8 ≤ index → Traps (.movToDbrM42 qp r r3) s reservedRegisterField ∧
        Traps (.movToIbrM42 qp r r3) s reservedRegisterField) ∧
      (Config.maxGeneric < index → Completes (.movToPmcM42 qp r r3) s s ∧
        ∃ t, exec (.movToPmdM42 qp r r3) s = .next t ∧ t.place = s.nextPlace ∧ t.settled = s.settled ∧
          (s.pmc[0].getLsbD 0 = true → t.pmd = s.pmd)) ∧
      (v.getLsbD 1 = false → (fld v 32 32 : BitVec 32) = 0 → Config.pageSizes.contains (fld v 2 6 : BitVec 6).toNat = true →
        let running : Prop := s.psrBit Psr.it = true ∧ region = (fld s.ip 61 3 : BitVec 3).toFin
        (¬ running → Completes (.movToRrM42 qp r r3) s { s with rr := s.rr.set region v }) ∧
        (running → exec (.movToRrM42 qp r r3) s = .fault .undefinedBehavior)) ∧
      (v.getLsbD 1 = true → Traps (.movToRrM42 qp r r3) s reservedRegisterField) ∧
      (16 ≤ index → Traps (.movToPkrM42 qp r r3) s reservedRegisterField) ∧
      (∀ k : Fin 16, k.val = index →
        let holds (w : Word) (key : BitVec 24) : Prop := w.getLsbD 0 = true ∧ (fld w 8 24 : BitVec 24) = key
        let running : Prop := s.psrBit Psr.it = true ∧ s.psrBit Psr.pk = true ∧
          ∃ e, s.findInst s.ip = some e ∧ (holds s.pkr[k] e.key ∨ holds v e.key)
        (running → exec (.movToPkrM42 qp r r3) s = .fault .undefinedBehavior) ∧
        (¬ running → ∃ w, Completes (.movToPkrM42 qp r r3) s { s with pkr := w } ∧ w[k] = v ∧
          ∀ j : Fin 16, j ≠ k → ((v.getLsbD 0 = true ∧ holds s.pkr[j] (fld v 8 24) →
              w[j] = s.pkr[j] &&& 0xFFFFFFFFFFFFFFFE) ∧
            (¬ (v.getLsbD 0 = true ∧ holds s.pkr[j] (fld v 8 24)) → w[j] = s.pkr[j])))))

/-- itc and itr complete: the translation of r2, CR[ITIR], CR[IFA] and the region register is in the TLB, and itc's is one
that forward progress needs; with PSR.ic 1, a NaT operand or a reserved field they fault (R676, R677, R201, R202, R204, R205,
R208; derived). The address in CR[IFA] is checked by the mov to IFA and not by the inserts: log entry 5. That a translation
cache keeps its newest entries, N_ITC or N_DTC at most (R9, whatever they are), is log entry 19 (the model's choice). That the translation a slot held stays
as a cache entry, and that it is no overlap, is the choice of the model: log entry 54; that the Machine Check ends the run:
log entry 34. -/
def Obligations.InsertsMakeTranslations : Prop :=
  (∀ pte itir : Word,
    (itirReserved itir = true ↔ (fld itir 0 2 : BitVec 2) ≠ 0 ∨ (fld itir 32 32 : BitVec 32) ≠ 0 ∨
      (fld itir 2 6 : BitVec 6).toNat ∉ [12, 13, 14, 16, 18, 20, 22, 24, 26, 28]) ∧
    (tlbReserved pte itir = true ↔ itirReserved itir = true ∨ (pte.getLsbD 0 = true ∧ (pte.getLsbD 1 = true ∨
      (fld pte 50 2 : BitVec 2) ≠ 0 ∨ (fld pte 2 3 : BitVec 3) ∈ [(1 : BitVec 3), 2, 3])))) ∧
  (∀ (s : State) (qp : BitVec 6) (r2 r3 : BitVec 7), s.prBit qp = true →
    let caches : List Instr := [.itcDM41 qp r2, .itcIM41 qp r2]
    let registers : List Instr := [.itrDM42 qp r2 r3, .itrIM42 qp r2 r3]
    let reserved : Prop := tlbReserved (s.gr r2).val s.cr.itir = true
    (s.psrBit Psr.ic = true → ∀ i ∈ registers, Traps i s illegalOperation) ∧
    (s.psrBit Psr.ic = false → s.cpl = 0 →
      ((s.gr r2).nat = true ∨ (s.gr r3).nat = true → ∀ i ∈ registers, Traps i s (natConsumption {})) ∧
      ((s.gr r2).nat = false → (s.gr r3).nat = false → 8 ≤ (s.gr r3).val.toNat % 256 ∨ reserved →
        ∀ i ∈ registers, Traps i s reservedRegisterField)) ∧
    (s.followedByStop = true →
      (s.psrBit Psr.ic = true → ∀ i ∈ caches, Traps i s illegalOperation) ∧
      (s.psrBit Psr.ic = false → s.cpl = 0 →
        ((s.gr r2).nat = true → ∀ i ∈ caches, Traps i s (natConsumption {})) ∧
        ((s.gr r2).nat = false → reserved → ∀ i ∈ caches, Traps i s reservedRegisterField))) ∧
    (s.followedByStop = false → ∀ i ∈ caches, exec i s = .fault .undefinedBehavior)) ∧
  ∀ (s : State) (qp : BitVec 6) (r2 r3 : BitVec 7), Privileged s qp → s.psrBit Psr.ic = false →
    (s.gr r2).nat = false → tlbReserved (s.gr r2).val s.cr.itir = false →
    let rid : BitVec 24 := fld s.rr[(fld s.cr.ifa 61 3 : BitVec 3).toFin] 8 24
    let e : TlbEntry := pageEntry (s.gr r2).val s.cr.itir s.cr.ifa rid
    let page : Word := e.base.zeroExtend 64
    let purged (tc : List TlbEntry) : List TlbEntry := tc.filter fun x => !x.overlaps rid page e.ps
    (s.followedByStop = true →
      (trOverlap s.dtr rid page e.ps = false → Completes (.itcDM41 qp r2) s
        { s with dtc := (e :: purged s.dtc).take Config.nDtc }) ∧
      (trOverlap s.itr rid page e.ps = false → Completes (.itcIM41 qp r2) s
        { s with itc := (e :: purged s.itc).take Config.nItc }) ∧
      (∀ t, exec (.itcDM41 qp r2) s = .next t → (false, e) ∈ t.progress.required) ∧
      (∀ t, exec (.itcIM41 qp r2) s = .next t → (true, e) ∈ t.progress.required) ∧
      (trOverlap s.dtr rid page e.ps = true → exec (.itcDM41 qp r2) s = .fault .machineCheck) ∧
      (trOverlap s.itr rid page e.ps = true → exec (.itcIM41 qp r2) s = .fault .machineCheck)) ∧
    ((s.gr r3).nat = false → ∀ k : Fin 8, k.val = (s.gr r3).val.toNat % 256 →
      (trOverlap (s.dtr.set k none) rid page e.ps = true → exec (.itrDM42 qp r2 r3) s = .fault .machineCheck) ∧
      (trOverlap (s.itr.set k none) rid page e.ps = true → exec (.itrIM42 qp r2 r3) s = .fault .machineCheck) ∧
      (trOverlap (s.dtr.set k none) rid page e.ps = false → Completes (.itrDM42 qp r2 r3) s
        { s with dtr := s.dtr.set k (some e), dtc := (purged (s.dtr[k].toList ++ s.dtc)).take Config.nDtc }) ∧
      (trOverlap (s.itr.set k none) rid page e.ps = false → Completes (.itrIM42 qp r2 r3) s
        { s with itr := s.itr.set k (some e), itc := (purged (s.itr[k].toList ++ s.itc)).take Config.nItc }))

/-- ptc and ptr complete: overlapping translations removed, no other; a NaT operand, a reserved size and an unimplemented
address fault (R710, R711, R712, R713, R714, R715, R716, R209; derived). The extents of ptr and ptc.e are the choice of the
model: log entry 41; that the Machine Check ends the run: log entry 34. -/
def Obligations.PurgesRemoveTranslations : Prop :=
  (∀ (s : State) (qp : BitVec 6) (r2 r3 : BitVec 7), s.prBit qp = true → s.cpl = 0 →
    let faults (i : Instr) : Prop :=
      ((s.gr r2).nat = true ∨ (s.gr r3).nat = true → Traps i s (natConsumption {})) ∧
      ((s.gr r2).nat = false → (s.gr r3).nat = false →
        (itirReserved (s.gr r2).val = true → Traps i s reservedRegisterField) ∧
        (itirReserved (s.gr r2).val = false → unimplementedVa (s.gr r3).val (s.psrBit Psr.vm) = true →
          Traps i s (unimplementedData {})))
    ((s.gr r3).nat = true → Traps (.ptcEM47 qp r3) s (natConsumption {})) ∧ faults (.ptcLM45 qp r2 r3) ∧
      faults (.ptrDM45 qp r2 r3) ∧ faults (.ptrIM45 qp r2 r3) ∧
      (s.followedByStop = true → faults (.ptcGM45 qp r2 r3) ∧ faults (.ptcGaM45 qp r2 r3))) ∧
  ∀ (s : State) (qp : BitVec 6) (r2 r3 : BitVec 7), Privileged s qp → (s.gr r3).nat = false →
    Completes (.ptcEM47 qp r3) s { s with itc := [], dtc := [] } ∧
    ((s.gr r2).nat = false → itirReserved (s.gr r2).val = false → unimplementedVa (s.gr r3).val false = false →
      let va := (s.gr r3).val
      let ps : BitVec 6 := fld (s.gr r2).val 2 6
      let rid : BitVec 24 := fld s.rr[(fld va 61 3 : BitVec 3).toFin] 8 24
      let hit (e : TlbEntry) : Bool := e.overlaps rid va ps
      let trs := trOverlap s.itr rid va ps || trOverlap s.dtr rid va ps
      let running : Prop := s.psrBit Psr.it = true ∧ ∃ e, s.findInst s.ip = some e ∧ hit e = true
      let local_ : State := { s with itc := s.itc.filter (fun e => !hit e), dtc := s.dtc.filter (fun e => !hit e) }
      (trs = false → ¬ running → Completes (.ptcLM45 qp r2 r3) s local_ ∧
        (s.followedByStop = true → Completes (.ptcGM45 qp r2 r3) s local_ ∧
          Completes (.ptcGaM45 qp r2 r3) s { local_ with alat := [] })) ∧
      (∀ f ∈ ([(trs = true, Fault.machineCheck), (trs = false ∧ running, .undefinedBehavior)] : List (Prop × Fault)), f.1 →
        exec (.ptcLM45 qp r2 r3) s = .fault f.2 ∧
        (s.followedByStop = true → exec (.ptcGM45 qp r2 r3) s = .fault f.2 ∧ exec (.ptcGaM45 qp r2 r3) s = .fault f.2)) ∧
      (s.followedByStop = false → exec (.ptcGM45 qp r2 r3) s = .fault .undefinedBehavior ∧
        exec (.ptcGaM45 qp r2 r3) s = .fault .undefinedBehavior) ∧
      Completes (.ptrDM45 qp r2 r3) s
        { s with dtr := s.dtr.map (fun o => o.filter fun e => !hit e), dtc := s.dtc.filter (fun e => !hit e) } ∧
      (running → exec (.ptrIM45 qp r2 r3) s = .fault .undefinedBehavior) ∧
      (¬ running → Completes (.ptrIM45 qp r2 r3) s
        { s with itr := s.itr.map (fun o => o.filter fun e => !hit e), itc := s.itc.filter (fun e => !hit e) }))

/-- probe completes with 1 or 0 for what the rights and keys of the page grant, probe.fault with the fault or nothing; a bad
target and a NaT operand fault (R695, R696, R212, R236, R210, R220, R17, R1136; derived). That an unimplemented physical
address is answered with 0 and no fault is log entry 22 (DEDUCED); that a Machine Check stops the model is log entry 34. -/
def Obligations.ProbesReportAccess : Prop :=
  (∀ (s : State) (va : Word) (acc : Access) (pl : BitVec 2), s.psrBit Psr.dt = true →
    let r : Ref := { access := acc, size := 1, align := 1, pl }
    let answer := s.grantPermission va acc pl
    (unimplementedVa va (s.psrBit Psr.vm) = true → answer = .ok (false, none)) ∧
    (unimplementedVa va (s.psrBit Psr.vm) = false →
      (∀ x, s.DataMiss va r x → answer = .error ⟨x, none⟩) ∧
      ∀ (e : TlbEntry) (walked : Option TlbEntry), s.DataPage va e walked →
        (∀ x, s.PageFault va r e x → answer = .error ⟨x, walked⟩) ∧
        (s.PageUsable e → ∃ g : Bool, answer = .ok (g, walked) ∧ (¬ Grants e acc pl → g = false) ∧
          (s.KeysDeny e acc → g = false) ∧ (Grants e acc pl → s.KeysAllow e acc → g = true)))) ∧
  (∀ (s : State) (qp : BitVec 6) (r1 r2 r3 : BitVec 7) (imm : BitVec 2), s.prBit qp = true →
    let nat (w : Bool) : Interruption := natConsumption { r := !w, w, na := true, naCode := 2 }
    (NoTarget s r1 → ∀ i ∈ [Instr.probeRM39 qp r1 r3 imm, .probeWM39 qp r1 r3 imm, .probeRM38 qp r1 r2 r3,
      .probeWM38 qp r1 r2 r3], Traps i s illegalOperation) ∧
    (¬ NoTarget s r1 →
      ((s.gr r3).nat = true →
        Traps (.probeRM39 qp r1 r3 imm) s (nat false) ∧ Traps (.probeWM39 qp r1 r3 imm) s (nat true)) ∧
      ((s.gr r3).nat = true ∨ (s.gr r2).nat = true →
        Traps (.probeRM38 qp r1 r2 r3) s (nat false) ∧ Traps (.probeWM38 qp r1 r2 r3) s (nat true))) ∧
    ((s.gr r3).nat = true →
      Traps (.probeRFaultM40 qp r3 imm) s (natConsumption { r := true, na := true, naCode := 5 }) ∧
      Traps (.probeWFaultM40 qp r3 imm) s (natConsumption { w := true, na := true, naCode := 5 }) ∧
      Traps (.probeRwFaultM40 qp r3 imm) s (natConsumption { r := true, w := true, na := true, naCode := 5 }))) ∧
  ∀ (s : State) (qp : BitVec 6) (r1 r2 r3 : BitVec 7) (imm : BitVec 2), s.prBit qp = true →
    s.psrBit Psr.ss = false → (s.gr r3).nat = false →
    let va := (s.gr r3).val
    let level (v : BitVec 2) : BitVec 2 := if v < s.cpl then s.cpl else v
    let queries (i : Instr) (acc : Access) (pl : BitVec 2) : Prop :=
      (∀ g w, s.grantPermission va acc pl = .ok (g, w) → s.checkWalk false w ≠ .ok () →
        exec i s = .fault .machineCheck) ∧
      (∀ g w, s.grantPermission va acc pl = .ok (g, w) → s.checkWalk false w = .ok () →
        ∃ t, exec i s = .next t ∧ t.place = s.nextPlace ∧ t.gr r1 = ⟨if g then 1 else 0, false⟩ ∧ SameGrBut r1 s t ∧
          SameMemory s t ∧ t.settled = ((s.keepWalk w).setGr r1 ⟨if g then 1 else 0, false⟩).settled) ∧
      (∀ x, s.grantPermission va acc pl = .error x → TrapsAt i s x) ∧
      (s.psrBit Psr.dt = false → s.grantPermission va acc pl = .ok (!unimplementedPa va, none))
    let faults (i : Instr) (acc : Access) : Prop :=
      let r : Ref := { access := acc, size := 1, align := 1, pl := level imm }
      (∀ a, s.translate (s.psrBit Psr.dt) va r = .ok a →
        (s.checkWalk false a.walked = .ok () → Completes i s (s.keepWalk a.walked)) ∧
        (s.checkWalk false a.walked ≠ .ok () → exec i s = .fault .machineCheck)) ∧
      (∀ x, s.translate (s.psrBit Psr.dt) va r = .error x → TrapsAt i s x)
    let rd : Access := { r := true, na := true, naCode := 2 }
    let wr : Access := { w := true, na := true, naCode := 2 }
    (s.badTarget r1 = false → queries (.probeRM39 qp r1 r3 imm) rd (level imm) ∧
      queries (.probeWM39 qp r1 r3 imm) wr (level imm) ∧
      ((s.gr r2).nat = false →
        queries (.probeRM38 qp r1 r2 r3) rd (level (fld (s.gr r2).val 0 2)) ∧
        queries (.probeWM38 qp r1 r2 r3) wr (level (fld (s.gr r2).val 0 2)))) ∧
    faults (.probeRFaultM40 qp r3 imm) { r := true, na := true, naCode := 5 } ∧
    faults (.probeWFaultM40 qp r3 imm) { w := true, na := true, naCode := 5 } ∧
    faults (.probeRwFaultM40 qp r3 imm) { r := true, w := true, na := true, naCode := 5 }

/-- thash, ttag, tpa, tak, fc and fc.i complete with what the TLB, the hash and the keys say (R697, R698, R699, R211, R213,
R221, R720, R721, R17, R1137; derived): tpa gives the physical address of the page that the TLB or the walker finds; a bad
target, a NaT operand, an address that is not implemented or has no page, and PSR.vm fault as their rules say. The choices of
the model named here: log entries 21 and 53, and 34, that a Machine Check stops the model. -/
def Obligations.TranslationQueries : Prop :=
  (∀ (s : State) (va : Word) (acc : Access) (fc : Bool),
    let r : Ref := { access := acc, size := 1, align := 1, pl := s.cpl }
    let answer := s.translateNonaccess va acc fc
    (s.psrBit Psr.dt = false →
      answer = if unimplementedPa va then .error ⟨unimplementedData acc, none⟩
        else .ok ⟨va, if va.getLsbD 63 then 4 else 0, va, 1, none⟩) ∧
    (s.psrBit Psr.dt = true → unimplementedVa va (s.psrBit Psr.vm) = true →
      answer = .error ⟨unimplementedData acc, none⟩) ∧
    (s.psrBit Psr.dt = true → unimplementedVa va (s.psrBit Psr.vm) = false →
      (∀ x, s.DataMiss va r x → answer = .error ⟨x, none⟩) ∧
      ∀ (e : TlbEntry) (walked : Option TlbEntry), s.DataPage va e walked →
        (e.p = false → answer = .error ⟨refFault r va .pageNotPresent 0 (some e.itir) none, walked⟩) ∧
        (e.p = true → e.ma = 7 → answer = .error ⟨refFault r va .natConsumption 0x20 none none, walked⟩) ∧
        (e.p = true → e.ma ≠ 7 →
          (fc = true → ¬ Grants e { r := true } s.cpl →
            answer = .error ⟨refFault r va .dataAccessRights 0 (some e.itir) none, walked⟩) ∧
          (fc = false ∨ Grants e { r := true } s.cpl → answer = .ok ⟨e.physical va, e.ma, va, 1, walked⟩)))) ∧
  (∀ (s : State) (qp : BitVec 6) (r1 r3 : BitVec 7), s.prBit qp = true →
    let va := (s.gr r3).val
    let absent : Prop := if s.psrBit Psr.dt then unimplementedVa va (s.psrBit Psr.vm) = true else unimplementedPa va = true
    (NoTarget s r1 → ∀ i ∈ [Instr.thashM46 qp r1 r3, .ttagM46 qp r1 r3, .tpaM46 qp r1 r3, .takM46 qp r1 r3],
      Traps i s illegalOperation) ∧
    ((s.gr r3).nat = true → ∀ i ∈ [Instr.fcM28 qp r3, .fcIM28 qp r3],
      Traps i s (natConsumption { r := true, na := true, naCode := 1 })) ∧
    (¬ NoTarget s r1 →
      (s.psrBit Psr.vm = true → ∀ i ∈ [Instr.thashM46 qp r1 r3, .ttagM46 qp r1 r3], Traps i s virtualizationFault) ∧
      (s.psrBit Psr.vm = false → s.psrBit Psr.ss = false → (s.gr r3).nat = true ∨ unimplementedVa va false = true →
        ∀ i ∈ [Instr.thashM46 qp r1 r3, .ttagM46 qp r1 r3], ∃ x : Word, WritesGr i s r1 ⟨x, true⟩) ∧
      (s.cpl = 0 →
        ((s.gr r3).nat = true → Traps (.tpaM46 qp r1 r3) s (natConsumption { na := true, naCode := 0 }) ∧
          Traps (.takM46 qp r1 r3) s (natConsumption { na := true, naCode := 3 })) ∧
        ((s.gr r3).nat = false → absent → Traps (.tpaM46 qp r1 r3) s (unimplementedData { na := true, naCode := 0 })) ∧
        ((s.gr r3).nat = false → ¬ absent → s.psrBit Psr.vm = true → Traps (.tpaM46 qp r1 r3) s virtualizationFault) ∧
        ((s.gr r3).nat = false → s.psrBit Psr.vm = true → Traps (.takM46 qp r1 r3) s virtualizationFault)))) ∧
  ∀ (s : State) (qp : BitVec 6) (r1 r3 : BitVec 7), s.prBit qp = true → s.psrBit Psr.ss = false →
    (s.gr r3).nat = false →
    let va := (s.gr r3).val
    let walked (i : Instr) (w : Option TlbEntry) (v : Word) : Prop :=
      ∃ t, exec i s = .next t ∧ t.place = s.nextPlace ∧ t.gr r1 = ⟨v, false⟩ ∧ SameGrBut r1 s t ∧ SameMemory s t ∧
        t.settled = ((s.keepWalk w).setGr r1 ⟨v, false⟩).settled
    (s.badTarget r1 = false → s.psrBit Psr.vm = false →
      (unimplementedVa va false = false →
        WritesGr (.thashM46 qp r1 r3) s r1 ⟨s.vhptHash va, false⟩ ∧
        WritesGr (.ttagM46 qp r1 r3) s r1 ⟨s.vhptTag va, false⟩) ∧
      (s.cpl = 0 →
        let key : Word := match s.findData va with
          | some e => if e.p then e.key.zeroExtend 64 <<< 8 else 1
          | none => 1
        WritesGr (.takM46 qp r1 r3) s r1 ⟨if unimplementedVa va false then 1 else key, false⟩ ∧
        (s.unimplementedAddress va = false →
          (∀ a, s.translateNonaccess va { na := true, naCode := 0 } false = .ok a →
            (s.checkWalk false a.walked = .ok () → walked (.tpaM46 qp r1 r3) a.walked a.pa) ∧
            (s.checkWalk false a.walked ≠ .ok () → exec (.tpaM46 qp r1 r3) s = .fault .machineCheck)) ∧
          (∀ x, s.translateNonaccess va { na := true, naCode := 0 } false = .error x →
            TrapsAt (.tpaM46 qp r1 r3) s x)))) ∧
    (s.cr.pta.getLsbD 8 = false → 15 ≤ (fld s.cr.pta 2 6 : BitVec 6).toNat → ∀ k, 3 ≤ k →
      k < (fld s.cr.pta 2 6 : BitVec 6).toNat → k < 61 →
      (s.vhptHash va).getLsbD k =
        (decide (k - 3 + (fld s.rr[(fld va 61 3 : BitVec 3).toFin] 2 6 : BitVec 6).toNat < 61) &&
          va.getLsbD (k - 3 + (fld s.rr[(fld va 61 3 : BitVec 3).toFin] 2 6 : BitVec 6).toNat))) ∧
    (∀ i ∈ [Instr.fcM28 qp r3, .fcIM28 qp r3],
      (∀ a, s.translateNonaccess va { r := true, na := true, naCode := 1 } true = .ok a →
        (s.checkWalk false a.walked = .ok () → Completes i s (s.keepWalk a.walked)) ∧
        (s.checkWalk false a.walked ≠ .ok () → exec i s = .fault .machineCheck)) ∧
      (∀ x, s.translateNonaccess va { r := true, na := true, naCode := 1 } true = .error x → TrapsAt i s x))

namespace Sys2Proof.Machine

/-- The word `j` places above the backing store address `a` (R127). -/
def bsWord (a : Word) (j : Nat) : Word := a + BitVec.ofNat 64 (8 * j)

/-- Bit `b` of a NaT collection that was `old`, once the `n` words from `a` up are stored: the NaT bit of the register stored
last at slot `b` (R137). -/
def State.natStored (s : State) (a old : Word) (n b : Nat) : Bool :=
  let back := if b < bsSlot (bsWord a n) then bsSlot (bsWord a n) - b else bsSlot (bsWord a n) + 64 - b
  if b < 63 ∧ back ≤ n then s.grStacked[s.physAt (bsWord a (n - back))].nat else old.getLsbD b

/-- `s` after the references `a j`, `j < n`: what each leaves besides its own effect (R208, R1101). -/
def State.touches (s : State) (a : Nat → Translation) (n : Nat) : State :=
  (List.range n).foldl (fun w j => w.touch (a j)) s

/-- The `n` words from AR[BSPSTORE] up are translated to `a j` by the TLB, the pages different, the interrupt block not
touched (R137). -/
def StackReaches (s : State) (n : Nat) (a : Nat → Translation) : Prop :=
  n ≤ 98 ∧ Memory.wf s.mem = true ∧
    (∀ j, j < n → s.translate (s.psrBit Psr.rt) (bsWord s.ar.bspstore j) (s.rseRef true false) = .ok (a j) ∧
      (a j).walked = none ∧ s.blockOffset (a j).pa = none) ∧
    ∀ i j, i < j → j < n →
      physAddr (a i).pa + 8 ≤ physAddr (a j).pa ∨ physAddr (a j).pa + 8 ≤ physAddr (a i).pa

/-- What the mandatory stores of these words leave in `t` (R137): the words in memory, no other byte changed; the ALAT entries
that do not overlap them; the NaT bits collected in AR[RNAT]. -/
def StackStored (s t : State) (n : Nat) (a : Nat → Translation) : Prop :=
  let at_ := bsWord s.ar.bspstore
  (∀ j, j < n → ∃ v : Word, Stored t (a j).pa 8 s.rscBe v ∧
    (bsSlot (at_ j) ≠ 63 → v = s.grStacked[s.physAt (at_ j)].val) ∧
    (bsSlot (at_ j) = 63 → ∀ b, b < 64 → v.getLsbD b = s.natStored s.ar.bspstore s.ar.rnat j b)) ∧
  (∀ x, (∀ j, j < n → x < physAddr (a j).pa ∨ physAddr (a j).pa + 8 ≤ x) → t.byteAt x = s.byteAt x) ∧
  (∀ e, e ∈ t.alat ↔ e ∈ s.alat ∧ ∀ j, j < n →
    physAddr e.paddr + e.size ≤ physAddr (a j).pa ∨ physAddr (a j).pa + 8 ≤ physAddr e.paddr) ∧
  ∀ b, b < 64 → t.ar.rnat.getLsbD b = s.natStored s.ar.bspstore s.ar.rnat n b

/-- The dispersal register after these stores (log entry 16): of the group that is next to be loaded from, the NaT bits of the
registers stored; the other bits as they were. -/
def Dispersed (s : State) (d : Word) (n : Nat) : Prop :=
  let at_ := bsWord s.ar.bspstore
  let open_ (j : Nat) : Prop := bsSlot (at_ j) ≠ 63 ∧ collectionOf (at_ j) = collectionOf (s.rse.bspLoad - 8)
  (∀ j, j < n → open_ j → d.getLsbD (bsSlot (at_ j)) = s.grStacked[s.physAt (at_ j)].nat) ∧
    ∀ b, b < 64 → (∀ j, j < n → open_ j → bsSlot (at_ j) ≠ b) → d.getLsbD b = s.rse.dispersal.getLsbD b

/-- RSE.ndirty once the `n` words from AR[BSPSTORE] up are stored (R127). -/
def State.dirtyAfter (s : State) (n : Nat) : Nat :=
  ({ s with ar := { s.ar with bspstore := bsWord s.ar.bspstore n } } : State).ndirty

end Sys2Proof.Machine

/-- alloc completes: PFS in r1, the frame marker resized, the registers of the old frame kept, as many dirty registers stored
as the new frame needs (R829, R137, R138, R53, R17, R264; derived). That an alloc which begins no instruction group is
undefined, and stops the model, is U5: log entry 11. The choices of the model named here besides: log entry 16 (the dispersal
register, that the clean registers go all at once), and log entry 15 (DEDUCED; D42): the Illegal Operation and Reserved
Register/Field faults are taken whatever PR[qp] is. -/
def Obligations.AllocResizesTheFrame : Prop :=
  ∀ (s : State) (qp : BitVec 6) (r1 : BitVec 7) (sor : BitVec 4) (sol sof : BitVec 7),
    (s.firstInGroup = false → exec (.allocM34 qp r1 sor sol sof) s = .fault .undefinedBehavior) ∧ (s.firstInGroup = true →
    let legal : Prop := sof.toNat ≤ 96 ∧ sol.toNat ≤ sof.toNat ∧ 8 * sor.toNat ≤ sof.toNat
    let target : Prop := r1 ≠ 0 ∧ r1.toNat < 32 + sof.toNat
    let keeps : Prop := sor = s.cfm.sor ∨ s.cfm.rrbGr = 0 ∧ s.cfm.rrbFr = 0 ∧ s.cfm.rrbPr = 0
    (legal → target → s.frameOk = true → s.prBit qp = true → s.psrBit Psr.ss = false → keeps →
      ∀ u, s.rseNewFrame sof = .ok u →
      ∃ t, exec (.allocM34 qp r1 sor sol sof) s = .next t ∧ t.place = s.nextPlace ∧
        t.cfm = { s.cfm with sof := sof, sol := sol, sor := sor } ∧ t.gr r1 = ⟨s.ar.pfs, false⟩ ∧ t.pr = s.pr ∧
        (∀ r : BitVec 7, r.toNat < 32 → r ≠ r1 → t.gr r = s.gr r) ∧ t.fr = s.fr ∧
        (sor = s.cfm.sor → ∀ r : BitVec 7, r.toNat < 32 + min s.cfm.sof.toNat sof.toNat → r ≠ r1 →
          t.gr r = s.gr r) ∧
        t.settled = ((({ u with cfm := { s.cfm with sof := sof, sol := sol, sor := sor } } : State).alatPrune).setGr r1
          ⟨s.ar.pfs, false⟩).settled) ∧
    (s.ndirty ≤ 96 - sof.toNat → ∃ u, s.rseNewFrame sof = .ok u ∧ u.mem = s.mem ∧ u.ar = s.ar ∧
      (s.frameOk = true → ∀ i : Fin 96, (i.val + 96 - s.rse.bof.val) % 96 < s.cfm.sof.toNat →
        u.grStacked[i] = s.grStacked[i])) ∧
    (∀ n a, StackReaches s n a → s.dirtyAfter n ≤ 96 - sof.toNat → (∀ m < n, 96 - sof.toNat < s.dirtyAfter m) →
      ∃ u d, s.rseNewFrame sof = .ok u ∧ StackStored s u n a ∧ Dispersed s d n ∧
        (if sof.toNat + s.dirtyAfter n + regsBetween s.rse.bspLoad u.ar.bspstore ≤ 96 then
          u.rse.bspLoad = s.rse.bspLoad ∧ u.rse.dispersal = d
        else u.rse.bspLoad = u.ar.bspstore ∧ u.rse.dispersal =
          if collectionOf (s.rse.bspLoad - 8) = collectionOf u.ar.bspstore then d else u.ar.rnat) ∧
        (∀ i : Fin 96, (i.val + 96 - s.rse.bof.val) % 96 < s.cfm.sof.toNat ∨
          sof.toNat ≤ (i.val + 96 - s.rse.bof.val) % 96 → u.grStacked[i] = s.grStacked[i]) ∧
        u = { s.touches a n with
          mem := u.mem, alat := u.alat, grStacked := u.grStacked
          ar := { s.ar with bspstore := bsWord s.ar.bspstore n, rnat := u.ar.rnat }
          rse := { s.rse with bspLoad := u.rse.bspLoad, dispersal := u.rse.dispersal } }) ∧
    (legal → target → keeps → s.prBit qp = true →
      (∀ u x, s.rseNewFrame sof = .error (.interruptAt u x) →
        exec (.allocM34 qp r1 sor sol sof) s = .next (deliver x u)) ∧
      (∀ f, s.rseNewFrame sof = .error (.stuck f) → exec (.allocM34 qp r1 sor sol sof) s = .fault f)) ∧
    (¬ legal ∨ ¬ target → Traps (.allocM34 qp r1 sor sol sof) s illegalOperation) ∧
    (legal → target → ¬ keeps → Traps (.allocM34 qp r1 sor sol sof) s reservedRegisterField))

namespace Sys2Proof.Machine

/-- The `j`-th word that `loadrs` loads, counted down from RSE.BspLoad (R136). -/
def State.loadWord (s : State) (j : Nat) : Word := s.rse.bspLoad - BitVec.ofNat 64 (8 * (j + 1))

/-- `loadrs` finds the `m` words from RSE.BspLoad down to `target` translated to `a j` by the TLB, the interrupt block not
touched, and the word there is `w j` (R136). -/
def LoadReaches (s : State) (target : Word) (m : Nat) (a : Nat → Translation) (w : Nat → Word) : Prop :=
  (bsBelow target s.rse.bspLoad = true ∧ (s.ar.bsp - s.rse.bspLoad).toNat + 8 * m = (s.ar.bsp - target).toNat ∨
    bsBelow target s.rse.bspLoad = false ∧ m = 0) ∧
    ∀ j, j < m → s.translate (s.psrBit Psr.rt) (s.loadWord j) (s.rseRef false false) = .ok (a j) ∧
      (a j).walked = none ∧ s.blockOffset (a j).pa = none ∧ HoldsBytes (w j) 8 s.rscBe (bytesFrom s (a j).pa)

end Sys2Proof.Machine

/-- flushrs stores every dirty register and NaT collection, loadrs loads every register and collection it must (R705,
R706, R127, R135, R136, R137, R264; derived). The choices of the model named here: log entries 16 (the dispersal
register), 17 (the limit beside the frame), and 11 (U5: either of them that begins
no instruction group is undefined, and stops the model). -/
def Obligations.RegisterStackTraffic : Prop :=
  ∀ s : State, s.psrBit Psr.ss = false →
    (s.firstInGroup = false → exec .flushrsM25 s = .fault .undefinedBehavior ∧
      exec .loadrsM25 s = .fault .undefinedBehavior) ∧
    (s.firstInGroup = true →
      (∀ n a, s.ar.bsp = bsWord s.ar.bspstore n → StackReaches s n a →
        ∃ t, exec .flushrsM25 s = .next t ∧ t.place = s.nextPlace ∧ t.ar.bspstore = s.ar.bsp ∧
          StackStored s t n a ∧ Dispersed s t.rse.dispersal n ∧ t.rse.bspLoad = s.rse.bspLoad ∧
          t.settled = ({ s.touches a n with
            mem := t.mem, alat := t.alat, ar := { s.ar with bspstore := s.ar.bsp, rnat := t.ar.rnat }
            rse := { s.rse with dispersal := t.rse.dispersal } } : State).settled) ∧
      (bsBelow s.ar.bspstore s.ar.bsp = false → Completes .flushrsM25 s s) ∧
      (bsBelow s.ar.bspstore s.ar.bsp = true → ∀ x,
        s.translate (s.psrBit Psr.rt) s.ar.bspstore (s.rseRef true false) = .error x → TrapsAt .flushrsM25 s x) ∧
      (∀ u x, s.flushRse = .error (.interruptAt u x) → exec .flushrsM25 s = .next (deliver x u)) ∧
      (s.rscMode ≠ 0 → Traps .loadrsM25 s illegalOperation) ∧
      (s.rscMode = 0 →
        let target : Word := (s.ar.bsp - (fld s.ar.rsc 16 14 : BitVec 14).zeroExtend 64) &&& 0xFFFFFFFFFFFFFFF8
        let fits : Prop := s.cfm.sof.toNat + regsBetween target s.ar.bsp ≤ 96
        (¬ fits → Traps .loadrsM25 s illegalOperation) ∧
        (fits → s.rse.cfle = false →
          (∀ m a w, LoadReaches s target m a w →
            ∃ t, exec .loadrsM25 s = .next t ∧ t.place = s.nextPlace ∧ SameMemory s t ∧
              (∀ j, j < m → bsSlot (s.loadWord j) ≠ 63 →
                let up := 63 - bsSlot (s.loadWord j)
                t.grStacked[s.physAt (s.loadWord j)] = ⟨w j,
                  (if up ≤ j then w (j - up) else s.rse.dispersal).getLsbD (bsSlot (s.loadWord j))⟩) ∧
              (∀ k : Fin 96, (∀ j, j < m → bsSlot (s.loadWord j) ≠ 63 → k ≠ s.physAt (s.loadWord j)) →
                t.grStacked[k] = s.grStacked[k]) ∧
              ((∀ j, j < m → bsSlot (s.loadWord j) ≠ 63) → t.rse.dispersal = s.rse.dispersal) ∧
              (∀ j, j < m → bsSlot (s.loadWord j) = 63 → (∀ i, j < i → i < m → bsSlot (s.loadWord i) ≠ 63) →
                t.rse.dispersal = (w j &&& 0x7FFFFFFFFFFFFFFF)) ∧
              t.settled = ({ s.touches a m with
                grStacked := t.grStacked, ar := { s.ar with bspstore := target, rnat := t.ar.rnat }
                rse := { s.rse with bspLoad := target, dispersal := t.rse.dispersal } } : State).settled) ∧
          (bsBelow target s.rse.bspLoad = true → ∀ x,
            s.translate (s.psrBit Psr.rt) (s.loadWord 0) (s.rseRef false false) = .error x →
              TrapsAt .loadrsM25 s x) ∧
          (∀ u x, s.ensureLoaded = .error (.interruptAt u x) → exec .loadrsM25 s = .next (deliver x u)))))

/-- Every privileged instruction takes the Privileged Operation fault above level 0 (R1190, R1131; derived), and the inserts,
purges and rfi the Virtualization fault under PSR.vm at level 0 (R1137); of the others statements of their own say that. -/
def Obligations.PrivilegedInstructionsTrap : Prop :=
  (∀ (s : State) (qp : BitVec 6) (r2 r3 : BitVec 7), s.prBit qp = true → s.cpl = 0 → s.psrBit Psr.vm = true →
    let virtual (i : Instr) : Prop := Traps i s virtualizationFault
    (s.followedByStop = true → virtual .rfiB8) ∧
    ((s.gr r3).nat = false → virtual (.ptcEM47 qp r3)) ∧
    (s.psrBit Psr.ic = false → (s.gr r2).nat = false → tlbReserved (s.gr r2).val s.cr.itir = false →
      (s.followedByStop = true → virtual (.itcDM41 qp r2) ∧ virtual (.itcIM41 qp r2)) ∧
      ((s.gr r3).nat = false → (s.gr r3).val.toNat % 256 < 8 →
        virtual (.itrDM42 qp r2 r3) ∧ virtual (.itrIM42 qp r2 r3))) ∧
    ((s.gr r2).nat = false → (s.gr r3).nat = false → itirReserved (s.gr r2).val = false →
      unimplementedVa (s.gr r3).val true = false →
      virtual (.ptcLM45 qp r2 r3) ∧ virtual (.ptrDM45 qp r2 r3) ∧ virtual (.ptrIM45 qp r2 r3) ∧
        (s.followedByStop = true → virtual (.ptcGM45 qp r2 r3) ∧ virtual (.ptcGaM45 qp r2 r3)))) ∧
  ∀ (s : State) (qp : BitVec 6) (r r3 : BitVec 7) (imm : BitVec 24), s.prBit qp = true → s.cpl ≠ 0 →
    let traps (i : Instr) : Prop := Traps i s (privilegedOperation {})
    (∀ i ∈ [Instr.movToPsrLM35 qp r, .ssmM44 qp imm, .rsmM44 qp imm, .movToRrM42 qp r r3, .movToDbrM42 qp r r3,
      .movToIbrM42 qp r r3, .movToPkrM42 qp r r3, .movToPmcM42 qp r r3, .movToPmdM42 qp r r3, .ptcLM45 qp r r3,
      .ptcEM47 qp r3, .ptrDM45 qp r r3, .ptrIM45 qp r r3, .vmsw0B8, .vmsw1B8], traps i) ∧
    (s.badTarget r = false →
      (∀ i ∈ [Instr.movFromRrM43 qp r r3, .movFromDbrM43 qp r r3, .movFromIbrM43 qp r r3, .movFromPkrM43 qp r r3,
        .movFromPmcM43 qp r r3, .movFromPsrM36 qp r], traps i) ∧
      Traps (.tpaM46 qp r r3) s { vector := .generalException, code := 0x10, access := { na := true, naCode := 0 } } ∧
      Traps (.takM46 qp r r3) s { vector := .generalException, code := 0x13, access := { na := true, naCode := 3 } } ∧
      ∀ c : BitVec 7, crOf c ≠ .reserved → (s.psrBit Psr.ic = true → (crOf c).isInterruption = false) →
        traps (.movFromCrM33 qp r c)) ∧
    (∀ c : BitVec 7, crOf c ≠ .reserved → (crOf c).readOnly = false →
      (s.psrBit Psr.ic = true → (crOf c).isInterruption = false) → traps (.movToCrM32 qp r c)) ∧
    (s.psrBit Psr.ic = false → traps (.itrDM42 qp r r3) ∧ traps (.itrIM42 qp r r3) ∧
      (s.followedByStop = true → traps (.itcDM41 qp r) ∧ traps (.itcIM41 qp r))) ∧
    (s.followedByStop = true → traps (.ptcGM45 qp r r3) ∧ traps (.ptcGaM45 qp r r3) ∧ traps .bsw0B8 ∧ traps .bsw1B8 ∧
      traps .rfiB8)

namespace Sys2Proof.Machine

/-! ### Floating point -/

/-- `op f1 = f2, f3`. -/
abbrev FormFFF := BitVec 6 → BitVec 7 → BitVec 7 → BitVec 7 → Instr
/-- `op.sf f1 = f2, f3`. -/
abbrev FormFFFsf := BitVec 6 → BitVec 7 → BitVec 7 → BitVec 7 → BitVec 2 → Instr
/-- `op.sf f1 = f3, f4, f2`. -/
abbrev FormFma := BitVec 6 → BitVec 7 → BitVec 7 → BitVec 7 → BitVec 7 → BitVec 2 → Instr
/-- `op.sf f1 = f2`. -/
abbrev FormFFsf := BitVec 6 → BitVec 7 → BitVec 7 → BitVec 2 → Instr
/-- `fcmp.sf p1, p2 = f2, f3`. -/
abbrev FormFcmp := BitVec 6 → BitVec 6 → BitVec 6 → BitVec 7 → BitVec 7 → BitVec 2 → Instr

/-- A floating-point instruction may run: PR[qp] is 1, its registers' partitions are enabled (R72), no trap follows. -/
def FpReady (s : State) (qp : BitVec 6) (regs : List (BitVec 7)) : Prop :=
  s.prBit qp = true ∧ s.psrBit Psr.ss = false ∧ s.disabledCode regs = 0

/-- `s` with the flags `x` accumulated in status field `sf` (R921). -/
def withFlags (s : State) (sf : BitVec 2) (x : FpFlags) : State :=
  { s with ar := { s.ar with fpsr := setFpsrFlags s.ar.fpsr sf (fpsrFlags s.ar.fpsr sf ||| x.toBits) } }

/-- A NaTVal among the sources (R925). -/
def natSource (s : State) (srcs : List (BitVec 7)) : Prop := ∃ f ∈ srcs, s.fpr f = ⟨false, 0x1FFFE, 0⟩

/-- An arithmetic instruction whose outcome is the value `v` with the flags `x`, seen with the disables `dis`, and the
fault and trap codes its conditions make (R924, R925): a NaTVal source gives NaTVal and nothing else; an enabled fault is
taken with nothing written; else value and flags are written, and an enabled trap is taken after them. -/
def Arithmetic (i : Instr) (s : State) (f1 : BitVec 7) (srcs : List (BitVec 7)) (sf : BitVec 2) (v : Fr) (x : FpFlags)
    (fault : BitVec 8) (trap : Option (BitVec 16)) : Prop :=
  (natSource s srcs → WritesFr i s s f1 ⟨false, 0x1FFFE, 0⟩) ∧
    (¬ natSource s srcs →
      (fault ≠ 0 → Traps i s { vector := .floatingPointFault, code := fault.zeroExtend 16 }) ∧
      (fault = 0 → trap = none → WritesFr i s (withFlags s sf x) f1 v) ∧
      (fault = 0 → ∀ c, trap = some c → ∃ t u, exec i s = .next t ∧
        t = deliver { kind := .trap, vector := .floatingPointTrap, code := c, ei := some s.ri } u ∧
        u.place = s.nextPlace ∧ u.settled = ((withFlags s sf x).setFpr f1 v).settled))

/-- One result (R930). -/
def Scalar (i : Instr) (s : State) (f1 : BitVec 7) (srcs : List (BitVec 7)) (sf : BitVec 2) (r : FpHalf Fr) : Prop :=
  let dis := s.fpDisables sf
  Arithmetic i s f1 srcs sf r.val r.flags ((faultBits dis r.flags).zeroExtend 8)
    (fpTrapCode (trapBits dis r.flags r.fpa) 0)

/-- Two results, each 32 bits of the significand (R933). -/
def Parallel (i : Instr) (s : State) (f1 : BitVec 7) (srcs : List (BitVec 7)) (sf : BitVec 2)
    (hi lo : FpHalf (BitVec 32)) : Prop :=
  let dis := s.fpDisables sf
  Arithmetic i s f1 srcs sf ⟨false, 0x1003E, hi.val ++ lo.val⟩ (hi.flags.or lo.flags)
    (faultBits dis hi.flags ++ faultBits dis lo.flags)
    (fpTrapCode (trapBits dis lo.flags lo.fpa) (trapBits dis hi.flags hi.fpa))

/-- The multiply-adds: signs, precision completer (R930 to R932). -/
noncomputable def fmaForms : List (FormFma × FmaKind × FpPc) :=
  [(Instr.fmaF1, .fma, .none), (Instr.fmaSF1, .fma, .s), (Instr.fmaDF1, .fma, .d), (Instr.fmsF1, .fms, .none),
    (Instr.fmsSF1, .fms, .s), (Instr.fmsDF1, .fms, .d), (Instr.fnmaF1, .fnma, .none), (Instr.fnmaSF1, .fnma, .s),
    (Instr.fnmaDF1, .fnma, .d)]

/-- The parallel multiply-adds (R933). -/
noncomputable def parallelFmaForms : List (FormFma × FmaKind) :=
  [(Instr.fpmaF1, .fma), (Instr.fpmsF1, .fms), (Instr.fpnmaF1, .fnma)]

/-- Minimum and maximum (R944). -/
noncomputable def minMaxForms : List (FormFFFsf × MinMax) :=
  [(Instr.fminF8, .min), (Instr.fmaxF8, .max), (Instr.faminF8, .amin), (Instr.famaxF8, .amax)]

/-- Parallel minimum and maximum (R945). -/
noncomputable def parallelMinMaxForms : List (FormFFFsf × MinMax) :=
  [(Instr.fpminF8, .min), (Instr.fpmaxF8, .max), (Instr.fpaminF8, .amin), (Instr.fpamaxF8, .amax)]

/-- Parallel compares (R946). -/
noncomputable def parallelCompareForms : List (FormFFFsf × FpRel) :=
  [(Instr.fpcmpEqF8, .eq), (Instr.fpcmpLtF8, .lt), (Instr.fpcmpLeF8, .le), (Instr.fpcmpUnordF8, .unord),
    (Instr.fpcmpNeqF8, .neq), (Instr.fpcmpNltF8, .nlt), (Instr.fpcmpNleF8, .nle), (Instr.fpcmpOrdF8, .ord)]

/-- Conversions to integer: signed, truncating (R954, R955). -/
noncomputable def toIntegerForms : List (FormFFsf × Bool × Bool) :=
  [(Instr.fcvtFxF10, true, false), (Instr.fcvtFxuF10, false, false), (Instr.fcvtFxTruncF10, true, true),
    (Instr.fcvtFxuTruncF10, false, true)]

/-- Parallel conversions to integer (R956). -/
noncomputable def parallelToIntegerForms : List (FormFFsf × Bool × Bool) :=
  [(Instr.fpcvtFxF10, true, false), (Instr.fpcvtFxuF10, false, false), (Instr.fpcvtFxTruncF10, true, true),
    (Instr.fpcvtFxuTruncF10, false, true)]

/-- Floating-point compares (R938). -/
noncomputable def fcmpForms : List (FormFcmp × FpRel) :=
  [(Instr.fcmpEqF4, .eq), (Instr.fcmpEqUncF4, .eq), (Instr.fcmpLtF4, .lt), (Instr.fcmpLtUncF4, .lt),
    (Instr.fcmpLeF4, .le), (Instr.fcmpLeUncF4, .le), (Instr.fcmpUnordF4, .unord), (Instr.fcmpUnordUncF4, .unord)]

end Sys2Proof.Machine

/-- Every instruction of F1, F8 and F10 completes, or takes the fault or trap its conditions enable (R924, R925, R930,
R931, R932, R933, R944, R945, R946, R954, R955, R956; derived). The value of a parallel half whose O or U trap is
enabled is the choice of the model, log entry 45; Invalid before Denormal, tininess after rounding and when U is set
are log entry 28 (DEDUCED). FR0 or FR1 as f1, and a disabled partition, fault (R17, R72). -/
def Obligations.FpArithmeticCompletes : Prop :=
  (∀ (s : State) (qp : BitVec 6) (f1 f2 f3 f4 : BitVec 7) (sf : BitVec 2), s.prBit qp = true →
    (∀ g ∈ fmaForms, FpStops (g.1 qp f1 f2 f3 f4 sf) s f1 [f1, f2, f3, f4]) ∧
    (∀ g ∈ parallelFmaForms, FpStops (g.1 qp f1 f2 f3 f4 sf) s f1 [f1, f2, f3, f4]) ∧
    (∀ g ∈ minMaxForms ++ parallelMinMaxForms, FpStops (g.1 qp f1 f2 f3 sf) s f1 [f1, f2, f3]) ∧
    (∀ g ∈ parallelCompareForms, FpStops (g.1 qp f1 f2 f3 sf) s f1 [f1, f2, f3]) ∧
    (∀ g ∈ toIntegerForms ++ parallelToIntegerForms, FpStops (g.1 qp f1 f2 sf) s f1 [f1, f2])) ∧
  ∀ (s : State) (qp : BitVec 6) (f1 f2 f3 f4 : BitVec 7) (sf : BitVec 2), f1 ≠ 0 → f1 ≠ 1 →
    let c := s.fpControls sf
    let dis := s.fpDisables sf
    let rc (trunc : Bool) : BitVec 2 := if trunc then 3 else c.rc
    let addend : Option Fr := if f2 = 0 then none else some (s.fpr f2)
    let lo (f : BitVec 7) : BitVec 32 := (s.fpr f).sig.truncate 32
    let hi (f : BitVec 7) : BitVec 32 := fld (s.fpr f).sig 32 32
    let single (part : BitVec 7 → BitVec 32) (f : BitVec 7) : Fr := frOfSingle (part f)
    (FpReady s qp [f1, f2, f3, f4] →
      (∀ g ∈ fmaForms, Scalar (g.1 qp f1 f2 f3 f4 sf) s f1 [f2, f3, f4] sf
        (fmaHalf g.2.1 c dis (fpRange g.2.2 c) (s.fpr f3) (s.fpr f4) addend)) ∧
      (∀ g ∈ parallelFmaForms,
        let half (part : BitVec 7 → BitVec 32) : FpHalf (BitVec 32) :=
          (fmaHalf g.2 c dis singleRange (single part f3) (single part f4)
            (if f2 = 0 then none else some (single part f2))).single
        Parallel (g.1 qp f1 f2 f3 f4 sf) s f1 [f2, f3, f4] sf (half hi) (half lo))) ∧
    (FpReady s qp [f1, f2, f3] →
      (∀ g ∈ minMaxForms, Scalar (g.1 qp f1 f2 f3 sf) s f1 [f2, f3] sf (g.2.half (s.fpr f2) (s.fpr f3))) ∧
      (∀ g ∈ parallelMinMaxForms,
        let half (part : BitVec 7 → BitVec 32) : FpHalf (BitVec 32) :=
          { flags := (g.2.half (single part f2) (single part f3)).flags
            val := if g.2.first (single part f2) (single part f3) then part f2 else part f3 }
        Parallel (g.1 qp f1 f2 f3 sf) s f1 [f2, f3] sf (half hi) (half lo)) ∧
      (∀ g ∈ parallelCompareForms,
        let half (part : BitVec 7 → BitVec 32) : FpHalf (BitVec 32) :=
          { flags := g.2.flags (single part f2) (single part f3)
            val := if g.2.holds (single part f2) (single part f3) then 0xFFFFFFFF else 0 }
        Parallel (g.1 qp f1 f2 f3 sf) s f1 [f2, f3] sf (half hi) (half lo))) ∧
    (FpReady s qp [f1, f2] →
      (∀ g ∈ toIntegerForms,
        let h := toIntegerHalf 64 g.2.1 (rc g.2.2) (s.fpr f2)
        Scalar (g.1 qp f1 f2 sf) s f1 [f2] sf ⟨h.flags, ⟨false, 0x1003E, h.val⟩, h.fpa⟩) ∧
      (∀ g ∈ parallelToIntegerForms,
        let half (part : BitVec 7 → BitVec 32) : FpHalf (BitVec 32) := toIntegerHalf 32 g.2.1 (rc g.2.2) (single part f2)
        Parallel (g.1 qp f1 f2 sf) s f1 [f2] sf (half hi) (half lo)))

/-- fcmp and fclass complete: predicates from the relation or the class, flags in the status field; with p1 = p2 they are
Illegal Operations, whatever partitions are disabled (R938, R939, R924, R922, R72, R946, R1143, R1130; derived). The
relations, the conditions of a compare, the classes and the fault and trap codes are those of R938, R922, R924 and R1143. That
an operand of an unsupported format is unordered, and Invalid in every relation, is log entry 63 (DESIGN CHOICE: R938 names
NaNs alone); the class of a pseudo-zero log entry 28 (DEDUCED). -/
def Obligations.FpComparesWritePredicates : Prop :=
  (∀ (s : State) (qp p : BitVec 6) (f2 f3 : BitVec 7) (sf : BitVec 2) (m : BitVec 9), s.prBit qp = true →
    (∀ g ∈ fcmpForms, Traps (g.1 qp p p f2 f3 sf) s illegalOperation) ∧
    ∀ i ∈ [Instr.fclassMF5 qp p p f2 m, .fclassMUncF5 qp p p f2 m], Traps i s illegalOperation) ∧
  (∀ (s : State) (qp p1 p2 : BitVec 6) (f2 f3 : BitVec 7) (sf : BitVec 2) (m : BitVec 9), s.prBit qp = true → p1 ≠ p2 →
    (s.disabledCode [f2, f3] ≠ 0 → ∀ g ∈ fcmpForms,
      Traps (g.1 qp p1 p2 f2 f3 sf) s (disabledFp (s.disabledCode [f2, f3]))) ∧
    (s.disabledCode [f2] ≠ 0 → ∀ i ∈ [Instr.fclassMF5 qp p1 p2 f2 m, .fclassMUncF5 qp p1 p2 f2 m],
      Traps i s (disabledFp (s.disabledCode [f2])))) ∧
  (∀ (s : State) (qp p1 p2 : BitVec 6) (f2 f3 : BitVec 7) (sf : BitVec 2), FpReady s qp [f2, f3] → p1 ≠ p2 →
    ∀ g ∈ fcmpForms,
      let x := g.2.flags (s.fpr f2) (s.fpr f3)
      let r := g.2.holds (s.fpr f2) (s.fpr f3)
      (natSource s [f2, f3] → WritesPrs (g.1 qp p1 p2 f2 f3 sf) s p1 p2 false false) ∧
      (¬ natSource s [f2, f3] →
        (faultBits (s.fpDisables sf) x ≠ 0 → Traps (g.1 qp p1 p2 f2 f3 sf) s
          { vector := .floatingPointFault, code := (faultBits (s.fpDisables sf) x).zeroExtend 16 }) ∧
        (faultBits (s.fpDisables sf) x = 0 → ∃ t, exec (g.1 qp p1 p2 f2 f3 sf) s = .next t ∧ t.place = s.nextPlace ∧
          (p1 ≠ 0 → t.prBit p1 = r) ∧ (p2 ≠ 0 → t.prBit p2 = !r) ∧
          (∀ p, p ≠ p1 → p ≠ p2 → t.prBit p = s.prBit p) ∧
          t.settled = ((withFlags s sf x).setPrs p1 p2 r !r).settled))) ∧
  (∀ (s : State) (qp p1 p2 : BitVec 6) (f2 : BitVec 7) (m : BitVec 9), FpReady s qp [f2] → p1 ≠ p2 →
    let f := s.fpr f2
    let sign : Bool := (m.getLsbD 0 && !f.sign) || (m.getLsbD 1 && f.sign)
    let r : Bool := (sign && ((m.getLsbD 2 && decide (f.cls = .zero)) || (m.getLsbD 3 && f.isUnorm) ||
        (m.getLsbD 4 && f.isNormal) || (m.getLsbD 5 && decide (f.cls = .infinity)))) ||
      (m.getLsbD 6 && decide (f.cls = .signaling)) || (m.getLsbD 7 && decide (f.cls = .quiet)) ||
      (m.getLsbD 8 && decide (f.cls = .natVal))
    ∀ i ∈ [Instr.fclassMF5 qp p1 p2 f2 m, .fclassMUncF5 qp p1 p2 f2 m],
      (f = ⟨false, 0x1FFFE, 0⟩ → m.getLsbD 8 = false → WritesPrs i s p1 p2 false false) ∧
      (f ≠ ⟨false, 0x1FFFE, 0⟩ ∨ m.getLsbD 8 = true → WritesPrs i s p1 p2 r !r)) ∧
  (∀ a b : Fr,
    let u := unorderedFr a b
    let none (f : Fr) : Prop := f.cls = .quiet ∨ f.cls = .signaling ∨ f.cls = .unsupported
    (u = true ↔ none a ∨ none b) ∧ FpRel.unord.holds a b = u ∧ FpRel.ord.holds a b = !u ∧
    (u = true → FpRel.eq.holds a b = false ∧ FpRel.lt.holds a b = false ∧ FpRel.le.holds a b = false) ∧
    (FpRel.neq.holds a b = !FpRel.eq.holds a b ∧ FpRel.nlt.holds a b = !FpRel.lt.holds a b ∧
      FpRel.nle.holds a b = !FpRel.le.holds a b) ∧
    (u = false → a.cls ≠ .natVal → b.cls ≠ .natVal → a.cls = .infinity ∨ b.cls = .infinity →
      (FpRel.eq.holds a b = true ↔ a.cls = .infinity ∧ b.cls = .infinity ∧ a.sign = b.sign) ∧
      (FpRel.lt.holds a b = true ↔ (a.cls = .infinity ∧ a.sign = true ∧ (b.cls ≠ .infinity ∨ b.sign = false)) ∨
        (b.cls = .infinity ∧ b.sign = false ∧ (a.cls ≠ .infinity ∨ a.sign = true))) ∧
      (FpRel.le.holds a b = (FpRel.lt.holds a b || FpRel.eq.holds a b))) ∧
    ∀ r : FpRel,
      (u = true → r.flags a b = { v := a.cls == .signaling || b.cls == .signaling || a.cls == .unsupported ||
        b.cls == .unsupported || r == .lt || r == .le || r == .nlt || r == .nle }) ∧
      (u = false → r.flags a b = { d := a.isUnorm || b.isUnorm })) ∧
  (∀ f : Fr,
    let special : Prop := f.exp = 0x1FFFF
    let whole : Prop := f.sig.getLsbD 63 = true
    (f.cls = .natVal ↔ f = ⟨false, 0x1FFFE, 0⟩) ∧
    (f.cls = .zero ↔ ¬ special ∧ f.sig = 0 ∧ f ≠ ⟨false, 0x1FFFE, 0⟩) ∧ (f.cls = .finite ↔ ¬ special ∧ f.sig ≠ 0) ∧
    (f.cls = .infinity ↔ special ∧ f.sig = 0x8000000000000000) ∧ (f.cls = .unsupported ↔ special ∧ ¬ whole) ∧
    (f.cls = .quiet ↔ special ∧ whole ∧ f.sig.getLsbD 62 = true) ∧
    (f.cls = .signaling ↔ special ∧ whole ∧ f.sig.getLsbD 62 = false ∧ f.sig ≠ 0x8000000000000000) ∧
    (f.isNormal = true ↔ ¬ special ∧ f.exp ≠ 0 ∧ whole) ∧
    (f.isUnorm = true ↔ ¬ special ∧ f ≠ ⟨false, 0x1FFFE, 0⟩ ∧ if f.exp = 0 then f.sig ≠ 0 else ¬ whole)) ∧
  (∀ (s : State) (sf : BitVec 2) (dis : BitVec 6) (x : FpFlags) (fpa : Bool) (lo hi : BitVec 4) (k : Nat),
    (s.fpDisables sf = if sf ≠ 0 ∧ s.ar.fpsr.getLsbD (12 + 13 * sf.toNat) = true then 63 else fld s.ar.fpsr 0 6) ∧
    (faultBits dis x).getLsbD k = ([x.v, x.d, x.z].getD k false && !dis.getLsbD k) ∧
    (k < 3 → (trapBits dis x fpa).getLsbD k = ([x.o, x.u, x.i].getD k false && !dis.getLsbD (3 + k))) ∧
    ((trapBits dis x fpa).getLsbD 3 = true ↔ fpa = true ∧ trapBits dis x fpa &&& 7 ≠ 0) ∧
    (fpTrapCode lo hi = none ↔ lo = 0 ∧ hi = 0) ∧
    ∀ c, fpTrapCode lo hi = some c → c.getLsbD k = (decide (k = 0) ||
      (decide (7 ≤ k ∧ k < 11) && hi.getLsbD (k - 7)) || (decide (11 ≤ k ∧ k < 15) && lo.getLsbD (k - 11))))

namespace Sys2Proof.Machine

/-- The rational value of an exact one. -/
noncomputable def Exact.toRat (x : Exact) : ℚ := (if x.sign then -1 else 1) * x.mag * (2 : ℚ) ^ x.exp

/-- The rational value of a finite register (R922). -/
noncomputable def Fr.toRat (f : Fr) : ℚ := f.exact.toRat

/-- A zero or a finite number. -/
def Fr.isFinite (f : Fr) : Bool := f.cls == .zero || f.cls == .finite

/-- `f` is the normalized number of this sign, exponent (modulo 2^17) and magnitude (R922, R923). -/
def Fr.IsNormalized (f : Fr) (sign : Bool) (e : Int) (v : ℚ) : Prop :=
  f.sign = sign ∧ f.exp = BitVec.ofInt 17 (e + 65535) ∧ f.sig.getLsbD 63 = true ∧
    (f.sig.toNat : ℚ) * (2 : ℚ) ^ (e - 63) = v

/-- `h` is the exact value `x` rounded once to the precision of `f` (R923), with its trap conditions (R924); `od` and `ud` say
that the Overflow and the Underflow trap are disabled. `e0` is the exponent of `x`, `e` that of the rounded magnitude `v`; a
result below the smallest normal number is rounded at that number's last place. -/
def RoundedOnce (h : FpHalf Fr) (x : Exact) (c : FpControls) (od ud : Bool) (f : FpRange) : Prop :=
  let flags (o u i : Bool) : Prop := h.flags.o = o ∧ h.flags.u = u ∧ h.flags.i = i
  let grew (v : ℚ) : Prop := h.fpa = true ↔ |x.toRat| < v
  (x.mag = 0 → h.val = ⟨x.sign, 0, 0⟩ ∧ flags false false false ∧ h.fpa = false) ∧
  ∀ e0 : Int, (2 : ℚ) ^ e0 ≤ |x.toRat| → |x.toRat| < (2 : ℚ) ^ (e0 + 1) →
    let r := x.roundAt c.rc (e0 - f.prec + 1)
    let v : ℚ := r.1 * (2 : ℚ) ^ (e0 - f.prec + 1)
    let e : Int := if r.1 < 2 ^ f.prec then e0 else e0 + 1
    (f.emin ≤ e → e ≤ f.emax → h.val.IsNormalized x.sign e v ∧ flags false false r.2.1 ∧ grew v) ∧
    (f.emax < e → od = false → h.val.IsNormalized x.sign e v ∧ flags true false r.2.1 ∧ grew v) ∧
    (f.emax < e → od = true → flags true false true ∧ grew v ∧
      if c.rc = 0 ∨ (c.rc = 1 ∧ x.sign = true) ∨ (c.rc = 2 ∧ x.sign = false) then
        h.val = ⟨x.sign, 0x1FFFF, 0x8000000000000000⟩
      else h.val.IsNormalized x.sign f.emax ((2 ^ f.prec - 1) * (2 : ℚ) ^ (f.emax - f.prec + 1))) ∧
    (e < f.emin → ud = false → h.val.IsNormalized x.sign e v ∧ flags false true r.2.1 ∧ grew v) ∧
    (e < f.emin → ud = true → c.ftz = true →
      h.val = ⟨x.sign, 0, 0⟩ ∧ flags false true true ∧ h.fpa = false) ∧
    (e < f.emin → ud = true → c.ftz = false →
      let t := x.roundAt c.rc (f.emin - f.prec + 1)
      let w : ℚ := t.1 * (2 : ℚ) ^ (f.emin - f.prec + 1)
      h.val.sign = x.sign ∧ |h.val.toRat| = w ∧ flags false t.2.1 t.2.1 ∧ grew w ∧
        h.val.exp = if t.1 = 0 ∨ (f.emin = -16382 ∧ t.1 < 2 ^ (f.prec - 1)) then 0
          else BitVec.ofInt 17 (f.emin + 65535))

end Sys2Proof.Machine

/-- Multiply-adds are exact before one rounding, to the nearest multiple or in its direction, within the precision and the
exponents of the format; compares, minima and maxima are exact, conversions to integer rounded once (R921, R922, R923, R924,
R930, R931, R932, R938, R944, R954, R955, R957; derived; R945 and R956 take the halves through them). Tininess after rounding
and when U is set are log entry 28 (DEDUCED); fmin and its kin with an operand of an unsupported format log entry 63 (DESIGN
CHOICE). -/
def Obligations.FpValuesAreExactThenRounded : Prop :=
  (∀ (k : FmaKind) (rc : BitVec 2) (f3 f4 f2 : Fr),
    (fmaExact k rc f3 f4 none).toRat = (if k = .fnma then -1 else 1) * (f3.toRat * f4.toRat) ∧
    (fmaExact k rc f3 f4 (some f2)).toRat =
      (if k = .fnma then -1 else 1) * (f3.toRat * f4.toRat) + (if k = .fms then -1 else 1) * f2.toRat ∧
    let psign := (f3.sign != f4.sign) != decide (k = .fnma)
    let csign := f2.sign != decide (k = .fms)
    (fmaExact k rc f3 f4 none).sign = psign ∧
    ((fmaExact k rc f3 f4 (some f2)).toRat = 0 →
      (fmaExact k rc f3 f4 (some f2)).sign = if psign = csign then psign else decide (rc = 1))) ∧
  (∀ (k : FmaKind) (c : FpControls) (dis : BitVec 6) (range : FpRange) (f3 f4 : Fr) (f2 : Option Fr),
    f3.isFinite = true → f4.isFinite = true → (∀ a ∈ f2, a.isFinite = true) →
    (range = singleRange ∨ ∃ pc, range = fpRange pc c) →
    let h := fmaHalf k c dis range f3 f4 f2
    let od := dis.getLsbD 3
    let ud := dis.getLsbD 4
    RoundedOnce h (fmaExact k c.rc f3 f4 f2) c od ud range ∧ h.flags.v = false ∧ h.flags.z = false ∧
      h.flags.d = (f3.isUnorm || f4.isUnorm || f2.any Fr.isUnorm) ∧
      (range = singleRange → (h.flags.o = true → od = true) → (h.flags.u = true → ud = true) →
        frOfSingle h.single.val = h.val ∧ h.single.flags = h.flags)) ∧
  (∀ (x : Exact) (rc : BitVec 2) (lsb : Int),
    let r := x.roundAt rc lsb
    let q : ℚ := r.1 * (2 : ℚ) ^ lsb
    let m : ℚ := x.mag * (2 : ℚ) ^ x.exp
    (r.2.1 = true ↔ q ≠ m) ∧ |q - m| < (2 : ℚ) ^ lsb ∧
    (rc = 0 → |q - m| ≤ (2 : ℚ) ^ lsb / 2 ∧ (|q - m| = (2 : ℚ) ^ lsb / 2 → r.1 % 2 = 0)) ∧
    (rc = 1 → if x.sign then m ≤ q else q ≤ m) ∧ (rc = 2 → if x.sign then q ≤ m else m ≤ q) ∧
    (rc = 3 → q ≤ m)) ∧
  (∀ a b : Fr, a.isFinite = true → b.isFinite = true →
    (FpRel.eq.holds a b = true ↔ a.toRat = b.toRat) ∧ (FpRel.lt.holds a b = true ↔ a.toRat < b.toRat) ∧
    (FpRel.le.holds a b = true ↔ a.toRat ≤ b.toRat)) ∧
  (∀ (m : MinMax) (a b : Fr),
    (unorderedFr a b = true → m.half a b = { flags := { v := true }, val := b } ∧ m.first a b = false) ∧
    (unorderedFr a b = false → a.cls ≠ .natVal → b.cls ≠ .natVal →
      let finite : Prop := a.cls ≠ .infinity ∧ b.cls ≠ .infinity
      let below (x y : Fr) : Prop := (finite ∧ x.toRat < y.toRat) ∨
        (x.cls = .infinity ∧ x.sign = true ∧ (y.cls ≠ .infinity ∨ y.sign = false)) ∨
        (y.cls = .infinity ∧ y.sign = false ∧ (x.cls ≠ .infinity ∨ x.sign = true))
      let smaller (x y : Fr) : Prop := (finite ∧ |x.toRat| < |y.toRat|) ∨ (x.cls ≠ .infinity ∧ y.cls = .infinity)
      (m.first a b = true ↔
        match m with
        | .min => below a b
        | .max => below b a
        | .amin => smaller a b
        | .amax => smaller b a) ∧
      m.half a b = { flags := { d := a.isUnorm || b.isUnorm }, val := if m.first a b then a else b })) ∧
  (∀ (n : Nat) (signed : Bool) (rc : BitVec 2) (f : Fr), 0 < n →
    let h := toIntegerHalf n signed rc f
    let invalid : FpHalf (BitVec n) := { flags := { v := true }, val := BitVec.ofNat n (2 ^ (n - 1)) }
    let q := (f.exact.roundAt rc 0).1
    let v : Int := if f.sign then -(q : Int) else q
    let fits : Prop := if signed then -(2 ^ (n - 1) : Int) ≤ v ∧ v < 2 ^ (n - 1) else 0 ≤ v ∧ v < 2 ^ n
    (f.isNan = true ∨ f.cls = .unsupported ∨ f.cls = .infinity → h = invalid) ∧
    (f.isFinite = true →
      (¬ fits → h = invalid) ∧
      (fits → (if signed then h.val.toInt = v else (h.val.toNat : Int) = v) ∧
        h.flags = { d := f.isUnorm, i := decide ((q : ℚ) ≠ |f.toRat|) } ∧ (h.fpa = true ↔ |f.toRat| < q)))) ∧
  (∀ (v : Word) (rc : BitVec 2), (integerToFr v).toRat = v.toInt ∧
    toIntegerHalf 64 true rc (integerToFr v) = { flags := {}, val := v })

/-- NaNs, infinities and zeros in multiply-adds and reciprocals give the IEEE results and conditions (R924, R930, R940,
R942; derived). The order of NaN operands, the NaN where infinity times zero meets a quiet NaN addend, that an unsupported
operand comes before a NaN, and Invalid before Denormal are the choices of the model: log entry 28. -/
def Obligations.FpSpecialOperands : Prop :=
  (∀ (c : FpControls) (range : FpRange) (near : Bool) (a b : Fr), a.cls ≠ .natVal → b.cls ≠ .natVal →
    let x := (recip c range near a b).half.flags
    let y := (recipSqrt c range near a).half.flags
    let bad (f : Fr) : Prop := f.cls = .unsupported ∨ f.cls = .signaling
    (x.v = true ↔ bad a ∨ bad b ∨ (a.cls = .zero ∧ b.cls = .zero) ∨ (a.cls = .infinity ∧ b.cls = .infinity)) ∧
    (x.z = true ↔ a.cls = .finite ∧ b.cls = .zero) ∧
    (x.d = true ↔ x.v = false ∧ a.isNan = false ∧ b.isNan = false ∧ (a.isUnorm = true ∨ b.isUnorm = true)) ∧
    (y.v = true ↔ bad a ∨ (a.sign = true ∧ (a.cls = .finite ∨ a.cls = .infinity))) ∧ y.z = false ∧
    (y.d = true ↔ y.v = false ∧ a.isUnorm = true) ∧
    (∀ f ∈ [x, y], f.o = false ∧ f.u = false ∧ f.i = false)) ∧
  (∀ (k : FmaKind) (c : FpControls) (dis : BitVec 6) (range : FpRange) (f3 f4 f2 : Fr),
    let h := fmaHalf k c dis range f3 f4 (some f2)
    let inv : FpHalf Fr := { flags := { v := true }, val := ⟨true, 0x1FFFF, 0xC000000000000000⟩ }
    let quiet (f : Fr) : Fr := { f with sig := f.sig ||| 0x4000000000000000 }
    let psign := (f3.sign != f4.sign) != decide (k = .fnma)
    let csign := f2.sign != decide (k = .fms)
    (f3.cls = .unsupported ∨ f4.cls = .unsupported ∨ f2.cls = .unsupported → h = inv) ∧
    (f3.cls ≠ .unsupported → f4.cls ≠ .unsupported → f2.cls ≠ .unsupported →
      (f3.cls = .signaling ∨ f4.cls = .signaling ∨ f2.cls = .signaling → h.flags.v = true) ∧
      (f4.isNan = true → h.val = quiet f4) ∧ (f4.isNan = false → f2.isNan = true → h.val = quiet f2) ∧
      (f4.isNan = false → f2.isNan = false → f3.isNan = true → h.val = quiet f3) ∧
      (f3.isNan = false → f4.isNan = false → f2.isNan = false →
        (f3.cls = .infinity ∧ f4.cls = .zero ∨ f3.cls = .zero ∧ f4.cls = .infinity → h = inv) ∧
        (f3.cls = .infinity ∧ f4.cls ≠ .zero ∨ f4.cls = .infinity ∧ f3.cls ≠ .zero →
          (f2.cls = .infinity → psign ≠ csign → h = inv) ∧
          (f2.cls ≠ .infinity ∨ psign = csign → h.val = ⟨psign, 0x1FFFF, 0x8000000000000000⟩)) ∧
        (f3.cls ≠ .infinity → f4.cls ≠ .infinity → f2.cls = .infinity →
          h.val = ⟨csign, 0x1FFFF, 0x8000000000000000⟩)))) ∧
  (∀ (c : FpControls) (range : FpRange) (near : Bool) (a b : Fr),
    let r := recip c range near a b
    let inv : Approx := ⟨{ flags := { v := true }, val := ⟨true, 0x1FFFF, 0xC000000000000000⟩ }, false⟩
    (a.cls = .zero ∧ b.cls = .zero ∨ a.cls = .infinity ∧ b.cls = .infinity → r = inv) ∧
    (a.cls = .finite → b.cls = .zero → r.half.val = ⟨a.sign != b.sign, 0x1FFFF, 0x8000000000000000⟩ ∧
      r.half.flags.z = true ∧ r.approximate = false) ∧
    (a.cls = .finite ∨ a.cls = .zero → b.cls = .infinity → r.half.val = ⟨a.sign != b.sign, 0, 0⟩ ∧
      r.approximate = false) ∧
    (a.cls = .infinity → b.cls = .finite ∨ b.cls = .zero → r.half.val = ⟨a.sign != b.sign, 0x1FFFF, 0x8000000000000000⟩ ∧
      r.approximate = false) ∧
    (a.cls = .zero → b.cls = .finite → r.half.val = ⟨a.sign != b.sign, 0, 0⟩ ∧ r.approximate = false) ∧
    (a.cls = .zero → (recipSqrt c range near a).half.val = ⟨a.sign, 0, 0⟩ ∧
      (recipSqrt c range near a).approximate = false) ∧
    (a.cls = .finite ∨ a.cls = .infinity → a.sign = true → recipSqrt c range near a = inv))

/-- frcpa, frsqrta, fprcpa and fprsqrta complete, the value in f1, p2 set for an approximation, whose error is bounded; or
they take the fault of an enabled V, D or Z condition, of their target or of a disabled partition (R940, R941, R942, R943, R924,
R925, R72, R1143, R17; derived). Which operands near the limits get the quotient is log entry 29, that O, U
and I are never raised there log entry 46. In units of 2^-12 a reciprocal u of m / 2^63 has the relative error |2^75
- m * u| / 2^75, and 2^33057 is (2^75 * 2^-8.886)^500; the two long integers are the least above (1 - 2^-8.831)^2 *
2^87 and the greatest below (1 + 2^-8.831)^2 * 2^87. -/
def Obligations.ApproximationsComplete : Prop :=
  (∀ (s : State) (qp p2 : BitVec 6) (f1 f2 f3 : BitVec 7) (sf : BitVec 2), s.psrBit Psr.ss = false →
    let c := s.fpControls sf
    let x (part : Fr → BitVec 32) : BitVec 32 := part (s.fpr f2)
    let y (part : Fr → BitVec 32) : BitVec 32 := part (s.fpr f3)
    let dis := s.fpDisables sf
    let scalar (i : Instr) (srcs : List (BitVec 7)) (r : Approx) :
        Instr × List (BitVec 7) × Fr × FpFlags × Bool × BitVec 8 :=
      (i, srcs, r.half.val, r.half.flags, r.approximate, (faultBits dis r.half.flags).zeroExtend 8)
    let parallel (i : Instr) (srcs : List (BitVec 7)) (half : Bool → (Fr → BitVec 32) → Approx) :
        Instr × List (BitVec 7) × Fr × FpFlags × Bool × BitVec 8 :=
      let both := (half false Fr.highSingle).approximate && (half false Fr.lowSingle).approximate
      let hi := (half (!both) Fr.highSingle).half
      let lo := (half (!both) Fr.lowSingle).half
      (i, srcs, ⟨false, 0x1003E, hi.val.toSingle ++ lo.val.toSingle⟩, hi.flags.or lo.flags, both,
        faultBits dis hi.flags ++ faultBits dis lo.flags)
    ∀ g ∈ [scalar (.frcpaF6 qp p2 f1 f2 f3 sf) [f2, f3]
          (recip c (fpRange .none c) (recipNearLimits (s.fpr f2) (s.fpr f3)) (s.fpr f2) (s.fpr f3)),
        scalar (.frsqrtaF7 qp p2 f1 f3 sf) [f3] (recipSqrt c (fpRange .none c) false (s.fpr f3)),
        parallel (.fprcpaF6 qp p2 f1 f2 f3 sf) [f2, f3] (fun exact part => recip c singleRange
          (exact || singleLimits false (x part) (y part)) (frOfSingle (x part)) (frOfSingle (y part))),
        parallel (.fprsqrtaF7 qp p2 f1 f3 sf) [f3] (fun exact part => recipSqrt c singleRange
          (exact || singleLimits true (y part) (y part)) (frOfSingle (y part)))],
      let writes (u : State) (v : Fr) (b : Bool) : Prop :=
        ∃ t, exec g.1 s = .next t ∧ t.place = s.nextPlace ∧ t.fpr f1 = v ∧ (∀ f, f ≠ f1 → t.fpr f = s.fpr f) ∧
          (p2 ≠ 0 → t.prBit p2 = b) ∧ (∀ p, p ≠ p2 → t.prBit p = s.prBit p) ∧ SameMemory s t ∧
          t.settled = ((u.setFpr f1 v).setPr p2 b).settled
      let fault := g.2.2.2.2.2
      (s.prBit qp = false → Completes g.1 s (s.setPr p2 false)) ∧
      (s.prBit qp = true → FpStops g.1 s f1 (f1 :: g.2.1)) ∧
      (FpReady s qp (f1 :: g.2.1) → f1 ≠ 0 → f1 ≠ 1 →
        (natSource s g.2.1 → writes s ⟨false, 0x1FFFE, 0⟩ false) ∧
        (¬ natSource s g.2.1 →
          (fault ≠ 0 → Traps g.1 s { vector := .floatingPointFault, code := fault.zeroExtend 16 }) ∧
          (fault = 0 → writes (withFlags s sf g.2.2.2.1) g.2.2.1 g.2.2.2.2.1)))) ∧
  (∀ m : Nat, 2 ^ 63 ≤ m → m < 2 ^ 64 →
    let eleven (u : Nat) : Prop := u < 2 ^ 11 ∨ (u < 2 ^ 12 ∧ 2 ∣ u) ∨ (u < 2 ^ 13 ∧ 4 ∣ u)
    eleven (recipSig m) ∧ ((2 ^ 75 : Int) - m * recipSig m).natAbs ^ 500 < 2 ^ 33057 ∧
    ∀ odd : Bool, eleven (rsqrtSig odd m) ∧
      154063666136703572203576523 ≤ (if odd then 2 * m else m) * (rsqrtSig odd m) ^ 2 ∧
      (if odd then 2 * m else m) * (rsqrtSig odd m) ^ 2 ≤ 155422835956108090749940591)

namespace Sys2Proof.Machine

/-- The forms of F9 with their values (R947 to R953). -/
noncomputable def fpMoveForms : List (FormFFF × (Fr → Fr → Fr)) :=
  [(Instr.fmergeSF9, fun a b => { b with sign := a.sign }),
    (Instr.fmergeNsF9, fun a b => { b with sign := !a.sign }),
    (Instr.fmergeSeF9, fun a b => { a with sig := b.sig }),
    (Instr.fmixLrF9, fun a b => pairFr a.highSingle b.lowSingle),
    (Instr.fmixRF9, fun a b => pairFr a.lowSingle b.lowSingle),
    (Instr.fmixLF9, fun a b => pairFr a.highSingle b.highSingle),
    (Instr.fsxtRF9, fun a b => pairFr (signCopies (bit a.sig 31)) b.lowSingle),
    (Instr.fsxtLF9, fun a b => pairFr (signCopies (bit a.sig 63)) b.highSingle),
    (Instr.fpackF9, fun a b => pairFr a.toSingle b.toSingle),
    (Instr.fswapF9, fun a b => pairFr b.lowSingle a.highSingle),
    (Instr.fswapNlF9, fun a b => pairFr (b.lowSingle ^^^ 0x80000000) a.highSingle),
    (Instr.fswapNrF9, fun a b => pairFr b.lowSingle (a.highSingle ^^^ 0x80000000)),
    (Instr.fandF9, fun a b => Fr.ofInteger (a.sig &&& b.sig)),
    (Instr.fandcmF9, fun a b => Fr.ofInteger (a.sig &&& ~~~b.sig)),
    (Instr.forF9, fun a b => Fr.ofInteger (a.sig ||| b.sig)),
    (Instr.fxorF9, fun a b => Fr.ofInteger (a.sig ^^^ b.sig)),
    (Instr.fpmergeSF9, fun a b => mergeHalves (mergeBits 0x80000000) a b),
    (Instr.fpmergeNsF9, fun a b => mergeHalves (fun a b => mergeBits 0x80000000 (~~~a) b) a b),
    (Instr.fpmergeSeF9, fun a b => mergeHalves (mergeBits 0xFF800000) a b)]

end Sys2Proof.Machine

/-- xma, fselect, F9, fcvt.xf complete without flags, or fault for their target or a disabled partition; fsetc and fclrf
write their status field; fchkf branches (R936, R937, R947, R948, R949, R950, R951, R952, R953, R958, R959, R960; derived,
with R17, R72 and R957). That fchkf always branches where R960 gives
the Speculative Operation fault otherwise is check_branch_implemented TRUE: log entry 35 (D43, DEDUCED). -/
def Obligations.FpMovesAndIntegerProducts : Prop :=
  (∀ (s : State) (qp : BitVec 6) (f1 f2 f3 f4 : BitVec 7), s.prBit qp = true →
    (∀ i ∈ [Instr.xmaLF2 qp f1 f2 f3 f4, .xmaHF2 qp f1 f2 f3 f4, .xmaHuF2 qp f1 f2 f3 f4, .fselectF3 qp f1 f2 f3 f4],
      FpStops i s f1 [f1, f2, f3, f4]) ∧
    (∀ g ∈ fpMoveForms, FpStops (g.1 qp f1 f2 f3) s f1 [f1, f2, f3]) ∧ FpStops (.fcvtXfF11 qp f1 f2) s f1 [f1, f2]) ∧
  ∀ (s : State) (qp : BitVec 6) (f1 f2 f3 f4 : BitVec 7), s.prBit qp = true → s.psrBit Psr.ss = false →
    (f1 ≠ 0 → f1 ≠ 1 →
      let sig (f : BitVec 7) : Word := (s.fpr f).sig
      let value (srcs : List (BitVec 7)) (i : Instr) (v : Fr) : Prop :=
        s.disabledCode (f1 :: srcs) = 0 →
          (natSource s srcs → WritesFr i s s f1 ⟨false, 0x1FFFE, 0⟩) ∧ (¬ natSource s srcs → WritesFr i s s f1 v)
      let signed : Int := (sig f3).toInt * (sig f4).toInt + (sig f2).toNat
      let unsigned : Nat := (sig f3).toNat * (sig f4).toNat + (sig f2).toNat
      value [f2, f3, f4] (.xmaLF2 qp f1 f2 f3 f4) ⟨false, 0x1003E, BitVec.ofInt 64 signed⟩ ∧
      value [f2, f3, f4] (.xmaHF2 qp f1 f2 f3 f4) ⟨false, 0x1003E, BitVec.ofInt 64 (signed / 2 ^ 64)⟩ ∧
      value [f2, f3, f4] (.xmaHuF2 qp f1 f2 f3 f4) ⟨false, 0x1003E, BitVec.ofNat 64 (unsigned / 2 ^ 64)⟩ ∧
      value [f2, f3, f4] (.fselectF3 qp f1 f2 f3 f4)
        ⟨false, 0x1003E, (sig f3 &&& sig f2) ||| (sig f4 &&& ~~~(sig f2))⟩ ∧
      (∀ g ∈ fpMoveForms, value [f2, f3] (g.1 qp f1 f2 f3) (g.2 (s.fpr f2) (s.fpr f3))) ∧
      value [f2] (.fcvtXfF11 qp f1 f2) (integerToFr (sig f2))) ∧
    (∀ (sf : BitVec 2) (om am : BitVec 7),
      let c := (fpsrControls s.ar.fpsr 0 &&& am) ||| om
      let bad : Prop := (fld c 2 2 : BitVec 2) = 1 ∨ (sf = 0 ∧ c.getLsbD 6 = true)
      (¬ bad → Completes (.fsetcF12 qp sf om am) s
        { s with ar := { s.ar with fpsr := setFld s.ar.fpsr (6 + 13 * sf.toNat) c } }) ∧
      (bad → Traps (.fsetcF12 qp sf om am) s reservedRegisterField) ∧
      Completes (.fclrfF13 qp sf) s
        { s with ar := { s.ar with fpsr := setFld s.ar.fpsr (13 + 13 * sf.toNat) (0 : BitVec 6) } }) ∧
    (∀ (sf : BitVec 2) (disp : BitVec 21), s.psrBit Psr.tb = false →
      let flags (n : BitVec 2) : BitVec 6 := fld s.ar.fpsr (13 + 13 * n.toNat) 6
      Reaches (.fchkfF14 qp sf disp) s s
        (if flags sf &&& ~~~(fld s.ar.fpsr 0 6) = 0 ∧ flags sf &&& ~~~(flags 0) = 0 then s.nextPlace
          else relTarget s disp))

/-- An instruction whose qualifying predicate is 0 completes and changes nothing, whatever its operands (R60, R790,
R940; derived). -/
def Obligations.PredicatedOffDoesNothing : Prop :=
  ∀ (s : State) (i : Instr) (qp : BitVec 6), s.prBit qp = false → s.psrBit Psr.ss = false →
    (i.qualifier = some qp → Completes i s s) ∧
    (∀ (r1 : BitVec 7) (imm : BitVec 64), Reaches (.movlX2 qp r1 imm) s s (s.ip + 16, 0)) ∧
    (s.followedByStop = true → ∀ (b1 : BitVec 3) (d : BitVec 1) (wh : BitVec 2) (p : BitVec 1) (disp : BitVec 60),
      Reaches (.brlCondX3 qp d wh p disp) s s (s.ip + 16, 0) ∧
      Reaches (.brlCallX4 qp b1 d wh p disp) s s (s.ip + 16, 0))

/-- Taking an interruption saves what R1120 says, composes ISR, enters the vector, and touches nothing else (R1120,
R1122, R1123, R1124, R1125, R1127, R77, R1075, R1076, R1080; derived). The choices of the model named here: log
entries 12, 13 and 43; that ISR.ei is PSR.ri for every kind but a trap, external interrupts included, log entry 18 (DESIGN
CHOICE, unsafe); that the handler begins an instruction group, log entry 11 (DESIGN CHOICE). -/
def Obligations.InterruptionDeliverySavesState : Prop :=
  (∀ (s : State) (x : Interruption), x.vector = .virtualization → ∀ run, s.pal.vpRun = some run →
    let t := deliver x s
    let e := deliver x { s with pal := { s.pal with vpRun := none } }
    let handler := ((s.pal.vps.find? (fun v => v.vpd = run.vpd)).map VirtualProcessor.optHandler).getD 0
    t.ip = (if handler = 0 then e.ip else handler &&& ~~~(15 : Word)) ∧ t.cr = e.cr ∧ t.dahr = e.dahr ∧ t.dahs = e.dahs ∧
    t.psr = (if s.pal.vpConfig.getLsbD 1 then e.psr &&& 0xFFFFFFFFFFDFFFFB else e.psr) ∧ (∀ r, t.gr r = e.gr r) ∧
    t.fr = e.fr ∧ t.pr = e.pr ∧ t.br = e.br ∧ t.ar = e.ar ∧ t.pal.interceptOpcode = fld s.curBundle (5 + 41 * s.ri.toNat) 41 ∧
    (t.pal.interceptCause.isSome = s.pal.vpConfig.getLsbD 9) ∧ (s.findTr s.dtr (run.vpd + 1432) = none → t.mem = s.mem)) ∧
  ∀ (s : State) (x : Interruption), x.vector ≠ .virtualization ∨ s.pal.vpRun = none →
    let t := deliver x s
    (s.psrBit Psr.ic = true →
      t.cr = { s.cr with
        ipsr := s.psr, iip := s.ip, iipa := s.lastIp, ifs := setBit s.cr.ifs 63 false, ifa := x.ifa.getD s.cr.ifa,
        itir := x.itir.getD s.cr.itir, iha := x.iha.getD s.cr.iha, iim := x.iim.getD s.cr.iim, isr := t.cr.isr,
        iib0 := t.cr.iib0, iib1 := t.cr.iib1 } ∧
      (x.kind = .fault → t.cr.iib1 ++ t.cr.iib0 = s.curBundle) ∧
      t.dahr = Vector.replicate 8 Config.dahrDefault ∧ t.dahs = (s.dahr :: s.dahs).dropLast) ∧
    (s.psrBit Psr.ic = false → t.cr = { s.cr with isr := t.cr.isr } ∧ t.dahr = s.dahr ∧ t.dahs = s.dahs) ∧
    ((fld t.cr.isr 0 16 : BitVec 16) = x.code ∧ (fld t.cr.isr 41 2 : BitVec 2) = x.ei.getD s.ri ∧
      t.cr.isr.getLsbD 32 = x.access.x ∧ t.cr.isr.getLsbD 33 = x.access.w ∧ t.cr.isr.getLsbD 34 = x.access.r ∧
      t.cr.isr.getLsbD 35 = x.access.na ∧ t.cr.isr.getLsbD 36 = x.access.sp ∧ t.cr.isr.getLsbD 37 = x.access.rs ∧
      t.cr.isr.getLsbD 38 = x.access.ir ∧ t.cr.isr.getLsbD 39 = !s.psrBit Psr.ic ∧ t.cr.isr.getLsbD 43 = x.ed ∧
      t.cr.isr &&& 0xFFFFF100FFFF0000 = 0) ∧
    (∀ k, k < 64 → t.psr.getLsbD k =
      if k = 1 then s.cr.dcr.getLsbD 1 else if k = 21 then s.cr.dcr.getLsbD 0
      else if k ∈ [2, 3, 4, 5, 15, 17, 27, 35, 36] then s.psr.getLsbD k else false) ∧
    t.ip = (s.cr.iva &&& ~~~(0x7FFF : Word)) ||| x.vector.offset.zeroExtend 64 ∧
    { t with ip := s.ip, psr := s.psr, cr := s.cr, dahr := s.dahr, dahs := s.dahs } =
      { s with rse := { s.rse with cfle := false }, midGroup := false }

/-- rfi restores PSR, IP, frame and hint registers; after a delivery it returns to the interrupted state (R566, R1126,
R1120, R1127, R77, R139, R1133, R1140; derived). That of the traps rfi takes the Single Step trap alone is log entry
14, which frame markers are refused log entry 25. That IPSR.ri = 3 is a Reserved Register/Field fault of the rfi follows R1133
against R566; that PSR.ri = 3 is that fault too, and the place of both in the order of the faults, is the choice of the model:
log entry 39. -/
def Obligations.RfiReturnsFromInterruption : Prop :=
  (∀ s : State, s.followedByStop = true → s.psrBit Psr.vm = false →
    let c := Cfm.ofBits (fld s.cr.ifs 0 38)
    let slots : Prop := s.ri ≠ 3 ∧ (fld s.cr.ipsr 41 2 : BitVec 2) ≠ 3
    let target : Word := if s.cr.ipsr.getLsbD 34 then s.cr.iip &&& 0xFFFFFFFF else s.cr.iip &&& ~~~(15 : Word)
    (s.cpl = 0 → ¬ slots → Traps .rfiB8 s reservedRegisterField) ∧
    (s.cpl = 0 → slots → (s.cr.ifs.getLsbD 63 = true → c.wf = true) → s.psrBit Psr.ss = true →
      ∃ u, exec .rfiB8 s = .next (deliver { kind := .trap, vector := .singleStep, code := 8, ei := some s.ri } u) ∧
        u.psr = s.cr.ipsr ∧ u.ip = target ∧ u.cfm = (if s.cr.ifs.getLsbD 63 then c else s.cfm)) ∧
    (s.cpl = 0 → slots → s.psrBit Psr.ss = false → (s.cr.ifs.getLsbD 63 = true → c.wf = true) →
      ∃ t, exec .rfiB8 s = .next t ∧ t.psr = s.cr.ipsr ∧
      t.ip = target ∧
      t.cfm = (if s.cr.ifs.getLsbD 63 then c else s.cfm) ∧
      t.ar.bsp = (if s.cr.ifs.getLsbD 63 then bsShrink s.ar.bsp c.sof.toNat else s.ar.bsp) ∧
      t.dahr = (if s.cr.ipsr.getLsbD 13 then s.dahs.headD (Vector.replicate 8 Config.dahrDefault) else s.dahr) ∧
      (s.cr.ifs.getLsbD 63 = false → t.grStacked = s.grStacked) ∧
      t.grStatic = s.grStatic ∧ t.grBank0 = s.grBank0 ∧ t.grBank1 = s.grBank1 ∧ t.fr = s.fr ∧ t.pr = s.pr ∧
      t.br = s.br ∧ t.rr = s.rr ∧ t.itr = s.itr ∧ t.dtr = s.dtr ∧ t.itc = s.itc ∧ t.dtc = s.dtc ∧ SameMemory s t) ∧
    (s.cpl = 0 → slots → s.cr.ifs.getLsbD 63 = true → c.wf = false → Traps .rfiB8 s reservedRegisterField) ∧
    (s.cpl ≠ 0 → Traps .rfiB8 s (privilegedOperation {}))) ∧
  (∀ s : State, s.followedByStop = false → exec .rfiB8 s = .fault .undefinedBehavior) ∧
  (∀ (s : State) (x : Interruption) (at_ : Word) (k : BitVec 2) (b : Bundle),
    s.psrBit Psr.ic = true → s.psrBit Psr.is = false → s.ipOk = true → s.ri ≠ 3 → k ≠ 3 →
    (x.vector ≠ .virtualization ∨ s.pal.vpRun = none) →
    let h : State := { (deliver x s).setRi k with ip := at_, curBundle := b }
    h.followedByStop = true → ∃ t, exec .rfiB8 h = .next t ∧ t.psr = s.psr ∧ t.ip = s.ip ∧ t.cfm = s.cfm ∧
      (∀ r, t.gr r = s.gr r) ∧ (∀ f, t.fpr f = s.fpr f) ∧ (∀ p, t.prBit p = s.prBit p) ∧ t.br = s.br ∧
      t.ar = s.ar ∧ t.dahr = (if s.dahs.isEmpty then Vector.replicate 8 Config.dahrDefault else s.dahr) ∧ SameMemory s t)

namespace Sys2Proof.Machine

/-- The fetch with PSR.it = 1: the translation of IP, found or walked in, and its faults in the order of R1144. -/
def FetchesTranslated : Prop :=
  ∀ t : State, t.psrBit Psr.it = true →
    let fault (v : Ivt) (code : BitVec 16) (ed : Bool) (itir iha : Option Word) : Interruption :=
      { kind := .fetchFault, vector := v, code := code, access := { x := true }, ed := ed, ifa := some t.ip, itir, iha }
    let miss : Option Word := some (t.missItir t.ip)
    let hash : Option Word := some (t.vhptHash t.ip)
    let walks : Prop := t.cr.pta.getLsbD 0 = true ∧ (t.region t.ip).getLsbD 0 = true ∧ t.psrBit Psr.ic = true
    let breaks : Prop := t.psrBit Psr.db = true ∧ t.psrBit Psr.id = false ∧ ∃ k < 4,
      let (addr, ctl) := breakpoint t.ibr k
      ctl.getLsbD 63 = true ∧ ctl.getLsbD (56 + t.cpl.toNat) = true ∧
        ∃ n < 16, (fld (t.ip + BitVec.ofNat 64 n) 0 56 : BitVec 56) &&& fld ctl 0 56 = fld addr 0 56 &&& fld ctl 0 56
    let keyed (e : TlbEntry) (k : Word) : Prop := k.getLsbD 0 = true ∧ fld k 8 24 = e.key
    let executes (e : TlbEntry) : Prop := e.ar = 7 ∨
      (t.cpl ≤ e.pl ∧ (e.ar = 1 ∨ e.ar = 3 ∨ e.ar = 5 ∨ (e.ar = 6 ∧ t.cpl ≠ 0)))
    (unimplementedVa t.ip (t.psrBit Psr.vm) = true →
      ∃ code, t.fetchAddress = .error ⟨fault .lowerPrivilegeTransfer code false none none, none⟩) ∧
    (unimplementedVa t.ip (t.psrBit Psr.vm) = false → t.findInst t.ip = none →
      (¬ walks → t.fetchAddress = .error ⟨fault .alternateInstructionTlb 0 false miss none, none⟩) ∧
      (walks → t.walkVhpt t.ip = .vhptFault → t.fetchAddress = .error ⟨fault .vhptTranslation 0 false miss hash, none⟩) ∧
      (walks → t.walkVhpt t.ip = .notFound → t.fetchAddress = .error ⟨fault .instructionTlb 0 false miss hash, none⟩)) ∧
    ∀ (e : TlbEntry) (walked : Option TlbEntry), unimplementedVa t.ip (t.psrBit Psr.vm) = false →
      (t.findInst t.ip = some e ∧ walked = none) ∨
        (t.findInst t.ip = none ∧ walks ∧ t.walkVhpt t.ip = .found e ∧ walked = some e) →
      let raises (v : Ivt) (code : BitVec 16) (itir : Option Word) : Prop :=
        t.fetchAddress = .error ⟨fault v code e.ed itir none, walked⟩
      (e.p = false → raises .pageNotPresent 0 (some e.itir)) ∧
      (e.p = true → e.ma = 7 → raises .natConsumption 0x20 none) ∧
      (e.p = true → e.ma ≠ 7 → t.psrBit Psr.pk = true →
        ((¬ ∃ k ∈ t.pkr.toList, keyed e k) → raises .instructionKeyMiss 0 (some e.itir)) ∧
        ((∃ k ∈ t.pkr.toList, keyed e k) → (∀ k ∈ t.pkr.toList, keyed e k → k.getLsbD 3 = true) →
          raises .keyPermission 0 (some e.itir))) ∧
      (e.p = true → e.ma ≠ 7 → (t.psrBit Psr.pk = true → (∃ k ∈ t.pkr.toList, keyed e k) ∧
          ∀ k ∈ t.pkr.toList, keyed e k → k.getLsbD 3 = false) →
        (¬ executes e → raises .instructionAccessRights 0 (some e.itir)) ∧
        (executes e → e.a = false → t.psrBit Psr.ia = false → raises .instructionAccessBit 0 (some e.itir)) ∧
        (executes e → (e.a = true ∨ t.psrBit Psr.ia = true) →
          (breaks → raises .debug 0 none) ∧ (¬ breaks → t.fetchAddress = .ok (e.physical t.ip, walked))))

end Sys2Proof.Machine

/-- A step takes the pending external interrupt that PSR.i and TPR let through, the timer's among them; else it fetches the
bundle at IP with the faults of the fetch, decodes the slot PSR.ri, and runs exec of the instruction there (R1245, R257, R152,
R1130, R262, R1144, R1160, R1162, R1164, R1165; derived). That a placed error may be met in any step, and what meeting it
changes, is log entry 59; that the words of a running virtual processor's VPD which R1080 leaves undefined change is log entry
43; how long a translation that forward progress needs may be lost (R204) is log entry 19. -/
def Obligations.StepRunsDecodedInstruction : Prop :=
  let rank (k : Nat) : Nat := if k = 2 then 257 else if k = 0 then 256 else k
  let taken (s : State) (k : Nat) : Prop := (k = 2 ∨ k = 0 ∨ (16 ≤ k ∧ k < 256)) ∧ s.tick.cr.irr.getLsbD k = true ∧
    (k = 2 ∨ (s.cr.tpr.getLsbD 16 = false ∧ (k = 0 ∨ (fld s.cr.tpr 4 4 : BitVec 4).toNat < k / 16))) ∧
    ∀ v, s.inService.getLsbD v = true → rank v < rank k
  let timer (s : State) : Prop := s.cr.itv.getLsbD 16 = false ∧ s.tick.itcValue = s.cr.itm
  let undisturbed (s : State) : Prop := (s.tick.checkPending = false ∨ s.psrBit Psr.mc = true) ∧
    (s.initPending = false ∨ s.psrBit Psr.mc = true) ∧ (s.pmiPending = 0 ∨ s.psrBit Psr.ic = false)
  FetchesTranslated ∧ Ivt.externalInterrupt.offset = 0x3000 ∧
  (∀ (t : State) (pa : Word) (walked : Option TlbEntry), t.fetchAddress = .ok (pa, walked) →
    t.checkWalk true walked = .ok () → t.blockOffset pa = none →
    t.fetch = .ok (({ t.keepInstWalk walked with curBundle := t.bundleAt pa } : State).meetTrigger false t.ip 16)) ∧
  (∀ (t : State) (x : Faulted), t.fetchAddress = .error x → t.checkWalk true x.walked = .ok () →
    ∃ b k, t.fetch = .error (.interruptAt { t.keepInstWalk x.walked with curBundle := b } { x.fault with kind := k })) ∧
  ∀ s : State, s.psrBit Psr.is = false →
    (∀ t u : State, s.tick.boundary = .run t → t.fetch = .ok u →
      (∀ (i : Instr) (pair : Bool), decodeBundle u.curBundle u.ri.toNat = (.instr i, pair) → step s = exec i u) ∧
      (∀ pair : Bool, decodeBundle u.curBundle u.ri.toNat = (.reserved, pair) →
        step s = .next (deliver illegalOperation u)) ∧
      (∀ (qp : BitVec 6) (pair : Bool), decodeBundle u.curBundle u.ri.toNat = (.reservedIfQp qp, pair) →
        u.prBit qp = true → step s = .next (deliver illegalOperation u))) ∧
    (∀ t u : State, s.tick.boundary = .run t → ∀ x, t.fetch = .error (.interruptAt u x) → step s = .next (deliver x u)) ∧
    (undisturbed s → (s.psrBit Psr.i = false ∨ ¬ ∃ k, taken s k) → s.psrBit Psr.vm = false → s.halted = false →
      s.rse.cfle = false → s.tick.boundary = .run s.tick ∧
      (s.psrBit Psr.it = false → s.psrBit Psr.db = false → unimplementedPa s.ip = false → s.blockOffset s.ip = none →
        ∃ u, s.tick.fetch = .ok u ∧
          u = ({ s.tick with curBundle := s.bundleAt s.ip } : State).meetTrigger false s.ip 16 ∧ u.ri = s.ri)) ∧
    (undisturbed s → s.psrBit Psr.i = true → (∃ k, taken s k) →
      step s = .next (deliver { kind := .interrupt, vector := .externalInterrupt }
        (if s.halted then { s.tick with pal := { s.tick.pal with power := .normal } } else s.tick))) ∧
    (∀ k, s.cr.irr.getLsbD k = true ∨ (timer s ∧ k = (fld s.cr.itv 0 8 : BitVec 8).toNat) →
      s.tick.cr.irr.getLsbD k = true) ∧
    (s.pal.latent = [] → ∀ k, s.tick.cr.irr.getLsbD k = true → s.cr.irr.getLsbD k = true ∨
      (timer s ∧ k = (fld s.cr.itv 0 8 : BitVec 8).toNat) ∨
      (s.pmc[0].getLsbD 0 = false ∧ s.cr.pmv.getLsbD 16 = false ∧ k = (fld s.cr.pmv 0 8 : BitVec 8).toNat)) ∧
    { s.tick with
      ar := { s.tick.ar with itc := s.ar.itc, ruc := s.ar.ruc }, cr := { s.tick.cr with irr := s.cr.irr }, pmc := s.pmc
      pmd := s.pmd, alat := s.alat, itc := s.itc, dtc := s.dtc, fresh := s.fresh, checkPending := s.checkPending
      progress := s.progress, mem := s.mem
      pal := { s.tick.pal with latent := s.pal.latent, errors := s.pal.errors, psp := s.pal.psp } } = s ∧
    (s.pal.latent = [] → s.tick.pal = s.pal ∧ s.tick.checkPending = s.checkPending) ∧
    (s.psrBit Psr.vm = false ∨ s.pal.vpRun = none → s.tick.mem = s.mem) ∧
    (∀ e ∈ s.tick.alat, e ∈ s.alat) ∧ (∀ e ∈ s.tick.itc, e ∈ s.itc) ∧ (∀ e ∈ s.tick.dtc, e ∈ s.dtc) ∧
    (Config.tcLossBound ≤ s.progress.losses → ∀ e : TlbEntry,
      ((true, e) ∈ s.progress.required → e ∈ s.itc → e ∈ s.tick.itc) ∧
      ((false, e) ∈ s.progress.required → e ∈ s.dtc → e ∈ s.tick.dtc))

/-- Words that the spec writes out decode to the instructions it writes beside them (R331, R334, R341, R350, R401, R404,
R500, R505, R480, R525, R527; derived). -/
def Obligations.SpecWordsDecode : Prop :=
  decodeSlot .i 0 0x10000304040 = .instr (.addA1 0 1 2 3) ∧
  decodeSlot .m 0 0x10800002040 = .instr (.addsA4 0 1 0 1) ∧
  decodeSlot .i 0 0x1C038304180 = .instr (.cmpEqA6 0 6 7 2 3) ∧
  decodeSlot .m 0 0x080C0300040 = .instr (.ld8M1 0 1 3 0 0) ∧
  decodeSlot .m 0 0x08CC0304000 = .instr (.st8M4 0 2 3 0 0) ∧
  decodeSlot .b 0 0x08000004006 = .instr (.brCondB1 6 0 0 0 2) ∧
  decodeSlot .b 0 0x00108000100 = .instr (.brRetB4 0 0 0 0 0) ∧
  decodeSlot .f 0 0x10050916200 = .instr (.fmaF1 0 8 11 9 10 0) ∧
  decodeSlot .x 0x048D159E26A 0x0CDEF2E0100 = .instr (.movlX2 0 4 0x123456789ABCDEF0) ∧
  decodeSlot .m 0 0x00008000000 = .instr (.nopMM48 0 0)

/-- The reset state holds what the start point of R1200 fixes (R1200, R140, R51, R61, R70, R76, R125; derived). -/
def Obligations.ResetMatchesStartPoint : Prop :=
  let s := State.reset
  s.psr = BitVec.ofNat 64 (2 ^ 13 + 2 ^ 44) ∧ s.ri = 0 ∧ fld s.ip 0 4 = (0 : BitVec 4) ∧ s.cfm = Cfm.empty ∧
  s.ar.rsc = 0 ∧ s.ar.bspstore = s.ar.bsp ∧ fld s.ar.bsp 0 3 = (0 : BitVec 3) ∧ s.ndirty = 0 ∧ s.nclean = 0 ∧
  s.rse.cfle = false ∧ s.rse.bspLoad = s.ar.bsp ∧ s.cr.dcr = 0 ∧ s.cr.pta.getLsbD 0 = false ∧
  s.cr.itv.getLsbD 16 = true ∧ s.cr.pmv.getLsbD 16 = true ∧ s.cr.cmcv.getLsbD 16 = true ∧ s.cr.tpr = 0 ∧
  s.cr.irr = 0 ∧ s.inService = 0 ∧ s.pmiPending = 0 ∧ s.initPending = false ∧ s.checkPending = false ∧
  (∀ k ∈ s.pkr.toList, k.getLsbD 0 = false) ∧
  (∀ k : Fin 8, k.val % 2 = 1 → (s.dbr[k]).getLsbD 63 = false ∧ (s.dbr[k]).getLsbD 62 = false ∧
    (s.ibr[k]).getLsbD 63 = false) ∧
  s.pmc[0] = 1 ∧ s.pmc[1] = 0 ∧ s.pmc[2] = 0 ∧ s.pmc[3] = 0 ∧ (∀ e ∈ s.itr.toList, e = none) ∧
  (∀ e ∈ s.dtr.toList, e = none) ∧ s.itc = [] ∧ s.dtc = [] ∧ s.alat = [] ∧
  s.dahr = Vector.replicate 8 Config.dahrDefault ∧
  s.dahs = List.replicate Config.dahsDepth (Vector.replicate 8 Config.dahrDefault) ∧
  s.gr 0 = ⟨0, false⟩ ∧ s.fpr 0 = ⟨false, 0, 0⟩ ∧
  s.fpr 1 = ⟨false, 0xFFFF, 0x8000000000000000⟩ ∧ s.prBit 0 = true ∧ s.pal.power = .normal ∧ s.pal.pState = 0 ∧
  s.pal.hwPolicy = 0 ∧ s.mem = []

/-- The reset state meets every invariant (R1200, R110, R59, R53, R77; derived). -/
def Obligations.ResetMeetsInvariants : Prop :=
  State.reset.Inv

/-- Decoding the encoding of any instruction gives the instruction back, in every slot that may hold it (R250, R252,
R254, R257, R270, R331, R401, R500, R480, R525; derived). -/
def Obligations.EncodeDecodeRoundTrip : Prop :=
  ∀ (i : Instr) (u : SlotUnit), (encode i).unit.fits u = true →
    decodeSlot u (encode i).long (encode i).slot = .instr i

/-- Every step of the machine keeps the invariants, whatever state it starts in (R110, R105, R59, R53, R77, R1245,
R1120, R566, R829; derived). -/
def Obligations.StepKeepsInvariants : Prop :=
  ∀ s t : State, s.Inv → step s = .next t → t.Inv
end

