-- ==== Sys2Proof/Laws/Bits.lean ====
section
/-! SUPPORT. Laws of bit fields, bit by bit. -/

namespace Sys2Proof

theorem bit_eq {n : Nat} (w : BitVec n) (k : Nat) : bit w k = w.getLsbD k := rfl

theorem getLsbD_fld {n : Nat} (w : BitVec n) (lo len j : Nat) :
    (fld w lo len).getLsbD j = (decide (j < len) && w.getLsbD (lo + j)) := by
  simp [fld]

theorem getLsbD_setBit {n : Nat} (w : BitVec n) (k : Nat) (b : Bool) (j : Nat) (hk : k < n) :
    (setBit w k b).getLsbD j = if j = k then b else w.getLsbD j := by
  have key : (BitVec.ofNat n (2 ^ k)).getLsbD j = decide (j = k) := by
    rw [BitVec.getLsbD_ofNat, Nat.testBit_two_pow]
    by_cases h : j = k
    · subst h; simp [hk]
    · simp [h, Ne.symm h]
  by_cases hj : j < n
  · unfold setBit
    cases b <;> by_cases h : j = k
    · simp only [Bool.false_eq_true, if_false, BitVec.getLsbD_and, BitVec.getLsbD_not, key]; simp [h]
    · simp only [Bool.false_eq_true, if_false, BitVec.getLsbD_and, BitVec.getLsbD_not, key]; simp [h, hj]
    · simp only [if_true, BitVec.getLsbD_or, key]; simp [h]
    · simp only [if_true, BitVec.getLsbD_or, key]; simp [h]
  · have h : j ≠ k := by omega
    simp [h, BitVec.getLsbD_of_ge _ _ (Nat.le_of_not_lt hj)]

theorem bit_setBit {n : Nat} (w : BitVec n) (k : Nat) (b : Bool) (j : Nat) (hk : k < n) :
    bit (setBit w k b) j = if j = k then b else bit w j := getLsbD_setBit w k b j hk

theorem getLsbD_setFld {n len : Nat} (w : BitVec n) (lo : Nat) (v : BitVec len) (j : Nat) (h : lo + len ≤ n) :
    (setFld w lo v).getLsbD j = if lo ≤ j ∧ j < lo + len then v.getLsbD (j - lo) else w.getLsbD j := by
  unfold setFld
  by_cases hj : j < n
  · by_cases h1 : lo ≤ j
    · by_cases h2 : j < lo + len
      · have h3 : j - lo < len := by omega
        have h4 : ¬ j < lo := by omega
        simp [hj, h1, h2, h3, h4]
      · have h3 : ¬ j - lo < len := by omega
        have h4 : ¬ j < lo := by omega
        have h6 : v.getLsbD (j - lo) = false := BitVec.getLsbD_of_ge _ _ (by omega)
        simp [BitVec.getLsbD_allOnes, hj, h1, h2, h3, h4, h6]
    · have h4 : j < lo := by omega
      simp [hj, h1, h4]
  · have h2 : ¬ j < lo + len := by omega
    simp [h2, BitVec.getLsbD_of_ge _ _ (Nat.le_of_not_lt hj)]

theorem bit_setFld {n len : Nat} (w : BitVec n) (lo : Nat) (v : BitVec len) (j : Nat) (h : lo + len ≤ n) :
    bit (setFld w lo v) j = if lo ≤ j ∧ j < lo + len then v.getLsbD (j - lo) else bit w j :=
  getLsbD_setFld w lo v j h

theorem fld_setFld {n len : Nat} (w : BitVec n) (lo : Nat) (v : BitVec len) (h : lo + len ≤ n) :
    fld (setFld w lo v) lo len = v := by
  apply BitVec.eq_of_getLsbD_eq
  intro i hi
  rw [getLsbD_fld, getLsbD_setFld _ _ _ _ h]
  simp [hi]

/-- Two words with the same bits in a field have the same field. -/
theorem fld_congr {n : Nat} {w v : BitVec n} {lo len : Nat}
    (h : ∀ j, lo ≤ j → j < lo + len → w.getLsbD j = v.getLsbD j) : fld w lo len = fld v lo len := by
  apply BitVec.eq_of_getLsbD_eq
  intro i hi
  rw [getLsbD_fld, getLsbD_fld, h (lo + i) (by omega) (by omega)]

end Sys2Proof
end

