-- ==== Sys2Proof/Laws/Completion.lean ====
section
/-! SUPPORT. What completing an instruction does, said once (R1245): laws about `retire`, `settled` and the reads that
`settled` keeps. -/

namespace Sys2Proof.Machine

/-- `settled` does not see the overflow status registers PMC0 to PMC3 (R118). -/
theorem settled_pmc_set (s : State) (w : Nat) (hw : w < 256) (x : Word) (h : w < 4) :
    ({ s with pmc := s.pmc.set w x hw } : State).settled = s.settled := by
  have e : ((((s.pmc.set w x).set 0 0).set 1 0).set 2 0).set 3 0 = (((s.pmc.set 0 0).set 1 0).set 2 0).set 3 0 := by
    apply Vector.ext
    intro i hi
    simp only [Vector.getElem_set]
    repeat' split
    all_goals first
      | rfl
      | omega
  simp only [State.settled, e]

theorem settled_pmd (s : State) (v : Vector Word 256) : ({ s with pmd := v } : State).settled = s.settled := rfl

theorem pend_settled (s : State) (v : BitVec 8) : (s.pend v).settled = s.settled := rfl

@[simp] theorem countOne_settled (s : State) (k : Fin 256) :
    (s.countOne k).settled = s.settled := by
  have hk : k.val / 64 < 4 := by omega
  let counted : State := { s with pmd := s.pmd.set k ((fld s.pmd[k] 0 Config.pmdWidth + 1).zeroExtend 64) }
  have h1 := settled_pmc_set counted (k.val / 64) (by omega)
    (setBit counted.pmc[k.val / 64] (k.val % 64) true) hk
  let marked : State := { counted with
    pmc := counted.pmc.set (k.val / 64) (setBit counted.pmc[k.val / 64] (k.val % 64) true) }
  have h2 := settled_pmc_set marked 0 (by omega) (setBit marked.pmc[0] 0 true) (by omega)
  have h2 := h2.trans h1
  unfold State.countOne
  dsimp only
  repeat' split
  · exact h2
  · exact h2
  · exact h1
  · rfl
  · rfl

/-- Counting an event is unseen by `settled`. -/
theorem counted_settled (l : List (Fin 256)) (s : State) : (l.foldl State.countOne s).settled = s.settled := by
  induction l generalizing s with
  | nil => rfl
  | cons k l ih => rw [List.foldl_cons, ih, countOne_settled]

@[simp] theorem countEvent_settled (s : State) (ev : BitVec 8) : (s.countEvent ev).settled = s.settled := by
  let u := if bit s.pmc[0] 0 then s else (s.selecting ev).foldl State.countOne s
  have h : u.settled = s.settled := by
    simp only [u]
    split
    · rfl
    · exact counted_settled _ s
  have e : (((u.pmc.set 0 0).set 1 0).set 2 0).set 3 0 = (((s.pmc.set 0 0).set 1 0).set 2 0).set 3 0 :=
    congrArg State.pmc h
  show State.settled { s with pmc := u.pmc, pmd := u.pmd, cr := { s.cr with irr := u.cr.irr } } = s.settled
  simp only [State.settled, e]

@[simp] theorem countEvent_place (s : State) (ev : BitVec 8) : (s.countEvent ev).place = s.place := rfl

/-- A PSR bit that the single-instruction disables do not hold outlives them. -/
theorem bit_clear_oneShot (w : Word) (k : Nat) (h : Psr.oneShot.getLsbD k = false) :
    bit (w &&& ~~~Psr.oneShot) k = bit w k := by
  by_cases hk : k < 64
  · simp only [bit, BitVec.getLsbD_and, BitVec.getLsbD_not, hk, h]; simp
  · simp [bit, BitVec.getLsbD_of_ge _ _ (Nat.le_of_not_lt hk)]

/-- `settled` keeps every PSR bit but the single-instruction disables and the slot. -/
theorem bit_settled (s : State) (k : Nat) (h : (Psr.oneShot ||| 0x0000060000000000).getLsbD k = false) :
    s.settled.psrBit k = s.psrBit k := by
  by_cases hk : k < 64
  · simp only [State.settled, State.psrBit, bit, BitVec.getLsbD_and, BitVec.getLsbD_not, hk, h]; simp
  · simp [State.psrBit, bit, BitVec.getLsbD_of_ge _ _ (Nat.le_of_not_lt hk)]

theorem setRi_settled (u : State) (v : BitVec 2) : (u.setRi v).settled = u.settled := by
  simp only [State.setRi, State.settled]
  congr 1
  apply BitVec.eq_of_getLsbD_eq
  intro i hi
  simp only [BitVec.getLsbD_and, BitVec.getLsbD_not, BitVec.getLsbD_or, hi, decide_true, Bool.true_and]
  by_cases h : 41 ≤ i ∧ i < 43
  · have : i = 41 ∨ i = 42 := by omega
    rcases this with rfl | rfl <;> simp
  · rw [getLsbD_setFld _ _ _ _ (by omega), if_neg (by omega)]

/-- Moving on changes nothing but the place. -/
theorem goto_settled (s : State) (f : Flow) : (s.goto f).settled = s.settled := by
  unfold State.goto
  cases f with
  | sequential =>
    dsimp only
    split
    · exact setRi_settled _ _
    · split
      · exact setRi_settled _ _
      · exact setRi_settled s 0
  | nextBundle => exact setRi_settled s 0
  | branch target _ => exact setRi_settled s 0
  | returned _ => rfl

@[simp] theorem setRi_ri (s : State) (v : BitVec 2) : (s.setRi v).ri = v := by
  simp [State.setRi, State.ri, fld_setFld]

theorem goto_place (s : State) : (s.goto .sequential).place = s.nextPlace := by
  unfold State.goto State.nextPlace
  dsimp only
  split
  · simp [State.place]; rfl
  · split
    · simp [State.place]; rfl
    · exact Prod.ext rfl (setRi_ri s 0)

/-- The state that `retire` moves on from: the single-instruction disables cleared, IIPA's source and the group moved on. -/
def State.cleared (u : State) (f : Flow) : State :=
  { u with psr := u.psr &&& ~~~Psr.oneShot, lastIp := u.ip, midGroup := !f.endsGroup u
           progress := u.progress.completed f (u.psrBit Psr.ic) }

theorem cleared_settled (u : State) (f : Flow) : (u.cleared f).settled = u.settled := by
  simp only [State.cleared, State.settled]
  congr 1
  apply BitVec.eq_of_getLsbD_eq
  intro i hi
  simp only [BitVec.getLsbD_and, BitVec.getLsbD_not, BitVec.getLsbD_or, hi, decide_true, Bool.true_and]
  cases Psr.oneShot.getLsbD i <;> simp

theorem cleared_ri (u : State) (f : Flow) : (u.cleared f).ri = u.ri := by
  simp only [State.cleared, State.ri]
  apply fld_congr
  intro j h1 h2
  have : j = 41 ∨ j = 42 := by omega
  rcases this with rfl | rfl <;> exact bit_clear_oneShot _ _ (by decide)

theorem cleared_nextPlace (u : State) (f : Flow) : (u.cleared f).nextPlace = u.nextPlace := by
  simp only [State.nextPlace, cleared_ri]
  rfl

theorem cleared_bit (u : State) (f : Flow) (k : Nat) (h : Psr.oneShot.getLsbD k = false) :
    (u.cleared f).psrBit k = u.psrBit k :=
  bit_clear_oneShot _ _ h

/-- An unimplemented instruction address is a fault of the fetch, not a trap (log entry 5). -/
@[simp] theorem trapsUnimplemented_eq (s : State) : s.trapsUnimplemented = false := rfl

/-- Where no trap is due, none is taken. -/
@[simp] theorem takeTraps_zero (slot : BitVec 2) (t : State) : takeTraps 0 slot t = t := rfl

/-- The completion of an instruction after which no trap is due (R1150): what it did, and the place its flow names. -/
theorem retire_quiet (u : State) (f : Flow) (x : Option (BitVec 16)) (hf : ∀ a, f ≠ .returned a)
    (hc : trapCode (u.cleared f) f x = 0) :
    (retire { st := u, flow := f, fpTrap := x }).settled = u.settled ∧
      (retire { st := u, flow := f, fpTrap := x }).place = ((u.cleared f).goto f).place := by
  have key : retire { st := u, flow := f, fpTrap := x } = ((u.cleared f).goto f).countEvent Config.eventRetired := by
    cases f with
    | returned a => exact absurd rfl (hf a)
    | _ => exact (congrArg (fun c => takeTraps c _ _) hc).trans (takeTraps_zero _ _)
  rw [key, countEvent_settled, countEvent_place, goto_settled, cleared_settled]
  exact ⟨rfl, rfl⟩

/-- The completion of an instruction that neither branches nor traps. -/
theorem retire_sequential (u : State) (h : u.psrBit Psr.ss = false) :
    (retire { st := u }).settled = u.settled ∧ (retire { st := u }).place = u.nextPlace := by
  have hss := (cleared_bit u .sequential _ (by decide)).trans h
  have := retire_quiet u .sequential none (by simp) (by simp [trapCode, hss])
  rwa [goto_place, cleared_nextPlace] at this

/-- The completion of an L+X instruction that neither branches nor traps. -/
theorem retire_nextBundle (u : State) (h : u.psrBit Psr.ss = false) :
    (retire { st := u, flow := .nextBundle }).settled = u.settled ∧
      (retire { st := u, flow := .nextBundle }).place = (u.ip + 16, 0) := by
  have hss := (cleared_bit u .nextBundle _ (by decide)).trans h
  have := retire_quiet u .nextBundle none (by simp) (by simp [trapCode, hss])
  exact ⟨this.1, this.2.trans (Prod.ext rfl (setRi_ri _ 0))⟩

/-- The completion of a taken branch without traps: PSR.tb and PSR.ss are 0, and it lowers no privilege under PSR.lp. -/
theorem retire_branch (u : State) (target : Word) (lowered : Bool) (h : u.psrBit Psr.ss = false)
    (hb : u.psrBit Psr.tb = false) (hl : (lowered && u.psrBit Psr.lp) = false) :
    (retire { st := u, flow := .branch target lowered }).settled = u.settled ∧
      (retire { st := u, flow := .branch target lowered }).place = (target, 0) := by
  have hss := (cleared_bit u (.branch target lowered) _ (by decide)).trans h
  have htb := (cleared_bit u (.branch target lowered) _ (by decide)).trans hb
  have hlp : (lowered && (u.cleared (.branch target lowered)).psrBit Psr.lp) = false := by
    rw [cleared_bit u _ _ (by decide)]; exact hl
  have := retire_quiet u (.branch target lowered) none (by simp) (by simp only [trapCode, hss, htb, hlp]; rfl)
  exact ⟨this.1, this.2.trans (Prod.ext rfl (setRi_ri _ 0))⟩

/-! ### Reads that `settled` keeps -/

theorem grLoc_settled (s : State) (r : BitVec 7) : s.settled.grLoc r = s.grLoc r := by
  have h : s.settled.psrBit Psr.bn = s.psrBit Psr.bn := bit_settled s _ (by decide)
  unfold State.grLoc
  rw [h]
  rfl

theorem gr_settled (s : State) (r : BitVec 7) : s.settled.gr r = s.gr r := by
  unfold State.gr
  rw [grLoc_settled]
  rfl

theorem gr_of_settled {s t : State} (h : t.settled = s.settled) (r : BitVec 7) : t.gr r = s.gr r := by
  rw [← gr_settled t, ← gr_settled s, h]

theorem prBit_of_settled {s t : State} (h : t.settled = s.settled) (p : BitVec 6) : t.prBit p = s.prBit p := by
  have : t.settled.prBit p = s.settled.prBit p := by rw [h]
  exact this

theorem fpr_of_settled {s t : State} (h : t.settled = s.settled) (f : BitVec 7) : t.fpr f = s.fpr f := by
  have : t.settled.fpr f = s.settled.fpr f := by rw [h]
  exact this

theorem mem_of_settled {s t : State} (h : t.settled = s.settled) : t.mem = s.mem := by
  have : t.settled.mem = s.settled.mem := by rw [h]
  exact this

/-! ### Register writes and the reads that follow them -/

theorem setLoc_grLoc (s : State) (l : GrLoc) (v : Gr) (r : BitVec 7) : (s.setLoc l v).grLoc r = s.grLoc r := by
  cases l <;> rfl

theorem setLoc_psr (s : State) (l : GrLoc) (v : Gr) : (s.setLoc l v).psr = s.psr := by cases l <;> rfl

theorem setLoc_ip (s : State) (l : GrLoc) (v : Gr) : (s.setLoc l v).ip = s.ip := by cases l <;> rfl

theorem setLoc_mem (s : State) (l : GrLoc) (v : Gr) : (s.setLoc l v).mem = s.mem := by cases l <;> rfl

theorem setLoc_fresh (s : State) (l : GrLoc) (v : Gr) : (s.setLoc l v).fresh = s.fresh := by cases l <;> rfl

/-- Reading the general register that has just been written (R57). -/
theorem setGr_gr (s : State) (r : BitVec 7) (v : Gr) (h : s.badTarget r = false) : (s.setGr r v).gr r = v := by
  unfold State.gr State.setGr
  rw [setLoc_grLoc]
  unfold State.badTarget at h
  cases hl : s.grLoc r <;> simp [hl] at h <;> simp [State.setLoc]

/-- A general register with another home reads as before. -/
theorem setGr_gr_other (s : State) (r r' : BitVec 7) (v : Gr) (h : s.grLoc r' ≠ s.grLoc r) :
    (s.setGr r v).gr r' = s.gr r' := by
  unfold State.gr State.setGr
  rw [setLoc_grLoc]
  cases hl : s.grLoc r <;> cases hl' : s.grLoc r' <;> simp [State.setLoc] <;> rw [hl, hl'] at h <;>
    simp only [ne_eq, GrLoc.static.injEq, GrLoc.bank0.injEq, GrLoc.bank1.injEq, GrLoc.stacked.injEq,
      reduceCtorEq, not_false_eq_true] at h <;>
    exact Vector.getElem_set_ne _ _ (fun e => h (Fin.ext e.symm))

/-- An instruction whose outcome is the completion with GR `r1` written to `v` writes `v` and nothing else. -/
theorem writesGr_of_exec {i : Instr} {s : State} {r1 : BitVec 7} {v : Gr} (hss : s.psrBit Psr.ss = false)
    (hr : s.badTarget r1 = false) (h : exec i s = .next (retire { st := s.setGr r1 v })) : WritesGr i s r1 v := by
  have hp : (s.setGr r1 v).psr = s.psr := setLoc_psr s _ v
  obtain ⟨h1, h2⟩ := retire_sequential (s.setGr r1 v) (by rw [State.psrBit, hp]; exact hss)
  refine ⟨_, h, ?_, ?_, ?_, ?_, h1⟩
  · rw [h2]; simp only [State.nextPlace, State.ri, hp]; rw [show (s.setGr r1 v).ip = s.ip from setLoc_ip s _ v]; rfl
  · rw [gr_of_settled h1, setGr_gr s r1 v hr]
  · intro r hne; rw [gr_of_settled h1, setGr_gr_other s r1 r v hne]
  · intro a; rw [State.byteAt, mem_of_settled h1]; exact congrArg (fun m => Memory.readByte m a) (setLoc_mem s _ v)

/-! ### Predicate writes -/

theorem prIndex_lt (s : State) (p : BitVec 6) : s.prIndex p < 64 := by
  have := p.isLt
  unfold State.prIndex
  split <;> omega

theorem prIndex_inj (s : State) {p q : BitVec 6} (h : s.prIndex p = s.prIndex q) : p = q := by
  have hp := p.isLt
  have hq := q.isLt
  unfold State.prIndex at h
  apply BitVec.eq_of_toNat_eq
  split at h <;> split at h <;> omega

@[simp] theorem setPr_prIndex (s : State) (p q : BitVec 6) (b : Bool) : (s.setPr p b).prIndex q = s.prIndex q := by
  unfold State.setPr
  split <;> rfl

/-- A predicate reads as it was written, PR0 apart (R61). -/
theorem setPr_prBit (s : State) (p : BitVec 6) (b : Bool) (h : p ≠ 0) : (s.setPr p b).prBit p = b := by
  have hi := prIndex_lt s p
  simp only [State.prBit, if_neg h, setPr_prIndex]
  simp only [State.setPr, if_neg h, bit_setBit _ _ _ _ hi, if_true]

theorem setPr_prBit_other (s : State) (p q : BitVec 6) (b : Bool) (h : q ≠ p) : (s.setPr p b).prBit q = s.prBit q := by
  have hi := prIndex_lt s p
  by_cases hq : q = 0
  · simp [State.prBit, hq]
  · simp only [State.prBit, if_neg hq, setPr_prIndex]
    by_cases hp : p = 0
    · simp [State.setPr, hp]
    · simp only [State.setPr, if_neg hp, bit_setBit _ _ _ _ hi]
      rw [if_neg (fun e => h (prIndex_inj s e))]

/-- A predicate write touches nothing but the predicates. -/
theorem setPr_eq (s : State) (p : BitVec 6) (b : Bool) : ∃ v, s.setPr p b = { s with pr := v } := by
  unfold State.setPr
  split
  · exact ⟨s.pr, rfl⟩
  · exact ⟨_, rfl⟩

theorem setPrs_eq (s : State) (p1 p2 : BitVec 6) (b1 b2 : Bool) : ∃ v, s.setPrs p1 p2 b1 b2 = { s with pr := v } := by
  obtain ⟨v, hv⟩ := setPr_eq s p1 b1
  obtain ⟨w, hw⟩ := setPr_eq (s.setPr p1 b1) p2 b2
  exact ⟨w, by rw [State.setPrs, hw, hv]⟩

/-- An instruction whose outcome is the completion with two predicates written writes them and nothing else. -/
theorem writesPrs_of_exec {i : Instr} {s : State} {p1 p2 : BitVec 6} {b1 b2 : Bool} (hss : s.psrBit Psr.ss = false)
    (hne : p1 ≠ p2) (h : exec i s = .next (retire { st := s.setPrs p1 p2 b1 b2 })) : WritesPrs i s p1 p2 b1 b2 := by
  obtain ⟨v, hv⟩ := setPrs_eq s p1 p2 b1 b2
  obtain ⟨h1, h2⟩ := retire_sequential (s.setPrs p1 p2 b1 b2) (by rw [hv]; exact hss)
  refine ⟨_, h, ?_, ?_, ?_, ?_, ?_, ?_, h1⟩
  · rw [h2, hv]; rfl
  · intro h0; rw [prBit_of_settled h1, State.setPrs, setPr_prBit_other _ _ _ _ hne, setPr_prBit _ _ _ h0]
  · intro h0; rw [prBit_of_settled h1, State.setPrs, setPr_prBit _ _ _ h0]
  · intro p n1 n2
    rw [prBit_of_settled h1, State.setPrs, setPr_prBit_other _ _ _ _ n2, setPr_prBit_other _ _ _ _ n1]
  · intro r; rw [gr_of_settled h1, hv]; rfl
  · intro a; rw [State.byteAt, mem_of_settled h1, hv]; rfl

/-! ### Floating-point register writes -/

theorem frIndex_inj (s : State) {f g : BitVec 7} (h : s.frIndex f = s.frIndex g) : f = g := by
  have hf := f.isLt
  have hg := g.isLt
  have h' := congrArg Fin.val h
  unfold State.frIndex at h'
  apply BitVec.eq_of_toNat_eq
  split at h' <;> split at h' <;> simp [Fin.ofNat] at h' <;> omega

theorem setFpr_eq (s : State) (f : BitVec 7) (v : Fr) :
    ∃ x w, s.setFpr f v = { s with fr := x, psr := w } ∧
      ∀ k, k ≠ Psr.mfl → k ≠ Psr.mfh → bit w k = bit s.psr k := by
  unfold State.setFpr
  split
  · exact ⟨s.fr, s.psr, rfl, fun _ _ _ => rfl⟩
  · refine ⟨_, _, rfl, fun k h1 h2 => ?_⟩
    rw [bit_setBit _ _ _ _ (by split <;> decide)]
    have hk : k ≠ (if f.toNat < 32 then Psr.mfl else Psr.mfh) := by split <;> assumption
    rw [if_neg hk]

/-- Reading the floating-point register that has just been written (R70). -/
theorem setFpr_fpr (s : State) (f : BitVec 7) (v : Fr) (h0 : f ≠ 0) (h1 : f ≠ 1) : (s.setFpr f v).fpr f = v := by
  simp only [State.setFpr, h0, h1, or_self, if_false, State.fpr]
  exact Vector.getElem_set_self ..

theorem setFpr_fpr_other (s : State) (f g : BitVec 7) (v : Fr) (h : g ≠ f) : (s.setFpr f v).fpr g = s.fpr g := by
  unfold State.setFpr
  split
  · rfl
  · simp only [State.fpr]
    split
    · rfl
    · split
      · rfl
      · exact Vector.getElem_set_ne (s.frIndex f).isLt (s.frIndex g).isLt (fun e => h (frIndex_inj s (Fin.ext e.symm)))

/-- An instruction whose outcome is the completion with FR `f1` written, application registers `a` beside it, writes FR `f1`
and otherwise only those. -/
theorem writesFr_of_exec {i : Instr} {s : State} {a : AppRegs} {f1 : BitVec 7} {v : Fr}
    (hss : s.psrBit Psr.ss = false) (h0 : f1 ≠ 0) (h1 : f1 ≠ 1)
    (h : exec i s = .next (retire { st := ({ s with ar := a } : State).setFpr f1 v })) :
    WritesFr i s { s with ar := a } f1 v := by
  obtain ⟨x, w, hw, hb⟩ := setFpr_eq { s with ar := a } f1 v
  have hri : State.ri { s with ar := a, fr := x, psr := w } = s.ri := fld_congr fun j j1 j2 => by
    have : j ≠ Psr.mfl ∧ j ≠ Psr.mfh := by unfold Psr.mfl Psr.mfh; omega
    exact hb j this.1 this.2
  have hbn : State.psrBit { s with ar := a, fr := x, psr := w } Psr.bn = s.psrBit Psr.bn := hb _ (by decide) (by decide)
  obtain ⟨e1, e2⟩ := retire_sequential (({ s with ar := a } : State).setFpr f1 v) (by
    rw [hw]; exact (hb _ (by decide) (by decide)).trans hss)
  refine ⟨_, h, ?_, ?_, ?_, ?_, ?_, e1⟩
  · rw [e2, hw]; simp only [State.nextPlace]; rw [show (State.ri { s with ar := a, fr := x, psr := w }) = s.ri from hri]
  · rw [fpr_of_settled e1, setFpr_fpr _ _ _ h0 h1]
  · intro f hf; rw [fpr_of_settled e1, setFpr_fpr_other _ _ _ _ hf]; rfl
  · intro r
    rw [gr_of_settled e1, hw]
    have hl : State.grLoc { s with ar := a, fr := x, psr := w } r = s.grLoc r := by
      unfold State.grLoc; rw [hbn]
    unfold State.gr
    rw [hl]
  · intro b; rw [State.byteAt, mem_of_settled e1, hw]; rfl

/-! ### Shared operations that complete -/

/-- A predicated instruction whose predicate is 1 and whose body completes. -/
theorem predicated_done {qp : BitVec 6} {s : State} {body : Body} {d : Done} (hq : s.prBit qp = true)
    (hb : body = .ok d) : predicated qp s body = .next (retire d) := by
  simp [predicated, hq, hb, finish]

/-- With PR[qp] = 0 a predicated instruction only moves on (R60). -/
theorem predicated_off {qp : BitVec 6} {s : State} {body : Body} (hq : s.prBit qp = false) :
    predicated qp s body = .next (retire { st := s }) := by
  simp [predicated, hq, finish]

/-- `writeGr` with a target that exists. -/
theorem writeGr_done {qp : BitVec 6} {r1 : BitVec 7} {v : Gr} {s : State} (hq : s.prBit qp = true)
    (hr : s.badTarget r1 = false) : writeGr qp r1 v s = .next (retire { st := s.setGr r1 v }) :=
  predicated_done hq (by simp [State.checkTarget, check, hr, done, bind, Except.bind])

end Sys2Proof.Machine
end

