-- ==== Sys2Proof/Laws/Memory.lean ====
section
/-! SUPPORT. Laws of memory: every write keeps the canonical form, a byte reads as it was last written, and a write leaves
every other byte alone. -/

namespace Sys2Proof.Machine

namespace Memory

/-- Every entry lies above `x`. -/
def above (x : Nat) (m : List Host.Cell) : Prop := ∀ c ∈ m, x < c.1

theorem wf_cons {a : Nat} {b : Byte} {m : List Host.Cell} (h : wf ((a, b) :: m) = true) :
    b ≠ unlisted ∧ above a m ∧ wf m = true := by
  induction m generalizing a b with
  | nil => simp only [wf, bne_iff_ne, ne_eq] at h; exact ⟨h, by simp [above], rfl⟩
  | cons c rest ih =>
    obtain ⟨a', b'⟩ := c
    simp only [wf, Bool.and_eq_true, bne_iff_ne, ne_eq, decide_eq_true_eq] at h
    obtain ⟨⟨h1, h2⟩, h3⟩ := h
    obtain ⟨-, h5, -⟩ := ih h3
    refine ⟨h1, ?_, h3⟩
    intro c hc
    rcases List.mem_cons.mp hc with rfl | hc
    · exact h2
    · exact h2.trans (h5 c hc)

theorem wf_of_cons {a : Nat} {b : Byte} {m : List Host.Cell} (hb : b ≠ unlisted) (ha : above a m)
    (h : wf m = true) : wf ((a, b) :: m) = true := by
  cases m with
  | nil => simpa [wf] using hb
  | cons c rest =>
    obtain ⟨a', b'⟩ := c
    simp only [wf, Bool.and_eq_true, bne_iff_ne, ne_eq, decide_eq_true_eq]
    exact ⟨⟨hb, ha (a', b') (by simp)⟩, h⟩

theorem dropWhile_above {x : Nat} {m : List Host.Cell} (h : above x m) :
    m.dropWhile (fun c => decide (c.1 ≤ x)) = m := by
  cases m with
  | nil => rfl
  | cons c rest =>
    have : ¬ c.1 ≤ x := by have := h c (by simp); omega
    simp [List.dropWhile, this]

theorem writeByte_above {y x : Nat} {v : Byte} {m : List Host.Cell} (hm : above y m) (hy : y < x) :
    above y (writeByte m x v) := by
  induction m with
  | nil =>
    unfold writeByte
    split
    · exact hm
    · intro c hc; simp at hc; subst hc; exact hy
  | cons c rest ih =>
    obtain ⟨a, b⟩ := c
    have hr : above y rest := fun c hc => hm c (List.mem_cons_of_mem _ hc)
    unfold writeByte
    split
    · split
      · exact hm
      · intro c hc
        rcases List.mem_cons.mp hc with rfl | hc
        · exact hy
        · exact hm c hc
    · split
      · split
        · exact fun c hc => hr c ((List.dropWhile_sublist _).subset hc)
        · intro c hc
          rcases List.mem_cons.mp hc with rfl | hc
          · exact hy
          · exact hr c hc
      · intro c hc
        rcases List.mem_cons.mp hc with rfl | hc
        · exact hm _ (by simp)
        · exact ih hr c hc

/-- A byte write keeps the canonical form. -/
theorem writeByte_wf {m : List Host.Cell} (h : wf m = true) (x : Nat) (v : Byte) : wf (writeByte m x v) = true := by
  induction m with
  | nil =>
    unfold writeByte
    split
    · rfl
    · rename_i hv; simpa [wf] using hv
  | cons c rest ih =>
    obtain ⟨a, b⟩ := c
    obtain ⟨hb, ha, hr⟩ := wf_cons h
    unfold writeByte
    split
    · rename_i hx
      split
      · exact h
      · rename_i hv
        refine wf_of_cons hv ?_ h
        intro c hc
        rcases List.mem_cons.mp hc with rfl | hc
        · exact hx
        · exact hx.trans (ha c hc)
    · rename_i hx
      split
      · rename_i he
        split
        · rw [he, dropWhile_above ha]; exact hr
        · rename_i hv
          exact wf_of_cons hv (he ▸ ha) hr
      · rename_i he
        exact wf_of_cons hb (writeByte_above ha (by omega)) (ih hr)

theorem readByte_above {x : Nat} {m : List Host.Cell} (h : above x m) : readByte m x = unlisted := by
  cases m with
  | nil => rfl
  | cons c rest => unfold readByte; rw [if_pos (h c (by simp))]

/-- A byte reads as it was last written, and every other byte as before. -/
theorem readByte_writeByte {m : List Host.Cell} (h : wf m = true) (x : Nat) (v : Byte) (y : Nat) :
    readByte (writeByte m x v) y = if y = x then v else readByte m y := by
  induction m with
  | nil =>
    unfold writeByte
    by_cases hv : v = unlisted
    · simp [hv, readByte]
    · by_cases hy : y = x
      · simp [hv, hy, readByte]
      · simp [hv, hy, readByte]
  | cons c rest ih =>
    obtain ⟨a, b⟩ := c
    obtain ⟨hb, ha, hr⟩ := wf_cons h
    have lt_above : ∀ z, z ≤ a → above z rest := fun z hz c hc => lt_of_le_of_lt hz (ha c hc)
    unfold writeByte
    by_cases hx : x < a
    · rw [if_pos hx]
      by_cases hv : v = unlisted
      · rw [if_pos hv]
        by_cases hy : y = x
        · subst hy; simp [readByte, hx, hv]
        · rw [if_neg hy]
      · rw [if_neg hv]
        by_cases hy : y = x
        · subst hy; simp [readByte]
        · rw [if_neg hy]
          by_cases hy2 : y < x
          · simp [readByte, hy2, hy2.trans hx]
          · rw [readByte, if_neg hy2, if_neg hy]
    · rw [if_neg hx]
      by_cases he : x = a
      · subst he
        rw [if_pos rfl]
        by_cases hv : v = unlisted
        · rw [if_pos hv, dropWhile_above ha]
          by_cases hy : y = x
          · subst hy; simp [readByte_above ha, hv]
          · rw [if_neg hy]
            by_cases hy2 : y < x
            · rw [readByte_above (lt_above y hy2.le)]; simp [readByte, hy2]
            · conv_rhs => rw [readByte, if_neg hy2, if_neg hy]
        · rw [if_neg hv]
          by_cases hy : y = x
          · subst hy; simp [readByte]
          · simp [readByte, hy]
      · rw [if_neg he]
        by_cases hy2 : y < a
        · have : y ≠ x := by omega
          simp [readByte, hy2, this]
        · by_cases hy3 : y = a
          · have : y ≠ x := by omega
            subst hy3; simp [readByte, this]
          · rw [readByte, if_neg hy2, if_neg hy3, ih hr]
            conv_rhs => rw [readByte, if_neg hy2, if_neg hy3]

/-- A write of several bytes keeps the canonical form. -/
theorem writeBytes_wf {m : List Host.Cell} (h : wf m = true) (x : Nat) (bytes : List Byte) :
    wf (writeBytes m x bytes) = true := by
  induction bytes generalizing m x with
  | nil => exact h
  | cons b rest ih => exact ih (writeByte_wf h x b) (x + 1)

/-- A write of several bytes: byte `k` of the list stands at `x + k`, every byte outside reads as before. -/
theorem readByte_writeBytes {m : List Host.Cell} (h : wf m = true) (x : Nat) (bytes : List Byte) (y : Nat) :
    readByte (writeBytes m x bytes) y =
      if x ≤ y ∧ y < x + bytes.length then bytes.getD (y - x) 0 else readByte m y := by
  induction bytes generalizing m x with
  | nil => simp only [writeBytes, List.length_nil]; rw [if_neg (by omega)]
  | cons b rest ih =>
    rw [writeBytes, ih (writeByte_wf h x b), readByte_writeByte h, List.length_cons]
    by_cases h1 : x + 1 ≤ y ∧ y < x + 1 + rest.length
    · rw [if_pos h1, if_pos (by omega)]
      obtain ⟨k, hk⟩ : ∃ k, y - x = k + 1 := ⟨y - x - 1, by omega⟩
      have : y - (x + 1) = k := by omega
      simp [hk, this]
    · rw [if_neg h1]
      by_cases h2 : y = x
      · subst h2; simp
      · rw [if_neg h2, if_neg (by omega)]

end Memory

/-- A memory write keeps the canonical form. -/
theorem memWrite_wf {s : State} (h : Memory.wf s.mem = true) (pa : Word) (n : Nat) (be : Bool) (v : Word) :
    Memory.wf (s.memWrite pa n be v).mem = true := Memory.writeBytes_wf h _ _

theorem toBytesLE_length {w : Nat} (n : Nat) (v : BitVec w) : (toBytesLE n v).length = n := by
  induction n generalizing v with
  | zero => rfl
  | succ n ih => simp [toBytesLE, ih]

theorem orderBytes_length (be : Bool) (l : List Byte) : (orderBytes be l).length = l.length := by
  cases be <;> simp [orderBytes]

theorem reset_mem_wf : Memory.wf State.reset.mem = true := rfl

/-- What a store can do: plain memory written in place, or the interrupt block's effect, which is no memory. -/
theorem store_cases {s t : State} {pa : Word} {n : Nat} {be : Bool} {ma : BitVec 3} {v : Word}
    (h : s.store pa n be ma v = .ok t) :
    (s.blockOffset pa = none ∧ t = s.memWrite pa n be v) ∨ (∃ off, s.blockOffset pa = some off ∧ t.mem = s.mem) := by
  unfold State.store at h
  split at h
  · rename_i off ho
    refine .inr ⟨off, ho, ?_⟩
    unfold State.blockWrite at h
    dsimp only at h
    split at h
    · split at h
      · cases h
        unfold State.receiveMessage
        dsimp only
        repeat' split
        all_goals rfl
      · cases h; rfl
    · split at h
      · cases h; rfl
      · cases h
  · rename_i ho
    cases h
    exact .inl ⟨ho, rfl⟩

/-- Every store keeps the canonical form. -/
theorem store_wf {s t : State} {pa : Word} {n : Nat} {be : Bool} {ma : BitVec 3} {v : Word}
    (hs : Memory.wf s.mem = true) (h : s.store pa n be ma v = .ok t) : Memory.wf t.mem = true := by
  rcases store_cases h with ⟨-, rfl⟩ | ⟨_, -, hm⟩
  · exact memWrite_wf hs _ _ _ _
  · rw [hm]; exact hs

end Sys2Proof.Machine
end

