-- ==== Sys2Proof/Laws/State.lean ====
section
/-! SUPPORT. What each named update of the state leaves in each field, so that no later proof unfolds one. -/

namespace Sys2Proof.Machine

/-! `setPsrBit` -/

@[simp] theorem State.setPsrBit_ip (s : State) (k : Nat) (b : Bool) : (s.setPsrBit k b).ip = s.ip := rfl
@[simp] theorem State.setPsrBit_psr (s : State) (k : Nat) (b : Bool) : (s.setPsrBit k b).psr = setBit s.psr k b := rfl
@[simp] theorem State.setPsrBit_cfm (s : State) (k : Nat) (b : Bool) : (s.setPsrBit k b).cfm = s.cfm := rfl
@[simp] theorem State.setPsrBit_grStatic (s : State) (k : Nat) (b : Bool) : (s.setPsrBit k b).grStatic = s.grStatic := rfl
@[simp] theorem State.setPsrBit_grBank0 (s : State) (k : Nat) (b : Bool) : (s.setPsrBit k b).grBank0 = s.grBank0 := rfl
@[simp] theorem State.setPsrBit_grBank1 (s : State) (k : Nat) (b : Bool) : (s.setPsrBit k b).grBank1 = s.grBank1 := rfl
@[simp] theorem State.setPsrBit_grStacked (s : State) (k : Nat) (b : Bool) : (s.setPsrBit k b).grStacked = s.grStacked := rfl
@[simp] theorem State.setPsrBit_fr (s : State) (k : Nat) (b : Bool) : (s.setPsrBit k b).fr = s.fr := rfl
@[simp] theorem State.setPsrBit_pr (s : State) (k : Nat) (b : Bool) : (s.setPsrBit k b).pr = s.pr := rfl
@[simp] theorem State.setPsrBit_br (s : State) (k : Nat) (b : Bool) : (s.setPsrBit k b).br = s.br := rfl
@[simp] theorem State.setPsrBit_ar (s : State) (k : Nat) (b : Bool) : (s.setPsrBit k b).ar = s.ar := rfl
@[simp] theorem State.setPsrBit_cr (s : State) (k : Nat) (b : Bool) : (s.setPsrBit k b).cr = s.cr := rfl
@[simp] theorem State.setPsrBit_inService (s : State) (k : Nat) (b : Bool) : (s.setPsrBit k b).inService = s.inService := rfl
@[simp] theorem State.setPsrBit_rse (s : State) (k : Nat) (b : Bool) : (s.setPsrBit k b).rse = s.rse := rfl
@[simp] theorem State.setPsrBit_alat (s : State) (k : Nat) (b : Bool) : (s.setPsrBit k b).alat = s.alat := rfl
@[simp] theorem State.setPsrBit_itr (s : State) (k : Nat) (b : Bool) : (s.setPsrBit k b).itr = s.itr := rfl
@[simp] theorem State.setPsrBit_dtr (s : State) (k : Nat) (b : Bool) : (s.setPsrBit k b).dtr = s.dtr := rfl
@[simp] theorem State.setPsrBit_itc (s : State) (k : Nat) (b : Bool) : (s.setPsrBit k b).itc = s.itc := rfl
@[simp] theorem State.setPsrBit_dtc (s : State) (k : Nat) (b : Bool) : (s.setPsrBit k b).dtc = s.dtc := rfl
@[simp] theorem State.setPsrBit_rr (s : State) (k : Nat) (b : Bool) : (s.setPsrBit k b).rr = s.rr := rfl
@[simp] theorem State.setPsrBit_pkr (s : State) (k : Nat) (b : Bool) : (s.setPsrBit k b).pkr = s.pkr := rfl
@[simp] theorem State.setPsrBit_dbr (s : State) (k : Nat) (b : Bool) : (s.setPsrBit k b).dbr = s.dbr := rfl
@[simp] theorem State.setPsrBit_ibr (s : State) (k : Nat) (b : Bool) : (s.setPsrBit k b).ibr = s.ibr := rfl
@[simp] theorem State.setPsrBit_pmc (s : State) (k : Nat) (b : Bool) : (s.setPsrBit k b).pmc = s.pmc := rfl
@[simp] theorem State.setPsrBit_pmd (s : State) (k : Nat) (b : Bool) : (s.setPsrBit k b).pmd = s.pmd := rfl
@[simp] theorem State.setPsrBit_dahr (s : State) (k : Nat) (b : Bool) : (s.setPsrBit k b).dahr = s.dahr := rfl
@[simp] theorem State.setPsrBit_dahs (s : State) (k : Nat) (b : Bool) : (s.setPsrBit k b).dahs = s.dahs := rfl
@[simp] theorem State.setPsrBit_mem (s : State) (k : Nat) (b : Bool) : (s.setPsrBit k b).mem = s.mem := rfl
@[simp] theorem State.setPsrBit_lastIp (s : State) (k : Nat) (b : Bool) : (s.setPsrBit k b).lastIp = s.lastIp := rfl
@[simp] theorem State.setPsrBit_curBundle (s : State) (k : Nat) (b : Bool) : (s.setPsrBit k b).curBundle = s.curBundle := rfl
@[simp] theorem State.setPsrBit_pmiPending (s : State) (k : Nat) (b : Bool) : (s.setPsrBit k b).pmiPending = s.pmiPending := rfl
@[simp] theorem State.setPsrBit_initPending (s : State) (k : Nat) (b : Bool) : (s.setPsrBit k b).initPending = s.initPending := rfl
@[simp] theorem State.setPsrBit_checkPending (s : State) (k : Nat) (b : Bool) : (s.setPsrBit k b).checkPending = s.checkPending := rfl
@[simp] theorem State.setPsrBit_pal (s : State) (k : Nat) (b : Bool) : (s.setPsrBit k b).pal = s.pal := rfl
@[simp] theorem State.setPsrBit_midGroup (s : State) (k : Nat) (b : Bool) : (s.setPsrBit k b).midGroup = s.midGroup := rfl
@[simp] theorem State.setPsrBit_progress (s : State) (k : Nat) (b : Bool) : (s.setPsrBit k b).progress = s.progress := rfl
@[simp] theorem State.setPsrBit_fresh (s : State) (k : Nat) (b : Bool) : (s.setPsrBit k b).fresh = s.fresh := rfl

/-! `setCpl` -/

@[simp] theorem State.setCpl_ip (s : State) (v : BitVec 2) : (s.setCpl v).ip = s.ip := rfl
@[simp] theorem State.setCpl_psr (s : State) (v : BitVec 2) : (s.setCpl v).psr = setFld s.psr 32 v := rfl
@[simp] theorem State.setCpl_cfm (s : State) (v : BitVec 2) : (s.setCpl v).cfm = s.cfm := rfl
@[simp] theorem State.setCpl_grStatic (s : State) (v : BitVec 2) : (s.setCpl v).grStatic = s.grStatic := rfl
@[simp] theorem State.setCpl_grBank0 (s : State) (v : BitVec 2) : (s.setCpl v).grBank0 = s.grBank0 := rfl
@[simp] theorem State.setCpl_grBank1 (s : State) (v : BitVec 2) : (s.setCpl v).grBank1 = s.grBank1 := rfl
@[simp] theorem State.setCpl_grStacked (s : State) (v : BitVec 2) : (s.setCpl v).grStacked = s.grStacked := rfl
@[simp] theorem State.setCpl_fr (s : State) (v : BitVec 2) : (s.setCpl v).fr = s.fr := rfl
@[simp] theorem State.setCpl_pr (s : State) (v : BitVec 2) : (s.setCpl v).pr = s.pr := rfl
@[simp] theorem State.setCpl_br (s : State) (v : BitVec 2) : (s.setCpl v).br = s.br := rfl
@[simp] theorem State.setCpl_ar (s : State) (v : BitVec 2) : (s.setCpl v).ar = s.ar := rfl
@[simp] theorem State.setCpl_cr (s : State) (v : BitVec 2) : (s.setCpl v).cr = s.cr := rfl
@[simp] theorem State.setCpl_inService (s : State) (v : BitVec 2) : (s.setCpl v).inService = s.inService := rfl
@[simp] theorem State.setCpl_rse (s : State) (v : BitVec 2) : (s.setCpl v).rse = s.rse := rfl
@[simp] theorem State.setCpl_alat (s : State) (v : BitVec 2) : (s.setCpl v).alat = s.alat := rfl
@[simp] theorem State.setCpl_itr (s : State) (v : BitVec 2) : (s.setCpl v).itr = s.itr := rfl
@[simp] theorem State.setCpl_dtr (s : State) (v : BitVec 2) : (s.setCpl v).dtr = s.dtr := rfl
@[simp] theorem State.setCpl_itc (s : State) (v : BitVec 2) : (s.setCpl v).itc = s.itc := rfl
@[simp] theorem State.setCpl_dtc (s : State) (v : BitVec 2) : (s.setCpl v).dtc = s.dtc := rfl
@[simp] theorem State.setCpl_rr (s : State) (v : BitVec 2) : (s.setCpl v).rr = s.rr := rfl
@[simp] theorem State.setCpl_pkr (s : State) (v : BitVec 2) : (s.setCpl v).pkr = s.pkr := rfl
@[simp] theorem State.setCpl_dbr (s : State) (v : BitVec 2) : (s.setCpl v).dbr = s.dbr := rfl
@[simp] theorem State.setCpl_ibr (s : State) (v : BitVec 2) : (s.setCpl v).ibr = s.ibr := rfl
@[simp] theorem State.setCpl_pmc (s : State) (v : BitVec 2) : (s.setCpl v).pmc = s.pmc := rfl
@[simp] theorem State.setCpl_pmd (s : State) (v : BitVec 2) : (s.setCpl v).pmd = s.pmd := rfl
@[simp] theorem State.setCpl_dahr (s : State) (v : BitVec 2) : (s.setCpl v).dahr = s.dahr := rfl
@[simp] theorem State.setCpl_dahs (s : State) (v : BitVec 2) : (s.setCpl v).dahs = s.dahs := rfl
@[simp] theorem State.setCpl_mem (s : State) (v : BitVec 2) : (s.setCpl v).mem = s.mem := rfl
@[simp] theorem State.setCpl_lastIp (s : State) (v : BitVec 2) : (s.setCpl v).lastIp = s.lastIp := rfl
@[simp] theorem State.setCpl_curBundle (s : State) (v : BitVec 2) : (s.setCpl v).curBundle = s.curBundle := rfl
@[simp] theorem State.setCpl_pmiPending (s : State) (v : BitVec 2) : (s.setCpl v).pmiPending = s.pmiPending := rfl
@[simp] theorem State.setCpl_initPending (s : State) (v : BitVec 2) : (s.setCpl v).initPending = s.initPending := rfl
@[simp] theorem State.setCpl_checkPending (s : State) (v : BitVec 2) : (s.setCpl v).checkPending = s.checkPending := rfl
@[simp] theorem State.setCpl_pal (s : State) (v : BitVec 2) : (s.setCpl v).pal = s.pal := rfl
@[simp] theorem State.setCpl_midGroup (s : State) (v : BitVec 2) : (s.setCpl v).midGroup = s.midGroup := rfl
@[simp] theorem State.setCpl_progress (s : State) (v : BitVec 2) : (s.setCpl v).progress = s.progress := rfl
@[simp] theorem State.setCpl_fresh (s : State) (v : BitVec 2) : (s.setCpl v).fresh = s.fresh := rfl

/-! `setRi` -/

@[simp] theorem State.setRi_ip (s : State) (v : BitVec 2) : (s.setRi v).ip = s.ip := rfl
@[simp] theorem State.setRi_psr (s : State) (v : BitVec 2) : (s.setRi v).psr = setFld s.psr 41 v := rfl
@[simp] theorem State.setRi_cfm (s : State) (v : BitVec 2) : (s.setRi v).cfm = s.cfm := rfl
@[simp] theorem State.setRi_grStatic (s : State) (v : BitVec 2) : (s.setRi v).grStatic = s.grStatic := rfl
@[simp] theorem State.setRi_grBank0 (s : State) (v : BitVec 2) : (s.setRi v).grBank0 = s.grBank0 := rfl
@[simp] theorem State.setRi_grBank1 (s : State) (v : BitVec 2) : (s.setRi v).grBank1 = s.grBank1 := rfl
@[simp] theorem State.setRi_grStacked (s : State) (v : BitVec 2) : (s.setRi v).grStacked = s.grStacked := rfl
@[simp] theorem State.setRi_fr (s : State) (v : BitVec 2) : (s.setRi v).fr = s.fr := rfl
@[simp] theorem State.setRi_pr (s : State) (v : BitVec 2) : (s.setRi v).pr = s.pr := rfl
@[simp] theorem State.setRi_br (s : State) (v : BitVec 2) : (s.setRi v).br = s.br := rfl
@[simp] theorem State.setRi_ar (s : State) (v : BitVec 2) : (s.setRi v).ar = s.ar := rfl
@[simp] theorem State.setRi_cr (s : State) (v : BitVec 2) : (s.setRi v).cr = s.cr := rfl
@[simp] theorem State.setRi_inService (s : State) (v : BitVec 2) : (s.setRi v).inService = s.inService := rfl
@[simp] theorem State.setRi_rse (s : State) (v : BitVec 2) : (s.setRi v).rse = s.rse := rfl
@[simp] theorem State.setRi_alat (s : State) (v : BitVec 2) : (s.setRi v).alat = s.alat := rfl
@[simp] theorem State.setRi_itr (s : State) (v : BitVec 2) : (s.setRi v).itr = s.itr := rfl
@[simp] theorem State.setRi_dtr (s : State) (v : BitVec 2) : (s.setRi v).dtr = s.dtr := rfl
@[simp] theorem State.setRi_itc (s : State) (v : BitVec 2) : (s.setRi v).itc = s.itc := rfl
@[simp] theorem State.setRi_dtc (s : State) (v : BitVec 2) : (s.setRi v).dtc = s.dtc := rfl
@[simp] theorem State.setRi_rr (s : State) (v : BitVec 2) : (s.setRi v).rr = s.rr := rfl
@[simp] theorem State.setRi_pkr (s : State) (v : BitVec 2) : (s.setRi v).pkr = s.pkr := rfl
@[simp] theorem State.setRi_dbr (s : State) (v : BitVec 2) : (s.setRi v).dbr = s.dbr := rfl
@[simp] theorem State.setRi_ibr (s : State) (v : BitVec 2) : (s.setRi v).ibr = s.ibr := rfl
@[simp] theorem State.setRi_pmc (s : State) (v : BitVec 2) : (s.setRi v).pmc = s.pmc := rfl
@[simp] theorem State.setRi_pmd (s : State) (v : BitVec 2) : (s.setRi v).pmd = s.pmd := rfl
@[simp] theorem State.setRi_dahr (s : State) (v : BitVec 2) : (s.setRi v).dahr = s.dahr := rfl
@[simp] theorem State.setRi_dahs (s : State) (v : BitVec 2) : (s.setRi v).dahs = s.dahs := rfl
@[simp] theorem State.setRi_mem (s : State) (v : BitVec 2) : (s.setRi v).mem = s.mem := rfl
@[simp] theorem State.setRi_lastIp (s : State) (v : BitVec 2) : (s.setRi v).lastIp = s.lastIp := rfl
@[simp] theorem State.setRi_curBundle (s : State) (v : BitVec 2) : (s.setRi v).curBundle = s.curBundle := rfl
@[simp] theorem State.setRi_pmiPending (s : State) (v : BitVec 2) : (s.setRi v).pmiPending = s.pmiPending := rfl
@[simp] theorem State.setRi_initPending (s : State) (v : BitVec 2) : (s.setRi v).initPending = s.initPending := rfl
@[simp] theorem State.setRi_checkPending (s : State) (v : BitVec 2) : (s.setRi v).checkPending = s.checkPending := rfl
@[simp] theorem State.setRi_pal (s : State) (v : BitVec 2) : (s.setRi v).pal = s.pal := rfl
@[simp] theorem State.setRi_midGroup (s : State) (v : BitVec 2) : (s.setRi v).midGroup = s.midGroup := rfl
@[simp] theorem State.setRi_progress (s : State) (v : BitVec 2) : (s.setRi v).progress = s.progress := rfl
@[simp] theorem State.setRi_fresh (s : State) (v : BitVec 2) : (s.setRi v).fresh = s.fresh := rfl

/-! `setBr` -/

@[simp] theorem State.setBr_ip (s : State) (b : BitVec 3) (v : Word) : (s.setBr b v).ip = s.ip := rfl
@[simp] theorem State.setBr_psr (s : State) (b : BitVec 3) (v : Word) : (s.setBr b v).psr = s.psr := rfl
@[simp] theorem State.setBr_cfm (s : State) (b : BitVec 3) (v : Word) : (s.setBr b v).cfm = s.cfm := rfl
@[simp] theorem State.setBr_grStatic (s : State) (b : BitVec 3) (v : Word) : (s.setBr b v).grStatic = s.grStatic := rfl
@[simp] theorem State.setBr_grBank0 (s : State) (b : BitVec 3) (v : Word) : (s.setBr b v).grBank0 = s.grBank0 := rfl
@[simp] theorem State.setBr_grBank1 (s : State) (b : BitVec 3) (v : Word) : (s.setBr b v).grBank1 = s.grBank1 := rfl
@[simp] theorem State.setBr_grStacked (s : State) (b : BitVec 3) (v : Word) : (s.setBr b v).grStacked = s.grStacked := rfl
@[simp] theorem State.setBr_fr (s : State) (b : BitVec 3) (v : Word) : (s.setBr b v).fr = s.fr := rfl
@[simp] theorem State.setBr_pr (s : State) (b : BitVec 3) (v : Word) : (s.setBr b v).pr = s.pr := rfl
@[simp] theorem State.setBr_br (s : State) (b : BitVec 3) (v : Word) : (s.setBr b v).br = s.br.set b.toFin v := rfl
@[simp] theorem State.setBr_ar (s : State) (b : BitVec 3) (v : Word) : (s.setBr b v).ar = s.ar := rfl
@[simp] theorem State.setBr_cr (s : State) (b : BitVec 3) (v : Word) : (s.setBr b v).cr = s.cr := rfl
@[simp] theorem State.setBr_inService (s : State) (b : BitVec 3) (v : Word) : (s.setBr b v).inService = s.inService := rfl
@[simp] theorem State.setBr_rse (s : State) (b : BitVec 3) (v : Word) : (s.setBr b v).rse = s.rse := rfl
@[simp] theorem State.setBr_alat (s : State) (b : BitVec 3) (v : Word) : (s.setBr b v).alat = s.alat := rfl
@[simp] theorem State.setBr_itr (s : State) (b : BitVec 3) (v : Word) : (s.setBr b v).itr = s.itr := rfl
@[simp] theorem State.setBr_dtr (s : State) (b : BitVec 3) (v : Word) : (s.setBr b v).dtr = s.dtr := rfl
@[simp] theorem State.setBr_itc (s : State) (b : BitVec 3) (v : Word) : (s.setBr b v).itc = s.itc := rfl
@[simp] theorem State.setBr_dtc (s : State) (b : BitVec 3) (v : Word) : (s.setBr b v).dtc = s.dtc := rfl
@[simp] theorem State.setBr_rr (s : State) (b : BitVec 3) (v : Word) : (s.setBr b v).rr = s.rr := rfl
@[simp] theorem State.setBr_pkr (s : State) (b : BitVec 3) (v : Word) : (s.setBr b v).pkr = s.pkr := rfl
@[simp] theorem State.setBr_dbr (s : State) (b : BitVec 3) (v : Word) : (s.setBr b v).dbr = s.dbr := rfl
@[simp] theorem State.setBr_ibr (s : State) (b : BitVec 3) (v : Word) : (s.setBr b v).ibr = s.ibr := rfl
@[simp] theorem State.setBr_pmc (s : State) (b : BitVec 3) (v : Word) : (s.setBr b v).pmc = s.pmc := rfl
@[simp] theorem State.setBr_pmd (s : State) (b : BitVec 3) (v : Word) : (s.setBr b v).pmd = s.pmd := rfl
@[simp] theorem State.setBr_dahr (s : State) (b : BitVec 3) (v : Word) : (s.setBr b v).dahr = s.dahr := rfl
@[simp] theorem State.setBr_dahs (s : State) (b : BitVec 3) (v : Word) : (s.setBr b v).dahs = s.dahs := rfl
@[simp] theorem State.setBr_mem (s : State) (b : BitVec 3) (v : Word) : (s.setBr b v).mem = s.mem := rfl
@[simp] theorem State.setBr_lastIp (s : State) (b : BitVec 3) (v : Word) : (s.setBr b v).lastIp = s.lastIp := rfl
@[simp] theorem State.setBr_curBundle (s : State) (b : BitVec 3) (v : Word) : (s.setBr b v).curBundle = s.curBundle := rfl
@[simp] theorem State.setBr_pmiPending (s : State) (b : BitVec 3) (v : Word) : (s.setBr b v).pmiPending = s.pmiPending := rfl
@[simp] theorem State.setBr_initPending (s : State) (b : BitVec 3) (v : Word) : (s.setBr b v).initPending = s.initPending := rfl
@[simp] theorem State.setBr_checkPending (s : State) (b : BitVec 3) (v : Word) : (s.setBr b v).checkPending = s.checkPending := rfl
@[simp] theorem State.setBr_pal (s : State) (b : BitVec 3) (v : Word) : (s.setBr b v).pal = s.pal := rfl
@[simp] theorem State.setBr_midGroup (s : State) (b : BitVec 3) (v : Word) : (s.setBr b v).midGroup = s.midGroup := rfl
@[simp] theorem State.setBr_progress (s : State) (b : BitVec 3) (v : Word) : (s.setBr b v).progress = s.progress := rfl
@[simp] theorem State.setBr_fresh (s : State) (b : BitVec 3) (v : Word) : (s.setBr b v).fresh = s.fresh := rfl

/-! `rotate` -/

@[simp] theorem State.rotate_ip (s : State) : (s.rotate).ip = s.ip := rfl
@[simp] theorem State.rotate_psr (s : State) : (s.rotate).psr = s.psr := rfl
@[simp] theorem State.rotate_cfm (s : State) : (s.rotate).cfm = s.cfm.rotate := rfl
@[simp] theorem State.rotate_grStatic (s : State) : (s.rotate).grStatic = s.grStatic := rfl
@[simp] theorem State.rotate_grBank0 (s : State) : (s.rotate).grBank0 = s.grBank0 := rfl
@[simp] theorem State.rotate_grBank1 (s : State) : (s.rotate).grBank1 = s.grBank1 := rfl
@[simp] theorem State.rotate_grStacked (s : State) : (s.rotate).grStacked = s.grStacked := rfl
@[simp] theorem State.rotate_fr (s : State) : (s.rotate).fr = s.fr := rfl
@[simp] theorem State.rotate_pr (s : State) : (s.rotate).pr = s.pr := rfl
@[simp] theorem State.rotate_br (s : State) : (s.rotate).br = s.br := rfl
@[simp] theorem State.rotate_ar (s : State) : (s.rotate).ar = s.ar := rfl
@[simp] theorem State.rotate_cr (s : State) : (s.rotate).cr = s.cr := rfl
@[simp] theorem State.rotate_inService (s : State) : (s.rotate).inService = s.inService := rfl
@[simp] theorem State.rotate_rse (s : State) : (s.rotate).rse = s.rse := rfl
@[simp] theorem State.rotate_alat (s : State) : (s.rotate).alat = s.alat := rfl
@[simp] theorem State.rotate_itr (s : State) : (s.rotate).itr = s.itr := rfl
@[simp] theorem State.rotate_dtr (s : State) : (s.rotate).dtr = s.dtr := rfl
@[simp] theorem State.rotate_itc (s : State) : (s.rotate).itc = s.itc := rfl
@[simp] theorem State.rotate_dtc (s : State) : (s.rotate).dtc = s.dtc := rfl
@[simp] theorem State.rotate_rr (s : State) : (s.rotate).rr = s.rr := rfl
@[simp] theorem State.rotate_pkr (s : State) : (s.rotate).pkr = s.pkr := rfl
@[simp] theorem State.rotate_dbr (s : State) : (s.rotate).dbr = s.dbr := rfl
@[simp] theorem State.rotate_ibr (s : State) : (s.rotate).ibr = s.ibr := rfl
@[simp] theorem State.rotate_pmc (s : State) : (s.rotate).pmc = s.pmc := rfl
@[simp] theorem State.rotate_pmd (s : State) : (s.rotate).pmd = s.pmd := rfl
@[simp] theorem State.rotate_dahr (s : State) : (s.rotate).dahr = s.dahr := rfl
@[simp] theorem State.rotate_dahs (s : State) : (s.rotate).dahs = s.dahs := rfl
@[simp] theorem State.rotate_mem (s : State) : (s.rotate).mem = s.mem := rfl
@[simp] theorem State.rotate_lastIp (s : State) : (s.rotate).lastIp = s.lastIp := rfl
@[simp] theorem State.rotate_curBundle (s : State) : (s.rotate).curBundle = s.curBundle := rfl
@[simp] theorem State.rotate_pmiPending (s : State) : (s.rotate).pmiPending = s.pmiPending := rfl
@[simp] theorem State.rotate_initPending (s : State) : (s.rotate).initPending = s.initPending := rfl
@[simp] theorem State.rotate_checkPending (s : State) : (s.rotate).checkPending = s.checkPending := rfl
@[simp] theorem State.rotate_pal (s : State) : (s.rotate).pal = s.pal := rfl
@[simp] theorem State.rotate_midGroup (s : State) : (s.rotate).midGroup = s.midGroup := rfl
@[simp] theorem State.rotate_progress (s : State) : (s.rotate).progress = s.progress := rfl
@[simp] theorem State.rotate_fresh (s : State) : (s.rotate).fresh = s.fresh := rfl

/-! `dahrPush` -/

@[simp] theorem State.dahrPush_ip (s : State) : (s.dahrPush).ip = s.ip := rfl
@[simp] theorem State.dahrPush_psr (s : State) : (s.dahrPush).psr = s.psr := rfl
@[simp] theorem State.dahrPush_cfm (s : State) : (s.dahrPush).cfm = s.cfm := rfl
@[simp] theorem State.dahrPush_grStatic (s : State) : (s.dahrPush).grStatic = s.grStatic := rfl
@[simp] theorem State.dahrPush_grBank0 (s : State) : (s.dahrPush).grBank0 = s.grBank0 := rfl
@[simp] theorem State.dahrPush_grBank1 (s : State) : (s.dahrPush).grBank1 = s.grBank1 := rfl
@[simp] theorem State.dahrPush_grStacked (s : State) : (s.dahrPush).grStacked = s.grStacked := rfl
@[simp] theorem State.dahrPush_fr (s : State) : (s.dahrPush).fr = s.fr := rfl
@[simp] theorem State.dahrPush_pr (s : State) : (s.dahrPush).pr = s.pr := rfl
@[simp] theorem State.dahrPush_br (s : State) : (s.dahrPush).br = s.br := rfl
@[simp] theorem State.dahrPush_ar (s : State) : (s.dahrPush).ar = s.ar := rfl
@[simp] theorem State.dahrPush_cr (s : State) : (s.dahrPush).cr = s.cr := rfl
@[simp] theorem State.dahrPush_inService (s : State) : (s.dahrPush).inService = s.inService := rfl
@[simp] theorem State.dahrPush_rse (s : State) : (s.dahrPush).rse = s.rse := rfl
@[simp] theorem State.dahrPush_alat (s : State) : (s.dahrPush).alat = s.alat := rfl
@[simp] theorem State.dahrPush_itr (s : State) : (s.dahrPush).itr = s.itr := rfl
@[simp] theorem State.dahrPush_dtr (s : State) : (s.dahrPush).dtr = s.dtr := rfl
@[simp] theorem State.dahrPush_itc (s : State) : (s.dahrPush).itc = s.itc := rfl
@[simp] theorem State.dahrPush_dtc (s : State) : (s.dahrPush).dtc = s.dtc := rfl
@[simp] theorem State.dahrPush_rr (s : State) : (s.dahrPush).rr = s.rr := rfl
@[simp] theorem State.dahrPush_pkr (s : State) : (s.dahrPush).pkr = s.pkr := rfl
@[simp] theorem State.dahrPush_dbr (s : State) : (s.dahrPush).dbr = s.dbr := rfl
@[simp] theorem State.dahrPush_ibr (s : State) : (s.dahrPush).ibr = s.ibr := rfl
@[simp] theorem State.dahrPush_pmc (s : State) : (s.dahrPush).pmc = s.pmc := rfl
@[simp] theorem State.dahrPush_pmd (s : State) : (s.dahrPush).pmd = s.pmd := rfl
@[simp] theorem State.dahrPush_dahr (s : State) : (s.dahrPush).dahr = dahrDefaults := rfl
@[simp] theorem State.dahrPush_dahs (s : State) : (s.dahrPush).dahs = (s.dahr :: s.dahs).dropLast := rfl
@[simp] theorem State.dahrPush_mem (s : State) : (s.dahrPush).mem = s.mem := rfl
@[simp] theorem State.dahrPush_lastIp (s : State) : (s.dahrPush).lastIp = s.lastIp := rfl
@[simp] theorem State.dahrPush_curBundle (s : State) : (s.dahrPush).curBundle = s.curBundle := rfl
@[simp] theorem State.dahrPush_pmiPending (s : State) : (s.dahrPush).pmiPending = s.pmiPending := rfl
@[simp] theorem State.dahrPush_initPending (s : State) : (s.dahrPush).initPending = s.initPending := rfl
@[simp] theorem State.dahrPush_checkPending (s : State) : (s.dahrPush).checkPending = s.checkPending := rfl
@[simp] theorem State.dahrPush_pal (s : State) : (s.dahrPush).pal = s.pal := rfl
@[simp] theorem State.dahrPush_midGroup (s : State) : (s.dahrPush).midGroup = s.midGroup := rfl
@[simp] theorem State.dahrPush_progress (s : State) : (s.dahrPush).progress = s.progress := rfl
@[simp] theorem State.dahrPush_fresh (s : State) : (s.dahrPush).fresh = s.fresh := rfl

/-! `dahrPop` -/

@[simp] theorem State.dahrPop_ip (s : State) : (s.dahrPop).ip = s.ip := rfl
@[simp] theorem State.dahrPop_psr (s : State) : (s.dahrPop).psr = s.psr := rfl
@[simp] theorem State.dahrPop_cfm (s : State) : (s.dahrPop).cfm = s.cfm := rfl
@[simp] theorem State.dahrPop_grStatic (s : State) : (s.dahrPop).grStatic = s.grStatic := rfl
@[simp] theorem State.dahrPop_grBank0 (s : State) : (s.dahrPop).grBank0 = s.grBank0 := rfl
@[simp] theorem State.dahrPop_grBank1 (s : State) : (s.dahrPop).grBank1 = s.grBank1 := rfl
@[simp] theorem State.dahrPop_grStacked (s : State) : (s.dahrPop).grStacked = s.grStacked := rfl
@[simp] theorem State.dahrPop_fr (s : State) : (s.dahrPop).fr = s.fr := rfl
@[simp] theorem State.dahrPop_pr (s : State) : (s.dahrPop).pr = s.pr := rfl
@[simp] theorem State.dahrPop_br (s : State) : (s.dahrPop).br = s.br := rfl
@[simp] theorem State.dahrPop_ar (s : State) : (s.dahrPop).ar = s.ar := rfl
@[simp] theorem State.dahrPop_cr (s : State) : (s.dahrPop).cr = s.cr := rfl
@[simp] theorem State.dahrPop_inService (s : State) : (s.dahrPop).inService = s.inService := rfl
@[simp] theorem State.dahrPop_rse (s : State) : (s.dahrPop).rse = s.rse := rfl
@[simp] theorem State.dahrPop_alat (s : State) : (s.dahrPop).alat = s.alat := rfl
@[simp] theorem State.dahrPop_itr (s : State) : (s.dahrPop).itr = s.itr := rfl
@[simp] theorem State.dahrPop_dtr (s : State) : (s.dahrPop).dtr = s.dtr := rfl
@[simp] theorem State.dahrPop_itc (s : State) : (s.dahrPop).itc = s.itc := rfl
@[simp] theorem State.dahrPop_dtc (s : State) : (s.dahrPop).dtc = s.dtc := rfl
@[simp] theorem State.dahrPop_rr (s : State) : (s.dahrPop).rr = s.rr := rfl
@[simp] theorem State.dahrPop_pkr (s : State) : (s.dahrPop).pkr = s.pkr := rfl
@[simp] theorem State.dahrPop_dbr (s : State) : (s.dahrPop).dbr = s.dbr := rfl
@[simp] theorem State.dahrPop_ibr (s : State) : (s.dahrPop).ibr = s.ibr := rfl
@[simp] theorem State.dahrPop_pmc (s : State) : (s.dahrPop).pmc = s.pmc := rfl
@[simp] theorem State.dahrPop_pmd (s : State) : (s.dahrPop).pmd = s.pmd := rfl
@[simp] theorem State.dahrPop_dahr (s : State) : (s.dahrPop).dahr = s.dahs.headD dahrDefaults := rfl
@[simp] theorem State.dahrPop_dahs (s : State) : (s.dahrPop).dahs = (s.dahs ++ [dahrDefaults]).tail := rfl
@[simp] theorem State.dahrPop_mem (s : State) : (s.dahrPop).mem = s.mem := rfl
@[simp] theorem State.dahrPop_lastIp (s : State) : (s.dahrPop).lastIp = s.lastIp := rfl
@[simp] theorem State.dahrPop_curBundle (s : State) : (s.dahrPop).curBundle = s.curBundle := rfl
@[simp] theorem State.dahrPop_pmiPending (s : State) : (s.dahrPop).pmiPending = s.pmiPending := rfl
@[simp] theorem State.dahrPop_initPending (s : State) : (s.dahrPop).initPending = s.initPending := rfl
@[simp] theorem State.dahrPop_checkPending (s : State) : (s.dahrPop).checkPending = s.checkPending := rfl
@[simp] theorem State.dahrPop_pal (s : State) : (s.dahrPop).pal = s.pal := rfl
@[simp] theorem State.dahrPop_midGroup (s : State) : (s.dahrPop).midGroup = s.midGroup := rfl
@[simp] theorem State.dahrPop_progress (s : State) : (s.dahrPop).progress = s.progress := rfl
@[simp] theorem State.dahrPop_fresh (s : State) : (s.dahrPop).fresh = s.fresh := rfl

/-! `pend` -/

@[simp] theorem State.pend_ip (s : State) (v : BitVec 8) : (s.pend v).ip = s.ip := rfl
@[simp] theorem State.pend_psr (s : State) (v : BitVec 8) : (s.pend v).psr = s.psr := rfl
@[simp] theorem State.pend_cfm (s : State) (v : BitVec 8) : (s.pend v).cfm = s.cfm := rfl
@[simp] theorem State.pend_grStatic (s : State) (v : BitVec 8) : (s.pend v).grStatic = s.grStatic := rfl
@[simp] theorem State.pend_grBank0 (s : State) (v : BitVec 8) : (s.pend v).grBank0 = s.grBank0 := rfl
@[simp] theorem State.pend_grBank1 (s : State) (v : BitVec 8) : (s.pend v).grBank1 = s.grBank1 := rfl
@[simp] theorem State.pend_grStacked (s : State) (v : BitVec 8) : (s.pend v).grStacked = s.grStacked := rfl
@[simp] theorem State.pend_fr (s : State) (v : BitVec 8) : (s.pend v).fr = s.fr := rfl
@[simp] theorem State.pend_pr (s : State) (v : BitVec 8) : (s.pend v).pr = s.pr := rfl
@[simp] theorem State.pend_br (s : State) (v : BitVec 8) : (s.pend v).br = s.br := rfl
@[simp] theorem State.pend_ar (s : State) (v : BitVec 8) : (s.pend v).ar = s.ar := rfl
@[simp] theorem State.pend_cr (s : State) (v : BitVec 8) : (s.pend v).cr = { s.cr with irr := s.cr.irr ||| (1 <<< v.toNat) } := rfl
@[simp] theorem State.pend_inService (s : State) (v : BitVec 8) : (s.pend v).inService = s.inService := rfl
@[simp] theorem State.pend_rse (s : State) (v : BitVec 8) : (s.pend v).rse = s.rse := rfl
@[simp] theorem State.pend_alat (s : State) (v : BitVec 8) : (s.pend v).alat = s.alat := rfl
@[simp] theorem State.pend_itr (s : State) (v : BitVec 8) : (s.pend v).itr = s.itr := rfl
@[simp] theorem State.pend_dtr (s : State) (v : BitVec 8) : (s.pend v).dtr = s.dtr := rfl
@[simp] theorem State.pend_itc (s : State) (v : BitVec 8) : (s.pend v).itc = s.itc := rfl
@[simp] theorem State.pend_dtc (s : State) (v : BitVec 8) : (s.pend v).dtc = s.dtc := rfl
@[simp] theorem State.pend_rr (s : State) (v : BitVec 8) : (s.pend v).rr = s.rr := rfl
@[simp] theorem State.pend_pkr (s : State) (v : BitVec 8) : (s.pend v).pkr = s.pkr := rfl
@[simp] theorem State.pend_dbr (s : State) (v : BitVec 8) : (s.pend v).dbr = s.dbr := rfl
@[simp] theorem State.pend_ibr (s : State) (v : BitVec 8) : (s.pend v).ibr = s.ibr := rfl
@[simp] theorem State.pend_pmc (s : State) (v : BitVec 8) : (s.pend v).pmc = s.pmc := rfl
@[simp] theorem State.pend_pmd (s : State) (v : BitVec 8) : (s.pend v).pmd = s.pmd := rfl
@[simp] theorem State.pend_dahr (s : State) (v : BitVec 8) : (s.pend v).dahr = s.dahr := rfl
@[simp] theorem State.pend_dahs (s : State) (v : BitVec 8) : (s.pend v).dahs = s.dahs := rfl
@[simp] theorem State.pend_mem (s : State) (v : BitVec 8) : (s.pend v).mem = s.mem := rfl
@[simp] theorem State.pend_lastIp (s : State) (v : BitVec 8) : (s.pend v).lastIp = s.lastIp := rfl
@[simp] theorem State.pend_curBundle (s : State) (v : BitVec 8) : (s.pend v).curBundle = s.curBundle := rfl
@[simp] theorem State.pend_pmiPending (s : State) (v : BitVec 8) : (s.pend v).pmiPending = s.pmiPending := rfl
@[simp] theorem State.pend_initPending (s : State) (v : BitVec 8) : (s.pend v).initPending = s.initPending := rfl
@[simp] theorem State.pend_checkPending (s : State) (v : BitVec 8) : (s.pend v).checkPending = s.checkPending := rfl
@[simp] theorem State.pend_pal (s : State) (v : BitVec 8) : (s.pend v).pal = s.pal := rfl
@[simp] theorem State.pend_midGroup (s : State) (v : BitVec 8) : (s.pend v).midGroup = s.midGroup := rfl
@[simp] theorem State.pend_progress (s : State) (v : BitVec 8) : (s.pend v).progress = s.progress := rfl
@[simp] theorem State.pend_fresh (s : State) (v : BitVec 8) : (s.pend v).fresh = s.fresh := rfl

/-! `alatPrune` -/

@[simp] theorem State.alatPrune_ip (s : State) : (s.alatPrune).ip = s.ip := rfl
@[simp] theorem State.alatPrune_psr (s : State) : (s.alatPrune).psr = s.psr := rfl
@[simp] theorem State.alatPrune_cfm (s : State) : (s.alatPrune).cfm = s.cfm := rfl
@[simp] theorem State.alatPrune_grStatic (s : State) : (s.alatPrune).grStatic = s.grStatic := rfl
@[simp] theorem State.alatPrune_grBank0 (s : State) : (s.alatPrune).grBank0 = s.grBank0 := rfl
@[simp] theorem State.alatPrune_grBank1 (s : State) : (s.alatPrune).grBank1 = s.grBank1 := rfl
@[simp] theorem State.alatPrune_grStacked (s : State) : (s.alatPrune).grStacked = s.grStacked := rfl
@[simp] theorem State.alatPrune_fr (s : State) : (s.alatPrune).fr = s.fr := rfl
@[simp] theorem State.alatPrune_pr (s : State) : (s.alatPrune).pr = s.pr := rfl
@[simp] theorem State.alatPrune_br (s : State) : (s.alatPrune).br = s.br := rfl
@[simp] theorem State.alatPrune_ar (s : State) : (s.alatPrune).ar = s.ar := rfl
@[simp] theorem State.alatPrune_cr (s : State) : (s.alatPrune).cr = s.cr := rfl
@[simp] theorem State.alatPrune_inService (s : State) : (s.alatPrune).inService = s.inService := rfl
@[simp] theorem State.alatPrune_rse (s : State) : (s.alatPrune).rse = s.rse := rfl
@[simp] theorem State.alatPrune_itr (s : State) : (s.alatPrune).itr = s.itr := rfl
@[simp] theorem State.alatPrune_dtr (s : State) : (s.alatPrune).dtr = s.dtr := rfl
@[simp] theorem State.alatPrune_itc (s : State) : (s.alatPrune).itc = s.itc := rfl
@[simp] theorem State.alatPrune_dtc (s : State) : (s.alatPrune).dtc = s.dtc := rfl
@[simp] theorem State.alatPrune_rr (s : State) : (s.alatPrune).rr = s.rr := rfl
@[simp] theorem State.alatPrune_pkr (s : State) : (s.alatPrune).pkr = s.pkr := rfl
@[simp] theorem State.alatPrune_dbr (s : State) : (s.alatPrune).dbr = s.dbr := rfl
@[simp] theorem State.alatPrune_ibr (s : State) : (s.alatPrune).ibr = s.ibr := rfl
@[simp] theorem State.alatPrune_pmc (s : State) : (s.alatPrune).pmc = s.pmc := rfl
@[simp] theorem State.alatPrune_pmd (s : State) : (s.alatPrune).pmd = s.pmd := rfl
@[simp] theorem State.alatPrune_dahr (s : State) : (s.alatPrune).dahr = s.dahr := rfl
@[simp] theorem State.alatPrune_dahs (s : State) : (s.alatPrune).dahs = s.dahs := rfl
@[simp] theorem State.alatPrune_mem (s : State) : (s.alatPrune).mem = s.mem := rfl
@[simp] theorem State.alatPrune_lastIp (s : State) : (s.alatPrune).lastIp = s.lastIp := rfl
@[simp] theorem State.alatPrune_curBundle (s : State) : (s.alatPrune).curBundle = s.curBundle := rfl
@[simp] theorem State.alatPrune_pmiPending (s : State) : (s.alatPrune).pmiPending = s.pmiPending := rfl
@[simp] theorem State.alatPrune_initPending (s : State) : (s.alatPrune).initPending = s.initPending := rfl
@[simp] theorem State.alatPrune_checkPending (s : State) : (s.alatPrune).checkPending = s.checkPending := rfl
@[simp] theorem State.alatPrune_pal (s : State) : (s.alatPrune).pal = s.pal := rfl
@[simp] theorem State.alatPrune_midGroup (s : State) : (s.alatPrune).midGroup = s.midGroup := rfl
@[simp] theorem State.alatPrune_progress (s : State) : (s.alatPrune).progress = s.progress := rfl
@[simp] theorem State.alatPrune_fresh (s : State) : (s.alatPrune).fresh = s.fresh := rfl

/-! `rsePreserveFrame` -/

@[simp] theorem State.rsePreserveFrame_ip (s : State) (n : Nat) : (s.rsePreserveFrame n).ip = s.ip := rfl
@[simp] theorem State.rsePreserveFrame_psr (s : State) (n : Nat) : (s.rsePreserveFrame n).psr = s.psr := rfl
@[simp] theorem State.rsePreserveFrame_cfm (s : State) (n : Nat) : (s.rsePreserveFrame n).cfm = s.cfm := rfl
@[simp] theorem State.rsePreserveFrame_grStatic (s : State) (n : Nat) : (s.rsePreserveFrame n).grStatic = s.grStatic := rfl
@[simp] theorem State.rsePreserveFrame_grBank0 (s : State) (n : Nat) : (s.rsePreserveFrame n).grBank0 = s.grBank0 := rfl
@[simp] theorem State.rsePreserveFrame_grBank1 (s : State) (n : Nat) : (s.rsePreserveFrame n).grBank1 = s.grBank1 := rfl
@[simp] theorem State.rsePreserveFrame_grStacked (s : State) (n : Nat) : (s.rsePreserveFrame n).grStacked = s.grStacked := rfl
@[simp] theorem State.rsePreserveFrame_fr (s : State) (n : Nat) : (s.rsePreserveFrame n).fr = s.fr := rfl
@[simp] theorem State.rsePreserveFrame_pr (s : State) (n : Nat) : (s.rsePreserveFrame n).pr = s.pr := rfl
@[simp] theorem State.rsePreserveFrame_br (s : State) (n : Nat) : (s.rsePreserveFrame n).br = s.br := rfl
@[simp] theorem State.rsePreserveFrame_ar (s : State) (n : Nat) : (s.rsePreserveFrame n).ar = { s.ar with bsp := bsGrow s.ar.bsp n } := rfl
@[simp] theorem State.rsePreserveFrame_cr (s : State) (n : Nat) : (s.rsePreserveFrame n).cr = s.cr := rfl
@[simp] theorem State.rsePreserveFrame_inService (s : State) (n : Nat) : (s.rsePreserveFrame n).inService = s.inService := rfl
@[simp] theorem State.rsePreserveFrame_rse (s : State) (n : Nat) : (s.rsePreserveFrame n).rse = { s.rse with bof := Fin.ofNat 96 (s.rse.bof.val + n) } := rfl
@[simp] theorem State.rsePreserveFrame_alat (s : State) (n : Nat) : (s.rsePreserveFrame n).alat = s.alat := rfl
@[simp] theorem State.rsePreserveFrame_itr (s : State) (n : Nat) : (s.rsePreserveFrame n).itr = s.itr := rfl
@[simp] theorem State.rsePreserveFrame_dtr (s : State) (n : Nat) : (s.rsePreserveFrame n).dtr = s.dtr := rfl
@[simp] theorem State.rsePreserveFrame_itc (s : State) (n : Nat) : (s.rsePreserveFrame n).itc = s.itc := rfl
@[simp] theorem State.rsePreserveFrame_dtc (s : State) (n : Nat) : (s.rsePreserveFrame n).dtc = s.dtc := rfl
@[simp] theorem State.rsePreserveFrame_rr (s : State) (n : Nat) : (s.rsePreserveFrame n).rr = s.rr := rfl
@[simp] theorem State.rsePreserveFrame_pkr (s : State) (n : Nat) : (s.rsePreserveFrame n).pkr = s.pkr := rfl
@[simp] theorem State.rsePreserveFrame_dbr (s : State) (n : Nat) : (s.rsePreserveFrame n).dbr = s.dbr := rfl
@[simp] theorem State.rsePreserveFrame_ibr (s : State) (n : Nat) : (s.rsePreserveFrame n).ibr = s.ibr := rfl
@[simp] theorem State.rsePreserveFrame_pmc (s : State) (n : Nat) : (s.rsePreserveFrame n).pmc = s.pmc := rfl
@[simp] theorem State.rsePreserveFrame_pmd (s : State) (n : Nat) : (s.rsePreserveFrame n).pmd = s.pmd := rfl
@[simp] theorem State.rsePreserveFrame_dahr (s : State) (n : Nat) : (s.rsePreserveFrame n).dahr = s.dahr := rfl
@[simp] theorem State.rsePreserveFrame_dahs (s : State) (n : Nat) : (s.rsePreserveFrame n).dahs = s.dahs := rfl
@[simp] theorem State.rsePreserveFrame_mem (s : State) (n : Nat) : (s.rsePreserveFrame n).mem = s.mem := rfl
@[simp] theorem State.rsePreserveFrame_lastIp (s : State) (n : Nat) : (s.rsePreserveFrame n).lastIp = s.lastIp := rfl
@[simp] theorem State.rsePreserveFrame_curBundle (s : State) (n : Nat) : (s.rsePreserveFrame n).curBundle = s.curBundle := rfl
@[simp] theorem State.rsePreserveFrame_pmiPending (s : State) (n : Nat) : (s.rsePreserveFrame n).pmiPending = s.pmiPending := rfl
@[simp] theorem State.rsePreserveFrame_initPending (s : State) (n : Nat) : (s.rsePreserveFrame n).initPending = s.initPending := rfl
@[simp] theorem State.rsePreserveFrame_checkPending (s : State) (n : Nat) : (s.rsePreserveFrame n).checkPending = s.checkPending := rfl
@[simp] theorem State.rsePreserveFrame_pal (s : State) (n : Nat) : (s.rsePreserveFrame n).pal = s.pal := rfl
@[simp] theorem State.rsePreserveFrame_midGroup (s : State) (n : Nat) : (s.rsePreserveFrame n).midGroup = s.midGroup := rfl
@[simp] theorem State.rsePreserveFrame_progress (s : State) (n : Nat) : (s.rsePreserveFrame n).progress = s.progress := rfl
@[simp] theorem State.rsePreserveFrame_fresh (s : State) (n : Nat) : (s.rsePreserveFrame n).fresh = s.fresh := rfl

/-! `rseRestoreFrame` -/

@[simp] theorem State.rseRestoreFrame_ip (s : State) (n : Nat) : (s.rseRestoreFrame n).ip = s.ip := rfl
@[simp] theorem State.rseRestoreFrame_psr (s : State) (n : Nat) : (s.rseRestoreFrame n).psr = s.psr := rfl
@[simp] theorem State.rseRestoreFrame_cfm (s : State) (n : Nat) : (s.rseRestoreFrame n).cfm = s.cfm := rfl
@[simp] theorem State.rseRestoreFrame_grStatic (s : State) (n : Nat) : (s.rseRestoreFrame n).grStatic = s.grStatic := rfl
@[simp] theorem State.rseRestoreFrame_grBank0 (s : State) (n : Nat) : (s.rseRestoreFrame n).grBank0 = s.grBank0 := rfl
@[simp] theorem State.rseRestoreFrame_grBank1 (s : State) (n : Nat) : (s.rseRestoreFrame n).grBank1 = s.grBank1 := rfl
@[simp] theorem State.rseRestoreFrame_grStacked (s : State) (n : Nat) : (s.rseRestoreFrame n).grStacked = s.grStacked := rfl
@[simp] theorem State.rseRestoreFrame_fr (s : State) (n : Nat) : (s.rseRestoreFrame n).fr = s.fr := rfl
@[simp] theorem State.rseRestoreFrame_pr (s : State) (n : Nat) : (s.rseRestoreFrame n).pr = s.pr := rfl
@[simp] theorem State.rseRestoreFrame_br (s : State) (n : Nat) : (s.rseRestoreFrame n).br = s.br := rfl
@[simp] theorem State.rseRestoreFrame_cr (s : State) (n : Nat) : (s.rseRestoreFrame n).cr = s.cr := rfl
@[simp] theorem State.rseRestoreFrame_inService (s : State) (n : Nat) : (s.rseRestoreFrame n).inService = s.inService := rfl
@[simp] theorem State.rseRestoreFrame_alat (s : State) (n : Nat) : (s.rseRestoreFrame n).alat = s.alat := rfl
@[simp] theorem State.rseRestoreFrame_itr (s : State) (n : Nat) : (s.rseRestoreFrame n).itr = s.itr := rfl
@[simp] theorem State.rseRestoreFrame_dtr (s : State) (n : Nat) : (s.rseRestoreFrame n).dtr = s.dtr := rfl
@[simp] theorem State.rseRestoreFrame_itc (s : State) (n : Nat) : (s.rseRestoreFrame n).itc = s.itc := rfl
@[simp] theorem State.rseRestoreFrame_dtc (s : State) (n : Nat) : (s.rseRestoreFrame n).dtc = s.dtc := rfl
@[simp] theorem State.rseRestoreFrame_rr (s : State) (n : Nat) : (s.rseRestoreFrame n).rr = s.rr := rfl
@[simp] theorem State.rseRestoreFrame_pkr (s : State) (n : Nat) : (s.rseRestoreFrame n).pkr = s.pkr := rfl
@[simp] theorem State.rseRestoreFrame_dbr (s : State) (n : Nat) : (s.rseRestoreFrame n).dbr = s.dbr := rfl
@[simp] theorem State.rseRestoreFrame_ibr (s : State) (n : Nat) : (s.rseRestoreFrame n).ibr = s.ibr := rfl
@[simp] theorem State.rseRestoreFrame_pmc (s : State) (n : Nat) : (s.rseRestoreFrame n).pmc = s.pmc := rfl
@[simp] theorem State.rseRestoreFrame_pmd (s : State) (n : Nat) : (s.rseRestoreFrame n).pmd = s.pmd := rfl
@[simp] theorem State.rseRestoreFrame_dahr (s : State) (n : Nat) : (s.rseRestoreFrame n).dahr = s.dahr := rfl
@[simp] theorem State.rseRestoreFrame_dahs (s : State) (n : Nat) : (s.rseRestoreFrame n).dahs = s.dahs := rfl
@[simp] theorem State.rseRestoreFrame_mem (s : State) (n : Nat) : (s.rseRestoreFrame n).mem = s.mem := rfl
@[simp] theorem State.rseRestoreFrame_lastIp (s : State) (n : Nat) : (s.rseRestoreFrame n).lastIp = s.lastIp := rfl
@[simp] theorem State.rseRestoreFrame_curBundle (s : State) (n : Nat) : (s.rseRestoreFrame n).curBundle = s.curBundle := rfl
@[simp] theorem State.rseRestoreFrame_pmiPending (s : State) (n : Nat) : (s.rseRestoreFrame n).pmiPending = s.pmiPending := rfl
@[simp] theorem State.rseRestoreFrame_initPending (s : State) (n : Nat) : (s.rseRestoreFrame n).initPending = s.initPending := rfl
@[simp] theorem State.rseRestoreFrame_checkPending (s : State) (n : Nat) : (s.rseRestoreFrame n).checkPending = s.checkPending := rfl
@[simp] theorem State.rseRestoreFrame_pal (s : State) (n : Nat) : (s.rseRestoreFrame n).pal = s.pal := rfl
@[simp] theorem State.rseRestoreFrame_midGroup (s : State) (n : Nat) : (s.rseRestoreFrame n).midGroup = s.midGroup := rfl
@[simp] theorem State.rseRestoreFrame_progress (s : State) (n : Nat) : (s.rseRestoreFrame n).progress = s.progress := rfl
@[simp] theorem State.rseRestoreFrame_fresh (s : State) (n : Nat) : (s.rseRestoreFrame n).fresh = s.fresh := rfl

/-! `alatInvalRange` -/

@[simp] theorem State.alatInvalRange_ip (s : State) (pa : Word) (n : Nat) : (s.alatInvalRange pa n).ip = s.ip := rfl
@[simp] theorem State.alatInvalRange_psr (s : State) (pa : Word) (n : Nat) : (s.alatInvalRange pa n).psr = s.psr := rfl
@[simp] theorem State.alatInvalRange_cfm (s : State) (pa : Word) (n : Nat) : (s.alatInvalRange pa n).cfm = s.cfm := rfl
@[simp] theorem State.alatInvalRange_grStatic (s : State) (pa : Word) (n : Nat) : (s.alatInvalRange pa n).grStatic = s.grStatic := rfl
@[simp] theorem State.alatInvalRange_grBank0 (s : State) (pa : Word) (n : Nat) : (s.alatInvalRange pa n).grBank0 = s.grBank0 := rfl
@[simp] theorem State.alatInvalRange_grBank1 (s : State) (pa : Word) (n : Nat) : (s.alatInvalRange pa n).grBank1 = s.grBank1 := rfl
@[simp] theorem State.alatInvalRange_grStacked (s : State) (pa : Word) (n : Nat) : (s.alatInvalRange pa n).grStacked = s.grStacked := rfl
@[simp] theorem State.alatInvalRange_fr (s : State) (pa : Word) (n : Nat) : (s.alatInvalRange pa n).fr = s.fr := rfl
@[simp] theorem State.alatInvalRange_pr (s : State) (pa : Word) (n : Nat) : (s.alatInvalRange pa n).pr = s.pr := rfl
@[simp] theorem State.alatInvalRange_br (s : State) (pa : Word) (n : Nat) : (s.alatInvalRange pa n).br = s.br := rfl
@[simp] theorem State.alatInvalRange_ar (s : State) (pa : Word) (n : Nat) : (s.alatInvalRange pa n).ar = s.ar := rfl
@[simp] theorem State.alatInvalRange_cr (s : State) (pa : Word) (n : Nat) : (s.alatInvalRange pa n).cr = s.cr := rfl
@[simp] theorem State.alatInvalRange_inService (s : State) (pa : Word) (n : Nat) : (s.alatInvalRange pa n).inService = s.inService := rfl
@[simp] theorem State.alatInvalRange_rse (s : State) (pa : Word) (n : Nat) : (s.alatInvalRange pa n).rse = s.rse := rfl
@[simp] theorem State.alatInvalRange_itr (s : State) (pa : Word) (n : Nat) : (s.alatInvalRange pa n).itr = s.itr := rfl
@[simp] theorem State.alatInvalRange_dtr (s : State) (pa : Word) (n : Nat) : (s.alatInvalRange pa n).dtr = s.dtr := rfl
@[simp] theorem State.alatInvalRange_itc (s : State) (pa : Word) (n : Nat) : (s.alatInvalRange pa n).itc = s.itc := rfl
@[simp] theorem State.alatInvalRange_dtc (s : State) (pa : Word) (n : Nat) : (s.alatInvalRange pa n).dtc = s.dtc := rfl
@[simp] theorem State.alatInvalRange_rr (s : State) (pa : Word) (n : Nat) : (s.alatInvalRange pa n).rr = s.rr := rfl
@[simp] theorem State.alatInvalRange_pkr (s : State) (pa : Word) (n : Nat) : (s.alatInvalRange pa n).pkr = s.pkr := rfl
@[simp] theorem State.alatInvalRange_dbr (s : State) (pa : Word) (n : Nat) : (s.alatInvalRange pa n).dbr = s.dbr := rfl
@[simp] theorem State.alatInvalRange_ibr (s : State) (pa : Word) (n : Nat) : (s.alatInvalRange pa n).ibr = s.ibr := rfl
@[simp] theorem State.alatInvalRange_pmc (s : State) (pa : Word) (n : Nat) : (s.alatInvalRange pa n).pmc = s.pmc := rfl
@[simp] theorem State.alatInvalRange_pmd (s : State) (pa : Word) (n : Nat) : (s.alatInvalRange pa n).pmd = s.pmd := rfl
@[simp] theorem State.alatInvalRange_dahr (s : State) (pa : Word) (n : Nat) : (s.alatInvalRange pa n).dahr = s.dahr := rfl
@[simp] theorem State.alatInvalRange_dahs (s : State) (pa : Word) (n : Nat) : (s.alatInvalRange pa n).dahs = s.dahs := rfl
@[simp] theorem State.alatInvalRange_mem (s : State) (pa : Word) (n : Nat) : (s.alatInvalRange pa n).mem = s.mem := rfl
@[simp] theorem State.alatInvalRange_lastIp (s : State) (pa : Word) (n : Nat) : (s.alatInvalRange pa n).lastIp = s.lastIp := rfl
@[simp] theorem State.alatInvalRange_curBundle (s : State) (pa : Word) (n : Nat) : (s.alatInvalRange pa n).curBundle = s.curBundle := rfl
@[simp] theorem State.alatInvalRange_pmiPending (s : State) (pa : Word) (n : Nat) : (s.alatInvalRange pa n).pmiPending = s.pmiPending := rfl
@[simp] theorem State.alatInvalRange_initPending (s : State) (pa : Word) (n : Nat) : (s.alatInvalRange pa n).initPending = s.initPending := rfl
@[simp] theorem State.alatInvalRange_checkPending (s : State) (pa : Word) (n : Nat) : (s.alatInvalRange pa n).checkPending = s.checkPending := rfl
@[simp] theorem State.alatInvalRange_pal (s : State) (pa : Word) (n : Nat) : (s.alatInvalRange pa n).pal = s.pal := rfl
@[simp] theorem State.alatInvalRange_midGroup (s : State) (pa : Word) (n : Nat) : (s.alatInvalRange pa n).midGroup = s.midGroup := rfl
@[simp] theorem State.alatInvalRange_progress (s : State) (pa : Word) (n : Nat) : (s.alatInvalRange pa n).progress = s.progress := rfl
@[simp] theorem State.alatInvalRange_fresh (s : State) (pa : Word) (n : Nat) : (s.alatInvalRange pa n).fresh = s.fresh := rfl

/-! `setLoc` -/

@[simp] theorem State.setLoc_ip (s : State) (l : GrLoc) (v : Gr) : (s.setLoc l v).ip = s.ip := by
  cases l <;> rfl
@[simp] theorem State.setLoc_psr (s : State) (l : GrLoc) (v : Gr) : (s.setLoc l v).psr = s.psr := by
  cases l <;> rfl
@[simp] theorem State.setLoc_cfm (s : State) (l : GrLoc) (v : Gr) : (s.setLoc l v).cfm = s.cfm := by
  cases l <;> rfl
@[simp] theorem State.setLoc_fr (s : State) (l : GrLoc) (v : Gr) : (s.setLoc l v).fr = s.fr := by
  cases l <;> rfl
@[simp] theorem State.setLoc_pr (s : State) (l : GrLoc) (v : Gr) : (s.setLoc l v).pr = s.pr := by
  cases l <;> rfl
@[simp] theorem State.setLoc_br (s : State) (l : GrLoc) (v : Gr) : (s.setLoc l v).br = s.br := by
  cases l <;> rfl
@[simp] theorem State.setLoc_ar (s : State) (l : GrLoc) (v : Gr) : (s.setLoc l v).ar = s.ar := by
  cases l <;> rfl
@[simp] theorem State.setLoc_cr (s : State) (l : GrLoc) (v : Gr) : (s.setLoc l v).cr = s.cr := by
  cases l <;> rfl
@[simp] theorem State.setLoc_inService (s : State) (l : GrLoc) (v : Gr) : (s.setLoc l v).inService = s.inService := by
  cases l <;> rfl
@[simp] theorem State.setLoc_rse (s : State) (l : GrLoc) (v : Gr) : (s.setLoc l v).rse = s.rse := by
  cases l <;> rfl
@[simp] theorem State.setLoc_alat (s : State) (l : GrLoc) (v : Gr) : (s.setLoc l v).alat = s.alat := by
  cases l <;> rfl
@[simp] theorem State.setLoc_itr (s : State) (l : GrLoc) (v : Gr) : (s.setLoc l v).itr = s.itr := by
  cases l <;> rfl
@[simp] theorem State.setLoc_dtr (s : State) (l : GrLoc) (v : Gr) : (s.setLoc l v).dtr = s.dtr := by
  cases l <;> rfl
@[simp] theorem State.setLoc_itc (s : State) (l : GrLoc) (v : Gr) : (s.setLoc l v).itc = s.itc := by
  cases l <;> rfl
@[simp] theorem State.setLoc_dtc (s : State) (l : GrLoc) (v : Gr) : (s.setLoc l v).dtc = s.dtc := by
  cases l <;> rfl
@[simp] theorem State.setLoc_rr (s : State) (l : GrLoc) (v : Gr) : (s.setLoc l v).rr = s.rr := by
  cases l <;> rfl
@[simp] theorem State.setLoc_pkr (s : State) (l : GrLoc) (v : Gr) : (s.setLoc l v).pkr = s.pkr := by
  cases l <;> rfl
@[simp] theorem State.setLoc_dbr (s : State) (l : GrLoc) (v : Gr) : (s.setLoc l v).dbr = s.dbr := by
  cases l <;> rfl
@[simp] theorem State.setLoc_ibr (s : State) (l : GrLoc) (v : Gr) : (s.setLoc l v).ibr = s.ibr := by
  cases l <;> rfl
@[simp] theorem State.setLoc_pmc (s : State) (l : GrLoc) (v : Gr) : (s.setLoc l v).pmc = s.pmc := by
  cases l <;> rfl
@[simp] theorem State.setLoc_pmd (s : State) (l : GrLoc) (v : Gr) : (s.setLoc l v).pmd = s.pmd := by
  cases l <;> rfl
@[simp] theorem State.setLoc_dahr (s : State) (l : GrLoc) (v : Gr) : (s.setLoc l v).dahr = s.dahr := by
  cases l <;> rfl
@[simp] theorem State.setLoc_dahs (s : State) (l : GrLoc) (v : Gr) : (s.setLoc l v).dahs = s.dahs := by
  cases l <;> rfl
@[simp] theorem State.setLoc_mem (s : State) (l : GrLoc) (v : Gr) : (s.setLoc l v).mem = s.mem := by
  cases l <;> rfl
@[simp] theorem State.setLoc_lastIp (s : State) (l : GrLoc) (v : Gr) : (s.setLoc l v).lastIp = s.lastIp := by
  cases l <;> rfl
@[simp] theorem State.setLoc_curBundle (s : State) (l : GrLoc) (v : Gr) : (s.setLoc l v).curBundle = s.curBundle := by
  cases l <;> rfl
@[simp] theorem State.setLoc_pmiPending (s : State) (l : GrLoc) (v : Gr) : (s.setLoc l v).pmiPending = s.pmiPending := by
  cases l <;> rfl
@[simp] theorem State.setLoc_initPending (s : State) (l : GrLoc) (v : Gr) : (s.setLoc l v).initPending = s.initPending := by
  cases l <;> rfl
@[simp] theorem State.setLoc_checkPending (s : State) (l : GrLoc) (v : Gr) : (s.setLoc l v).checkPending = s.checkPending := by
  cases l <;> rfl
@[simp] theorem State.setLoc_pal (s : State) (l : GrLoc) (v : Gr) : (s.setLoc l v).pal = s.pal := by
  cases l <;> rfl
@[simp] theorem State.setLoc_midGroup (s : State) (l : GrLoc) (v : Gr) : (s.setLoc l v).midGroup = s.midGroup := by
  cases l <;> rfl
@[simp] theorem State.setLoc_progress (s : State) (l : GrLoc) (v : Gr) : (s.setLoc l v).progress = s.progress := by
  cases l <;> rfl
@[simp] theorem State.setLoc_fresh (s : State) (l : GrLoc) (v : Gr) : (s.setLoc l v).fresh = s.fresh := by
  cases l <;> rfl

/-! `setGr` -/

@[simp] theorem State.setGr_ip (s : State) (r : BitVec 7) (v : Gr) : (s.setGr r v).ip = s.ip := State.setLoc_ip _ _ _
@[simp] theorem State.setGr_psr (s : State) (r : BitVec 7) (v : Gr) : (s.setGr r v).psr = s.psr := State.setLoc_psr _ _ _
@[simp] theorem State.setGr_cfm (s : State) (r : BitVec 7) (v : Gr) : (s.setGr r v).cfm = s.cfm := State.setLoc_cfm _ _ _
@[simp] theorem State.setGr_fr (s : State) (r : BitVec 7) (v : Gr) : (s.setGr r v).fr = s.fr := State.setLoc_fr _ _ _
@[simp] theorem State.setGr_pr (s : State) (r : BitVec 7) (v : Gr) : (s.setGr r v).pr = s.pr := State.setLoc_pr _ _ _
@[simp] theorem State.setGr_br (s : State) (r : BitVec 7) (v : Gr) : (s.setGr r v).br = s.br := State.setLoc_br _ _ _
@[simp] theorem State.setGr_ar (s : State) (r : BitVec 7) (v : Gr) : (s.setGr r v).ar = s.ar := State.setLoc_ar _ _ _
@[simp] theorem State.setGr_cr (s : State) (r : BitVec 7) (v : Gr) : (s.setGr r v).cr = s.cr := State.setLoc_cr _ _ _
@[simp] theorem State.setGr_inService (s : State) (r : BitVec 7) (v : Gr) : (s.setGr r v).inService = s.inService := State.setLoc_inService _ _ _
@[simp] theorem State.setGr_rse (s : State) (r : BitVec 7) (v : Gr) : (s.setGr r v).rse = s.rse := State.setLoc_rse _ _ _
@[simp] theorem State.setGr_alat (s : State) (r : BitVec 7) (v : Gr) : (s.setGr r v).alat = s.alat := State.setLoc_alat _ _ _
@[simp] theorem State.setGr_itr (s : State) (r : BitVec 7) (v : Gr) : (s.setGr r v).itr = s.itr := State.setLoc_itr _ _ _
@[simp] theorem State.setGr_dtr (s : State) (r : BitVec 7) (v : Gr) : (s.setGr r v).dtr = s.dtr := State.setLoc_dtr _ _ _
@[simp] theorem State.setGr_itc (s : State) (r : BitVec 7) (v : Gr) : (s.setGr r v).itc = s.itc := State.setLoc_itc _ _ _
@[simp] theorem State.setGr_dtc (s : State) (r : BitVec 7) (v : Gr) : (s.setGr r v).dtc = s.dtc := State.setLoc_dtc _ _ _
@[simp] theorem State.setGr_rr (s : State) (r : BitVec 7) (v : Gr) : (s.setGr r v).rr = s.rr := State.setLoc_rr _ _ _
@[simp] theorem State.setGr_pkr (s : State) (r : BitVec 7) (v : Gr) : (s.setGr r v).pkr = s.pkr := State.setLoc_pkr _ _ _
@[simp] theorem State.setGr_dbr (s : State) (r : BitVec 7) (v : Gr) : (s.setGr r v).dbr = s.dbr := State.setLoc_dbr _ _ _
@[simp] theorem State.setGr_ibr (s : State) (r : BitVec 7) (v : Gr) : (s.setGr r v).ibr = s.ibr := State.setLoc_ibr _ _ _
@[simp] theorem State.setGr_pmc (s : State) (r : BitVec 7) (v : Gr) : (s.setGr r v).pmc = s.pmc := State.setLoc_pmc _ _ _
@[simp] theorem State.setGr_pmd (s : State) (r : BitVec 7) (v : Gr) : (s.setGr r v).pmd = s.pmd := State.setLoc_pmd _ _ _
@[simp] theorem State.setGr_dahr (s : State) (r : BitVec 7) (v : Gr) : (s.setGr r v).dahr = s.dahr := State.setLoc_dahr _ _ _
@[simp] theorem State.setGr_dahs (s : State) (r : BitVec 7) (v : Gr) : (s.setGr r v).dahs = s.dahs := State.setLoc_dahs _ _ _
@[simp] theorem State.setGr_mem (s : State) (r : BitVec 7) (v : Gr) : (s.setGr r v).mem = s.mem := State.setLoc_mem _ _ _
@[simp] theorem State.setGr_lastIp (s : State) (r : BitVec 7) (v : Gr) : (s.setGr r v).lastIp = s.lastIp := State.setLoc_lastIp _ _ _
@[simp] theorem State.setGr_curBundle (s : State) (r : BitVec 7) (v : Gr) : (s.setGr r v).curBundle = s.curBundle := State.setLoc_curBundle _ _ _
@[simp] theorem State.setGr_pmiPending (s : State) (r : BitVec 7) (v : Gr) : (s.setGr r v).pmiPending = s.pmiPending := State.setLoc_pmiPending _ _ _
@[simp] theorem State.setGr_initPending (s : State) (r : BitVec 7) (v : Gr) : (s.setGr r v).initPending = s.initPending := State.setLoc_initPending _ _ _
@[simp] theorem State.setGr_checkPending (s : State) (r : BitVec 7) (v : Gr) : (s.setGr r v).checkPending = s.checkPending := State.setLoc_checkPending _ _ _
@[simp] theorem State.setGr_pal (s : State) (r : BitVec 7) (v : Gr) : (s.setGr r v).pal = s.pal := State.setLoc_pal _ _ _
@[simp] theorem State.setGr_midGroup (s : State) (r : BitVec 7) (v : Gr) : (s.setGr r v).midGroup = s.midGroup := State.setLoc_midGroup _ _ _
@[simp] theorem State.setGr_progress (s : State) (r : BitVec 7) (v : Gr) : (s.setGr r v).progress = s.progress := State.setLoc_progress _ _ _
@[simp] theorem State.setGr_fresh (s : State) (r : BitVec 7) (v : Gr) : (s.setGr r v).fresh = s.fresh := State.setLoc_fresh _ _ _

/-! `setPr` -/

@[simp] theorem State.setPr_ip (s : State) (p : BitVec 6) (b : Bool) : (s.setPr p b).ip = s.ip := by
  unfold State.setPr; split <;> rfl
@[simp] theorem State.setPr_psr (s : State) (p : BitVec 6) (b : Bool) : (s.setPr p b).psr = s.psr := by
  unfold State.setPr; split <;> rfl
@[simp] theorem State.setPr_cfm (s : State) (p : BitVec 6) (b : Bool) : (s.setPr p b).cfm = s.cfm := by
  unfold State.setPr; split <;> rfl
@[simp] theorem State.setPr_grStatic (s : State) (p : BitVec 6) (b : Bool) : (s.setPr p b).grStatic = s.grStatic := by
  unfold State.setPr; split <;> rfl
@[simp] theorem State.setPr_grBank0 (s : State) (p : BitVec 6) (b : Bool) : (s.setPr p b).grBank0 = s.grBank0 := by
  unfold State.setPr; split <;> rfl
@[simp] theorem State.setPr_grBank1 (s : State) (p : BitVec 6) (b : Bool) : (s.setPr p b).grBank1 = s.grBank1 := by
  unfold State.setPr; split <;> rfl
@[simp] theorem State.setPr_grStacked (s : State) (p : BitVec 6) (b : Bool) : (s.setPr p b).grStacked = s.grStacked := by
  unfold State.setPr; split <;> rfl
@[simp] theorem State.setPr_fr (s : State) (p : BitVec 6) (b : Bool) : (s.setPr p b).fr = s.fr := by
  unfold State.setPr; split <;> rfl
@[simp] theorem State.setPr_br (s : State) (p : BitVec 6) (b : Bool) : (s.setPr p b).br = s.br := by
  unfold State.setPr; split <;> rfl
@[simp] theorem State.setPr_ar (s : State) (p : BitVec 6) (b : Bool) : (s.setPr p b).ar = s.ar := by
  unfold State.setPr; split <;> rfl
@[simp] theorem State.setPr_cr (s : State) (p : BitVec 6) (b : Bool) : (s.setPr p b).cr = s.cr := by
  unfold State.setPr; split <;> rfl
@[simp] theorem State.setPr_inService (s : State) (p : BitVec 6) (b : Bool) : (s.setPr p b).inService = s.inService := by
  unfold State.setPr; split <;> rfl
@[simp] theorem State.setPr_rse (s : State) (p : BitVec 6) (b : Bool) : (s.setPr p b).rse = s.rse := by
  unfold State.setPr; split <;> rfl
@[simp] theorem State.setPr_alat (s : State) (p : BitVec 6) (b : Bool) : (s.setPr p b).alat = s.alat := by
  unfold State.setPr; split <;> rfl
@[simp] theorem State.setPr_itr (s : State) (p : BitVec 6) (b : Bool) : (s.setPr p b).itr = s.itr := by
  unfold State.setPr; split <;> rfl
@[simp] theorem State.setPr_dtr (s : State) (p : BitVec 6) (b : Bool) : (s.setPr p b).dtr = s.dtr := by
  unfold State.setPr; split <;> rfl
@[simp] theorem State.setPr_itc (s : State) (p : BitVec 6) (b : Bool) : (s.setPr p b).itc = s.itc := by
  unfold State.setPr; split <;> rfl
@[simp] theorem State.setPr_dtc (s : State) (p : BitVec 6) (b : Bool) : (s.setPr p b).dtc = s.dtc := by
  unfold State.setPr; split <;> rfl
@[simp] theorem State.setPr_rr (s : State) (p : BitVec 6) (b : Bool) : (s.setPr p b).rr = s.rr := by
  unfold State.setPr; split <;> rfl
@[simp] theorem State.setPr_pkr (s : State) (p : BitVec 6) (b : Bool) : (s.setPr p b).pkr = s.pkr := by
  unfold State.setPr; split <;> rfl
@[simp] theorem State.setPr_dbr (s : State) (p : BitVec 6) (b : Bool) : (s.setPr p b).dbr = s.dbr := by
  unfold State.setPr; split <;> rfl
@[simp] theorem State.setPr_ibr (s : State) (p : BitVec 6) (b : Bool) : (s.setPr p b).ibr = s.ibr := by
  unfold State.setPr; split <;> rfl
@[simp] theorem State.setPr_pmc (s : State) (p : BitVec 6) (b : Bool) : (s.setPr p b).pmc = s.pmc := by
  unfold State.setPr; split <;> rfl
@[simp] theorem State.setPr_pmd (s : State) (p : BitVec 6) (b : Bool) : (s.setPr p b).pmd = s.pmd := by
  unfold State.setPr; split <;> rfl
@[simp] theorem State.setPr_dahr (s : State) (p : BitVec 6) (b : Bool) : (s.setPr p b).dahr = s.dahr := by
  unfold State.setPr; split <;> rfl
@[simp] theorem State.setPr_dahs (s : State) (p : BitVec 6) (b : Bool) : (s.setPr p b).dahs = s.dahs := by
  unfold State.setPr; split <;> rfl
@[simp] theorem State.setPr_mem (s : State) (p : BitVec 6) (b : Bool) : (s.setPr p b).mem = s.mem := by
  unfold State.setPr; split <;> rfl
@[simp] theorem State.setPr_lastIp (s : State) (p : BitVec 6) (b : Bool) : (s.setPr p b).lastIp = s.lastIp := by
  unfold State.setPr; split <;> rfl
@[simp] theorem State.setPr_curBundle (s : State) (p : BitVec 6) (b : Bool) : (s.setPr p b).curBundle = s.curBundle := by
  unfold State.setPr; split <;> rfl
@[simp] theorem State.setPr_pmiPending (s : State) (p : BitVec 6) (b : Bool) : (s.setPr p b).pmiPending = s.pmiPending := by
  unfold State.setPr; split <;> rfl
@[simp] theorem State.setPr_initPending (s : State) (p : BitVec 6) (b : Bool) : (s.setPr p b).initPending = s.initPending := by
  unfold State.setPr; split <;> rfl
@[simp] theorem State.setPr_checkPending (s : State) (p : BitVec 6) (b : Bool) : (s.setPr p b).checkPending = s.checkPending := by
  unfold State.setPr; split <;> rfl
@[simp] theorem State.setPr_pal (s : State) (p : BitVec 6) (b : Bool) : (s.setPr p b).pal = s.pal := by
  unfold State.setPr; split <;> rfl
@[simp] theorem State.setPr_midGroup (s : State) (p : BitVec 6) (b : Bool) : (s.setPr p b).midGroup = s.midGroup := by
  unfold State.setPr; split <;> rfl
@[simp] theorem State.setPr_progress (s : State) (p : BitVec 6) (b : Bool) : (s.setPr p b).progress = s.progress := by
  unfold State.setPr; split <;> rfl
@[simp] theorem State.setPr_fresh (s : State) (p : BitVec 6) (b : Bool) : (s.setPr p b).fresh = s.fresh := by
  unfold State.setPr; split <;> rfl

/-! `setPrs` -/

@[simp] theorem State.setPrs_ip (s : State) (p q : BitVec 6) (b c : Bool) : (s.setPrs p q b c).ip = s.ip := by
  simp [State.setPrs]
@[simp] theorem State.setPrs_psr (s : State) (p q : BitVec 6) (b c : Bool) : (s.setPrs p q b c).psr = s.psr := by
  simp [State.setPrs]
@[simp] theorem State.setPrs_cfm (s : State) (p q : BitVec 6) (b c : Bool) : (s.setPrs p q b c).cfm = s.cfm := by
  simp [State.setPrs]
@[simp] theorem State.setPrs_grStatic (s : State) (p q : BitVec 6) (b c : Bool) : (s.setPrs p q b c).grStatic = s.grStatic := by
  simp [State.setPrs]
@[simp] theorem State.setPrs_grBank0 (s : State) (p q : BitVec 6) (b c : Bool) : (s.setPrs p q b c).grBank0 = s.grBank0 := by
  simp [State.setPrs]
@[simp] theorem State.setPrs_grBank1 (s : State) (p q : BitVec 6) (b c : Bool) : (s.setPrs p q b c).grBank1 = s.grBank1 := by
  simp [State.setPrs]
@[simp] theorem State.setPrs_grStacked (s : State) (p q : BitVec 6) (b c : Bool) : (s.setPrs p q b c).grStacked = s.grStacked := by
  simp [State.setPrs]
@[simp] theorem State.setPrs_fr (s : State) (p q : BitVec 6) (b c : Bool) : (s.setPrs p q b c).fr = s.fr := by
  simp [State.setPrs]
@[simp] theorem State.setPrs_br (s : State) (p q : BitVec 6) (b c : Bool) : (s.setPrs p q b c).br = s.br := by
  simp [State.setPrs]
@[simp] theorem State.setPrs_ar (s : State) (p q : BitVec 6) (b c : Bool) : (s.setPrs p q b c).ar = s.ar := by
  simp [State.setPrs]
@[simp] theorem State.setPrs_cr (s : State) (p q : BitVec 6) (b c : Bool) : (s.setPrs p q b c).cr = s.cr := by
  simp [State.setPrs]
@[simp] theorem State.setPrs_inService (s : State) (p q : BitVec 6) (b c : Bool) : (s.setPrs p q b c).inService = s.inService := by
  simp [State.setPrs]
@[simp] theorem State.setPrs_rse (s : State) (p q : BitVec 6) (b c : Bool) : (s.setPrs p q b c).rse = s.rse := by
  simp [State.setPrs]
@[simp] theorem State.setPrs_alat (s : State) (p q : BitVec 6) (b c : Bool) : (s.setPrs p q b c).alat = s.alat := by
  simp [State.setPrs]
@[simp] theorem State.setPrs_itr (s : State) (p q : BitVec 6) (b c : Bool) : (s.setPrs p q b c).itr = s.itr := by
  simp [State.setPrs]
@[simp] theorem State.setPrs_dtr (s : State) (p q : BitVec 6) (b c : Bool) : (s.setPrs p q b c).dtr = s.dtr := by
  simp [State.setPrs]
@[simp] theorem State.setPrs_itc (s : State) (p q : BitVec 6) (b c : Bool) : (s.setPrs p q b c).itc = s.itc := by
  simp [State.setPrs]
@[simp] theorem State.setPrs_dtc (s : State) (p q : BitVec 6) (b c : Bool) : (s.setPrs p q b c).dtc = s.dtc := by
  simp [State.setPrs]
@[simp] theorem State.setPrs_rr (s : State) (p q : BitVec 6) (b c : Bool) : (s.setPrs p q b c).rr = s.rr := by
  simp [State.setPrs]
@[simp] theorem State.setPrs_pkr (s : State) (p q : BitVec 6) (b c : Bool) : (s.setPrs p q b c).pkr = s.pkr := by
  simp [State.setPrs]
@[simp] theorem State.setPrs_dbr (s : State) (p q : BitVec 6) (b c : Bool) : (s.setPrs p q b c).dbr = s.dbr := by
  simp [State.setPrs]
@[simp] theorem State.setPrs_ibr (s : State) (p q : BitVec 6) (b c : Bool) : (s.setPrs p q b c).ibr = s.ibr := by
  simp [State.setPrs]
@[simp] theorem State.setPrs_pmc (s : State) (p q : BitVec 6) (b c : Bool) : (s.setPrs p q b c).pmc = s.pmc := by
  simp [State.setPrs]
@[simp] theorem State.setPrs_pmd (s : State) (p q : BitVec 6) (b c : Bool) : (s.setPrs p q b c).pmd = s.pmd := by
  simp [State.setPrs]
@[simp] theorem State.setPrs_dahr (s : State) (p q : BitVec 6) (b c : Bool) : (s.setPrs p q b c).dahr = s.dahr := by
  simp [State.setPrs]
@[simp] theorem State.setPrs_dahs (s : State) (p q : BitVec 6) (b c : Bool) : (s.setPrs p q b c).dahs = s.dahs := by
  simp [State.setPrs]
@[simp] theorem State.setPrs_mem (s : State) (p q : BitVec 6) (b c : Bool) : (s.setPrs p q b c).mem = s.mem := by
  simp [State.setPrs]
@[simp] theorem State.setPrs_lastIp (s : State) (p q : BitVec 6) (b c : Bool) : (s.setPrs p q b c).lastIp = s.lastIp := by
  simp [State.setPrs]
@[simp] theorem State.setPrs_curBundle (s : State) (p q : BitVec 6) (b c : Bool) : (s.setPrs p q b c).curBundle = s.curBundle := by
  simp [State.setPrs]
@[simp] theorem State.setPrs_pmiPending (s : State) (p q : BitVec 6) (b c : Bool) : (s.setPrs p q b c).pmiPending = s.pmiPending := by
  simp [State.setPrs]
@[simp] theorem State.setPrs_initPending (s : State) (p q : BitVec 6) (b c : Bool) : (s.setPrs p q b c).initPending = s.initPending := by
  simp [State.setPrs]
@[simp] theorem State.setPrs_checkPending (s : State) (p q : BitVec 6) (b c : Bool) : (s.setPrs p q b c).checkPending = s.checkPending := by
  simp [State.setPrs]
@[simp] theorem State.setPrs_pal (s : State) (p q : BitVec 6) (b c : Bool) : (s.setPrs p q b c).pal = s.pal := by
  simp [State.setPrs]
@[simp] theorem State.setPrs_midGroup (s : State) (p q : BitVec 6) (b c : Bool) : (s.setPrs p q b c).midGroup = s.midGroup := by
  simp [State.setPrs]
@[simp] theorem State.setPrs_progress (s : State) (p q : BitVec 6) (b c : Bool) : (s.setPrs p q b c).progress = s.progress := by
  simp [State.setPrs]
@[simp] theorem State.setPrs_fresh (s : State) (p q : BitVec 6) (b c : Bool) : (s.setPrs p q b c).fresh = s.fresh := by
  simp [State.setPrs]

/-! `setFpr` -/

@[simp] theorem State.setFpr_ip (s : State) (f : BitVec 7) (v : Fr) : (s.setFpr f v).ip = s.ip := by
  unfold State.setFpr; split <;> rfl
@[simp] theorem State.setFpr_cfm (s : State) (f : BitVec 7) (v : Fr) : (s.setFpr f v).cfm = s.cfm := by
  unfold State.setFpr; split <;> rfl
@[simp] theorem State.setFpr_grStatic (s : State) (f : BitVec 7) (v : Fr) : (s.setFpr f v).grStatic = s.grStatic := by
  unfold State.setFpr; split <;> rfl
@[simp] theorem State.setFpr_grBank0 (s : State) (f : BitVec 7) (v : Fr) : (s.setFpr f v).grBank0 = s.grBank0 := by
  unfold State.setFpr; split <;> rfl
@[simp] theorem State.setFpr_grBank1 (s : State) (f : BitVec 7) (v : Fr) : (s.setFpr f v).grBank1 = s.grBank1 := by
  unfold State.setFpr; split <;> rfl
@[simp] theorem State.setFpr_grStacked (s : State) (f : BitVec 7) (v : Fr) : (s.setFpr f v).grStacked = s.grStacked := by
  unfold State.setFpr; split <;> rfl
@[simp] theorem State.setFpr_pr (s : State) (f : BitVec 7) (v : Fr) : (s.setFpr f v).pr = s.pr := by
  unfold State.setFpr; split <;> rfl
@[simp] theorem State.setFpr_br (s : State) (f : BitVec 7) (v : Fr) : (s.setFpr f v).br = s.br := by
  unfold State.setFpr; split <;> rfl
@[simp] theorem State.setFpr_ar (s : State) (f : BitVec 7) (v : Fr) : (s.setFpr f v).ar = s.ar := by
  unfold State.setFpr; split <;> rfl
@[simp] theorem State.setFpr_cr (s : State) (f : BitVec 7) (v : Fr) : (s.setFpr f v).cr = s.cr := by
  unfold State.setFpr; split <;> rfl
@[simp] theorem State.setFpr_inService (s : State) (f : BitVec 7) (v : Fr) : (s.setFpr f v).inService = s.inService := by
  unfold State.setFpr; split <;> rfl
@[simp] theorem State.setFpr_rse (s : State) (f : BitVec 7) (v : Fr) : (s.setFpr f v).rse = s.rse := by
  unfold State.setFpr; split <;> rfl
@[simp] theorem State.setFpr_alat (s : State) (f : BitVec 7) (v : Fr) : (s.setFpr f v).alat = s.alat := by
  unfold State.setFpr; split <;> rfl
@[simp] theorem State.setFpr_itr (s : State) (f : BitVec 7) (v : Fr) : (s.setFpr f v).itr = s.itr := by
  unfold State.setFpr; split <;> rfl
@[simp] theorem State.setFpr_dtr (s : State) (f : BitVec 7) (v : Fr) : (s.setFpr f v).dtr = s.dtr := by
  unfold State.setFpr; split <;> rfl
@[simp] theorem State.setFpr_itc (s : State) (f : BitVec 7) (v : Fr) : (s.setFpr f v).itc = s.itc := by
  unfold State.setFpr; split <;> rfl
@[simp] theorem State.setFpr_dtc (s : State) (f : BitVec 7) (v : Fr) : (s.setFpr f v).dtc = s.dtc := by
  unfold State.setFpr; split <;> rfl
@[simp] theorem State.setFpr_rr (s : State) (f : BitVec 7) (v : Fr) : (s.setFpr f v).rr = s.rr := by
  unfold State.setFpr; split <;> rfl
@[simp] theorem State.setFpr_pkr (s : State) (f : BitVec 7) (v : Fr) : (s.setFpr f v).pkr = s.pkr := by
  unfold State.setFpr; split <;> rfl
@[simp] theorem State.setFpr_dbr (s : State) (f : BitVec 7) (v : Fr) : (s.setFpr f v).dbr = s.dbr := by
  unfold State.setFpr; split <;> rfl
@[simp] theorem State.setFpr_ibr (s : State) (f : BitVec 7) (v : Fr) : (s.setFpr f v).ibr = s.ibr := by
  unfold State.setFpr; split <;> rfl
@[simp] theorem State.setFpr_pmc (s : State) (f : BitVec 7) (v : Fr) : (s.setFpr f v).pmc = s.pmc := by
  unfold State.setFpr; split <;> rfl
@[simp] theorem State.setFpr_pmd (s : State) (f : BitVec 7) (v : Fr) : (s.setFpr f v).pmd = s.pmd := by
  unfold State.setFpr; split <;> rfl
@[simp] theorem State.setFpr_dahr (s : State) (f : BitVec 7) (v : Fr) : (s.setFpr f v).dahr = s.dahr := by
  unfold State.setFpr; split <;> rfl
@[simp] theorem State.setFpr_dahs (s : State) (f : BitVec 7) (v : Fr) : (s.setFpr f v).dahs = s.dahs := by
  unfold State.setFpr; split <;> rfl
@[simp] theorem State.setFpr_mem (s : State) (f : BitVec 7) (v : Fr) : (s.setFpr f v).mem = s.mem := by
  unfold State.setFpr; split <;> rfl
@[simp] theorem State.setFpr_lastIp (s : State) (f : BitVec 7) (v : Fr) : (s.setFpr f v).lastIp = s.lastIp := by
  unfold State.setFpr; split <;> rfl
@[simp] theorem State.setFpr_curBundle (s : State) (f : BitVec 7) (v : Fr) : (s.setFpr f v).curBundle = s.curBundle := by
  unfold State.setFpr; split <;> rfl
@[simp] theorem State.setFpr_pmiPending (s : State) (f : BitVec 7) (v : Fr) : (s.setFpr f v).pmiPending = s.pmiPending := by
  unfold State.setFpr; split <;> rfl
@[simp] theorem State.setFpr_initPending (s : State) (f : BitVec 7) (v : Fr) : (s.setFpr f v).initPending = s.initPending := by
  unfold State.setFpr; split <;> rfl
@[simp] theorem State.setFpr_checkPending (s : State) (f : BitVec 7) (v : Fr) : (s.setFpr f v).checkPending = s.checkPending := by
  unfold State.setFpr; split <;> rfl
@[simp] theorem State.setFpr_pal (s : State) (f : BitVec 7) (v : Fr) : (s.setFpr f v).pal = s.pal := by
  unfold State.setFpr; split <;> rfl
@[simp] theorem State.setFpr_midGroup (s : State) (f : BitVec 7) (v : Fr) : (s.setFpr f v).midGroup = s.midGroup := by
  unfold State.setFpr; split <;> rfl
@[simp] theorem State.setFpr_progress (s : State) (f : BitVec 7) (v : Fr) : (s.setFpr f v).progress = s.progress := by
  unfold State.setFpr; split <;> rfl
@[simp] theorem State.setFpr_fresh (s : State) (f : BitVec 7) (v : Fr) : (s.setFpr f v).fresh = s.fresh := by
  unfold State.setFpr; split <;> rfl

/-! `postUpdate` -/

@[simp] theorem State.postUpdate_ip (s : State) (u : State) (r : BitVec 7) (p : Post) : (s.postUpdate u r p).ip = s.ip := by
  unfold State.postUpdate; split <;> simp
@[simp] theorem State.postUpdate_psr (s : State) (u : State) (r : BitVec 7) (p : Post) : (s.postUpdate u r p).psr = s.psr := by
  unfold State.postUpdate; split <;> simp
@[simp] theorem State.postUpdate_cfm (s : State) (u : State) (r : BitVec 7) (p : Post) : (s.postUpdate u r p).cfm = s.cfm := by
  unfold State.postUpdate; split <;> simp
@[simp] theorem State.postUpdate_fr (s : State) (u : State) (r : BitVec 7) (p : Post) : (s.postUpdate u r p).fr = s.fr := by
  unfold State.postUpdate; split <;> simp
@[simp] theorem State.postUpdate_pr (s : State) (u : State) (r : BitVec 7) (p : Post) : (s.postUpdate u r p).pr = s.pr := by
  unfold State.postUpdate; split <;> simp
@[simp] theorem State.postUpdate_br (s : State) (u : State) (r : BitVec 7) (p : Post) : (s.postUpdate u r p).br = s.br := by
  unfold State.postUpdate; split <;> simp
@[simp] theorem State.postUpdate_ar (s : State) (u : State) (r : BitVec 7) (p : Post) : (s.postUpdate u r p).ar = s.ar := by
  unfold State.postUpdate; split <;> simp
@[simp] theorem State.postUpdate_cr (s : State) (u : State) (r : BitVec 7) (p : Post) : (s.postUpdate u r p).cr = s.cr := by
  unfold State.postUpdate; split <;> simp
@[simp] theorem State.postUpdate_inService (s : State) (u : State) (r : BitVec 7) (p : Post) : (s.postUpdate u r p).inService = s.inService := by
  unfold State.postUpdate; split <;> simp
@[simp] theorem State.postUpdate_rse (s : State) (u : State) (r : BitVec 7) (p : Post) : (s.postUpdate u r p).rse = s.rse := by
  unfold State.postUpdate; split <;> simp
@[simp] theorem State.postUpdate_alat (s : State) (u : State) (r : BitVec 7) (p : Post) : (s.postUpdate u r p).alat = s.alat := by
  unfold State.postUpdate; split <;> simp
@[simp] theorem State.postUpdate_itr (s : State) (u : State) (r : BitVec 7) (p : Post) : (s.postUpdate u r p).itr = s.itr := by
  unfold State.postUpdate; split <;> simp
@[simp] theorem State.postUpdate_dtr (s : State) (u : State) (r : BitVec 7) (p : Post) : (s.postUpdate u r p).dtr = s.dtr := by
  unfold State.postUpdate; split <;> simp
@[simp] theorem State.postUpdate_itc (s : State) (u : State) (r : BitVec 7) (p : Post) : (s.postUpdate u r p).itc = s.itc := by
  unfold State.postUpdate; split <;> simp
@[simp] theorem State.postUpdate_dtc (s : State) (u : State) (r : BitVec 7) (p : Post) : (s.postUpdate u r p).dtc = s.dtc := by
  unfold State.postUpdate; split <;> simp
@[simp] theorem State.postUpdate_rr (s : State) (u : State) (r : BitVec 7) (p : Post) : (s.postUpdate u r p).rr = s.rr := by
  unfold State.postUpdate; split <;> simp
@[simp] theorem State.postUpdate_pkr (s : State) (u : State) (r : BitVec 7) (p : Post) : (s.postUpdate u r p).pkr = s.pkr := by
  unfold State.postUpdate; split <;> simp
@[simp] theorem State.postUpdate_dbr (s : State) (u : State) (r : BitVec 7) (p : Post) : (s.postUpdate u r p).dbr = s.dbr := by
  unfold State.postUpdate; split <;> simp
@[simp] theorem State.postUpdate_ibr (s : State) (u : State) (r : BitVec 7) (p : Post) : (s.postUpdate u r p).ibr = s.ibr := by
  unfold State.postUpdate; split <;> simp
@[simp] theorem State.postUpdate_pmc (s : State) (u : State) (r : BitVec 7) (p : Post) : (s.postUpdate u r p).pmc = s.pmc := by
  unfold State.postUpdate; split <;> simp
@[simp] theorem State.postUpdate_pmd (s : State) (u : State) (r : BitVec 7) (p : Post) : (s.postUpdate u r p).pmd = s.pmd := by
  unfold State.postUpdate; split <;> simp
@[simp] theorem State.postUpdate_dahr (s : State) (u : State) (r : BitVec 7) (p : Post) : (s.postUpdate u r p).dahr = s.dahr := by
  unfold State.postUpdate; split <;> simp
@[simp] theorem State.postUpdate_dahs (s : State) (u : State) (r : BitVec 7) (p : Post) : (s.postUpdate u r p).dahs = s.dahs := by
  unfold State.postUpdate; split <;> simp
@[simp] theorem State.postUpdate_mem (s : State) (u : State) (r : BitVec 7) (p : Post) : (s.postUpdate u r p).mem = s.mem := by
  unfold State.postUpdate; split <;> simp
@[simp] theorem State.postUpdate_lastIp (s : State) (u : State) (r : BitVec 7) (p : Post) : (s.postUpdate u r p).lastIp = s.lastIp := by
  unfold State.postUpdate; split <;> simp
@[simp] theorem State.postUpdate_curBundle (s : State) (u : State) (r : BitVec 7) (p : Post) : (s.postUpdate u r p).curBundle = s.curBundle := by
  unfold State.postUpdate; split <;> simp
@[simp] theorem State.postUpdate_pmiPending (s : State) (u : State) (r : BitVec 7) (p : Post) : (s.postUpdate u r p).pmiPending = s.pmiPending := by
  unfold State.postUpdate; split <;> simp
@[simp] theorem State.postUpdate_initPending (s : State) (u : State) (r : BitVec 7) (p : Post) : (s.postUpdate u r p).initPending = s.initPending := by
  unfold State.postUpdate; split <;> simp
@[simp] theorem State.postUpdate_checkPending (s : State) (u : State) (r : BitVec 7) (p : Post) : (s.postUpdate u r p).checkPending = s.checkPending := by
  unfold State.postUpdate; split <;> simp
@[simp] theorem State.postUpdate_pal (s : State) (u : State) (r : BitVec 7) (p : Post) : (s.postUpdate u r p).pal = s.pal := by
  unfold State.postUpdate; split <;> simp
@[simp] theorem State.postUpdate_midGroup (s : State) (u : State) (r : BitVec 7) (p : Post) : (s.postUpdate u r p).midGroup = s.midGroup := by
  unfold State.postUpdate; split <;> simp
@[simp] theorem State.postUpdate_progress (s : State) (u : State) (r : BitVec 7) (p : Post) : (s.postUpdate u r p).progress = s.progress := by
  unfold State.postUpdate; split <;> simp
@[simp] theorem State.postUpdate_fresh (s : State) (u : State) (r : BitVec 7) (p : Post) : (s.postUpdate u r p).fresh = s.fresh := by
  unfold State.postUpdate; split <;> simp

/-! `keepWalk` -/

@[simp] theorem State.keepWalk_ip (s : State) (w : Option TlbEntry) : (s.keepWalk w).ip = s.ip := by
  cases w <;> rfl
@[simp] theorem State.keepWalk_psr (s : State) (w : Option TlbEntry) : (s.keepWalk w).psr = s.psr := by
  cases w <;> rfl
@[simp] theorem State.keepWalk_cfm (s : State) (w : Option TlbEntry) : (s.keepWalk w).cfm = s.cfm := by
  cases w <;> rfl
@[simp] theorem State.keepWalk_grStatic (s : State) (w : Option TlbEntry) : (s.keepWalk w).grStatic = s.grStatic := by
  cases w <;> rfl
@[simp] theorem State.keepWalk_grBank0 (s : State) (w : Option TlbEntry) : (s.keepWalk w).grBank0 = s.grBank0 := by
  cases w <;> rfl
@[simp] theorem State.keepWalk_grBank1 (s : State) (w : Option TlbEntry) : (s.keepWalk w).grBank1 = s.grBank1 := by
  cases w <;> rfl
@[simp] theorem State.keepWalk_grStacked (s : State) (w : Option TlbEntry) : (s.keepWalk w).grStacked = s.grStacked := by
  cases w <;> rfl
@[simp] theorem State.keepWalk_fr (s : State) (w : Option TlbEntry) : (s.keepWalk w).fr = s.fr := by
  cases w <;> rfl
@[simp] theorem State.keepWalk_pr (s : State) (w : Option TlbEntry) : (s.keepWalk w).pr = s.pr := by
  cases w <;> rfl
@[simp] theorem State.keepWalk_br (s : State) (w : Option TlbEntry) : (s.keepWalk w).br = s.br := by
  cases w <;> rfl
@[simp] theorem State.keepWalk_ar (s : State) (w : Option TlbEntry) : (s.keepWalk w).ar = s.ar := by
  cases w <;> rfl
@[simp] theorem State.keepWalk_cr (s : State) (w : Option TlbEntry) : (s.keepWalk w).cr = s.cr := by
  cases w <;> rfl
@[simp] theorem State.keepWalk_inService (s : State) (w : Option TlbEntry) : (s.keepWalk w).inService = s.inService := by
  cases w <;> rfl
@[simp] theorem State.keepWalk_rse (s : State) (w : Option TlbEntry) : (s.keepWalk w).rse = s.rse := by
  cases w <;> rfl
@[simp] theorem State.keepWalk_alat (s : State) (w : Option TlbEntry) : (s.keepWalk w).alat = s.alat := by
  cases w <;> rfl
@[simp] theorem State.keepWalk_itr (s : State) (w : Option TlbEntry) : (s.keepWalk w).itr = s.itr := by
  cases w <;> rfl
@[simp] theorem State.keepWalk_dtr (s : State) (w : Option TlbEntry) : (s.keepWalk w).dtr = s.dtr := by
  cases w <;> rfl
@[simp] theorem State.keepWalk_itc (s : State) (w : Option TlbEntry) : (s.keepWalk w).itc = s.itc := by
  cases w <;> rfl
@[simp] theorem State.keepWalk_rr (s : State) (w : Option TlbEntry) : (s.keepWalk w).rr = s.rr := by
  cases w <;> rfl
@[simp] theorem State.keepWalk_pkr (s : State) (w : Option TlbEntry) : (s.keepWalk w).pkr = s.pkr := by
  cases w <;> rfl
@[simp] theorem State.keepWalk_dbr (s : State) (w : Option TlbEntry) : (s.keepWalk w).dbr = s.dbr := by
  cases w <;> rfl
@[simp] theorem State.keepWalk_ibr (s : State) (w : Option TlbEntry) : (s.keepWalk w).ibr = s.ibr := by
  cases w <;> rfl
@[simp] theorem State.keepWalk_pmc (s : State) (w : Option TlbEntry) : (s.keepWalk w).pmc = s.pmc := by
  cases w <;> rfl
@[simp] theorem State.keepWalk_pmd (s : State) (w : Option TlbEntry) : (s.keepWalk w).pmd = s.pmd := by
  cases w <;> rfl
@[simp] theorem State.keepWalk_dahr (s : State) (w : Option TlbEntry) : (s.keepWalk w).dahr = s.dahr := by
  cases w <;> rfl
@[simp] theorem State.keepWalk_dahs (s : State) (w : Option TlbEntry) : (s.keepWalk w).dahs = s.dahs := by
  cases w <;> rfl
@[simp] theorem State.keepWalk_mem (s : State) (w : Option TlbEntry) : (s.keepWalk w).mem = s.mem := by
  cases w <;> rfl
@[simp] theorem State.keepWalk_lastIp (s : State) (w : Option TlbEntry) : (s.keepWalk w).lastIp = s.lastIp := by
  cases w <;> rfl
@[simp] theorem State.keepWalk_curBundle (s : State) (w : Option TlbEntry) : (s.keepWalk w).curBundle = s.curBundle := by
  cases w <;> rfl
@[simp] theorem State.keepWalk_pmiPending (s : State) (w : Option TlbEntry) : (s.keepWalk w).pmiPending = s.pmiPending := by
  cases w <;> rfl
@[simp] theorem State.keepWalk_initPending (s : State) (w : Option TlbEntry) : (s.keepWalk w).initPending = s.initPending := by
  cases w <;> rfl
@[simp] theorem State.keepWalk_checkPending (s : State) (w : Option TlbEntry) : (s.keepWalk w).checkPending = s.checkPending := by
  cases w <;> rfl
@[simp] theorem State.keepWalk_pal (s : State) (w : Option TlbEntry) : (s.keepWalk w).pal = s.pal := by
  cases w <;> rfl
@[simp] theorem State.keepWalk_midGroup (s : State) (w : Option TlbEntry) : (s.keepWalk w).midGroup = s.midGroup := by
  cases w <;> rfl
@[simp] theorem State.keepWalk_progress (s : State) (w : Option TlbEntry) : (s.keepWalk w).progress = s.progress := by
  cases w <;> rfl
@[simp] theorem State.keepWalk_fresh (s : State) (w : Option TlbEntry) : (s.keepWalk w).fresh = s.fresh := by
  cases w <;> rfl

/-! Meeting an error, and `touch` -/

/-- The corrected machine check interrupt changes the pending interrupts alone. -/
theorem State.pendCorrected_eq (s : State) : ∃ v, s.pendCorrected = { s with cr := { s.cr with irr := v } } := by
  unfold State.pendCorrected; split <;> exact ⟨_, rfl⟩

/-- All that meeting an error can change: PAL's records and state parameter, the pending Machine Check, the pending
interrupts. -/
theorem State.meetError_eq (s : State) (i : Injection) : ∃ e p c v, s.meetError i =
    { s with pal := { s.pal with errors := e, psp := p }, checkPending := c, cr := { s.cr with irr := v } } := by
  unfold State.meetError; dsimp only
  generalize (if s.checkPending = true then _ else _ : Word) = psp
  by_cases h : i.severity = 0
  · rw [if_pos h]
    obtain ⟨v, e⟩ := State.pendCorrected_eq { s with pal := { s.pal with errors := s.pal.errors ++ [i.record.metAt s.cpl], psp } }
    exact ⟨_, _, _, v, e⟩
  · rw [if_neg h]; exact ⟨_, _, _, _, rfl⟩

/-- All that meeting a list of errors can change. -/
theorem State.meetErrors_eq : ∀ (l : List Injection) (s : State), ∃ e p c v, l.foldl State.meetError s =
    { s with pal := { s.pal with errors := e, psp := p }, checkPending := c, cr := { s.cr with irr := v } }
  | [], s => ⟨_, _, _, _, rfl⟩
  | i :: l, s => by
    obtain ⟨e, p, c, v, h⟩ := State.meetError_eq s i
    obtain ⟨e', p', c', v', h'⟩ := State.meetErrors_eq l (s.meetError i)
    exact ⟨e', p', c', v', by rw [List.foldl_cons, h', h]⟩

/-- All that the placed errors that a step meets can change. -/
theorem State.meetPlaced_eq (s : State) : ∃ l e p c v, s.meetPlaced =
    { s with pal := { s.pal with latent := l, errors := e, psp := p }, checkPending := c, cr := { s.cr with irr := v } } := by
  unfold State.meetPlaced
  obtain ⟨e, p, c, v, h⟩ := State.meetErrors_eq (keepSome (fun i => Config.freeBit (.errorMet i) s.fresh) s.pal.latent)
    { s with pal := { s.pal with latent := keepSome (fun i => !Config.freeBit (.errorMet i) s.fresh) s.pal.latent } }
  exact ⟨_, e, p, c, v, h⟩

/-- With no error placed, none is met. -/
theorem State.meetPlaced_none (s : State) (h : s.pal.latent = []) : s.meetPlaced = s := by
  simp [State.meetPlaced, keepSome, h]
  rw [← h]

/-- All that an injection can change. -/
theorem State.placeError_eq (s : State) (i : Injection) : ∃ p c v, s.placeError i =
    { s with pal := p, checkPending := c, cr := { s.cr with irr := v } } := by
  unfold State.placeError; split
  · obtain ⟨_, _, c, v, h⟩ := State.meetError_eq s i
    exact ⟨_, c, v, h⟩
  · exact ⟨_, _, _, rfl⟩

/-- All that an access can change through an outstanding trigger. -/
theorem State.meetTrigger_eq (s : State) (d : Bool) (a : Word) (n : Nat) : ∃ p c v, s.meetTrigger d a n =
    { s with pal := p, checkPending := c, cr := { s.cr with irr := v } } := by
  unfold State.meetTrigger; split
  · exact ⟨_, _, _, rfl⟩
  · split
    · exact State.placeError_eq { s with pal := { s.pal with trigger := none } } _
    · exact ⟨_, _, _, rfl⟩

/-- Without an outstanding trigger an access changes nothing. -/
theorem State.meetTrigger_none {s : State} (h : s.pal.trigger = none) (d : Bool) (a : Word) (n : Nat) :
    s.meetTrigger d a n = s := by unfold State.meetTrigger; rw [h]

/-- All that a data reference can change beside its own effect. -/
theorem State.touch_eq (s : State) (a : Translation) : s.touch a =
    { s with
      dtc := (s.keepWalk a.walked).dtc
      pal := (s.touch a).pal
      checkPending := (s.touch a).checkPending
      cr := { s.cr with irr := (s.touch a).cr.irr } } := by
  have h : s.keepWalk a.walked = { s with dtc := (s.keepWalk a.walked).dtc } := by cases a.walked <;> rfl
  obtain ⟨p, c, v, e⟩ := State.meetTrigger_eq (s.keepWalk a.walked) true a.va a.size
  have e' : s.touch a = { s with dtc := (s.keepWalk a.walked).dtc, pal := p, checkPending := c, cr := { s.cr with irr := v } } := by
    unfold State.touch; rw [e, h]
  rw [e']

/-- Without an outstanding trigger a data reference leaves what the walker inserted, and nothing else. -/
theorem State.touch_noTrigger {s : State} (h : s.pal.trigger = none) (a : Translation) : s.touch a = s.keepWalk a.walked :=
  State.meetTrigger_none (by cases a.walked <;> exact h) _ _ _

@[simp] theorem State.touch_ip (s : State) (a : Translation) : (s.touch a).ip = s.ip := by rw [State.touch_eq]
@[simp] theorem State.touch_psr (s : State) (a : Translation) : (s.touch a).psr = s.psr := by rw [State.touch_eq]
@[simp] theorem State.touch_cfm (s : State) (a : Translation) : (s.touch a).cfm = s.cfm := by rw [State.touch_eq]
@[simp] theorem State.touch_grStatic (s : State) (a : Translation) : (s.touch a).grStatic = s.grStatic := by rw [State.touch_eq]
@[simp] theorem State.touch_grBank0 (s : State) (a : Translation) : (s.touch a).grBank0 = s.grBank0 := by rw [State.touch_eq]
@[simp] theorem State.touch_grBank1 (s : State) (a : Translation) : (s.touch a).grBank1 = s.grBank1 := by rw [State.touch_eq]
@[simp] theorem State.touch_grStacked (s : State) (a : Translation) : (s.touch a).grStacked = s.grStacked := by rw [State.touch_eq]
@[simp] theorem State.touch_fr (s : State) (a : Translation) : (s.touch a).fr = s.fr := by rw [State.touch_eq]
@[simp] theorem State.touch_pr (s : State) (a : Translation) : (s.touch a).pr = s.pr := by rw [State.touch_eq]
@[simp] theorem State.touch_br (s : State) (a : Translation) : (s.touch a).br = s.br := by rw [State.touch_eq]
@[simp] theorem State.touch_ar (s : State) (a : Translation) : (s.touch a).ar = s.ar := by rw [State.touch_eq]
@[simp] theorem State.touch_inService (s : State) (a : Translation) : (s.touch a).inService = s.inService := by rw [State.touch_eq]
@[simp] theorem State.touch_rse (s : State) (a : Translation) : (s.touch a).rse = s.rse := by rw [State.touch_eq]
@[simp] theorem State.touch_alat (s : State) (a : Translation) : (s.touch a).alat = s.alat := by rw [State.touch_eq]
@[simp] theorem State.touch_itr (s : State) (a : Translation) : (s.touch a).itr = s.itr := by rw [State.touch_eq]
@[simp] theorem State.touch_dtr (s : State) (a : Translation) : (s.touch a).dtr = s.dtr := by rw [State.touch_eq]
@[simp] theorem State.touch_itc (s : State) (a : Translation) : (s.touch a).itc = s.itc := by rw [State.touch_eq]
@[simp] theorem State.touch_rr (s : State) (a : Translation) : (s.touch a).rr = s.rr := by rw [State.touch_eq]
@[simp] theorem State.touch_pkr (s : State) (a : Translation) : (s.touch a).pkr = s.pkr := by rw [State.touch_eq]
@[simp] theorem State.touch_dbr (s : State) (a : Translation) : (s.touch a).dbr = s.dbr := by rw [State.touch_eq]
@[simp] theorem State.touch_ibr (s : State) (a : Translation) : (s.touch a).ibr = s.ibr := by rw [State.touch_eq]
@[simp] theorem State.touch_pmc (s : State) (a : Translation) : (s.touch a).pmc = s.pmc := by rw [State.touch_eq]
@[simp] theorem State.touch_pmd (s : State) (a : Translation) : (s.touch a).pmd = s.pmd := by rw [State.touch_eq]
@[simp] theorem State.touch_dahr (s : State) (a : Translation) : (s.touch a).dahr = s.dahr := by rw [State.touch_eq]
@[simp] theorem State.touch_dahs (s : State) (a : Translation) : (s.touch a).dahs = s.dahs := by rw [State.touch_eq]
@[simp] theorem State.touch_mem (s : State) (a : Translation) : (s.touch a).mem = s.mem := by rw [State.touch_eq]
@[simp] theorem State.touch_lastIp (s : State) (a : Translation) : (s.touch a).lastIp = s.lastIp := by rw [State.touch_eq]
@[simp] theorem State.touch_curBundle (s : State) (a : Translation) : (s.touch a).curBundle = s.curBundle := by rw [State.touch_eq]
@[simp] theorem State.touch_pmiPending (s : State) (a : Translation) : (s.touch a).pmiPending = s.pmiPending := by rw [State.touch_eq]
@[simp] theorem State.touch_initPending (s : State) (a : Translation) : (s.touch a).initPending = s.initPending := by rw [State.touch_eq]
@[simp] theorem State.touch_midGroup (s : State) (a : Translation) : (s.touch a).midGroup = s.midGroup := by rw [State.touch_eq]
@[simp] theorem State.touch_progress (s : State) (a : Translation) : (s.touch a).progress = s.progress := by rw [State.touch_eq]
@[simp] theorem State.touch_fresh (s : State) (a : Translation) : (s.touch a).fresh = s.fresh := by rw [State.touch_eq]
@[simp] theorem State.touch_dtc (s : State) (a : Translation) : (s.touch a).dtc = (s.keepWalk a.walked).dtc := by rw [State.touch_eq]

/-- An injection leaves the outstanding trigger as it is. -/
theorem State.placeError_trigger (s : State) (i : Injection) : (s.placeError i).pal.trigger = s.pal.trigger := by
  unfold State.placeError; split
  · unfold State.meetError State.pendCorrected
    by_cases h : i.severity = 0#2 <;> by_cases hb : bit s.cr.cmcv 16 = true <;> simp [h, hb, State.pend]
  · rfl

/-- A trigger that an access set off is spent, and one that it did not set off stays: the same access again does nothing. -/
theorem State.meetTrigger_twice (s : State) (d : Bool) (a : Word) (n : Nat) :
    (s.meetTrigger d a n).meetTrigger d a n = s.meetTrigger d a n := by
  cases h : s.pal.trigger with
  | none => rw [State.meetTrigger_none h, State.meetTrigger_none h]
  | some x =>
    by_cases hf : x.fires d a n s.cpl = true
    · refine State.meetTrigger_none ?_ d a n
      unfold State.meetTrigger; rw [h]; simp only [hf, if_true]
      exact State.placeError_trigger { s with pal := { s.pal with trigger := none } } _
    · have e : s.meetTrigger d a n = s := by unfold State.meetTrigger; rw [h]; simp [hf]
      rw [e, e]

/-- The second part of one reference changes nothing more. -/
theorem State.touch_twice (s : State) (a : Translation) : (s.touch a).touch { a with walked := none } = s.touch a :=
  State.meetTrigger_twice _ _ _ _

/-- What meeting an error changes depends on PAL's state, the pending check, the control registers and PSR alone. -/
theorem State.meetError_congr {s t : State} (i : Injection) (hp : t.pal = s.pal) (hc : t.checkPending = s.checkPending)
    (hr : t.cr = s.cr) (hs : t.psr = s.psr) : t.meetError i =
      { t with pal := (s.meetError i).pal, checkPending := (s.meetError i).checkPending, cr := (s.meetError i).cr } := by
  have hl : t.cpl = s.cpl := by unfold State.cpl; rw [hs]
  unfold State.meetError State.pendCorrected
  by_cases h : i.severity = 0#2 <;> by_cases hb : bit s.cr.cmcv 16 = true <;> simp [h, hb, hp, hc, hr, hl, State.pend]

theorem State.placeError_congr {s t : State} (i : Injection) (hp : t.pal = s.pal) (hc : t.checkPending = s.checkPending)
    (hr : t.cr = s.cr) (hs : t.psr = s.psr) : t.placeError i =
      { t with pal := (s.placeError i).pal, checkPending := (s.placeError i).checkPending, cr := (s.placeError i).cr } := by
  unfold State.placeError
  by_cases h : i.consume = true
  · simp only [h, if_true]; exact State.meetError_congr i hp hc hr hs
  · simp [h, hp, hc, hr]

/-- What a trigger changes depends on PAL's state, the pending check, the control registers and PSR alone. -/
theorem State.meetTrigger_congr {s t : State} (d : Bool) (a : Word) (n : Nat) (hp : t.pal = s.pal)
    (hc : t.checkPending = s.checkPending) (hr : t.cr = s.cr) (hs : t.psr = s.psr) : t.meetTrigger d a n =
      { t with
        pal := (s.meetTrigger d a n).pal
        checkPending := (s.meetTrigger d a n).checkPending
        cr := (s.meetTrigger d a n).cr } := by
  have hl : t.cpl = s.cpl := by unfold State.cpl; rw [hs]
  unfold State.meetTrigger
  rw [hp, hl]
  cases h : s.pal.trigger with
  | none => dsimp only; rw [← hp, ← hc, ← hr]
  | some x =>
    dsimp only
    by_cases hf : x.fires d a n s.cpl = true
    · simp only [hf, if_true]
      exact State.placeError_congr (s := { s with pal := { s.pal with trigger := none } })
        (t := { t with pal := { s.pal with trigger := none } }) x.injection rfl hc hr hs
    · rw [Bool.not_eq_true] at hf
      simp only [hf, Bool.false_eq_true, if_false]; rw [← hp, ← hc, ← hr]

/-- What a data reference leaves depends on the TLB, PAL's state, the pending check, the control registers and PSR alone. -/
theorem State.touch_congr {s t : State} (a : Translation) (hd : t.dtc = s.dtc) (hp : t.pal = s.pal)
    (hc : t.checkPending = s.checkPending) (hr : t.cr = s.cr) (hs : t.psr = s.psr) : t.touch a =
      { t with
        dtc := (s.touch a).dtc
        pal := (s.touch a).pal
        checkPending := (s.touch a).checkPending
        cr := (s.touch a).cr } := by
  have hk : t.keepWalk a.walked = { t with dtc := (s.keepWalk a.walked).dtc } := by
    cases a.walked <;> simp only [State.keepWalk, ← hd]
  have hm := State.meetTrigger_congr (s := s.keepWalk a.walked) (t := t.keepWalk a.walked) true a.va a.size
    (by simp [hp]) (by simp [hc]) (by simp [hr]) (by simp [hs])
  rw [State.touch_dtc]
  unfold State.touch
  rw [hm, hk]

/-! `goto` -/

@[simp] theorem State.goto_cfm (s : State) (f : Flow) : (s.goto f).cfm = s.cfm := by
  unfold State.goto; cases f <;> (try rfl); dsimp only; repeat' split
  all_goals rfl
@[simp] theorem State.goto_grStatic (s : State) (f : Flow) : (s.goto f).grStatic = s.grStatic := by
  unfold State.goto; cases f <;> (try rfl); dsimp only; repeat' split
  all_goals rfl
@[simp] theorem State.goto_grBank0 (s : State) (f : Flow) : (s.goto f).grBank0 = s.grBank0 := by
  unfold State.goto; cases f <;> (try rfl); dsimp only; repeat' split
  all_goals rfl
@[simp] theorem State.goto_grBank1 (s : State) (f : Flow) : (s.goto f).grBank1 = s.grBank1 := by
  unfold State.goto; cases f <;> (try rfl); dsimp only; repeat' split
  all_goals rfl
@[simp] theorem State.goto_grStacked (s : State) (f : Flow) : (s.goto f).grStacked = s.grStacked := by
  unfold State.goto; cases f <;> (try rfl); dsimp only; repeat' split
  all_goals rfl
@[simp] theorem State.goto_fr (s : State) (f : Flow) : (s.goto f).fr = s.fr := by
  unfold State.goto; cases f <;> (try rfl); dsimp only; repeat' split
  all_goals rfl
@[simp] theorem State.goto_pr (s : State) (f : Flow) : (s.goto f).pr = s.pr := by
  unfold State.goto; cases f <;> (try rfl); dsimp only; repeat' split
  all_goals rfl
@[simp] theorem State.goto_br (s : State) (f : Flow) : (s.goto f).br = s.br := by
  unfold State.goto; cases f <;> (try rfl); dsimp only; repeat' split
  all_goals rfl
@[simp] theorem State.goto_ar (s : State) (f : Flow) : (s.goto f).ar = s.ar := by
  unfold State.goto; cases f <;> (try rfl); dsimp only; repeat' split
  all_goals rfl
@[simp] theorem State.goto_cr (s : State) (f : Flow) : (s.goto f).cr = s.cr := by
  unfold State.goto; cases f <;> (try rfl); dsimp only; repeat' split
  all_goals rfl
@[simp] theorem State.goto_inService (s : State) (f : Flow) : (s.goto f).inService = s.inService := by
  unfold State.goto; cases f <;> (try rfl); dsimp only; repeat' split
  all_goals rfl
@[simp] theorem State.goto_rse (s : State) (f : Flow) : (s.goto f).rse = s.rse := by
  unfold State.goto; cases f <;> (try rfl); dsimp only; repeat' split
  all_goals rfl
@[simp] theorem State.goto_alat (s : State) (f : Flow) : (s.goto f).alat = s.alat := by
  unfold State.goto; cases f <;> (try rfl); dsimp only; repeat' split
  all_goals rfl
@[simp] theorem State.goto_itr (s : State) (f : Flow) : (s.goto f).itr = s.itr := by
  unfold State.goto; cases f <;> (try rfl); dsimp only; repeat' split
  all_goals rfl
@[simp] theorem State.goto_dtr (s : State) (f : Flow) : (s.goto f).dtr = s.dtr := by
  unfold State.goto; cases f <;> (try rfl); dsimp only; repeat' split
  all_goals rfl
@[simp] theorem State.goto_itc (s : State) (f : Flow) : (s.goto f).itc = s.itc := by
  unfold State.goto; cases f <;> (try rfl); dsimp only; repeat' split
  all_goals rfl
@[simp] theorem State.goto_dtc (s : State) (f : Flow) : (s.goto f).dtc = s.dtc := by
  unfold State.goto; cases f <;> (try rfl); dsimp only; repeat' split
  all_goals rfl
@[simp] theorem State.goto_rr (s : State) (f : Flow) : (s.goto f).rr = s.rr := by
  unfold State.goto; cases f <;> (try rfl); dsimp only; repeat' split
  all_goals rfl
@[simp] theorem State.goto_pkr (s : State) (f : Flow) : (s.goto f).pkr = s.pkr := by
  unfold State.goto; cases f <;> (try rfl); dsimp only; repeat' split
  all_goals rfl
@[simp] theorem State.goto_dbr (s : State) (f : Flow) : (s.goto f).dbr = s.dbr := by
  unfold State.goto; cases f <;> (try rfl); dsimp only; repeat' split
  all_goals rfl
@[simp] theorem State.goto_ibr (s : State) (f : Flow) : (s.goto f).ibr = s.ibr := by
  unfold State.goto; cases f <;> (try rfl); dsimp only; repeat' split
  all_goals rfl
@[simp] theorem State.goto_pmc (s : State) (f : Flow) : (s.goto f).pmc = s.pmc := by
  unfold State.goto; cases f <;> (try rfl); dsimp only; repeat' split
  all_goals rfl
@[simp] theorem State.goto_pmd (s : State) (f : Flow) : (s.goto f).pmd = s.pmd := by
  unfold State.goto; cases f <;> (try rfl); dsimp only; repeat' split
  all_goals rfl
@[simp] theorem State.goto_dahr (s : State) (f : Flow) : (s.goto f).dahr = s.dahr := by
  unfold State.goto; cases f <;> (try rfl); dsimp only; repeat' split
  all_goals rfl
@[simp] theorem State.goto_dahs (s : State) (f : Flow) : (s.goto f).dahs = s.dahs := by
  unfold State.goto; cases f <;> (try rfl); dsimp only; repeat' split
  all_goals rfl
@[simp] theorem State.goto_mem (s : State) (f : Flow) : (s.goto f).mem = s.mem := by
  unfold State.goto; cases f <;> (try rfl); dsimp only; repeat' split
  all_goals rfl
@[simp] theorem State.goto_lastIp (s : State) (f : Flow) : (s.goto f).lastIp = s.lastIp := by
  unfold State.goto; cases f <;> (try rfl); dsimp only; repeat' split
  all_goals rfl
@[simp] theorem State.goto_curBundle (s : State) (f : Flow) : (s.goto f).curBundle = s.curBundle := by
  unfold State.goto; cases f <;> (try rfl); dsimp only; repeat' split
  all_goals rfl
@[simp] theorem State.goto_pmiPending (s : State) (f : Flow) : (s.goto f).pmiPending = s.pmiPending := by
  unfold State.goto; cases f <;> (try rfl); dsimp only; repeat' split
  all_goals rfl
@[simp] theorem State.goto_initPending (s : State) (f : Flow) : (s.goto f).initPending = s.initPending := by
  unfold State.goto; cases f <;> (try rfl); dsimp only; repeat' split
  all_goals rfl
@[simp] theorem State.goto_checkPending (s : State) (f : Flow) : (s.goto f).checkPending = s.checkPending := by
  unfold State.goto; cases f <;> (try rfl); dsimp only; repeat' split
  all_goals rfl
@[simp] theorem State.goto_pal (s : State) (f : Flow) : (s.goto f).pal = s.pal := by
  unfold State.goto; cases f <;> (try rfl); dsimp only; repeat' split
  all_goals rfl
@[simp] theorem State.goto_midGroup (s : State) (f : Flow) : (s.goto f).midGroup = s.midGroup := by
  unfold State.goto; cases f <;> (try rfl); dsimp only; repeat' split
  all_goals rfl
@[simp] theorem State.goto_progress (s : State) (f : Flow) : (s.goto f).progress = s.progress := by
  unfold State.goto; cases f <;> (try rfl); dsimp only; repeat' split
  all_goals rfl
@[simp] theorem State.goto_fresh (s : State) (f : Flow) : (s.goto f).fresh = s.fresh := by
  unfold State.goto; cases f <;> (try rfl); dsimp only; repeat' split
  all_goals rfl

/-! `undefineRegs` -/

@[simp] theorem State.undefineRegs_ip (s : State) (old new : Nat) : (s.undefineRegs old new).ip = s.ip := by
  simp only [State.undefineRegs]
@[simp] theorem State.undefineRegs_psr (s : State) (old new : Nat) : (s.undefineRegs old new).psr = s.psr := by
  simp only [State.undefineRegs]
@[simp] theorem State.undefineRegs_cfm (s : State) (old new : Nat) : (s.undefineRegs old new).cfm = s.cfm := by
  simp only [State.undefineRegs]
@[simp] theorem State.undefineRegs_grStatic (s : State) (old new : Nat) : (s.undefineRegs old new).grStatic = s.grStatic := by
  simp only [State.undefineRegs]
@[simp] theorem State.undefineRegs_grBank0 (s : State) (old new : Nat) : (s.undefineRegs old new).grBank0 = s.grBank0 := by
  simp only [State.undefineRegs]
@[simp] theorem State.undefineRegs_grBank1 (s : State) (old new : Nat) : (s.undefineRegs old new).grBank1 = s.grBank1 := by
  simp only [State.undefineRegs]
@[simp] theorem State.undefineRegs_fr (s : State) (old new : Nat) : (s.undefineRegs old new).fr = s.fr := by
  simp only [State.undefineRegs]
@[simp] theorem State.undefineRegs_pr (s : State) (old new : Nat) : (s.undefineRegs old new).pr = s.pr := by
  simp only [State.undefineRegs]
@[simp] theorem State.undefineRegs_br (s : State) (old new : Nat) : (s.undefineRegs old new).br = s.br := by
  simp only [State.undefineRegs]
@[simp] theorem State.undefineRegs_ar (s : State) (old new : Nat) : (s.undefineRegs old new).ar = s.ar := by
  simp only [State.undefineRegs]
@[simp] theorem State.undefineRegs_cr (s : State) (old new : Nat) : (s.undefineRegs old new).cr = s.cr := by
  simp only [State.undefineRegs]
@[simp] theorem State.undefineRegs_inService (s : State) (old new : Nat) : (s.undefineRegs old new).inService = s.inService := by
  simp only [State.undefineRegs]
@[simp] theorem State.undefineRegs_rse (s : State) (old new : Nat) : (s.undefineRegs old new).rse = s.rse := by
  simp only [State.undefineRegs]
@[simp] theorem State.undefineRegs_alat (s : State) (old new : Nat) : (s.undefineRegs old new).alat = s.alat := by
  simp only [State.undefineRegs]
@[simp] theorem State.undefineRegs_itr (s : State) (old new : Nat) : (s.undefineRegs old new).itr = s.itr := by
  simp only [State.undefineRegs]
@[simp] theorem State.undefineRegs_dtr (s : State) (old new : Nat) : (s.undefineRegs old new).dtr = s.dtr := by
  simp only [State.undefineRegs]
@[simp] theorem State.undefineRegs_itc (s : State) (old new : Nat) : (s.undefineRegs old new).itc = s.itc := by
  simp only [State.undefineRegs]
@[simp] theorem State.undefineRegs_dtc (s : State) (old new : Nat) : (s.undefineRegs old new).dtc = s.dtc := by
  simp only [State.undefineRegs]
@[simp] theorem State.undefineRegs_rr (s : State) (old new : Nat) : (s.undefineRegs old new).rr = s.rr := by
  simp only [State.undefineRegs]
@[simp] theorem State.undefineRegs_pkr (s : State) (old new : Nat) : (s.undefineRegs old new).pkr = s.pkr := by
  simp only [State.undefineRegs]
@[simp] theorem State.undefineRegs_dbr (s : State) (old new : Nat) : (s.undefineRegs old new).dbr = s.dbr := by
  simp only [State.undefineRegs]
@[simp] theorem State.undefineRegs_ibr (s : State) (old new : Nat) : (s.undefineRegs old new).ibr = s.ibr := by
  simp only [State.undefineRegs]
@[simp] theorem State.undefineRegs_pmc (s : State) (old new : Nat) : (s.undefineRegs old new).pmc = s.pmc := by
  simp only [State.undefineRegs]
@[simp] theorem State.undefineRegs_pmd (s : State) (old new : Nat) : (s.undefineRegs old new).pmd = s.pmd := by
  simp only [State.undefineRegs]
@[simp] theorem State.undefineRegs_dahr (s : State) (old new : Nat) : (s.undefineRegs old new).dahr = s.dahr := by
  simp only [State.undefineRegs]
@[simp] theorem State.undefineRegs_dahs (s : State) (old new : Nat) : (s.undefineRegs old new).dahs = s.dahs := by
  simp only [State.undefineRegs]
@[simp] theorem State.undefineRegs_mem (s : State) (old new : Nat) : (s.undefineRegs old new).mem = s.mem := by
  simp only [State.undefineRegs]
@[simp] theorem State.undefineRegs_lastIp (s : State) (old new : Nat) : (s.undefineRegs old new).lastIp = s.lastIp := by
  simp only [State.undefineRegs]
@[simp] theorem State.undefineRegs_curBundle (s : State) (old new : Nat) : (s.undefineRegs old new).curBundle = s.curBundle := by
  simp only [State.undefineRegs]
@[simp] theorem State.undefineRegs_pmiPending (s : State) (old new : Nat) : (s.undefineRegs old new).pmiPending = s.pmiPending := by
  simp only [State.undefineRegs]
@[simp] theorem State.undefineRegs_initPending (s : State) (old new : Nat) : (s.undefineRegs old new).initPending = s.initPending := by
  simp only [State.undefineRegs]
@[simp] theorem State.undefineRegs_checkPending (s : State) (old new : Nat) : (s.undefineRegs old new).checkPending = s.checkPending := by
  simp only [State.undefineRegs]
@[simp] theorem State.undefineRegs_pal (s : State) (old new : Nat) : (s.undefineRegs old new).pal = s.pal := by
  simp only [State.undefineRegs]
@[simp] theorem State.undefineRegs_midGroup (s : State) (old new : Nat) : (s.undefineRegs old new).midGroup = s.midGroup := by
  simp only [State.undefineRegs]
@[simp] theorem State.undefineRegs_progress (s : State) (old new : Nat) : (s.undefineRegs old new).progress = s.progress := by
  simp only [State.undefineRegs]
@[simp] theorem State.undefineRegs_fresh (s : State) (old new : Nat) : (s.undefineRegs old new).fresh = s.fresh := by
  simp only [State.undefineRegs]

/-! `collect` -/

@[simp] theorem State.collect_ip (s : State) (i : Interruption) : (s.collect i).ip = s.ip := rfl
@[simp] theorem State.collect_psr (s : State) (i : Interruption) : (s.collect i).psr = s.psr := rfl
@[simp] theorem State.collect_cfm (s : State) (i : Interruption) : (s.collect i).cfm = s.cfm := rfl
@[simp] theorem State.collect_grStatic (s : State) (i : Interruption) : (s.collect i).grStatic = s.grStatic := rfl
@[simp] theorem State.collect_grBank0 (s : State) (i : Interruption) : (s.collect i).grBank0 = s.grBank0 := rfl
@[simp] theorem State.collect_grBank1 (s : State) (i : Interruption) : (s.collect i).grBank1 = s.grBank1 := rfl
@[simp] theorem State.collect_grStacked (s : State) (i : Interruption) : (s.collect i).grStacked = s.grStacked := rfl
@[simp] theorem State.collect_fr (s : State) (i : Interruption) : (s.collect i).fr = s.fr := rfl
@[simp] theorem State.collect_pr (s : State) (i : Interruption) : (s.collect i).pr = s.pr := rfl
@[simp] theorem State.collect_br (s : State) (i : Interruption) : (s.collect i).br = s.br := rfl
@[simp] theorem State.collect_ar (s : State) (i : Interruption) : (s.collect i).ar = s.ar := rfl
@[simp] theorem State.collect_inService (s : State) (i : Interruption) : (s.collect i).inService = s.inService := rfl
@[simp] theorem State.collect_rse (s : State) (i : Interruption) : (s.collect i).rse = s.rse := rfl
@[simp] theorem State.collect_alat (s : State) (i : Interruption) : (s.collect i).alat = s.alat := rfl
@[simp] theorem State.collect_itr (s : State) (i : Interruption) : (s.collect i).itr = s.itr := rfl
@[simp] theorem State.collect_dtr (s : State) (i : Interruption) : (s.collect i).dtr = s.dtr := rfl
@[simp] theorem State.collect_itc (s : State) (i : Interruption) : (s.collect i).itc = s.itc := rfl
@[simp] theorem State.collect_dtc (s : State) (i : Interruption) : (s.collect i).dtc = s.dtc := rfl
@[simp] theorem State.collect_rr (s : State) (i : Interruption) : (s.collect i).rr = s.rr := rfl
@[simp] theorem State.collect_pkr (s : State) (i : Interruption) : (s.collect i).pkr = s.pkr := rfl
@[simp] theorem State.collect_dbr (s : State) (i : Interruption) : (s.collect i).dbr = s.dbr := rfl
@[simp] theorem State.collect_ibr (s : State) (i : Interruption) : (s.collect i).ibr = s.ibr := rfl
@[simp] theorem State.collect_pmc (s : State) (i : Interruption) : (s.collect i).pmc = s.pmc := rfl
@[simp] theorem State.collect_pmd (s : State) (i : Interruption) : (s.collect i).pmd = s.pmd := rfl
@[simp] theorem State.collect_mem (s : State) (i : Interruption) : (s.collect i).mem = s.mem := rfl
@[simp] theorem State.collect_lastIp (s : State) (i : Interruption) : (s.collect i).lastIp = s.lastIp := rfl
@[simp] theorem State.collect_curBundle (s : State) (i : Interruption) : (s.collect i).curBundle = s.curBundle := rfl
@[simp] theorem State.collect_pmiPending (s : State) (i : Interruption) : (s.collect i).pmiPending = s.pmiPending := rfl
@[simp] theorem State.collect_initPending (s : State) (i : Interruption) : (s.collect i).initPending = s.initPending := rfl
@[simp] theorem State.collect_checkPending (s : State) (i : Interruption) : (s.collect i).checkPending = s.checkPending := rfl
@[simp] theorem State.collect_pal (s : State) (i : Interruption) : (s.collect i).pal = s.pal := rfl
@[simp] theorem State.collect_midGroup (s : State) (i : Interruption) : (s.collect i).midGroup = s.midGroup := rfl
@[simp] theorem State.collect_progress (s : State) (i : Interruption) : (s.collect i).progress = s.progress := rfl
@[simp] theorem State.collect_fresh (s : State) (i : Interruption) : (s.collect i).fresh = s.fresh := rfl

/-! `restorePsr` -/

@[simp] theorem State.restorePsr_ip (s : State) : (s.restorePsr).ip = s.ip := by
  unfold State.restorePsr; dsimp only; split <;> rfl
@[simp] theorem State.restorePsr_cfm (s : State) : (s.restorePsr).cfm = s.cfm := by
  unfold State.restorePsr; dsimp only; split <;> rfl
@[simp] theorem State.restorePsr_grStatic (s : State) : (s.restorePsr).grStatic = s.grStatic := by
  unfold State.restorePsr; dsimp only; split <;> rfl
@[simp] theorem State.restorePsr_grBank0 (s : State) : (s.restorePsr).grBank0 = s.grBank0 := by
  unfold State.restorePsr; dsimp only; split <;> rfl
@[simp] theorem State.restorePsr_grBank1 (s : State) : (s.restorePsr).grBank1 = s.grBank1 := by
  unfold State.restorePsr; dsimp only; split <;> rfl
@[simp] theorem State.restorePsr_grStacked (s : State) : (s.restorePsr).grStacked = s.grStacked := by
  unfold State.restorePsr; dsimp only; split <;> rfl
@[simp] theorem State.restorePsr_fr (s : State) : (s.restorePsr).fr = s.fr := by
  unfold State.restorePsr; dsimp only; split <;> rfl
@[simp] theorem State.restorePsr_pr (s : State) : (s.restorePsr).pr = s.pr := by
  unfold State.restorePsr; dsimp only; split <;> rfl
@[simp] theorem State.restorePsr_br (s : State) : (s.restorePsr).br = s.br := by
  unfold State.restorePsr; dsimp only; split <;> rfl
@[simp] theorem State.restorePsr_ar (s : State) : (s.restorePsr).ar = s.ar := by
  unfold State.restorePsr; dsimp only; split <;> rfl
@[simp] theorem State.restorePsr_cr (s : State) : (s.restorePsr).cr = s.cr := by
  unfold State.restorePsr; dsimp only; split <;> rfl
@[simp] theorem State.restorePsr_inService (s : State) : (s.restorePsr).inService = s.inService := by
  unfold State.restorePsr; dsimp only; split <;> rfl
@[simp] theorem State.restorePsr_rse (s : State) : (s.restorePsr).rse = s.rse := by
  unfold State.restorePsr; dsimp only; split <;> rfl
@[simp] theorem State.restorePsr_alat (s : State) : (s.restorePsr).alat = s.alat := by
  unfold State.restorePsr; dsimp only; split <;> rfl
@[simp] theorem State.restorePsr_itr (s : State) : (s.restorePsr).itr = s.itr := by
  unfold State.restorePsr; dsimp only; split <;> rfl
@[simp] theorem State.restorePsr_dtr (s : State) : (s.restorePsr).dtr = s.dtr := by
  unfold State.restorePsr; dsimp only; split <;> rfl
@[simp] theorem State.restorePsr_itc (s : State) : (s.restorePsr).itc = s.itc := by
  unfold State.restorePsr; dsimp only; split <;> rfl
@[simp] theorem State.restorePsr_dtc (s : State) : (s.restorePsr).dtc = s.dtc := by
  unfold State.restorePsr; dsimp only; split <;> rfl
@[simp] theorem State.restorePsr_rr (s : State) : (s.restorePsr).rr = s.rr := by
  unfold State.restorePsr; dsimp only; split <;> rfl
@[simp] theorem State.restorePsr_pkr (s : State) : (s.restorePsr).pkr = s.pkr := by
  unfold State.restorePsr; dsimp only; split <;> rfl
@[simp] theorem State.restorePsr_dbr (s : State) : (s.restorePsr).dbr = s.dbr := by
  unfold State.restorePsr; dsimp only; split <;> rfl
@[simp] theorem State.restorePsr_ibr (s : State) : (s.restorePsr).ibr = s.ibr := by
  unfold State.restorePsr; dsimp only; split <;> rfl
@[simp] theorem State.restorePsr_pmc (s : State) : (s.restorePsr).pmc = s.pmc := by
  unfold State.restorePsr; dsimp only; split <;> rfl
@[simp] theorem State.restorePsr_pmd (s : State) : (s.restorePsr).pmd = s.pmd := by
  unfold State.restorePsr; dsimp only; split <;> rfl
@[simp] theorem State.restorePsr_mem (s : State) : (s.restorePsr).mem = s.mem := by
  unfold State.restorePsr; dsimp only; split <;> rfl
@[simp] theorem State.restorePsr_lastIp (s : State) : (s.restorePsr).lastIp = s.lastIp := by
  unfold State.restorePsr; dsimp only; split <;> rfl
@[simp] theorem State.restorePsr_curBundle (s : State) : (s.restorePsr).curBundle = s.curBundle := by
  unfold State.restorePsr; dsimp only; split <;> rfl
@[simp] theorem State.restorePsr_pmiPending (s : State) : (s.restorePsr).pmiPending = s.pmiPending := by
  unfold State.restorePsr; dsimp only; split <;> rfl
@[simp] theorem State.restorePsr_initPending (s : State) : (s.restorePsr).initPending = s.initPending := by
  unfold State.restorePsr; dsimp only; split <;> rfl
@[simp] theorem State.restorePsr_checkPending (s : State) : (s.restorePsr).checkPending = s.checkPending := by
  unfold State.restorePsr; dsimp only; split <;> rfl
@[simp] theorem State.restorePsr_pal (s : State) : (s.restorePsr).pal = s.pal := by
  unfold State.restorePsr; dsimp only; split <;> rfl
@[simp] theorem State.restorePsr_midGroup (s : State) : (s.restorePsr).midGroup = s.midGroup := by
  unfold State.restorePsr; dsimp only; split <;> rfl
@[simp] theorem State.restorePsr_progress (s : State) : (s.restorePsr).progress = s.progress := by
  unfold State.restorePsr; dsimp only; split <;> rfl
@[simp] theorem State.restorePsr_fresh (s : State) : (s.restorePsr).fresh = s.fresh := by
  unfold State.restorePsr; dsimp only; split <;> rfl

/-! `makeRoom` -/

@[simp] theorem State.makeRoom_ip (s : State) (n : Nat) : (s.makeRoom n).ip = s.ip := by
  unfold State.makeRoom; split <;> rfl
@[simp] theorem State.makeRoom_psr (s : State) (n : Nat) : (s.makeRoom n).psr = s.psr := by
  unfold State.makeRoom; split <;> rfl
@[simp] theorem State.makeRoom_cfm (s : State) (n : Nat) : (s.makeRoom n).cfm = s.cfm := by
  unfold State.makeRoom; split <;> rfl
@[simp] theorem State.makeRoom_grStatic (s : State) (n : Nat) : (s.makeRoom n).grStatic = s.grStatic := by
  unfold State.makeRoom; split <;> rfl
@[simp] theorem State.makeRoom_grBank0 (s : State) (n : Nat) : (s.makeRoom n).grBank0 = s.grBank0 := by
  unfold State.makeRoom; split <;> rfl
@[simp] theorem State.makeRoom_grBank1 (s : State) (n : Nat) : (s.makeRoom n).grBank1 = s.grBank1 := by
  unfold State.makeRoom; split <;> rfl
@[simp] theorem State.makeRoom_grStacked (s : State) (n : Nat) : (s.makeRoom n).grStacked = s.grStacked := by
  unfold State.makeRoom; split <;> rfl
@[simp] theorem State.makeRoom_fr (s : State) (n : Nat) : (s.makeRoom n).fr = s.fr := by
  unfold State.makeRoom; split <;> rfl
@[simp] theorem State.makeRoom_pr (s : State) (n : Nat) : (s.makeRoom n).pr = s.pr := by
  unfold State.makeRoom; split <;> rfl
@[simp] theorem State.makeRoom_br (s : State) (n : Nat) : (s.makeRoom n).br = s.br := by
  unfold State.makeRoom; split <;> rfl
@[simp] theorem State.makeRoom_ar (s : State) (n : Nat) : (s.makeRoom n).ar = s.ar := by
  unfold State.makeRoom; split <;> rfl
@[simp] theorem State.makeRoom_cr (s : State) (n : Nat) : (s.makeRoom n).cr = s.cr := by
  unfold State.makeRoom; split <;> rfl
@[simp] theorem State.makeRoom_inService (s : State) (n : Nat) : (s.makeRoom n).inService = s.inService := by
  unfold State.makeRoom; split <;> rfl
@[simp] theorem State.makeRoom_alat (s : State) (n : Nat) : (s.makeRoom n).alat = s.alat := by
  unfold State.makeRoom; split <;> rfl
@[simp] theorem State.makeRoom_itr (s : State) (n : Nat) : (s.makeRoom n).itr = s.itr := by
  unfold State.makeRoom; split <;> rfl
@[simp] theorem State.makeRoom_dtr (s : State) (n : Nat) : (s.makeRoom n).dtr = s.dtr := by
  unfold State.makeRoom; split <;> rfl
@[simp] theorem State.makeRoom_itc (s : State) (n : Nat) : (s.makeRoom n).itc = s.itc := by
  unfold State.makeRoom; split <;> rfl
@[simp] theorem State.makeRoom_dtc (s : State) (n : Nat) : (s.makeRoom n).dtc = s.dtc := by
  unfold State.makeRoom; split <;> rfl
@[simp] theorem State.makeRoom_rr (s : State) (n : Nat) : (s.makeRoom n).rr = s.rr := by
  unfold State.makeRoom; split <;> rfl
@[simp] theorem State.makeRoom_pkr (s : State) (n : Nat) : (s.makeRoom n).pkr = s.pkr := by
  unfold State.makeRoom; split <;> rfl
@[simp] theorem State.makeRoom_dbr (s : State) (n : Nat) : (s.makeRoom n).dbr = s.dbr := by
  unfold State.makeRoom; split <;> rfl
@[simp] theorem State.makeRoom_ibr (s : State) (n : Nat) : (s.makeRoom n).ibr = s.ibr := by
  unfold State.makeRoom; split <;> rfl
@[simp] theorem State.makeRoom_pmc (s : State) (n : Nat) : (s.makeRoom n).pmc = s.pmc := by
  unfold State.makeRoom; split <;> rfl
@[simp] theorem State.makeRoom_pmd (s : State) (n : Nat) : (s.makeRoom n).pmd = s.pmd := by
  unfold State.makeRoom; split <;> rfl
@[simp] theorem State.makeRoom_dahr (s : State) (n : Nat) : (s.makeRoom n).dahr = s.dahr := by
  unfold State.makeRoom; split <;> rfl
@[simp] theorem State.makeRoom_dahs (s : State) (n : Nat) : (s.makeRoom n).dahs = s.dahs := by
  unfold State.makeRoom; split <;> rfl
@[simp] theorem State.makeRoom_mem (s : State) (n : Nat) : (s.makeRoom n).mem = s.mem := by
  unfold State.makeRoom; split <;> rfl
@[simp] theorem State.makeRoom_lastIp (s : State) (n : Nat) : (s.makeRoom n).lastIp = s.lastIp := by
  unfold State.makeRoom; split <;> rfl
@[simp] theorem State.makeRoom_curBundle (s : State) (n : Nat) : (s.makeRoom n).curBundle = s.curBundle := by
  unfold State.makeRoom; split <;> rfl
@[simp] theorem State.makeRoom_pmiPending (s : State) (n : Nat) : (s.makeRoom n).pmiPending = s.pmiPending := by
  unfold State.makeRoom; split <;> rfl
@[simp] theorem State.makeRoom_initPending (s : State) (n : Nat) : (s.makeRoom n).initPending = s.initPending := by
  unfold State.makeRoom; split <;> rfl
@[simp] theorem State.makeRoom_checkPending (s : State) (n : Nat) : (s.makeRoom n).checkPending = s.checkPending := by
  unfold State.makeRoom; split <;> rfl
@[simp] theorem State.makeRoom_pal (s : State) (n : Nat) : (s.makeRoom n).pal = s.pal := by
  unfold State.makeRoom; split <;> rfl
@[simp] theorem State.makeRoom_midGroup (s : State) (n : Nat) : (s.makeRoom n).midGroup = s.midGroup := by
  unfold State.makeRoom; split <;> rfl
@[simp] theorem State.makeRoom_progress (s : State) (n : Nat) : (s.makeRoom n).progress = s.progress := by
  unfold State.makeRoom; split <;> rfl
@[simp] theorem State.makeRoom_fresh (s : State) (n : Nat) : (s.makeRoom n).fresh = s.fresh := by
  unfold State.makeRoom; split <;> rfl

/-! `enableFrameLoad` -/

@[simp] theorem State.enableFrameLoad_ip (s : State) : (s.enableFrameLoad).ip = s.ip := by
  unfold State.enableFrameLoad; split <;> rfl
@[simp] theorem State.enableFrameLoad_psr (s : State) : (s.enableFrameLoad).psr = s.psr := by
  unfold State.enableFrameLoad; split <;> rfl
@[simp] theorem State.enableFrameLoad_cfm (s : State) : (s.enableFrameLoad).cfm = s.cfm := by
  unfold State.enableFrameLoad; split <;> rfl
@[simp] theorem State.enableFrameLoad_grStatic (s : State) : (s.enableFrameLoad).grStatic = s.grStatic := by
  unfold State.enableFrameLoad; split <;> rfl
@[simp] theorem State.enableFrameLoad_grBank0 (s : State) : (s.enableFrameLoad).grBank0 = s.grBank0 := by
  unfold State.enableFrameLoad; split <;> rfl
@[simp] theorem State.enableFrameLoad_grBank1 (s : State) : (s.enableFrameLoad).grBank1 = s.grBank1 := by
  unfold State.enableFrameLoad; split <;> rfl
@[simp] theorem State.enableFrameLoad_grStacked (s : State) : (s.enableFrameLoad).grStacked = s.grStacked := by
  unfold State.enableFrameLoad; split <;> rfl
@[simp] theorem State.enableFrameLoad_fr (s : State) : (s.enableFrameLoad).fr = s.fr := by
  unfold State.enableFrameLoad; split <;> rfl
@[simp] theorem State.enableFrameLoad_pr (s : State) : (s.enableFrameLoad).pr = s.pr := by
  unfold State.enableFrameLoad; split <;> rfl
@[simp] theorem State.enableFrameLoad_br (s : State) : (s.enableFrameLoad).br = s.br := by
  unfold State.enableFrameLoad; split <;> rfl
@[simp] theorem State.enableFrameLoad_ar (s : State) : (s.enableFrameLoad).ar = s.ar := by
  unfold State.enableFrameLoad; split <;> rfl
@[simp] theorem State.enableFrameLoad_cr (s : State) : (s.enableFrameLoad).cr = s.cr := by
  unfold State.enableFrameLoad; split <;> rfl
@[simp] theorem State.enableFrameLoad_inService (s : State) : (s.enableFrameLoad).inService = s.inService := by
  unfold State.enableFrameLoad; split <;> rfl
@[simp] theorem State.enableFrameLoad_alat (s : State) : (s.enableFrameLoad).alat = s.alat := by
  unfold State.enableFrameLoad; split <;> rfl
@[simp] theorem State.enableFrameLoad_itr (s : State) : (s.enableFrameLoad).itr = s.itr := by
  unfold State.enableFrameLoad; split <;> rfl
@[simp] theorem State.enableFrameLoad_dtr (s : State) : (s.enableFrameLoad).dtr = s.dtr := by
  unfold State.enableFrameLoad; split <;> rfl
@[simp] theorem State.enableFrameLoad_itc (s : State) : (s.enableFrameLoad).itc = s.itc := by
  unfold State.enableFrameLoad; split <;> rfl
@[simp] theorem State.enableFrameLoad_dtc (s : State) : (s.enableFrameLoad).dtc = s.dtc := by
  unfold State.enableFrameLoad; split <;> rfl
@[simp] theorem State.enableFrameLoad_rr (s : State) : (s.enableFrameLoad).rr = s.rr := by
  unfold State.enableFrameLoad; split <;> rfl
@[simp] theorem State.enableFrameLoad_pkr (s : State) : (s.enableFrameLoad).pkr = s.pkr := by
  unfold State.enableFrameLoad; split <;> rfl
@[simp] theorem State.enableFrameLoad_dbr (s : State) : (s.enableFrameLoad).dbr = s.dbr := by
  unfold State.enableFrameLoad; split <;> rfl
@[simp] theorem State.enableFrameLoad_ibr (s : State) : (s.enableFrameLoad).ibr = s.ibr := by
  unfold State.enableFrameLoad; split <;> rfl
@[simp] theorem State.enableFrameLoad_pmc (s : State) : (s.enableFrameLoad).pmc = s.pmc := by
  unfold State.enableFrameLoad; split <;> rfl
@[simp] theorem State.enableFrameLoad_pmd (s : State) : (s.enableFrameLoad).pmd = s.pmd := by
  unfold State.enableFrameLoad; split <;> rfl
@[simp] theorem State.enableFrameLoad_dahr (s : State) : (s.enableFrameLoad).dahr = s.dahr := by
  unfold State.enableFrameLoad; split <;> rfl
@[simp] theorem State.enableFrameLoad_dahs (s : State) : (s.enableFrameLoad).dahs = s.dahs := by
  unfold State.enableFrameLoad; split <;> rfl
@[simp] theorem State.enableFrameLoad_mem (s : State) : (s.enableFrameLoad).mem = s.mem := by
  unfold State.enableFrameLoad; split <;> rfl
@[simp] theorem State.enableFrameLoad_lastIp (s : State) : (s.enableFrameLoad).lastIp = s.lastIp := by
  unfold State.enableFrameLoad; split <;> rfl
@[simp] theorem State.enableFrameLoad_curBundle (s : State) : (s.enableFrameLoad).curBundle = s.curBundle := by
  unfold State.enableFrameLoad; split <;> rfl
@[simp] theorem State.enableFrameLoad_pmiPending (s : State) : (s.enableFrameLoad).pmiPending = s.pmiPending := by
  unfold State.enableFrameLoad; split <;> rfl
@[simp] theorem State.enableFrameLoad_initPending (s : State) : (s.enableFrameLoad).initPending = s.initPending := by
  unfold State.enableFrameLoad; split <;> rfl
@[simp] theorem State.enableFrameLoad_checkPending (s : State) : (s.enableFrameLoad).checkPending = s.checkPending := by
  unfold State.enableFrameLoad; split <;> rfl
@[simp] theorem State.enableFrameLoad_pal (s : State) : (s.enableFrameLoad).pal = s.pal := by
  unfold State.enableFrameLoad; split <;> rfl
@[simp] theorem State.enableFrameLoad_midGroup (s : State) : (s.enableFrameLoad).midGroup = s.midGroup := by
  unfold State.enableFrameLoad; split <;> rfl
@[simp] theorem State.enableFrameLoad_progress (s : State) : (s.enableFrameLoad).progress = s.progress := by
  unfold State.enableFrameLoad; split <;> rfl
@[simp] theorem State.enableFrameLoad_fresh (s : State) : (s.enableFrameLoad).fresh = s.fresh := by
  unfold State.enableFrameLoad; split <;> rfl

/-! `countOne` -/

@[simp] theorem State.countOne_ip (s : State) (k : Fin 256) : (s.countOne k).ip = s.ip := by
  unfold State.countOne; dsimp only; repeat' split
  all_goals rfl
@[simp] theorem State.countOne_psr (s : State) (k : Fin 256) : (s.countOne k).psr = s.psr := by
  unfold State.countOne; dsimp only; repeat' split
  all_goals rfl
@[simp] theorem State.countOne_cfm (s : State) (k : Fin 256) : (s.countOne k).cfm = s.cfm := by
  unfold State.countOne; dsimp only; repeat' split
  all_goals rfl
@[simp] theorem State.countOne_grStatic (s : State) (k : Fin 256) : (s.countOne k).grStatic = s.grStatic := by
  unfold State.countOne; dsimp only; repeat' split
  all_goals rfl
@[simp] theorem State.countOne_grBank0 (s : State) (k : Fin 256) : (s.countOne k).grBank0 = s.grBank0 := by
  unfold State.countOne; dsimp only; repeat' split
  all_goals rfl
@[simp] theorem State.countOne_grBank1 (s : State) (k : Fin 256) : (s.countOne k).grBank1 = s.grBank1 := by
  unfold State.countOne; dsimp only; repeat' split
  all_goals rfl
@[simp] theorem State.countOne_grStacked (s : State) (k : Fin 256) : (s.countOne k).grStacked = s.grStacked := by
  unfold State.countOne; dsimp only; repeat' split
  all_goals rfl
@[simp] theorem State.countOne_fr (s : State) (k : Fin 256) : (s.countOne k).fr = s.fr := by
  unfold State.countOne; dsimp only; repeat' split
  all_goals rfl
@[simp] theorem State.countOne_pr (s : State) (k : Fin 256) : (s.countOne k).pr = s.pr := by
  unfold State.countOne; dsimp only; repeat' split
  all_goals rfl
@[simp] theorem State.countOne_br (s : State) (k : Fin 256) : (s.countOne k).br = s.br := by
  unfold State.countOne; dsimp only; repeat' split
  all_goals rfl
@[simp] theorem State.countOne_ar (s : State) (k : Fin 256) : (s.countOne k).ar = s.ar := by
  unfold State.countOne; dsimp only; repeat' split
  all_goals rfl
@[simp] theorem State.countOne_inService (s : State) (k : Fin 256) : (s.countOne k).inService = s.inService := by
  unfold State.countOne; dsimp only; repeat' split
  all_goals rfl
@[simp] theorem State.countOne_rse (s : State) (k : Fin 256) : (s.countOne k).rse = s.rse := by
  unfold State.countOne; dsimp only; repeat' split
  all_goals rfl
@[simp] theorem State.countOne_alat (s : State) (k : Fin 256) : (s.countOne k).alat = s.alat := by
  unfold State.countOne; dsimp only; repeat' split
  all_goals rfl
@[simp] theorem State.countOne_itr (s : State) (k : Fin 256) : (s.countOne k).itr = s.itr := by
  unfold State.countOne; dsimp only; repeat' split
  all_goals rfl
@[simp] theorem State.countOne_dtr (s : State) (k : Fin 256) : (s.countOne k).dtr = s.dtr := by
  unfold State.countOne; dsimp only; repeat' split
  all_goals rfl
@[simp] theorem State.countOne_itc (s : State) (k : Fin 256) : (s.countOne k).itc = s.itc := by
  unfold State.countOne; dsimp only; repeat' split
  all_goals rfl
@[simp] theorem State.countOne_dtc (s : State) (k : Fin 256) : (s.countOne k).dtc = s.dtc := by
  unfold State.countOne; dsimp only; repeat' split
  all_goals rfl
@[simp] theorem State.countOne_rr (s : State) (k : Fin 256) : (s.countOne k).rr = s.rr := by
  unfold State.countOne; dsimp only; repeat' split
  all_goals rfl
@[simp] theorem State.countOne_pkr (s : State) (k : Fin 256) : (s.countOne k).pkr = s.pkr := by
  unfold State.countOne; dsimp only; repeat' split
  all_goals rfl
@[simp] theorem State.countOne_dbr (s : State) (k : Fin 256) : (s.countOne k).dbr = s.dbr := by
  unfold State.countOne; dsimp only; repeat' split
  all_goals rfl
@[simp] theorem State.countOne_ibr (s : State) (k : Fin 256) : (s.countOne k).ibr = s.ibr := by
  unfold State.countOne; dsimp only; repeat' split
  all_goals rfl
@[simp] theorem State.countOne_dahr (s : State) (k : Fin 256) : (s.countOne k).dahr = s.dahr := by
  unfold State.countOne; dsimp only; repeat' split
  all_goals rfl
@[simp] theorem State.countOne_dahs (s : State) (k : Fin 256) : (s.countOne k).dahs = s.dahs := by
  unfold State.countOne; dsimp only; repeat' split
  all_goals rfl
@[simp] theorem State.countOne_mem (s : State) (k : Fin 256) : (s.countOne k).mem = s.mem := by
  unfold State.countOne; dsimp only; repeat' split
  all_goals rfl
@[simp] theorem State.countOne_lastIp (s : State) (k : Fin 256) : (s.countOne k).lastIp = s.lastIp := by
  unfold State.countOne; dsimp only; repeat' split
  all_goals rfl
@[simp] theorem State.countOne_curBundle (s : State) (k : Fin 256) : (s.countOne k).curBundle = s.curBundle := by
  unfold State.countOne; dsimp only; repeat' split
  all_goals rfl
@[simp] theorem State.countOne_pmiPending (s : State) (k : Fin 256) : (s.countOne k).pmiPending = s.pmiPending := by
  unfold State.countOne; dsimp only; repeat' split
  all_goals rfl
@[simp] theorem State.countOne_initPending (s : State) (k : Fin 256) : (s.countOne k).initPending = s.initPending := by
  unfold State.countOne; dsimp only; repeat' split
  all_goals rfl
@[simp] theorem State.countOne_checkPending (s : State) (k : Fin 256) : (s.countOne k).checkPending = s.checkPending := by
  unfold State.countOne; dsimp only; repeat' split
  all_goals rfl
@[simp] theorem State.countOne_pal (s : State) (k : Fin 256) : (s.countOne k).pal = s.pal := by
  unfold State.countOne; dsimp only; repeat' split
  all_goals rfl
@[simp] theorem State.countOne_midGroup (s : State) (k : Fin 256) : (s.countOne k).midGroup = s.midGroup := by
  unfold State.countOne; dsimp only; repeat' split
  all_goals rfl
@[simp] theorem State.countOne_progress (s : State) (k : Fin 256) : (s.countOne k).progress = s.progress := by
  unfold State.countOne; dsimp only; repeat' split
  all_goals rfl
@[simp] theorem State.countOne_fresh (s : State) (k : Fin 256) : (s.countOne k).fresh = s.fresh := by
  unfold State.countOne; dsimp only; repeat' split
  all_goals rfl

/-! `countEvent` -/

@[simp] theorem State.countEvent_ip (s : State) (ev : BitVec 8) : (s.countEvent ev).ip = s.ip := rfl
@[simp] theorem State.countEvent_psr (s : State) (ev : BitVec 8) : (s.countEvent ev).psr = s.psr := rfl
@[simp] theorem State.countEvent_cfm (s : State) (ev : BitVec 8) : (s.countEvent ev).cfm = s.cfm := rfl
@[simp] theorem State.countEvent_grStatic (s : State) (ev : BitVec 8) : (s.countEvent ev).grStatic = s.grStatic := rfl
@[simp] theorem State.countEvent_grBank0 (s : State) (ev : BitVec 8) : (s.countEvent ev).grBank0 = s.grBank0 := rfl
@[simp] theorem State.countEvent_grBank1 (s : State) (ev : BitVec 8) : (s.countEvent ev).grBank1 = s.grBank1 := rfl
@[simp] theorem State.countEvent_grStacked (s : State) (ev : BitVec 8) : (s.countEvent ev).grStacked = s.grStacked := rfl
@[simp] theorem State.countEvent_fr (s : State) (ev : BitVec 8) : (s.countEvent ev).fr = s.fr := rfl
@[simp] theorem State.countEvent_pr (s : State) (ev : BitVec 8) : (s.countEvent ev).pr = s.pr := rfl
@[simp] theorem State.countEvent_br (s : State) (ev : BitVec 8) : (s.countEvent ev).br = s.br := rfl
@[simp] theorem State.countEvent_ar (s : State) (ev : BitVec 8) : (s.countEvent ev).ar = s.ar := rfl
@[simp] theorem State.countEvent_inService (s : State) (ev : BitVec 8) : (s.countEvent ev).inService = s.inService := rfl
@[simp] theorem State.countEvent_rse (s : State) (ev : BitVec 8) : (s.countEvent ev).rse = s.rse := rfl
@[simp] theorem State.countEvent_alat (s : State) (ev : BitVec 8) : (s.countEvent ev).alat = s.alat := rfl
@[simp] theorem State.countEvent_itr (s : State) (ev : BitVec 8) : (s.countEvent ev).itr = s.itr := rfl
@[simp] theorem State.countEvent_dtr (s : State) (ev : BitVec 8) : (s.countEvent ev).dtr = s.dtr := rfl
@[simp] theorem State.countEvent_itc (s : State) (ev : BitVec 8) : (s.countEvent ev).itc = s.itc := rfl
@[simp] theorem State.countEvent_dtc (s : State) (ev : BitVec 8) : (s.countEvent ev).dtc = s.dtc := rfl
@[simp] theorem State.countEvent_rr (s : State) (ev : BitVec 8) : (s.countEvent ev).rr = s.rr := rfl
@[simp] theorem State.countEvent_pkr (s : State) (ev : BitVec 8) : (s.countEvent ev).pkr = s.pkr := rfl
@[simp] theorem State.countEvent_dbr (s : State) (ev : BitVec 8) : (s.countEvent ev).dbr = s.dbr := rfl
@[simp] theorem State.countEvent_ibr (s : State) (ev : BitVec 8) : (s.countEvent ev).ibr = s.ibr := rfl
@[simp] theorem State.countEvent_dahr (s : State) (ev : BitVec 8) : (s.countEvent ev).dahr = s.dahr := rfl
@[simp] theorem State.countEvent_dahs (s : State) (ev : BitVec 8) : (s.countEvent ev).dahs = s.dahs := rfl
@[simp] theorem State.countEvent_mem (s : State) (ev : BitVec 8) : (s.countEvent ev).mem = s.mem := rfl
@[simp] theorem State.countEvent_lastIp (s : State) (ev : BitVec 8) : (s.countEvent ev).lastIp = s.lastIp := rfl
@[simp] theorem State.countEvent_curBundle (s : State) (ev : BitVec 8) : (s.countEvent ev).curBundle = s.curBundle := rfl
@[simp] theorem State.countEvent_pmiPending (s : State) (ev : BitVec 8) : (s.countEvent ev).pmiPending = s.pmiPending := rfl
@[simp] theorem State.countEvent_initPending (s : State) (ev : BitVec 8) : (s.countEvent ev).initPending = s.initPending := rfl
@[simp] theorem State.countEvent_checkPending (s : State) (ev : BitVec 8) : (s.countEvent ev).checkPending = s.checkPending := rfl
@[simp] theorem State.countEvent_pal (s : State) (ev : BitVec 8) : (s.countEvent ev).pal = s.pal := rfl
@[simp] theorem State.countEvent_midGroup (s : State) (ev : BitVec 8) : (s.countEvent ev).midGroup = s.midGroup := rfl
@[simp] theorem State.countEvent_progress (s : State) (ev : BitVec 8) : (s.countEvent ev).progress = s.progress := rfl
@[simp] theorem State.countEvent_fresh (s : State) (ev : BitVec 8) : (s.countEvent ev).fresh = s.fresh := rfl

/-! `enterHandler` and `deliver` -/

@[simp] theorem enterHandler_cfm (i : Interruption) (s : State) : (enterHandler i s).cfm = s.cfm := by
  unfold enterHandler; dsimp only; split <;> rfl
@[simp] theorem enterHandler_grStatic (i : Interruption) (s : State) : (enterHandler i s).grStatic = s.grStatic := by
  unfold enterHandler; dsimp only; split <;> rfl
@[simp] theorem enterHandler_grBank0 (i : Interruption) (s : State) : (enterHandler i s).grBank0 = s.grBank0 := by
  unfold enterHandler; dsimp only; split <;> rfl
@[simp] theorem enterHandler_grBank1 (i : Interruption) (s : State) : (enterHandler i s).grBank1 = s.grBank1 := by
  unfold enterHandler; dsimp only; split <;> rfl
@[simp] theorem enterHandler_grStacked (i : Interruption) (s : State) : (enterHandler i s).grStacked = s.grStacked := by
  unfold enterHandler; dsimp only; split <;> rfl
@[simp] theorem enterHandler_fr (i : Interruption) (s : State) : (enterHandler i s).fr = s.fr := by
  unfold enterHandler; dsimp only; split <;> rfl
@[simp] theorem enterHandler_pr (i : Interruption) (s : State) : (enterHandler i s).pr = s.pr := by
  unfold enterHandler; dsimp only; split <;> rfl
@[simp] theorem enterHandler_br (i : Interruption) (s : State) : (enterHandler i s).br = s.br := by
  unfold enterHandler; dsimp only; split <;> rfl
@[simp] theorem enterHandler_ar (i : Interruption) (s : State) : (enterHandler i s).ar = s.ar := by
  unfold enterHandler; dsimp only; split <;> rfl
@[simp] theorem enterHandler_inService (i : Interruption) (s : State) : (enterHandler i s).inService = s.inService := by
  unfold enterHandler; dsimp only; split <;> rfl
@[simp] theorem enterHandler_alat (i : Interruption) (s : State) : (enterHandler i s).alat = s.alat := by
  unfold enterHandler; dsimp only; split <;> rfl
@[simp] theorem enterHandler_itr (i : Interruption) (s : State) : (enterHandler i s).itr = s.itr := by
  unfold enterHandler; dsimp only; split <;> rfl
@[simp] theorem enterHandler_dtr (i : Interruption) (s : State) : (enterHandler i s).dtr = s.dtr := by
  unfold enterHandler; dsimp only; split <;> rfl
@[simp] theorem enterHandler_itc (i : Interruption) (s : State) : (enterHandler i s).itc = s.itc := by
  unfold enterHandler; dsimp only; split <;> rfl
@[simp] theorem enterHandler_dtc (i : Interruption) (s : State) : (enterHandler i s).dtc = s.dtc := by
  unfold enterHandler; dsimp only; split <;> rfl
@[simp] theorem enterHandler_rr (i : Interruption) (s : State) : (enterHandler i s).rr = s.rr := by
  unfold enterHandler; dsimp only; split <;> rfl
@[simp] theorem enterHandler_pkr (i : Interruption) (s : State) : (enterHandler i s).pkr = s.pkr := by
  unfold enterHandler; dsimp only; split <;> rfl
@[simp] theorem enterHandler_dbr (i : Interruption) (s : State) : (enterHandler i s).dbr = s.dbr := by
  unfold enterHandler; dsimp only; split <;> rfl
@[simp] theorem enterHandler_ibr (i : Interruption) (s : State) : (enterHandler i s).ibr = s.ibr := by
  unfold enterHandler; dsimp only; split <;> rfl
@[simp] theorem enterHandler_pmc (i : Interruption) (s : State) : (enterHandler i s).pmc = s.pmc := by
  unfold enterHandler; dsimp only; split <;> rfl
@[simp] theorem enterHandler_pmd (i : Interruption) (s : State) : (enterHandler i s).pmd = s.pmd := by
  unfold enterHandler; dsimp only; split <;> rfl
@[simp] theorem enterHandler_mem (i : Interruption) (s : State) : (enterHandler i s).mem = s.mem := by
  unfold enterHandler; dsimp only; split <;> rfl
@[simp] theorem enterHandler_lastIp (i : Interruption) (s : State) : (enterHandler i s).lastIp = s.lastIp := by
  unfold enterHandler; dsimp only; split <;> rfl
@[simp] theorem enterHandler_curBundle (i : Interruption) (s : State) : (enterHandler i s).curBundle = s.curBundle := by
  unfold enterHandler; dsimp only; split <;> rfl
@[simp] theorem enterHandler_pmiPending (i : Interruption) (s : State) : (enterHandler i s).pmiPending = s.pmiPending := by
  unfold enterHandler; dsimp only; split <;> rfl
@[simp] theorem enterHandler_initPending (i : Interruption) (s : State) : (enterHandler i s).initPending = s.initPending := by
  unfold enterHandler; dsimp only; split <;> rfl
@[simp] theorem enterHandler_checkPending (i : Interruption) (s : State) : (enterHandler i s).checkPending = s.checkPending := by
  unfold enterHandler; dsimp only; split <;> rfl
@[simp] theorem enterHandler_pal (i : Interruption) (s : State) : (enterHandler i s).pal = s.pal := by
  unfold enterHandler; dsimp only; split <;> rfl
@[simp] theorem enterHandler_fresh (i : Interruption) (s : State) : (enterHandler i s).fresh = s.fresh := by
  unfold enterHandler; dsimp only; split <;> rfl
@[simp] theorem enterHandler_psr (i : Interruption) (s : State) : (enterHandler i s).psr = s.entryPsr := rfl
@[simp] theorem enterHandler_ip (i : Interruption) (s : State) : (enterHandler i s).ip = s.vectorAddress i.vector := rfl

/-- An interruption other than a Virtualization fault enters its handler. -/
theorem deliver_eq {i : Interruption} (s : State) (h : i.vector ≠ .virtualization) : deliver i s = enterHandler i s :=
  if_neg h

/-- While no virtual processor runs, PAL intercepts nothing. -/
theorem deliver_of_noVp {i : Interruption} {s : State} (h : s.pal.vpRun = none) : deliver i s = enterHandler i s := by
  unfold deliver
  split
  · rw [State.intercept, enterHandler_pal, h]
  · rfl

/-- A walk that overlaps no translation register of its stream goes on. -/
theorem checkWalk_none (s : State) (inst : Bool) : s.checkWalk inst none = .ok () := rfl

end Sys2Proof.Machine
end

