-- ==== Sys2Proof/Laws/References.lean ====
section
/-! SUPPORT. Memory references, said once: the bytes of values, what loads, stores and semaphores that reach memory do. -/

namespace Sys2Proof.Machine

/-- A bit of a value made from bytes. -/
theorem ofBytesLE_bit (w : Nat) : ∀ (l : List Byte) (i : Nat), i < w →
    (ofBytesLE w l).getLsbD i = (l.getD (i/8) 0).getLsbD (i%8)
  | [], i, _ => by simp [ofBytesLE]
  | b :: l, i, h => by
    simp only [ofBytesLE, BitVec.getLsbD_or, BitVec.getLsbD_setWidth, BitVec.getLsbD_shiftLeft, h, decide_true, Bool.true_and]
    by_cases h8 : i < 8
    · have : i/8 = 0 := by omega
      have : i%8 = i := by omega
      simp [*]
    · have e : i/8 = (i-8)/8 + 1 := by omega
      have e2 : i%8 = (i-8)%8 := by omega
      rw [e, e2, ofBytesLE_bit w l (i-8) (by omega)]
      have : b.getLsbD i = false := BitVec.getLsbD_of_ge _ _ (by omega)
      simp [this, h8]

/-- As many bytes as asked. -/
theorem readBytes_len (m : List Host.Cell) (x n : Nat) : (Memory.readBytes m x n).length = n := by
  induction n generalizing x with
  | zero => rfl
  | succ n ih => simp [Memory.readBytes, ih]

/-- The k-th byte read. -/
theorem readBytes_get (m : List Host.Cell) (x n k : Nat) (h : k < n) : (Memory.readBytes m x n).getD k 0 = Memory.readByte m (x+k) := by
  induction n generalizing x k with
  | zero => omega
  | succ n ih =>
    cases k with
    | zero => simp [Memory.readBytes]
    | succ k => 
      have := ih (x+1) k (by omega)
      simp only [Memory.readBytes, List.getD_cons_succ, this]
      congr 1; omega

/-- The k-th byte of a read in memory order. -/
theorem orderBytes_get (m : List Host.Cell) (x n k : Nat) (be : Bool) (h : k < n) : (orderBytes be (Memory.readBytes m x n)).getD k 0 = Memory.readByte m (x + (if be then n-1-k else k)) := by
  unfold orderBytes
  cases be
  · simpa using readBytes_get m x n k h
  · have := readBytes_get m x n (n-1-k) (by omega)
    simp only [if_true]
    rw [← this]
    simp only [List.getD_eq_getElem?_getD]
    rw [List.getElem?_reverse (by rw [readBytes_len]; exact h), readBytes_len]

/-- What a read of memory gives holds the bytes in the byte order (R150). -/
theorem holds_read (w : Nat) (m : List Host.Cell) (x n : Nat) (be : Bool) (hw : w % 8 = 0) :
    HoldsBytes (ofBytesLE w (orderBytes be (Memory.readBytes m x n))) n be (fun k => Memory.readByte m (x+k)) := by
  intro k hk
  apply BitVec.eq_of_getLsbD_eq
  intro i hi
  rw [getLsbD_fld, ofBytesLE_bit w _ _ (by omega)]
  have : (8*k+i)/8 = k := by omega
  have h2 : (8*k+i)%8 = i := by omega
  rw [this, h2]
  by_cases hn : k < n
  · rw [orderBytes_get _ _ _ _ _ hn]; simp [hn, hi]
  · have : (orderBytes be (Memory.readBytes m x n)).getD k 0 = 0 := by
      apply List.getD_eq_default
      unfold orderBytes; split <;> simp [readBytes_len] <;> omega
    rw [this]; simp [hn]

/-- What a load leaves in the ALAT. -/
theorem alat_load (s : State) (t : LdType) (reg) (a : Translation) (size : Nat) (hsp : t.speculative = true ∨ t.advanced = true → maSpeculative a.ma = true) (u : State) (hu : u.alat = (s.loadAlat t reg a size).alat) :
    AlatAfterLoad s u t false reg a size := by
  unfold AlatAfterLoad
  rw [hu]
  unfold State.loadAlat
  cases t <;> simp [LdType.advanced, LdType.checkClear, LdType.isCheck, State.alatWrite, State.alatInvalEntry, LdType.speculative] at * <;> (try split) <;> simp_all [State.alatWrite, State.alatInvalEntry]  <;> grind

/-- What a check load that hits leaves in the ALAT. -/
theorem alat_skip (s : State) (t : LdType) (hc : t.isCheck = true) (reg) (a : Translation) (size : Nat) (u : State) (hu : u.alat = (s.skipAlat t reg).alat) :
    AlatAfterLoad s u t true reg a size := by
  unfold AlatAfterLoad
  rw [hu]
  unfold State.skipAlat
  cases t <;> simp [LdType.advanced, LdType.checkClear, LdType.isCheck, State.alatWrite, State.alatInvalEntry, LdType.speculative] at * <;> grind

theorem postUpdate_gr_other (t s : State) (r3 r) (p : Post) (h : p.updates = true → t.grLoc r ≠ t.grLoc r3) : (t.postUpdate s r3 p).gr r = t.gr r := by
  unfold State.postUpdate; split
  · next h' => exact setGr_gr_other _ _ _ _ (h h')
  · rfl

theorem postUpdate_gr (t s : State) (r3) (p : Post) (h : p.updates = true) (hb : t.badTarget r3 = false) : (t.postUpdate s r3 p).gr r3 = s.postValue r3 p := by
  unfold State.postUpdate; rw [if_pos h]; exact setGr_gr _ _ _ hb

theorem settled_alat {s t : State} (h : t.settled = s.settled) : t.alat = s.alat := by
  have : t.settled.alat = s.settled.alat := by rw [h]
  exact this

theorem settled_dtc {s t : State} (h : t.settled = s.settled) : t.dtc = s.dtc := by
  have : t.settled.dtc = s.settled.dtc := by rw [h]
  exact this

theorem setGr_grLoc (s : State) (r : BitVec 7) (v) (r') : (s.setGr r v).grLoc r' = s.grLoc r' := setLoc_grLoc _ _ _ _

theorem setGr_bad (s : State) (r : BitVec 7) (v) (r') : (s.setGr r v).badTarget r' = s.badTarget r' := by
  unfold State.badTarget; rw [setGr_grLoc]

theorem setGr_self (s : State) (r : BitVec 7) : s.setGr r (s.gr r) = s := by
  unfold State.setGr State.gr
  cases h : s.grLoc r <;> simp [State.setLoc]

theorem nextPlace_congr {t s : State} (hp : t.psr = s.psr) (hi : t.ip = s.ip) : t.nextPlace = s.nextPlace := by
  unfold State.nextPlace State.ri; rw [hp, hi]

/-- Completing a load; `T` is the state that the reference leaves. -/
theorem retire_load (s T X : State) (A) (hT : T = { s with dtc := T.dtc, pal := T.pal, checkPending := T.checkPending, cr := T.cr })
   (hX : X = { T with alat := A }) (r1 r3) (v : Gr) (post : Post) (hss : s.psrBit Psr.ss = false)
   (hb : s.badTarget r1 = false) (hb3 : post.updates = true → s.badTarget r3 = false) (hne : post.updates = true → s.grLoc r1 ≠ s.grLoc r3) :
   ∃ u, retire { st := (X.setGr r1 v).postUpdate s r3 post } = u ∧ u.place = s.nextPlace ∧ u.gr r1 = v ∧
    (post.updates = true → u.gr r3 = s.postValue r3 post) ∧
    (∀ r, s.grLoc r ≠ s.grLoc r1 → (post.updates = true → s.grLoc r ≠ s.grLoc r3) → u.gr r = s.gr r) ∧ SameMemory s u ∧ u.alat = A ∧ u.dtc = T.dtc ∧
    u.settled = ((({ T with alat := u.alat } : State).setGr r1 v).postUpdate s r3 post).settled := by
  have hL : ∀ r, X.grLoc r = s.grLoc r := by intro r; rw [hX, hT]; rfl
  have hG : ∀ r, X.gr r = s.gr r := by intro r; rw [hX, hT]; rfl
  have hb' : X.badTarget r1 = false := by unfold State.badTarget; rw [hL]; exact hb
  have hp : ((X.setGr r1 v).postUpdate s r3 post).psr = s.psr := by
    rw [State.postUpdate_psr, State.setGr, setLoc_psr, hX, hT]
  have hi : ((X.setGr r1 v).postUpdate s r3 post).ip = s.ip := by
    rw [State.postUpdate_ip, State.setGr, setLoc_ip, hX, hT]
  obtain ⟨e1, e2⟩ := retire_sequential ((X.setGr r1 v).postUpdate s r3 post) (by rw [State.psrBit, hp]; exact hss)
  have hA : (retire { st := (X.setGr r1 v).postUpdate s r3 post }).alat = A := by
    rw [settled_alat e1, State.postUpdate_alat, State.setGr, State.setLoc_alat, hX]
  have hD : (retire { st := (X.setGr r1 v).postUpdate s r3 post }).dtc = T.dtc := by
    rw [settled_dtc e1, State.postUpdate_dtc, State.setGr, State.setLoc_dtc, hX]
  refine ⟨_, rfl, ?_, ?_, ?_, ?_, ?_, hA, hD, ?_⟩
  · rw [e2]; exact nextPlace_congr hp hi
  · rw [gr_of_settled e1, postUpdate_gr_other, setGr_gr _ _ _ hb']
    intro h; rw [setGr_grLoc, setGr_grLoc, hL, hL]; exact hne h
  · intro h; rw [gr_of_settled e1, postUpdate_gr _ _ _ _ h]; rw [setGr_bad]; unfold State.badTarget; rw [hL]; exact hb3 h
  · intro r h1 h2; rw [gr_of_settled e1, postUpdate_gr_other]
    · rw [setGr_gr_other X r1 r v (by rw [hL, hL]; exact h1), hG]
    · intro h; rw [setGr_grLoc, setGr_grLoc, hL, hL]; exact h2 h
  · intro a; rw [State.byteAt, mem_of_settled e1, State.postUpdate_mem, State.setGr, setLoc_mem, hX, hT]; rfl
  · rw [e1, hA, hX]

theorem keepWalk_eq (s : State) (w) : s.keepWalk w = { s with dtc := (s.keepWalk w).dtc } := by cases w <;> rfl

/-- What a reference leaves, but for four fields, is as before. -/
theorem touch_shape (s : State) (a : Translation) : s.touch a =
    { s with dtc := (s.touch a).dtc, pal := (s.touch a).pal, checkPending := (s.touch a).checkPending, cr := (s.touch a).cr } :=
  State.touch_congr a rfl rfl rfl rfl rfl

theorem loadAlat_eq (s : State) (t reg a n) : s.loadAlat t reg a n = { s with alat := (s.loadAlat t reg a n).alat } := by
  unfold State.loadAlat State.alatWrite State.alatInvalEntry; split
  · rfl
  · split <;> rfl

theorem skipAlat_eq (s : State) (t reg) : s.skipAlat t reg = { s with alat := (s.skipAlat t reg).alat } := by
  unfold State.skipAlat State.alatInvalEntry; split <;> rfl

/-- Everything an integer load that reads memory does. -/
theorem loads_gr (s : State) (t fill size hint post) (qp r1 r3 a) (i : Instr) (he : exec i s = loadGr t fill size hint post qp r1 r3 s)
   (h : LoadReads s t qp r3 (s.loadRef t size size) a) (hb : s.badTarget r1 = false) (hb3 : post.updates = true → s.badTarget r3 = false)
   (hne : post.updates = true → s.grLoc r1 ≠ s.grLoc r3) : LoadsGr i s t fill size post r1 r3 a := by
  obtain ⟨hq, hss, hn, htr, hcw, hbk, hsp, hma⟩ := h
  have hrr : (post.updates && r1 == r3) = false := by
    cases hu : post.updates
    · rfl
    · simp; intro e; subst e; exact hne hu rfl
  have hp3 : (post.updates && s.badTarget r3) = false := by
    cases hu : post.updates
    · rfl
    · simp [hb3 hu]
  unfold LoadsGr
  rw [he]
  by_cases hh : (t.isCheck && s.alatCmp (s.alatGr r1)) = true
  · have hl : s.loadInto t fill size hint r1 r3 = .ok (s.skipAlat t (s.alatGr r1)) := by
      unfold State.loadInto; simp only [hh, if_true]
    have hc : t.isCheck = true := by simp at hh; exact hh.1
    obtain ⟨u, hu, c1, c2, c3, c4, c5, c6, c7, c8⟩ := retire_load s s { s with alat := (s.skipAlat t (s.alatGr r1)).alat } _ rfl rfl r1 r3 (s.gr r1) post hss hb hb3 hne
    refine ⟨u, s.gr r1, ?_, c1, c2, ?_, c3, c4, c5, ?_, ?_, by rw [if_pos hh]; exact c8⟩
    · rw [← hu]
      refine predicated_done hq ?_
      simp [check, hrr, State.checkTarget, hb, State.checkPost, hp3, hn, hl, bind, Except.bind, done]
      congr 1
      rw [skipAlat_eq]
      exact (setGr_self { s with alat := (s.skipAlat t (s.alatGr r1)).alat } r1).symm
    · rw [if_pos hh]
    · rw [hh]; exact alat_skip s t hc _ a size u c6
    · rw [hh]; exact c7
  · simp only [Bool.not_eq_true] at hh
    have hld : s.loadAddress t hint (s.gr r3) (s.loadRef t size size) = .ok (.memory a) := by
      unfold State.loadAddress
      rw [htr]
      simp only [hcw, bind, Except.bind]
      cases hsb : t.speculative
      · simp [State.defersFreely]; intro h; simpa using hma (Or.inr h)
      · have := hsp hsb; have h2 := hma (Or.inl hsb)
        simp [hn, this.1, h2, State.defersFreely, this.2]
    have hl : s.loadInto t fill size hint r1 r3 = .ok ((((s.touch a).loadAlat t (s.alatGr r1) a size)).setGr r1 ⟨s.memRead a.pa size (s.psrBit Psr.be), fill && bit s.ar.unat (fld (s.gr r3).val 3 6 : BitVec 6).toNat⟩) := by
      unfold State.loadInto; simp only [hh, Bool.false_eq_true, if_false, hld, bind, Except.bind, State.load, hbk]
    obtain ⟨u, hu, c1, c2, c3, c4, c5, c6, c7, c8⟩ := retire_load s (s.touch a) ((s.touch a).loadAlat t (s.alatGr r1) a size) ((s.touch a).loadAlat t (s.alatGr r1) a size).alat (touch_shape s a) (loadAlat_eq _ _ _ _ _) r1 r3 ⟨s.memRead a.pa size (s.psrBit Psr.be), fill && bit s.ar.unat (fld (s.gr r3).val 3 6 : BitVec 6).toNat⟩ post hss hb hb3 hne
    refine ⟨u, _, ?_, c1, c2, ?_, c3, c4, c5, ?_, ?_, by rw [if_neg (by simp [hh])]; exact c8⟩
    · rw [← hu]
      refine predicated_done hq ?_
      simp [check, hrr, State.checkTarget, hb, State.checkPost, hp3, hn, hl, bind, Except.bind, done]
    · rw [if_neg (by simp [hh])]
      exact ⟨holds_read 64 _ _ _ _ rfl, rfl⟩
    · rw [hh]; refine alat_load s t _ a size hma u ?_
      rw [c6]; unfold State.loadAlat State.alatWrite State.alatInvalEntry; split
      · simp
      · split <;> simp
    · rw [hh]; unfold WalkKept; rw [c7]; simp

theorem toBytesLE_get {w : Nat} (n : Nat) (v : BitVec w) (k : Nat) (h : k < n) : (toBytesLE n v).getD k 0 = fld v (8*k) 8 := by
  induction n generalizing v k with
  | zero => omega
  | succ n ih =>
    cases k with
    | zero =>
      simp only [toBytesLE, List.getD_cons_zero]
      apply BitVec.eq_of_getLsbD_eq; intro i hi
      rw [getLsbD_fld]; simp [hi]
    | succ k =>
      simp only [toBytesLE, List.getD_cons_succ]
      rw [ih _ k (by omega)]
      apply BitVec.eq_of_getLsbD_eq; intro i hi
      rw [getLsbD_fld, getLsbD_fld, BitVec.getLsbD_ushiftRight]
      congr 2; omega

theorem orderTo_get {w : Nat} (n : Nat) (v : BitVec w) (k : Nat) (be : Bool) (h : k < n) : (orderBytes be (toBytesLE n v)).getD k 0 = fld v (8*(if be then n-1-k else k)) 8 := by
  unfold orderBytes
  cases be
  · simpa using toBytesLE_get n v k h
  · have := toBytesLE_get n v (n-1-k) (by omega)
    simp only [if_true]
    rw [← this]
    simp only [List.getD_eq_getElem?_getD]
    rw [List.getElem?_reverse (by rw [toBytesLE_length]; exact h), toBytesLE_length]

/-- Written bytes are stored, the others as before. -/
theorem stored_write (s u : State) (hw : Memory.wf s.mem = true) (pa : Word) (n : Nat) (be : Bool) {w} (v : BitVec w)
   (hu : u.mem = Memory.writeBytes s.mem (physAddr pa) (orderBytes be (toBytesLE n v))) : Stored u pa n be v ∧ SameOutside s u pa n := by
  have hl : (orderBytes be (toBytesLE n v)).length = n := by rw [orderBytes_length, toBytesLE_length]
  constructor
  · intro k hk
    unfold bytesFrom State.byteAt
    rw [hu, Memory.readByte_writeBytes hw, hl, if_pos (by omega)]
    rw [show physAddr pa + k - physAddr pa = k by omega]
    exact orderTo_get n v k be hk
  · intro x hx
    unfold State.byteAt
    rw [hu, Memory.readByte_writeBytes hw, hl, if_neg (by omega)]

theorem alat_store (s u X : State) (hX : X.alat = s.alat) (pa n) (hu : u.alat = (X.alatInvalRange pa n).alat) : AlatAfterStore s u pa n := by
  intro e; rw [hu]; simp [State.alatInvalRange, hX]

/-- Completing a store; `T` is the state that the reference leaves. -/
theorem retire_store (s T X : State) (A M) (R : AppRegs)
   (hT : T = { s with dtc := T.dtc, pal := T.pal, checkPending := T.checkPending, cr := T.cr })
   (hX : X = { T with alat := A, mem := M, ar := R }) (r3) (post : Post) (hss : s.psrBit Psr.ss = false)
   (hb3 : post.updates = true → s.badTarget r3 = false) :
   ∃ u, retire { st := X.postUpdate s r3 post } = u ∧ u.place = s.nextPlace ∧
    (post.updates = true → u.gr r3 = s.postValue r3 post) ∧
    (∀ r, (post.updates = true → s.grLoc r ≠ s.grLoc r3) → u.gr r = s.gr r) ∧ u.mem = M ∧ u.alat = A ∧ u.dtc = T.dtc ∧
    u.settled = (({ T with alat := u.alat, mem := u.mem, ar := R } : State).postUpdate s r3 post).settled := by
  have hp : (X.postUpdate s r3 post).psr = s.psr := by rw [State.postUpdate_psr, hX, hT]
  have hi : (X.postUpdate s r3 post).ip = s.ip := by rw [State.postUpdate_ip, hX, hT]
  obtain ⟨e1, e2⟩ := retire_sequential (X.postUpdate s r3 post) (by rw [State.psrBit, hp]; exact hss)
  have hA : (retire { st := X.postUpdate s r3 post }).alat = A := by rw [settled_alat e1, State.postUpdate_alat, hX]
  have hD : (retire { st := X.postUpdate s r3 post }).dtc = T.dtc := by rw [settled_dtc e1, State.postUpdate_dtc, hX]
  have hM : (retire { st := X.postUpdate s r3 post }).mem = M := by rw [mem_of_settled e1, State.postUpdate_mem, hX]
  have hL : ∀ r, X.grLoc r = s.grLoc r := by intro r; rw [hX, hT]; rfl
  have hG : ∀ r, X.gr r = s.gr r := by intro r; rw [hX, hT]; rfl
  refine ⟨_, rfl, ?_, ?_, ?_, hM, hA, hD, ?_⟩
  · rw [e2]; exact nextPlace_congr hp hi
  · intro h; rw [gr_of_settled e1, postUpdate_gr _ _ _ _ h]; unfold State.badTarget; rw [hL]; exact hb3 h
  · intro r h2; rw [gr_of_settled e1, postUpdate_gr_other]
    · exact hG r
    · intro h; rw [hL, hL]; exact h2 h
  · rw [e1, hA, hM, hX]

/-- A store outside the interrupt block. -/
theorem storeAt_ok (s : State) (a : Translation) (n : Nat) (v : Word) (hb : s.blockOffset a.pa = none) :
   s.storeAt a n v = .ok { s.touch a with mem := Memory.writeBytes s.mem (physAddr a.pa) (orderBytes (s.psrBit Psr.be) (toBytesLE n v)), alat := (s.alatInvalRange a.pa n).alat, ar := s.ar } := by
  unfold State.storeAt State.store
  rw [hb]
  simp only [bind, Except.bind]
  congr 1
  rw [State.touch_congr (s := s) (t := s.memWrite a.pa n (s.psrBit Psr.be) v) a rfl rfl rfl rfl rfl, touch_shape s a]
  rfl

/-- Everything an integer store that reaches memory does. -/
theorem stores_gr (s : State) (n post qp r2 r3 a) (i : Instr) (he : exec i s = storeGr n post qp r2 r3 s)
   (h : WriteReaches s qp r3 (s.storeRef n n) a) (hn2 : (s.gr r2).nat = false) (hb3 : post.updates = true → s.badTarget r3 = false) :
   StoresValue i s post r3 a n s.ar (s.gr r2).val := by
  obtain ⟨hq, hss, hn, hw, htr, hcw, hbk⟩ := h
  have hp3 : (post.updates && s.badTarget r3) = false := by
    cases hu : post.updates
    · rfl
    · simp [hb3 hu]
  obtain ⟨u, hu, c1, c2, c3, c4, c5, c6, c7⟩ := retire_store s (s.touch a) _ (s.alatInvalRange a.pa n).alat (Memory.writeBytes s.mem (physAddr a.pa) (orderBytes (s.psrBit Psr.be) (toBytesLE n (s.gr r2).val))) s.ar (touch_shape s a) rfl r3 post hss hb3
  obtain ⟨w1, w2⟩ := stored_write s u hw a.pa n (s.psrBit Psr.be) (s.gr r2).val c4
  refine ⟨u, ?_, c1, w1, w2, c2, c3, alat_store s u s rfl _ _ c5, by rw [c6]; simp, c7⟩
  rw [he, ← hu]
  refine predicated_done hq ?_
  simp [check, State.checkPost, hp3, hn, hn2, bind, Except.bind, State.translateData, State.dataReference, htr, hcw, storeAt_ok _ _ _ _ hbk, done]

/-- Everything a spill that reaches memory does. -/
theorem stores_spill (s : State) (post qp r2 r3 a) (i : Instr) (he : exec i s = storeSpill post qp r2 r3 s)
   (h : WriteReaches s qp r3 (s.storeRef 8 8) a) (hb3 : post.updates = true → s.badTarget r3 = false) :
   ∃ v : Word, ((s.gr r2).nat = false → v = (s.gr r2).val) ∧ StoresValue i s post r3 a 8 { s.ar with unat := setBit s.ar.unat (fld (s.gr r3).val 3 6 : BitVec 6).toNat (s.gr r2).nat } v := by
  obtain ⟨hq, hss, hn, hw, htr, hcw, hbk⟩ := h
  have hp3 : (post.updates && s.badTarget r3) = false := by
    cases hu : post.updates
    · rfl
    · simp [hb3 hu]
  refine ⟨if (s.gr r2).nat then Config.freeWord .natd s.fresh else (s.gr r2).val, by intro h; simp [h], ?_⟩
  generalize hv : (if (s.gr r2).nat then Config.freeWord .natd s.fresh else (s.gr r2).val) = v
  obtain ⟨u, hu, c1, c2, c3, c4, c5, c6, c7⟩ := retire_store s (s.touch a) _ (s.alatInvalRange a.pa 8).alat (Memory.writeBytes s.mem (physAddr a.pa) (orderBytes (s.psrBit Psr.be) (toBytesLE 8 v))) { s.ar with unat := setBit s.ar.unat (fld (s.gr r3).val 3 6 : BitVec 6).toNat (s.gr r2).nat } (touch_shape s a) rfl r3 post hss hb3
  obtain ⟨w1, w2⟩ := stored_write s u hw a.pa 8 (s.psrBit Psr.be) v c4
  refine ⟨u, ?_, c1, w1, w2, c2, c3, alat_store s u s rfl _ _ c5, by rw [c6]; simp, c7⟩
  rw [he, ← hu]
  refine predicated_done hq ?_
  simp [check, State.checkPost, hp3, hn, bind, Except.bind, State.translateData, State.dataReference, htr, hcw, hv, storeAt_ok _ _ _ _ hbk, done]

/-- Completing a semaphore; `T` is the state that the reference leaves. -/
theorem retire_sem (s T X : State) (A M)
   (hT : T = { s with dtc := T.dtc, pal := T.pal, checkPending := T.checkPending, cr := T.cr })
   (hX : X = { T with alat := A, mem := M }) (r1) (v : Gr) (hss : s.psrBit Psr.ss = false)
   (hb : s.badTarget r1 = false) :
   ∃ u, retire { st := X.setGr r1 v } = u ∧ u.place = s.nextPlace ∧ u.gr r1 = v ∧ SameGrBut r1 s u ∧ u.mem = M ∧ u.alat = A ∧
    u.settled = (({ T with alat := u.alat, mem := u.mem } : State).setGr r1 v).settled := by
  have hp : (X.setGr r1 v).psr = s.psr := by rw [State.setGr, setLoc_psr, hX, hT]
  have hi : (X.setGr r1 v).ip = s.ip := by rw [State.setGr, setLoc_ip, hX, hT]
  have hL : ∀ r, X.grLoc r = s.grLoc r := by intro r; rw [hX, hT]; rfl
  have hG : ∀ r, X.gr r = s.gr r := by intro r; rw [hX, hT]; rfl
  obtain ⟨e1, e2⟩ := retire_sequential (X.setGr r1 v) (by rw [State.psrBit, hp]; exact hss)
  have hA : (retire { st := X.setGr r1 v }).alat = A := by rw [settled_alat e1, State.setGr, State.setLoc_alat, hX]
  have hM : (retire { st := X.setGr r1 v }).mem = M := by rw [mem_of_settled e1, State.setGr, setLoc_mem, hX]
  refine ⟨_, rfl, ?_, ?_, ?_, hM, hA, ?_⟩
  · rw [e2]; exact nextPlace_congr hp hi
  · rw [gr_of_settled e1]; exact setGr_gr _ _ _ (by unfold State.badTarget; rw [hL]; exact hb)
  · intro r h2; rw [gr_of_settled e1, setGr_gr_other X r1 r v (by rw [hL, hL]; exact h2), hG]
  · rw [e1, hA, hM, hX]

/-- A part of a store of a reference that has been made, outside the interrupt block, its address `b` in the reference's. -/
theorem storeAt_touched (s : State) (a : Translation) (pa : Word) (n : Nat) (v : Word) (T : State)
   (hT : T = { s.touch a with alat := T.alat, mem := T.mem }) (hb : T.blockOffset pa = none) :
   T.storeAt { a with pa := pa, walked := none } n v =
     .ok { T with mem := Memory.writeBytes T.mem (physAddr pa) (orderBytes (T.psrBit Psr.be) (toBytesLE n v)), alat := (T.alatInvalRange pa n).alat } := by
  have e : T.touch { a with pa := pa, walked := none } = T := by
    have h2 : (s.touch a).touch { a with pa := pa, walked := none } = s.touch a := State.touch_twice s a
    rw [State.touch_congr (s := s.touch a) (t := T) _ (by rw [hT]) (by rw [hT]) (by rw [hT]) (by rw [hT]) (by rw [hT]), h2]
    conv_rhs => rw [hT]
    rw [hT]
  rw [storeAt_ok T { a with pa := pa, walked := none } n v hb, e]

/-- Everything a semaphore that reaches memory does. -/
theorem sem_ok (s : State) (n qp r1 r3 a) (nat : Bool) (wr : State → Translation → Word → Except Stop State) 
   (h : WriteReaches s qp r3 (s.semaphoreRef n) a) (hn2 : nat = false) (hb : s.badTarget r1 = false) (A M)
   (hwr : wr (s.touch a) { a with walked := none } (s.memRead a.pa n (s.psrBit Psr.be)) = .ok { s.touch a with alat := A, mem := M }) :
   ∃ u old, semaphore n qp r1 r3 nat wr s = .next u ∧ u.place = s.nextPlace ∧ u.gr r1 = ⟨old, false⟩ ∧
        HoldsBytes old n (s.psrBit Psr.be) (bytesFrom s a.pa) ∧ SameGrBut r1 s u ∧
        (∀ e, e ∈ u.alat ↔ e ∈ A ∧ (physAddr e.paddr + e.size ≤ physAddr a.pa ∨ physAddr a.pa + n ≤ physAddr e.paddr)) ∧
        u.settled = (({ s.touch a with alat := u.alat, mem := u.mem } : State).setGr r1
          ⟨old, false⟩).settled ∧ u.mem = M ∧ old = (s.memRead a.pa n (s.psrBit Psr.be)) := by
  obtain ⟨hq, hss, hn, hw, htr, hcw, hbk⟩ := h
  obtain ⟨u, hu, c1, c2, c3, c4, c5, c7⟩ := retire_sem s (s.touch a) ({ s.touch a with alat := A, mem := M : State }.alatInvalRange a.pa n) _ _ (touch_shape s a) rfl r1 ⟨s.memRead a.pa n (s.psrBit Psr.be), false⟩ hss hb
  refine ⟨u, _, ?_, c1, c2, holds_read 64 _ _ _ _ rfl, c3, ?_, c7, c4, rfl⟩
  · rw [← hu]
    refine predicated_done hq ?_
    simp [check, State.checkTarget, hb, hn, hn2, bind, Except.bind, State.translateData, State.dataReference, htr, hcw, State.load, hbk, hwr, Gr.ofWord, done]
  · intro e
    rw [c5]
    simp [State.alatInvalRange]

theorem fetchInc_eq (inc : BitVec 3) : fetchInc inc = BitVec.ofInt 64 (([16, 8, 4, 1, -16, -8, -4, -1] : List Int).getD inc.toNat 0) := by
  revert inc; decide

theorem lowBytes_iff (n : Nat) (hn : n ≤ 8) (o c : Word) : o = lowBytes n c ↔ o.toNat = c.toNat % 2^(8*n) := by
  rw [← BitVec.toNat_inj]
  unfold lowBytes
  rw [BitVec.toNat_and, BitVec.toNat_ofNat]
  have : (2^(8*n) - 1) % 2^64 = 2^(8*n)-1 := by
    apply Nat.mod_eq_of_lt
    have : 2^(8*n) ≤ 2^64 := Nat.pow_le_pow_right (by omega) (by omega)
    omega
  rw [this, Nat.and_two_pow_sub_one_eq_mod]

end Sys2Proof.Machine
end

