-- ==== Sys2Proof/Tests/Slice0.lean ====
section
/-! SUPPORT. Named tests. The expected results are those of the derived vectors of 95_test_vectors.md and
96_test_vectors_2.md (a docstring names the vectors) or are computed by hand from the rule a docstring names. -/

namespace Sys2Proof.Tests

-- One thread: each kernel evaluation would otherwise hold a thread and its stack.
set_option Elab.async false

open Sys2Proof Sys2Proof.Machine

/-! ### Helpers -/

/-- The start point with ip 0x1000, in slot 2 (where a branch of the vectors stands), and four levels of hint stack. -/
def base : State :=
  { State.reset with ip := 0x1000, psr := 0x0000140000002000, dahs := List.replicate 4 dahrDefaults }

/-- Write GR `r`. -/
def gr (r : BitVec 7) (v : Word) (s : State) : State := s.setGr r ⟨v, false⟩
/-- Make GR `r` a NaT that keeps its value. -/
def nat (r : BitVec 7) (s : State) : State := s.setGr r ⟨(s.gr r).val, true⟩
/-- Write PR `p`. -/
def pr (p : BitVec 6) (b : Bool) (s : State) : State := s.setPr p b
/-- Set PSR bits. -/
def psr (v : Word) (s : State) : State := { s with psr := s.psr ||| v }

/-- Run a decoded slot and check the next state. -/
noncomputable def runs (d : SlotDecode) (s : State) (ok : State → Bool) : Bool :=
  match d with
  | .instr i => match exec i s with
    | .next t => ok t
    | _ => false
  | .reservedIfQp qp => match illegalIfQp qp false s with
    | .next t => ok t
    | _ => false
  | .reserved => false

/-- The I, M, F, B slot and the L+X pair that hold a word. -/
noncomputable def inI (w : Nat) : SlotDecode := decodeSlot .i 0 (BitVec.ofNat 41 w)
noncomputable def inM (w : Nat) : SlotDecode := decodeSlot .m 0 (BitVec.ofNat 41 w)
noncomputable def inF (w : Nat) : SlotDecode := decodeSlot .f 0 (BitVec.ofNat 41 w)
noncomputable def inB (w : Nat) : SlotDecode := decodeSlot .b 0 (BitVec.ofNat 41 w)
noncomputable def inX (l w : Nat) : SlotDecode := decodeSlot .x (BitVec.ofNat 41 l) (BitVec.ofNat 41 w)

/-- The state is at a vector of the table at IVA 0, with this ISR.code. -/
def atVector (v code : Nat) (t : State) : Bool := t.ip.toNat == v && (t.cr.isr.toNat % 0x10000 == code)

/-- An Illegal Operation fault (R1130). -/
def illegal (t : State) : Bool := atVector 0x5400 0 t

/-! ### Integer, shift, multimedia and compare vectors -/

/-- A word run in an I slot with GR2 and GR3 gives this GR1, clean, and moves to the next bundle. -/
noncomputable def givesGr1 (row : Nat × Word × Word × Word) : Bool :=
  runs (inI row.1) (gr 2 row.2.1 (gr 3 row.2.2.1 base))
    (fun t => t.gr 1 == ⟨row.2.2.2, false⟩ && t.ip == 0x1010 && t.ri == 0)

/-- A word run in an I slot with GR2, GR3, PR6 and PR7 leaves these PR6 and PR7. -/
noncomputable def givesPrs (row : Nat × Word × Word × Bool × Bool × Bool × Bool) : Bool :=
  runs (inI row.1) (gr 2 row.2.1 (gr 3 row.2.2.1 (pr 6 row.2.2.2.1 (pr 7 row.2.2.2.2.1 base))))
    (fun t => t.prBit 6 == row.2.2.2.2.2.1 && t.prBit 7 == row.2.2.2.2.2.2)

/-- Vectors V2.3.1 to V2.3.18 (word, GR2, GR3, GR1). -/
theorem test_integer_alu : [
    (0x10000304040, 0xffffffffffffffff, 0x1, 0x0), (0x10008304040, 0x5, 0x7, 0xd),
    (0x10028304040, 0x0, 0x1, 0xffffffffffffffff), (0x10020304040, 0xa, 0x3, 0x6),
    (0x111283fe040, 0x0, 0x5, 0xfffffffffffffffa), (0x11800200040, 0x2000, 0x0, 0x0),
    (0x12fffffe040, 0x0, 0x1, 0x200000), (0x10040304040, 0xffffffff, 0x80000001, 0x4000000080000000),
    (0x10060304040, 0xff00ff00ff00ff00, 0xff00ff00ff00ff0, 0xf000f000f000f00),
    (0x10068304040, 0xff00ff00ff00ff00, 0xff00ff00ff00ff0, 0xf000f000f000f000),
    (0x10070304040, 0xff00ff00ff00ff00, 0xff00ff00ff00ff0, 0xfff0fff0fff0fff0),
    (0x10078304040, 0xff00ff00ff00ff00, 0xff00ff00ff00ff0, 0xf0f0f0f0f0f0f0f0),
    (0x11160200040, 0x123456789abcdeff, 0x0, 0x123456789abcde80), (0x10098304040, 0x1000000000000001, 0x2, 0x12),
    (0x100c8304040, 0x40000000, 0xc0000004, 0x60000000c0000004)].all givesGr1 = true := by
  decide +kernel

/-- Vectors V2.5.1 to V2.5.30 (word, GR2, GR3, GR1). -/
theorem test_shifts_and_fields : [
    (0xf240304040, 0x1, 0x3f, 0x8000000000000000), (0xf240304040, 0x1, 0x40, 0x0),
    (0xf240304040, 0x1, 0x100000000, 0x0), (0xf220304040, 0x3f, 0x8000000000000000, 0xffffffffffffffff),
    (0xf220304040, 0xc8, 0x8000000000000000, 0xffffffffffffffff), (0xf200304040, 0x3f, 0x8000000000000000, 0x1),
    (0xf200304040, 0x40, 0x0, 0x0), (0xac80304040, 0x1111222233334444, 0xfedcba9876543210, 0x4444fedcba987654),
    (0xac40306040, 0x0, 0xfedcba9876543210, 0x10fedcba98765432), (0xa438310040, 0x0, 0xabcd, 0xbc),
    (0xa438312040, 0x0, 0xabcd, 0xffffffffffffffbc), (0xa5f83f2040, 0x0, 0xfedcba9876543210, 0xffffffffffffffff),
    (0xa5f83f0040, 0x0, 0xfedcba9876543210, 0xf), (0x9b98304040, 0xab, 0xffffffffffffffff, 0xfffffffffffffbff),
    (0xae3830c040, 0x0, 0xffffffffffffffff, 0xfffffffffffffff), (0xbe783fc040, 0x0, 0x0, 0xffff),
    (0xa77af04040, 0xfedcba9876543210, 0x0, 0xba98765432100000), (0xb63fbfe040, 0x0, 0x0, 0xff0),
    (0xa0300040, 0x0, 0x1280, 0xffffffffffffff80), (0xb0300040, 0x0, 0x123456787fffffff, 0x7fffffff),
    (0x88300040, 0x0, 0xfedcba9876543210, 0x3210), (0xc0300040, 0x0, 0x1122003344556677, 0x2),
    (0xe0300040, 0x0, 0x1122003344556677, 0x5), (0xc8300040, 0x0, 0x1122003344556677, 0x4),
    (0xe8300040, 0x0, 0x1111000022220000, 0x0), (0xe690300040, 0x0, 0xfedcba9876543210, 0x20),
    (0xe6d0300040, 0x0, 0x10000, 0x2f), (0xe6d0300040, 0x0, 0x0, 0x40),
    (0xf0d0304040, 0xaaaaaaaaffffffff, 0x55555555ffffffff, 0xfffffffe00000001),
    (0xf0f0304040, 0x300000000, 0x5, 0xf00000000)].all givesGr1 = true := by
  decide +kernel

/-- Vectors V2.6.1 to V2.6.29 (word, GR2, GR3, GR1). -/
theorem test_parallel_arithmetic : [
    (0x10400304040, 0x7f80ff0001fe0280, 0x101010101ff0380, 0x8081000102fd0500),
    (0x10408304040, 0x7f80ff0001fe0280, 0x101010101ff0380, 0x7f81000102fd0580),
    (0x10410304040, 0x7f80ff0001fe0280, 0x101010101ff0380, 0x8081ff0102ff05ff),
    (0x10418304040, 0x7f80ff0001fe0280, 0x101010101ff0380, 0x8081ff0102fd0500),
    (0x10600304040, 0x7f80ff0001fe0280, 0x101010101ff0380, 0x8081000103fd0600),
    (0x10608304040, 0x7f80ff0001fe0280, 0x101010101ff0380, 0x7fff000103fd0600),
    (0x11400304040, 0x7f80ff0001fe0280, 0x101010101ff0380, 0x8082000103fd0600),
    (0x10420304040, 0x7f80ff0001fe0280, 0x101010101ff0380, 0x7e7ffeff00ffff00),
    (0x10428304040, 0x7f80ff0001fe0280, 0x101010101ff0380, 0x7e80feff00ffff00),
    (0x10430304040, 0x7f80ff0001fe0280, 0x101010101ff0380, 0x7e7ffe0000000000),
    (0x10638304040, 0x7f80ff0001fe0280, 0x101010101ff0380, 0x7e7ffdff00000000),
    (0x10450304040, 0x10203ff00078001, 0x20204ff01007f00, 0x10203ff01037f01),
    (0x10458304040, 0x10203ff00078001, 0x20204ff01007f00, 0x20204ff01048001),
    (0x10650304040, 0x10203ff00078001, 0x20204ff01007f00, 0x182047f00837f81),
    (0x10658304040, 0x10203ff00078001, 0x20204ff01007f00, 0x182047f00847f81),
    (0x10470304040, 0x7f80ff0001fe0280, 0x101010101ff0380, 0x3f3f7fff00ffff00),
    (0x10520304040, 0x7f80ff0001fe0280, 0x101010101ff0380, 0xff0000ff),
    (0x10528304040, 0x7f80ff0001fe0280, 0x101010101ff0380, 0xff00000000000000),
    (0x10728304040, 0x7f80ff0001fe0280, 0x101010101ff0380, 0xffff000000000000),
    (0x11520304040, 0x7f80ff0001fe0280, 0x101010101ff0380, 0x0),
    (0x10680304040, 0x40008000ffff0001, 0x1ffff7fff8000, 0x7fff80007ffd8002),
    (0x106c8304040, 0x40008000ffff0001, 0x1ffff7fff8000, 0x1001dfff7ffe8000),
    (0xe230304040, 0x7fff8000ffff0003, 0x7fff80000002ffff, 0x10000fffefffd),
    (0xe2f0304040, 0x7fff8000ffff0003, 0x7fff80000002ffff, 0x3fff4000ffffffff),
    (0xe2d0304040, 0x7fff8000ffff0003, 0x7fff80000002ffff, 0x3fff400000010002),
    (0xe2b0304040, 0x7fff8000ffff0003, 0x7fff80000002ffff, 0x7ffe8000ffffffff),
    (0xead0304040, 0x7fff8000ffff0003, 0x7fff80000002ffff, 0x40000000fffffffd),
    (0xeaf0304040, 0x7fff8000ffff0003, 0x7fff80000002ffff, 0x3fff0001fffffffe)].all givesGr1 = true := by
  decide +kernel

/-- Vectors V2.6.30 to V2.6.64 (word, GR2, GR3, GR1). -/
theorem test_parallel_arrangement : [
    (0xe8a0304040, 0x706050403020100, 0x1716151413121110, 0x717051503130111),
    (0xe880304040, 0x706050403020100, 0x1716151413121110, 0x616041402120010),
    (0xeaa0304040, 0x706050403020100, 0x1716151413121110, 0x706171603021312),
    (0xea80304040, 0x706050403020100, 0x1716151413121110, 0x504151401001110),
    (0xf8a0304040, 0x706050403020100, 0x1716151413121110, 0x706050417161514),
    (0xf880304040, 0x706050403020100, 0x1716151413121110, 0x302010013121110),
    (0xe840304040, 0x706050403020100, 0x1716151413121110, 0x717061605150414),
    (0xe860304040, 0x706050403020100, 0x1716151413121110, 0x313021201110010),
    (0xea40304040, 0x706050403020100, 0x1716151413121110, 0x706171605041514),
    (0xea60304040, 0x706050403020100, 0x1716151413121110, 0x302131201001110),
    (0xf840304040, 0x706050403020100, 0x1716151413121110, 0x706050417161514),
    (0xf860304040, 0x706050403020100, 0x1716151413121110, 0x302010013121110),
    (0xeca0004040, 0x7060504030201a5, 0x1716151413121110, 0xa5a5a5a5a5a5a5a5),
    (0xeca0804040, 0x706050403020100, 0x1716151413121110, 0x703050106020400),
    (0xeca0904040, 0x706050403020100, 0x1716151413121110, 0x703060205010400),
    (0xeca0a04040, 0x706050403020100, 0x1716151413121110, 0x705030106040200),
    (0xeca0b04040, 0x706050403020100, 0x1716151413121110, 0x1020304050607),
    (0xeea1b04040, 0x706050403020100, 0x1716151413121110, 0x100030205040706),
    (0xeea0004040, 0x706050403020100, 0x1716151413121110, 0x100010001000100),
    (0xeeae404040, 0x706050403020100, 0x1716151413121110, 0x706050403020100),
    (0xea20304040, 0x123ffff00807f00, 0x8000ff80007f0100, 0x80807f7f7fff7f7f),
    (0xea00304040, 0x123ffff00807f00, 0x8000ff80007f0100, 0x7fffff0080ff),
    (0xf820304040, 0x123ffff00807f00, 0x8000ff80007f0100, 0x80007fff7fff7fff),
    (0xe810304040, 0x123ffff00807f00, 0x8000ff80007f0100, 0x100ff80007f0100),
    (0xe850304040, 0x123ffff00807f00, 0x8000ff80007f0100, 0x8023ffff00807f00),
    (0xea30304040, 0x123ffff00807f00, 0x8000ff80007f0100, 0x8000ff80007f0100),
    (0xea70304040, 0x123ffff00807f00, 0x8000ff80007f0100, 0x123ffff00807f00),
    (0xe8b0304040, 0x123ffff00807f00, 0x8000ff80007f0100, 0x1a0),
    (0xe630310040, 0x123ffff00807f00, 0x8000ff80007f0100, 0xf800fff800070010),
    (0xe610310040, 0x123ffff00807f00, 0x8000ff80007f0100, 0x8000ff800070010),
    (0xf020304040, 0x28, 0x8000ff80007f0100, 0xffffffff00000000), (0xf000304040, 0x28, 0x8000ff80007f0100, 0x0),
    (0xee51c04040, 0x123ffff00807f00, 0x8000ff80007f0100, 0x918fff80400f800),
    (0xf040304040, 0x123ffff00807f00, 0x20, 0x0)].all givesGr1 = true := by
  decide +kernel

/-- Vectors V2.4.1 to V2.4.22 (word, GR2, GR3, PR6 and PR7 before and after). -/
theorem test_compares : [
    (0x18038304180, 0xffffffffffffffff, 0x1, false, true, true, false),
    (0x1a038304180, 0xffffffffffffffff, 0x1, true, false, false, true),
    (0x18238304180, 0x1, 0x2, true, true, false, false), (0x18238304180, 0x2, 0x2, true, false, true, false),
    (0x1a238305180, 0x1, 0x2, false, false, true, true), (0x1c238304180, 0x2, 0x2, false, true, true, false),
    (0x198383fe180, 0x0, 0x0, false, true, true, false), (0x1b8383fe180, 0x0, 0x0, true, false, false, true),
    (0x19038300180, 0x0, 0x5, true, true, false, false), (0x1c438304180, 0x100000005, 0x5, false, true, true, false),
    (0x18438304180, 0x80000000, 0x0, false, true, true, false), (0xa038310180, 0x0, 0x10, true, false, false, true),
    (0xa2383fd180, 0x0, 0x8000000000000000, false, false, true, true),
    (0xa038082180, 0x0, 0x0, true, false, false, true)].all givesPrs = true := by
  decide +kernel

/-- Vectors V2.3.3 to V2.3.5, V2.4.3 to V2.4.5, V2.4.10 to V2.4.12, V2.4.20, V2.4.21, V2.6.23, V2.6.47: NaT sources,
predication, illegal targets and reserved encodings. -/
theorem test_nat_predication_and_targets : [
    runs (inI 0x10000304040) (nat 2 (gr 2 5 (gr 3 7 base))) (fun t => t.gr 1 == ⟨12, true⟩),
    runs (inI 0x10000304045) (gr 1 99 base) (fun t => t.gr 1 == ⟨99, false⟩ && t.ip == 0x1010),
    runs (inI 0x10000304000) base illegal,
    runs (inI 0x1C038304180) (nat 3 (gr 2 9 (gr 3 9 (pr 6 true (pr 7 true base)))))
      (fun t => !t.prBit 6 && !t.prBit 7),
    runs (inI 0x1C038305185) (pr 6 true (pr 7 true base)) (fun t => !t.prBit 6 && !t.prBit 7),
    runs (inI 0x1C038304185) (pr 6 true (pr 7 true base)) (fun t => t.prBit 6 && t.prBit 7),
    runs (inI 0x1A238304180) (nat 2 (gr 2 2 (gr 3 2 base))) (fun t => !t.prBit 6 && !t.prBit 7),
    runs (inI 0x1C030304180) base illegal,
    runs (inI 0x1C038304000) (pr 7 true base) (fun t => t.prBit 0 && !t.prBit 7),
    runs (inI 0x0A038302180) (nat 3 base) (fun t => !t.prBit 6 && t.prBit 7),
    runs (inI 0x0A238303180) (nat 3 base) (fun t => t.prBit 6 && t.prBit 7),
    runs (inI 0x10698304040) base illegal,
    runs (inI 0x10698304045) (gr 1 9 base) (fun t => t.gr 1 == ⟨9, false⟩ && t.ip == 0x1010),
    runs (inI 0x0ECA0104040) base illegal].all id = true := by
  decide +kernel

/-! ### Moves, branches, loads, speculation, the register stack -/

/-- Vectors V2.7.1 to V2.7.6: the predicates as a register. -/
theorem test_predicate_moves : [
    runs (inI 0x00600004800) (gr 2 (-1) base) (fun t => t.pr == 0x41),
    runs (inI 0x016FF005FC0) (gr 2 0x8000000000010042 base) (fun t => t.pr == 0x8000000000010043),
    runs (inI 0x01600004000) (gr 2 0x0001000000010002 (pr 1 true (pr 63 true base)))
      (fun t => t.pr == 0x0001000000010003),
    runs (inI 0x016FF005FC0) (nat 2 base) (atVector 0x5600 0x10),
    runs (inI 0x00400000040) { base with pr := 0xABCD00000123F0F1, cfm := { base.cfm with rrbPr := 5 } }
      (fun t => t.pr == 0x000000000001F0F1 && t.cfm.rrbPr == 5),
    runs (inI 0x00198000040) (pr 6 true (pr 63 true base)) (fun t => t.gr 1 == ⟨0x8000000000000041, false⟩)].all id
    = true := by
  decide +kernel

/-- Vectors V2.7.7 to V2.7.20, V2.13.16 to V2.13.24: IP, branch and application registers, movl. -/
theorem test_branch_and_application_moves : [
    runs (inI 0x00180000040) { base with ip := 0x4000000000001230 } (fun t => t.gr 1 == ⟨0x4000000000001230, false⟩),
    runs (inI 0x00E00104180) (gr 2 0x2345 base) (fun t => t.brReg 6 == 0x2345),
    runs (inI 0x00E00104180) (nat 2 base) (atVector 0x5600 0x10),
    runs (inI 0x0018800C040) (base.setBr 6 0x2345) (fun t => t.gr 1 == ⟨0x2345, false⟩),
    runs (inI 0x010541FE000) base (fun t => t.ar.lc == 0xFFFFFFFFFFFFFFFF),
    runs (inI 0x00154204000) (gr 2 (-1) base) (fun t => t.ar.ec == 0x3F),
    runs (inM 0x02112400040) { base with ar := { base.ar with unat := 5 } } (fun t => t.gr 1 == ⟨5, false⟩),
    runs (inI 0x00192400040) base illegal,
    runs (inM 0x02150804000) base illegal,
    runs (inM 0x02113000040) (gr 1 7 base) (fun t => t.gr 1 == ⟨0, false⟩),
    runs (inM 0x02150004000) (psr 0x300000000 base) (atVector 0x5400 0x20),
    runs (inM 0x02151104000) base illegal,
    runs (inM 0x02151204000) { base with ar := { base.ar with rsc := 3 } } illegal,
    runs (inX 0x048D159E26A 0x0CDEF2E0100) { base with psr := 0x0000120000002000 }
      (fun t => t.gr 4 == ⟨0x123456789ABCDEF0, false⟩ && t.ip == 0x1010 && t.ri == 0),
    runs (inM 0x02110000040) (psr 0x300000000 { base with ar := { base.ar with kr := base.ar.kr.set 0 0x55 } })
      (fun t => t.gr 1 == ⟨0x55, false⟩),
    runs (inM 0x02112C00040) (psr 0x300800000 base) (atVector 0x5400 0x20),
    runs (inM 0x02112C00040)
      (psr 0x300000000 { base with ar := { base.ar with itc := 0x1234 }, cr := { base.cr with ito := 0x10 } })
      (fun t => t.gr 1 == ⟨0x1244, false⟩),
    runs (inM 0x02152C04000) (psr 0x300000000 base) (atVector 0x5400 0x20),
    runs (inM 0x02111400040) base illegal,
    runs (inI 0x00192C00040) base illegal].all id = true := by
  decide +kernel

/-- A frame marker. -/
def frame (sof sol : BitVec 7) (sor : BitVec 4) (s : State) : State :=
  { s with cfm := { s.cfm with sof := sof, sol := sol, sor := sor } }
/-- The rename bases. -/
def rrb (g f : BitVec 7) (p : BitVec 6) (s : State) : State :=
  { s with cfm := { s.cfm with rrbGr := g, rrbFr := f, rrbPr := p } }
/-- LC and EC. -/
def loopRegs (lc : Word) (ec : BitVec 6) (s : State) : State := { s with ar := { s.ar with lc := lc, ec := ec } }
/-- IP, LC, EC, PR63 as it stood before rotation, and the rename bases after a loop branch. -/
def looped (ip lc : Word) (ec : BitVec 6) (pr63 : Bool) (g f : BitVec 7) (p : BitVec 6) (t : State) : Bool :=
  t.ip == ip && t.ar.lc == lc && t.ar.ec == ec && bit t.pr 63 == pr63 && t.cfm.rrbGr == g && t.cfm.rrbFr == f
    && t.cfm.rrbPr == p && t.ri == 0

/-- Vectors V2.8.1 to V2.8.12, V2.8.28, V2.8.29: branches, calls, returns and their traps. -/
theorem test_branches : [
    runs (inB 0x08000004006) (pr 6 true base) (fun t => t.ip == 0x1020 && t.ri == 0),
    runs (inB 0x08000004006) base (fun t => t.ip == 0x1010 && t.ri == 0),
    runs (inB 0x091FFE00000) base (fun t => t.ip == 0),
    runs (inB 0x081FFFFE000) base (fun t => t.ip == 0x1000FF0),
    runs (inB 0x09000000000) base (fun t => t.ip == 0xFFFFFFFFFF001000),
    runs (inB 0x0010000C000) (base.setBr 6 0x2345) (fun t => t.ip == 0x2340),
    runs (inB 0x0A000020000)
      (gr 37 0x77 (psr 0x300000000 (frame 8 5 0 (loopRegs 0 3 { base with ip := 0x2000 }))))
      (fun t => t.brReg 0 == 0x2010 && t.ar.pfs == 0xC030000000000288 && t.cfm == ⟨3, 0, 0, 0, 0, 0⟩
        && t.ip == 0x2100 && t.gr 32 == ⟨0x77, false⟩),
    runs (inB 0x0200000C180) ({ base with ip := 0x2000 }.setBr 6 0x3000)
      (fun t => t.ip == 0x3000 && t.brReg 6 == 0x2010),
    runs (inB 0x00108000100)
      ((frame 3 0 0 (psr 0x300000000 { base with ar := { base.ar with pfs := 0xC030000000000288 } })).setBr 0 0x2010)
      (fun t => t.cfm == ⟨8, 5, 0, 0, 0, 0⟩ && t.ar.ec == 3 && t.cpl == 3 && t.ip == 0x2010),
    runs (inB 0x00108000100) ((psr 0x2000000 { base with ar := { base.ar with pfs := 0xC000000000000000 } }).setBr 0 0x2010)
      (fun t => atVector 0x5E00 2 t && t.cr.iip == 0x2010 && fld t.cr.ipsr 32 2 == (3 : BitVec 2)),
    runs (inB 0x00108000100) (psr 0x300000000 base) (fun t => t.cpl == 3 && t.ip == 0),
    runs (inB 0x08000004006) (pr 6 true (psr 0x4000000 base))
      (fun t => atVector 0x5F00 4 t && (t.cr.isr >>> 41) == 2 && t.cr.iip == 0x1020
        && fld t.cr.ipsr 41 2 == (0 : BitVec 2) && t.cr.iipa == 0x1000),
    runs (inB 0x0010000C046) (psr 0x1000020000 base) illegal].all id = true := by
  decide +kernel

/-- Vectors V2.8.13 to V2.8.27: counted and modulo-scheduled loop branches. -/
theorem test_loop_branches : [
    runs (inB 0x091FFFFE140) (loopRegs 2 0 base) (looped 0xFF0 1 0 false 0 0 0),
    runs (inB 0x091FFFFE140) (loopRegs 0 0 base) (looped 0x1010 0 0 false 0 0 0),
    runs (inB 0x091FFFFE140) { base with psr := 0x0000120000002000 } illegal,
    runs (inB 0x091FFFFE1C0) (frame 8 0 1 (loopRegs 1 2 base)) (looped 0xFF0 0 2 true 7 95 47),
    runs (inB 0x091FFFFE1C0) (frame 8 0 1 (loopRegs 1 2 base)) (fun t => t.prBit 16),
    runs (inB 0x091FFFFE1C0) (rrb 7 95 47 (frame 8 0 1 (loopRegs 0 2 base))) (looped 0xFF0 0 1 false 6 94 46),
    runs (inB 0x091FFFFE1C0) (rrb 6 94 46 (frame 8 0 1 (loopRegs 0 1 base))) (looped 0x1010 0 0 false 5 93 45),
    runs (inB 0x091FFFFE1C0) (pr 63 true (frame 8 0 1 (loopRegs 0 0 base))) (looped 0x1010 0 0 false 0 0 0),
    runs (inB 0x091FFFFE1C0) (loopRegs 1 0 base) (looped 0xFF0 0 0 true 0 95 47),
    runs (inB 0x08000008180) (frame 8 0 1 (loopRegs 0 1 base)) (looped 0x1040 0 0 false 7 95 47),
    runs (inB 0x08000008180) (frame 8 0 1 (loopRegs 3 1 base)) (looped 0x1010 2 1 true 7 95 47),
    runs (inB 0x091FFFFE0D0) (pr 16 true (loopRegs 9 2 base)) (looped 0xFF0 9 2 false 0 95 47),
    runs (inB 0x091FFFFE0D0) (loopRegs 9 2 base) (looped 0xFF0 9 1 false 0 95 47),
    runs (inB 0x091FFFFE0D0) (loopRegs 9 1 base) (looped 0x1010 9 0 false 0 95 47),
    runs (inB 0x091FFFFE0D0) (pr 63 true (loopRegs 9 0 base)) (looped 0x1010 9 0 false 0 0 0),
    runs (inB 0x08000008090) (loopRegs 9 1 base) (looped 0x1040 9 0 false 0 95 47)].all id = true := by
  decide +kernel

/-- Slot 1 of a bundle with a stop after the L+X pair. -/
def pairState (ip : Word) : State := { base with ip := ip, psr := 0x0000120000002000, curBundle := 5 }

/-- Vectors V2.8.30 to V2.8.32: long branches. -/
theorem test_long_branches : [
    runs (inX 0x18000000000 0x18002000000) (pairState 0x4000000000000000) (fun t => t.ip == 0xA000000000010000),
    runs (inX 0x1FFFFFFFFFC 0x191FFE00000) (pairState 0x1000) (fun t => t.ip == 0),
    runs (inX 0x1FFFFFFFFFC 0x1A1FFFFE000) (frame 4 2 0 (pairState 0x1000))
      (fun t => t.ip == 0x8000000000000FF0 && t.brReg 0 == 0x1010 && t.cfm == ⟨2, 0, 0, 0, 0, 0⟩
        && t.ar.pfs == 0x104)].all id = true := by
  decide +kernel

/-- `bytes` stand at `a`. -/
def holds (a : Nat) (bytes : List Byte) (s : State) : Bool := Memory.readBytes s.mem a bytes.length == bytes
/-- Place `bytes` at `a`. -/
def place (a : Nat) (bytes : List Byte) (s : State) : State := { s with mem := Memory.writeBytes s.mem a bytes }
/-- The memory of section 2.9, and GR3 = 0x2000. -/
def mem0 : State := gr 3 0x2000 (place 0x2000
  [0x88, 0x77, 0x66, 0x55, 0x44, 0x33, 0x22, 0x11, 0xF0, 0xDE, 0xBC, 0x9A, 0x78, 0x56, 0x34, 0x12] base)

/-- Vectors V2.9.1 to V2.9.17: integer loads. -/
theorem test_integer_loads : [
    runs (inM 0x08000300040) mem0 (fun t => t.gr 1 == ⟨0x88, false⟩),
    runs (inM 0x08040300040) mem0 (fun t => t.gr 1 == ⟨0x7788, false⟩),
    runs (inM 0x08080300040) mem0 (fun t => t.gr 1 == ⟨0x55667788, false⟩),
    runs (inM 0x080C0300040) mem0 (fun t => t.gr 1 == ⟨0x1122334455667788, false⟩),
    runs (inM 0x080C0300040) (psr 2 mem0) (fun t => t.gr 1 == ⟨0x8877665544332211, false⟩),
    runs (inM 0x08080300040) (psr 2 mem0) (fun t => t.gr 1 == ⟨0x88776655, false⟩),
    runs (inM 0x0A0C0310040) mem0 (fun t => t.gr 1 == ⟨0x1122334455667788, false⟩ && t.gr 3 == ⟨0x2008, false⟩),
    runs (inM 0x0B0C0300040) mem0 (fun t => t.gr 1 == ⟨0x1122334455667788, false⟩ && t.gr 3 == ⟨0x1F00, false⟩),
    runs (inM 0x090C0304040) (nat 2 (gr 2 0x10 mem0))
      (fun t => t.gr 1 == ⟨0x1122334455667788, false⟩ && t.gr 3 == ⟨0x2010, true⟩),
    runs (inM 0x0A0C03100C0) mem0 illegal,
    runs (inM 0x080C0300040) (nat 3 mem0) (fun t => atVector 0x5600 0x10 t && bit t.cr.isr 34),
    runs (inM 0x081C0300040) (nat 3 mem0) (fun t => (t.gr 1).nat && t.ip == 0x1010),
    runs (inM 0x081C0300040) (psr 0x80000000000 mem0) (fun t => (t.gr 1).nat && t.ip == 0x1010),
    runs (inM 0x080C0300040) (gr 3 0x2004 mem0) (fun t => atVector 0x5A00 0 t && t.cr.ifa == 0x2004),
    runs (inM 0x085C0300040) (gr 3 0x2004 mem0) (fun t => atVector 0x5A00 0 t),
    runs (inM 0x086C0300040) (gr 3 0x10F8 (place 0x10F8 [0x88, 0x77, 0x66, 0x55, 0x44, 0x33, 0x22, 0x11]
        { base with ar := { base.ar with unat := 0x80000000 } })) (fun t => t.gr 1 == ⟨0x1122334455667788, true⟩),
    runs (inM 0x086C0300040) { mem0 with ar := { mem0.ar with unat := 0xFFFFFFFFFFFFFFFE } }
      (fun t => t.gr 1 == ⟨0x1122334455667788, false⟩)].all id = true := by
  decide +kernel

/-- GR2 of the store vectors. -/
def stores0 : State := gr 2 0xAABBCCDDEEFF0011 mem0

/-- Vectors V2.9.18 to V2.9.26: integer stores. -/
theorem test_integer_stores : [
    runs (inM 0x08C00304000) stores0 (holds 0x2000 [0x11, 0x77, 0x66, 0x55, 0x44, 0x33, 0x22, 0x11]),
    runs (inM 0x08C40304000) stores0 (holds 0x2000 [0x11, 0x00, 0x66, 0x55, 0x44, 0x33, 0x22, 0x11]),
    runs (inM 0x08C80304000) stores0 (holds 0x2000 [0x11, 0x00, 0xFF, 0xEE, 0x44, 0x33, 0x22, 0x11]),
    runs (inM 0x08CC0304000) stores0 (holds 0x2000 [0x11, 0x00, 0xFF, 0xEE, 0xDD, 0xCC, 0xBB, 0xAA, 0xF0]),
    runs (inM 0x08CC0304000) (psr 2 stores0) (holds 0x2000 [0xAA, 0xBB, 0xCC, 0xDD, 0xEE, 0xFF, 0x00, 0x11]),
    runs (inM 0x0BCC8305E00) stores0
      (fun t => holds 0x2000 [0x11, 0x00, 0xFF, 0xEE, 0xDD, 0xCC, 0xBB, 0xAA] t && t.gr 3 == ⟨0x1FF8, false⟩),
    runs (inM 0x08CC0304000) (nat 2 stores0)
      (fun t => atVector 0x5600 0x10 t && bit t.cr.isr 33 && t.mem == stores0.mem),
    runs (inM 0x08EC0304000) (gr 3 0x2010 (nat 2 (gr 2 7 mem0))) (fun t => t.ar.unat == 4 && t.ip == 0x1010),
    runs (inM 0x08EC0304000) { gr 3 0x2010 (gr 2 7 mem0) with ar := { mem0.ar with unat := -1 } }
      (fun t => t.ar.unat == 0xFFFFFFFFFFFFFFFB && holds 0x2010 [7, 0, 0, 0, 0, 0, 0, 0] t)].all id = true := by
  decide +kernel

/-- CCV. -/
def ccv (v : Word) (s : State) : State := { s with ar := { s.ar with ccv := v } }

/-- Vectors V2.9.27 to V2.9.35: semaphores and line prefetches. -/
theorem test_semaphores : [
    runs (inM 0x082C8304040) stores0 (fun t => t.gr 1 == ⟨0x1122334455667788, false⟩
      && holds 0x2000 [0x11, 0x00, 0xFF, 0xEE, 0xDD, 0xCC, 0xBB, 0xAA] t),
    runs (inM 0x08088304040) (ccv 0xFFFFFFFF55667788 (gr 2 0xDEADBEEF mem0))
      (fun t => t.gr 1 == ⟨0x55667788, false⟩ && holds 0x2000 [0xEF, 0xBE, 0xAD, 0xDE, 0x44] t),
    runs (inM 0x08088304040) (ccv 0x55667789 (gr 2 0xDEADBEEF mem0))
      (fun t => t.gr 1 == ⟨0x55667788, false⟩ && t.mem == mem0.mem),
    runs (inM 0x081C8304040) (ccv 0x1122334455667788 (gr 2 0 mem0))
      (fun t => t.gr 1 == ⟨0x1122334455667788, false⟩ && holds 0x2000 [0, 0, 0, 0, 0, 0, 0, 0, 0xF0] t),
    runs (inM 0x084C8308040) mem0 (fun t => t.gr 1 == ⟨0x1122334455667788, false⟩
      && holds 0x2000 [0x78, 0x77, 0x66, 0x55, 0x44, 0x33, 0x22, 0x11] t),
    runs (inM 0x08588306040) (place 0x2000 [0xFF, 0xFF, 0xFF, 0xFF] mem0)
      (fun t => t.gr 1 == ⟨0xFFFFFFFF, false⟩ && holds 0x2000 [0, 0, 0, 0, 0x44] t),
    runs (inM 0x082C8304040) (gr 3 0x2001 stores0) (atVector 0x5A00 0),
    runs (inM 0x0CB00300000) (nat 3 mem0) (fun t => t.ip == 0x1010 && t.mem == mem0.mem),
    runs (inM 0x0CB80300000) (psr 0x20000 mem0)
      (fun t => (t.ip == 0x0800 || t.ip == 0x1000 || t.ip == 0) && fld t.cr.isr 0 4 == (4 : BitVec 4)
        && bit t.cr.isr 35)].all id = true := by
  decide +kernel

/-- Write FR `f`. -/
def fr (f : BitVec 7) (sign : Bool) (exp : BitVec 17) (sig : Word) (s : State) : State :=
  { s with fr := s.fr.set (s.frIndex f) ⟨sign, exp, sig⟩ }
/-- FR8 holds this. -/
def f8 (sign : Bool) (exp : BitVec 17) (sig : Word) (t : State) : Bool := t.fpr 8 == ⟨sign, exp, sig⟩

/-- Vectors V2.9.36 to V2.9.48: floating-point loads and stores. -/
theorem test_fp_memory : [
    runs (inM 0x0C080300200) (place 0x2000 [0, 0, 0x80, 0x3F] mem0) (f8 false 0xFFFF 0x8000000000000000),
    runs (inM 0x0C080300200) (place 0x2000 [0, 0, 0xC0, 0xC0] mem0) (f8 true 0x10001 0xC000000000000000),
    runs (inM 0x0C080300200) (place 0x2000 [1, 0, 0, 0] mem0) (f8 false 0xFF81 0x0000010000000000),
    runs (inM 0x0C080300200) (place 0x2000 [0, 0, 0x80, 0x7F] mem0) (f8 false 0x1FFFF 0x8000000000000000),
    runs (inM 0x0C0C0300200) (place 0x2000 [0, 0, 0, 0, 0, 0, 0xF0, 0x3F] mem0) (f8 false 0xFFFF 0x8000000000000000),
    runs (inM 0x0C0C0300200) (place 0x2000 [0, 0, 0, 0, 0, 0, 0x1C, 0xC0] mem0) (f8 true 0x10001 0xE000000000000000),
    runs (inM 0x0C040300200) mem0 (f8 false 0x1003E 0x1122334455667788),
    runs (inM 0x0C080300040) mem0 illegal,
    runs (inM 0x0CC80310000) (fr 8 true 0x10001 0xC000000000000000 mem0) (holds 0x2000 [0, 0, 0xC0, 0xC0, 0x44]),
    runs (inM 0x0CCC0310000) (fr 8 false 0x10001 0xE000000000000000 mem0)
      (holds 0x2000 [0, 0, 0, 0, 0, 0, 0x1C, 0x40, 0xF0]),
    runs (inM 0x0CEC0310000) (fr 8 true 0x10001 0xE000000000000000 mem0)
      (holds 0x2000 [0, 0, 0, 0, 0, 0, 0, 0xE0, 1, 0, 3, 0, 0, 0, 0, 0]),
    runs (inM 0x0CEC0310000) (fr 8 false 0x1FFFE 0 mem0)
      (holds 0x2000 [0, 0, 0, 0, 0, 0, 0, 0, 0xFE, 0xFF, 1, 0, 0, 0, 0, 0]),
    runs (inM 0x0CCC0310000) (fr 8 false 0x1FFFE 0 mem0) (fun t => atVector 0x5600 0x10 t && bit t.cr.isr 33)].all id
    = true := by
  decide +kernel

/-- An ALAT entry for GR `r`. -/
def entry (r : BitVec 7) : AlatEntry := ⟨.gr (base.grLoc r), 0x2000, 8⟩

/-- Vectors V2.10.1 to V2.10.4, V2.10.7, V2.10.10 to V2.10.13: checks, advanced loads, invalidation. -/
theorem test_speculation : [
    runs (inM 0x02200004200) (nat 2 base) (fun t => t.ip == 0x1080 && t.ri == 0),
    runs (inM 0x02200004200) base (fun t => t.ip == 0x1010),
    runs (inI 0x013FFF05FC0) (nat 2 base) (fun t => t.ip == 0xFF0),
    runs (inM 0x02600004200) (fr 2 false 0x1FFFE 0 base) (fun t => t.ip == 0x1080),
    runs (inM 0x08CC0304000) { stores0 with alat := [entry 1, ⟨.gr (base.grLoc 5), 0x2008, 8⟩] }
      (fun t => t.alat == [⟨.gr (base.grLoc 5), 0x2008, 8⟩]),
    runs (inM 0x00800010040) base (fun t => t.ip == 0x1080),
    runs (inM 0x088C0300040) mem0 (fun t => t.gr 1 == ⟨0x1122334455667788, false⟩),
    runs (inM 0x083C0300040) (nat 3 { mem0 with alat := [entry 1] }) (fun t => (t.gr 1).nat && t.alat == []),
    runs (inM 0x00080000000) { base with alat := [entry 1, entry 5] } (fun t => t.alat == []),
    runs (inM 0x00090000040) { base with alat := [entry 1, entry 5] } (fun t => t.alat == [entry 5])].all id = true := by
  decide +kernel

/-- The bundle of the instruction ends with a stop. -/
def stopped (s : State) : State := { s with curBundle := 0x11 }
/-- AR[BSP] and the pointers the register stack engine derives from it. -/
def bspAt (a : Word) (s : State) : State :=
  { s with ar := { s.ar with bsp := a, bspstore := a }, rse := { s.rse with bspLoad := a } }

/-- In slot 0, at the start of an instruction group. -/
def first (s : State) : State := s.setRi 0

/-- The instruction is undefined in this state. -/
noncomputable def undefined (i : Instr) (s : State) : Bool :=
  match exec i s with
  | .fault .undefinedBehavior => true
  | _ => false

/-- Vectors V2.11.1 to V2.11.15: the register stack; the last shows R264: `alloc` in the middle of a group. -/
theorem test_register_stack : [
    runs (inM 0x02C0050C800) (first { base with ar := { base.ar with pfs := 0x123 } })
      (fun t => t.cfm == ⟨6, 5, 0, 0, 0, 0⟩ && t.gr 32 == ⟨0x123, false⟩),
    runs (inM 0x02C658C0880) (first (frame 3 0 0 base)) (fun t => t.cfm == ⟨96, 88, 12, 0, 0, 0⟩),
    runs (inM 0x02C05AC2800) (first base) illegal,
    runs (inM 0x02C00910800) (first base) illegal,
    runs (inM 0x02C10810800) (first base) illegal,
    runs (inM 0x02C00408A00) (first base) illegal,
    runs (inM 0x02C08810800) (first (rrb 0 0 3 base)) (atVector 0x5400 0x30),
    runs (inB 0x00010000000) (stopped <| bspAt 0x9000 (rrb 0 0 3 (frame 6 5 0 { base with psr := 0x0000140000000000 })))
      (fun t => t.cr.ifs == 0x8000000300000286 && t.cfm == Cfm.empty && t.ar.bsp == 0x9030),
    runs (inB 0x00010000000) (stopped <| bspAt 0x9000 (rrb 0 0 3 (frame 6 5 0 base)))
      (fun t => t.cr.ifs == 0 && t.cfm == Cfm.empty && t.ar.bsp == 0x9030),
    runs (inB 0x00010000000) (stopped <| bspAt 0x91E0 (frame 6 5 0 base)) (fun t => t.ar.bsp == 0x9218),
    runs (inB 0x00020000000) (stopped <| rrb 5 93 45 base) (fun t => t.cfm == Cfm.empty),
    runs (inB 0x00028000000) (stopped <| rrb 5 93 45 base) (fun t => t.cfm == ⟨0, 0, 0, 5, 93, 0⟩),
    runs (inI 0x10000304A00) (frame 8 0 0 base) illegal,
    runs (inI 0x10000350040) (frame 8 0 0 base) (fun t => t.ip == 0x1010),
    runs (inI 0x10000304840) (gr 2 9 (rrb 7 0 0 (frame 16 0 1 base))) (fun t => t.grStacked[0] == ⟨9, false⟩),
    undefined (.allocM34 0 32 0 5 6) base,
    undefined (.allocM34 0 32 0 5 6) { first base with midGroup := true }].all id
    = true := by
  decide +kernel

/-! ### Floating point (section 2.12) -/

/-- FR9, FR10 and FR11 of an operation on values: sign, exponent, significand each. -/
def fp3 (a b c : Fr) : State := fr 9 a.sign a.exp a.sig (fr 10 b.sign b.exp b.sig (fr 11 c.sign c.exp c.sig base))
/-- FR9, FR10 and FR11 with these significands, as integers. -/
def sig3 (a b c : Word) : State := fp3 ⟨false, 0x1003E, a⟩ ⟨false, 0x1003E, b⟩ ⟨false, 0x1003E, c⟩
/-- FPSR. -/
def fpsr (v : Word) (s : State) : State := { s with ar := { s.ar with fpsr := v } }
/-- FPSR at the start point, with more bits of status field 0 set. -/
def flags (v : Word) (t : State) : Bool := t.ar.fpsr == (0x0009804C0270033F ||| v)
def one : Fr := ⟨false, 0xFFFF, 0x8000000000000000⟩
def two : Fr := ⟨false, 0x10000, 0x8000000000000000⟩
def three : Fr := ⟨false, 0x10000, 0xC000000000000000⟩
def seven : Fr := ⟨false, 0x10001, 0xE000000000000000⟩
def minusSix : Fr := ⟨true, 0x10001, 0xC000000000000000⟩
def inf : Fr := ⟨false, 0x1FFFF, 0x8000000000000000⟩
def qnan : Fr := ⟨false, 0x1FFFF, 0xC000000000000001⟩
def natVal : Fr := ⟨false, 0x1FFFE, 0⟩
def plusZero : Fr := ⟨false, 0, 0⟩

/-- Vectors V2.12.1 to V2.12.15: multiply-add. -/
theorem test_multiply_add : [
    runs (inF 0x10050916200) (fp3 two three one) (fun t => t.fpr 8 == seven && flags 0 t && t.psrBit Psr.mfl),
    runs (inF 0x10050900200) (fp3 two three one) (fun t => f8 false 0x10001 0xC000000000000000 t),
    runs (inF 0x10050900200) (fp3 ⟨true, 0, 0⟩ three one) (f8 true 0 0),
    runs (inF 0x14050916200) (fp3 two three one) (f8 false 0x10001 0xA000000000000000),
    runs (inF 0x18050916200) (fp3 two three one) (f8 true 0x10001 0xA000000000000000),
    runs (inF 0x11008900200) (fp3 ⟨false, 0xFFFF, 0x8000008000000000⟩ one one)
      (fun t => t.fpr 8 == one && flags 0x40000 t),
    runs (inF 0x11008900200) (fp3 ⟨false, 0xFFFF, 0x8000018000000000⟩ one one)
      (fun t => f8 false 0xFFFF 0x8000020000000000 t && flags 0x40000 t),
    runs (inF 0x12008900200) (fp3 ⟨false, 0xFFFF, 0x8000008000000000⟩ one one)
      (fun t => f8 false 0xFFFF 0x8000008000000000 t && flags 0 t),
    runs (inF 0x10050916040) (fp3 two three one) illegal,
    runs (inF 0x10050916200) (psr 0x40000 (fp3 two three one)) (atVector 0x5500 1),
    runs (inF 0x10050916A00) (psr 0x80000 (fp3 two three one)) (atVector 0x5500 2),
    runs (inF 0x10050916A00) (fp3 two three one)
      (fun t => t.fpr 40 == seven && t.psrBit Psr.mfh && !t.psrBit Psr.mfl),
    runs (inF 0x10050916200) (fp3 two natVal one) (fun t => t.fpr 8 == natVal && flags 0 t && t.psrBit Psr.mfl),
    runs (inF 0x10050900200) (fp3 inf plusZero one) (fun t => f8 true 0x1FFFF 0xC000000000000000 t && flags 0x2000 t),
    runs (inF 0x10050900200) (fpsr 0x0009804C0270033E (fp3 inf plusZero one))
      (fun t => t.ip == 0x5C00 && t.fpr 8 == plusZero && t.ar.fpsr == 0x0009804C0270033E
        && !bit t.cr.ipsr Psr.mfl)].all id = true := by
  decide +kernel

/-- Vectors V2.12.16 to V2.12.20, V2.12.42 to V2.12.57: operations on significands. -/
theorem test_significands : [
    runs (inF 0x1D050916200) (sig3 3 (-1) 5) (f8 false 0x1003E 2),
    runs (inF 0x1DC50916200) (sig3 3 (-1) 5) (f8 false 0x1003E 0),
    runs (inF 0x1D850916200) (sig3 3 (-1) 5) (f8 false 0x1003E 3),
    runs (inF 0x1DC50900200) (sig3 0x8000000000000000 2 5) (f8 false 0x1003E (-1)),
    runs (inF 0x1C050916200) (sig3 0xAAAAAAAAAAAAAAAA 0x5555555555555555 0xFFFF0000FFFF0000)
      (f8 false 0x1003E 0xAAAA5555AAAA5555),
    runs (inF 0x001D8A12200) (sig3 0x91111111A2222222 0x3333333344444444 0) (f8 false 0x1003E 0x9111111133333333),
    runs (inF 0x001D0A12200) (sig3 0x91111111A2222222 0x3333333344444444 0) (f8 false 0x1003E 0xA222222244444444),
    runs (inF 0x001C8A12200) (sig3 0x91111111A2222222 0x3333333344444444 0) (f8 false 0x1003E 0x9111111144444444),
    runs (inF 0x001E8A12200) (sig3 0x91111111A2222222 0x3333333344444444 0) (f8 false 0x1003E 0xFFFFFFFF33333333),
    runs (inF 0x001E0A12200) (sig3 0x91111111A2222222 0x3333333344444444 0) (f8 false 0x1003E 0xFFFFFFFF44444444),
    runs (inF 0x001A0A12200) (sig3 0x91111111A2222222 0x3333333344444444 0) (f8 false 0x1003E 0x4444444491111111),
    runs (inF 0x001A8A12200) (sig3 0x91111111A2222222 0x3333333344444444 0) (f8 false 0x1003E 0xC444444491111111),
    runs (inF 0x001B0A12200) (sig3 0x91111111A2222222 0x3333333344444444 0) (f8 false 0x1003E 0x4444444411111111),
    runs (inF 0x00160A12200) (sig3 0x91111111A2222222 0x3333333344444444 0) (f8 false 0x1003E 0x1111111100000000),
    runs (inF 0x00168A12200) (sig3 0x91111111A2222222 0x3333333344444444 0) (f8 false 0x1003E 0x80000000A2222222),
    runs (inF 0x00170A12200) (sig3 0x91111111A2222222 0x3333333344444444 0) (f8 false 0x1003E 0xB3333333E6666666),
    runs (inF 0x00178A12200) (sig3 0x91111111A2222222 0x3333333344444444 0) (f8 false 0x1003E 0xA2222222E6666666),
    runs (inF 0x00140A12200) (fp3 one minusSix one) (f8 false 0x1003E 0x3F800000C0C00000),
    runs (inF 0x02080A12200) (sig3 0x8000000000000000 0x3F800000BF800000 0) (f8 false 0x1003E 0xBF8000003F800000),
    runs (inF 0x13050916200) (sig3 0x4000000040400000 0x404000003F000000 0x3F8000003F800000)
      (f8 false 0x1003E 0x40E0000040200000),
    runs (inF 0x02188A12200) (sig3 0x3F80000040400000 0x4000000040000000 0) (f8 false 0x1003E 0xFFFFFFFF00000000)].all
    id = true := by
  decide +kernel

/-- PR6, PR7 and more bits of status field 0. -/
def comp (a b : Bool) (f : Word) (t : State) : Bool := t.prBit 6 == a && t.prBit 7 == b && flags f t

/-- Vectors V2.12.21 to V2.12.41, V2.12.58 to V2.12.61: compares, classes, merges, minimum and maximum. -/
theorem test_fp_compares : [
    runs (inF 0x08038A12180) (pr 7 true (fp3 one one one)) (comp true false 0),
    runs (inF 0x08038A12180) (pr 7 true (fp3 ⟨true, 0, 0⟩ plusZero one)) (comp true false 0),
    runs (inF 0x09038A12180) (pr 7 true (fp3 one two one)) (comp true false 0),
    runs (inF 0x09038A12180) (pr 6 true (fp3 qnan two one)) (comp false true 0x2000),
    runs (inF 0x08038A12180) (pr 6 true (fp3 qnan two one)) (comp false true 0),
    runs (inF 0x09238A12180) (pr 7 true (fp3 qnan two one)) (comp true false 0),
    runs (inF 0x08238A12180) (pr 6 true (pr 7 true (fp3 natVal two one))) (comp false false 0),
    runs (inF 0x08038A13185) (pr 6 true (pr 7 true (fp3 one one one))) (comp false false 0),
    runs (inF 0x08038A12185) (pr 6 true (pr 7 true (fp3 one one one))) (comp true true 0),
    runs (inF 0x08030A12180) (fp3 one one one) illegal,
    runs (inF 0x0A238412180) (pr 7 true (fp3 one one one)) (comp true false 0),
    runs (inF 0x0A438412180) (pr 6 true (fp3 one one one)) (comp false true 0),
    runs (inF 0x0A038112180) (pr 6 true (fp3 plusZero one one)) (comp false true 0),
    runs (inF 0x0A03A012180) (pr 7 true (fp3 ⟨true, 0x1FFFF, 0xC000000000000000⟩ one one)) (comp true false 0),
    runs (inF 0x0A03C012180) (pr 7 true (fp3 natVal one one)) (comp true false 0),
    runs (inF 0x0A63BF12180) (pr 6 true (pr 7 true (fp3 natVal one one))) (comp false false 0),
    runs (inF 0x00080A12200) (fp3 ⟨true, 0xFFFF, 0x8000000000000000⟩ seven one) (f8 true 0x10001 0xE000000000000000),
    runs (inF 0x00088A12200) (fp3 ⟨true, 0xFFFF, 0x8000000000000000⟩ seven one) (f8 false 0x10001 0xE000000000000000),
    runs (inF 0x00090A12200) (fp3 ⟨true, 0xFFFF, 0x8000000000000000⟩ seven one) (f8 true 0xFFFF 0xE000000000000000),
    runs (inF 0x00080A00200) (fp3 one ⟨true, 0x10001, 0xE000000000000000⟩ one) (f8 false 0x10001 0xE000000000000000),
    runs (inF 0x00088A14200) (fp3 one seven one) (f8 true 0x10001 0xE000000000000000),
    runs (inF 0x000A0A12200) (fp3 one two one) (fun t => t.fpr 8 == one),
    runs (inF 0x000A8A12200) (fp3 one two one) (fun t => t.fpr 8 == two),
    runs (inF 0x000B8A12200) (fp3 ⟨true, 0x10001, 0xE000000000000000⟩ two one) (f8 true 0x10001 0xE000000000000000),
    runs (inF 0x000A8A12200) (fp3 qnan two one) (fun t => t.fpr 8 == two && flags 0x2000 t)].all id = true := by
  decide +kernel

/-- Vectors V2.12.62 to V2.12.76: reciprocal approximation (its special results) and conversion. -/
theorem test_fp_conversion : [
    runs (inF 0x00238A12200) (fp3 one three one) (fun t => t.ip == 0x1010),
    runs (inF 0x00238A12200) (pr 7 true (fp3 one plusZero one))
      (fun t => !t.prBit 7 && t.fpr 8 == inf && flags 0x8000 t),
    runs (inF 0x00238A12200) (pr 7 true (fp3 one inf one)) (fun t => !t.prBit 7 && f8 false 0 0 t),
    runs (inF 0x00238A12205) (pr 7 true (fr 8 false 5 5 (fp3 one three one)))
      (fun t => !t.prBit 7 && f8 false 5 5 t),
    runs (inF 0x000C0012200) (fp3 ⟨false, 0x10000, 0xA000000000000000⟩ one one)
      (fun t => f8 false 0x1003E 2 t && flags 0x40000 t),
    runs (inF 0x000C0012200) (fp3 ⟨false, 0x10000, 0xE000000000000000⟩ one one)
      (fun t => f8 false 0x1003E 4 t && flags 0x40000 t),
    runs (inF 0x000D0012200) (fp3 ⟨true, 0x10000, 0xA000000000000000⟩ one one)
      (fun t => f8 false 0x1003E (-2) t && flags 0x40000 t),
    runs (inF 0x000C0012200) (fp3 inf one one) (fun t => f8 false 0x1003E 0x8000000000000000 t && flags 0x2000 t),
    runs (inF 0x000C0012200) (fp3 ⟨false, 0x1003E, 0x8000000000000000⟩ one one)
      (fun t => f8 false 0x1003E 0x8000000000000000 t && flags 0x2000 t),
    runs (inF 0x000C8012200) (fp3 ⟨false, 0x1003E, 0x8000000000000000⟩ one one)
      (fun t => f8 false 0x1003E 0x8000000000000000 t && flags 0 t),
    runs (inF 0x000D8012200) (fp3 ⟨true, 0xFFFE, 0x8000000000000000⟩ one one)
      (fun t => f8 false 0x1003E 0 t && flags 0x40000 t),
    runs (inF 0x000E0012200) (sig3 (-1) 0 0) (f8 true 0xFFFF 0x8000000000000000),
    runs (inF 0x000E0012200) (sig3 5 0 0) (f8 false 0x10001 0xA000000000000000),
    runs (inF 0x000E0012200) (sig3 0 0 0) (f8 false 0 0),
    runs (inF 0x000E0012200) (sig3 0x8000000000000000 0 0) (f8 true 0x1003E 0x8000000000000000)].all id = true := by
  decide +kernel

/-- Vectors V2.12.77 to V2.12.94: transfers and status fields. -/
theorem test_fp_transfers : [
    runs (inM 0x0C708004200) (gr 2 0x123 base) (fun t => f8 false 0x1003E 0x123 t && t.psrBit Psr.mfl),
    runs (inM 0x0C748004200) (gr 2 0x2FFFF base) (f8 true 0xFFFF 0x8000000000000000),
    runs (inM 0x0C748004200) (gr 2 0xFFFFFFFFFFFC0000 base) (f8 false 0 0x8000000000000000),
    runs (inM 0x0C788004200) (gr 2 0xFFFFFFFFC0C00000 base) (f8 true 0x10001 0xC000000000000000),
    runs (inM 0x0C7C8004200) (gr 2 0x3FF0000000000000 base) (f8 false 0xFFFF 0x8000000000000000),
    runs (inM 0x0C708004200) (nat 2 base) (fun t => t.fpr 8 == natVal),
    runs (inM 0x08708010040) (fr 8 false 0x10001 0xE000000000000000 base) (fun t => t.gr 1 == ⟨0xE000000000000000, false⟩),
    runs (inM 0x08748010040) (fr 8 true 0x10001 0xC000000000000000 base) (fun t => t.gr 1 == ⟨0x30001, false⟩),
    runs (inM 0x08788010040) (fr 8 false 0x10001 0xE000000000000000 base) (fun t => t.gr 1 == ⟨0x40E00000, false⟩),
    runs (inM 0x087C8010040) (fr 8 false 0x10001 0xE000000000000000 base)
      (fun t => t.gr 1 == ⟨0x401C000000000000, false⟩),
    runs (inM 0x08708010040) (fr 8 false 0x1FFFE 0 base) (fun t => t.gr 1 == ⟨0, true⟩),
    runs (inM 0x08748010040) (fr 8 false 0x1FFFE 0 base) (fun t => t.gr 1 == ⟨0x1FFFE, true⟩),
    runs (inM 0x08708002040) base (fun t => t.gr 1 == ⟨0x8000000000000000, false⟩),
    runs (inF 0x00028000000) (fpsr 0x0009804C0274233F base) (flags 0),
    runs (inF 0x004240FE000) base (fun t => (fld t.ar.fpsr 19 7 : BitVec 7) == 0x4C && fld t.ar.fpsr 0 19 == (0x0033F : BitVec 19)),
    runs (inF 0x000240FE000) base (atVector 0x5400 0x30),
    runs (inF 0x00440000100) (fpsr 0x0009804C8270033F base) (fun t => t.ip == 0x1040),
    runs (inF 0x00440000100) (fpsr 0x0009804C8274033F base) (fun t => t.ip == 0x1010)].all id = true := by
  decide +kernel

/-! ### System instructions (section 2.13) and interruption delivery (section 2.14) -/

/-- PSR bits 5 to 0. -/
def um (t : State) : Nat := t.psr.toNat % 64

/-- Vectors V2.13.1 to V2.13.15: the user and system masks. -/
theorem test_processor_status : [
    runs (inM 0x00020000280) base (fun t => um t == 0x0A),
    runs (inM 0x00028000080) (psr 0x0A base) (fun t => um t == 0x08),
    runs (inM 0x00020000100) (psr 0x100000 base) (fun t => um t == 0 && t.ip == 0x1010),
    runs (inM 0x00020000100) base (fun t => um t == 4),
    runs (inM 0x00020000040) (psr 0x300000000 base) (atVector 0x5400 0x30),
    runs (inM 0x00020001000) base (atVector 0x5400 0x30),
    runs (inM 0x02148004000) (gr 2 0x3E base) (fun t => um t == 0x3E),
    runs (inM 0x02148004000) (gr 2 0x3F base) (atVector 0x5400 0x30),
    runs (inM 0x02148004000) (nat 2 base) (atVector 0x5600 0x10),
    runs (inM 0x02108000040) { base with psr := 0x0000101000002028 } (fun t => t.gr 1 == ⟨0x28, false⟩),
    runs (inM 0x00030100000) base (fun t => t.psrBit Psr.i),
    runs (inM 0x00038180000) (psr 0x4008 base) (fun t => !t.psrBit Psr.i && !t.psrBit Psr.ic && um t == 8),
    runs (inM 0x00030100000) (psr 0x300000000 base) (fun t => atVector 0x5400 0x10 t && !bit t.cr.ipsr Psr.i),
    runs (inM 0x01030000040) (psr 0x300000000 base) (atVector 0x5400 0x10),
    runs (inM 0x02128000040) (psr 0x300000000 base) (atVector 0x5400 0x10)].all id = true := by
  decide +kernel

/-- Vectors V2.13.25 to V2.13.40: hint registers, indirect registers, inserts, breaks, no-operations. -/
theorem test_system_registers : [
    runs (inM 0x0000D123500) base (fun t => t.dahr[2] == 0x234),
    runs (inM 0x020B8300040) (psr 0x300000000 (gr 3 0x103 base)) (fun t => t.gr 1 == ⟨Config.cpuid 3, false⟩),
    runs (inM 0x020B8300040) (gr 3 5 base) (atVector 0x5400 0x30),
    runs (inM 0x02080300040) (gr 3 0x6000000000000000 { base with rr := base.rr.set 3 0x131 })
      (fun t => t.gr 1 == ⟨0x131, false⟩),
    runs (inM 0x02080300040) (psr 0x300000000 base) (atVector 0x5400 0x10),
    runs (inM 0x020A8300040) (psr 0x300100000 (gr 1 9 (gr 3 4 { base with pmd := base.pmd.set 4 77 })))
      (fun t => t.gr 1 == ⟨0, false⟩),
    runs (inM 0x02170004000) (stopped base) illegal,
    runs (inM 0x02170004000) (stopped { base with psr := 0x0000140300000000 }) (fun t => t.ip == 0x5400
      && t.cr.isr.toNat % 0x10000 == 0x10),
    runs (inM 0x0000048D140) base (fun t => atVector 0x2C00 0 t && t.cr.iim == 0x12345),
    runs (inI 0x01000000000) base (fun t => t.cr.iim == 0x100000),
    runs (inM 0x00000000046) base (fun t => t.ip == 0x1010),
    runs (inM 0) base (fun t => atVector 0x2C00 0 t && t.cr.iim == 0),
    runs (inM 0x00008000000) base (fun t => t.ip == 0x1010 && t.settled == { base with fresh := t.fresh }.settled),
    runs (inM 0x0000C000000) base (fun t => t.ip == 0x1010),
    runs (inM 0x00180000000) base (fun t => t.ip == 0x1010),
    runs (inM 0x00188000000) base (fun t => t.ip == 0x1010),
    runs (inM 0x00198000000) base (fun t => t.ip == 0x1010),
    runs (inM 0x00110000000) base (fun t => t.ip == 0x1010),
    runs (inM 0x00118000000) base (fun t => t.ip == 0x1010)].all id = true := by
  decide +kernel

/-- R115, R117, R118, by hand: PMC7 is there on every processor and keeps its named fields, PMD0 and a name above the last
generic one are not; a running monitor counts the event that it selects. -/
theorem test_monitors :
    let on : State := psr 4 { base with pmc := (base.pmc.set 0 0).set 7 0x1201 }
    (base.pmcWrite 7 0xFFFFFFFFFFFFFFFF).pmcRead 7 = 0x000000070000FF7F ∧ base.pmdRead 0 = 0 ∧
    on.monitorEnabled 0x1201 = true ∧ (on.countEvent 0x12).ar = on.ar ∧
    (on.countEvent 0x13).pmd[7] = 0 ∧ (base.countEvent 0x12).pmc[0] = 1 := by
  refine ⟨?_, ?_, ?_, ?_, ?_, ?_⟩ <;> decide +kernel

/-- The common start of section 2.14, at slot `k`. -/
def common (k : BitVec 2) : State :=
  { State.reset with
    ip := 0x4000
    psr := 0x0000101308026008 ||| (k.zeroExtend 64 <<< 41)
    lastIp := 0x4000
    cr := { State.reset.cr with iva := 0x10000 } }
/-- The registers that delivery leaves: IP, ISR, IIP, IIPA and the slot saved in IPSR. -/
def delivered (ip isr iip iipa : Word) (slot : BitVec 2) (t : State) : Bool :=
  t.ip == ip && t.cr.isr == isr && t.cr.iip == iip && t.cr.iipa == iipa && fld t.cr.ipsr 41 2 == slot && t.ri == 0

/-- Vectors V2.14.1 to V2.14.12, V2.14.20: what faults and traps save and where they go. -/
theorem test_delivery : [
    runs (inI 0x00000001080) (common 1) (fun t => delivered 0x12C00 0x0000020000000000 0x4000 0x4000 1 t
      && t.cr.ipsr == 0x0000121308026008 && t.cr.iim == 0x42 && !bit t.cr.ifs 63 && t.psr == 0x0000001008020008
      && t.cfm == (common 1).cfm),
    runs (inB 0x00040000000) (stopped { common 2 with
        cr := { (common 2).cr with ipsr := 0x0000121308026008, iip := 0x4000 }
        psr := 0x0000041008020008 })
      (fun t => t.psr == 0x0000121308026008 && t.ip == 0x4000 && t.ri == 1),
    runs (inI 0x00000001080) { common 1 with psr := 0x0000121308020008 }
      (fun t => t.cr.iip == 0 && t.cr.ipsr == 0 && t.cr.iim == 0 && t.cr.isr == 0x0000028000000000
        && t.psr == 0x0000001008020008 && t.ip == 0x12C00),
    runs (inB 0x00000001080) (common 2) (fun t => delivered 0x12C00 0x0000040000000000 0x4000 0x4000 2 t
      && t.cr.iim == 0),
    runs (inX 0x10000000000 0x00000000040) (common 1) (fun t => delivered 0x12C00 0x0000020000000000 0x4000 0x4000 1 t
      && t.cr.iim == 0x2000000000000001),
    runs (inM 0x080C0300040) (nat 3 (common 0)) (fun t => delivered 0x15600 0x0000000400000010 0x4000 0x4000 0 t
      && t.cr.ifa == 0),
    runs (inM 0x00030100000) (common 2) (delivered 0x15400 0x0000040000000010 0x4000 0x4000 2),
    runs (inI 0x10000304040) (gr 2 3 (gr 3 4 (psr 0x10000000000 (common 2))))
      (fun t => delivered 0x16000 0x0000040000000008 0x4010 0x4000 0 t && bit t.cr.ipsr Psr.ss && t.gr 1 == ⟨7, false⟩),
    runs (inM 0x00008000000) (psr 0x10000000000 (common 0)) (delivered 0x16000 0x0000000000000008 0x4000 0x4000 1),
    runs (inX 0 0x0C000000040) (psr 0x10000000000 (common 1))
      (delivered 0x16000 0x0000020000000008 0x4010 0x4000 0),
    runs (inB 0x08000200000) (psr 0x10004000000 (common 2))
      (delivered 0x15F00 0x000004000000000C 0x5000 0x4000 0),
    runs (inM 0x080C0300040) { common 0 with psr := 0x0000101308020008 }
      (fun t => t.ip == 0x11400 && t.cr.iip == 0 && bit t.cr.isr 39)].all id = true := by
  decide +kernel

/-- A pending vector. -/
def pending (v : BitVec 8) (s : State) : State := s.pend v

/-- Vectors V2.14.13 to V2.14.19: external interrupts. -/
theorem test_external_interrupts : [
    (match step (pending 0x40 (common 1)) with
      | .next t => delivered 0x13000 0x0000020000000000 0x4000 0x4000 1 t
      | _ => false),
    runs (inM 0x02124100040) (pending 0x40 (pending 0x30 base))
      (fun t => t.gr 1 == ⟨0x40, false⟩ && !bit t.cr.irr 0x40 && bit t.cr.irr 0x30 && bit t.inService 0x40),
    runs (inM 0x02124100040) base (fun t => t.gr 1 == ⟨15, false⟩ && t.inService == base.inService),
    runs (inM 0x02164300000) { base with inService := 1 <<< 0x40 ||| 1 <<< 0x30 }
      (fun t => t.inService == 1 <<< 0x30),
    !(pending 0x40 { base with psr := 0 }).interruptPending,
    !(psr 0x4000 (pending 0x40 { base with cr := { base.cr with tpr := 0x40 } })).interruptPending,
    (psr 0x4000 (pending 0x50 { base with cr := { base.cr with tpr := 0x40 } })).interruptPending,
    (State.advanceTime { base with
      ar := { base.ar with itc := 0x1233 }
      cr := { base.cr with itm := 0x1234, itv := 0xEF } }).cr.irr == 1 <<< 0xEF].all id = true := by
  decide +kernel

/-- A procedure call's status and first return value. -/
def answers (r : PalReply) (status v1 : Int) : Bool :=
  match r with
  | .ok (p, _) => p.status == BitVec.ofInt 64 status && p.v1 == BitVec.ofInt 64 v1
  | .error _ => false

/-- Vectors V2.16.1 to V2.16.3: reserved indices and a procedure that is not provided. -/
theorem test_pal_indices : [answers (palProc 0 0 0 0 base) (-1) 0, answers (palProc 1024 0 0 0 base) (-1) 0].all id
    = true := by
  decide +kernel

/-- The state after a procedure call. -/
def palAfter (r : PalReply) (s : State) : State := match r with | .ok (_, t) => t | .error _ => s
/-- A recoverable register file error is injected and consumed (R1100). -/
noncomputable def injected : State := palAfter (palProc 276 0x349 0 0 base) base

/-- R1100, R1090, R1095, R1110, by hand: an injected error reaches the error map, the check word (valid level 0, Itanium
instruction) and the Machine Check; query, cancel, reserved values; a reserved argument (R1024). -/
theorem test_pal_errors : [answers (palProc 276 0x349 0 0 base) 0 0x300011FFF, answers (palProc 25 0 0 0 base) (-6) 0,
    answers (palProc 25 0 0 0 injected) 0 0x10000000, injected.checkPending,
    answers (palProc 25 2 0x10000000 0 injected) 0 0x0480000000000000,
    answers (palProc 25 2 0x10000000 8 injected) (-6) 0, answers (palProc 25 2 0x30000000 0 injected) (-2) 0,
    answers (palProc 276 0x2340 0 0 base) 0 0x300011FFF, answers (palProc 276 2 0 0 base) 0 0,
    answers (palProc 276 3 0 0 base) (-2) 0, answers (palProc 276 0x4349 0 0 base) (-5) 0,
    answers (palProc 15 0x9000 1 0 base) (-2) 0, (Psp.ofError 1 false 20).consistent,
    (Psp.ofError 2 true 0).consistent].all id = true := by
  decide +kernel

/-- R1091 to R1095, by hand from the field positions; a register file check has no target. -/
theorem test_check_words : [
    (CheckInfo.cache { op := 1, dc := true, mv := true, mesi := 3, index := 5, common := { iv := true } }).toWord
      == 0x008000050000B401,
    (CheckInfo.tlb { trSlot := 5, trv := true, dtr := true, op := 3, common := { pv := true, pl := 2 } }).toWord
      == 0x0600000000310105,
    (CheckInfo.bus { ib := true, kind := 11, common := { mcc := true, tv := true } }).toWord == 0x1800000000000B20,
    (CheckInfo.regFile { id := 4, op := 2, regNum := 7, rnv := true, common := { tv := true, pi := true } }).toWord
      == 0x8000000000008724].all id = true := by
  decide +kernel

/-- The state after a host event that does not stop the machine. -/
def after (s : State) (e : HostEvent) : State := match s.hostEvent e with | .next t => t | _ => s

/-- R1170, R1116: of two pending PMIs one is handed off to the registered handler, the other stays pending. -/
theorem test_pmi :
    (match (after (after (after base (.pmi 3)) (.pmi 7)) (.register .pmi 0x7000)).boundary with
      | .ends (.next t) => t.ip == 0x7000 && t.pmiPending == 0x80 && t.grBank0[8] == ⟨3, false⟩
      | _ => false) = true := by
  decide +kernel

/-- R137, R136, R88, by hand: a stored collection moves BSPSTORE alone; where two registers come back past it, AR[RNAT] takes
the NaT bit of the clean register and below it the bits of the dispersal register. -/
theorem test_stored_collection :
    let s := { base with
      ar := { base.ar with bsp := 0x8200, bspstore := 0x81F8 }
      rse := { base.rse with bspLoad := 0x81E0, dispersal := 0x2000000000000005 }
      grStacked := base.grStacked.set 93 ⟨7, true⟩ }
    (match s.rseStore with
      | .ok t => t.ar.bspstore == 0x8200 && t.rse.bspLoad == 0x81E0 &&
        (t.rseRestoreFrame 2).ar.bspstore == 0x81E8 && (t.rseRestoreFrame 2).ar.rnat == 0x1000000000000005
      | .error _ => false) = true := by
  decide +kernel

/-! ### Well-formedness and decoding -/

/-- One ill-formed instruction for each check, each refused, and each well-formed beside it. -/
theorem test_wellformed_refuses : ([
    Instr.addA1 0 0 2 3, .ldfsM6 0 1 3 0 0, .ldfsM6 0 0 3 0 0, .ld8M3 0 5 5 0 8, .ld8M2 0 1 2 0 0, .cmpEqA6 0 6 6 2 3,
    .ldfpsM11 0 4 6 3 0, .pshladd2A10 0 1 2 3 3, .mux1I3 0 1 2 1, .movMFromArM31 0 1 64, .movIFromArI28 0 1 16,
    .movMFromArM31 0 1 20, .movMToArM29 0 2 17, .movFromCrM33 0 1 3, .movToCrM32 0 2 65, .allocM34 0 1 0 9 8,
    .allocM34 0 1 0 90 97, .allocM34 0 1 2 4 8, .sumM44 0 1, .ssmM44 0 1, .brIaB4 6 6 0 0 0].all fun i => !i.wf) = true ∧
    ([Instr.addA1 0 1 2 3, .ldfsM6 0 2 3 0 0, .ld8M3 0 4 5 0 8, .cmpEqA6 0 6 7 2 3, .ldfpsM11 0 4 7 3 0,
    .pshladd2A10 0 1 2 3 2, .mux1I3 0 1 2 8, .movMFromArM31 0 1 16, .movIFromArI28 0 1 64, .movMToArM29 0 2 18,
    .movFromCrM33 0 1 65, .movToCrM32 0 2 66, .allocM34 0 1 1 8 8, .sumM44 0 0x3E, .ssmM44 0 0x6000,
    .brIaB4 0 6 0 0 0].all fun i => i.wf) = true := by
  decide +kernel

/-- Vectors V2.1.2 to V2.1.4: stops of templates, the all-zero bundle, an MLX bundle. -/
theorem test_bundles : ((List.range 32).filter fun t => (templateUnits (BitVec.ofNat 5 t)).isNone) =
      [0x06, 0x07, 0x14, 0x15, 0x1A, 0x1B, 0x1E, 0x1F] ∧
    stopAfter 0x0A 0 = true ∧ stopAfter 0x0A 2 = false ∧ stopAfter 0x0B 2 = true ∧ stopAfter 0x02 1 = true ∧
    stopAfter 0x03 1 = true ∧ stopAfter 0x03 2 = true ∧ stopAfter 0x10 2 = false ∧ stopAfter 0x11 2 = true ∧
    decodeBundle 0 0 = (.instr (.breakMM37 0 0), false) ∧ decodeBundle 0 2 = (.instr (.breakII19 0 0), false) ∧
    decodeBundle 0x68000000807FFFFFFF80000100000005 1 = (.instr (.movlX2 0 4 0xFFFFFFFF80000000), true) ∧
    decodeBundle 0x68000000807FFFFFFF80000100000005 2 = (.reserved, false) ∧
    decodeBundle 0x400000200342000028E0000100000010 1 = (.instr (.addsA4 0 14 0 5), false) ∧
    decodeBundle 0x400000200342000028E0000100000010 2 = (.instr (.brCondB1 6 0 0 0 2), false) := by
  decide +kernel

/-- Vectors V2.2.1 to V2.2.32: the corners of the immediates. -/
theorem test_immediates : [
    inI 0x109F82FE040 == .instr (.addsA4 0 1 2 8191), inI 0x11800200040 == .instr (.addsA4 0 1 2 0x2000),
    inI 0x119F82FE040 == .instr (.addsA4 0 1 2 0x3FFF), inI 0x12FFFFFE040 == .instr (.addlA5 0 1 3 0x1FFFFF),
    inI 0x13000000040 == .instr (.addlA5 0 1 0 0x200000), inI 0x11160200040 == .instr (.andA3 0 1 2 0x80),
    inI 0x101282FE040 == .instr (.subA3 0 1 2 127), inM 0x0B0C0200040 == .instr (.ld8M3 0 1 2 0 0x100),
    inM 0x0A0C82FE040 == .instr (.ld8M3 0 1 2 0 255), inM 0x0BCC8203E00 == .instr (.st8M5 0 1 2 0 0x1F8),
    inB 0x09000000000 == .instr (.brCondB1 0 0 0 0 0x100000), inB 0x081FFFFE000 == .instr (.brCondB1 0 0 0 0 0xFFFFF),
    inI 0x013FFF0BF80 == .instr (.chkSII20 0 5 0x1FFFFE), inI 0x016FF005FC0 == .instr (.movToPrI23 0 2 0xFFFF),
    inI 0x00600004800 == .instr (.movToPrI23 0 2 0x20), inI 0x00400000040 == .instr (.movToPrRotI24 0 1),
    inI 0x015FFFFFFC0 == .instr (.movToPrRotI24 0 0xFFFFFFF), inM 0x084C8208040 == .instr (.fetchadd8AcqM17 0 1 2 0 4),
    inM 0x08588206040 == .instr (.fetchadd4RelM17 0 1 2 0 3), inM 0x00020000080 == .instr (.sumM44 0 2),
    inM 0x00038180000 == .instr (.rsmM44 0 0x6000), inM 0x011B7FFFFC0 == .instr (.ssmM44 0 0xFFFFFF),
    inM 0x0000D123500 == .instr (.movToDahrImmM50 0 2 0x1234), inM 0x0100FFFF7C0 == .instr (.movToDahrImmM50 0 7 0xFFFF),
    inM 0x0CB002A0FC0 == .instr (.lfetchCountM52 0 2 0 0x10 0 63), inM 0x02C660C0800 == .instr (.allocM34 0 32 12 96 96),
    inI 0x09B98304040 == .instr (.depI15 0 1 2 3 55 3), inI 0x0A5F83F2040 == .instr (.extrI11 0 1 3 63 60),
    inI 0x0EE51C04040 == .instr (.pshl2I8 0 1 2 28), inI 0x0A238087180 == .instr (.tfNzOrI30 0 6 7 1),
    inX 0x18000000000 0x18002000000 == .instr (.brlCondX3 0 0 0 0 0x0600000000001000),
    inX 0x1FFFFFFFFFC 0x191FFE00000 == .instr (.brlCondX3 0 0 0 0 0xFFFFFFFFFFFFF00)].all id = true := by
  decide +kernel

/-! ### Every constructor's decoding: words put together from the opcode table's bits and field positions -/

/-- Each word, put into a slot of kind `u` beside the L slot `l`, decodes to the instruction beside it. -/
noncomputable def decodes (u : SlotUnit) (rows : List (Nat × Nat × Instr)) : Bool :=
  rows.all fun r => decodeSlot u (BitVec.ofNat 41 r.1) (BitVec.ofNat 41 r.2.1) == .instr r.2.2

/-- Rows of the A unit, part 1. -/
theorem test_decode_a1 : decodes .i [
    (0, 0x10003227e54, .addA1 0x14 0x79 0x13 0x32), (0, 0x1000e9121a9, .addPlus1A1 0x29 6 9 0x69),
    (0, 0x1002ca5c322, .subA1 0x22 0xc 0x2e 0x4a), (0, 0x10021b81d03, .subMinus1A1 3 0x74 0x40 0x1b),
    (0, 0x1004356e2c2, .addp4A1 2 0xb 0x37 0x35), (0, 0x10064616784, .andA1 4 0x1e 0xb 0x46),
    (0, 0x1006c8d21db, .andcmA1 0x1b 7 0x69 0x48), (0, 0x10075039e47, .orA1 7 0x79 0x1c 0x50),
    (0, 0x100787f32a8, .xorA1 0x28 0x4a 0x79 7), (0, 0x100986652a4, .shladdA2 0x24 0x4a 0x32 6 3),
    (0, 0x100c6d8e14e, .shladdp4A2 0xe 5 0x47 0x6d 0), (0, 0x1112921ed52, .subA3 0x12 0x35 0x12 0x8f),
    (0, 0x111647ae9e4, .andA3 0x24 0x27 0x47 0xd7), (0, 0x1116caa234b, .andcmA3 0xb 0xd 0x4a 0xd1),
    (0, 0x11170cb6bcc, .orA3 0xc 0x2f 0xc 0xdb), (0, 0x11178735204, .xorA3 4 0x48 7 0x9a),
    (0, 0x1098c4515df, .addsA4 0x1f 0x57 0x44 0x18a8), (0, 0x10cbf64d29d, .addp4A4 0x1d 0x4a 0x76 0xba6),
    (0, 0x133e601594f, .addlA5 0xf 0x65 0 0x383e0a), (0, 0x1810f07e4e4, .cmpLtA6 0x24 0x13 0x21 0x3f 0x70),
    (0, 0x1a0e4d48b95, .cmpLtuA6 0x15 0x2e 0x1c 0x24 0x4d), (0, 0x1c03b58213e, .cmpEqA6 0x3e 4 7 0x41 0x35),
    (0, 0x180af727c0a, .cmpLtUncA6 0xa 0x30 0x15 0x13 0x77), (0, 0x1a0155f769f, .cmpLtuUncA6 0x1f 0x1a 2 0x7b 0x55),
    (0, 0x1c11e593c04, .cmpEqUncA6 4 0x30 0x23 0x49 0x65), (0, 0x182a5856d38, .cmpEqAndA6 0x38 0x34 0x14 0x2b 0x58),
    (0, 0x1a2fe694996, .cmpEqOrA6 0x16 0x26 0x1f 0x4a 0x66), (0, 0x1c3af81611d, .cmpEqOrAndcmA6 0x1d 4 0x35 0xb 0x78),
    (0, 0x183608ab791, .cmpNeAndA6 0x11 0x1e 0x2c 0x55 8), (0, 0x1a36524fb83, .cmpNeOrA6 3 0x2e 0x2c 0x27 0x52),
    (0, 0x1c35b9d3fe4, .cmpNeOrAndcmA6 0x24 0x3f 0x2b 0x69 0x39), (0, 0x190c7100b52, .cmpGtAndA7 0x12 0x2d 0x18 0x71),
    (0, 0x1b00f8005aa, .cmpGtOrA7 0x2a 0x16 1 0x78), (0, 0x1d054e0059d, .cmpGtOrAndcmA7 0x1d 0x16 0xa 0x4e),
    (0, 0x19019b017c7, .cmpLeAndA7 7 0x1f 3 0x1b), (0, 0x1b045e014b1, .cmpLeOrA7 0x31 0x12 8 0x5e),
    (0, 0x1d0cf50164f, .cmpLeOrAndcmA7 0xf 0x19 0x19 0x75), (0, 0x192295007f7, .cmpGeAndA7 0x37 0x1f 5 0x15),
    (0, 0x1b31a30065c, .cmpGeOrA7 0x1c 0x19 0x23 0x23), (0, 0x1d3a3700238, .cmpGeOrAndcmA7 0x38 8 0x34 0x37),
    (0, 0x1928da018f7, .cmpLtAndA7 0x37 0x23 0x11 0x5a), (0, 0x1b2b5701fda, .cmpLtOrA7 0x1a 0x3f 0x16 0x57),
    (0, 0x1d3e9d01638, .cmpLtOrAndcmA7 0x38 0x18 0x3d 0x1d), (0, 0x188593a8149, .cmpLtA8 9 5 0xb 0x13 0x54),
    (0, 0x1b8fea2e00e, .cmpLtuA8 0xe 0 0x1f 0x6a 0x97), (0, 0x1c801288490, .cmpEqA8 0x10 0x12 0 0x12 0x44),
    (0, 0x199228219d7, .cmpLtUncA8 0x17 0x27 0x24 0x28 0x90),
    (0, 0x1b9079a7dac, .cmpLtuUncA8 0x2c 0x36 0x20 0x79 0xd3), (0, 0x1d81badfbeb, .cmpEqUncA8 0x2b 0x2f 3 0x3a 0xef),
    (0, 0x19bbd78ef31, .cmpEqAndA8 0x31 0x3c 0x37 0x57 0xc7), (0, 0x1aacb27a659, .cmpEqOrA8 0x19 0x19 0x19 0x32 0x3d),
    (0, 0x1ca198fc668, .cmpEqOrAndcmA8 0x28 0x19 3 0x18 0x7e), (0, 0x18a50e9970d, .cmpNeAndA8 0xd 0x1c 0xa 0xe 0x4c),
    (0, 0x1aa04889183, .cmpNeOrA8 3 6 0 0x48 0x44), (0, 0x1cabce13f06, .cmpNeOrAndcmA8 6 0x3c 0x17 0x4e 9),
    (0, 0x18539360377, .cmp4LtA6 0x37 0xd 0x27 0x30 0x13), (0, 0x1a5ecd58428, .cmp4LtuA6 0x28 0x10 0x3d 0x2c 0x4d),
    (0, 0x1c43ec1c797, .cmp4EqA6 0x17 0x1e 7 0xe 0x6c), (0, 0x185f3d77fdf, .cmp4LtUncA6 0x1f 0x3f 0x3e 0x3b 0x3d),
    (0, 0x1a428d254de, .cmp4LtuUncA6 0x1e 0x13 5 0x12 0xd)] = true := by
  decide +kernel

/-- Rows of the A unit, part 2. -/
theorem test_decode_a2 : decodes .i [
    (0, 0x1c57bd4356f, .cmp4EqUncA6 0x2f 0x15 0x2f 0x21 0x3d), (0, 0x18650284b35, .cmp4EqAndA6 0x35 0x2c 0xa 0x42 2),
    (0, 0x1a7e2e86f0d, .cmp4EqOrA6 0xd 0x3c 0x3c 0x43 0x2e), (0, 0x1c7103eab09, .cmp4EqOrAndcmA6 9 0x2c 0x22 0x75 3),
    (0, 0x1869d2fb870, .cmp4NeAndA6 0x30 0x21 0x13 0x7d 0x52), (0, 0x1a7621d9177, .cmp4NeOrA6 0x37 5 0x2c 0x6c 0x21),
    (0, 0x1c7d2d2b5e1, .cmp4NeOrAndcmA6 0x21 0x17 0x3a 0x15 0x2d),
    (0, 0x195145003b1, .cmp4GtAndA7 0x31 0xe 0x22 0x45), (0, 0x1b4ad100831, .cmp4GtOrA7 0x31 0x20 0x15 0x51),
    (0, 0x1d59e4009ce, .cmp4GtOrAndcmA7 0xe 0x27 0x33 0x64), (0, 0x195b1801c3f, .cmp4LeAndA7 0x3f 0x30 0x36 0x18),
    (0, 0x1b5a33013f3, .cmp4LeOrA7 0x33 0xf 0x34 0x33), (0, 0x1d471901cef, .cmp4LeOrAndcmA7 0x2f 0x33 0xe 0x19),
    (0, 0x196b5d007e1, .cmp4GeAndA7 0x21 0x1f 0x16 0x5d), (0, 0x1b60e500fc1, .cmp4GeOrA7 1 0x3f 1 0x65),
    (0, 0x1d681800791, .cmp4GeOrAndcmA7 0x11 0x1e 0x10 0x18), (0, 0x197eac019ac, .cmp4LtAndA7 0x2c 0x26 0x3d 0x2c),
    (0, 0x1b7ddc01cdc, .cmp4LtOrA7 0x1c 0x33 0x3b 0x5c), (0, 0x1d7efc015bf, .cmp4LtOrAndcmA7 0x3f 0x16 0x3d 0x7c),
    (0, 0x18c70d78157, .cmp4LtA8 0x17 5 0xe 0xd 0x3c), (0, 0x1bc6bdfc54c, .cmp4LtuA8 0xc 0x15 0xd 0x3d 0xfe),
    (0, 0x1cda80e89f9, .cmp4EqA8 0x39 0x27 0x35 0 0x74), (0, 0x18d9d2d55a9, .cmp4LtUncA8 0x29 0x16 0x33 0x52 0x6a),
    (0, 0x1bdd31b71ea, .cmp4LtuUncA8 0x2a 7 0x3a 0x31 0xdb), (0, 0x1ccf716f330, .cmp4EqUncA8 0x30 0xc 0x1e 0x71 0x37),
    (0, 0x19ea8bf2a32, .cmp4EqAndA8 0x32 0x28 0x15 0xb 0xf9),
    (0, 0x1aecbbbebbe, .cmp4EqOrA8 0x3e 0x2e 0x19 0x3b 0x5f),
    (0, 0x1cf714fe17c, .cmp4EqOrAndcmA8 0x3c 5 0x2e 0x14 0x7f), (0, 0x19e4cb77048, .cmp4NeAndA8 8 1 9 0x4b 0xbb),
    (0, 0x1be4ce99a73, .cmp4NeOrA8 0x33 0x29 9 0x4e 0xcc),
    (0, 0x1cf577277be, .cmp4NeOrAndcmA8 0x3e 0x1e 0x2a 0x77 0x13), (0, 0x104002211a3, .padd1A9 0x23 0x46 0x10 2),
    (0, 0x10605cf9980, .padd2A9 0 0x66 0x7c 0x5c), (0, 0x11405f86369, .padd4A9 0x29 0xd 0x43 0x5f),
    (0, 0x1040fe6e47b, .padd1SssA9 0x3b 0x11 0x37 0x7e), (0, 0x1060efd2637, .padd2SssA9 0x37 0x18 0x69 0x6f),
    (0, 0x10411b400cd, .padd1UuuA9 0xd 3 0x20 0x1b), (0, 0x1061613d012, .padd2UuuA9 0x12 0x40 0x1e 0x61),
    (0, 0x1041c542a65, .padd1UusA9 0x25 0x29 0x21 0x45), (0, 0x10618721a9a, .padd2UusA9 0x1a 0x6a 0x10 7),
    (0, 0x1042725b7ba, .psub1A9 0x3a 0x5e 0x2d 0x72), (0, 0x1062689551d, .psub2A9 0x1d 0x54 0x4a 0x68),
    (0, 0x1142696b0b9, .psub4A9 0x39 0x42 0x35 0x69), (0, 0x10429081c3a, .psub1SssA9 0x3a 0x70 0x40 0x10),
    (0, 0x1062c1864e2, .psub2SssA9 0x22 0x13 0x43 0x41), (0, 0x10436371bc1, .psub1UuuA9 1 0x6f 0x38 0x63),
    (0, 0x1063630134b, .psub2UuuA9 0xb 0x4d 0 0x63), (0, 0x1043922c4f3, .psub1UusA9 0x33 0x13 0x16 0x12),
    (0, 0x10638fb93de, .psub2UusA9 0x1e 0x4f 0x5c 0xf), (0, 0x104557521e3, .pavg1A9 0x23 7 0x29 0x57),
    (0, 0x10653d8f0e1, .pavg2A9 0x21 0x43 0x47 0x3d), (0, 0x1045f11b8f2, .pavg1RazA9 0x32 0x63 0xd 0x71),
    (0, 0x1065983e1e3, .pavg2RazA9 0x23 7 0x1f 0x18), (0, 0x10470cc4151, .pavgsub1A9 0x11 5 0x62 0xc),
    (0, 0x1067038ee60, .pavgsub2A9 0x20 0x39 0x47 3), (0, 0x105208e9cb0, .pcmp1EqA9 0x30 0x72 0x74 8),
    (0, 0x10727c9ca5c, .pcmp2EqA9 0x1c 0x29 0x4e 0x7c), (0, 0x11521983360, .pcmp4EqA9 0x20 0x4d 0x41 0x19),
    (0, 0x1052c1728ec, .pcmp1GtA9 0x2c 0x23 0x39 0x41), (0, 0x1072c07b9e2, .pcmp2GtA9 0x22 0x67 0x3d 0x40)] = true := by
  decide +kernel

/-- Rows of the A unit, part 3. -/
theorem test_decode_a3 : decodes .i [
    (0, 0x1152c2b27fc, .pcmp4GtA9 0x3c 0x1f 0x59 0x42), (0, 0x1068f6f1c38, .pshladd2A10 0x38 0x70 0x78 0x76 1),
    (0, 0x106c78e51fb, .pshradd2A10 0x3b 0x47 0x72 0x78 0)] = true := by
  decide +kernel

/-- Rows of the I unit, part 1. -/
theorem test_decode_i1 : decodes .i [
    (0, 0xe233522e75, .pmpyshr2I1 0x35 0x39 0x11 0x35 0), (0, 0xe290950e19, .pmpyshr2UI1 0x19 0x38 0x28 9 2),
    (0, 0xe841b12d8f, .unpack1HI2 0xf 0x36 9 0x1b), (0, 0xe880fc89aa, .mix1RI2 0x2a 0x26 0x64 0xf),
    (0, 0xe8178278f9, .pmin1UI2 0x39 0x63 0x13 0x78), (0, 0xe852ea94ad, .pmax1UI2 0x2d 0x52 0x54 0x2e),
    (0, 0xe8611e2809, .unpack1LI2 9 0x20 0x71 0x11), (0, 0xe8a5f38efd, .mix1LI2 0x3d 0x3b 0x1c 0x5f),
    (0, 0xe8b716433c, .psad1I2 0x3c 0xc 0x32 0x71), (0, 0xea055fc51f, .pack2UssI2 0x1f 0x14 0x7e 0x55),
    (0, 0xea45a28735, .unpack2HI2 0x35 0x1c 0x14 0x5a), (0, 0xea83383fdb, .mix2RI2 0x1b 0x7f 0x41 0x33),
    (0, 0xead2d32d55, .pmpy2RI2 0x15 0x35 0x19 0x2d), (0, 0xea22eb82d4, .pack2SssI2 0x14 0xb 0x5c 0x2e),
    (0, 0xea63a8cac1, .unpack2LI2 1 0x2b 0x46 0x3a), (0, 0xeaa310569c, .mix2LI2 0x1c 0x5a 2 0x31),
    (0, 0xea3259f095, .pmin2I2 0x15 0x42 0x4f 0x25), (0, 0xea70e11ea0, .pmax2I2 0x20 0x7a 8 0xe),
    (0, 0xeaf1dc9d7f, .pmpy2LI2 0x3f 0x75 0x64 0x1d), (0, 0xf0d0a1bc3e, .mpy4I2 0x3e 0x70 0xd 0xa),
    (0, 0xf0f730a890, .mpyshl4I2 0x10 0x22 5 0x73), (0, 0xf8460445f1, .unpack4HI2 0x31 0x17 0x22 0x60),
    (0, 0xf886c6da08, .mix4RI2 8 0x68 0x36 0x6c), (0, 0xf8279d15ba, .pack4SssI2 0x3a 0x56 0x68 0x79),
    (0, 0xf864426cd0, .unpack4LI2 0x10 0x33 0x13 0x44), (0, 0xf8a3f9307a, .mix4LI2 0x3a 0x41 0x49 0x3f),
    (0, 0xeca0416a6c, .mux1I3 0x2c 0x29 0xb 4), (0, 0xeea2eb1983, .mux2I4 3 0x66 0x58 0x2e),
    (0, 0xe222213c9b, .pshr2I5 0x1b 0x72 9 0x22), (0, 0xf020ba20bc, .pshr4I5 0x3c 2 0x51 0xb),
    (0, 0xf224d14873, .shrI5 0x33 0x21 0xa 0x4d), (0, 0xe202110736, .pshr2UI5 0x36 0x1c 8 0x21),
    (0, 0xf0001743f7, .pshr4UI5 0x37 0xf 0x3a 1), (0, 0xf20358dfd5, .shrUI5 0x15 0x7f 0x46 0x35),
    (0, 0xe63224dd7b, .pshr2I6 0x3b 0x75 0x22 0x13), (0, 0xf434358148, .pshr4I6 8 5 0x43 0x16),
    (0, 0xe610e7de0f, .pshr2UI6 0xf 0x78 0xe 0x1f), (0, 0xf41061484a, .pshr4UI6 0xa 0x21 6 5),
    (0, 0xe24504fdcc, .pshl2I7 0xc 0x77 0x27 0x50), (0, 0xf041ac30d3, .pshl4I7 0x13 0x43 0x61 0x1a),
    (0, 0xf245680e52, .shlI7 0x12 0x39 0x40 0x56), (0, 0xee5195888b, .pshl2I8 0xb 0x22 0x2c 0x19),
    (0, 0xfc50141fc1, .pshl4I8 1 0x7f 0x20 1), (0, 0xe695d00080, .popcntI9 0 2 0x5d),
    (0, 0xe6d7d011a0, .clzI9 0x20 0x46 0x7d), (0, 0xadd9f7904c, .shrpI10 0xc 0x41 0x3c 0x1f 0x3b),
    (0, 0xa5a54a435c, .extrUI11 0x1c 0xd 0x54 0x34 0x29), (0, 0xa513fd751b, .extrI11 0x1b 0x54 0x3f 0x22 0x35),
    (0, 0xa7013f8cb8, .depZI12 0x38 0x32 0x7c 0x20 0x13), (0, 0xa7f4e326ec, .depZI13 0x2c 0x1b 0x3e 0xe 0x19),
    (0, 0xaf75aa1c35, .depI14 0x35 0x70 0x5a 0x2e 0x28 0), (0, 0x81efd59f99, .depI15 0x19 0x7e 0x2c 0x7d 3 0xd),
    (0, 0xa0250bc008, .tbitZI16 8 0 4 0x50 0x2f), (0, 0xa0d9402438, .tnatZI17 0x38 0x10 0x1b 0x14),
    (0, 0xa1500ea143, .tfZI30 3 5 0x2a 0x1a), (0, 0xa1055f9dd8, .tbitZUncI16 0x18 0x37 0x20 0x55 0x3e),
    (0, 0xa07d803992, .tnatZUncI17 0x12 0x26 0xf 0x58), (0, 0xa0e8097092, .tfZUncI30 0x12 2 0x1d 5),
    (0, 0xb0e004044a, .tbitZAndI16 0xa 0x11 0x1c 0 0x10), (0, 0xb0afc02f57, .tnatZAndI17 0x17 0x3d 0x15 0x7c)] = true := by
  decide +kernel

/-- Rows of the I unit, part 2. -/
theorem test_decode_i2 : decodes .i [
    (0, 0xb0a009e8ff, .tfZAndI30 0x3f 0x23 0x14 7), (0, 0xb1c2735f42, .tbitNzAndI16 2 0x3d 0x38 0x27 0xd),
    (0, 0xb002a032d6, .tnatNzAndI17 0x16 0xb 0 0x2a), (0, 0xb0f00a3158, .tfNzAndI30 0x18 5 0x1e 8),
    (0, 0xa261f80a60, .tbitZOrI16 0x20 0x29 0xc 0x1f 0x20), (0, 0xa22a102031, .tnatZOrI17 0x31 0 5 0x21),
    (0, 0xa2480b2174, .tfZOrI30 0x34 5 9 0xc), (0, 0xa2c824d0a5, .tbitNzOrI16 0x25 2 0x19 2 0x13),
    (0, 0xa270a03a13, .tnatNzOrI17 0x13 0x28 0xe 0xa), (0, 0xa3080eff65, .tfNzOrI30 0x25 0x3d 0x21 0x1b),
    (0, 0xb3572b4270, .tbitZOrAndcmI16 0x30 9 0x2a 0x72 0x2d),
    (0, 0xb333102e32, .tnatZOrAndcmI17 0x32 0x38 0x26 0x31), (0, 0xb3700fe530, .tfZOrAndcmI30 0x30 0x14 0x2e 0x1f),
    (0, 0xb295c9d25f, .tbitNzOrAndcmI16 0x1f 9 0x12 0x5c 0x27), (0, 0xb216903269, .tnatNzOrAndcmI17 0x29 9 2 0x69),
    (0, 0xb3c80c3b75, .tfNzOrAndcmI30 0x35 0x2d 0x39 0x10), (0, 0xaef76e8, .nopII18 0x28 0xbbddb),
    (0, 0x100e05acac, .hintII18 0x2c 0x1816b2), (0, 0x10021853c8, .breakII19 8 0x18614f),
    (0, 0x13ab781a30, .chkSII20 0x30 0x40 0x1d5be8), (0, 0xf5fbd3a33, .movToBrI21 0x33 0 0x69 0x15f 1 3 1 5),
    (0, 0xf494b01eb, .movRetToBrI21 0x2b 7 0x58 0x149 0 0 0 0), (0, 0x188005448, .movFromBrI22 8 0x51 2),
    (0, 0x6d501ae7d, .movToPrI23 0x3d 0xd 0x6ab9), (0, 0x5416ab0e3, .movToPrRotI24 0x23 0x505aac3),
    (0, 0x180001401, .movFromIpI25 1 0x50), (0, 0x1980015e2, .movFromPrI25 0x22 0x57),
    (0, 0x15217c00f, .movIToArI26 0xf 0x3e 0x21), (0, 0x1053a10000, .movIToArImmI27 0 0x3a 0x88),
    (0, 0x194001def, .movIFromArI28 0x2f 0x77 0x40), (0, 0x80b01139, .zxt1I29 0x39 0x44 0xb),
    (0, 0x888010ea, .zxt2I29 0x2a 0x43 8), (0, 0x93c017af, .zxt4I29 0x2f 0x5e 0x3c),
    (0, 0xa09019d0, .sxt1I29 0x10 0x67 9), (0, 0xa9e00876, .sxt2I29 0x36 0x21 0x1e),
    (0, 0xb1a0182e, .sxt4I29 0x2e 0x60 0x1a), (0, 0xc530178e, .czx1LI29 0xe 0x5e 0x53),
    (0, 0xcbf00ebe, .czx2LI29 0x3e 0x3a 0x3f), (0, 0xe0900c36, .czx1RI29 0x36 0x30 9),
    (0, 0xed701d1e, .czx2RI29 0x1e 0x74 0x57)] = true := by
  decide +kernel

/-- Rows of the M unit, part 1. -/
theorem test_decode_m1 : decodes .m [
    (0, 0x8020581892, .ld1M1 0x12 0x62 5 2 1), (0, 0x8060900669, .ld2M1 0x29 0x19 9 2 0),
    (0, 0x80a5380815, .ld4M1 0x15 0x20 0x53 2 1), (0, 0x80c48013d3, .ld8M1 0x13 0x4f 0x48 0 0),
    (0, 0x8113e801de, .ld1SM1 0x1e 7 0x3e 1 1), (0, 0x814588032b, .ld2SM1 0x2b 0xc 0x58 0 1),
    (0, 0x81a5a0095f, .ld4SM1 0x1f 0x25 0x5a 2 0), (0, 0x81f3b00edd, .ld8SM1 0x1d 0x3b 0x3b 3 0),
    (0, 0x8204601cbf, .ld1AM1 0x3f 0x72 0x46 0 0), (0, 0x82577002be, .ld2AM1 0x3e 0xa 0x77 1 0),
    (0, 0x82b0980e92, .ld4AM1 0x12 0x3a 9 3 1), (0, 0x82f3901ffd, .ld8AM1 0x3d 0x7f 0x39 3 0),
    (0, 0x8337580698, .ld1SaM1 0x18 0x1a 0x75 3 1), (0, 0x8344a0024d, .ld2SaM1 0xd 9 0x4a 0 0),
    (0, 0x83b21010ef, .ld4SaM1 0x2f 0x43 0x21 3 0), (0, 0x83e6881348, .ld8SaM1 8 0x4d 0x68 2 1),
    (0, 0x8420e01c51, .ld1BiasM1 0x11 0x71 0xe 2 0), (0, 0x8477200fce, .ld2BiasM1 0xe 0x3f 0x72 3 0),
    (0, 0x84814800d9, .ld4BiasM1 0x19 3 0x14 0 1), (0, 0x84d39015df, .ld8BiasM1 0x1f 0x57 0x39 1 0),
    (0, 0x85135004ae, .ld1AcqM1 0x2e 0x12 0x35 1 0), (0, 0x8556b003d4, .ld2AcqM1 0x14 0xf 0x6b 1 0),
    (0, 0x85b2b01814, .ld4AcqM1 0x14 0x60 0x2b 3 0), (0, 0x85c7681e07, .ld8AcqM1 7 0x78 0x76 0 1),
    (0, 0x8815e01cc0, .ld1CClrM1 0 0x73 0x5e 1 0), (0, 0x8853280217, .ld2CClrM1 0x17 8 0x32 1 1),
    (0, 0x88909812f7, .ld4CClrM1 0x37 0x4b 9 1 1), (0, 0x88f230181b, .ld8CClrM1 0x1b 0x60 0x23 3 0),
    (0, 0x8930680351, .ld1CNcM1 0x11 0xd 6 3 1), (0, 0x8947701452, .ld2CNcM1 0x12 0x51 0x77 0 0),
    (0, 0x89a37008be, .ld4CNcM1 0x3e 0x22 0x37 2 0), (0, 0x89f2f8188c, .ld8CNcM1 0xc 0x62 0x2f 3 1),
    (0, 0x8a30381c5b, .ld1CClrAcqM1 0x1b 0x71 3 3 1), (0, 0x8a77480ce8, .ld2CClrAcqM1 0x28 0x33 0x74 3 1),
    (0, 0x8aa1a011a3, .ld4CClrAcqM1 0x23 0x46 0x1a 2 0), (0, 0x8ad5d01dc3, .ld8CClrAcqM1 3 0x77 0x5d 1 0),
    (0, 0x86e1181827, .ld8FillM1 0x27 0x60 0x11 2 1), (0, 0x903740cf92, .ld1M2 0x12 0x3e 6 0x74 3),
    (0, 0x9053c2a423, .ld2M2 0x23 0x10 0x15 0x3c 1), (0, 0x90a204c915, .ld4M2 0x15 0x24 0x26 0x20 2),
    (0, 0x90d21a7f2f, .ld8M2 0x2f 0x7c 0x53 0x21 1), (0, 0x9123d4c7a9, .ld1SM2 0x29 0x1e 0x26 0x3d 2),
    (0, 0x916151ecaa, .ld2SM2 0x2a 0x32 0xf 0x15 2), (0, 0x91b403424a, .ld4SM2 0xa 9 0x1a 0x40 3),
    (0, 0x91d1c8cff3, .ld8SM2 0x33 0x3f 0x46 0x1c 1), (0, 0x92161feaba, .ld1AM2 0x3a 0x2a 0x7f 0x61 1),
    (0, 0x924188c45b, .ld2AM2 0x1b 0x11 0x46 0x18 0), (0, 0x9284756585, .ld4AM2 5 0x16 0x2b 0x47 0),
    (0, 0x92f215e794, .ld8AM2 0x14 0x1e 0x2f 0x21 3), (0, 0x93202e2664, .ld1SaM2 0x24 0x19 0x71 2 2),
    (0, 0x9363462d37, .ld2SaM2 0x37 0x34 0x31 0x34 2), (0, 0x93922606a1, .ld4SaM2 0x21 0x1a 0x30 0x22 1),
    (0, 0x93e237e1f0, .ld8SaM2 0x30 7 0x3f 0x23 2), (0, 0x9425720bbd, .ld1BiasM2 0x3d 0x2e 0x10 0x57 2),
    (0, 0x9476ecb421, .ld2BiasM2 0x21 0x50 0x65 0x6e 3), (0, 0x94872442cd, .ld4BiasM2 0xd 0xb 0x22 0x72 0),
    (0, 0x94d39a4cd8, .ld8BiasM2 0x18 0x33 0x52 0x39 1), (0, 0x95368d89fd, .ld1AcqM2 0x3d 0x27 0x6c 0x68 3),
    (0, 0x95504200bd, .ld2AcqM2 0x3d 2 0x10 4 1), (0, 0x95966e586d, .ld4AcqM2 0x2d 0x61 0x72 0x66 1)] = true := by
  decide +kernel

/-- Rows of the M unit, part 2. -/
theorem test_decode_m2 : decodes .m [
    (0, 0x95c007d2fd, .ld8AcqM2 0x3d 0x4b 0x3e 0 0), (0, 0x98376eddd9, .ld1CClrM2 0x19 0x77 0x76 0x76 3),
    (0, 0x9857c77b61, .ld2CClrM2 0x21 0x6d 0x3b 0x7c 1), (0, 0x9881c1b90f, .ld4CClrM2 0xf 0x64 0xd 0x1c 0),
    (0, 0x98c57f9089, .ld8CClrM2 9 0x42 0x7c 0x57 0), (0, 0x99259b9a7c, .ld1CNcM2 0x3c 0x69 0x5c 0x59 2),
    (0, 0x9943ae5876, .ld2CNcM2 0x36 0x61 0x72 0x3a 0), (0, 0x99b000b8e3, .ld4CNcM2 0x23 0x63 5 0 3),
    (0, 0x99c7590748, .ld8CNcM2 8 0x1d 0x48 0x75 0), (0, 0x9a07b4d6e9, .ld1CClrAcqM2 0x29 0x5b 0x26 0x7b 0),
    (0, 0x9a55186828, .ld2CClrAcqM2 0x28 0x20 0x43 0x51 1), (0, 0x9a80c1d86c, .ld4CClrAcqM2 0x2c 0x61 0xe 0xc 0),
    (0, 0x9ac4af10d3, .ld8CClrAcqM2 0x13 0x43 0x78 0x4a 0), (0, 0x96e6538858, .ld8FillM2 0x18 0x21 0x1c 0x65 2),
    (0, 0xb014446040, .ld1M3 0 1 0x44 1 0x123), (0, 0xb075278a3d, .ld2M3 0x3d 0x28 0x52 3 0x13c),
    (0, 0xa08c6687a1, .ld4M3 0x21 0x1e 0x46 0 0xb4), (0, 0xa0c277f4ed, .ld8M3 0x2d 0x53 0x27 0 0x3f),
    (0, 0xa11523b5b8, .ld1SM3 0x38 0x56 0x52 1 0x1d), (0, 0xa157608daa, .ld2SM3 0x2a 0x36 0x76 1 4),
    (0, 0xa19db64aec, .ld4SM3 0x2c 0x2b 0x5b 1 0xb2), (0, 0xb1de68000c, .ld8SM3 0xc 0 0x66 1 0x1c0),
    (0, 0xa233fc4684, .ld1AM3 4 0x1a 0x3f 3 0x62), (0, 0xa251dc2634, .ld2AM3 0x34 0x18 0x1d 1 0x61),
    (0, 0xb2b0d9c978, .ld4AM3 0x38 0x25 0xd 3 0x14e), (0, 0xa2d9cabc8b, .ld8AM3 0xb 0x72 0x1c 1 0xd5),
    (0, 0xb304c0de43, .ld1SaM3 3 0x79 0x4c 0 0x106), (0, 0xa367c0c0cd, .ld2SaM3 0xd 3 0x7c 2 6),
    (0, 0xa3997b61ed, .ld4SaM3 0x2d 7 0x17 1 0xdb), (0, 0xb3c5deea38, .ld8SaM3 0x38 0x28 0x5d 0 0x177),
    (0, 0xb409886a8a, .ld1BiasM3 0xa 0x2a 0x18 0 0x1c3), (0, 0xb458460eef, .ld2BiasM3 0x2f 0x3b 4 1 0x1b0),
    (0, 0xa497e1abf5, .ld4BiasM3 0x35 0x2f 0x7e 1 0xd), (0, 0xa4c23f4280, .ld8BiasM3 0 0xa 0x23 0 0x7a),
    (0, 0xb5347603f8, .ld1AcqM3 0x38 0xf 0x47 3 0x130), (0, 0xb55e96f896, .ld2AcqM3 0x16 0x62 0x69 1 0x1b7),
    (0, 0xa595a8a185, .ld4AcqM3 5 6 0x5a 1 0x45), (0, 0xa5d98e4e7a, .ld8AcqM3 0x3a 0x39 0x18 1 0xf2),
    (0, 0xa81d0a00de, .ld1CClrM3 0x1e 3 0x50 1 0xd0), (0, 0xa850510cf1, .ld2CClrM3 0x31 0x33 5 1 8),
    (0, 0xa898711d73, .ld4CClrM3 0x33 0x75 7 1 0x88), (0, 0xa8d2bf5379, .ld8CClrM3 0x39 0x4d 0x2b 1 0x7a),
    (0, 0xb9185b13bd, .ld1CNcM3 0x3d 0x4e 5 1 0x1d8), (0, 0xa95a3c1d94, .ld2CNcM3 0x14 0x76 0x23 1 0xe0),
    (0, 0xb9ae711d66, .ld4CNcM3 0x26 0x75 0x67 2 0x188), (0, 0xa9c9df5a41, .ld8CNcM3 1 0x69 0x1d 0 0xfa),
    (0, 0xba163e9e9d, .ld1CClrAcqM3 0x1d 0x7a 0x63 1 0x174), (0, 0xba43f2fa1b, .ld2CClrAcqM3 0x1b 0x68 0x3f 0 0x117),
    (0, 0xaaaf7b1980, .ld4CClrAcqM3 0 0x66 0x77 2 0xd8), (0, 0xaaccd504f1, .ld8CClrAcqM3 0x31 0x13 0x4d 0 0xa8),
    (0, 0xb6f6482b9d, .ld8FillM3 0x1d 0x2e 0x64 3 0x141), (0, 0x8a0e000c8c, .ld16M1 0xc 0x32 0x60 0 0),
    (0, 0x8b0d30021a, .ld16AcqM1 0x1a 8 0x53 0 0), (0, 0x8c0298b023, .st1M4 0x23 0x45 0x29 0 1),
    (0, 0x8c70de201b, .st2M4 0x1b 0x71 0xd 3 0), (0, 0x8c80a9e010, .st4M4 0x10 0x4f 0xa 0 0),
    (0, 0x8ce7e7f01a, .st8M4 0x1a 0x3f 0x7e 2 1), (0, 0x8d01d2c01c, .st1RelM4 0x1c 0x16 0x1d 0 0),
    (0, 0x8d6729e01d, .st2RelM4 0x1d 0x4f 0x72 2 0), (0, 0x8db6c8902f, .st4RelM4 0x2f 0x44 0x6c 3 1)] = true := by
  decide +kernel

/-- Rows of the M unit, part 3. -/
theorem test_decode_m3 : decodes .m [
    (0, 0x8df631e030, .st8RelM4 0x30 0xf 0x63 3 0), (0, 0x8ed4846012, .st8SpillM4 0x12 0x23 0x48 1 0),
    (0, 0xac021bc5d0, .st1M5 0x10 0x5e 0x21 0 0x17), (0, 0xbc5933d28f, .st2M5 0xf 0x1e 0x13 1 0x1ca),
    (0, 0xac988527cc, .st4M5 0xc 0x29 8 1 0x9f), (0, 0xbce1d874e0, .st8M5 0x20 0x43 0x1d 2 0x153),
    (0, 0xad004fdc5d, .st1RelM5 0x1d 0x7e 4 0 0x71), (0, 0xbd56b3a174, .st2RelM5 0x34 0x1d 0x6b 1 0x105),
    (0, 0xad81d4b338, .st4RelM5 0x38 0x25 0x1d 0 0x4c), (0, 0xbdc4ad2bfe, .st8RelM5 0x3e 0x69 0x4a 0 0x12f),
    (0, 0xbed16dd8e0, .st8SpillM5 0x20 0x6e 0x16 1 0x163), (0, 0x8c0f9aa031, .st16M4 0x31 0x55 0x79 0 0),
    (0, 0x8d2da98028, .st16RelM4 0x28 0x4c 0x5a 2 0), (0, 0xc012f0010d, .ldfeM6 0xd 4 0x2f 1 0),
    (0, 0xc057f00682, .ldf8M6 2 0x1a 0x7f 1 0), (0, 0xc0b5301766, .ldfsM6 0x26 0x5d 0x53 3 0),
    (0, 0xc0d6800074, .ldfdM6 0x34 1 0x68 1 0), (0, 0xc121700beb, .ldfeSM6 0x2b 0x2f 0x17 2 0),
    (0, 0xc170400684, .ldf8SM6 4 0x1a 4 3 0), (0, 0xc190800f63, .ldfsSM6 0x23 0x3d 8 1 0),
    (0, 0xc1e5400cb2, .ldfdSM6 0x32 0x32 0x54 2 0), (0, 0xc220b01128, .ldfeAM6 0x28 0x44 0xb 2 0),
    (0, 0xc252281659, .ldf8AM6 0x19 0x59 0x22 1 1), (0, 0xc292781552, .ldfsAM6 0x12 0x55 0x27 1 1),
    (0, 0xc2e5f809c3, .ldfdAM6 3 0x27 0x5f 2 1), (0, 0xc303580d56, .ldfeSaM6 0x16 0x35 0x35 0 1),
    (0, 0xc356681ff1, .ldf8SaM6 0x31 0x7f 0x66 1 1), (0, 0xc395d00c8c, .ldfsSaM6 0xc 0x32 0x5d 1 0),
    (0, 0xc3f370003c, .ldfdSaM6 0x3c 0 0x37 3 0), (0, 0xc80690039b, .ldfeCClrM6 0x1b 0xe 0x69 0 0),
    (0, 0xc852e81c64, .ldf8CClrM6 0x24 0x71 0x2e 1 1), (0, 0xc88018040a, .ldfsCClrM6 0xa 0x10 1 0 1),
    (0, 0xc8f6701489, .ldfdCClrM6 9 0x52 0x67 3 0), (0, 0xc934f01245, .ldfeCNcM6 5 0x49 0x4f 3 0),
    (0, 0xc94150102f, .ldf8CNcM6 0x2f 0x40 0x15 0 0), (0, 0xc984280512, .ldfsCNcM6 0x12 0x14 0x42 0 1),
    (0, 0xc9d3180344, .ldfdCNcM6 4 0xd 0x31 1 1), (0, 0xc6f7b01973, .ldfFillM6 0x33 0x65 0x7b 3 0),
    (0, 0xd0078d6413, .ldfeM7 0x13 0x10 0x6b 0x78 0), (0, 0xd04287bd3e, .ldf8M7 0x3e 0x74 0x3d 0x28 0),
    (0, 0xd0831a3da6, .ldfsM7 0x26 0x76 0x51 0x31 0), (0, 0xd0f589f6f9, .ldfdM7 0x39 0x5b 0x4f 0x58 3),
    (0, 0xd1364a2539, .ldfeSM7 0x39 0x14 0x51 0x64 3), (0, 0xd174e673ce, .ldf8SM7 0xe 0x4f 0x33 0x4e 3),
    (0, 0xd1a1779a8c, .ldfsSM7 0xc 0x6a 0x3c 0x17 2), (0, 0xd1e786614d, .ldfdSM7 0xd 5 0x33 0x78 2),
    (0, 0xd200f5ac4a, .ldfeAM7 0xa 0x31 0x2d 0xf 0), (0, 0xd2768b9f0f, .ldf8AM7 0xf 0x7c 0x5c 0x68 3),
    (0, 0xd2b47e214c, .ldfsAM7 0xc 5 0x71 0x47 3), (0, 0xd2f55095b0, .ldfdAM7 0x30 0x56 4 0x55 3),
    (0, 0xd314c623d4, .ldfeSaM7 0x14 0xf 0x31 0x4c 1), (0, 0xd3563a1b23, .ldf8SaM7 0x23 0x6c 0x50 0x63 1),
    (0, 0xd384a4ed69, .ldfsSaM7 0x29 0x35 0x27 0x4a 0), (0, 0xd3d2fa8c5b, .ldfdSaM7 0x1b 0x31 0x54 0x2f 1),
    (0, 0xd80022ce20, .ldfeCClrM7 0x20 0x38 0x16 2 0), (0, 0xd843b7dfa7, .ldf8CClrM7 0x27 0x7e 0x3e 0x3b 0),
    (0, 0xd8b639f85c, .ldfsCClrM7 0x1c 0x61 0x4f 0x63 3), (0, 0xd8d672dadd, .ldfdCClrM7 0x1d 0x6b 0x16 0x67 1),
    (0, 0xd911010359, .ldfeCNcM7 0x19 0xd 8 0x10 1), (0, 0xd956616b9b, .ldf8CNcM7 0x1b 0x2e 0xb 0x66 1)] = true := by
  decide +kernel

/-- Rows of the M unit, part 4. -/
theorem test_decode_m4 : decodes .m [
    (0, 0xd9805a9060, .ldfsCNcM7 0x20 0x41 0x54 5 0), (0, 0xd9e7614428, .ldfdCNcM7 0x28 0x10 0xa 0x76 2),
    (0, 0xd6c41b98d4, .ldfFillM7 0x14 0x63 0x5c 0x41 0), (0, 0xe03c0f3803, .ldfeM8 3 0x60 0x40 3 0xf9),
    (0, 0xe07839c472, .ldf8M8 0x32 0x11 3 3 0xce), (0, 0xe0868fb62e, .ldfsM8 0x2e 0x58 0x68 0 0x7d),
    (0, 0xf0fa4cafb8, .ldfdM8 0x38 0x3e 0x24 3 0x1e5), (0, 0xf1264115ca, .ldfeSM8 0xa 0x57 0x64 2 0x108),
    (0, 0xe174e52b35, .ldf8SM8 0x35 0x2c 0x4e 3 0x29), (0, 0xf1b23253b9, .ldfsSM8 0x39 0x4e 0x23 3 0x112),
    (0, 0xe1f7b97010, .ldfdSM8 0x10 0x40 0x7b 3 0x4b), (0, 0xe204009390, .ldfeAM8 0x10 0x4e 0x40 0 4),
    (0, 0xf24b3465cc, .ldf8AM8 0xc 0x17 0x33 0 0x1a3), (0, 0xe29f2c8a6b, .ldfsAM8 0x2b 0x29 0x72 1 0xe4),
    (0, 0xe2ee2da390, .ldfdAM8 0x10 0xe 0x62 2 0xed), (0, 0xf31ef95ed7, .ldfeSaM8 0x17 0x7b 0x6f 1 0x1ca),
    (0, 0xe34f289c2c, .ldf8SaM8 0x2c 0x70 0x72 0 0xc4), (0, 0xf3a3243b68, .ldfsSaM8 0x28 0x6d 0x32 2 0x121),
    (0, 0xe3e2f55f98, .ldfdSaM8 0x18 0x7e 0x2f 2 0x2a), (0, 0xe80b8be2b0, .ldfeCClrM8 0x30 0xa 0x38 0 0xdf),
    (0, 0xf87254e1bd, .ldf8CClrM8 0x3d 6 0x25 3 0x127), (0, 0xf8bfda9ee8, .ldfsCClrM8 0x28 0x7b 0x7d 3 0x1d4),
    (0, 0xf8c5d38a39, .ldfdCClrM8 0x39 0x28 0x5d 0 0x11c), (0, 0xe924e82949, .ldfeCNcM8 9 0x25 0x4e 2 0x41),
    (0, 0xe94069dc97, .ldf8CNcM8 0x17 0x72 6 0 0x4e), (0, 0xe98825a169, .ldfsCNcM8 0x29 5 2 0 0xad),
    (0, 0xf9d4268353, .ldfdCNcM8 0x13 0xd 0x42 1 0x134), (0, 0xe6c4b9e9a5, .ldfFillM8 0x25 0x26 0x4b 0 0x4f),
    (0, 0xcc01478035, .stfeM9 0x35 0x3c 0x14 0 0), (0, 0xcc61fcc03b, .stf8M9 0x3b 0x66 0x1f 2 0),
    (0, 0xcca081801c, .stfsM9 0x1c 0xc 8 2 0), (0, 0xccd64aa037, .stfdM9 0x37 0x55 0x64 1 0),
    (0, 0xcec7b42033, .stfSpillM9 0x33 0x21 0x7b 0 0), (0, 0xec3c7d34a9, .stfeM10 0x29 0x69 0x47 3 0xd2),
    (0, 0xfc7cd70fe5, .stf8M10 0x25 0x38 0x4d 3 0x1bf), (0, 0xec8732b10f, .stfsM10 0xf 0x15 0x73 0 0x44),
    (0, 0xecc1767d01, .stfdM10 1 0x33 0x17 0 0x74), (0, 0xfee811be31, .stfSpillM10 0x31 0xd 1 2 0x1f8),
    (0, 0xc06996848c, .ldfp8M11 0xc 0x12 0x34 0x19 2), (0, 0xc0ad2814a6, .ldfpsM11 0x26 0x52 0x40 0x52 2),
    (0, 0xc0e969da1a, .ldfpdM11 0x1a 0x68 0x4e 0x16 2), (0, 0xc14d04c213, .ldfp8SM11 0x13 8 0x26 0x50 0),
    (0, 0xc19e4b9c7f, .ldfpsSM11 0x3f 0x71 0x5c 0x64 1), (0, 0xc1fb00112d, .ldfpdSM11 0x2d 0x44 0 0x30 3),
    (0, 0xc24bbe97db, .ldfp8AM11 0x1b 0x5f 0x74 0x3b 0), (0, 0xc2896734ef, .ldfpsAM11 0x2f 0x53 0x39 0x16 0),
    (0, 0xc2e9d4237f, .ldfpdAM11 0x3f 0xd 0x21 0x1d 2), (0, 0xc36f2543c2, .ldfp8SaM11 2 0xf 0x2a 0x72 2),
    (0, 0xc39ecf163b, .ldfpsSaM11 0x3b 0x58 0x78 0x6c 1), (0, 0xc3ed1441ad, .ldfpdSaM11 0x2d 6 0x22 0x51 2),
    (0, 0xc87e4aedeb, .ldfp8CClrM11 0x2b 0x37 0x57 0x64 3), (0, 0xc8aa543f21, .ldfpsCClrM11 0x21 0x7c 0x21 0x25 2),
    (0, 0xc8c9be5efb, .ldfpdCClrM11 0x3b 0x7b 0x72 0x1b 0), (0, 0xc959503038, .ldfp8CNcM11 0x38 0x40 1 0x15 1),
    (0, 0xc98dfd67b9, .ldfpsCNcM11 0x39 0x1e 0x6b 0x5f 0), (0, 0xc9df5be53c, .ldfpdCNcM11 0x3c 0x14 0x5f 0x75 1),
    (0, 0xd06aa63c0c, .ldfp8M12 0xc 0x70 0x31 0x2a 2), (0, 0xd0aede8c0f, .ldfpsM12 0xf 0x30 0x74 0x6d 2),
    (0, 0xd0fd5fb63a, .ldfpdM12 0x3a 0x58 0x7d 0x55 3), (0, 0xd17bc7913e, .ldfp8SM12 0x3e 0x44 0x3c 0x3c 3)] = true := by
  decide +kernel

/-- Rows of the M unit, part 5. -/
theorem test_decode_m5 : decodes .m [
    (0, 0xd18ed01661, .ldfpsSM12 0x21 0x59 0 0x6d 0), (0, 0xd1e9db9e9b, .ldfpdSM12 0x1b 0x7a 0x5c 0x1d 2),
    (0, 0xd259bca9f8, .ldfp8AM12 0x38 0x27 0x65 0x1b 1), (0, 0xd2bc8132a7, .ldfpsAM12 0x27 0x4a 9 0x48 3),
    (0, 0xd2c830848a, .ldfpdAM12 0xa 0x12 4 3 0), (0, 0xd3594ed3c6, .ldfp8SaM12 6 0x4f 0x76 0x14 1),
    (0, 0xd3883b24be, .ldfpsSaM12 0x3e 0x12 0x59 3 0), (0, 0xd3ed2b0442, .ldfpdSaM12 2 0x11 0x58 0x52 2),
    (0, 0xd84de11642, .ldfp8CClrM12 2 0x59 8 0x5e 0), (0, 0xd89e197b44, .ldfpsCClrM12 4 0x6d 0x4b 0x61 1),
    (0, 0xd8ee8f5a0c, .ldfpdCClrM12 0xc 0x68 0x7a 0x68 2), (0, 0xd97f011579, .ldfp8CNcM12 0x39 0x55 8 0x70 3),
    (0, 0xd99f8b7d70, .ldfpsCNcM12 0x30 0x75 0x5b 0x78 1), (0, 0xd9c9a347c6, .ldfpdCNcM12 6 0x1f 0x1a 0x1a 0),
    (0, 0xcb70401002, .lfetchExclM13 2 4 3 1), (0, 0xcbb670103a, .lfetchFaultM13 0x3a 0x67 3 1),
    (0, 0xcbf6901005, .lfetchFaultExclM13 5 0x69 3 1), (0, 0xcb12400028, .lfetchM51 0x28 0x24 1 0),
    (0, 0xcb30cb1348, .lfetchCountM52 8 0xc 3 0x18 1 0xd), (0, 0xdb12b50012, .lfetchM14 0x12 0x28 0x2b 1 0),
    (0, 0xdb72058001, .lfetchExclM14 1 0x2c 0x20 3 0), (0, 0xdb961b7003, .lfetchFaultM14 3 0x5b 0x61 1 1),
    (0, 0xdbe7bc5014, .lfetchFaultExclM14 0x14 0x62 0x7b 2 1), (0, 0xfb16cc901e, .lfetchM15 0x1e 0x6c 1 1 0x164),
    (0, 0xfb5035901a, .lfetchExclM15 0x1a 3 1 1 0x12c), (0, 0xfb85ab701e, .lfetchFaultM15 0x1e 0x5a 0 1 0x15b),
    (0, 0xfbc692b037, .lfetchFaultExclM15 0x37 0x69 0 1 0x115), (0, 0x801998601b, .cmpxchg1AcqM16 0x1b 0 0x43 0x19 1),
    (0, 0x81086fb830, .cmpxchg1RelM16 0x30 0x60 0x7d 6 0), (0, 0x822be18f96, .xchg1M16 0x16 0x3e 0xc 0x3e 2),
    (0, 0x805fb2fa72, .cmpxchg2AcqM16 0x32 0x69 0x17 0x7b 1),
    (0, 0x816eaf4b25, .cmpxchg2RelM16 0x25 0x2c 0x7a 0x6a 2), (0, 0x82594f1250, .xchg2M16 0x10 0x49 0x78 0x14 1),
    (0, 0x808d9f06f4, .cmpxchg4AcqM16 0x34 0x1b 0x78 0x59 0), (0, 0x81af81c55f, .cmpxchg4RelM16 0x1f 0x15 0xe 0x78 2),
    (0, 0x82be47c2b1, .xchg4M16 0x31 0xa 0x3e 0x64 3), (0, 0x80e8dc91ec, .cmpxchg8AcqM16 0x2c 0x47 0x64 0xd 2),
    (0, 0x81fb318b54, .cmpxchg8RelM16 0x14 0x2d 0xc 0x33 3), (0, 0x82cdfe3c99, .xchg8M16 0x19 0x72 0x71 0x5f 0),
    (0, 0x88183a5c5b, .cmp8xchg16AcqM16 0x1b 0x71 0x52 3 1),
    (0, 0x893b64298d, .cmp8xchg16RelM16 0xd 0x26 0x21 0x36 3), (0, 0x849950f022, .fetchadd4AcqM17 0x22 0x40 0x15 1 7),
    (0, 0x84df804768, .fetchadd8AcqM17 0x28 0x1d 0x78 1 2), (0, 0x85bd80d826, .fetchadd4RelM17 0x26 0x60 0x58 3 6),
    (0, 0x85dca08b02, .fetchadd8RelM17 2 0x2c 0x4a 1 4), (0, 0xc708073af7, .setfSigM18 0x37 0x6b 0x39),
    (0, 0x87080bd1aa, .getfSigM19 0x2a 0x46 0x5e), (0, 0xc748076554, .setfExpM18 0x14 0x15 0x3b),
    (0, 0x87480c561c, .getfExpM19 0x1c 0x58 0x62), (0, 0xc78803b290, .setfSM18 0x10 0x4a 0x1d),
    (0, 0x8788076a88, .getfSM19 8 0x2a 0x3b), (0, 0xc7c80b3c69, .setfDM18 0x29 0x71 0x59),
    (0, 0x87c803100f, .getfDM19 0xf 0x40 0x18), (0, 0x336804da51, .chkSMM20 0x11 0x26 0x1b4069),
    (0, 0x277259e4f5, .chkSM21 0x35 0x4f 0xb9293), (0, 0x18a73327fe, .chkANcM22 0x3e 0x1f 0x153999),
    (0, 0xa5264b0a6, .chkAClrM22 0x26 0x42 0x29325), (0, 0x1c60e86a4f, .chkANcM23 0xf 0x29 0x130743),
    (0, 0x1f751c7f10, .chkAClrM23 0x10 0x7c 0x1ba8e3), (0, 0x8000003f, .invalaM24 0x3f)] = true := by
  decide +kernel

/-- Rows of the M unit, part 6. -/
theorem test_decode_m6 : decodes .m [
    (0, 0x100000006, .fwbM24 6), (0, 0x11000000a, .mfM24 0xa), (0, 0x11800003d, .mfAM24 0x3d),
    (0, 0x18000002a, .srlzDM24 0x2a), (0, 0x188000006, .srlzIM24 6), (0, 0x19800000c, .syncIM24 0xc),
    (0, 0x60000000, .flushrsM25), (0, 0x50000000, .loadrsM25), (0, 0x900004d8, .invalaEM26 0x18 0x13),
    (0, 0x980004be, .invalaEM27 0x3e 0x12), (0, 0x2182600032, .fcM28 0x32 0x26), (0, 0x318260002e, .fcIM28 0x2e 0x26),
    (0, 0x215194601b, .movMToArM29 0x1b 0x23 0x19), (0, 0x114511a006, .movMToArImmM30 6 0x51 0x8d),
    (0, 0x2117100691, .movMFromArM31 0x11 0x1a 0x71), (0, 0x2160476018, .movToCrM32 0x18 0x3b 4),
    (0, 0x2126d00cc0, .movFromCrM33 0 0x33 0x6d), (0, 0x2c59c80df2, .allocM34 0x32 0x37 0xb 0x1c 0x40),
    (0, 0x21680a003e, .movToPsrLM35 0x3e 0x50), (0, 0x2148076012, .movToPsrUmM35 0x12 0x3b),
    (0, 0x2128000481, .movFromPsrM36 1 0x12), (0, 0x2108001350, .movFromPsrUmM36 0x10 0x4d),
    (0, 0x5a66f, .breakMM37 0x2f 0x1699), (0, 0x21c6de87ef, .probeRM38 0x2f 0x1f 0x74 0x6d),
    (0, 0x21ccb9365b, .probeWM38 0x1b 0x59 0x49 0x4b), (0, 0x20c35074af, .probeRM39 0x2f 0x52 0x35 3),
    (0, 0x20cdc0554e, .probeWM39 0xe 0x55 0x5c 2), (0, 0x218f006038, .probeRwFaultM40 0x38 0x70 3),
    (0, 0x2195904029, .probeRFaultM40 0x29 0x59 2), (0, 0x2199d04036, .probeWFaultM40 0x36 0x1d 2),
    (0, 0x21700a400b, .itcDM41 0xb 0x52), (0, 0x2178074007, .itcIM41 7 0x3a),
    (0, 0x200215001b, .movToRrM42 0x1b 0x28 0x21), (0, 0x2008cb2028, .movToDbrM42 0x28 0x59 0xc),
    (0, 0x2011f6a039, .movToIbrM42 0x39 0x35 0x1f), (0, 0x201db66032, .movToPkrM42 0x32 0x33 0x5b),
    (0, 0x20214a002d, .movToPmcM42 0x2d 0x50 0x14), (0, 0x202b6d8010, .movToPmdM42 0x10 0x6c 0x36),
    (0, 0x207027401e, .itrDM42 0x1e 0x3a 2), (0, 0x207b4da027, .itrIM42 0x27 0x6d 0x34),
    (0, 0x20854015a1, .movFromRrM43 0x21 0x56 0x54), (0, 0x2089701bfb, .movFromDbrM43 0x3b 0x6f 0x17),
    (0, 0x20929014f9, .movFromIbrM43 0x39 0x53 0x29), (0, 0x209b100071, .movFromPkrM43 0x31 1 0x31),
    (0, 0x20a7400fb5, .movFromPmcM43 0x35 0x3e 0x74), (0, 0x20a840037e, .movFromPmdM43 0x3e 0xd 4),
    (0, 0x20b9b01150, .movFromCpuidM43 0x10 0x45 0x1b), (0, 0x21064016ca, .movFromDahrM43 0xa 0x5b 0x64),
    (0, 0x1024275cfc, .sumM44 0x3c 0x909d73), (0, 0x1ac98b316, .rumM44 0x16 0x7262cc),
    (0, 0x1035bd059d, .ssmM44 0x1d 0x96f416), (0, 0x103d1d351e, .rsmM44 0x1e 0x9474d4),
    (0, 0x204afd4032, .ptcLM45 0x32 0x6a 0x2f), (0, 0x2053456021, .ptcGM45 0x21 0x2b 0x34),
    (0, 0x205baf202f, .ptcGaM45 0x2f 0x79 0x3a), (0, 0x20657fc00d, .ptrDM45 0xd 0x7e 0x57),
    (0, 0x206c16400b, .ptrIM45 0xb 0x32 0x41), (0, 0x20d0f01df0, .thashM46 0x30 0x77 0xf),
    (0, 0x20dce01fae, .ttagM46 0x2e 0x7e 0x4e), (0, 0x20f0701456, .tpaM46 0x16 0x51 7)] = true := by
  decide +kernel

/-- Rows of the M unit, part 7. -/
theorem test_decode_m7 : decodes .m [
    (0, 0x20fb0008d0, .takM46 0x10 0x23 0x30), (0, 0x21a0700019, .ptcEM47 0x19 7), (0, 0x9aca0c0, .nopMM48 0 0x6b283),
    (0, 0xe83a2fa, .hintMM49 0x3a 0x283ab), (0, 0x100d21f46b, .movToDahrImmM50 0x2b 2 0xa1f1)] = true := by
  decide +kernel

/-- Rows of the F unit, part 1. -/
theorem test_decode_f1 : decodes .f [
    (0, 0x10fc33bc98e, .fmaF1 0xe 0x26 0x5e 0x33 0x78 3), (0, 0x11f37f39f21, .fmaSF1 0x21 0x7c 0x1c 0x7f 0x66 3),
    (0, 0x12c81536ed9, .fmaDF1 0x19 0x3b 0x1b 0x15 0x10 3), (0, 0x1328e6ce231, .fpmaF1 0x31 8 0x67 0x66 0x51 0),
    (0, 0x14ce5c8f49e, .fmsF1 0x1e 0x52 0x47 0x5c 0x1c 3), (0, 0x15e8d55a4bd, .fmsSF1 0x3d 0x12 0x2d 0x55 0x51 3),
    (0, 0x16ddb4d1974, .fmsDF1 0x34 0x65 0x68 0x34 0x3b 3), (0, 0x17c8538d852, .fpmsF1 0x12 0x61 0x46 0x53 0x10 3),
    (0, 0x1836645af35, .fnmaF1 0x35 0x3c 0x2d 0x64 0x6c 0), (0, 0x19d05761691, .fnmaSF1 0x11 0x5a 0x30 0x57 0x20 3),
    (0, 0x1ac03d2f59b, .fnmaDF1 0x1b 0x56 0x17 0x3d 0 3), (0, 0x1b8fad479ae, .fpnmaF1 0x2e 0x66 0x23 0x2d 0x1f 2),
    (0, 0x1d1b3e7aa53, .xmaLF2 0x13 0x29 0x3d 0x3e 0x36), (0, 0x1db95415467, .xmaHuF2 0x27 0x51 0xa 0x54 0x72),
    (0, 0x1df6a6ec4d7, .xmaHF2 0x17 0x13 0x76 0x26 0x6d), (0, 0x1c2469141d8, .fselectF3 0x18 7 0xa 0x69 0x48),
    (0, 0x89911f0539, .fcmpEqF4 0x39 0x14 0x32 0x78 0x11 2), (0, 0x89401955b5, .fcmpEqUncF4 0x35 0x16 0x28 0x4a 1 2),
    (0, 0x95e5312340, .fcmpLtF4 0 0xd 0x3c 9 0x53 1), (0, 0x9c31295990, .fcmpLtUncF4 0x10 0x26 6 0x4a 0x12 3),
    (0, 0x8f8ac722ce, .fcmpLeF4 0xe 0xb 0x31 0x39 0x2c 3), (0, 0x8bce567349, .fcmpLeUncF4 9 0xd 0x39 0x33 0x65 2),
    (0, 0x9fccdb09ca, .fcmpUnordF4 0xa 0x27 0x39 0x58 0x4d 3),
    (0, 0x9b572e7172, .fcmpUnordUncF4 0x32 5 0x2a 0x73 0x72 2),
    (0, 0xa3a994ca32, .fclassMF5 0x32 0x28 0x35 0x26 0x65), (0, 0xa70de1536c, .fclassMUncF5 0x2c 0xd 0x21 0xa 0x17b),
    (0, 0x35471dc1c, .frcpaF6 0x1c 0x2a 0x70 0xe 0x47 0), (0, 0x26d11d2750, .fprcpaF6 0x10 0x1a 0x1d 0x69 0x11 1),
    (0, 0x171bd001df, .frsqrtaF7 0x1f 0x23 7 0x3d 1), (0, 0x324be01679, .fprsqrtaF7 0x39 9 0x59 0x3e 0),
    (0, 0xca4c8a55f, .fminF8 0x1f 0x15 0x45 0x4c 3), (0, 0x4aeb2802f, .fmaxF8 0x2f 0 0x14 0x6b 1),
    (0, 0x8b3f9165d, .faminF8 0x1d 0x59 0x48 0x3f 2), (0, 0x4baf77ad2, .famaxF8 0x12 0x6b 0x3b 0x2f 1),
    (0, 0x20a56f5fda, .fpminF8 0x1a 0x7f 0x7a 0x56 0), (0, 0x28ad15d44b, .fpmaxF8 0xb 0x51 0x2e 0x51 2),
    (0, 0x28b059c081, .fpaminF8 1 2 0x4e 5 2), (0, 0x2cbaaffdef, .fpamaxF8 0x2f 0x77 0x7f 0x2a 3),
    (0, 0x2583d8233e, .fpcmpEqF8 0x3e 0xc 0x41 0x3d 1), (0, 0x2188425cb0, .fpcmpLtF8 0x30 0x72 0x12 4 0),
    (0, 0x25910a0d6d, .fpcmpLeF8 0x2d 0x35 0x50 0x10 1), (0, 0x259aea9b86, .fpcmpUnordF8 6 0x6e 0x54 0x2e 1),
    (0, 0x2da46878de, .fpcmpNeqF8 0x1e 0x63 0x43 0x46 3), (0, 0x25ab7486ba, .fpcmpNltF8 0x3a 0x1a 0x24 0x37 1),
    (0, 0x2db068c81b, .fpcmpNleF8 0x1b 0x20 0x46 6 3), (0, 0x25be95a952, .fpcmpOrdF8 0x12 0x25 0x2d 0x69 1),
    (0, 0x87d80a99, .fmergeSF9 0x19 0x2a 0x40 0x7d), (0, 0x8ac81bd1, .fmergeNsF9 0x11 0x6f 0x40 0x2c),
    (0, 0x93fa66be, .fmergeSeF9 0x3e 0x1a 0x53 0x3f), (0, 0x1c98543f2, .fmixLrF9 0x32 0xf 0x2a 0x18),
    (0, 0x1d104d6d4, .fmixRF9 0x14 0x5b 0x26 0x10), (0, 0x1d8ba3f25, .fmixLF9 0x25 0x7c 0x51 0xb),
    (0, 0x1e330bff2, .fsxtRF9 0x32 0x7f 5 0x33), (0, 0x1eb3e31ae, .fsxtLF9 0x2e 0x46 0x71 0x33),
    (0, 0x14330d262, .fpackF9 0x22 0x49 6 0x33), (0, 0x1a0500353, .fswapF9 0x13 0xd 0 5),
    (0, 0x1abceba4c, .fswapNlF9 0xc 0x69 0x75 0x3c), (0, 0x1b07a98a6, .fswapNrF9 0x26 0x62 0x54 7),
    (0, 0x1645e9032, .fandF9 0x32 0x40 0x74 0x45), (0, 0x16929cc27, .fandcmF9 0x27 0x30 0x4e 0x12)] = true := by
  decide +kernel

/-- Rows of the F unit, part 2. -/
theorem test_decode_f2 : decodes .f [
    (0, 0x1758b35a8, .forF9 0x28 0x56 0x59 0x58), (0, 0x178aafc26, .fxorF9 0x26 0x70 0x57 0xa),
    (0, 0x20851aa14d, .fpmergeSF9 0xd 5 0x55 0x51), (0, 0x20896c341d, .fpmergeNsF9 0x1d 0x50 0x61 0x16),
    (0, 0x2096f2f506, .fpmergeSeF9 6 0x54 0x17 0x6f), (0, 0xc00c6d42, .fcvtFxF10 2 0x35 0x63 0),
    (0, 0xc80a7dfa, .fcvtFxuF10 0x3a 0x77 0x53 0), (0, 0xd00d3bd7, .fcvtFxTruncF10 0x17 0x6f 0x69 0),
    (0, 0x8d808e9f2, .fcvtFxuTruncF10 0x32 0x27 0x47 2), (0, 0x20c004db90, .fpcvtFxF10 0x10 0x6e 0x26 0),
    (0, 0x20c805011a, .fpcvtFxuF10 0x1a 4 0x28 0), (0, 0x28d00a521b, .fpcvtFxTruncF10 0x1b 0x48 0x52 2),
    (0, 0x24d800dd3b, .fpcvtFxuTruncF10 0x3b 0x74 6 1), (0, 0xe000b0a4, .fcvtXfF11 0x24 0x42 5),
    (0, 0x263ce034, .fsetcF12 0x34 0 0x63 0x67), (0, 0x82800001a, .fclrfF13 0x1a 2),
    (0, 0xc41c92fec, .fchkfF14 0x2c 3 0x724bf), (0, 0x2b84804, .breakFF15 4 0xae120),
    (0, 0x100a5e2d98, .nopFF16 0x18 0x1978b6), (0, 0x100ea3393f, .hintFF16 0x3f 0x1a8ce4)] = true := by
  decide +kernel

/-- Rows of the B unit. -/
theorem test_decode_b1 : decodes .b [
    (0, 0x8318fd103e, .brCondB1 0x3e 0 1 1 0x8c7e8), (0, 0x85caa2a086, .brWexitB1 6 0 2 0 0xe5515),
    (0, 0x8804c680c9, .brWtopB1 9 1 0 0 0x2634), (0, 0x9deec52140, .brCloopB2 1 2 0 0x1f7629),
    (0, 0x983e214180, .brCexitB2 1 0 0 0x11f10a), (0, 0x83704ec1c0, .brCtopB2 0 1 0 0xb8276),
    (0, 0xa5d879b064, .brCallB3 0x24 1 0 2 1 0xec3cd), (0, 0xd00005003, .brCondB4 3 2 1 2 1),
    (0, 0x50000d06c, .brIaB4 0x2c 6 0 2 1), (0, 0xd08005105, .brRetB4 5 2 1 2 1),
    (0, 0x2f0000a0df, .brCallB5 0x1f 3 5 1 7 0), (0, 0xe805d64065, .brpB6 1 1 0 5 0x2eb2 1),
    (0, 0x488000ec7c, .brpB7 7 1 1 3 4 0x31), (0, 0x4688005bb1, .brpRetB7 2 0 1 2 1 0x1ee), (0, 0x10000000, .coverB8),
    (0, 0x20000000, .clrrrbB8), (0, 0x28000000, .clrrrbPrB8), (0, 0x40000000, .rfiB8), (0, 0x60000000, .bsw0B8),
    (0, 0x68000000, .bsw1B8), (0, 0x80000000, .epcB8), (0, 0xc0000000, .vmsw0B8), (0, 0xc8000000, .vmsw1B8),
    (0, 0x26f9035, .breakBB9 0x35 0x9be40), (0, 0x4001786303, .nopBB9 3 0x5e18c),
    (0, 0x500ae93bbc, .hintBB9 0x3c 0x1ba4ee)] = true := by
  decide +kernel

/-- Rows of the X unit. -/
theorem test_decode_x1 : decodes .x [
    (0x15a7844f240, 0x94625c, .breakXX1 0x1c 0x2b4f089e48025189),
    (0x1e85cfef954, 0xca116cd9bd, .movlX2 0x3d 0x66 0x7a173fbe5525a166),
    (0x1e1cf9f2574, 0x1928b41101a, .brlCondX3 0x1a 0 1 1 0xf873e7c95d45a08),
    (0x13c3e17d66c, 0x1abf2a9a1b2, .brlCallX4 0x32 6 1 1 0 0x4f0f85f59bf954d),
    (0x19ab4093893, 0x100a664ce9, .nopXX5 0x29 0x3356812712799933),
    (0x136de9b5dec, 0x100fe8e815, .hintXX5 0x15 0x26dbd36bbd9fa3a0)] = true := by
  decide +kernel

/-! ### Witnesses: states and operands that meet the hypotheses of the statements, clause by clause -/

/-- With a frame of 96 registers. -/
def wide : State := frame 96 90 12 mem0
/-- At privilege level 3. -/
def user : State := psr 0x300000000 mem0
/-- A page of 4 kilobytes at virtual 0x2000 to physical 0x2000, every right, key 5. -/
def page : TlbEntry :=
  { p := true, ma := 0, a := true, d := true, pl := 3, ar := 3, ppn := 2, ed := false, ps := 12, key := 5, vpn := 2, rid := 0 }
/-- Data translation on; the page in the data TC. -/
def mapped : State := psr 0x20000 { mem0 with dtc := [page] }
/-- PSR.ic is 0. -/
def collecting : State := { mem0 with psr := 0x0000140000000000 }
/-- ReadyGr at both ends of a frame. -/
theorem test_witness_ready_gr : ReadyGr base 0 1 ∧ ReadyGr base 0 31 ∧ ReadyGr wide 0 127 ∧ ReadyGr wide 0 32 := by
  refine ⟨⟨?_, ?_, ?_⟩, ⟨?_, ?_, ?_⟩, ⟨?_, ?_, ?_⟩, ?_, ?_, ?_⟩ <;> decide +kernel

/-- Bounds of ShiftedAndDepositedBits and ParallelInstructionsWriteResult: the last bit, one-bit fields, full width. -/
theorem test_witness_bit_positions : (63 : Nat) < 64 ∧ (0 : Nat) < 1 ∧ (0 : Nat) < 64 ∧ (64 : Nat) ≤ 64 ∧
    (7 : Nat) < 8 ∧ (3 : Nat) < 4 ∧ (1 : Nat) < 2 ∧ (2 : BitVec 2) ≠ 3 ∧ (permuteBytes 0 5).isSome = true ∧
    (permuteBytes 11 5).isSome = true ∧ (7 : BitVec 4) ∉ [(0 : BitVec 4), 8, 9, 10, 11] ∧
    (12 : BitVec 4) ∉ [(0 : BitVec 4), 8, 9, 10, 11] := by
  decide +kernel

/-- ComparesWritePredicates, BitTestsWritePredicates, UnconditionalComparesClear: both kinds of predicate pair. -/
theorem test_witness_compares : base.prBit 0 = true ∧ base.psrBit Psr.ss = false ∧ (0 : BitVec 6) ≠ 63 ∧
    base.prBit 1 = false ∧ (pr 63 true base).prBit 63 = true := by
  decide +kernel

/-- The translation of GR3 with translation off, of a reference of `n` bytes. -/
def flat (n : Nat) : Translation := ⟨0x2000, maWb, 0x2000, n, none⟩

/-- What the walker finds for virtual 0x5000 in the VHPT of `walking`: a page of 8 kilobytes that is not present. -/
def absent : TlbEntry :=
  { p := false, ma := 0, a := false, d := false, pl := 0, ar := 0, ppn := 0, ed := false, ps := 13, key := 0, vpn := 5, rid := 0 }
/-- The VHPT walker enabled, its table at virtual and physical 0x8000; GR3 holds 0x5000. -/
def walking : State := gr 3 0x5000 { mapped with
  cr := { mapped.cr with pta := 0x803D }, rr := mapped.rr.set 0 0x35, dtc := [{ page with ppn := 8, vpn := 8 }] }
/-- A translation register on the other half of the walked page. -/
def blocked : State := { walking with dtr := walking.dtr.set 7 (some { page with vpn := 4 }) }
/-- The same with PSR.ic 0. -/
def nested : State := { walking with psr := 0x0000140000020000 }

/-- LoadsReadMemory: a plain, a speculative, an advanced and a check load, big-endian too, and through the TLB. -/
theorem test_witness_loads : mem0.badTarget 1 = false ∧ mem0.badTarget 3 = false ∧ mem0.grLoc 1 ≠ mem0.grLoc 3 ∧
    LoadReads mem0 .normal 0 3 (mem0.loadRef .normal 8 8) (flat 8) ∧ LoadReads mem0 .s 0 3 (mem0.loadRef .s 1 1) (flat 1) ∧
    LoadReads mem0 .a 0 3 (mem0.loadRef .a 2 2) (flat 2) ∧ LoadReads (psr 2 mem0) .sa 0 3 (mem0.loadRef .sa 4 4) (flat 4) ∧
    LoadReads mem0 .cNc 0 3 (mem0.loadRef .cNc 8 8) (flat 8) ∧
    LoadReads mapped .normal 0 3 (mapped.loadRef .normal 8 8) (flat 8) := by
  refine ⟨by decide +kernel, by decide +kernel, by decide +kernel, ?_, ?_, ?_, ?_, ?_, ?_⟩ <;>
    (unfold LoadReads; decide +kernel)

/-- The Illegal Operation clauses of the statements: GR0 and a register outside the frame; the last register inside it. -/
theorem test_witness_bad_targets : NoTarget base 0 ∧ NoTarget base 127 ∧ NoTarget (frame 95 0 0 base) 127 ∧
    ¬ NoTarget wide 127 ∧ ¬ NoTarget base 31 ∧ base.prBit 0 = true := by
  simp only [NoTarget]
  decide +kernel

/-- Data translation to the page with the attribute `ma`. -/
def mappedAs (ma : BitVec 3) : State := { mapped with dtc := [{ page with ma := ma }] }

/-- SpeculativeLoadsDefer with PSR.ic = 1: a page that may not be read speculatively, of a speculative and of an advanced
load; a NaTPage; and a fault that is not deferred. -/
theorem test_witness_page_deferral : (mappedAs 4).psrBit Psr.ic = true ∧ (mappedAs 4).psrBit Psr.ed = false ∧
    ((mappedAs 4).gr 3).nat = false ∧ (mappedAs 4).checkWalk false none = .ok () ∧ maSpeculative 4 = false ∧
    (mappedAs 4).translate true 0x2000 ((mappedAs 4).loadRef .s 8 8) = .ok { flat 8 with ma := 4 } ∧
    (mappedAs 4).translate true 0x2000 ((mappedAs 4).loadRef .a 8 8) = .ok { flat 8 with ma := 4 } ∧
    LdType.a.advanced = true ∧ LdType.a.speculative = false ∧ (Instr.ld8AM1, LdType.a, false, 8) ∈ loadForms ∧
    (Instr.ldf8AM6, LdType.a, FpFormat.integer) ∈ fpLoadForms ∧ (Instr.ldfp8AM11, LdType.a, FpFormat.integer) ∈ pairForms ∧
    (∃ x, (mappedAs 7).translate true 0x2000 ((mappedAs 7).loadRef .s 8 8) = .error ⟨x, none⟩ ∧
      x.vector = .natConsumption ∧ x.code = 0x20) ∧
    ∃ x, (psr 0x20000 mem0).translate true 0x2000 (mem0.loadRef .s 8 8) = .error x ∧
      ¬ (x.fault.vector = .natConsumption ∧ x.fault.code = 0x20) := by
  refine ⟨by decide +kernel, by decide +kernel, by decide +kernel, by decide +kernel, by decide +kernel, by decide +kernel,
    by decide +kernel, by decide, by decide, by simp [loadForms], by simp [fpLoadForms], by simp [pairForms],
    ⟨_, rfl, by decide +kernel⟩, _, rfl, by decide +kernel⟩

/-- SpeculativeLoadsDefer: a NaT base, PSR.ed, and a fault deferred with PSR.ic 0. -/
theorem test_witness_deferral : (Instr.ldf8SM6, LdType.s, FpFormat.integer) ∈ fpLoadForms ∧
    (Instr.ldf8SaM7, LdType.sa, FpFormat.integer) ∈ fpLoadRegForms ∧
    (Instr.ldf8SM8, LdType.s, FpFormat.integer) ∈ fpLoadImmForms ∧
    (Instr.ldfp8SM11, LdType.s, FpFormat.integer) ∈ pairForms ∧
    (Instr.ldfp8SaM12, LdType.sa, FpFormat.integer, (16 : Word)) ∈ pairUpdateForms ∧ (Instr.ld8SM1, LdType.s, false, 8) ∈ loadForms ∧
    (Instr.ld8SaM2, LdType.sa, false, 8) ∈ loadRegForms ∧ (Instr.ld8SM3, LdType.s, false, 8) ∈ loadImmForms ∧
    LdType.s.speculative = true ∧ LdType.sa.speculative = true ∧ ((nat 3 mem0).gr 3).nat = true ∧
    (psr 0x80000000000 mem0).psrBit Psr.ed = true ∧ collecting.psrBit Psr.ic = false ∧
    (nested.psrBit Psr.ic = false ∧ nested.psrBit Psr.ed = false ∧ (nested.gr 3).nat = false ∧
      nested.checkWalk false none = .ok () ∧ nested.checkWalk false (some absent) = .ok ()) ∧
    (∃ x, nested.translate (nested.psrBit Psr.dt) (nested.gr 3).val (nested.loadRef .s 8 8) = .error ⟨x, some absent⟩) ∧
    ∃ x, collecting.translate (collecting.psrBit Psr.dt) ((gr 3 0x2001 collecting).gr 3).val
      (collecting.loadRef .s 8 8) = .error ⟨x, none⟩ := by
  refine ⟨by simp [fpLoadForms], by simp [fpLoadRegForms], by simp [fpLoadImmForms], by simp [pairForms],
    by simp [pairUpdateForms], by simp [loadForms], by simp [loadRegForms], by simp [loadImmForms], by decide,
    by decide, by decide +kernel, by decide +kernel, by decide +kernel, by decide +kernel, ?_, ?_⟩
  · exact ⟨dataFault .pageNotPresent (nested.loadRef .s 8 8) 0x5000 (itir := some absent.itir), by decide +kernel⟩
  · exact ⟨_, rfl⟩

/-- MemoryFaultsAreTaken: bad targets, disabled partitions, NaT operands; a check load that misses; addresses that are
misaligned, that have no translation, and whose walk inserts an entry, over a translation register and not. -/
theorem test_witness_memory_faults : mem0.prBit 0 = true ∧ LdType.normal.speculative = false ∧
    LdType.cNc.isCheck = true ∧ mem0.alatCmp (mem0.alatGr 1) = false ∧ mem0.alatCmp (mem0.alatFr 8) = false ∧
    mem0.badTarget 0 = true ∧ mem0.badTarget 127 = true ∧ mem0.badTarget 1 = false ∧ mem0.badTarget 3 = false ∧
    (psr 0x40000 mem0).disabledCode [8] ≠ 0 ∧ (psr 0x80000 mem0).disabledCode [8, 127] ≠ 0 ∧ mem0.disabledCode [8, 9] = 0 ∧
    (2 : BitVec 7).getLsbD 0 = (126 : BitVec 7).getLsbD 0 ∧
    ((nat 3 mem0).gr 3).nat = true ∧ (mem0.gr 3).nat = false ∧ ((nat 2 mem0).gr 2).nat = true ∧ (mem0.gr 2).nat = false ∧
    mem0.translate false 0x2001 (mem0.loadRef .normal 8 8) =
      .error ⟨{ vector := .unalignedReference, access := { r := true }, ifa := some 0x2001 }, none⟩ ∧
    ([mem0.loadRef .normal 16 16, FpFormat.extended.ref (mem0.loadRef .normal 10 16), mem0.storeRef 1 1,
        mem0.storeRef 16 16, mem0.semaphoreRef 8].all fun r =>
      match (psr 0x20000 mem0).translate true 0x2000 r with
      | .error x => x.fault.vector == .alternateDataTlb | _ => false) = true ∧
    walking.translate (walking.psrBit Psr.dt) (walking.gr 3).val (walking.loadRef .normal 8 8) =
      .error ⟨dataFault .pageNotPresent (walking.loadRef .normal 8 8) 0x5000 (itir := some absent.itir), some absent⟩ ∧
    walking.checkWalk false (some absent) = .ok () ∧ blocked.checkWalk false (some absent) ≠ .ok () := by
  decide +kernel

/-- MemoryFaultsAreTaken, ProbesReportAccess, TranslationQueries: a data reference that meets each fault of R210, and none; a
page that the walker finds, and a page word that it cannot insert. -/
theorem test_witness_data_references :
    let stops (s : State) (va : Word) (r : Ref) (v : Ivt) : Bool :=
      match s.translate true va r with | .error x => x.fault.vector == v | _ => false
    let rd := mapped.loadRef .normal 8 8
    let wr := mapped.storeRef 8 8
    let at_ (e : TlbEntry) : State := { mapped with dtc := [e] }
    let keyed (k : Word) : State := psr 0x8000 { mapped with pkr := mapped.pkr.set 15 k }
    let breaking (ctl : Word) : State := psr 0x1000000 { mapped with dbr := (mapped.dbr.set 6 0x2007).set 7 ctl }
    mem0.translate false 0x7FFFFFFFFFFFFFF8 rd = .error ⟨unimplementedData rd.access, none⟩ ∧
    mem0.translate false 0x8000000000002000 rd = .ok ⟨0x8000000000002000, 4, 0x8000000000002000, 8, none⟩ ∧
    (psr 0x400000000000 mapped).translate true 0x0800000000000000 rd = .error ⟨unimplementedData rd.access, none⟩ ∧
    stops { mapped with psr := 0x0000140000020000 } 0x9000 rd .dataNestedTlb = true ∧
    stops mapped 0x9000 rd .alternateDataTlb = true ∧ stops { walking with dtc := [] } 0x5000 rd .vhptTranslation = true ∧
    stops (place 0x8010 [3] walking) 0x5000 rd .dataTlb = true ∧ tlbReserved 3 (walking.missItir 0x5000) = true ∧
    walking.findData (walking.vhptHash 0x5000) = some { page with ppn := 8, vpn := 8 } ∧
    walking.vhptHash 0x5000 = 0x8010 ∧ walking.cr.pta.getLsbD 8 = false ∧ walking.walkVhpt 0x5000 = .found absent ∧
    stops (at_ { page with p := false }) 0x2000 rd .pageNotPresent = true ∧
    stops (at_ { page with ma := 7 }) 0x2000 rd .natConsumption = true ∧
    stops (psr 0x8000 mapped) 0x2000 rd .dataKeyMiss = true ∧ stops (keyed 0x505) 0x2000 rd .keyPermission = true ∧
    stops (keyed 0x503) 0x2000 wr .keyPermission = true ∧ (keyed 0x503).translate true 0x2000 rd = .ok (flat 8) ∧
    stops (at_ { page with ar := 0 }) 0x2000 wr .dataAccessRights = true ∧
    stops (at_ { page with d := false }) 0x2000 wr .dirtyBit = true ∧
    stops (at_ { page with a := false }) 0x2000 rd .dataAccessBit = true ∧
    stops (breaking 0x81FFFFFFFFFFFFFF) 0x2000 rd .debug = true ∧
    (breaking 0x81FFFFFFFFFFFFFF).translate true 0x2000 wr = .ok (flat 8) ∧
    stops (breaking 0x81FFFFFFFFFFFFFF) 0x2000 { rd with pl := 3 } .debug = true ∧
    (breaking 0x88FFFFFFFFFFFFFF).translate true 0x2000 { rd with pl := 3 } = .ok (flat 8) ∧
    stops mapped 0x2001 rd .unalignedReference = true ∧
    stops (at_ { page with ma := 4 }) 0x2000 (mapped.semaphoreRef 8) .unsupportedDataReference = true := by
  decide +kernel

/-- The rights of those statements: every level, level 0 alone, no level above the page's. -/
theorem test_witness_rights : Grants page { r := true, w := true } 3 ∧ ¬ Grants { page with pl := 0 } { r := true } 1 ∧
    Grants { page with ar := 7 } { r := true } 0 ∧ ¬ Grants { page with ar := 7 } { r := true } 1 ∧
    Grants { page with ar := 5 } { w := true } 0 ∧ ¬ Grants { page with ar := 5 } { w := true } 3 := by
  simp +decide [Grants]

/-- StoresWriteMemory, SixteenByteAccesses, SemaphoresReadAndWrite, FpStoresWriteMemory. -/
theorem test_witness_stores : WriteReaches stores0 0 3 (stores0.storeRef 8 8) (flat 8) ∧
    WriteReaches (psr 2 stores0) 0 3 (stores0.storeRef 1 1) (flat 1) ∧
    WriteReaches stores0 0 3 { stores0.storeRef 16 16 with cacheableOnly := true } (flat 16) ∧
    WriteReaches stores0 0 3 (stores0.semaphoreRef 8) (flat 8) ∧
    WriteReaches stores0 0 3 (FpFormat.extended.ref (stores0.storeRef 10 16)) (flat 10) ∧
    (stores0.gr 2).nat = false ∧ stores0.badTarget 3 = false ∧ stores0.badTarget 1 = false ∧
    ((nat 2 stores0).gr 2).nat = true ∧ stores0.blockOffset (0x2000 + 8) = none ∧
    stores0.blockOffset (0x2000 &&& ~~~(8 : Word)) = none ∧ physAddr (0x2000 + 8) = physAddr 0x2000 + 8 ∧
    LoadReads mem0 .normal 0 3 { mem0.loadRef .normal 16 16 with cacheableOnly := true } (flat 16) := by
  refine ⟨?_, ?_, ?_, ?_, ?_, ?_⟩
  case' refine_6 => refine ⟨?_, ?_, ?_, ?_, ?_, ?_, ?_, ?_⟩
  all_goals first | (unfold WriteReaches; decide +kernel) | (unfold LoadReads; decide +kernel) | decide +kernel

/-- FpLoadsReadMemory, FpPairLoadsReadMemory, FpStoresWriteMemory, RegisterFileMoves: the registers at both ends. -/
theorem test_witness_fp_registers : FrOk mem0 2 ∧ FrOk mem0 127 ∧ (2 : BitVec 7).getLsbD 0 ≠ (127 : BitVec 7).getLsbD 0 ∧
    mem0.disabledCode [8] = 0 ∧ mem0.fpr 8 ≠ Fr.natVal ∧ LoadReads mem0 .normal 0 3 (mem0.loadRef .normal 16 16) (flat 16) ∧
    LoadReads mem0 .s 0 3 (mem0.loadRef .s 10 16) (flat 10) ∧ mem0.blockOffset (0x2000 + 8) = none ∧
    mem0.blockOffset (0x2000 + BitVec.ofNat 64 4) = none := by
  simp only [LoadReads, FrOk, and_assoc]
  decide +kernel

/-- FpMemoryFormats: a zero, a denormal, a normal number and an infinity of each format. -/
theorem test_witness_formats : (fld (0x00800000 : BitVec 32) 23 8 : BitVec 8) = 1 ∧
    (fld (0x7F7FFFFF : BitVec 32) 23 8 : BitVec 8) = 254 ∧ (fld (0x7F800000 : BitVec 32) 23 8 : BitVec 8) = 255 ∧
    (fld (0x00000001 : BitVec 32) 23 8 : BitVec 8) = 0 ∧ (fld (0x7FE0000000000000 : BitVec 64) 52 11 : BitVec 11) = 2046 ∧
    (fld (0xFFF0000000000000 : BitVec 64) 52 11 : BitVec 11) = 2047 ∧ (fld (1 : BitVec 64) 52 11 : BitVec 11) = 0 ∧
    (fld (0x7FFE8000000000000000 : BitVec 80) 64 15 : BitVec 15) = 32766 ∧
    (fld (0x7FFF8000000000000000 : BitVec 80) 64 15 : BitVec 15) = 32767 := by
  decide +kernel

/-- PrefetchesUpdateTheBase: lfetch.fault that finds a translation, one that overlaps a translation register, none, or does
not look; a NaT base. -/
theorem test_witness_prefetches :
    let r : Ref := { access := { r := true, na := true, naCode := 4 }, size := 1, align := 1, pl := 0 }
    mem0.translate false 0x2000 r = .ok (flat 1) ∧ (psr 0x80000000000 mem0).psrBit Psr.ed = true ∧
      mem0.psrBit Psr.ed = false ∧ (mem0.gr 3).nat = false ∧ mem0.badTarget 3 = false ∧
      mapped.translate true 0x2000 r = .ok (flat 1) ∧ ((nat 3 mem0).gr 3).nat = true ∧
      (match (place 0x8010 [0xE1, 0x47] blocked).translate true 0x5000 r with
        | .ok a => decide (blocked.checkWalk false a.walked ≠ .ok ()) | _ => false) = true ∧
      (match (psr 0x20000 mem0).translate true 0x2000 r with
        | .error x => x.fault.vector == .alternateDataTlb | _ => false) = true := by
  decide +kernel

/-- ChecksAndEntryInvalidation, InvalaEmptiesTheAlat: their conditions, with no entry of the register. -/
theorem test_witness_checks : base.psrBit Psr.ss = false ∧ base.psrBit Psr.tb = false ∧ base.disabledCode [8] = 0 ∧
    (psr 0x40000 base).disabledCode [8] ≠ 0 ∧ base.alatCmp (base.alatGr 1) = false ∧ base.prBit 0 = true ∧ base.prBit 1 = false ∧
    ({ base with alat := [entry 5] } : State).alatCmp (base.alatGr 1) = false := by
  decide +kernel

/-- The frame statements: frames with outputs, with rotation and at the full 96 registers; PFS with a lower level. -/
theorem test_witness_frames : Untrapped base ∧ wide.frameOk = true ∧ (frame 8 5 0 base).frameOk = true ∧
    8 * (frame 24 16 2 base).cfm.sor.toNat ≤ (frame 24 16 2 base).cfm.sol.toNat ∧
    (frame 24 16 2 base).frameOk = true ∧ base.psrBit Psr.lp = false ∧ fld base.ip 0 4 = (0 : BitVec 4) ∧
    (Cfm.ofBits (fld (0xC030000000000288 : Word) 0 38)).wf = true ∧
    base.restoreFatal 100 0 = false ∧ (Cfm.ofBits (fld (0x3200 : Word) 0 38)).wf = false ∧
    base.restoreFatal 0 100 = true ∧ base.ri = 2 ∧ State.reset.ri ≠ 2 ∧
    (0 : BitVec 2) < fld (0xC030000000000288 : Word) 62 2 := by
  simp only [Untrapped, and_assoc]
  decide +kernel

/-- A translation register that promotes, in a virtual machine environment. -/
def promoting : State := { base with
  psr := 0x0000141000002000
  itr := base.itr.set 0 (some { page with vpn := 1, pl := 0, ar := 7 })
  pal := { base.pal with features := 0x0040017700000000 } }

/-- FrameAndBankInstructions: with and without a stop, levels of epc, vmsw allowed. -/
theorem test_witness_frame_instructions : (stopped base).followedByStop = true ∧ base.followedByStop = false ∧
    ((stopped base).psrBit Psr.vm && !(stopped base).psrBit Psr.ic) = false ∧ base.cpl = 0 ∧
    base.psrBit Psr.vm = false ∧ base.psrBit Psr.it = false ∧ promoting.psrBit Psr.it = true ∧
    (fld user.ar.pfs 62 2 : BitVec 2) < user.cpl ∧ ¬ (fld base.ar.pfs 62 2 : BitVec 2) < base.cpl ∧
    promoting.vmswAllowed = true ∧ promoting.promotion = some { page with vpn := 1, pl := 0, ar := 7 } := by
  decide +kernel

/-- A guest at level 0: PSR.vm is 1. -/
def virtual (s : State) : State := psr 0x400000000000 s

/-- FrameAndBankInstructions: a guest; vmsw not allowed with the features on and off. -/
theorem test_witness_virtual_frames : (stopped (virtual collecting)).followedByStop = true ∧
    (virtual collecting).psrBit Psr.vm = true ∧ (virtual collecting).psrBit Psr.ic = false ∧ (virtual collecting).cpl = 0 ∧
    base.vmswAllowed = false ∧ base.pal.features.getLsbD 40 = true ∧
    ({ base with pal := { base.pal with features := 0 } } : State).vmswAllowed = false := by
  decide +kernel

/-- BranchToIa32: the mode with and without a predicate, with dirty registers, disabled, and another mode. -/
theorem test_witness_ia32 :
    let s := psr 0x1000020000 base
    s.psrBit Psr.ic = true ∧ s.psrBit Psr.dt = true ∧ s.psrBit Psr.it = true ∧ s.psrBit Psr.mc = false ∧
      s.ar.bspstore = s.ar.bsp ∧ s.psrBit Psr.di = false ∧ (psr 0x400000 s).psrBit Psr.di = true ∧
      Untrapped s ∧ (5 : BitVec 6) ≠ 0 ∧ base.psrBit Psr.dt = false := by
  simp only [Untrapped]
  decide +kernel

/-- BreaksTakeTheBreakFault, NoOperationsOnlyMoveOn, BranchAndPredicateMoves, PredicatedOffDoesNothing. -/
theorem test_witness_predication : base.prBit 0 = true ∧ base.prBit 6 = false ∧ base.psrBit Psr.ss = false ∧
    base.psrBit Psr.ic = true ∧ ((nat 2 base).gr 2).nat = true ∧ (base.gr 2).nat = false ∧
    (Instr.addA1 6 0 0 0).qualifier = some 6 ∧ (Instr.breakMM37 63 0).qualifier = some 63 ∧
    (stopped base).followedByStop = true := by
  decide +kernel

/-- ApplicationRegistersRead, ApplicationRegistersWritten: privilege, RSE mode, values without and with reserved bits. -/
theorem test_witness_application_registers : ReadyGr base 0 1 ∧ (fld base.ar.rsc 0 2 : BitVec 2) = 0 ∧ base.cpl = 0 ∧
    base.psrBit Psr.si = false ∧ base.psrBit Psr.vm = false ∧ (gr 2 0x1F base).gr 2 = ⟨0x1F, false⟩ ∧
    ((0xFF : BitVec 8).signExtend 64 = (0xFFFFFFFFFFFFFFFF : Word)) ∧ (0x3FFF001F : Word) &&& 0xFFFFFFFFC000FFE0 = 0 ∧
    fpsrReserved 0x0009804C0270033F = false ∧ base.rscMode = 0 ∧ user.cpl ≠ 0 ∧ (user.gr 2).nat = false ∧
    ((nat 2 base).gr 2).nat = true ∧ (20 : Word) &&& 0xFFFFFFFFC000FFE0 = 0 ∧ (0x20 : Word) &&& 0xFFFFFFFFC000FFE0 ≠ 0 ∧
    fpsrReserved 0x8000000000000000 = true ∧ (47 : BitVec 7) ∈ reservedArs ∧ (40 : BitVec 7) ∈ plainArs ∧
    (45 : BitVec 7) ∈ privilegedArs ∧ (fld ({ base with ar := { base.ar with rsc := 3 } } : State).ar.rsc 0 2 : BitVec 2) ≠ 0 ∧
    ReadyGr (psr 0x300800000 base) 0 1 ∧ (psr 0x300800000 base).psrBit Psr.si = true ∧ (psr 0x300800000 base).cpl ≠ 0 ∧
    ReadyGr (psr 0x400000800000 base) 0 1 ∧ (psr 0x400000800000 base).psrBit Psr.vm = true ∧
    (psr 0x400000800000 base).cpl = 0 ∧ (psr 0x400000800000 base).psrBit Psr.si = true := by
  simp only [ReadyGr, and_assoc]
  decide +kernel

/-- ControlRegistersMove: interruption registers with PSR.ic 0 and 1, an interrupt, values without reserved bits. -/
theorem test_witness_control_registers : Privileged base 0 ∧ Privileged collecting 0 ∧
    collecting.psrBit Psr.ic = false ∧ base.psrBit Psr.ic = true ∧ base.badTarget 1 = false ∧
    base.highestInterrupt = none ∧ (base.pend 0x40).highestInterrupt = some 0x40 ∧
    (base.pend 0xFF).highestInterrupt = some 0xFF ∧ base.pal.features.getLsbD 37 = true ∧
    (0x7F07 : Word) &&& 0xFFFFFFFFFFFF80F8 = 0 ∧ lrrReserved 0x10000 = false ∧
    (0x0000101308026008 : Word) &&& reservedPsr = 0 ∧ (0x00000FFF00FFFFFF : Word) &&& 0xFFFFF000FF000000 = 0 ∧
    unimplementedVa 0xE000000000000000 false = false ∧ itirReserved 0x530 = false := by
  simp only [Privileged, and_assoc]
  decide +kernel

/-- ControlRegistersMove: NaT sources, a reserved field of each register that has one, an address that is not implemented, a
guest. -/
theorem test_witness_control_faults : ((nat 2 base).gr 2).nat = true ∧ (0x80 : Word) &&& 0xFFFFFFFFFFFF80F8 ≠ 0 ∧
    (0x40 : Word) &&& reservedPsr ≠ 0 ∧ (0x1000000 : Word) &&& 0xFFFFF000FF000000 ≠ 0 ∧ itirReserved 0x531 = true ∧
    lrrReserved 0x800 = true ∧ unimplementedVa 0x0800000000000000 true = true ∧
    (3 : BitVec 7) ∉ ([0, 1, 2, 4, 8, 9, 16, 17, 19, 20, 21, 22, 23, 24, 25, 26, 27, 64, 65, 66, 67, 68, 69, 70, 71, 72, 73, 74,
      80, 81] : List (BitVec 7)) ∧ (virtual base).psrBit Psr.vm = true ∧ (virtual base).cpl = 0 ∧
    ((virtual base).gr 2).nat = false ∧ (virtual base).prBit 0 = true := by
  decide +kernel

/-- StatusRegisterMoves: NaT sources, reserved bits of each part. -/
theorem test_witness_status_faults : fld (0x40 : Word) 0 32 &&& Psr.reservedL ≠ 0 ∧
    (fld (0x800000000000 : Word) 47 17 : BitVec 17) ≠ 0 ∧ (0x40 : Word) &&& 0xFFFFFFFFFFFFFFC1 ≠ 0 ∧
    (1 : Word) &&& 0xFFFFFFFFFFFFFFC1 ≠ 0 ∧ (0x40 : BitVec 24) &&& 0xFFFFC1 ≠ 0 ∧ (1 : BitVec 24) &&& 0xFFFFC1 ≠ 0 := by
  decide +kernel

/-- StatusRegisterMoves: masks with and without reserved bits. -/
theorem test_witness_status : base.cpl = 0 ∧ base.psrBit Psr.vm = false ∧ (base.gr 2).nat = false ∧
    fld ((gr 2 0x0FFEE03E base).gr 2).val 0 32 &&& Psr.reservedL = 0 ∧
    (fld ((gr 2 0x0FFEE03E base).gr 2).val 47 17 : BitVec 17) = 0 ∧ (0xFEE03E : BitVec 24) &&& Psr.reservedSm = 0 ∧
    (1 : BitVec 24) &&& Psr.reservedSm ≠ 0 ∧ (0x3E : Word) &&& 0xFFFFFFFFFFFFFFC1 = 0 ∧
    (0x3E : BitVec 24) &&& 0xFFFFC1 = 0 ∧ base.badTarget 1 = false := by
  decide +kernel

/-- Instruction translation on, through a TC entry whose key protection key register 15 holds. -/
def running : State := { base with
  psr := 0x000014100000A000
  itc := [{ page with vpn := 1 }]
  pkr := base.pkr.set 15 0x501 }

/-- IndirectRegistersMove: the first and last index of each file and the index after it; a region register value. -/
theorem test_witness_indirect : ((gr 3 16 base).gr 3).val.toNat % 256 = 16 ∧ (fld base.pmc[4] 0 4 : BitVec 4) = 0 ∧
    (fld ({ base with pmc := base.pmc.set 7 0x4F } : State).pmc[7] 0 4 : BitVec 4) ≠ 0 ∧
    ({ base with pmc := base.pmc.set 7 0x4F } : State).pmc[7].getLsbD 6 = true ∧ user.cpl ≠ 0 ∧
    (psr 0x200000 user).psrBit Psr.sp = false ∧ (psr 0x100000 user).psrBit Psr.sp = true ∧
    (fld (0xFFFFF501 : Word) 8 24 : BitVec 24) = 0xFFFFF5 ∧ running.psrBit Psr.it = true ∧ running.psrBit Psr.pk = true ∧
    running.findInst running.ip = some { page with vpn := 1 } ∧
    (running.pkr[15]).getLsbD 0 = true ∧ (fld running.pkr[15] 8 24 : BitVec 24) = 5 ∧ (mem0.gr 3).nat = false ∧ ((gr 3 4 base).gr 3).val.toNat % 256 = 4 ∧
    ((gr 3 7 base).gr 3).val.toNat % 256 = 7 ∧ ((gr 3 0xFF08 base).gr 3).val.toNat % 256 = 8 ∧
    ((gr 3 15 base).gr 3).val.toNat % 256 = 15 ∧ (0x331 : Word).getLsbD 1 = false ∧
    (fld (0x331 : Word) 32 32 : BitVec 32) = 0 ∧
    Config.pageSizes.contains (fld (0x331 : Word) 2 6 : BitVec 6).toNat = true ∧
    base.psrBit Psr.it = false := by
  decide +kernel

/-- IndirectRegistersMove: an index that every processor has, and one that none has. -/
theorem test_witness_monitors : 7 ≤ Config.maxGeneric ∧ Config.maxGeneric < ((gr 3 255 base).gr 3).val.toNat % 256 := by
  have h := Config.moreMonitors.isLt
  have e : ((gr 3 255 base).gr 3).val.toNat % 256 = 255 := by decide +kernel
  rw [e]
  unfold Config.maxGeneric
  omega
/-- IndirectRegistersMove, ProbesReportAccess, TranslationQueries, PrivilegedInstructionsTrap: guests with each operand at the
ends of its range, NaT operands, a reserved page size. -/
theorem test_witness_virtual : (virtual (gr 3 4 base)).psrBit Psr.vm = true ∧ (virtual (gr 3 4 base)).cpl = 0 ∧
    ((virtual (gr 3 4 base)).gr 3).val.toNat % 256 = 4 ∧ ((virtual (gr 3 15 base)).gr 3).val.toNat % 256 < 16 ∧
    ((virtual (gr 3 7 base)).gr 3).val.toNat % 256 < 8 ∧ ((nat 3 base).gr 3).nat = true ∧
    (2 : Word).getLsbD 1 = true ∧ (fld (0x100000030 : Word) 32 32 : BitVec 32) ≠ 0 ∧
    Config.pageSizes.contains (fld (0x3C : Word) 2 6 : BitVec 6).toNat = false ∧
    (virtual base).vdcBit Config.dToPmdBit = false ∧ (stopped (virtual collecting)).followedByStop = true ∧
    (virtual collecting).psrBit Psr.ic = false ∧ tlbReserved 0x10000000000661 0x530 = false ∧ itirReserved 0x30 = false ∧
    unimplementedVa 0x2000 true = false ∧ unimplementedPa 0x4000000000000000 = true ∧ base.psrBit Psr.dt = false ∧
    (virtual mapped).psrBit Psr.dt = true ∧ unimplementedVa 0x0800000000000000 true = true := by
  decide +kernel

/-- R1137, R17, R1133: guests and bad operands meet the faults, one form of each kind. -/
theorem test_system_stops :
    let v := virtual (gr 2 0x30 (gr 3 4 base))
    let bad := (fun (i : Instr) => runs (.instr i) base illegal)
    let guest := (fun (i : Instr) => runs (.instr i) v (atVector 0x6100 0))
    ([Instr.movFromCpuidM43 0 1 3, .movFromRrM43 0 1 3, .movFromPmcM43 0 1 3, .movFromDbrM43 0 1 3, .movFromPkrM43 0 1 3,
      .movToRrM42 0 2 3, .movToPmcM42 0 2 3, .movToIbrM42 0 2 3, .movToPmdM42 0 2 3, .movFromCrM33 0 1 65,
      .movToCrM32 0 2 67, .movFromPsrM36 0 1, .ssmM44 0 2, .thashM46 0 1 3, .tpaM46 0 1 3, .takM46 0 1 3, .ptcLM45 0 2 3,
      .ptcEM47 0 3].all guest &&
    [Instr.movFromCpuidM43 0 0 3, .movFromCrM33 0 127 0, .movFromPsrUmM36 0 0, .probeRM39 0 0 3 0, .takM46 0 127 3,
      .movFromIpI25 0 0, .movFromBrI22 0 0 1, .addA1 0 0 2 3, .movlX2 0 127 1, .mux2I4 0 0 2 1,
      .fmaF1 0 0 9 10 11 0, .frcpaF6 0 6 1 9 10 0, .fcvtXfF11 0 1 9].all bad) = true := by
  decide +kernel

/-- InsertsMakeTranslations, PurgesRemoveTranslations: with and without an overlapping translation register. -/
theorem test_witness_translations : Privileged running 0 ∧ ((gr 3 8 collecting).gr 3).val.toNat % 256 = 8 ∧
    ({ page with vpn := 1 } : TlbEntry).overlaps 0 0x1000 12 = true ∧ running.findInst running.ip = some { page with vpn := 1 } ∧
    running.psrBit Psr.it = true ∧ trOverlap running.itr 0 0x1000 12 = false ∧ collecting.followedByStop = false ∧
    Privileged collecting 0 ∧ collecting.psrBit Psr.ic = false ∧
    (collecting.gr 2).nat = false ∧ tlbReserved 0x10000000000661 0x530 = false ∧
    (stopped collecting).followedByStop = true ∧ trOverlap collecting.dtr 0 0x2000 12 = false ∧
    trOverlap (collecting.dtr.set 7 (some page)) 0 0x2000 12 = true ∧
    trOverlap ((collecting.dtr.set 7 (some page)).set 7 none) 0 0x2000 12 = false ∧
    ((gr 3 7 collecting).gr 3).val.toNat % 256 = 7 ∧ itirReserved 0x30 = false ∧ base.psrBit Psr.ic = true ∧
    unimplementedVa 0x2000 false = false ∧ itirReserved 0x31 = true ∧ unimplementedVa 0x0800000000000000 true = true ∧
    tlbReserved 3 0x30 = true ∧ ((nat 2 collecting).gr 2).nat = true ∧ ((nat 3 collecting).gr 3).nat = true := by
  simp only [Privileged, and_assoc]
  decide +kernel

/-- ProbesReportAccess, TranslationQueries: with a translation, without one, with translation off. -/
theorem test_witness_queries : (mapped.checkWalk false (some page) = .ok ()) ∧
    ¬ ({ mapped with dtr := mapped.dtr.set 0 (some page) } : State).checkWalk false (some page) = .ok () ∧
    base.grantPermission 0x2000 { r := true, na := true, naCode := 2 } 0 = .ok (true, none) ∧
    mapped.grantPermission 0x2000 { w := true, na := true, naCode := 2 } 0 = .ok (true, none) ∧
    (match (psr 0x20000 mem0).grantPermission 0x2000 { r := true, na := true, naCode := 2 } 0 with
      | .error _ => true | _ => false) = true ∧
    (mapped.translate true 0x2000 { access := { r := true, na := true, naCode := 5 }, size := 1, align := 1, pl := 0 }
      = .ok (flat 1)) ∧
    mapped.translateNonaccess 0x2000 { na := true, naCode := 0 } false = .ok (flat 1) ∧
    (match (psr 0x20000 mem0).translateNonaccess 0x2000 { r := true, na := true, naCode := 1 } true with
      | .error _ => true | _ => false) = true ∧
    unimplementedVa 0x2000 false = false ∧
    mapped.unimplementedAddress 0x2000 = false ∧ (fld (0x3C : Word) 2 6 : BitVec 6).toNat = 15 ∧
    (0x3C : Word).getLsbD 8 = false := by
  decide +kernel

/-- AllocResizesTheFrame, RegisterStackTraffic. -/
theorem test_witness_register_stack :
    (first base).firstInGroup = true ∧ base.firstInGroup = false ∧ (first (rrb 0 0 3 base)).firstInGroup = true ∧
    ((96 : BitVec 7).toNat ≤ 96 ∧ (90 : BitVec 7).toNat ≤ 96 ∧ 8 * (12 : BitVec 4).toNat ≤ 96) ∧
      ((127 : BitVec 7) ≠ 0 ∧ (127 : BitVec 7).toNat < 32 + 96) ∧ base.frameOk = true ∧
      (base.cfm.rrbGr = 0 ∧ base.cfm.rrbFr = 0 ∧ base.cfm.rrbPr = 0) ∧
      (match base.rseNewFrame 96 with | .ok _ => true | _ => false) = true ∧ base.ndirty ≤ 96 - 96 ∧
      ¬ (97 : BitVec 7).toNat ≤ 96 ∧ (match base.flushRse with | .ok _ => true | _ => false) = true ∧
      bsBelow base.ar.bspstore base.ar.bsp = false ∧ base.rscMode = 0 ∧
      (match base.ensureLoaded with | .ok _ => true | _ => false) = true ∧ base.rscLoadrs = 0 ∧
      fld base.ar.bsp 0 3 = (0 : BitVec 3) ∧ bsBelow base.ar.bsp base.rse.bspLoad = false ∧
      ({ base with ar := { base.ar with rsc := 3 } } : State).rscMode ≠ 0 := by
  decide +kernel

/-- Two dirty registers with a NaT collection between them. -/
def dirtied : State := first { base with
  ar := { base.ar with bspstore := 0x81F0, bsp := 0x8208 }
  rse := { base.rse with bspLoad := 0x81F0 }
  grStacked := (base.grStacked.set 94 ⟨0x0102030405060708, true⟩).set 95 ⟨9, false⟩ }

/-- The reference to the word `j` places above `a`, untranslated. -/
def stackWord (a : Word) (j : Nat) : Translation := ⟨bsWord a j, maWb, bsWord a j, 8, none⟩

/-- AllocResizesTheFrame: frames that need no store, one, all three; clean registers that go; and a store that faults. -/
theorem test_witness_new_frame : dirtied.dirtyAfter 0 = 2 ∧ dirtied.dirtyAfter 1 = 1 ∧ dirtied.dirtyAfter 2 = 1 ∧
    dirtied.dirtyAfter 3 = 0 ∧ 96 - (94 : BitVec 7).toNat = 2 ∧ 96 - (95 : BitVec 7).toNat = 1 ∧
    (match dirtied.rseNewFrame 95 with | .ok t => t.ar.bspstore == 0x81F8 | _ => false) = true ∧
    (match ({ dirtied with rse := { dirtied.rse with bspLoad := 0x81E0 } } : State).rseNewFrame 95 with
      | .ok t => t.rse.bspLoad == 0x81F8 && t.rse.dispersal.getLsbD 62 | _ => false) = true ∧
    collectionOf (dirtied.rse.bspLoad - 8) = collectionOf (bsWord 0x81F0 0) ∧
    collectionOf (dirtied.rse.bspLoad - 8) ≠ collectionOf (bsWord 0x81F0 2) ∧
    (match (psr 0x8000000 dirtied).rseNewFrame 96 with
      | .error (.interruptAt _ x) => x.vector == .alternateDataTlb | _ => false) = true := by
  decide +kernel

/-- RegisterStackTraffic, AllocResizesTheFrame: the words of `flushrs`, a NaT collection among them. -/
theorem test_witness_flushrs : StackReaches dirtied 3 (stackWord 0x81F0) ∧
    dirtied.ar.bsp = bsWord dirtied.ar.bspstore 3 ∧ dirtied.firstInGroup = true ∧ bsSlot (bsWord 0x81F0 1) = 63 ∧ dirtied.natStored 0x81F0 dirtied.ar.rnat 1 62 = true ∧
    dirtied.natStored 0x81F0 dirtied.ar.rnat 1 0 = false ∧ dirtied.natStored 0x81F0 dirtied.ar.rnat 1 63 = false := by
  refine ⟨⟨by decide, by decide +kernel, ?_, ?_⟩, by decide +kernel⟩
  · intro j hj
    interval_cases j <;> decide +kernel
  · intro i j hi hj
    interval_cases j <;> interval_cases i <;> decide +kernel

/-- The same partition in memory: RSC.loadrs covers it, nothing is loaded yet. -/
def unloaded : State := place 0x81F0 [5, 0, 0, 0, 0, 0, 0, 0, 0, 0, 0, 0, 0, 0, 0, 0x40] (first { bspAt 0x8208 base with
  ar := { base.ar with bspstore := 0x8208, bsp := 0x8208, rsc := 0x180000 } })

/-- RegisterStackTraffic: the words of `loadrs`, a NaT collection among them; and with nothing to load. -/
theorem test_witness_loadrs : LoadReaches unloaded 0x81F0 3
      (fun j => ⟨unloaded.loadWord j, maWb, unloaded.loadWord j, 8, none⟩) (fun j => if j = 0 then 0 else if j = 1 then 0x4000000000000000 else 5) ∧
    LoadReaches unloaded 0x8208 0 (fun _ => flat 8) (fun _ => 0) ∧
    (unloaded.ar.bsp - (fld unloaded.ar.rsc 16 14 : BitVec 14).zeroExtend 64) &&& 0xFFFFFFFFFFFFFFF8 = 0x81F0 ∧
    unloaded.rscMode = 0 ∧ unloaded.rse.cfle = false ∧ unloaded.firstInGroup = true ∧
    unloaded.cfm.sof.toNat + regsBetween 0x81F0 unloaded.ar.bsp ≤ 96 ∧
    ¬ (frame 96 0 0 unloaded).cfm.sof.toNat + regsBetween 0x81F0 unloaded.ar.bsp ≤ 96 := by
  refine ⟨⟨by decide +kernel, ?_⟩, ⟨by decide +kernel, fun _ h => absurd h (by omega)⟩, by decide +kernel⟩
  intro j hj
  refine ⟨?_, rfl, ?_, fun k hk => ?_⟩
  · interval_cases j <;> decide +kernel
  · interval_cases j <;> decide +kernel
  · have : k < 8 := by omega
    interval_cases j <;> interval_cases k <;> decide +kernel

/-- RegisterStackTraffic: a store, and a load, of the register stack that faults. -/
theorem test_witness_stack_fault :
    let s := { psr 0x8000000 base with ar := { base.ar with bsp := 0x8010, bspstore := 0x8000 } }
    (match s.flushRse with | .error (.interruptAt _ x) => x.vector == .alternateDataTlb | _ => false) = true ∧
    (match s.translate true 0x8000 (s.rseRef true false) with | .error x => x.fault.vector == .alternateDataTlb | _ => false)
      = true ∧
    (match (psr 0x8000000 unloaded).ensureLoaded with
      | .error (.interruptAt _ x) => x.vector == .alternateDataTlb | _ => false) = true ∧
    (match (psr 0x8000000 unloaded).translate true 0x8200 (unloaded.rseRef false false) with
      | .error x => x.fault.vector == .alternateDataTlb | _ => false) = true := by
  decide +kernel

/-- PrivilegedInstructionsTrap. -/
theorem test_witness_privilege : user.prBit 0 = true ∧ user.cpl ≠ 0 ∧ user.badTarget 1 = false ∧
    crOf 0 ≠ .reserved ∧ crOf 81 ≠ .reserved ∧ (crOf 0).isInterruption = false ∧ (crOf 2).readOnly = false ∧
    (psr 0x300000000 collecting).psrBit Psr.ic = false ∧ (stopped user).followedByStop = true := by
  decide +kernel

/-- Status fields whose traps are all enabled. -/
def trapping (s : State) : State := fpsr 0x0009804C02700300 s

/-- The floating-point statements: enabled partitions, NaTVal sources, an enabled fault, an enabled trap, neither. -/
theorem test_witness_fp : FpReady (fp3 two three one) 0 [8, 9, 10, 11] ∧ FpReady base 0 [127, 9, 10, 11] ∧
    (fp3 natVal three one).fpr 9 = natVal ∧ (fp3 two three one).fpr 9 ≠ natVal ∧
    faultBits ((trapping base).fpDisables 0) { v := true } ≠ 0 ∧ faultBits (base.fpDisables 0) { v := true } = 0 ∧
    (psr 0x40000 base).disabledCode [8, 9] ≠ 0 ∧ (psr 0x80000 base).disabledCode [8, 127] ≠ 0 ∧
    faultBits ((trapping base).fpDisables 0)
      (recip (base.fpControls 0) (fpRange .none (base.fpControls 0)) false one plusZero).half.flags ≠ 0 ∧
    faultBits (base.fpDisables 0)
      (recip (base.fpControls 0) (fpRange .none (base.fpControls 0)) false one plusZero).half.flags = 0 ∧
    base.ar.fpsr.getLsbD (12 + 13 * 1) = true ∧ trapBits ((trapping base).fpDisables 0) { i := true } false ≠
      trapBits (base.fpDisables 0) { i := true } false ∧
    (2 ^ 63 : Nat) < 2 ^ 64 ∧ (2 ^ 63 : Nat) ≤ 2 ^ 63 := by
  simp only [FpReady, and_assoc]
  decide +kernel

/-- NaTVal sources of the floating-point statements. -/
theorem test_witness_nat_source : natSource (fp3 natVal three one) [9, 10, 11] :=
  ⟨9, by simp, by decide +kernel⟩

/-- FpValuesAreExactThenRounded, FpSpecialOperands: a member of every class. -/
theorem test_witness_classes : unorderedFr qnan one = true ∧ unorderedFr inf one = false ∧ natVal.cls = .natVal ∧
    one.isFinite = true ∧ plusZero.cls = .zero ∧ one.cls = .finite ∧ inf.cls = .infinity ∧
    qnan.cls = .quiet ∧ qnan.isNan = true ∧ (⟨false, 0x1FFFF, 0xA000000000000000⟩ : Fr).cls = .signaling ∧
    (⟨false, 0x1FFFF, 0⟩ : Fr).cls = .unsupported ∧ (⟨true, 0xFFFF, 0x8000000000000000⟩ : Fr).cls = .finite := by
  decide +kernel

/-- FpValuesAreExactThenRounded: products of finite registers with their exponents: within the range of the single format,
above it, below it; and an exact zero. -/
theorem test_witness_rounding :
    let power (e : BitVec 17) : Fr := ⟨false, 0xFFFF + e, 0x8000000000000000⟩
    (power 64).isFinite = true ∧ (power (-64)).isFinite = true ∧ singleRange.emax < 128 ∧ (-128 : Int) < singleRange.emin ∧
    (fmaExact .fma 0 plusZero one none).mag = 0 ∧
    ∀ f ∈ ([(0, 0), (64, 128), (-64, -128)] : List (BitVec 17 × Int)),
      let x := fmaExact .fma 0 (power f.1) (power f.1) none
      (2 : ℚ) ^ f.2 ≤ |x.toRat| ∧ |x.toRat| < (2 : ℚ) ^ (f.2 + 1) ∧ (x.roundAt 0 (f.2 - 24 + 1)).1 < 2 ^ 24 := by
  have a : fmaExact .fma 0 ⟨false, 0xFFFF + 0, 0x8000000000000000⟩ ⟨false, 0xFFFF + 0, 0x8000000000000000⟩ none =
    ⟨false, 2 ^ 126, -126⟩ := by decide +kernel
  have b : fmaExact .fma 0 ⟨false, 0xFFFF + 64, 0x8000000000000000⟩ ⟨false, 0xFFFF + 64, 0x8000000000000000⟩ none =
    ⟨false, 2 ^ 126, 2⟩ := by decide +kernel
  have c : fmaExact .fma 0 ⟨false, 0xFFFF + -64, 0x8000000000000000⟩ ⟨false, 0xFFFF + -64, 0x8000000000000000⟩ none =
    ⟨false, 2 ^ 126, -254⟩ := by decide +kernel
  refine ⟨by decide +kernel, by decide +kernel, by decide, by decide, by decide +kernel, fun f hf => ?_⟩
  simp only [List.mem_cons, List.not_mem_nil, or_false] at hf
  rcases hf with rfl | rfl | rfl <;> simp only [a, b, c] <;>
    exact ⟨by norm_num [Exact.toRat], by norm_num [Exact.toRat], by decide +kernel⟩

/-- FpValuesAreExactThenRounded: conversions that fit, at both ends of the range, and that do not. -/
theorem test_witness_conversions : one.isFinite = true ∧ seven.isFinite = true ∧ minusSix.isFinite = true ∧
    (seven.exact.roundAt 0 0).1 = 7 ∧ (minusSix.exact.roundAt 0 0).1 = 6 ∧
    ((⟨true, 0x1003E, 0x8000000000000000⟩ : Fr).exact.roundAt 0 0).1 = 2 ^ 63 ∧
    ((⟨false, 0x1003E, 0x8000000000000000⟩ : Fr).exact.roundAt 0 0).1 = 2 ^ 63 ∧
    (⟨true, 0x1003E, 0x8000000000000000⟩ : Fr).isFinite = true ∧ (⟨false, 0x1003E, 0x8000000000000000⟩ : Fr).isFinite = true ∧
    (7 : Int) < 2 ^ (64 - 1) ∧ -(2 ^ (64 - 1) : Int) ≤ -(2 ^ 63) ∧ ¬ (2 ^ 63 : Int) < 2 ^ (64 - 1) ∧ (2 ^ 63 : Int) < 2 ^ 64 := by
  decide +kernel

/-- FpMovesAndIntegerProducts: a reserved precision, a td bit in status field 0, a proper control. -/
theorem test_witness_controls : (fld (0x04 : BitVec 7) 2 2 : BitVec 2) = 1 ∧ (0x40 : BitVec 7).getLsbD 6 = true ∧
    (fld (0x0C : BitVec 7) 2 2 : BitVec 2) ≠ 1 ∧ (0x0C : BitVec 7).getLsbD 6 = false := by
  decide +kernel

/-- A registered virtual processor runs. -/
def guest : State := { base with pal := { base.pal with
  vps := [⟨0x4000, 0x10000, 0x20000⟩], vpRun := some ⟨0x4000, 0, 0⟩ } }

/-- InterruptionDeliverySavesState, RfiReturnsFromInterruption: both values of PSR.ic and of IFS.v, a wrong frame. -/
theorem test_witness_interruptions : base.ri ≠ 3 ∧ (1 : BitVec 2) ≠ 3 ∧ illegalOperation.vector ≠ .virtualization ∧
    base.pal.vpRun = none ∧ (fld base.cr.ipsr 41 2 : BitVec 2) ≠ 3 ∧
    (fld (0x60000000000 : Word) 41 2 : BitVec 2) = 3 ∧ (psr 0x10000000000 base).psrBit Psr.ss = true ∧
    guest.pal.vpRun = some ⟨0x4000, 0, 0⟩ ∧ virtualizationFault.vector = .virtualization ∧
    guest.findTr guest.dtr (0x4000 + 1432) = none ∧ (stopped base).followedByStop = true ∧ base.followedByStop = false ∧
    (stopped base).psrBit Psr.vm = false ∧ base.psrBit Psr.ic = true ∧ collecting.psrBit Psr.ic = false ∧
    base.psrBit Psr.is = false ∧ base.ipOk = true ∧ user.cpl ≠ 0 ∧ base.cr.ifs.getLsbD 63 = false ∧
    (0x8000000000000288 : Word).getLsbD 63 = true ∧
    (Cfm.ofBits (fld (0x8000000000000288 : Word) 0 38)).wf = true ∧
    (Cfm.ofBits (fld (0x8000000000000485 : Word) 0 38)).wf = false ∧
    ({ (deliver illegalOperation base).setRi 2 with ip := 0x20, curBundle := 0x17 } : State).followedByStop = true := by
  decide +kernel

/-- A program of one instruction at the start point. -/
noncomputable def loaded : State := State.reset.withFetchWord 41 0x10000304040

/-- StepRunsDecodedInstruction and StepKeepsInvariants: the hypotheses of every clause; the next state exists. -/
theorem test_witness_step : loaded.psrBit Psr.is = false ∧ loaded.initPending = false ∧ loaded.pmiPending = 0 ∧ loaded.tick.checkPending = false ∧ loaded.pal.latent = [] ∧ loaded.psrBit Psr.vm = false ∧
    loaded.psrBit Psr.i = false ∧ loaded.halted = false ∧ loaded.rse.cfle = false ∧ loaded.psrBit Psr.it = false ∧
    loaded.psrBit Psr.db = false ∧ unimplementedPa loaded.ip = false ∧ loaded.blockOffset loaded.ip = none ∧
    (match loaded.tick.boundary with
      | .run t => (match t.fetch with
        | .ok u => decodeBundle u.curBundle u.ri.toNat == (.instr (.addA1 0 1 2 3), false)
        | _ => false)
      | _ => false) = true ∧
    (match (psr 0x1000000000 loaded).tick.boundary with
      | .run t => (match t.fetch with | .error (.interruptAt _ x) => x.vector == .alternateInstructionTlb | _ => false)
      | _ => false) = true ∧
    (match step loaded with | .next t => t.ri == loaded.ri + 1 || t.ip == loaded.ip + 16 | _ => false) = true := by
  decide +kernel

/-- With PSR.i 1 and vector `v` pending. -/
noncomputable def requesting (v : BitVec 8) : State := (psr 0x4000 loaded).pend v

/-- StepRunsDecodedInstruction: vectors that are taken under the highest TPR class that lets them through, the first and the
last, ExtINT and NMI; a masked one; one below a vector in service; a halted processor; a timer match, and none. -/
theorem test_witness_interrupts :
    let tpr (v : Word) (s : State) : State := { s with cr := { s.cr with tpr := v } }
    let timed : State := { loaded with cr := { loaded.cr with itm := 1, itv := 0xEF } }
    (requesting 0x40).psrBit Psr.i = true ∧ (requesting 0x40).psrBit Psr.is = false ∧ (requesting 0x40).initPending = false ∧
    (requesting 0x40).pmiPending = 0 ∧ (requesting 0x40).tick.checkPending = false ∧ (requesting 0x40).inService = 0 ∧
    (tpr 0x30 (requesting 0x40)).tick.interruptPending = true ∧ (tpr 0x40 (requesting 0x40)).tick.interruptPending = false ∧
    (requesting 0x10).tick.interruptPending = true ∧ (tpr 0xE0 (requesting 0xFF)).tick.interruptPending = true ∧
    (tpr 0xF0 (requesting 0)).tick.interruptPending = true ∧ (tpr 0x10000 (requesting 0)).tick.interruptPending = false ∧
    (tpr 0x10000 (requesting 2)).tick.interruptPending = true ∧
    ({ requesting 0x40 with inService := 1 <<< 0x40 } : State).tick.interruptPending = false ∧
    ({ requesting 0x40 with inService := 1 <<< 0x3F } : State).tick.interruptPending = true ∧
    ({ loaded with pal := { loaded.pal with power := .lightHalt } } : State).halted = true ∧
    timed.cr.itv.getLsbD 16 = false ∧ timed.tick.itcValue = timed.cr.itm ∧ timed.tick.cr.irr = 1 <<< 0xEF ∧
    loaded.cr.itv.getLsbD 16 = true ∧ (requesting 0x40).pal.latent = [] ∧
    (match step (requesting 0x40) with | .next t => atVector 0x3000 0 t | _ => false) = true := by
  decide +kernel

/-- StepRunsDecodedInstruction: a translation lost as often as it may be. -/
theorem test_witness_progress :
    let s : State := { base with itc := [page], progress := ⟨[(true, page)], Config.tcLossBound, false⟩ }
    Config.tcLossBound ≤ s.progress.losses ∧ (true, page) ∈ s.progress.required ∧ page ∈ s.itc := by
  simp

/-- Instruction translation on, the page of IP in the TC as `e`. -/
def fetching (e : TlbEntry) : State := { base with psr := 0x000014100000A000, itc := [e] }

/-- StepRunsDecodedInstruction: a fetch with PSR.it = 1 that meets each fault of R1144, and none. -/
theorem test_witness_fetch :
    let e : TlbEntry := { page with vpn := 1 }
    let keyed (k : Word) (s : State) : State := { s with pkr := s.pkr.set 15 k }
    let missing : State := { base with psr := 0x0000141000002000 }
    let walks (s : State) : State := { s with cr := { s.cr with pta := 0x803D }, rr := s.rr.set 0 0x35 }
    let stops (s : State) (v : Ivt) : Bool := match s.fetchAddress with | .error x => x.fault.vector == v | _ => false
    (fetching e).psrBit Psr.it = true ∧ unimplementedVa 0x1000 false = false ∧ (fetching e).findInst 0x1000 = some e ∧
    missing.findInst missing.ip = none ∧ stops missing .alternateInstructionTlb = true ∧
    stops (virtual { missing with ip := 0x0800000000000000 }) .lowerPrivilegeTransfer = true ∧
    stops (walks missing) .vhptTranslation = true ∧
    stops (place 0x8010 [3] (walks { missing with ip := 0x5000, dtc := [{ page with ppn := 8, vpn := 8 }] }))
      .instructionTlb = true ∧
    stops (fetching { e with p := false }) .pageNotPresent = true ∧ stops (fetching { e with ma := 7 }) .natConsumption = true ∧
    stops (fetching e) .instructionKeyMiss = true ∧ stops (keyed 0x509 (fetching e)) .keyPermission = true ∧
    stops (keyed 0x501 (fetching { e with ar := 0 })) .instructionAccessRights = true ∧
    stops (keyed 0x501 (fetching { e with a := false })) .instructionAccessBit = true ∧
    stops { (keyed 0x501 (fetching e)) with psr := 0x000014100100A000, ibr := (base.ibr.set 6 0x100F).set 7 0x81FFFFFFFFFFFFFF }
      .debug = true ∧
    (keyed 0x501 (fetching e)).fetchAddress = .ok (0x2000, none) ∧ (keyed 0x501 (fetching e)).checkWalk true none = .ok () ∧
    (keyed 0x501 (fetching e)).blockOffset 0x2000 = none := by
  decide +kernel

/-- The reserved slots of StepRunsDecodedInstruction: a reserved template, a reserved word under a predicate. -/
theorem test_witness_reserved : decodeBundle 0x1F 0 = (.reserved, false) ∧ decodeBundle 5 2 = (.reserved, false) ∧
    decodeSlot .b 0 0x1F8000000 = .reservedIfQp 0 ∧ base.prBit 0 = true := by
  decide +kernel

/-- StepKeepsInvariants: a state with every invariant that steps. -/
theorem test_witness_invariants : loaded.memoryOk = true ∧ loaded.reservedOk = true ∧ loaded.ipOk = true ∧
    loaded.frameOk = true ∧ loaded.dahsOk := by
  refine ⟨?_, ?_, ?_, ?_, List.length_replicate⟩ <;> decide +kernel

/-- EncodeDecodeRoundTrip: an instruction and each kind of slot that may hold it. -/
theorem test_witness_encoding : (encode (.addA1 0 1 2 3)).unit.fits .m = true ∧
    (encode (.addA1 0 1 2 3)).unit.fits .i = true ∧ (encode (.movlX2 0 1 5)).unit.fits .x = true ∧
    (encode .rfiB8).unit.fits .b = true ∧ (encode (.fclrfF13 0 3)).unit.fits .f = true := by
  decide +kernel

/-- R676, R201, R697, R698, R695, R711: an insert, the queries of the page it makes, and its purge, worked by hand: the
page 0x2000 goes to 0x7000 with key 5. -/
theorem test_translations : [
    runs (.instr (.itcDM41 0 2)) (gr 2 0x0010000000007661 (stopped { collecting with
        cr := { collecting.cr with ifa := 0x2345, itir := 0x530 } }))
      (fun t => t.dtc.head? == some { page with ppn := 7, pl := 0, ar := 3, ed := true, vpn := 2 }),
    runs (.instr (.tpaM46 0 1 3)) (gr 3 0x2345 { mapped with dtc := [{ page with ppn := 7 }] })
      (fun t => t.gr 1 == ⟨0x7345, false⟩),
    runs (.instr (.takM46 0 1 3)) mapped (fun t => t.gr 1 == ⟨0x500, false⟩),
    runs (.instr (.takM46 0 1 3)) (gr 3 0x9000 mapped) (fun t => t.gr 1 == ⟨1, false⟩),
    runs (.instr (.probeWM39 0 1 3 3)) { mapped with dtc := [{ page with ar := 0 }] } (fun t => t.gr 1 == ⟨0, false⟩),
    runs (.instr (.probeRM39 0 1 3 3)) { mapped with dtc := [{ page with ar := 0 }] } (fun t => t.gr 1 == ⟨1, false⟩),
    runs (.instr (.ptcLM45 0 2 3)) (gr 2 0x30 mapped) (fun t => t.dtc == []),
    runs (.instr (.ptcLM45 0 2 3)) (gr 2 0x30 (gr 3 0x3000 mapped)) (fun t => t.dtc == [page]),
    runs (.instr (.thashM46 0 1 3)) (gr 3 0x2000000000005000 { mem0 with
        cr := { mem0.cr with pta := 0x4000000000100050 }, rr := mem0.rr.set 1 0x30 })
      (fun t => t.gr 1 == ⟨0x2000000000100028, false⟩)].all id = true := by
  decide +kernel

/-- R645, R646: a check load that hits leaves the register and marks its partition modified. -/
theorem test_fp_check_hit :
    let s := mem0
    (s.alatCmp (s.alatFr 8) = true → s.loadFrInto .cNc .integer 0 8 3 = .ok (s.setPsrBit Psr.mfl true)) ∧
    (s.alatCmp (s.alatFr 40) = true → s.loadPairInto .cNc .integer 0 40 9 3 =
      .ok ((s.setPsrBit Psr.mfh true).setPsrBit Psr.mfl true)) := by
  refine ⟨fun h => ?_, fun h => ?_⟩
  · simp only [State.loadFrInto, h]; rfl
  · simp only [State.loadPairInto, h]; rfl

/-- R604, R621, R635, R646, R705: sixteen-byte references, a register pair, and the register stack in memory, by hand. -/
theorem test_wide_references : [
    runs (.instr (.ld16M1 0 1 3 0 0)) mem0
      (fun t => t.gr 1 == ⟨0x1122334455667788, false⟩ && t.ar.csd == 0x123456789ABCDEF0),
    runs (.instr (.st16M4 0 2 3 0 0)) { stores0 with ar := { stores0.ar with csd := 0x0807060504030201 } }
      (holds 0x2000 [0x11, 0x00, 0xFF, 0xEE, 0xDD, 0xCC, 0xBB, 0xAA, 1, 2, 3, 4, 5, 6, 7, 8]),
    runs (.instr (.cmp8xchg16AcqM16 0 1 2 3 0)) (gr 3 0x2008 { stores0 with
        ar := { stores0.ar with csd := 0x0807060504030201, ccv := 0x123456789ABCDEF0 } })
      (fun t => t.gr 1 == ⟨0x123456789ABCDEF0, false⟩ &&
        holds 0x2000 [0x11, 0x00, 0xFF, 0xEE, 0xDD, 0xCC, 0xBB, 0xAA, 1, 2, 3, 4, 5, 6, 7, 8] t),
    runs (.instr (.ldfpsM11 0 8 9 3 0)) (place 0x2000 [0, 0, 0x80, 0x3F, 0, 0, 0xC0, 0xC0] mem0)
      (fun t => t.fpr 8 == one && t.fpr 9 == minusSix),
    runs (.instr .flushrsM25) dirtied (fun t => t.ar.bspstore == 0x8208 && t.ar.rnat == 0x4000000000000000 &&
      holds 0x81F0 [8, 7, 6, 5, 4, 3, 2, 1, 0, 0, 0, 0, 0, 0, 0, 0x40, 9, 0, 0, 0, 0, 0, 0, 0] t),
    runs (.instr .loadrsM25) unloaded (fun t => t.ar.bspstore == 0x81F0 && t.grStacked[94] == ⟨5, true⟩ &&
      t.grStacked[95] == ⟨0, false⟩),
    runs (.instr .flushrsM25) (first { bspAt 0x8000 base with
        ar := { base.ar with bsp := 0x8010, bspstore := 0x8000 }
        grStacked := (base.grStacked.set 94 ⟨0x0102030405060708, false⟩).set 95 ⟨9, false⟩ })
      (fun t => t.ar.bspstore == 0x8010 && holds 0x8000 [8, 7, 6, 5, 4, 3, 2, 1, 9, 0, 0, 0, 0, 0, 0, 0] t)].all id
    = true := by
  decide +kernel

/-- R208, R602: a walked page that is not present: the fault, the entry kept; a Machine Check over a translation register; a
speculative load that defers the fault keeps the entry. -/
theorem test_walk_then_fault :
    runs (.instr (.ld8M1 0 1 3 0 0)) walking (fun t => t.ip == 0x5000 && t.dtc.contains absent && t.gr 1 == walking.gr 1) = true ∧
    (match exec (.ld8M1 0 1 3 0 0) blocked with | .fault f => f == .machineCheck | _ => false) = true ∧
    runs (.instr (.ld8SM1 0 1 3 0 0)) nested (fun t => (t.gr 1).nat && t.dtc.contains absent) = true := by
  decide +kernel

/-- An outstanding trigger on the fourth byte of the doubleword at 0x2000, at privilege level 0, for a fatal error. -/
def armed : State := { mem0 with pal := { mem0.pal with
  trigger := some ⟨true, 0, 0x2003, ⟨2, true, ⟨0, 0, 0, 0, 0, 0⟩⟩⟩ } }

/-- R1101: a load of this core meets the trigger if it touches the byte at the trigger's level; a load beside it does not. -/
theorem test_trigger :
    runs (.instr (.ld8M1 0 1 3 0 0)) armed (fun t => t.checkPending && t.pal.trigger == none && t.pal.errors.length == 1) = true ∧
    runs (.instr (.ld2M1 0 1 3 0 0)) armed (fun t => !t.checkPending && t.pal.trigger == armed.pal.trigger) = true ∧
    runs (.instr (.ld8M1 0 1 3 0 0)) (psr 0x300000000 armed) (fun t => !t.checkPending) = true := by
  decide +kernel

/-- V2.7.20 through `step`: a word placed by `withFetchWord` is fetched, decoded and run as the first instruction. -/
theorem test_step_runs_placed_words :
    (match step (State.reset.withFetchWord 41 0x10800008140) with
      | .next t => t.gr 5 == ⟨4, false⟩
      | _ => false) = true ∧
    (match step (State.reset.withFetchWord 82 (0x0CDEF2E0100 + 0x048D159E26A * 2 ^ 41)) with
      | .next t => t.gr 4 == ⟨0x123456789ABCDEF0, false⟩ && t.ip == 16
      | _ => false) = true := by
  decide +kernel

end Sys2Proof.Tests
end

section
/-! ### What the invariants look at -/
namespace Sys2Proof.Machine

/-! #### Bits of PSR that are 0, addresses of bundles -/

/-- A word has no bit of a mask exactly where each bit of the mask is 0 in it. -/
theorem and_eq_zero_iff_bits (w m : Word) : w &&& m = 0 ↔ ∀ k, m.getLsbD k = true → w.getLsbD k = false := by
  constructor
  · intro h k hk
    have := congrArg (fun x => x.getLsbD k) h
    simpa [hk] using this
  · intro h
    apply BitVec.eq_of_getLsbD_eq
    intro k _
    cases hm : m.getLsbD k
    · simp [hm]
    · simp [h k hm]

theorem and_reserved_setBit {w m : Word} (h : w &&& m = 0) {k : Nat} (hk : k < 64) (hm : m.getLsbD k = false) (b : Bool) :
    setBit w k b &&& m = 0 := by
  rw [and_eq_zero_iff_bits] at h ⊢
  intro j hj
  have hne : j ≠ k := fun e => by simp [e, hm] at hj
  rw [getLsbD_setBit _ _ _ _ hk, if_neg hne, h j hj]

/-- A field written with a value that has none of the mask's bits leaves none of them. -/
theorem and_reserved_setFld {w m : Word} (h : w &&& m = 0) {lo len : Nat} (hlo : lo + len ≤ 64) {v : BitVec len}
    (hv : v &&& fld m lo len = 0) : setFld w lo v &&& m = 0 := by
  rw [and_eq_zero_iff_bits] at h ⊢
  intro j hj
  rw [getLsbD_setFld _ _ _ _ hlo]
  split
  · rename_i hin
    have := congrArg (fun x => x.getLsbD (j - lo)) hv
    have e : lo + (j - lo) = j := by omega
    have hlt : j - lo < len := by omega
    have hf : (fld m lo len).getLsbD (j - lo) = true := by rw [getLsbD_fld, e, hj]; simpa using hlt
    simpa only [BitVec.getLsbD_and, hf, Bool.and_true, BitVec.ofNat_eq_ofNat, BitVec.getLsbD_zero] using this
  · exact h j hj

theorem and_reserved_and {w m : Word} (h : w &&& m = 0) (k : Word) : w &&& k &&& m = 0 := by
  rw [and_eq_zero_iff_bits] at h ⊢
  intro j hj
  rw [BitVec.getLsbD_and, h j hj, Bool.false_and]

theorem and_not_and_self (w m : Word) : w &&& ~~~m &&& m = 0 := by
  rw [and_eq_zero_iff_bits]
  intro j hj
  simp [hj]

/-- The address of a bundle: bits 3:0 are 0 (R59). -/
def Aligned (a : Word) : Prop := fld a 0 4 = (0 : BitVec 4)

theorem aligned_iff (a : Word) : Aligned a ↔ a.toNat % 16 = 0 := by
  unfold Aligned fld
  rw [← BitVec.toNat_inj]
  simp [BitVec.extractLsb'_toNat]

theorem Aligned.add {a b : Word} (ha : Aligned a) (hb : Aligned b) : Aligned (a + b) := by
  rw [aligned_iff] at *
  rw [BitVec.toNat_add]
  omega

theorem aligned_shiftLeft (a : Word) : Aligned (a <<< 4) := by
  rw [aligned_iff, BitVec.toNat_shiftLeft, Nat.shiftLeft_eq]
  omega

theorem aligned_and_not (a : Word) : Aligned (a &&& ~~~(15 : Word)) := by
  apply BitVec.eq_of_getLsbD_eq
  intro k hk
  rw [getLsbD_fld, BitVec.getLsbD_and, BitVec.getLsbD_not]
  have h15 : (15 : Word).getLsbD (0 + k) = true := by
    have : k = 0 ∨ k = 1 ∨ k = 2 ∨ k = 3 := by omega
    rcases this with rfl | rfl | rfl | rfl <;> rfl
  rw [h15, Bool.not_true, Bool.and_false, Bool.and_false, Bool.and_false]
  exact BitVec.getLsbD_zero.symm

theorem aligned_vectorAddress (s : State) (v : Ivt) : Aligned (s.vectorAddress v) := by
  have h : v.offset.toNat % 16 = 0 := by cases v <;> rfl
  rw [aligned_iff, State.vectorAddress, BitVec.toNat_append, ← Nat.shiftLeft_add_eq_or_of_lt v.offset.isLt,
    Nat.shiftLeft_eq]
  omega

end Sys2Proof.Machine
end

section
/-! ### States that meet the invariants, and the operations that keep them -/
namespace Sys2Proof.Machine

/-- What the invariants ask of every state but for IP. -/
structure State.Sound (s : State) : Prop where
  mem : Memory.wf s.mem = true
  psr : s.psr &&& reservedPsr = 0
  ipsr : s.cr.ipsr &&& reservedPsr = 0
  frame : s.cfm.wf = true
  hints : s.dahs.length = Config.dahsDepth

/-- A sound state whose IP is a bundle's address: what holds while an Itanium instruction runs, until a branch is taken. -/
structure State.Running (s : State) : Prop extends s.Sound where
  ip : Aligned s.ip

theorem State.inv_iff (s : State) : s.Inv ↔ s.Sound ∧ (s.psrBit Psr.is = true ∨ Aligned s.ip) := by
  simp only [State.Inv, State.memoryOk, State.reservedOk, State.ipOk, State.frameOk, State.dahsOk, Aligned,
    Bool.and_eq_true, Bool.or_eq_true, beq_iff_eq]
  constructor
  · rintro ⟨hmem, ⟨hpsr, hipsr⟩, hip, hframe, hhints⟩
    exact ⟨⟨hmem, hpsr, hipsr, hframe, hhints⟩, hip⟩
  · rintro ⟨⟨hmem, hpsr, hipsr, hframe, hhints⟩, hip⟩
    exact ⟨hmem, ⟨hpsr, hipsr⟩, hip, hframe, hhints⟩

theorem State.Inv.sound {s : State} (h : s.Inv) : s.Sound := ((State.inv_iff s).mp h).1

theorem State.Running.inv {s : State} (h : s.Running) : s.Inv := (State.inv_iff s).mpr ⟨h.toSound, .inr h.ip⟩

theorem State.Inv.running {s : State} (h : s.Inv) (his : s.psrBit Psr.is = false) : s.Running :=
  have ⟨hs, hip⟩ := (State.inv_iff s).mp h
  { hs with ip := hip.resolve_left (by simp [his]) }

/-- The fields that the invariants look at. -/
def State.watched (s : State) : List Host.Cell × Word × Word × Word × Cfm × List (Vector (BitVec 16) 8) :=
  (s.mem, s.psr, s.cr.ipsr, s.ip, s.cfm, s.dahs)

theorem State.watched_eq_iff {s t : State} : t.watched = s.watched ↔
    t.mem = s.mem ∧ t.psr = s.psr ∧ t.cr.ipsr = s.cr.ipsr ∧ t.ip = s.ip ∧ t.cfm = s.cfm ∧ t.dahs = s.dahs := by
  simp [State.watched]

theorem State.Running.of_watched {s t : State} (h : s.Running) (e : t.watched = s.watched) : t.Running := by
  obtain ⟨hm, hp, hi, ha, hc, hd⟩ := State.watched_eq_iff.mp e
  exact ⟨⟨hm ▸ h.mem, hp ▸ h.psr, hi ▸ h.ipsr, hc ▸ h.frame, hd ▸ h.hints⟩, ha ▸ h.ip⟩

/-! #### Updates that the invariants do not see -/

section
variable {s : State}

theorem State.Running.setGr {r : BitVec 7} {v : Gr} (h : s.Running) : (s.setGr r v).Running :=
  h.of_watched (by simp [State.watched])

theorem State.Running.setPr {p : BitVec 6} {b : Bool} (h : s.Running) : (s.setPr p b).Running :=
  h.of_watched (by simp [State.watched])

theorem State.Running.setPrs {p q : BitVec 6} {b c : Bool} (h : s.Running) : (s.setPrs p q b c).Running :=
  h.setPr.setPr

theorem State.Running.setBr {b : BitVec 3} {v : Word} (h : s.Running) : (s.setBr b v).Running := h.of_watched rfl

theorem State.Running.setPredicates {v m : Word} (h : s.Running) : (s.setPredicates v m).Running := h.of_watched rfl

theorem State.Running.postUpdate {u : State} {r : BitVec 7} {p : Post} (h : s.Running) :
    (s.postUpdate u r p).Running :=
  h.of_watched (by simp [State.watched])

theorem State.Running.raiseFlags {sf : BitVec 2} {x : FpFlags} (h : s.Running) : (s.raiseFlags sf x).Running :=
  h.of_watched rfl

theorem State.Running.writePreds {ct : CmpType} {p q : BitVec 6} {rel nat : Bool} (h : s.Running) :
    (s.writePreds ct p q rel nat).Running := by
  unfold State.writePreds
  cases ct with
  | and | or | orAndcm =>
    dsimp only
    split
    · exact h.setPrs
    · exact h
  | normal | unc =>
    dsimp only
    split
    · exact h.setPrs
    · exact h.setPrs

theorem State.Running.pend {v : BitVec 8} (h : s.Running) : (s.pend v).Running := h.of_watched rfl

theorem State.Running.keepWalk {w : Option TlbEntry} (h : s.Running) : (s.keepWalk w).Running :=
  h.of_watched (by simp [State.watched])

theorem State.Running.keepInstWalk {w : Option TlbEntry} (h : s.Running) : (s.keepInstWalk w).Running := by
  cases w <;> exact h.of_watched rfl

theorem State.Running.meetTrigger {d : Bool} {a : Word} {n : Nat} (h : s.Running) : (s.meetTrigger d a n).Running := by
  obtain ⟨p, c, v, e⟩ := State.meetTrigger_eq s d a n
  exact h.of_watched (by rw [e]; rfl)

theorem State.Running.touch {a : Translation} (h : s.Running) : (s.touch a).Running := h.keepWalk.meetTrigger

theorem State.Running.alatInvalRange {a : Word} {n : Nat} (h : s.Running) : (s.alatInvalRange a n).Running :=
  h.of_watched rfl

theorem State.Running.alatInval (h : s.Running) : s.alatInval.Running := h.of_watched rfl

theorem State.Running.alatInvalEntry {r : AlatReg} (h : s.Running) : (s.alatInvalEntry r).Running := h.of_watched rfl

theorem State.Running.alatWrite {r : AlatReg} {a : Word} {n : Nat} (h : s.Running) : (s.alatWrite r a n).Running :=
  h.of_watched rfl

theorem State.Running.alatPrune (h : s.Running) : s.alatPrune.Running := h.of_watched rfl

theorem State.Running.loadAlat {t : LdType} {r : AlatReg} {a : Translation} {n : Nat} (h : s.Running) :
    (s.loadAlat t r a n).Running := by
  unfold State.loadAlat
  split
  · exact h.alatWrite
  · split
    · exact h.alatInvalEntry
    · exact h

theorem State.Running.skipAlat {t : LdType} {r : AlatReg} (h : s.Running) : (s.skipAlat t r).Running := by
  unfold State.skipAlat
  split
  · exact h.alatInvalEntry
  · exact h

theorem State.Running.purgeCaches (h : s.Running) : s.purgeCaches.Running := h.of_watched rfl

theorem State.Running.purgeTrs {inst : Bool} {va : Word} {ps : BitVec 6} (h : s.Running) :
    (s.purgeTrs inst va ps).Running := by
  cases inst <;> exact h.of_watched rfl

theorem State.Running.countEvent {ev : BitVec 8} (h : s.Running) : (s.countEvent ev).Running := h.of_watched rfl

theorem State.Running.setIndirect {f : IndFile} {i : Nat} {v : Word} (h : s.Running) :
    (s.setIndirect f i v).Running := by
  cases f with
  | pmc => unfold State.setIndirect State.pmcWrite; dsimp only; split <;> exact h.of_watched rfl
  | pmd => unfold State.setIndirect State.pmdWrite; dsimp only; split <;> exact h.of_watched rfl
  | _ => exact h.of_watched rfl

/-! #### Updates of PSR -/

theorem State.Running.withPsr {w : Word} (h : s.Running) (hw : w &&& reservedPsr = 0) :
    ({ s with psr := w } : State).Running :=
  { h with psr := hw }

theorem State.Running.setPsrBit {k : Nat} {b : Bool} (h : s.Running) (hk : k < 64)
    (hr : reservedPsr.getLsbD k = false) : (s.setPsrBit k b).Running :=
  h.withPsr (and_reserved_setBit h.psr hk hr b)

theorem State.Running.setCpl {v : BitVec 2} (h : s.Running) : (s.setCpl v).Running :=
  h.withPsr (and_reserved_setFld h.psr (by decide) (by rw [show fld reservedPsr 32 2 = (0 : BitVec 2) from rfl]; simp))

theorem State.Running.setRi {v : BitVec 2} (h : s.Running) : (s.setRi v).Running :=
  h.withPsr (and_reserved_setFld h.psr (by decide) (by rw [show fld reservedPsr 41 2 = (0 : BitVec 2) from rfl]; simp))

theorem State.Running.setUserMask {v : BitVec 6} (h : s.Running) : (s.setUserMask v).Running :=
  h.withPsr (and_reserved_setFld h.psr (by decide) (by rw [show fld reservedPsr 1 5 = (0 : BitVec 5) from rfl]; simp))

theorem State.Running.markModified {f : BitVec 7} (h : s.Running) : (s.markModified f).Running := by
  unfold State.markModified
  split
  · exact h.setPsrBit (by decide) (by decide)
  · exact h.setPsrBit (by decide) (by decide)

theorem State.Running.setFpr {f : BitVec 7} {v : Fr} (h : s.Running) : (s.setFpr f v).Running := by
  unfold State.setFpr
  split
  · exact h
  · exact State.Running.markModified (h.of_watched rfl)

theorem State.Running.promoted (h : s.Running) : s.promoted.Running := by
  unfold State.promoted
  split
  · split
    · split
      · exact h.setCpl
      · exact h
    · exact h
  · exact h.setCpl

/-! #### The hint stack -/

theorem dahrPush_length (s : State) : s.dahrPush.dahs.length = s.dahs.length := by
  simp [State.dahrPush]

theorem dahrPop_length (s : State) : s.dahrPop.dahs.length = s.dahs.length := by
  simp [State.dahrPop]

theorem State.Running.dahrPush (h : s.Running) : s.dahrPush.Running :=
  { h with hints := (dahrPush_length s).trans h.hints }

theorem State.Running.dahrPop (h : s.Running) : s.dahrPop.Running :=
  { h with hints := (dahrPop_length s).trans h.hints }

theorem State.Running.dahrRevert (h : s.Running) : s.dahrRevert.Running :=
  { h with hints := by simpa [State.dahrRevert] using h.hints }

/-! #### Memory -/

theorem State.Running.withMem {m : List Host.Cell} (h : s.Running) (hm : Memory.wf m = true) :
    ({ s with mem := m } : State).Running :=
  { h with mem := hm }

theorem State.Running.memWrite {pa : Word} {n : Nat} {be : Bool} {v : Word} (h : s.Running) :
    (s.memWrite pa n be v).Running :=
  h.withMem (Memory.writeBytes_wf h.mem _ _)

theorem State.Running.storeVpd {run : VirtualRun} {k : Nat} {v : Word} (h : s.Running) :
    (s.storeVpd run k v).Running := by
  unfold State.storeVpd
  dsimp only
  split
  · exact h
  · exact h.memWrite.alatInvalRange

theorem State.Running.receiveMessage {v : Word} (h : s.Running) : (s.receiveMessage v).Running := by
  unfold State.receiveMessage
  dsimp only
  split
  · split
    · exact h.pend
    · exact h
  all_goals exact h.of_watched rfl

/-! #### Frames -/

theorem State.Running.withCfm {c : Cfm} (h : s.Running) (hc : c.wf = true) : ({ s with cfm := c } : State).Running :=
  { h with frame := hc }

theorem Cfm.wf_iff (c : Cfm) : c.wf = true ↔ c.sof.toNat ≤ 96 ∧ c.sol.toNat ≤ c.sof.toNat ∧
    8 * c.sor.toNat ≤ c.sof.toNat ∧ (c.rrbGr = 0 ∨ c.rrbGr.toNat < 8 * c.sor.toNat) ∧ c.rrbFr.toNat < 96 ∧
    c.rrbPr.toNat < 48 := by
  simp [Cfm.wf]

theorem Cfm.wf_empty : Cfm.empty.wf = true := by decide

/-- A frame of the outputs alone (R552). -/
theorem Cfm.wf_outputs {c : Cfm} (h : c.wf = true) : ({ Cfm.empty with sof := c.sof - c.sol } : Cfm).wf = true := by
  rw [Cfm.wf_iff] at h ⊢
  have : (c.sof - c.sol).toNat ≤ c.sof.toNat := by
    rw [BitVec.toNat_sub_of_le (by rw [BitVec.le_def]; omega)]
    omega
  simp [Cfm.empty]
  omega

theorem toNat_pos_of_ne_zero {n : Nat} {x : BitVec n} (h : x ≠ 0) : 0 < x.toNat :=
  Nat.pos_of_ne_zero fun e => h (BitVec.eq_of_toNat_eq (by simpa using e))

theorem toNat_sub_one {n : Nat} {x : BitVec n} (h : x ≠ 0) : (x - 1).toNat = x.toNat - 1 := by
  have hpos := toNat_pos_of_ne_zero h
  have hlt := x.isLt
  have h1 : (1 : BitVec n).toNat = 1 := by
    rw [BitVec.ofNat_eq_ofNat, BitVec.toNat_ofNat, Nat.mod_eq_of_lt (Nat.lt_of_le_of_lt hpos hlt)]
  rw [BitVec.toNat_sub_of_le (by rw [BitVec.le_def, h1]; exact hpos), h1]

/-- Rotation keeps a frame marker legal (R56). -/
theorem Cfm.wf_rotate {c : Cfm} (h : c.wf = true) : c.rotate.wf = true := by
  rw [Cfm.wf_iff] at h ⊢
  obtain ⟨hsof, hsol, hsor, hgr, hfr, hpr⟩ := h
  refine ⟨hsof, hsol, hsor, ?_, ?_, ?_⟩ <;> dsimp only [Cfm.rotate]
  · split
    · exact hgr
    · rename_i h0
      have := toNat_pos_of_ne_zero h0
      have := c.sor.isLt
      right
      split
      · rw [BitVec.toNat_ofNat]; omega
      · rename_i h1
        have := hgr.resolve_left h1
        rw [toNat_sub_one h1]; omega
  · split
    · decide
    · rename_i h1
      rw [toNat_sub_one h1]; omega
  · split
    · decide
    · rename_i h1
      rw [toNat_sub_one h1]; omega

theorem State.Running.rotate (h : s.Running) : s.rotate.Running := h.withCfm (Cfm.wf_rotate h.frame)

theorem State.Running.leaveFrame {n : Nat} {c : Cfm} (h : s.Running) (hc : c.wf = true) :
    (s.leaveFrame n c).Running :=
  { h with frame := hc }

theorem State.Running.call {b : BitVec 3} (h : s.Running) : (s.call b).Running :=
  State.Running.dahrPush (State.Running.leaveFrame (h.of_watched rfl) (Cfm.wf_outputs h.frame))

theorem State.Running.countedLoop (h : s.Running) : s.countedLoop.Running := by
  unfold State.countedLoop
  split
  · exact State.Running.rotate (State.Running.setPr (h.of_watched rfl))
  · split
    · exact State.Running.rotate (State.Running.setPr (h.of_watched rfl))
    · exact h.setPr

theorem State.Running.whileLoop {qp : BitVec 6} (h : s.Running) : (s.whileLoop qp).Running := by
  unfold State.whileLoop
  split
  · exact h.setPr.rotate
  · split
    · exact State.Running.rotate (State.Running.setPr (h.of_watched rfl))
    · exact h.setPr

theorem State.Running.makeRoom {n : Nat} (h : s.Running) : (s.makeRoom n).Running :=
  h.of_watched (by simp [State.watched])

theorem State.Running.undefineRegs {a b : Nat} (h : s.Running) : (s.undefineRegs a b).Running :=
  h.of_watched (by simp [State.watched])

theorem State.Running.enableFrameLoad (h : s.Running) : s.enableFrameLoad.Running :=
  h.of_watched (by simp [State.watched])

/-- A frame marker that is legal, or that is not loaded because it does not fit (R558). -/
theorem State.Running.returnFrame {c : Cfm} {below : Nat} (h : s.Running)
    (hc : s.restoreFatal below c.sof.toNat = false → c.wf = true) : (s.returnFrame c below).Running := by
  have hr : (s.rseRestoreFrame below).Running := h.of_watched rfl
  unfold State.returnFrame
  dsimp only
  refine State.Running.enableFrameLoad (State.Running.alatPrune ?_)
  split
  · exact { hr with frame := Cfm.wf_empty }
  · rename_i hf
    exact (hr.withCfm (hc (by simpa using hf))).makeRoom.undefineRegs

theorem State.Running.returned (h : s.Running) (hb : s.badReturn = false) : s.returned.Running := by
  have hr := h.returnFrame (c := Cfm.ofBits (fld s.ar.pfs 0 38)) (below := (Cfm.ofBits (fld s.ar.pfs 0 38)).sol.toNat)
    fun hf => by simpa [State.badReturn, hf] using hb
  have hu : State.Running { s.returnFrame (Cfm.ofBits (fld s.ar.pfs 0 38)) (Cfm.ofBits (fld s.ar.pfs 0 38)).sol.toNat with
      ar := { (s.returnFrame (Cfm.ofBits (fld s.ar.pfs 0 38)) (Cfm.ofBits (fld s.ar.pfs 0 38)).sol.toNat).ar with
        ec := fld s.ar.pfs 52 6 } } := hr.of_watched rfl
  unfold State.returned
  refine State.Running.dahrPop ?_
  split
  · exact hu.setCpl
  · exact hu

theorem State.Running.enterIa32 (h : s.Running) : s.enterIa32.Running :=
  State.Running.setPsrBit (s := ({ s with cfm := Cfm.empty } : State).invalidateNonCurrent)
    { h with frame := Cfm.wf_empty } (by decide) (by decide)

theorem State.Running.restorePsr (h : s.Running) : s.restorePsr.Running := by
  unfold State.restorePsr
  dsimp only
  split
  · exact (h.withPsr h.ipsr).dahrPop
  · exact h.withPsr h.ipsr

theorem State.Running.interruptReturn (h : s.Running)
    (hc : bit s.cr.ifs 63 = true → (Cfm.ofBits (fld s.cr.ifs 0 38)).wf = true) : s.interruptReturn.Running := by
  unfold State.interruptReturn
  dsimp only
  split
  · rename_i hv
    exact h.restorePsr.returnFrame fun _ => hc hv
  · exact h.restorePsr.enableFrameLoad

end

end Sys2Proof.Machine
end

section
/-! ### Interruptions, completion, and the outcomes of an instruction -/
namespace Sys2Proof.Machine

/-! #### Delivery (R1120) -/

theorem entryPsr_reserved (s : State) : s.entryPsr &&& reservedPsr = 0 := by
  refine and_reserved_setBit (and_reserved_setBit ?_ (by decide) (by decide) _) (by decide) (by decide) _
  rw [BitVec.and_assoc, show Psr.keptOnEntry &&& reservedPsr = 0 from rfl, BitVec.ofNat_eq_ofNat, BitVec.and_zero]

theorem enterHandler_running {i : Interruption} {s : State} (h : s.Sound) : (enterHandler i s).Running where
  mem := by rw [enterHandler_mem]; exact h.mem
  psr := entryPsr_reserved s
  ipsr := by
    unfold enterHandler
    dsimp only
    split
    · exact h.psr
    · exact h.ipsr
  frame := by rw [enterHandler_cfm]; exact h.frame
  hints := by
    unfold enterHandler
    dsimp only
    split
    · exact (dahrPush_length _).trans h.hints
    · exact h.hints
  ip := aligned_vectorAddress s i.vector

/-- PAL's intercept hand-off: a write of the VPD, PSR bits cleared, the handler's bundle (R1076, R1080). -/
theorem State.Running.intercept {s : State} {op : Slot} (h : s.Running) : (s.intercept op).Running := by
  unfold State.intercept
  split
  · exact h
  · rename_i run _
    have ht : (s.storeVpr run).Running := h.storeVpd
    refine { ht with psr := ?_, ip := ?_ } <;> dsimp only <;> split
    · exact and_reserved_setBit (and_reserved_setBit ht.psr (by decide) (by decide) _) (by decide) (by decide) _
    · exact ht.psr
    · exact ht.ip
    · exact aligned_and_not _

/-- Taking an interruption, at whatever address, reaches a bundle's address in a sound state. -/
theorem deliver_running {i : Interruption} {s : State} (h : s.Sound) : (deliver i s).Running := by
  unfold deliver
  split
  · exact (enterHandler_running h).intercept
  · exact enterHandler_running h

/-! #### Completion (R1245) -/

/-- The target of a taken branch is a bundle's address, unless the branch leaves to the IA-32 instruction set. -/
def Flow.Lands (t : State) : Flow → Prop
  | .sequential | .nextBundle => True
  | .branch a _ | .returned a => t.psrBit Psr.is = true ∨ Aligned a

/-- A completed instruction leaves what the invariants ask. -/
structure Done.Keeps (d : Done) : Prop where
  running : d.st.Running
  lands : d.flow.Lands d.st

theorem takeTraps_inv {code : BitVec 16} {slot : BitVec 2} {t : State} (h : t.Inv) : (takeTraps code slot t).Inv := by
  unfold takeTraps
  rw [trapsUnimplemented_eq, if_neg Bool.false_ne_true]
  split
  · exact h
  · exact (deliver_running h.sound).inv

theorem State.Inv.countEvent {s : State} {ev : BitVec 8} (h : s.Inv) : (s.countEvent ev).Inv := h

/-- Moving on from a running state by a flow that lands reaches a state that meets the invariants. -/
theorem goto_inv {s : State} {f : Flow} (h : s.Running) (hf : f.Lands s) : (s.goto f).Inv := by
  have h16 : Aligned (s.ip + 16) := h.ip.add rfl
  have his (v : BitVec 2) : (s.setRi v).psrBit Psr.is = s.psrBit Psr.is := by
    rw [State.psrBit, State.setRi_psr, bit_setFld _ _ _ _ (by decide)]
    rfl
  cases f with
  | sequential =>
    unfold State.goto
    dsimp only
    split
    · exact h.setRi.inv
    · split
      · exact h.setRi.inv
      · exact State.Running.inv { h.setRi with ip := h16 }
  | nextBundle => exact State.Running.inv { h.setRi with ip := h16 }
  | branch a l =>
    have hr : (s.setRi 0).Running := h.setRi
    exact (State.inv_iff _).mpr ⟨{ hr.toSound with }, hf.imp_left (his 0).trans⟩
  | returned a => exact (State.inv_iff _).mpr ⟨{ h.toSound with }, hf⟩

theorem lands_of_psrBit_eq {s t : State} {f : Flow} (h : f.Lands s) (e : t.psrBit Psr.is = s.psrBit Psr.is) : f.Lands t := by
  cases f with
  | sequential => trivial
  | nextBundle => trivial
  | branch a l => exact h.imp_left e.trans
  | returned a => exact h.imp_left e.trans

/-- The completion of an instruction keeps the invariants. -/
theorem retire_inv {d : Done} (h : d.Keeps) : (retire d).Inv := by
  obtain ⟨hr, hf⟩ := h
  have hs : State.Running { d.st with
      lastIp := d.lastIp.getD d.st.ip
      midGroup := !d.flow.endsGroup d.st
      progress := d.st.progress.completed d.flow (d.st.psrBit Psr.ic) } := hr.of_watched rfl
  have hc := hs.withPsr (and_reserved_and hs.psr (~~~Psr.oneShot))
  have hl := lands_of_psrBit_eq hf (t := { d.st with psr := d.st.psr &&& ~~~Psr.oneShot })
    (bit_clear_oneShot _ _ (by decide))
  unfold retire
  dsimp only
  split
  · rename_i a e
    exact takeTraps_inv (State.Inv.countEvent ((State.inv_iff _).mpr ⟨{ hs.toSound with }, by rw [e] at hf; exact hf⟩))
  · exact takeTraps_inv (State.Inv.countEvent (goto_inv hc (lands_of_psrBit_eq hl rfl)))

/-! #### Outcomes -/

/-- The next state, if there is one, meets the invariants. -/
def KeepsInv (o : Host.Outcome State Fault Refusal) : Prop := ∀ t, o = .next t → t.Inv

theorem keepsInv_next {t : State} (h : t.Inv) : KeepsInv (.next t) := fun _ e => by cases e; exact h

theorem keepsInv_fault {f : Fault} : KeepsInv (.fault f) := fun _ e => by cases e

/-- An instruction that stops in the middle does so in a sound state. -/
def Stop.Keeps : Stop → Prop
  | .interruptAt t _ => t.Sound
  | .interrupt _ | .stuck _ => True

/-- What a computation yields satisfies `P`; where it stops, the state it stops in is sound. -/
def Yields {α : Type} (x : Except Stop α) (P : α → Prop) : Prop :=
  match x with
  | .ok a => P a
  | .error e => e.Keeps

section
variable {α β : Type} {P : α → Prop} {Q : β → Prop}

theorem Yields.bind {x : Except Stop α} {f : α → Except Stop β} (hx : Yields x P) (hf : ∀ a, P a → Yields (f a) Q) :
    Yields (x >>= f) Q := by
  cases x with
  | ok a => exact hf a hx
  | error e => exact hx

theorem Yields.mono {P' : α → Prop} {x : Except Stop α} (hx : Yields x P) (hp : ∀ a, P a → P' a) : Yields x P' := by
  cases x with
  | ok a => exact hp a hx
  | error e => exact hx

/-- After a check, which has not raised its fault. -/
theorem Yields.check {c : Bool} {i : Interruption} {f : Unit → Except Stop β} (hf : c = false → Yields (f ()) Q) :
    Yields (check c i >>= f) Q := by
  cases c with
  | false => exact hf rfl
  | true => trivial

theorem Yields.stuckIf {c : Bool} {e : Fault} {f : Unit → Except Stop β} (hf : c = false → Yields (f ()) Q) :
    Yields (stuckIf c e >>= f) Q := by
  cases c with
  | false => exact hf rfl
  | true => trivial

end

theorem yields_done {t : State} (h : t.Running) : Yields (done t) Done.Keeps := ⟨h, trivial⟩

theorem yields_taken {t : State} {a : Word} {l : Bool} (h : t.Running) (ha : Aligned a) :
    Yields (taken t a l) Done.Keeps := ⟨h, .inr ha⟩

theorem yields_nextBundle {t : State} (h : t.Running) : Yields (.ok { st := t, flow := .nextBundle }) Done.Keeps :=
  ⟨h, trivial⟩

/-- A meaning whose body keeps what the invariants ask keeps the invariants. -/
theorem finish_keeps {s : State} {b : Body} (hs : s.Running) (hb : Yields b Done.Keeps) : KeepsInv (finish s b) := by
  match b, hb with
  | .ok d, hb => exact keepsInv_next (retire_inv hb)
  | .error (.interrupt i), _ => exact keepsInv_next (deliver_running hs.toSound).inv
  | .error (.interruptAt t i), hb => exact keepsInv_next (deliver_running hb).inv
  | .error (.stuck f), _ => exact keepsInv_fault

theorem predicated_keeps {qp : BitVec 6} {s : State} {b : Body} (hs : s.Running) (hb : Yields b Done.Keeps) :
    KeepsInv (predicated qp s b) := by
  refine finish_keeps hs ?_
  split
  · exact hb
  · exact yields_done hs

theorem predicatedLong_keeps {qp : BitVec 6} {s : State} {b : Except Stop State} (hs : s.Running)
    (hb : Yields b State.Running) : KeepsInv (predicatedLong qp s b) := by
  refine finish_keeps hs ?_
  split
  · exact hb.bind fun _ ht => yields_nextBundle ht
  · exact yields_nextBundle hs

end Sys2Proof.Machine
end

section
/-! ### The shared operations of the instructions -/
namespace Sys2Proof.Machine

section
variable {s : State}

/-! #### References -/

theorem faulted_yields {α : Type} {P : α → Prop} {x : Faulted} (h : s.Running) : Yields (s.faulted x) P :=
  Yields.stuckIf fun _ => h.keepWalk.toSound

theorem dataReference_yields {on : Bool} {va : Word} {r : Ref} (h : s.Running) :
    Yields (s.dataReference on va r) fun _ => True := by
  unfold State.dataReference
  split
  · exact faulted_yields h
  · exact Yields.stuckIf fun _ => trivial

theorem translateQuery_yields {va : Word} {acc : Access} {fc : Bool} (h : s.Running) :
    Yields (s.translateQuery va acc fc) fun _ => True := by
  unfold State.translateQuery
  split
  · exact faulted_yields h
  · exact Yields.stuckIf fun _ => trivial

theorem blockRead_yields {off n : Nat} {ma : BitVec 3} : Yields (s.blockRead off n ma) fun _ => True := by
  unfold State.blockRead
  split <;> trivial

theorem load_yields {pa : Word} {n : Nat} {be : Bool} {ma : BitVec 3} : Yields (s.load pa n be ma) fun _ => True := by
  unfold State.load
  split
  · exact blockRead_yields
  · trivial

theorem receiveMessage_cfm (s : State) (v : Word) : (s.receiveMessage v).cfm = s.cfm := by
  unfold State.receiveMessage
  dsimp only
  split
  · split <;> rfl
  all_goals rfl

/-- A store keeps what the invariants ask, and the frame marker. -/
theorem store_yields {pa : Word} {n : Nat} {be : Bool} {ma : BitVec 3} {v : Word} (h : s.Running) :
    Yields (s.store pa n be ma v) fun t => t.Running ∧ t.cfm = s.cfm := by
  unfold State.store
  split
  · unfold State.blockWrite
    dsimp only
    split
    · split
      · exact ⟨h.receiveMessage, receiveMessage_cfm s v⟩
      · exact ⟨h, rfl⟩
    · split
      · exact ⟨h.of_watched rfl, rfl⟩
      · trivial
  · exact ⟨h.memWrite, rfl⟩

theorem storeAt_yields {a : Translation} {n : Nat} {v : Word} (h : s.Running) :
    Yields (s.storeAt a n v) State.Running :=
  (store_yields h).bind fun _ ht => ht.1.touch.alatInvalRange

theorem loadAddress_yields {t : LdType} {hint : BitVec 3} {base : Gr} {r : Ref} (h : s.Running) :
    Yields (s.loadAddress t hint base r) fun _ => True := by
  unfold State.loadAddress
  split
  · trivial
  · split
    · split
      · exact Yields.stuckIf fun _ => trivial
      · exact faulted_yields h
    · refine Yields.stuckIf fun _ => ?_
      split
      · trivial
      · split <;> trivial

/-- An optional instruction that is not there is an Illegal Operation (R1130). -/
theorem ifImplemented_keeps {present : Bool} {qp : BitVec 6} {run : Host.Outcome State Fault Refusal} (h : s.Running)
    (hr : KeepsInv run) : KeepsInv (ifImplemented present qp s run) := by
  cases present with
  | true => exact hr
  | false => exact predicated_keeps h trivial

/-! #### Integer loads and stores -/

theorem writeGr_keeps {qp : BitVec 6} {r : BitVec 7} {v : Gr} (h : s.Running) : KeepsInv (writeGr qp r v s) :=
  predicated_keeps h (Yields.check fun _ => yields_done h.setGr)

theorem loadInto_yields {t : LdType} {fill : Bool} {n : Nat} {hint : BitVec 3} {r1 r3 : BitVec 7} (h : s.Running) :
    Yields (s.loadInto t fill n hint r1 r3) State.Running := by
  unfold State.loadInto
  dsimp only
  split
  · exact h.skipAlat
  · refine (loadAddress_yields h).bind fun d _ => ?_
    cases d with
    | deferred w => exact h.keepWalk.skipAlat.setGr
    | memory a => exact load_yields.bind fun _ _ => h.touch.loadAlat.setGr

theorem loadGr_keeps {t : LdType} {fill : Bool} {n : Nat} {hint : BitVec 3} {p : Post} {qp : BitVec 6}
    {r1 r3 : BitVec 7} (h : s.Running) : KeepsInv (loadGr t fill n hint p qp r1 r3 s) :=
  predicated_keeps h <| Yields.check fun _ => Yields.check fun _ => Yields.check fun _ => Yields.check fun _ =>
    (loadInto_yields h).bind fun _ hu => yields_done hu.postUpdate

theorem load16_keeps {qp : BitVec 6} {r1 r3 : BitVec 7} (h : s.Running) : KeepsInv (load16 qp r1 r3 s) := by
  refine ifImplemented_keeps h <| predicated_keeps h <| Yields.check fun _ => Yields.check fun _ =>
    (loadAddress_yields h).bind fun d _ => ?_
  cases d with
  | deferred w => exact yields_done h.keepWalk
  | memory a =>
    exact load_yields.bind fun _ _ => load_yields.bind fun _ _ => yields_done ((h.touch.setGr).of_watched rfl)

theorem storeGr_keeps {n : Nat} {p : Post} {qp : BitVec 6} {r2 r3 : BitVec 7} (h : s.Running) :
    KeepsInv (storeGr n p qp r2 r3 s) :=
  predicated_keeps h <| Yields.check fun _ => Yields.check fun _ => (dataReference_yields h).bind fun _ _ =>
    (storeAt_yields h).bind fun _ hu => yields_done hu.postUpdate

theorem storeSpill_keeps {p : Post} {qp : BitVec 6} {r2 r3 : BitVec 7} (h : s.Running) :
    KeepsInv (storeSpill p qp r2 r3 s) :=
  predicated_keeps h <| Yields.check fun _ => Yields.check fun _ => (dataReference_yields h).bind fun _ _ =>
    (storeAt_yields h).bind fun _ hu => yields_done (State.Running.postUpdate (hu.of_watched rfl))

theorem store16_keeps {qp : BitVec 6} {r2 r3 : BitVec 7} (h : s.Running) : KeepsInv (store16 qp r2 r3 s) :=
  ifImplemented_keeps h <| predicated_keeps h <| Yields.check fun _ => (dataReference_yields h).bind fun _ _ =>
    (storeAt_yields h).bind fun _ hu => (storeAt_yields hu).bind fun _ hv => yields_done hv

theorem prefetch_keeps {p : Post} {qp : BitVec 6} {r3 : BitVec 7} (h : s.Running) : KeepsInv (prefetch p qp r3 s) :=
  predicated_keeps h <| Yields.check fun _ => yields_done h.postUpdate

theorem prefetchFault_keeps {p : Post} {qp : BitVec 6} {r3 : BitVec 7} (h : s.Running) :
    KeepsInv (prefetchFault p qp r3 s) := by
  refine predicated_keeps h <| Yields.check fun _ => ?_
  split
  · exact yields_done h.postUpdate
  · exact Yields.check fun _ => (dataReference_yields h).bind fun _ _ => yields_done h.touch.postUpdate

/-! #### Semaphores -/

/-- A semaphore keeps the invariants if its write does. -/
theorem semaphore_keeps {n : Nat} {qp : BitVec 6} {r1 r3 : BitVec 7} {nat : Bool}
    {write : State → Translation → Word → Except Stop State} (h : s.Running)
    (hw : ∀ u a old, u.Running → Yields (write u a old) State.Running) : KeepsInv (semaphore n qp r1 r3 nat write s) :=
  predicated_keeps h <| Yields.check fun _ => Yields.check fun _ => (dataReference_yields h).bind fun _ _ =>
    load_yields.bind fun _ _ => (hw _ _ _ h.touch).bind fun _ hu => yields_done hu.alatInvalRange.setGr

theorem exchange_keeps {n : Nat} {qp : BitVec 6} {r1 r2 r3 : BitVec 7} (h : s.Running) :
    KeepsInv (exchange n qp r1 r2 r3 s) :=
  semaphore_keeps h fun _ _ _ hu => storeAt_yields hu

theorem compareExchange_keeps {n : Nat} {qp : BitVec 6} {r1 r2 r3 : BitVec 7} (h : s.Running) :
    KeepsInv (compareExchange n qp r1 r2 r3 s) := by
  refine semaphore_keeps h fun _ _ _ hu => ?_
  split
  · exact storeAt_yields hu
  · exact hu

theorem compareExchange16_keeps {qp : BitVec 6} {r1 r2 r3 : BitVec 7} (h : s.Running) :
    KeepsInv (compareExchange16 qp r1 r2 r3 s) := by
  refine ifImplemented_keeps h <| semaphore_keeps h fun _ _ _ hu => ?_
  split
  · exact (storeAt_yields hu).bind fun _ hv => storeAt_yields hv
  · exact hu

theorem fetchAdd_keeps {n : Nat} {qp : BitVec 6} {r1 r3 : BitVec 7} {inc : BitVec 3} (h : s.Running) :
    KeepsInv (fetchAdd n qp r1 r3 inc s) :=
  semaphore_keeps h fun _ _ _ hu => storeAt_yields hu

/-! #### Compares, parallel instructions, speculation checks -/

theorem compare_keeps {ct : CmpType} {qp p1 p2 : BitVec 6} {rel nat : Bool} (h : s.Running) :
    KeepsInv (compare ct qp p1 p2 rel nat s) := by
  refine finish_keeps h ?_
  split
  · exact Yields.check fun _ => yields_done h.writePreds
  · split
    · exact Yields.check fun _ => yields_done h.setPrs
    · exact yields_done h

theorem noEffect_keeps {qp : BitVec 6} (h : s.Running) : KeepsInv (noEffect qp s) := predicated_keeps h (yields_done h)

theorem shiftAdd2_keeps {f : Nat → BitVec 16 → BitVec 16 → BitVec 16} {qp : BitVec 6} {r1 r2 r3 : BitVec 7}
    {ct : BitVec 2} (h : s.Running) : KeepsInv (shiftAdd2 f qp r1 r2 r3 ct s) :=
  predicated_keeps h <| Yields.check fun _ => Yields.check fun _ => yields_done h.setGr

theorem muxBytes_keeps {qp : BitVec 6} {r1 r2 : BitVec 7} {mbt : BitVec 4} (h : s.Running) :
    KeepsInv (muxBytes qp r1 r2 mbt s) :=
  predicated_keeps h <| Yields.check fun _ => Yields.check fun _ => yields_done h.setGr

theorem aligned_target25 {d : BitVec 21} (h : s.Running) : Aligned (s.target25 d) := h.ip.add (aligned_shiftLeft _)

theorem aligned_target64 {d : BitVec 60} (h : s.Running) : Aligned (s.target64 d) := h.ip.add (aligned_shiftLeft _)

theorem checkFails_yields {type : Config.CheckType} {d : BitVec 21} (h : s.Running) :
    Yields (checkFails type d s) Done.Keeps :=
  yields_taken h (aligned_target25 h)

theorem checkSpeculation_keeps {qp : BitVec 6} {r2 : BitVec 7} {d : BitVec 21} (h : s.Running) :
    KeepsInv (checkSpeculation qp r2 d s) := by
  refine predicated_keeps h ?_
  split
  · exact checkFails_yields h
  · exact yields_done h

theorem checkAdvanced_yields {type : Config.CheckType} {clear : Bool} {reg : AlatReg} {d : BitVec 21} (h : s.Running) :
    Yields (checkAdvanced type clear reg d s) Done.Keeps := by
  unfold checkAdvanced
  split
  · refine yields_done ?_
    split
    · exact h.alatInvalEntry
    · exact h
  · exact checkFails_yields h

/-! #### Floating-point loads, stores and moves -/

theorem loadWide_yields {a : Translation} {n : Nat} : Yields (s.loadWide a n) fun _ => True := by
  unfold State.loadWide
  split
  · exact load_yields.bind fun _ _ => trivial
  · split <;> trivial

theorem readFr_yields {f : FpFormat} {a : Translation} : Yields (s.readFr f a) fun _ => True := by
  cases f with
  | whole => exact load_yields.bind fun _ _ => load_yields.bind fun _ _ => trivial
  | _ => exact loadWide_yields.bind fun _ _ => trivial

theorem storeWide_yields {a : Translation} {n : Nat} {v : BitVec 80} (h : s.Running) :
    Yields (s.storeWide a n v) State.Running := by
  unfold State.storeWide
  split
  · exact (store_yields h).mono fun _ => And.left
  · split
    · trivial
    · exact h.withMem (Memory.writeBytes_wf h.mem _ _)

theorem writeFr_yields {f : FpFormat} {a : Translation} {x : Fr} (h : s.Running) :
    Yields (s.writeFr f a x) State.Running := by
  cases f with
  | whole => exact (store_yields h).bind fun _ hu => (store_yields hu.1).mono fun _ => And.left
  | _ => exact storeWide_yields h

theorem loadFrInto_yields {t : LdType} {f : FpFormat} {hint : BitVec 3} {f1 r3 : BitVec 7} (h : s.Running) :
    Yields (s.loadFrInto t f hint f1 r3) State.Running := by
  unfold State.loadFrInto
  dsimp only
  split
  · exact h.skipAlat.markModified
  · refine (loadAddress_yields h).bind fun d _ => ?_
    cases d with
    | deferred w => exact h.keepWalk.skipAlat.setFpr
    | memory a => exact readFr_yields.bind fun _ _ => h.touch.loadAlat.setFpr

theorem loadFr_keeps {t : LdType} {f : FpFormat} {hint : BitVec 3} {p : Post} {qp : BitVec 6} {f1 r3 : BitVec 7}
    (h : s.Running) : KeepsInv (loadFr t f hint p qp f1 r3 s) :=
  predicated_keeps h <| Yields.check fun _ => Yields.check fun _ => Yields.check fun _ => Yields.check fun _ =>
    (loadFrInto_yields h).bind fun _ hu => yields_done hu.postUpdate

theorem loadPairInto_yields {t : LdType} {f : FpFormat} {hint : BitVec 3} {f1 f2 r3 : BitVec 7} (h : s.Running) :
    Yields (s.loadPairInto t f hint f1 f2 r3) State.Running := by
  unfold State.loadPairInto
  dsimp only
  split
  · exact h.skipAlat.markModified.markModified
  · refine (loadAddress_yields h).bind fun d _ => ?_
    cases d with
    | deferred w => exact h.keepWalk.skipAlat.setFpr.setFpr
    | memory a =>
      exact readFr_yields.bind fun _ _ => readFr_yields.bind fun _ _ => h.touch.loadAlat.setFpr.setFpr

theorem loadPair_keeps {t : LdType} {f : FpFormat} {hint : BitVec 3} {p : Post} {qp : BitVec 6} {f1 f2 r3 : BitVec 7}
    (h : s.Running) : KeepsInv (loadPair t f hint p qp f1 f2 r3 s) :=
  predicated_keeps h <| Yields.check fun _ => Yields.check fun _ => Yields.check fun _ => Yields.check fun _ =>
    Yields.check fun _ => Yields.check fun _ => (loadPairInto_yields h).bind fun _ hu => yields_done hu.postUpdate

theorem storeFr_keeps {f : FpFormat} {p : Post} {qp : BitVec 6} {f2 r3 : BitVec 7} (h : s.Running) :
    KeepsInv (storeFr f p qp f2 r3 s) :=
  predicated_keeps h <| Yields.check fun _ => Yields.check fun _ => Yields.check fun _ =>
    (dataReference_yields h).bind fun _ _ => (writeFr_yields h).bind fun _ hu =>
      yields_done hu.touch.alatInvalRange.postUpdate

theorem setFrFrom_keeps {image : Word → Fr} {qp : BitVec 6} {f1 r2 : BitVec 7} (h : s.Running) :
    KeepsInv (setFrFrom image qp f1 r2 s) :=
  predicated_keeps h <| Yields.check fun _ => Yields.check fun _ => yields_done h.setFpr

theorem getFrTo_keeps {image : Fr → Word} {qp : BitVec 6} {r1 f2 : BitVec 7} (h : s.Running) :
    KeepsInv (getFrTo image qp r1 f2 s) :=
  predicated_keeps h <| Yields.check fun _ => Yields.check fun _ => yields_done h.setGr

/-! #### Floating-point arithmetic -/

/-- A completed instruction with a Floating-point Exception trap pending. -/
theorem yields_trapping {t : State} {x : Option (BitVec 16)} (h : t.Running) :
    Yields (.ok { st := t, fpTrap := x }) Done.Keeps := ⟨h, trivial⟩

theorem scalarArith_keeps {qp : BitVec 6} {f1 : BitVec 7} {srcs : List (BitVec 7)} {sf : BitVec 2} {r : FpHalf Fr}
    (h : s.Running) : KeepsInv (scalarArith qp f1 srcs sf r s) := by
  refine predicated_keeps h <| Yields.check fun _ => Yields.check fun _ => ?_
  split
  · exact yields_done h.setFpr
  · exact Yields.check fun _ => yields_trapping h.raiseFlags.setFpr

theorem parallelArith_keeps {qp : BitVec 6} {f1 : BitVec 7} {srcs : List (BitVec 7)} {sf : BitVec 2}
    {hi lo : FpHalf (BitVec 32)} (h : s.Running) : KeepsInv (parallelArith qp f1 srcs sf hi lo s) := by
  refine predicated_keeps h <| Yields.check fun _ => Yields.check fun _ => ?_
  split
  · exact yields_done h.setFpr
  · exact Yields.check fun _ => yields_trapping h.raiseFlags.setFpr

theorem compareFr_keeps {r : FpRel} {unc : Bool} {qp p1 p2 : BitVec 6} {f2 f3 : BitVec 7} {sf : BitVec 2}
    (h : s.Running) : KeepsInv (compareFr r unc qp p1 p2 f2 f3 sf s) := by
  refine finish_keeps h ?_
  split
  · refine Yields.check fun _ => Yields.check fun _ => ?_
    split
    · exact yields_done h.setPrs
    · exact Yields.check fun _ => yields_done h.raiseFlags.setPrs
  · split
    · exact Yields.check fun _ => yields_done h.setPrs
    · exact yields_done h

theorem approximation_keeps {qp p2 : BitVec 6} {f1 : BitVec 7} {srcs : List (BitVec 7)} {sf : BitVec 2} {r : Approx}
    (h : s.Running) : KeepsInv (approximation qp p2 f1 srcs sf r s) := by
  refine finish_keeps h ?_
  split
  · refine Yields.check fun _ => Yields.check fun _ => ?_
    split
    · exact yields_done h.setFpr.setPr
    · exact Yields.check fun _ => yields_done h.raiseFlags.setFpr.setPr
  · exact yields_done h.setPr

theorem parallelApproximation_keeps {qp p2 : BitVec 6} {f1 : BitVec 7} {srcs : List (BitVec 7)} {sf : BitVec 2}
    {half : Bool → (Fr → BitVec 32) → Approx} (h : s.Running) :
    KeepsInv (parallelApproximation qp p2 f1 srcs sf half s) := by
  refine finish_keeps h ?_
  split
  · refine Yields.check fun _ => Yields.check fun _ => ?_
    split
    · exact yields_done h.setFpr.setPr
    · exact Yields.check fun _ => yields_done h.raiseFlags.setFpr.setPr
  · exact yields_done h.setPr

theorem writeFp_keeps {qp : BitVec 6} {f1 : BitVec 7} {srcs : List (BitVec 7)} {v : Fr} (h : s.Running) :
    KeepsInv (writeFp qp f1 srcs v s) :=
  predicated_keeps h <| Yields.check fun _ => Yields.check fun _ => yields_done h.setFpr

theorem classify_keeps {unc : Bool} {qp p1 p2 : BitVec 6} {f2 : BitVec 7} {c : BitVec 9} (h : s.Running) :
    KeepsInv (classify unc qp p1 p2 f2 c s) := by
  refine finish_keeps h ?_
  split
  · refine Yields.check fun _ => Yields.check fun _ => ?_
    split
    · exact yields_done h.setPrs
    · exact yields_done h.setPrs
  · split
    · exact Yields.check fun _ => yields_done h.setPrs
    · exact yields_done h

end

end Sys2Proof.Machine
end

section
/-! ### Branches, register moves, the register stack, the system instructions -/
namespace Sys2Proof.Machine

section
variable {s : State}

/-! #### Branches -/

theorem branchIf_yields {c : Bool} {t : State} {a : Word} (h : t.Running) (ha : Aligned a) :
    Yields (branchIf c t a) Done.Keeps := by
  unfold branchIf
  split
  · exact yields_taken h ha
  · exact yields_done h

theorem branchCall_keeps {qp : BitVec 6} {b : BitVec 3} {a : Word} (h : s.Running) (ha : Aligned a) :
    KeepsInv (branchCall qp b a s) :=
  predicated_keeps h (yields_taken h.call ha)

theorem longBranch_keeps {qp : BitVec 6} {t : State} {a : Word} (h : s.Running) (ht : t.Running) (ha : Aligned a) :
    KeepsInv (longBranch qp t a s) := by
  refine finish_keeps h <| Yields.stuckIf fun _ => Yields.check fun _ => ?_
  split
  · exact yields_taken ht ha
  · exact yields_nextBundle h

/-- A loop branch, after its check that it stands in slot 2 (R555). -/
theorem loopBranch_keeps {c : Bool} {t : State} {a : Word} (h : s.Running) (ht : t.Running) (ha : Aligned a) :
    KeepsInv (finish s (s.checkSlot2 >>= fun _ => branchIf c t a)) :=
  finish_keeps h <| Yields.check fun _ => branchIf_yields ht ha

theorem branchReturn_keeps {qp : BitVec 6} {b2 : BitVec 3} {d : BitVec 1} {wh : BitVec 2} {p : BitVec 1}
    (h : s.Running) : KeepsInv (execBrRetB4 qp b2 d wh p s) :=
  predicated_keeps h <| Yields.check fun hb => yields_taken (h.returned hb) (aligned_and_not _)

/-- `br.ia` leaves Itanium instructions: its target need be no bundle's address. -/
theorem branchIa_keeps {qp : BitVec 6} {b2 : BitVec 3} {d : BitVec 1} {wh : BitVec 2} {p : BitVec 1} (h : s.Running) :
    KeepsInv (execBrIaB4 qp b2 d wh p s) := by
  have his : s.enterIa32.psrBit Psr.is = true := by
    rw [State.enterIa32, State.psrBit, State.setPsrBit_psr, bit_setBit _ _ _ _ (by decide), if_pos rfl]
  exact finish_keeps h <| Yields.stuckIf fun _ => Yields.check fun _ => Yields.check fun _ => Yields.check fun _ =>
    ⟨h.enterIa32, .inl his⟩

theorem cover_keeps (h : s.Running) : KeepsInv (execCoverB8 s) := by
  have ht := h.leaveFrame (n := s.cfm.sof.toNat) Cfm.wf_empty
  refine finish_keeps h <| Yields.check fun _ => Yields.check fun _ => yields_done ?_
  split
  · exact ht
  · exact ht.of_watched rfl

theorem clrrrb_keeps (h : s.Running) : KeepsInv (execClrrrbB8 s) := by
  refine finish_keeps h <| Yields.check fun _ => yields_done (h.withCfm ?_)
  obtain ⟨hsof, hsol, hsor, -⟩ := (Cfm.wf_iff _).mp h.frame
  exact (Cfm.wf_iff _).mpr ⟨hsof, hsol, hsor, .inl rfl, Nat.succ_pos _, Nat.succ_pos _⟩

theorem clrrrbPr_keeps (h : s.Running) : KeepsInv (execClrrrbPrB8 s) := by
  refine finish_keeps h <| Yields.check fun _ => yields_done (h.withCfm ?_)
  obtain ⟨hsof, hsol, hsor, hgr, hfr, -⟩ := (Cfm.wf_iff _).mp h.frame
  exact (Cfm.wf_iff _).mpr ⟨hsof, hsol, hsor, hgr, hfr, Nat.succ_pos _⟩

theorem bankSwitch_keeps {b : Bool} (h : s.Running) : KeepsInv (bankSwitch b s) :=
  finish_keeps h <| Yields.check fun _ => Yields.check fun _ => Yields.check fun _ =>
    yields_done (h.setPsrBit (by decide) (by decide))

theorem vmSwitch_keeps {b : Bool} (h : s.Running) : KeepsInv (vmSwitch b s) :=
  finish_keeps h <| Yields.check fun _ => Yields.check fun _ => yields_done (h.setPsrBit (by decide) (by decide))

theorem returnFrame_psr (s : State) (c : Cfm) (n : Nat) : (s.returnFrame c n).psr = s.psr := by
  unfold State.returnFrame
  dsimp only
  rw [State.enableFrameLoad_psr, State.alatPrune_psr]
  split
  · rfl
  · rw [State.undefineRegs_psr, State.makeRoom_psr]; rfl

theorem interruptReturn_psr (s : State) : s.interruptReturn.psr = s.cr.ipsr := by
  have hr : s.restorePsr.psr = s.cr.ipsr := by unfold State.restorePsr; dsimp only; split <;> rfl
  unfold State.interruptReturn
  dsimp only
  split
  · rw [returnFrame_psr, hr]
  · rw [State.enableFrameLoad_psr, hr]

/-- `rfi` restores PSR, and an IP that fits the instruction set that PSR.is then says (R566, R59). -/
theorem rfi_keeps (h : s.Running) : KeepsInv (execRfiB8 s) := by
  refine finish_keeps h <| Yields.stuckIf fun _ => Yields.check fun _ => Yields.check fun _ => Yields.check fun _ =>
    Yields.check fun hf => ⟨h.interruptReturn fun hv => by simpa [hv] using hf, ?_⟩
  dsimp only [Flow.Lands]
  rw [State.psrBit, interruptReturn_psr]
  split
  · exact .inl ‹_›
  · exact .inr (aligned_and_not _)

/-! #### Application, control and status registers -/

theorem State.Running.setBspstore {v : Word} (h : s.Running) : (s.setBspstore v).Running :=
  State.Running.dahrRevert (h.of_watched rfl)

theorem State.Running.setAr {r : Ar} {v : Word} (h : s.Running) : (s.setAr r v).Running := by
  cases r with
  | bspstore => exact h.setBspstore
  | _ => exact h.of_watched rfl

theorem moveToAr_keeps {iForm : Bool} {qp : BitVec 6} {r : BitVec 7} {v : Gr} (h : s.Running) :
    KeepsInv (moveToAr iForm qp r v s) :=
  predicated_keeps h <| Yields.check fun _ => Yields.check fun _ => Yields.check fun _ => Yields.check fun _ =>
    Yields.check fun _ => Yields.check fun _ => Yields.check fun _ => yields_done h.setAr

theorem moveFromAr_keeps {iForm : Bool} {qp : BitVec 6} {r1 r : BitVec 7} (h : s.Running) :
    KeepsInv (moveFromAr iForm qp r1 r s) :=
  predicated_keeps h <| Yields.check fun _ => Yields.check fun _ => Yields.check fun _ => Yields.check fun _ =>
    Yields.check fun _ => yields_done h.setGr

theorem State.Running.endOfInterrupt (h : s.Running) : s.endOfInterrupt.Running := by
  unfold State.endOfInterrupt
  split
  · exact h
  · exact h.of_watched rfl

/-- PSR.vm is implemented, so that no further bit of PSR is reserved (R110). -/
theorem psr_reserved : Psr.reserved = reservedPsr := rfl

/-- A control register takes a value without its reserved fields. -/
theorem State.Running.setCr {c : Cr} {v : Word} (h : s.Running) (hv : c.reservedField v = false) :
    (s.setCr c v).Running := by
  cases c with
  | ipsr => exact { h with ipsr := psr_reserved ▸ bne_eq_false_iff_eq.mp hv }
  | eoi => exact h.endOfInterrupt
  | lrr0 => unfold State.setCr; dsimp only; split <;> exact h.of_watched rfl
  | lrr1 => unfold State.setCr; dsimp only; split <;> exact h.of_watched rfl
  | _ => exact h.of_watched rfl

theorem moveToCr_keeps {qp : BitVec 6} {r2 c : BitVec 7} (h : s.Running) : KeepsInv (moveToCr qp r2 c s) :=
  predicated_keeps h <| Yields.check fun _ => Yields.check fun _ => Yields.check fun _ => Yields.check fun hv =>
    Yields.check fun _ => Yields.check fun _ => ⟨h.setCr hv, trivial⟩

theorem State.Running.readCr {c : Cr} (h : s.Running) : (s.readCr c).2.Running := by
  cases c with
  | ivr =>
    unfold State.readCr State.readIvr
    dsimp only
    split
    · exact h
    · exact h.of_watched rfl
  | _ => exact h

theorem moveFromCr_keeps {qp : BitVec 6} {r1 c : BitVec 7} (h : s.Running) : KeepsInv (moveFromCr qp r1 c s) :=
  predicated_keeps h <| Yields.check fun _ => Yields.check fun _ => Yields.check fun _ => Yields.check fun _ =>
    yields_done h.readCr.setGr

theorem userMask_keeps {qp : BitVec 6} {imm : BitVec 24} {v : BitVec 6} (h : s.Running) :
    KeepsInv (userMask qp imm v s) :=
  predicated_keeps h <| Yields.check fun _ => yields_done h.setUserMask

theorem State.Running.psr_low (h : s.Running) : (fld s.psr 0 24 : BitVec 24) &&& Psr.reservedSm = 0 := by
  have hp := (and_eq_zero_iff_bits _ _).mp h.psr
  apply BitVec.eq_of_getLsbD_eq
  intro k hk
  have hm : reservedPsr.getLsbD k = Psr.reservedSm.getLsbD k := by
    rw [show Psr.reservedSm = fld reservedPsr 0 24 from rfl, getLsbD_fld]
    simp [hk]
  rw [BitVec.getLsbD_and, getLsbD_fld, ← hm, Nat.zero_add]
  cases hr : reservedPsr.getLsbD k with
  | false => simp
  | true => simp [hp k hr]

/-- `ssm` and `rsm` write no reserved bit if the new mask has none that the old mask and the immediate have not. -/
theorem systemMask_keeps {qp : BitVec 6} {imm v : BitVec 24} (h : s.Running)
    (hv : imm &&& Psr.reservedSm = 0 → v &&& Psr.reservedSm = 0) : KeepsInv (systemMask qp imm v s) := by
  refine predicated_keeps h <| Yields.check fun _ => Yields.check fun hr => Yields.check fun _ =>
    yields_done (h.withPsr (and_reserved_setFld h.psr (by decide) ?_))
  exact hv (by simpa using hr)

theorem movToPsr_keeps {qp : BitVec 6} {r2 : BitVec 7} (h : s.Running) : KeepsInv (execMovToPsrLM35 qp r2 s) := by
  refine predicated_keeps h <| Yields.check fun _ => Yields.check fun _ => Yields.check fun hr => Yields.check fun _ =>
    yields_done (h.withPsr (and_reserved_setFld h.psr (by decide) ?_))
  have := (Bool.or_eq_false_iff.mp hr).1
  exact bne_eq_false_iff_eq.mp this

/-! #### The register stack (R136, R137, R829) -/

theorem rseStore_yields (h : s.Running) : Yields s.rseStore fun t => t.Running ∧ t.cfm = s.cfm := by
  refine (dataReference_yields h).bind fun a _ => ?_
  split
  · refine (store_yields h).bind fun u ⟨hu, hc⟩ => ⟨hu.touch.of_watched rfl, ?_⟩
    exact (State.touch_cfm u a).trans hc
  · refine (store_yields h).bind fun u ⟨hu, hc⟩ => ⟨hu.touch.of_watched rfl, ?_⟩
    exact (State.touch_cfm u a).trans hc

theorem rseLoad_yields (h : s.Running) : Yields s.rseLoad State.Running := by
  refine (dataReference_yields h).bind fun _ _ => load_yields.bind fun _ _ => ?_
  dsimp only
  split <;> exact h.touch.of_watched rfl

theorem storeUntil_yields {c : Cfm} {limit fuel : Nat} (h : s.Running) (hc : s.cfm = c) :
    Yields (State.storeUntil limit fuel s) fun t => t.Running ∧ t.cfm = c := by
  induction fuel generalizing s with
  | zero => exact ⟨h, hc⟩
  | succ fuel ih =>
    unfold State.storeUntil
    split
    · exact ⟨h, hc⟩
    · exact (rseStore_yields h).bind fun _ ht => ih ht.1 (ht.2.trans hc)

theorem flushDirty_yields {fuel : Nat} (h : s.Running) : Yields (State.flushDirty fuel s) State.Running := by
  induction fuel generalizing s with
  | zero => exact h
  | succ fuel ih =>
    unfold State.flushDirty
    split
    · exact (rseStore_yields h).bind fun _ ht => ih ht.1
    · exact h

theorem loadUntil_yields {target : Word} {fuel : Nat} (h : s.Running) :
    Yields (State.loadUntil target fuel s) State.Running := by
  induction fuel generalizing s with
  | zero => exact h
  | succ fuel ih =>
    unfold State.loadUntil
    split
    · exact (rseLoad_yields h).bind fun _ ht => ih ht
    · exact h

theorem flushrs_keeps (h : s.Running) : KeepsInv (execFlushrsM25 s) :=
  finish_keeps h <| Yields.stuckIf fun _ => (flushDirty_yields h).bind fun _ ht => yields_done ht

theorem loadrs_keeps (h : s.Running) : KeepsInv (execLoadrsM25 s) :=
  finish_keeps h <| Yields.stuckIf fun _ => Yields.check fun _ =>
    Yields.bind (P := State.Running)
      (Yields.check fun _ => (loadUntil_yields h).bind fun _ ht => ht.of_watched rfl) fun _ ht => yields_done ht

/-- The frame that `alloc` makes of a legal one (R829): its rotating region changes only under rename bases of 0. -/
theorem Cfm.wf_allocated {c : Cfm} {sor : BitVec 4} {sol sof : BitVec 7} (h : c.wf = true)
    (hsize : ¬(96 < sof.toNat ∨ sof.toNat < 8 * sor.toNat ∨ sof.toNat < sol.toNat))
    (hrot : sor ≠ c.sor → c.rrbGr = 0) : (c.allocated sor sol sof).wf = true := by
  rw [Cfm.wf_iff] at h ⊢
  obtain ⟨-, -, -, hgr, hfr, hpr⟩ := h
  refine ⟨by dsimp only [Cfm.allocated]; omega, by dsimp only [Cfm.allocated]; omega,
    by dsimp only [Cfm.allocated]; omega, ?_, hfr, hpr⟩
  by_cases e : sor = c.sor
  · subst e; exact hgr
  · exact .inl (hrot e)

theorem allocate_keeps {qp : BitVec 6} {r1 : BitVec 7} {sor : BitVec 4} {sol sof : BitVec 7} (h : s.Running) :
    KeepsInv (allocate qp r1 sor sol sof s) := by
  refine finish_keeps h <| Yields.stuckIf fun _ => Yields.check fun _ => Yields.check fun hsize =>
    Yields.check fun hrot => ?_
  have hwf : (s.cfm.allocated sor sol sof).wf = true := by
    refine Cfm.wf_allocated h.frame (of_decide_eq_false hsize) fun hne => ?_
    have hbases : (s.cfm.rrbGr != 0 || s.cfm.rrbFr != 0 || s.cfm.rrbPr != 0) = false := by
      simpa [hne] using hrot
    simp only [Bool.or_eq_false_iff, bne_eq_false_iff_eq] at hbases
    obtain ⟨⟨hgr, -⟩, -⟩ := hbases
    exact hgr
  split
  · refine Yields.bind (P := fun t => t.Running ∧ t.cfm = s.cfm)
      ((storeUntil_yields h rfl).bind fun t ht => ⟨ht.1.makeRoom.undefineRegs, by simpa using ht.2⟩) fun t ht => ?_
    exact yields_done (State.Running.setGr (State.Running.alatPrune (ht.1.withCfm (by rw [ht.2]; exact hwf))))
  · exact yields_done h

/-! #### Translations and indirect registers -/

theorem insertTc_yields {inst : Bool} {e : TlbEntry} (h : s.Running) : Yields (s.insertTc inst e) State.Running := by
  unfold State.insertTc
  dsimp only
  split
  · trivial
  · split <;> exact h.of_watched rfl

theorem insertTr_yields {inst : Bool} {k : Nat} {e : TlbEntry} (h : s.Running) :
    Yields (s.insertTr inst k e) State.Running := by
  unfold State.insertTr
  dsimp only
  split <;> split
  · trivial
  · exact h.of_watched rfl
  · trivial
  · exact h.of_watched rfl

theorem purgeLocal_yields {va : Word} {ps : BitVec 6} (h : s.Running) : Yields (s.purgeLocal va ps) State.Running := by
  unfold State.purgeLocal
  dsimp only
  split
  · trivial
  · exact h.of_watched rfl

theorem checkPurge_yields {r2 r3 : BitVec 7} : Yields (s.checkPurge r2 r3) fun _ => True := by
  refine Yields.check fun _ => Yields.check fun _ => Yields.check fun _ => Yields.check fun _ => ?_
  unfold check
  split <;> trivial

theorem insertCache_keeps {inst : Bool} {qp : BitVec 6} {r2 : BitVec 7} (h : s.Running) :
    KeepsInv (insertCache inst qp r2 s) :=
  predicated_keeps h <| Yields.stuckIf fun _ => Yields.check fun _ => Yields.check fun _ => Yields.check fun _ =>
    Yields.check fun _ => Yields.check fun _ => Yields.check fun _ => (insertTc_yields h).bind fun _ ht => yields_done ht

theorem insertRegister_keeps {inst : Bool} {qp : BitVec 6} {r2 r3 : BitVec 7} (h : s.Running) :
    KeepsInv (insertRegister inst qp r2 r3 s) :=
  predicated_keeps h <| Yields.check fun _ => Yields.check fun _ => Yields.check fun _ => Yields.check fun _ =>
    Yields.check fun _ => Yields.check fun _ => Yields.check fun _ => (insertTr_yields h).bind fun _ ht => yields_done ht

theorem purgeCache_keeps {last alat : Bool} {qp : BitVec 6} {r2 r3 : BitVec 7} (h : s.Running) :
    KeepsInv (purgeCache last alat qp r2 r3 s) := by
  refine predicated_keeps h <| Yields.stuckIf fun _ => checkPurge_yields.bind fun _ _ =>
    (purgeLocal_yields h).bind fun t ht => Yields.stuckIf fun _ => yields_done ?_
  split
  · exact ht.alatInval
  · exact ht

theorem purgeRegister_keeps {inst : Bool} {qp : BitVec 6} {r2 r3 : BitVec 7} (h : s.Running) :
    KeepsInv (purgeRegister inst qp r2 r3 s) :=
  predicated_keeps h <| checkPurge_yields.bind fun _ _ => Yields.stuckIf fun _ => yields_done h.purgeTrs

theorem probe_keeps {write : Bool} {qp : BitVec 6} {r1 r3 : BitVec 7} {level : Gr} (h : s.Running) :
    KeepsInv (probe write qp r1 r3 level s) := by
  refine predicated_keeps h <| Yields.check fun _ => Yields.check fun _ => ?_
  split
  · exact faulted_yields h
  · exact Yields.stuckIf fun _ => yields_done h.keepWalk.setGr

theorem probeFault_keeps {read write : Bool} {qp : BitVec 6} {r3 : BitVec 7} {level : BitVec 2} (h : s.Running) :
    KeepsInv (probeFault read write qp r3 level s) :=
  predicated_keeps h <| Yields.check fun _ => (dataReference_yields h).bind fun _ _ => yields_done h.keepWalk

theorem hashQuery_keeps {f : Word → Word} {qp : BitVec 6} {r1 r3 : BitVec 7} (h : s.Running) :
    KeepsInv (hashQuery f qp r1 r3 s) :=
  predicated_keeps h <| Yields.check fun _ => Yields.check fun _ => yields_done h.setGr

theorem flushLine_keeps {qp : BitVec 6} {r3 : BitVec 7} (h : s.Running) : KeepsInv (flushLine qp r3 s) :=
  predicated_keeps h <| Yields.check fun _ => (translateQuery_yields h).bind fun _ _ => yields_done h.keepWalk

theorem tpa_keeps {qp : BitVec 6} {r1 r3 : BitVec 7} (h : s.Running) : KeepsInv (execTpaM46 qp r1 r3 s) :=
  predicated_keeps h <| Yields.check fun _ => Yields.check fun _ => Yields.check fun _ => Yields.check fun _ =>
    Yields.check fun _ => (translateQuery_yields h).bind fun _ _ => yields_done h.keepWalk.setGr

theorem moveFromIndirect_keeps {f : IndFile} {qp : BitVec 6} {r1 r3 : BitVec 7} (h : s.Running) :
    KeepsInv (moveFromIndirect f qp r1 r3 s) :=
  predicated_keeps h <| Yields.check fun _ => Yields.check fun _ => Yields.check fun _ => Yields.check fun _ =>
    Yields.check fun _ => Yields.check fun _ => yields_done h.setGr

theorem moveToIndirect_keeps {f : IndFile} {qp : BitVec 6} {r2 r3 : BitVec 7} (h : s.Running) :
    KeepsInv (moveToIndirect f qp r2 r3 s) :=
  predicated_keeps h <| Yields.check fun _ => Yields.check fun _ => Yields.check fun _ => Yields.check fun _ =>
    Yields.stuckIf fun _ => yields_done h.setIndirect

end

end Sys2Proof.Machine
end

section
/-! ### Every instruction keeps the invariants -/
namespace Sys2Proof.Machine

section
variable {s : State}

theorem setfExp_keeps {qp : BitVec 6} {f1 r2 : BitVec 7} (h : s.Running) : KeepsInv (execSetfExpM18 qp f1 r2 s) :=
  setFrFrom_keeps h

theorem setfSingle_keeps {qp : BitVec 6} {f1 r2 : BitVec 7} (h : s.Running) : KeepsInv (execSetfSM18 qp f1 r2 s) :=
  setFrFrom_keeps h

theorem getfSingle_keeps {qp : BitVec 6} {r1 f2 : BitVec 7} (h : s.Running) : KeepsInv (execGetfSM19 qp r1 f2 s) :=
  getFrTo_keeps h

theorem fprcpa_keeps {qp : BitVec 6} {f1 f2 f3 : BitVec 7} {p2 : BitVec 6} {sf : BitVec 2} (h : s.Running) :
    KeepsInv (execFprcpaF6 qp p2 f1 f2 f3 sf s) := by
  unfold execFprcpaF6
  exact parallelApproximation_keeps h

theorem fprsqrta_keeps {qp : BitVec 6} {f1 f3 : BitVec 7} {p2 : BitVec 6} {sf : BitVec 2} (h : s.Running) :
    KeepsInv (execFprsqrtaF7 qp p2 f1 f3 sf s) := by
  unfold execFprsqrtaF7
  exact parallelApproximation_keeps h

theorem mpy4_keeps {qp : BitVec 6} {r1 r2 r3 : BitVec 7} (h : s.Running) : KeepsInv (execMpy4I2 qp r1 r2 r3 s) :=
  ifImplemented_keeps h (writeGr_keeps h)

theorem mpyshl4_keeps {qp : BitVec 6} {r1 r2 r3 : BitVec 7} (h : s.Running) : KeepsInv (execMpyshl4I2 qp r1 r2 r3 s) :=
  ifImplemented_keeps h (writeGr_keeps h)

theorem clz_keeps {qp : BitVec 6} {r1 r3 : BitVec 7} (h : s.Running) : KeepsInv (execClzI9 qp r1 r3 s) :=
  ifImplemented_keeps h (writeGr_keeps h)

theorem checkSpeculationFr_keeps {qp : BitVec 6} {f2 : BitVec 7} {d : BitVec 21} (h : s.Running) :
    KeepsInv (execChkSM21 qp f2 d s) := by
  refine predicated_keeps h <| Yields.check fun _ => ?_
  split
  · exact checkFails_yields h
  · exact yields_done h

theorem checkFlags_keeps {qp : BitVec 6} {sf : BitVec 2} {d : BitVec 21} (h : s.Running) :
    KeepsInv (execFchkfF14 qp sf d s) := by
  refine predicated_keeps h ?_
  split
  · exact checkFails_yields h
  · exact yields_done h

theorem breakLong_keeps {qp : BitVec 6} {imm : BitVec 62} (h : s.Running) : KeepsInv (execBreakXX1 qp imm s) := by
  refine finish_keeps h ?_
  split
  · trivial
  · exact yields_nextBundle h

theorem ssm_keeps {qp : BitVec 6} {imm : BitVec 24} (h : s.Running) : KeepsInv (execSsmM44 qp imm s) :=
  systemMask_keeps h fun hi => by
    have hl := h.psr_low
    apply BitVec.eq_of_getLsbD_eq
    intro k hk
    have h1 := congrArg (fun x => x.getLsbD k) hl
    have h2 := congrArg (fun x => x.getLsbD k) hi
    simp only [BitVec.getLsbD_and, BitVec.getLsbD_or] at h1 h2 ⊢
    rw [Bool.and_or_distrib_right, h1, h2]; exact Bool.or_self _

theorem rsm_keeps {qp : BitVec 6} {imm : BitVec 24} (h : s.Running) : KeepsInv (execRsmM44 qp imm s) :=
  systemMask_keeps h fun _ => by
    rw [BitVec.and_assoc, BitVec.and_comm (~~~imm), ← BitVec.and_assoc, h.psr_low]
    exact BitVec.zero_and

/-! ### Every instruction -/

theorem exec_keeps (i : Instr) (h : s.Running) : KeepsInv (exec i s) := by
  cases i with
  | cmpLtA6 | cmpLtuA6 | cmpEqA6 | cmpLtUncA6 | cmpLtuUncA6 | cmpEqUncA6 | cmpEqAndA6 | cmpEqOrA6 | cmpEqOrAndcmA6
    | cmpNeAndA6 | cmpNeOrA6 | cmpNeOrAndcmA6 | cmpGtAndA7 | cmpGtOrA7 | cmpGtOrAndcmA7 | cmpLeAndA7 | cmpLeOrA7
    | cmpLeOrAndcmA7 | cmpGeAndA7 | cmpGeOrA7 | cmpGeOrAndcmA7 | cmpLtAndA7 | cmpLtOrA7 | cmpLtOrAndcmA7 | cmpLtA8
    | cmpLtuA8 | cmpEqA8 | cmpLtUncA8 | cmpLtuUncA8 | cmpEqUncA8 | cmpEqAndA8 | cmpEqOrA8 | cmpEqOrAndcmA8
    | cmpNeAndA8 | cmpNeOrA8 | cmpNeOrAndcmA8 | cmp4LtA6 | cmp4LtuA6 | cmp4EqA6 | cmp4LtUncA6 | cmp4LtuUncA6
    | cmp4EqUncA6 | cmp4EqAndA6 | cmp4EqOrA6 | cmp4EqOrAndcmA6 | cmp4NeAndA6 | cmp4NeOrA6 | cmp4NeOrAndcmA6
    | cmp4GtAndA7 | cmp4GtOrA7 | cmp4GtOrAndcmA7 | cmp4LeAndA7 | cmp4LeOrA7 | cmp4LeOrAndcmA7 | cmp4GeAndA7
    | cmp4GeOrA7 | cmp4GeOrAndcmA7 | cmp4LtAndA7 | cmp4LtOrA7 | cmp4LtOrAndcmA7 | cmp4LtA8 | cmp4LtuA8 | cmp4EqA8
    | cmp4LtUncA8 | cmp4LtuUncA8 | cmp4EqUncA8 | cmp4EqAndA8 | cmp4EqOrA8 | cmp4EqOrAndcmA8 | cmp4NeAndA8 | cmp4NeOrA8
    | cmp4NeOrAndcmA8 | tbitZI16 | tnatZI17 | tfZI30 | tbitZUncI16 | tnatZUncI17 | tfZUncI30 | tbitZAndI16
    | tnatZAndI17 | tfZAndI30 | tbitNzAndI16 | tnatNzAndI17 | tfNzAndI30 | tbitZOrI16 | tnatZOrI17 | tfZOrI30
    | tbitNzOrI16 | tnatNzOrI17 | tfNzOrI30 | tbitZOrAndcmI16 | tnatZOrAndcmI17 | tfZOrAndcmI30 | tbitNzOrAndcmI16
    | tnatNzOrAndcmI17 | tfNzOrAndcmI30 =>
    exact compare_keeps h
  | pshladd2A10 | pshradd2A10 =>
    exact shiftAdd2_keeps h
  | mpy4I2 =>
    exact mpy4_keeps h
  | mpyshl4I2 =>
    exact mpyshl4_keeps h
  | mux1I3 =>
    exact muxBytes_keeps h
  | clzI9 =>
    exact clz_keeps h
  | nopII18 | hintII18 | fwbM24 | mfM24 | mfAM24 | srlzDM24 | srlzIM24 | syncIM24 | nopMM48 | hintMM49 | nopBB9
    | hintBB9 | nopFF16 | hintFF16 =>
    exact noEffect_keeps h
  | breakII19 | breakMM37 | breakBB9 | breakFF15 =>
    exact predicated_keeps h trivial
  | chkSII20 | chkSMM20 =>
    exact checkSpeculation_keeps h
  | movToBrI21 | movRetToBrI21 =>
    exact predicated_keeps h (Yields.check fun _ => yields_done h.setBr)
  | movToPrI23 =>
    exact predicated_keeps h (Yields.check fun _ => yields_done h.setPredicates)
  | movToPrRotI24 =>
    exact predicated_keeps h (yields_done h.setPredicates)
  | movIToArI26 | movIToArImmI27 | movMToArM29 | movMToArImmM30 =>
    exact moveToAr_keeps h
  | movIFromArI28 | movMFromArM31 =>
    exact moveFromAr_keeps h
  | ld1M1 | ld2M1 | ld4M1 | ld8M1 | ld1SM1 | ld2SM1 | ld4SM1 | ld8SM1 | ld1AM1 | ld2AM1 | ld4AM1 | ld8AM1 | ld1SaM1
    | ld2SaM1 | ld4SaM1 | ld8SaM1 | ld1BiasM1 | ld2BiasM1 | ld4BiasM1 | ld8BiasM1 | ld1AcqM1 | ld2AcqM1 | ld4AcqM1
    | ld8AcqM1 | ld1CClrM1 | ld2CClrM1 | ld4CClrM1 | ld8CClrM1 | ld1CNcM1 | ld2CNcM1 | ld4CNcM1 | ld8CNcM1
    | ld1CClrAcqM1 | ld2CClrAcqM1 | ld4CClrAcqM1 | ld8CClrAcqM1 | ld8FillM1 | ld1M2 | ld2M2 | ld4M2 | ld8M2 | ld1SM2
    | ld2SM2 | ld4SM2 | ld8SM2 | ld1AM2 | ld2AM2 | ld4AM2 | ld8AM2 | ld1SaM2 | ld2SaM2 | ld4SaM2 | ld8SaM2 | ld1BiasM2
    | ld2BiasM2 | ld4BiasM2 | ld8BiasM2 | ld1AcqM2 | ld2AcqM2 | ld4AcqM2 | ld8AcqM2 | ld1CClrM2 | ld2CClrM2
    | ld4CClrM2 | ld8CClrM2 | ld1CNcM2 | ld2CNcM2 | ld4CNcM2 | ld8CNcM2 | ld1CClrAcqM2 | ld2CClrAcqM2 | ld4CClrAcqM2
    | ld8CClrAcqM2 | ld8FillM2 | ld1M3 | ld2M3 | ld4M3 | ld8M3 | ld1SM3 | ld2SM3 | ld4SM3 | ld8SM3 | ld1AM3 | ld2AM3
    | ld4AM3 | ld8AM3 | ld1SaM3 | ld2SaM3 | ld4SaM3 | ld8SaM3 | ld1BiasM3 | ld2BiasM3 | ld4BiasM3 | ld8BiasM3
    | ld1AcqM3 | ld2AcqM3 | ld4AcqM3 | ld8AcqM3 | ld1CClrM3 | ld2CClrM3 | ld4CClrM3 | ld8CClrM3 | ld1CNcM3 | ld2CNcM3
    | ld4CNcM3 | ld8CNcM3 | ld1CClrAcqM3 | ld2CClrAcqM3 | ld4CClrAcqM3 | ld8CClrAcqM3 | ld8FillM3 =>
    exact loadGr_keeps h
  | ld16M1 | ld16AcqM1 =>
    exact load16_keeps h
  | st1M4 | st2M4 | st4M4 | st8M4 | st1RelM4 | st2RelM4 | st4RelM4 | st8RelM4 | st1M5 | st2M5 | st4M5 | st8M5
    | st1RelM5 | st2RelM5 | st4RelM5 | st8RelM5 =>
    exact storeGr_keeps h
  | st8SpillM4 | st8SpillM5 =>
    exact storeSpill_keeps h
  | st16M4 | st16RelM4 =>
    exact store16_keeps h
  | ldfeM6 | ldf8M6 | ldfsM6 | ldfdM6 | ldfeSM6 | ldf8SM6 | ldfsSM6 | ldfdSM6 | ldfeAM6 | ldf8AM6 | ldfsAM6
    | ldfdAM6 | ldfeSaM6 | ldf8SaM6 | ldfsSaM6 | ldfdSaM6 | ldfeCClrM6 | ldf8CClrM6 | ldfsCClrM6 | ldfdCClrM6
    | ldfeCNcM6 | ldf8CNcM6 | ldfsCNcM6 | ldfdCNcM6 | ldfFillM6 | ldfeM7 | ldf8M7 | ldfsM7 | ldfdM7 | ldfeSM7
    | ldf8SM7 | ldfsSM7 | ldfdSM7 | ldfeAM7 | ldf8AM7 | ldfsAM7 | ldfdAM7 | ldfeSaM7 | ldf8SaM7 | ldfsSaM7 | ldfdSaM7
    | ldfeCClrM7 | ldf8CClrM7 | ldfsCClrM7 | ldfdCClrM7 | ldfeCNcM7 | ldf8CNcM7 | ldfsCNcM7 | ldfdCNcM7 | ldfFillM7
    | ldfeM8 | ldf8M8 | ldfsM8 | ldfdM8 | ldfeSM8 | ldf8SM8 | ldfsSM8 | ldfdSM8 | ldfeAM8 | ldf8AM8 | ldfsAM8
    | ldfdAM8 | ldfeSaM8 | ldf8SaM8 | ldfsSaM8 | ldfdSaM8 | ldfeCClrM8 | ldf8CClrM8 | ldfsCClrM8 | ldfdCClrM8
    | ldfeCNcM8 | ldf8CNcM8 | ldfsCNcM8 | ldfdCNcM8 | ldfFillM8 =>
    exact loadFr_keeps h
  | stfeM9 | stf8M9 | stfsM9 | stfdM9 | stfSpillM9 | stfeM10 | stf8M10 | stfsM10 | stfdM10 | stfSpillM10 =>
    exact storeFr_keeps h
  | ldfp8M11 | ldfpsM11 | ldfpdM11 | ldfp8SM11 | ldfpsSM11 | ldfpdSM11 | ldfp8AM11 | ldfpsAM11 | ldfpdAM11
    | ldfp8SaM11 | ldfpsSaM11 | ldfpdSaM11 | ldfp8CClrM11 | ldfpsCClrM11 | ldfpdCClrM11 | ldfp8CNcM11 | ldfpsCNcM11
    | ldfpdCNcM11 | ldfp8M12 | ldfpsM12 | ldfpdM12 | ldfp8SM12 | ldfpsSM12 | ldfpdSM12 | ldfp8AM12 | ldfpsAM12
    | ldfpdAM12 | ldfp8SaM12 | ldfpsSaM12 | ldfpdSaM12 | ldfp8CClrM12 | ldfpsCClrM12 | ldfpdCClrM12 | ldfp8CNcM12
    | ldfpsCNcM12 | ldfpdCNcM12 =>
    exact loadPair_keeps h
  | lfetchExclM13 | lfetchM51 | lfetchCountM52 | lfetchM14 | lfetchExclM14 | lfetchM15 | lfetchExclM15 =>
    exact prefetch_keeps h
  | lfetchFaultM13 | lfetchFaultExclM13 | lfetchFaultM14 | lfetchFaultExclM14 | lfetchFaultM15 | lfetchFaultExclM15
    =>
    exact prefetchFault_keeps h
  | cmpxchg1AcqM16 | cmpxchg1RelM16 | cmpxchg2AcqM16 | cmpxchg2RelM16 | cmpxchg4AcqM16 | cmpxchg4RelM16
    | cmpxchg8AcqM16 | cmpxchg8RelM16 =>
    exact compareExchange_keeps h
  | xchg1M16 | xchg2M16 | xchg4M16 | xchg8M16 =>
    exact exchange_keeps h
  | cmp8xchg16AcqM16 | cmp8xchg16RelM16 =>
    exact compareExchange16_keeps h
  | fetchadd4AcqM17 | fetchadd8AcqM17 | fetchadd4RelM17 | fetchadd8RelM17 =>
    exact fetchAdd_keeps h
  | setfSigM18 | setfDM18 =>
    exact setFrFrom_keeps h
  | getfSigM19 | getfExpM19 | getfDM19 =>
    exact getFrTo_keeps h
  | setfExpM18 =>
    exact setfExp_keeps h
  | setfSM18 =>
    exact setfSingle_keeps h
  | getfSM19 =>
    exact getfSingle_keeps h
  | chkSM21 =>
    exact checkSpeculationFr_keeps h
  | chkANcM22 | chkAClrM22 | chkANcM23 | chkAClrM23 =>
    exact predicated_keeps h (checkAdvanced_yields h)
  | invalaM24 =>
    exact predicated_keeps h (yields_done h.alatInval)
  | flushrsM25 =>
    exact flushrs_keeps h
  | loadrsM25 =>
    exact loadrs_keeps h
  | invalaEM26 | invalaEM27 =>
    exact predicated_keeps h (yields_done h.alatInvalEntry)
  | fcM28 | fcIM28 =>
    exact flushLine_keeps h
  | movToCrM32 =>
    exact moveToCr_keeps h
  | movFromCrM33 =>
    exact moveFromCr_keeps h
  | allocM34 =>
    exact allocate_keeps h
  | movToPsrLM35 =>
    exact movToPsr_keeps h
  | movToPsrUmM35 =>
    exact predicated_keeps h (Yields.check fun _ => Yields.check fun _ => yields_done h.setUserMask)
  | movFromPsrM36 =>
    exact predicated_keeps h (Yields.check fun _ => Yields.check fun _ => Yields.check fun _ => yields_done h.setGr)
  | probeRM38 | probeWM38 | probeRM39 | probeWM39 =>
    exact probe_keeps h
  | probeRwFaultM40 | probeRFaultM40 | probeWFaultM40 =>
    exact probeFault_keeps h
  | itcDM41 | itcIM41 =>
    exact insertCache_keeps h
  | movToRrM42 | movToDbrM42 | movToIbrM42 | movToPkrM42 | movToPmcM42 | movToPmdM42 =>
    exact moveToIndirect_keeps h
  | itrDM42 | itrIM42 =>
    exact insertRegister_keeps h
  | movFromRrM43 | movFromDbrM43 | movFromIbrM43 | movFromPkrM43 | movFromPmcM43 | movFromPmdM43 | movFromCpuidM43
    | movFromDahrM43 =>
    exact moveFromIndirect_keeps h
  | sumM44 | rumM44 =>
    exact userMask_keeps h
  | ssmM44 =>
    exact ssm_keeps h
  | rsmM44 =>
    exact rsm_keeps h
  | ptcLM45 | ptcGM45 | ptcGaM45 =>
    exact purgeCache_keeps h
  | ptrDM45 | ptrIM45 =>
    exact purgeRegister_keeps h
  | thashM46 | ttagM46 =>
    exact hashQuery_keeps h
  | tpaM46 =>
    exact tpa_keeps h
  | takM46 =>
    exact predicated_keeps h (Yields.check fun _ => Yields.check fun _ => Yields.check fun _ => Yields.check fun _ =>
      yields_done h.setGr)
  | ptcEM47 =>
    exact predicated_keeps h (Yields.check fun _ => Yields.check fun _ => Yields.check fun _ =>
      yields_done h.purgeCaches)
  | movToDahrImmM50 | fclrfF13 =>
    exact predicated_keeps h (yields_done (h.of_watched rfl))
  | brCondB1 =>
    exact predicated_keeps h (yields_taken h (aligned_target25 h))
  | brWexitB1 | brWtopB1 =>
    exact loopBranch_keeps h h.whileLoop (aligned_target25 h)
  | brCloopB2 =>
    exact loopBranch_keeps h (h.of_watched rfl) (aligned_target25 h)
  | brCexitB2 | brCtopB2 =>
    exact loopBranch_keeps h h.countedLoop (aligned_target25 h)
  | brCallB3 =>
    exact branchCall_keeps h (aligned_target25 h)
  | brCondB4 =>
    exact predicated_keeps h (yields_taken h (aligned_and_not _))
  | brIaB4 =>
    exact branchIa_keeps (d := 0) (wh := 0) (p := 0) h
  | brRetB4 =>
    exact branchReturn_keeps (d := 0) (wh := 0) (p := 0) h
  | brCallB5 =>
    exact branchCall_keeps h (aligned_and_not _)
  | brpB6 | brpB7 | brpRetB7 =>
    exact finish_keeps h (yields_done h)
  | coverB8 =>
    exact cover_keeps h
  | clrrrbB8 =>
    exact clrrrb_keeps h
  | clrrrbPrB8 =>
    exact clrrrbPr_keeps h
  | rfiB8 =>
    exact rfi_keeps h
  | bsw0B8 | bsw1B8 =>
    exact bankSwitch_keeps h
  | epcB8 =>
    exact finish_keeps h (Yields.check fun _ => yields_done h.promoted)
  | vmsw0B8 | vmsw1B8 =>
    exact vmSwitch_keeps h
  | fmaF1 | fmaSF1 | fmaDF1 | fmsF1 | fmsSF1 | fmsDF1 | fnmaF1 | fnmaSF1 | fnmaDF1 | fminF8 | fmaxF8 | faminF8
    | famaxF8 | fcvtFxF10 | fcvtFxuF10 | fcvtFxTruncF10 | fcvtFxuTruncF10 =>
    exact scalarArith_keeps h
  | fpmaF1 | fpmsF1 | fpnmaF1 | fpminF8 | fpmaxF8 | fpaminF8 | fpamaxF8 | fpcmpEqF8 | fpcmpLtF8 | fpcmpLeF8
    | fpcmpUnordF8 | fpcmpNeqF8 | fpcmpNltF8 | fpcmpNleF8 | fpcmpOrdF8 | fpcvtFxF10 | fpcvtFxuF10 | fpcvtFxTruncF10
    | fpcvtFxuTruncF10 =>
    exact parallelArith_keeps h
  | xmaLF2 | xmaHuF2 | xmaHF2 | fselectF3 | fmergeSF9 | fmergeNsF9 | fmergeSeF9 | fmixLrF9 | fmixRF9 | fmixLF9
    | fsxtRF9 | fsxtLF9 | fpackF9 | fswapF9 | fswapNlF9 | fswapNrF9 | fandF9 | fandcmF9 | forF9 | fxorF9 | fpmergeSF9
    | fpmergeNsF9 | fpmergeSeF9 | fcvtXfF11 =>
    exact writeFp_keeps h
  | fcmpEqF4 | fcmpEqUncF4 | fcmpLtF4 | fcmpLtUncF4 | fcmpLeF4 | fcmpLeUncF4 | fcmpUnordF4 | fcmpUnordUncF4 =>
    exact compareFr_keeps h
  | fclassMF5 | fclassMUncF5 =>
    exact classify_keeps h
  | frcpaF6 | frsqrtaF7 =>
    exact approximation_keeps h
  | fprcpaF6 =>
    exact fprcpa_keeps h
  | fprsqrtaF7 =>
    exact fprsqrta_keeps h
  | fsetcF12 =>
    exact predicated_keeps h (Yields.check fun _ => yields_done (h.of_watched rfl))
  | fchkfF14 =>
    exact checkFlags_keeps h
  | breakXX1 =>
    exact breakLong_keeps h
  | movlX2 =>
    exact predicatedLong_keeps h (Yields.check fun _ => h.setGr)
  | brlCondX3 =>
    exact longBranch_keeps h h (aligned_target64 h)
  | brlCallX4 =>
    exact longBranch_keeps h h.call (aligned_target64 h)
  | nopXX5 | hintXX5 =>
    exact predicatedLong_keeps h h
  | _ => exact writeGr_keeps h

end

end Sys2Proof.Machine
end

section
/-! ### Time, the boundary before an instruction, the fetch, and the step -/
namespace Sys2Proof.Machine

section
variable {s : State}

/-! #### Time (R1245) -/

theorem State.Running.advanceTime (h : s.Running) : s.advanceTime.Running := by
  unfold State.advanceTime
  generalize (if s.pal.power = .halt then 0 else Config.rucStep) = step
  dsimp only
  split
  · exact State.Running.pend (h.of_watched rfl)
  · exact h.of_watched rfl

theorem State.Running.storeVpds {run : VirtualRun} {value : Nat → Word} (l : List Nat) (h : s.Running) :
    (l.foldl (fun t k => t.storeVpd run k (value k)) s).Running := by
  induction l generalizing s with
  | nil => exact h
  | cons k l ih => exact ih h.storeVpd

theorem State.Running.spoilVpd (h : s.Running) : s.spoilVpd.Running := by
  unfold State.spoilVpd
  split
  · split
    · exact h
    · exact h.storeVpds _
  · exact h

theorem State.Running.meetPlaced (h : s.Running) : s.meetPlaced.Running := by
  obtain ⟨l, e, p, c, v, he⟩ := State.meetPlaced_eq s
  exact h.of_watched (by rw [he]; rfl)

theorem State.Running.tick (h : s.Running) : s.tick.Running :=
  have hage : (s.advanceTime.countEvent Config.eventCycles).age.Running := h.advanceTime.countEvent.of_watched rfl
  hage.spoilVpd.meetPlaced.of_watched rfl

/-! #### Before the fetch (R1121) -/

theorem State.Running.awake (h : s.Running) : s.awake.Running := by
  unfold State.awake
  split
  · exact h.of_watched rfl
  · exact h

/-- PAL's hand-offs are to the bundle of the entry that was registered, under a PSR whose reserved bits are 0. -/
theorem State.Running.handOffFirmware {entry : Word} (h : s.Running) : (s.handOffFirmware entry).Running where
  mem := by
    unfold State.handOffFirmware
    dsimp only
    split <;> exact h.mem
  psr := and_reserved_setFld (and_reserved_setBit (and_not_and_self _ _) (by decide) (by decide) _) (by decide)
    BitVec.zero_and
  ipsr := and_not_and_self _ _
  frame := by
    unfold State.handOffFirmware
    dsimp only
    split <;> exact h.frame
  hints := by
    unfold State.handOffFirmware
    dsimp only
    split
    · exact h.dahrPush.hints
    · exact h.hints
  ip := aligned_and_not _

theorem State.Running.handOffPmi {v : BitVec 8} (h : s.Running) : (s.handOffPmi v).Running where
  mem := h.mem
  psr := and_reserved_and h.psr _
  ipsr := h.psr
  frame := h.frame
  hints := (dahrPush_length _).trans h.hints
  ip := aligned_and_not _

theorem withBundle_watched (s : State) (i : Interruption) : (s.withBundle i).1.watched = s.watched := by
  unfold State.withBundle
  split <;> rfl

theorem deliverFrameFault_running {i : Interruption} (h : s.Sound) : (deliverFrameFault i s).Running := by
  obtain ⟨hm, hp, hi, -, hc, hd⟩ := State.watched_eq_iff.mp (withBundle_watched s i)
  exact deliver_running (s := (s.withBundle i).1)
    ⟨hm ▸ h.mem, hp ▸ h.psr, hi ▸ h.ipsr, hc ▸ h.frame, hd ▸ h.hints⟩

theorem completeFrame_yields (h : s.Running) : Yields s.completeFrame State.Running := by
  unfold State.completeFrame
  split
  · exact (loadUntil_yields h).bind fun _ ht => ht.of_watched rfl
  · exact h

/-- What the boundary decides on keeps the invariants, or runs the instruction in a running state. -/
def Boundary.Keeps : Boundary → Prop
  | .run t => t.Running
  | .ends o => KeepsInv o

theorem boundary_keeps (h : s.Running) : s.boundary.Keeps := by
  have ha := h.awake
  unfold State.boundary
  dsimp only
  split
  · exact keepsInv_next (State.Running.inv (ha.handOffFirmware.of_watched rfl))
  split
  · exact keepsInv_next (State.Running.inv (ha.handOffFirmware.of_watched rfl))
  split
  · exact keepsInv_next ha.handOffPmi.inv
  split
  · exact keepsInv_next (deliver_running ha.toSound).inv
  split
  · exact keepsInv_next ha.inv
  split
  · exact keepsInv_next (deliver_running ha.toSound).inv
  have hc := completeFrame_yields ha
  split
  next i e => exact keepsInv_next (deliverFrameFault_running ha.toSound).inv
  next t i e =>
    rw [e] at hc
    exact keepsInv_next (deliverFrameFault_running hc).inv
  next f e => exact keepsInv_fault
  next t e =>
    rw [e] at hc
    exact hc

/-! #### The fetch (R1144) -/

theorem fetch_yields (h : s.Running) : Yields s.fetch State.Running := by
  unfold State.fetch
  split
  next x _ =>
    refine Yields.stuckIf fun _ => ?_
    exact (h.of_watched (withBundle_watched s x.fault)).keepInstWalk.toSound
  · split
    · trivial
    · exact Yields.stuckIf fun _ => State.Running.meetTrigger (h.keepInstWalk.of_watched rfl)

/-! #### The step -/

theorem illegalSlot_keeps (h : s.Running) : KeepsInv (illegalSlot s) := keepsInv_next (deliver_running h.toSound).inv

theorem illegalIfQp_keeps {qp : BitVec 6} {pair : Bool} (h : s.Running) : KeepsInv (illegalIfQp qp pair s) := by
  unfold illegalIfQp
  split
  · exact illegalSlot_keeps h
  · cases pair with
    | false => exact finish_keeps h (yields_done h)
    | true => exact finish_keeps h (yields_nextBundle h)

theorem runSlot_keeps (h : s.Running) : KeepsInv s.runSlot := by
  unfold State.runSlot
  split
  · exact exec_keeps _ h
  · exact illegalSlot_keeps h
  · exact illegalIfQp_keeps h

theorem keepsInv_refused {r : Refusal} : KeepsInv (.refused r) := fun _ e => by cases e

theorem step_keeps (h : s.Inv) : KeepsInv (step s) := by
  unfold step
  split
  · exact keepsInv_refused
  next his =>
    have hb := boundary_keeps (h.running (by simpa using his)).tick
    split
    next o e => rw [e] at hb; exact hb
    next t e =>
      rw [e] at hb
      have ht : t.Running := hb
      have hf := fetch_yields ht
      split
      next x e' => rw [e'] at hf; exact finish_keeps ht hf
      next u e' => rw [e'] at hf; exact runSlot_keeps hf

end

/-- Settles O60: the strengthened predicate `State.Running` holds after time has passed, after the boundary and after the
fetch; every instruction leads from it to the invariants. -/
theorem stepKeepsInvariants : Obligations.StepKeepsInvariants := by
  intro s t hs ht
  exact step_keeps hs t ht

end Sys2Proof.Machine
end

section
/-! ### Instructions whose qualifying predicate is 0 -/
namespace Sys2Proof.Machine

section
variable {s : State}

theorem compare_off {ct : CmpType} {qp p1 p2 : BitVec 6} {rel nat : Bool} (hct : ct ≠ .unc) (hq : s.prBit qp = false) :
    compare ct qp p1 p2 rel nat s = .next (retire { st := s }) := by
  simp [compare, hq, hct, done, finish]

theorem compareFr_off {r : FpRel} {qp p1 p2 : BitVec 6} {f2 f3 : BitVec 7} {sf : BitVec 2} (hq : s.prBit qp = false) :
    compareFr r false qp p1 p2 f2 f3 sf s = .next (retire { st := s }) := by
  simp [compareFr, hq, done, finish]

theorem classify_off {qp p1 p2 : BitVec 6} {f2 : BitVec 7} {m : BitVec 9} (hq : s.prBit qp = false) :
    classify false qp p1 p2 f2 m s = .next (retire { st := s }) := by
  simp [classify, hq, done, finish]

theorem ifImplemented_off {present : Bool} {qp : BitVec 6} {run : Host.Outcome State Fault Refusal}
    (hq : s.prBit qp = false) (hr : run = .next (retire { st := s })) :
    ifImplemented present qp s run = .next (retire { st := s }) := by
  cases present with
  | true => exact hr
  | false => exact predicated_off hq

theorem mpy4_off {qp : BitVec 6} {r1 r2 r3 : BitVec 7} (hq : s.prBit qp = false) :
    execMpy4I2 qp r1 r2 r3 s = .next (retire { st := s }) :=
  ifImplemented_off hq (predicated_off hq)

theorem mpyshl4_off {qp : BitVec 6} {r1 r2 r3 : BitVec 7} (hq : s.prBit qp = false) :
    execMpyshl4I2 qp r1 r2 r3 s = .next (retire { st := s }) :=
  ifImplemented_off hq (predicated_off hq)

theorem clz_off {qp : BitVec 6} {r1 r3 : BitVec 7} (hq : s.prBit qp = false) :
    execClzI9 qp r1 r3 s = .next (retire { st := s }) :=
  ifImplemented_off hq (predicated_off hq)

/-! #### No operand of a predicated instruction is looked at, whatever the instruction is -/

theorem exec_off_of_memory (i : Instr) (hu : (encode i).unit = .m) (hn : i.qualifier ≠ none)
    (hq : ∀ qp, i.qualifier = some qp → s.prBit qp = false) : exec i s = .next (retire { st := s }) := by
  cases i with
  | ld1M1 | ld2M1 | ld4M1 | ld8M1 | ld1SM1 | ld2SM1 | ld4SM1 | ld8SM1 | ld1AM1 | ld2AM1 | ld4AM1 | ld8AM1 | ld1SaM1
    | ld2SaM1 | ld4SaM1 | ld8SaM1 | ld1BiasM1 | ld2BiasM1 | ld4BiasM1 | ld8BiasM1 | ld1AcqM1 | ld2AcqM1 | ld4AcqM1
    | ld8AcqM1 | ld1CClrM1 | ld2CClrM1 | ld4CClrM1 | ld8CClrM1 | ld1CNcM1 | ld2CNcM1 | ld4CNcM1 | ld8CNcM1
    | ld1CClrAcqM1 | ld2CClrAcqM1 | ld4CClrAcqM1 | ld8CClrAcqM1 | ld8FillM1 | ld1M2 | ld2M2 | ld4M2 | ld8M2 | ld1SM2
    | ld2SM2 | ld4SM2 | ld8SM2 | ld1AM2 | ld2AM2 | ld4AM2 | ld8AM2 | ld1SaM2 | ld2SaM2 | ld4SaM2 | ld8SaM2 | ld1BiasM2
    | ld2BiasM2 | ld4BiasM2 | ld8BiasM2 | ld1AcqM2 | ld2AcqM2 | ld4AcqM2 | ld8AcqM2 | ld1CClrM2 | ld2CClrM2
    | ld4CClrM2 | ld8CClrM2 | ld1CNcM2 | ld2CNcM2 | ld4CNcM2 | ld8CNcM2 | ld1CClrAcqM2 | ld2CClrAcqM2 | ld4CClrAcqM2
    | ld8CClrAcqM2 | ld8FillM2 | ld1M3 | ld2M3 | ld4M3 | ld8M3 | ld1SM3 | ld2SM3 | ld4SM3 | ld8SM3 | ld1AM3 | ld2AM3
    | ld4AM3 | ld8AM3 | ld1SaM3 | ld2SaM3 | ld4SaM3 | ld8SaM3 | ld1BiasM3 | ld2BiasM3 | ld4BiasM3 | ld8BiasM3
    | ld1AcqM3 | ld2AcqM3 | ld4AcqM3 | ld8AcqM3 | ld1CClrM3 | ld2CClrM3 | ld4CClrM3 | ld8CClrM3 | ld1CNcM3 | ld2CNcM3
    | ld4CNcM3 | ld8CNcM3 | ld1CClrAcqM3 | ld2CClrAcqM3 | ld4CClrAcqM3 | ld8CClrAcqM3 | ld8FillM3 | ld16M1
    | ld16AcqM1 | st1M4 | st2M4 | st4M4 | st8M4 | st1RelM4 | st2RelM4 | st4RelM4 | st8RelM4 | st8SpillM4 | st1M5
    | st2M5 | st4M5 | st8M5 | st1RelM5 | st2RelM5 | st4RelM5 | st8RelM5 | st8SpillM5 | st16M4 | st16RelM4 | ldfeM6
    | ldf8M6 | ldfsM6 | ldfdM6 | ldfeSM6 | ldf8SM6 | ldfsSM6 | ldfdSM6 | ldfeAM6 | ldf8AM6 | ldfsAM6 | ldfdAM6
    | ldfeSaM6 | ldf8SaM6 | ldfsSaM6 | ldfdSaM6 | ldfeCClrM6 | ldf8CClrM6 | ldfsCClrM6 | ldfdCClrM6 | ldfeCNcM6
    | ldf8CNcM6 | ldfsCNcM6 | ldfdCNcM6 | ldfFillM6 | ldfeM7 | ldf8M7 | ldfsM7 | ldfdM7 | ldfeSM7 | ldf8SM7 | ldfsSM7
    | ldfdSM7 | ldfeAM7 | ldf8AM7 | ldfsAM7 | ldfdAM7 | ldfeSaM7 | ldf8SaM7 | ldfsSaM7 | ldfdSaM7 | ldfeCClrM7
    | ldf8CClrM7 | ldfsCClrM7 | ldfdCClrM7 | ldfeCNcM7 | ldf8CNcM7 | ldfsCNcM7 | ldfdCNcM7 | ldfFillM7 | ldfeM8
    | ldf8M8 | ldfsM8 | ldfdM8 | ldfeSM8 | ldf8SM8 | ldfsSM8 | ldfdSM8 | ldfeAM8 | ldf8AM8 | ldfsAM8 | ldfdAM8
    | ldfeSaM8 | ldf8SaM8 | ldfsSaM8 | ldfdSaM8 | ldfeCClrM8 | ldf8CClrM8 | ldfsCClrM8 | ldfdCClrM8 | ldfeCNcM8
    | ldf8CNcM8 | ldfsCNcM8 | ldfdCNcM8 | ldfFillM8 | stfeM9 | stf8M9 | stfsM9 | stfdM9 | stfSpillM9 | stfeM10
    | stf8M10 | stfsM10 | stfdM10 | stfSpillM10 | ldfp8M11 | ldfpsM11 | ldfpdM11 | ldfp8SM11 | ldfpsSM11 | ldfpdSM11
    | ldfp8AM11 | ldfpsAM11 | ldfpdAM11 | ldfp8SaM11 | ldfpsSaM11 | ldfpdSaM11 | ldfp8CClrM11 | ldfpsCClrM11
    | ldfpdCClrM11 | ldfp8CNcM11 | ldfpsCNcM11 | ldfpdCNcM11 | ldfp8M12 | ldfpsM12 | ldfpdM12 | ldfp8SM12 | ldfpsSM12
    | ldfpdSM12 | ldfp8AM12 | ldfpsAM12 | ldfpdAM12 | ldfp8SaM12 | ldfpsSaM12 | ldfpdSaM12 | ldfp8CClrM12
    | ldfpsCClrM12 | ldfpdCClrM12 | ldfp8CNcM12 | ldfpsCNcM12 | ldfpdCNcM12 | lfetchExclM13 | lfetchFaultM13
    | lfetchFaultExclM13 | lfetchM51 | lfetchCountM52 | lfetchM14 | lfetchExclM14 | lfetchFaultM14
    | lfetchFaultExclM14 | lfetchM15 | lfetchExclM15 | lfetchFaultM15 | lfetchFaultExclM15 | cmpxchg1AcqM16
    | cmpxchg1RelM16 | xchg1M16 | cmpxchg2AcqM16 | cmpxchg2RelM16 | xchg2M16 | cmpxchg4AcqM16 | cmpxchg4RelM16
    | xchg4M16 | cmpxchg8AcqM16 | cmpxchg8RelM16 | xchg8M16 | cmp8xchg16AcqM16 | cmp8xchg16RelM16 | fetchadd4AcqM17
    | fetchadd8AcqM17 | fetchadd4RelM17 | fetchadd8RelM17 | setfSigM18 | getfSigM19 | setfExpM18 | getfExpM19
    | setfSM18 | getfSM19 | setfDM18 | getfDM19 | chkSMM20 | chkSM21 | chkANcM22 | chkAClrM22 | chkANcM23 | chkAClrM23
    | invalaM24 | fwbM24 | mfM24 | mfAM24 | srlzDM24 | srlzIM24 | syncIM24 | invalaEM26 | invalaEM27 | fcM28
    | fcIM28 | movMToArM29 | movMToArImmM30 | movMFromArM31 | movToCrM32 | movFromCrM33 | movToPsrLM35 | movToPsrUmM35
    | movFromPsrM36 | movFromPsrUmM36 | breakMM37 | probeRM38 | probeWM38 | probeRM39 | probeWM39 | probeRwFaultM40
    | probeRFaultM40 | probeWFaultM40 | itcDM41 | itcIM41 | movToRrM42 | movToDbrM42 | movToIbrM42 | movToPkrM42
    | movToPmcM42 | movToPmdM42 | itrDM42 | itrIM42 | movFromRrM43 | movFromDbrM43 | movFromIbrM43 | movFromPkrM43
    | movFromPmcM43 | movFromPmdM43 | movFromCpuidM43 | movFromDahrM43 | sumM44 | rumM44 | ssmM44 | rsmM44 | ptcLM45
    | ptcGM45 | ptcGaM45 | ptrDM45 | ptrIM45 | thashM46 | ttagM46 | tpaM46 | takM46 | ptcEM47 | nopMM48 | hintMM49
    | movToDahrImmM50 =>
    exact predicated_off (hq _ rfl)
  | flushrsM25 | loadrsM25 | allocM34 =>
    exact absurd rfl hn
  | _ => contradiction

theorem exec_off_of_not_memory (i : Instr) (hu : (encode i).unit ≠ .m) (hn : i.qualifier ≠ none)
    (hq : ∀ qp, i.qualifier = some qp → s.prBit qp = false) : exec i s = .next (retire { st := s }) := by
  cases i with
  | cmpLtA6 | cmpLtuA6 | cmpEqA6 | cmpEqAndA6 | cmpEqOrA6 | cmpEqOrAndcmA6 | cmpNeAndA6 | cmpNeOrA6 | cmpNeOrAndcmA6
    | cmpGtAndA7 | cmpGtOrA7 | cmpGtOrAndcmA7 | cmpLeAndA7 | cmpLeOrA7 | cmpLeOrAndcmA7 | cmpGeAndA7 | cmpGeOrA7
    | cmpGeOrAndcmA7 | cmpLtAndA7 | cmpLtOrA7 | cmpLtOrAndcmA7 | cmpLtA8 | cmpLtuA8 | cmpEqA8 | cmpEqAndA8 | cmpEqOrA8
    | cmpEqOrAndcmA8 | cmpNeAndA8 | cmpNeOrA8 | cmpNeOrAndcmA8 | cmp4LtA6 | cmp4LtuA6 | cmp4EqA6 | cmp4EqAndA6
    | cmp4EqOrA6 | cmp4EqOrAndcmA6 | cmp4NeAndA6 | cmp4NeOrA6 | cmp4NeOrAndcmA6 | cmp4GtAndA7 | cmp4GtOrA7
    | cmp4GtOrAndcmA7 | cmp4LeAndA7 | cmp4LeOrA7 | cmp4LeOrAndcmA7 | cmp4GeAndA7 | cmp4GeOrA7 | cmp4GeOrAndcmA7
    | cmp4LtAndA7 | cmp4LtOrA7 | cmp4LtOrAndcmA7 | cmp4LtA8 | cmp4LtuA8 | cmp4EqA8 | cmp4EqAndA8 | cmp4EqOrA8
    | cmp4EqOrAndcmA8 | cmp4NeAndA8 | cmp4NeOrA8 | cmp4NeOrAndcmA8 | tbitZI16 | tnatZI17 | tfZI30 | tbitZAndI16
    | tnatZAndI17 | tfZAndI30 | tbitNzAndI16 | tnatNzAndI17 | tfNzAndI30 | tbitZOrI16 | tnatZOrI17 | tfZOrI30
    | tbitNzOrI16 | tnatNzOrI17 | tfNzOrI30 | tbitZOrAndcmI16 | tnatZOrAndcmI17 | tfZOrAndcmI30 | tbitNzOrAndcmI16
    | tnatNzOrAndcmI17 | tfNzOrAndcmI30 =>
    exact compare_off (by decide) (hq _ rfl)
  | cmpLtUncA6 | cmpLtuUncA6 | cmpEqUncA6 | cmpLtUncA8 | cmpLtuUncA8 | cmpEqUncA8 | cmp4LtUncA6 | cmp4LtuUncA6
    | cmp4EqUncA6 | cmp4LtUncA8 | cmp4LtuUncA8 | cmp4EqUncA8 | tbitZUncI16 | tnatZUncI17 | tfZUncI30 | brWexitB1
    | brWtopB1 | brCloopB2 | brCexitB2 | brCtopB2 | brIaB4 | brpB6 | brpB7 | brpRetB7 | coverB8 | clrrrbB8
    | clrrrbPrB8 | rfiB8 | bsw0B8 | bsw1B8 | epcB8 | vmsw0B8 | vmsw1B8 | fcmpEqUncF4 | fcmpLtUncF4 | fcmpLeUncF4
    | fcmpUnordUncF4 | fclassMUncF5 | frcpaF6 | fprcpaF6 | frsqrtaF7 | fprsqrtaF7 | breakXX1 | movlX2 | brlCondX3
    | brlCallX4 | nopXX5 | hintXX5 =>
    exact absurd rfl hn
  | mpy4I2 =>
    exact mpy4_off (hq _ rfl)
  | mpyshl4I2 =>
    exact mpyshl4_off (hq _ rfl)
  | clzI9 =>
    exact clz_off (hq _ rfl)
  | ld1M1 | ld2M1 | ld4M1 | ld8M1 | ld1SM1 | ld2SM1 | ld4SM1 | ld8SM1 | ld1AM1 | ld2AM1 | ld4AM1 | ld8AM1 | ld1SaM1
    | ld2SaM1 | ld4SaM1 | ld8SaM1 | ld1BiasM1 | ld2BiasM1 | ld4BiasM1 | ld8BiasM1 | ld1AcqM1 | ld2AcqM1 | ld4AcqM1
    | ld8AcqM1 | ld1CClrM1 | ld2CClrM1 | ld4CClrM1 | ld8CClrM1 | ld1CNcM1 | ld2CNcM1 | ld4CNcM1 | ld8CNcM1
    | ld1CClrAcqM1 | ld2CClrAcqM1 | ld4CClrAcqM1 | ld8CClrAcqM1 | ld8FillM1 | ld1M2 | ld2M2 | ld4M2 | ld8M2 | ld1SM2
    | ld2SM2 | ld4SM2 | ld8SM2 | ld1AM2 | ld2AM2 | ld4AM2 | ld8AM2 | ld1SaM2 | ld2SaM2 | ld4SaM2 | ld8SaM2 | ld1BiasM2
    | ld2BiasM2 | ld4BiasM2 | ld8BiasM2 | ld1AcqM2 | ld2AcqM2 | ld4AcqM2 | ld8AcqM2 | ld1CClrM2 | ld2CClrM2
    | ld4CClrM2 | ld8CClrM2 | ld1CNcM2 | ld2CNcM2 | ld4CNcM2 | ld8CNcM2 | ld1CClrAcqM2 | ld2CClrAcqM2 | ld4CClrAcqM2
    | ld8CClrAcqM2 | ld8FillM2 | ld1M3 | ld2M3 | ld4M3 | ld8M3 | ld1SM3 | ld2SM3 | ld4SM3 | ld8SM3 | ld1AM3 | ld2AM3
    | ld4AM3 | ld8AM3 | ld1SaM3 | ld2SaM3 | ld4SaM3 | ld8SaM3 | ld1BiasM3 | ld2BiasM3 | ld4BiasM3 | ld8BiasM3
    | ld1AcqM3 | ld2AcqM3 | ld4AcqM3 | ld8AcqM3 | ld1CClrM3 | ld2CClrM3 | ld4CClrM3 | ld8CClrM3 | ld1CNcM3 | ld2CNcM3
    | ld4CNcM3 | ld8CNcM3 | ld1CClrAcqM3 | ld2CClrAcqM3 | ld4CClrAcqM3 | ld8CClrAcqM3 | ld8FillM3 | ld16M1
    | ld16AcqM1 | st1M4 | st2M4 | st4M4 | st8M4 | st1RelM4 | st2RelM4 | st4RelM4 | st8RelM4 | st8SpillM4 | st1M5
    | st2M5 | st4M5 | st8M5 | st1RelM5 | st2RelM5 | st4RelM5 | st8RelM5 | st8SpillM5 | st16M4 | st16RelM4 | ldfeM6
    | ldf8M6 | ldfsM6 | ldfdM6 | ldfeSM6 | ldf8SM6 | ldfsSM6 | ldfdSM6 | ldfeAM6 | ldf8AM6 | ldfsAM6 | ldfdAM6
    | ldfeSaM6 | ldf8SaM6 | ldfsSaM6 | ldfdSaM6 | ldfeCClrM6 | ldf8CClrM6 | ldfsCClrM6 | ldfdCClrM6 | ldfeCNcM6
    | ldf8CNcM6 | ldfsCNcM6 | ldfdCNcM6 | ldfFillM6 | ldfeM7 | ldf8M7 | ldfsM7 | ldfdM7 | ldfeSM7 | ldf8SM7 | ldfsSM7
    | ldfdSM7 | ldfeAM7 | ldf8AM7 | ldfsAM7 | ldfdAM7 | ldfeSaM7 | ldf8SaM7 | ldfsSaM7 | ldfdSaM7 | ldfeCClrM7
    | ldf8CClrM7 | ldfsCClrM7 | ldfdCClrM7 | ldfeCNcM7 | ldf8CNcM7 | ldfsCNcM7 | ldfdCNcM7 | ldfFillM7 | ldfeM8
    | ldf8M8 | ldfsM8 | ldfdM8 | ldfeSM8 | ldf8SM8 | ldfsSM8 | ldfdSM8 | ldfeAM8 | ldf8AM8 | ldfsAM8 | ldfdAM8
    | ldfeSaM8 | ldf8SaM8 | ldfsSaM8 | ldfdSaM8 | ldfeCClrM8 | ldf8CClrM8 | ldfsCClrM8 | ldfdCClrM8 | ldfeCNcM8
    | ldf8CNcM8 | ldfsCNcM8 | ldfdCNcM8 | ldfFillM8 | stfeM9 | stf8M9 | stfsM9 | stfdM9 | stfSpillM9 | stfeM10
    | stf8M10 | stfsM10 | stfdM10 | stfSpillM10 | ldfp8M11 | ldfpsM11 | ldfpdM11 | ldfp8SM11 | ldfpsSM11 | ldfpdSM11
    | ldfp8AM11 | ldfpsAM11 | ldfpdAM11 | ldfp8SaM11 | ldfpsSaM11 | ldfpdSaM11 | ldfp8CClrM11 | ldfpsCClrM11
    | ldfpdCClrM11 | ldfp8CNcM11 | ldfpsCNcM11 | ldfpdCNcM11 | ldfp8M12 | ldfpsM12 | ldfpdM12 | ldfp8SM12 | ldfpsSM12
    | ldfpdSM12 | ldfp8AM12 | ldfpsAM12 | ldfpdAM12 | ldfp8SaM12 | ldfpsSaM12 | ldfpdSaM12 | ldfp8CClrM12
    | ldfpsCClrM12 | ldfpdCClrM12 | ldfp8CNcM12 | ldfpsCNcM12 | ldfpdCNcM12 | lfetchExclM13 | lfetchFaultM13
    | lfetchFaultExclM13 | lfetchM51 | lfetchCountM52 | lfetchM14 | lfetchExclM14 | lfetchFaultM14
    | lfetchFaultExclM14 | lfetchM15 | lfetchExclM15 | lfetchFaultM15 | lfetchFaultExclM15 | cmpxchg1AcqM16
    | cmpxchg1RelM16 | xchg1M16 | cmpxchg2AcqM16 | cmpxchg2RelM16 | xchg2M16 | cmpxchg4AcqM16 | cmpxchg4RelM16
    | xchg4M16 | cmpxchg8AcqM16 | cmpxchg8RelM16 | xchg8M16 | cmp8xchg16AcqM16 | cmp8xchg16RelM16 | fetchadd4AcqM17
    | fetchadd8AcqM17 | fetchadd4RelM17 | fetchadd8RelM17 | setfSigM18 | getfSigM19 | setfExpM18 | getfExpM19
    | setfSM18 | getfSM19 | setfDM18 | getfDM19 | chkSMM20 | chkSM21 | chkANcM22 | chkAClrM22 | chkANcM23 | chkAClrM23
    | invalaM24 | fwbM24 | mfM24 | mfAM24 | srlzDM24 | srlzIM24 | syncIM24 | flushrsM25 | loadrsM25 | invalaEM26
    | invalaEM27 | fcM28 | fcIM28 | movMToArM29 | movMToArImmM30 | movMFromArM31 | movToCrM32 | movFromCrM33
    | allocM34 | movToPsrLM35 | movToPsrUmM35 | movFromPsrM36 | movFromPsrUmM36 | breakMM37 | probeRM38 | probeWM38
    | probeRM39 | probeWM39 | probeRwFaultM40 | probeRFaultM40 | probeWFaultM40 | itcDM41 | itcIM41 | movToRrM42
    | movToDbrM42 | movToIbrM42 | movToPkrM42 | movToPmcM42 | movToPmdM42 | itrDM42 | itrIM42 | movFromRrM43
    | movFromDbrM43 | movFromIbrM43 | movFromPkrM43 | movFromPmcM43 | movFromPmdM43 | movFromCpuidM43 | movFromDahrM43
    | sumM44 | rumM44 | ssmM44 | rsmM44 | ptcLM45 | ptcGM45 | ptcGaM45 | ptrDM45 | ptrIM45 | thashM46 | ttagM46
    | tpaM46 | takM46 | ptcEM47 | nopMM48 | hintMM49 | movToDahrImmM50 =>
    exact absurd rfl hu
  | fcmpEqF4 | fcmpLtF4 | fcmpLeF4 | fcmpUnordF4 =>
    exact compareFr_off (hq _ rfl)
  | fclassMF5 =>
    exact classify_off (hq _ rfl)
  | _ => exact predicated_off (hq _ rfl)

theorem exec_off {i : Instr} {qp : BitVec 6} (hi : i.qualifier = some qp) (hq : s.prBit qp = false) :
    exec i s = .next (retire { st := s }) := by
  have hn : i.qualifier ≠ none := by rw [hi]; exact Option.some_ne_none qp
  have hq' : ∀ q, i.qualifier = some q → s.prBit q = false := fun q e => by
    rw [← Option.some.inj (hi.symm.trans e)]
    exact hq
  by_cases hu : (encode i).unit = .m
  · exact exec_off_of_memory i hu hn hq'
  · exact exec_off_of_not_memory i hu hn hq'

theorem movl_off {qp : BitVec 6} {r1 : BitVec 7} {imm : BitVec 64} (hq : s.prBit qp = false) :
    exec (.movlX2 qp r1 imm) s = .next (retire { st := s, flow := .nextBundle }) := by
  show predicatedLong _ _ _ = _
  simp [predicatedLong, hq, finish]

theorem longBranch_off {qp : BitVec 6} {t : State} {target : Word} (hstop : s.followedByStop = true)
    (hq : s.prBit qp = false) : longBranch qp t target s = .next (retire { st := s, flow := .nextBundle }) := by
  simp [longBranch, hstop, hq, stuckIf, check, finish, bind, Except.bind]

end

/-- Settles O52: whatever the instruction is, with PR[qp] = 0 its meaning is the completion of the state it starts in. -/
theorem predicatedOffDoesNothing : Obligations.PredicatedOffDoesNothing := by
  intro s i qp hq hss
  obtain ⟨hsettled, hplace⟩ := retire_sequential s hss
  obtain ⟨hsettled', hplace'⟩ := retire_nextBundle s hss
  refine ⟨fun hi => ⟨_, exec_off hi hq, hplace, hsettled⟩, fun r1 imm => ⟨_, movl_off hq, hplace', hsettled'⟩,
    fun hstop b1 d wh p disp => ⟨⟨_, longBranch_off hstop hq, hplace', hsettled'⟩,
      ⟨_, longBranch_off hstop hq, hplace', hsettled'⟩⟩⟩

end Sys2Proof.Machine
end

section
/-! ### Integer compares -/
namespace Sys2Proof.Machine

section
variable {s : State}

/-- Writing to a predicate what it holds changes nothing. -/
theorem setPr_self (s : State) (p : BitVec 6) : s.setPr p (s.prBit p) = s := by
  have hi := prIndex_lt s p
  unfold State.setPr State.prBit
  split
  · rfl
  · have hpr : setBit s.pr (s.prIndex p) (bit s.pr (s.prIndex p)) = s.pr := by
      apply BitVec.eq_of_getLsbD_eq
      intro k _
      rw [getLsbD_setBit _ _ _ _ hi]
      split
      · next hk => rw [hk, bit_eq]
      · rfl
    rw [hpr]

theorem setPrs_self (s : State) (p1 p2 : BitVec 6) : s.setPrs p1 p2 (s.prBit p1) (s.prBit p2) = s := by
  rw [State.setPrs, setPr_self, setPr_self]

/-- A compare writes both its targets, also where its type leaves them as they were (R790). -/
theorem writePreds_eq_setPrs (s : State) (ct : CmpType) (p1 p2 : BitVec 6) (rel nat : Bool) :
    s.writePreds ct p1 p2 rel nat = s.setPrs p1 p2 (targetsAfter ct rel nat (s.prBit p1) (s.prBit p2)).1
      (targetsAfter ct rel nat (s.prBit p1) (s.prBit p2)).2 := by
  unfold State.writePreds targetsAfter
  cases ct with
  | and | or | orAndcm =>
    dsimp only
    split
    · rfl
    · exact (setPrs_self s p1 p2).symm
  | normal | unc =>
    dsimp only
    split
    · rfl
    · rfl

/-- An instruction that is a compare completes with its targets written, where they differ. -/
theorem compares_of_exec {i : Instr} {ct : CmpType} {qp p1 p2 : BitVec 6} {rel nat : Bool} (hq : s.prBit qp = true)
    (hss : s.psrBit Psr.ss = false) (hne : p1 ≠ p2) (hi : exec i s = compare ct qp p1 p2 rel nat s) :
    Compares i s ct p1 p2 rel nat := by
  refine writesPrs_of_exec hss hne ?_
  rw [hi, ← writePreds_eq_setPrs]
  simp [compare, hq, hne, check, done, finish, bind, Except.bind]

/-- With one predicate for both targets it is an Illegal Operation. -/
theorem traps_of_compare {i : Instr} {ct : CmpType} {qp p : BitVec 6} {rel nat : Bool} (hq : s.prBit qp = true)
    (hi : exec i s = compare ct qp p p rel nat s) : Traps i s illegalOperation := by
  rw [Traps, hi]
  simp [compare, hq, check, finish, bind, Except.bind]

/-! #### The forms of A6, A7 and A8 are compares of their operands -/

theorem exec_compareForms (s : State) (qp p1 p2 : BitVec 6) (r2 r3 : BitVec 7) :
    ∀ f ∈ compareForms, exec (f.1 qp p1 p2 r2 r3) s = compare f.2.2.1 qp p1 p2
      (relationOf f.2.1 f.2.2.2 (s.gr r2).val (s.gr r3).val) ((s.gr r2).nat || (s.gr r3).nat) s := by
  simp only [compareForms, List.forall_mem_cons, List.not_mem_nil, false_imp_iff, implies_true, and_true]
  and_intros
  all_goals rfl

theorem exec_compareZeroForms (s : State) (qp p1 p2 : BitVec 6) (r3 : BitVec 7) :
    ∀ f ∈ compareZeroForms, exec (f.1 qp p1 p2 r3) s = compare f.2.2.1 qp p1 p2
      (relationOf f.2.1 f.2.2.2 0 (s.gr r3).val) (s.gr r3).nat s := by
  simp only [compareZeroForms, List.forall_mem_cons, List.not_mem_nil, false_imp_iff, implies_true, and_true]
  and_intros
  all_goals rfl

theorem exec_compareImmForms (s : State) (qp p1 p2 : BitVec 6) (r3 : BitVec 7) (imm : BitVec 8) :
    ∀ f ∈ compareImmForms, exec (f.1 qp p1 p2 r3 imm) s = compare f.2.2.1 qp p1 p2
      (relationOf f.2.1 f.2.2.2 (imm.signExtend 64) (s.gr r3).val) (s.gr r3).nat s := by
  simp only [compareImmForms, List.forall_mem_cons, List.not_mem_nil, false_imp_iff, implies_true, and_true]
  and_intros
  all_goals rfl

end

/-! #### The relations -/

section
variable {n : Nat} (a b : BitVec n)

theorem holds_eq_iff : Rel.eq.holds a b = true ↔ a = b := beq_iff_eq

theorem holds_ne_iff : Rel.ne.holds a b = true ↔ a ≠ b := bne_iff_ne

theorem holds_lt_iff : Rel.lt.holds a b = true ↔ a.toInt < b.toInt := BitVec.slt_iff_toInt_lt

theorem holds_le_iff : Rel.le.holds a b = true ↔ a.toInt ≤ b.toInt := BitVec.sle_iff_toInt_le

theorem holds_ltu_iff : Rel.ltu.holds a b = true ↔ a.toNat < b.toNat := BitVec.ult_iff_lt

end

/-- Settles O5: each form is `compare` of its operands, and `compare` writes what R790 says. -/
theorem comparesWritePredicates : Obligations.ComparesWritePredicates := by
  refine ⟨fun s qp p1 p2 r2 r3 hq hss hne => ⟨?_, ?_, ?_⟩, fun s qp p r2 r3 hq => ⟨?_, ?_, ?_⟩, fun n a b => ?_⟩
  · exact fun f hf => compares_of_exec hq hss hne (exec_compareForms s qp p1 p2 r2 r3 f hf)
  · exact fun f hf => compares_of_exec hq hss hne (exec_compareZeroForms s qp p1 p2 r3 f hf)
  · exact fun f hf imm => compares_of_exec hq hss hne (exec_compareImmForms s qp p1 p2 r3 imm f hf)
  · exact fun f hf => traps_of_compare hq (exec_compareForms s qp p p r2 r3 f hf)
  · exact fun f hf => traps_of_compare hq (exec_compareZeroForms s qp p p r3 f hf)
  · exact fun f hf imm => traps_of_compare hq (exec_compareImmForms s qp p p r3 imm f hf)
  · exact ⟨holds_eq_iff a b, holds_ne_iff a b, holds_lt_iff a b, holds_le_iff a b, holds_lt_iff b a, holds_le_iff b a,
      holds_ltu_iff a b⟩

end Sys2Proof.Machine
end

section
/-! ### Register rotation -/
namespace Sys2Proof.Machine

/-! #### A rename base of a region of `n` registers, and what one rotation makes of it (R56) -/

/-- The base after a rotation: one less, and below 0 the highest. -/
def turned (n base : Nat) : Nat := if base = 0 then n - 1 else base - 1

theorem add_turned_mod {n : Nat} (hn : 0 < n) (v base : Nat) : (v + 1 + turned n base) % n = (v + base) % n := by
  unfold turned
  split
  next hb => rw [show v + 1 + (n - 1) = v + base + n by omega, Nat.add_mod_right]
  next hb => rw [show v + 1 + (base - 1) = v + base by omega]

theorem turned_mod {n : Nat} (hn : 0 < n) (base : Nat) : turned n base % n = (n - 1 + base) % n := by
  rw [← add_turned_mod hn, show n - 1 + 1 + turned n base = turned n base + n by omega, Nat.add_mod_right]

section
variable {c : Cfm}

theorem Cfm.rotate_rrbGr (h : 0 < c.sor.toNat) : c.rotate.rrbGr.toNat = turned (8 * c.sor.toNat) c.rrbGr.toNat := by
  have hsor : c.sor ≠ 0 := fun e => by simp [e] at h
  have hlt := c.sor.isLt
  have hz : c.rrbGr.toNat = 0 ↔ c.rrbGr = 0 := by rw [← BitVec.toNat_inj]; rfl
  simp only [Cfm.rotate, if_neg hsor, turned, hz]
  split
  · rw [BitVec.toNat_ofNat]; omega
  next hb => exact toNat_sub_one hb

theorem Cfm.rotate_rrbFr : c.rotate.rrbFr.toNat = turned 96 c.rrbFr.toNat := by
  have hz : c.rrbFr.toNat = 0 ↔ c.rrbFr = 0 := by rw [← BitVec.toNat_inj]; rfl
  simp only [Cfm.rotate, turned, hz]
  split
  · rfl
  next hb => exact toNat_sub_one hb

theorem Cfm.rotate_rrbPr : c.rotate.rrbPr.toNat = turned 48 c.rrbPr.toNat := by
  have hz : c.rrbPr.toNat = 0 ↔ c.rrbPr = 0 := by rw [← BitVec.toNat_inj]; rfl
  simp only [Cfm.rotate, turned, hz]
  split
  · rfl
  next hb => exact toNat_sub_one hb

theorem Cfm.rotate_frameIndex_succ {v : Nat} (hv : v + 1 < 8 * c.sor.toNat) :
    c.rotate.frameIndex (v + 1) = c.frameIndex v := by
  have hr := Cfm.rotate_rrbGr (c := c) (by omega)
  have hs : c.rotate.sor = c.sor := rfl
  rw [Cfm.frameIndex, Cfm.frameIndex, hs, if_pos hv, if_pos (by omega), hr, add_turned_mod (by omega)]

theorem Cfm.rotate_frameIndex_zero (h : 0 < c.sor.toNat) :
    c.rotate.frameIndex 0 = c.frameIndex (8 * c.sor.toNat - 1) := by
  have hs : c.rotate.sor = c.sor := rfl
  rw [Cfm.frameIndex, Cfm.frameIndex, hs, if_pos (by omega), if_pos (by omega), Cfm.rotate_rrbGr h, Nat.zero_add,
    turned_mod (by omega)]

theorem Cfm.rotate_frameIndex_of_le {v : Nat} (hv : 8 * c.sor.toNat ≤ v) : c.rotate.frameIndex v = c.frameIndex v := by
  have hs : c.rotate.sor = c.sor := rfl
  rw [Cfm.frameIndex, Cfm.frameIndex, hs, if_neg (by omega), if_neg (by omega)]

end

theorem toNat_add_one {n : Nat} {x : BitVec n} (h : x.toNat + 1 < 2 ^ n) : (x + 1).toNat = x.toNat + 1 := by
  rw [BitVec.toNat_add, BitVec.ofNat_eq_ofNat, BitVec.toNat_ofNat, Nat.mod_eq_of_lt (a := 1) (by omega), Nat.mod_eq_of_lt h]

section
variable {s : State}

/-! #### General registers (R53) -/

/-- The register at index `k` of the frame, before renaming. -/
def State.frameReg (s : State) (k : Nat) : Gr :=
  s.grStacked[Fin.ofNat Config.nStackPhys (s.rse.bof.val + k)]

theorem gr_of_inFrame {r : BitVec 7} {k : Nat} (hr : r.toNat = 32 + k) (hk : k < s.cfm.sof.toNat) :
    s.gr r = s.frameReg (s.cfm.frameIndex k) := by
  have hl : s.grLoc r = .stacked (Fin.ofNat Config.nStackPhys (s.rse.bof.val + s.cfm.frameIndex k)) := by
    unfold State.grLoc
    dsimp only
    rw [if_neg (by omega), if_neg (by omega), if_neg (by omega), if_pos (by omega), hr, Nat.add_sub_cancel_left]
  rw [State.gr, hl]
  rfl

theorem rotate_gr_succ {r : BitVec 7} (hf : 8 * s.cfm.sor.toNat ≤ s.cfm.sof.toNat) (hmax : s.cfm.sof.toNat ≤ 96)
    (hr : 32 ≤ r.toNat) (hlt : r.toNat + 1 < 32 + 8 * s.cfm.sor.toNat) : s.rotate.gr (r + 1) = s.gr r := by
  have hr1 : (r + 1).toNat = r.toNat + 1 := toNat_add_one (by omega)
  have hsof : s.rotate.cfm.sof = s.cfm.sof := rfl
  calc s.rotate.gr (r + 1)
      = s.rotate.frameReg (s.cfm.rotate.frameIndex (r.toNat - 32 + 1)) :=
        gr_of_inFrame (by omega) (by rw [hsof]; omega)
    _ = s.frameReg (s.cfm.frameIndex (r.toNat - 32)) := by rw [Cfm.rotate_frameIndex_succ (by omega)]; rfl
    _ = s.gr r := (gr_of_inFrame (by omega) (by omega)).symm

/-- The lowest rotating register takes what the highest held. -/
theorem rotate_gr_first (hf : 8 * s.cfm.sor.toNat ≤ s.cfm.sof.toNat) (hmax : s.cfm.sof.toNat ≤ 96)
    (hpos : 0 < s.cfm.sor.toNat) : s.rotate.gr 32 = s.gr (BitVec.ofNat 7 (31 + 8 * s.cfm.sor.toNat)) := by
  have hlast : (BitVec.ofNat 7 (31 + 8 * s.cfm.sor.toNat)).toNat = 31 + 8 * s.cfm.sor.toNat := by
    rw [BitVec.toNat_ofNat]; omega
  have hsof : s.rotate.cfm.sof = s.cfm.sof := rfl
  calc s.rotate.gr 32
      = s.rotate.frameReg (s.cfm.rotate.frameIndex 0) := gr_of_inFrame rfl (by rw [hsof]; omega)
    _ = s.frameReg (s.cfm.frameIndex (8 * s.cfm.sor.toNat - 1)) := by rw [Cfm.rotate_frameIndex_zero hpos]; rfl
    _ = s.gr (BitVec.ofNat 7 (31 + 8 * s.cfm.sor.toNat)) := (gr_of_inFrame (by omega) (by omega)).symm

theorem rotate_gr_outside {r : BitVec 7} (hr : r.toNat < 32 ∨ 32 + 8 * s.cfm.sor.toNat ≤ r.toNat) :
    s.rotate.gr r = s.gr r := by
  have hl : s.rotate.grLoc r = s.grLoc r := by
    unfold State.grLoc
    dsimp only
    rcases hr with hr | hr
    · rw [if_pos hr, if_pos hr]
      rfl
    · rw [show s.rotate.cfm.frameIndex (r.toNat - 32) = _ from Cfm.rotate_frameIndex_of_le (by omega)]
      rfl
  rw [State.gr, State.gr, hl]
  rfl

/-! #### Predicates (R61) -/

theorem rotate_prIndex_succ {p : BitVec 6} (hp : 16 ≤ p.toNat) (hlt : p.toNat < 63) :
    s.rotate.prIndex (p + 1) = s.prIndex p := by
  have hp1 : (p + 1).toNat = p.toNat + 1 := toNat_add_one (by omega)
  rw [State.prIndex, State.prIndex, if_neg (by omega), if_neg (by omega), hp1,
    show s.rotate.cfm.rrbPr.toNat = _ from Cfm.rotate_rrbPr,
    show p.toNat + 1 - 16 = p.toNat - 16 + 1 by omega, add_turned_mod (by omega)]

theorem rotate_prIndex_first : s.rotate.prIndex 16 = s.prIndex 63 := by
  show 16 + (0 + s.rotate.cfm.rrbPr.toNat) % 48 = 16 + (47 + s.cfm.rrbPr.toNat) % 48
  rw [show s.rotate.cfm.rrbPr.toNat = _ from Cfm.rotate_rrbPr, Nat.zero_add, turned_mod (by omega)]

theorem rotate_prIndex_static {p : BitVec 6} (hp : p.toNat < 16) : s.rotate.prIndex p = s.prIndex p := by
  rw [State.prIndex, State.prIndex, if_pos hp, if_pos hp]

theorem rotate_prBit {p q : BitVec 6} (hz : p = 0 ↔ q = 0) (hi : s.rotate.prIndex p = s.prIndex q) :
    s.rotate.prBit p = s.prBit q := by
  simp only [State.prBit, hz, hi]
  rfl

/-! #### Floating-point registers (R70) -/

theorem rotate_frIndex_succ {f : BitVec 7} (hf : 32 ≤ f.toNat) (hlt : f.toNat < 127) :
    s.rotate.frIndex (f + 1) = s.frIndex f := by
  have hf1 : (f + 1).toNat = f.toNat + 1 := toNat_add_one (by omega)
  rw [State.frIndex, State.frIndex, if_neg (by omega), if_neg (by omega), hf1,
    show s.rotate.cfm.rrbFr.toNat = _ from Cfm.rotate_rrbFr,
    show f.toNat + 1 - 32 = f.toNat - 32 + 1 by omega, add_turned_mod (by omega)]

theorem rotate_frIndex_first : s.rotate.frIndex 32 = s.frIndex 127 := by
  show Fin.ofNat 128 (32 + (0 + s.rotate.cfm.rrbFr.toNat) % 96) = Fin.ofNat 128 (32 + (95 + s.cfm.rrbFr.toNat) % 96)
  rw [show s.rotate.cfm.rrbFr.toNat = _ from Cfm.rotate_rrbFr, Nat.zero_add, turned_mod (by omega)]

theorem rotate_frIndex_static {f : BitVec 7} (hf : f.toNat < 32) : s.rotate.frIndex f = s.frIndex f := by
  rw [State.frIndex, State.frIndex, if_pos hf, if_pos hf]

theorem rotate_fpr {f g : BitVec 7} (h0 : f = 0 ↔ g = 0) (h1 : f = 1 ↔ g = 1)
    (hi : s.rotate.frIndex f = s.frIndex g) : s.rotate.fpr f = s.fpr g := by
  simp only [State.fpr, h0, h1, hi]
  rfl

end

/-- Settles O28: a rotation turns each rename base down by one, so that each register number names what the one below it
named. -/
theorem rotationMovesRegistersUp : Obligations.RotationMovesRegistersUp := by
  intro s hframe
  obtain ⟨hmax, -, hsor, -⟩ := (Cfm.wf_iff s.cfm).mp hframe
  refine ⟨Cfm.wf_rotate hframe, fun r => rotate_gr_succ hsor hmax, rotate_gr_first hsor hmax, fun r => rotate_gr_outside,
    fun p hp hlt => ?_, ?_, fun p hp => ?_, fun f hf hlt => ?_, ?_, fun f hf => ?_⟩
  · exact rotate_prBit (by bv_omega) (rotate_prIndex_succ hp hlt)
  · exact rotate_prBit (by decide) rotate_prIndex_first
  · exact rotate_prBit Iff.rfl (rotate_prIndex_static hp)
  · exact rotate_fpr (by bv_omega) (by bv_omega) (rotate_frIndex_succ hf hlt)
  · exact rotate_fpr (by decide) (by decide) rotate_frIndex_first
  · exact rotate_fpr Iff.rfl Iff.rfl (rotate_frIndex_static hf)

end Sys2Proof.Machine
end

section
/-! ### The registers of a called frame -/
namespace Sys2Proof.Machine

section
variable {s : State} {b : BitVec 3}

/-- A call makes the caller's first output register the first of the new frame (R552). -/
theorem call_frameReg (s : State) (b : BitVec 3) (k : Nat) : (s.call b).frameReg k = s.frameReg (s.cfm.sol.toNat + k) := by
  have hbof : Fin.ofNat Config.nStackPhys ((s.call b).rse.bof.val + k) =
      Fin.ofNat Config.nStackPhys (s.rse.bof.val + (s.cfm.sol.toNat + k)) := by
    apply Fin.ext
    show ((s.rse.bof.val + s.cfm.sol.toNat) % 96 + k) % 96 = (s.rse.bof.val + (s.cfm.sol.toNat + k)) % 96
    omega
  exact congrArg (fun i : Fin Config.nStackPhys => s.grStacked[i]) hbof

theorem call_gr_output {k : Nat} (hmax : s.cfm.sof.toNat ≤ 96) (hrot : 8 * s.cfm.sor.toNat ≤ s.cfm.sol.toNat)
    (hk : k < s.cfm.sof.toNat - s.cfm.sol.toNat) :
    (s.call b).gr (BitVec.ofNat 7 (32 + k)) = s.gr (BitVec.ofNat 7 (32 + s.cfm.sol.toNat + k)) := by
  have hsof : (s.call b).cfm.sof.toNat = s.cfm.sof.toNat - s.cfm.sol.toNat :=
    BitVec.toNat_sub_of_le (by rw [BitVec.le_def]; omega)
  have hnew : (s.call b).cfm.frameIndex k = k := if_neg (Nat.not_lt_zero k)
  have hold : s.cfm.frameIndex (s.cfm.sol.toNat + k) = s.cfm.sol.toNat + k := if_neg (by omega)
  calc (s.call b).gr (BitVec.ofNat 7 (32 + k))
      = (s.call b).frameReg k := by
        rw [gr_of_inFrame (k := k) (by rw [BitVec.toNat_ofNat]; omega) (by rw [hsof]; exact hk), hnew]
    _ = s.frameReg (s.cfm.sol.toNat + k) := call_frameReg s b k
    _ = s.gr (BitVec.ofNat 7 (32 + s.cfm.sol.toNat + k)) := by
        rw [gr_of_inFrame (k := s.cfm.sol.toNat + k) (by rw [BitVec.toNat_ofNat]; omega) (by omega), hold]

theorem call_gr_static {r : BitVec 7} (hr : r.toNat < 32) : (s.call b).gr r = s.gr r := by
  have hl : (s.call b).grLoc r = s.grLoc r := by
    unfold State.grLoc
    dsimp only
    rw [if_pos hr, if_pos hr]
    rfl
  rw [State.gr, State.gr, hl]
  rfl

end

/-- Settles O24: the call moves the bottom of the frame up by the locals, which hold every rotating register. -/
theorem outputsBecomeTheCalleesFrame : Obligations.OutputsBecomeTheCalleesFrame := by
  intro s qp b1 d wh p disp hframe hrot hq huntrapped
  obtain ⟨hss, htb⟩ := huntrapped
  obtain ⟨hmax, -⟩ := (Cfm.wf_iff s.cfm).mp hframe
  have hsettled := (retire_branch (s.call b1) (s.target25 disp) false hss htb rfl).1
  refine ⟨_, predicated_done hq rfl, fun k hk => ?_, fun r hr => ?_⟩
  · rw [gr_of_settled hsettled, call_gr_output hmax hrot hk]
  · rw [gr_of_settled hsettled, call_gr_static hr]

end Sys2Proof.Machine
end

section
/-! ### What the TLBs and the VHPT walker find -/
namespace Sys2Proof.Machine

/-! #### Matching entries (R201) -/

theorem ushiftRight_eq_iff {n : Nat} (a b : BitVec n) (m : Nat) :
    a >>> m = b >>> m ↔ ∀ k, m ≤ k → k < n → a.getLsbD k = b.getLsbD k := by
  constructor
  · intro h k hm _
    have hk := congrArg (fun v => v.getLsbD (k - m)) h
    simpa [Nat.add_sub_cancel' hm] using hk
  · intro h
    apply BitVec.eq_of_getLsbD_eq
    intro i hi
    rw [BitVec.getLsbD_ushiftRight, BitVec.getLsbD_ushiftRight]
    by_cases hlt : m + i < n
    · exact h _ (by omega) hlt
    · rw [BitVec.getLsbD_of_ge _ _ (by omega), BitVec.getLsbD_of_ge _ _ (by omega)]

theorem base_getLsbD (e : TlbEntry) {k : Nat} (hk : k < 61) :
    e.base.getLsbD k = (decide (12 ≤ k) && e.vpn.getLsbD (k - 12)) := by
  rw [TlbEntry.base, BitVec.getLsbD_append]
  by_cases h : k < 12
  · simp [h]
  · rw [if_neg h, getLsbD_fld]
    simp [show 12 ≤ k by omega, show k - 12 < 49 by omega]

/-- The match condition of the model is that of R201, bit by bit. -/
theorem matches_iff_maps (s : State) (va : Word) (e : TlbEntry) :
    e.matches (rrRid (s.region va)) va = true ↔ Maps s va e := by
  rw [TlbEntry.matches, Bool.and_eq_true, beq_iff_eq, beq_iff_eq, ushiftRight_eq_iff]
  refine and_congr Iff.rfl (forall_congr' fun k => imp_congr_right fun _ => imp_congr_right fun hk => ?_)
  rw [base_getLsbD e hk, getLsbD_fld]
  simp [hk]

section
variable {n : Nat} {trs : Vector (Option TlbEntry) n} {tcs : List TlbEntry} {s : State} {va : Word}

theorem mem_tlb_iff {e : TlbEntry} : e ∈ trs.toList.reduceOption ++ tcs ↔ some e ∈ trs.toList ∨ e ∈ tcs := by
  rw [List.mem_append, List.reduceOption_mem_iff]

theorem maps_of_tlbFind_eq_some {e : TlbEntry} (h : tlbFind trs tcs (rrRid (s.region va)) va = some e) :
    (some e ∈ trs.toList ∨ e ∈ tcs) ∧ Maps s va e :=
  ⟨mem_tlb_iff.mp (List.mem_of_find?_eq_some h), (matches_iff_maps s va e).mp
    (List.find?_some (p := fun e : TlbEntry => e.matches (rrRid (s.region va)) va) h)⟩

theorem not_maps_of_tlbFind_eq_none (h : tlbFind trs tcs (rrRid (s.region va)) va = none) (e : TlbEntry)
    (he : some e ∈ trs.toList ∨ e ∈ tcs) : ¬ Maps s va e := by
  rw [← matches_iff_maps]
  exact List.find?_eq_none.mp h e (mem_tlb_iff.mpr he)

end

theorem physical_getLsbD (e : TlbEntry) (va : Word) {k : Nat} (hk : k < 64) : (e.physical va).getLsbD k =
    if k < e.ps.toNat then va.getLsbD k else decide (12 ≤ k) && e.ppn.getLsbD (k - 12) := by
  simp only [TlbEntry.physical, BitVec.getLsbD_or, BitVec.getLsbD_and, BitVec.getLsbD_not, BitVec.getLsbD_shiftLeft,
    BitVec.getLsbD_setWidth, BitVec.getLsbD_ofNat, Nat.testBit_two_pow_sub_one, hk]
  by_cases hps : k < e.ps.toNat
  · simp [hps]
  · by_cases h12 : k < 12
    · simp [hps, h12]
    · simp [hps, h12, show 12 ≤ k by omega, show k - 12 < 64 by omega]

theorem tlbsFind : TlbsFind := fun _ va =>
  ⟨fun _ => maps_of_tlbFind_eq_some, not_maps_of_tlbFind_eq_none, fun _ => maps_of_tlbFind_eq_some,
    not_maps_of_tlbFind_eq_none, rfl, fun e => ⟨rfl, fun _ => physical_getLsbD e va⟩⟩

/-! #### The page of a data reference (R210 checks 6 to 12) -/

theorem rights_read_iff (ar : BitVec 3) (pl cpl : BitVec 2) :
    (rights ar pl cpl).1 = true ↔ cpl ≤ pl ∧ (ar = 7 → cpl = 0) := by
  revert ar pl cpl; decide

theorem rights_write_iff (ar : BitVec 3) (pl cpl : BitVec 2) : (rights ar pl cpl).2.1 = true ↔
    cpl ≤ pl ∧ (ar = 2 ∨ ar = 3 ∨ ar = 6 ∨ (ar = 4 ∨ ar = 5) ∧ cpl = 0) := by
  revert ar pl cpl; decide

/-- The access right check of the model is R236's table. -/
theorem rights_denied_iff (e : TlbEntry) (acc : Access) (pl : BitVec 2) :
    ((acc.r && !(rights e.ar e.pl pl).1) || (acc.w && !(rights e.ar e.pl pl).2.1)) = true ↔ ¬ Grants e acc pl := by
  rw [Grants, ← rights_read_iff, ← rights_write_iff]
  simp only [Bool.or_eq_true, Bool.and_eq_true, Bool.not_eq_true', not_and_or, Classical.not_imp, Bool.not_eq_true]

section
variable {s : State} {e : TlbEntry} {acc : Access}

theorem keyOf_iff (k : Word) : KeyOf e k ↔ (bit k 0 && fld k 8 24 == e.key) = true := by
  rw [Bool.and_eq_true, beq_iff_eq]; rfl

theorem keyDisables_iff (k : Word) : KeyDisables acc k ↔ ((acc.r && bit k 2) || (acc.w && bit k 1)) = true := by
  rw [Bool.or_eq_true, Bool.and_eq_true, Bool.and_eq_true]; rfl

theorem keyOf_of_searchPkr {i : Fin Config.nPkr} (h : s.searchPkr e.key = some i) : KeyOf e s.pkr[i] :=
  (keyOf_iff _).mpr (List.find?_some (p := fun i => bit s.pkr[i] 0 && fld s.pkr[i] 8 24 == e.key) h)

theorem not_keyOf_of_searchPkr (h : s.searchPkr e.key = none) : ∀ k ∈ s.pkr.toList, ¬ KeyOf e k := by
  intro k hk
  obtain ⟨i, hi, rfl⟩ := List.mem_iff_getElem.mp hk
  rw [Vector.length_toList] at hi
  rw [keyOf_iff]
  exact List.find?_eq_none.mp h ⟨i, hi⟩ (List.mem_finRange _)

/-- The key of a usable page is found where PSR.pk asks for it. -/
theorem searchPkr_of_usable (h : s.PageUsable e) (hpk : s.psrBit Psr.pk = true) : ∃ i, s.searchPkr e.key = some i := by
  obtain ⟨-, -, hkey⟩ := h
  obtain ⟨k, hk, hof⟩ := hkey hpk
  exact Option.ne_none_iff_exists'.mp fun hs => not_keyOf_of_searchPkr hs k hk hof

theorem pkr_mem (i : Fin Config.nPkr) : s.pkr[i] ∈ s.pkr.toList :=
  Vector.mem_toList_iff.mpr (Vector.getElem_mem i.isLt)

/-- The key check of the model: the register that PSR.pk finds disables the access. -/
def State.keyDenies (s : State) (e : TlbEntry) (acc : Access) : Bool :=
  s.psrBit Psr.pk && (s.searchPkr e.key).any fun i => (acc.r && bit s.pkr[i] 2) || (acc.w && bit s.pkr[i] 1)

theorem keyDenies_of_keysDeny (hu : s.PageUsable e) (h : s.KeysDeny e acc) : s.keyDenies e acc = true := by
  obtain ⟨hpk, hdeny⟩ := h
  obtain ⟨i, hs⟩ := searchPkr_of_usable hu hpk
  rw [State.keyDenies, hpk, hs]
  exact (keyDisables_iff _).mp (hdeny _ (pkr_mem i) (keyOf_of_searchPkr hs))

theorem keyDenies_of_keysAllow (h : s.KeysAllow e acc) : s.keyDenies e acc = false := by
  rw [State.keyDenies, Bool.and_eq_false_imp]
  intro hpk
  match hs : s.searchPkr e.key with
  | none => rfl
  | some i =>
    have hallow := h hpk _ (pkr_mem i) (keyOf_of_searchPkr hs)
    rw [keyDisables_iff] at hallow
    exact Bool.eq_false_of_not_eq_true hallow

variable {r : Ref} {va : Word} {x : Interruption}

theorem entryFault_of_pageFault (h : s.PageFault va r e x) : s.entryFault e r va = some x := by
  rcases h with ⟨hp, rfl⟩ | ⟨hp, hma, rfl⟩ | ⟨hp, hma, hpk, hkey, rfl⟩
  · simp only [State.entryFault, hp, Bool.not_false, if_true]; rfl
  · simp only [State.entryFault, hp, hma, maNat, Bool.not_true, Bool.false_eq_true, if_false, if_true]; rfl
  · have hnone : s.searchPkr e.key = none := by
      match hs : s.searchPkr e.key with
      | none => rfl
      | some i => exact absurd (keyOf_of_searchPkr hs) (hkey _ (pkr_mem i))
    simp only [State.entryFault, hp, hma, maNat, hpk, hnone, Option.isNone_none, Bool.and_self, Bool.not_true,
      Bool.false_eq_true, if_false, if_true]
    rfl

/-- A usable page: what is left are the checks 9 to 12 of R210. -/
theorem entryFault_of_usable (h : s.PageUsable e) : s.entryFault e r va =
    if s.keyDenies e r.access then some (refFault r va .keyPermission 0 (some e.itir) none)
    else if (r.access.r && !(rights e.ar e.pl r.pl).1) || (r.access.w && !(rights e.ar e.pl r.pl).2.1) then
      some (refFault r va .dataAccessRights 0 (some e.itir) none)
    else if r.access.w && !e.d && !s.psrBit Psr.da then some (refFault r va .dirtyBit 0 (some e.itir) none)
    else if !e.a && !s.psrBit Psr.da then some (refFault r va .dataAccessBit 0 (some e.itir) none)
    else none := by
  have hfound : (s.psrBit Psr.pk && (s.searchPkr e.key).isNone) = false := by
    rw [Bool.and_eq_false_imp]
    intro hpk
    obtain ⟨i, hs⟩ := searchPkr_of_usable h hpk
    rw [hs]; rfl
  obtain ⟨hp, hma, -⟩ := h
  simp only [State.entryFault, hp, maNat, hma, hfound, Bool.not_true, Bool.false_eq_true, if_false]
  rfl

theorem entryFault_keyPermission (hu : s.PageUsable e) (hk : s.KeysDeny e r.access) :
    s.entryFault e r va = some (refFault r va .keyPermission 0 (some e.itir) none) := by
  rw [entryFault_of_usable hu, if_pos (keyDenies_of_keysDeny hu hk)]

/-- Past the key check (R210 check 9). -/
theorem entryFault_of_keysAllow (hu : s.PageUsable e) (hk : s.KeysAllow e r.access) : s.entryFault e r va =
    if (r.access.r && !(rights e.ar e.pl r.pl).1) || (r.access.w && !(rights e.ar e.pl r.pl).2.1) then
      some (refFault r va .dataAccessRights 0 (some e.itir) none)
    else if r.access.w && !e.d && !s.psrBit Psr.da then some (refFault r va .dirtyBit 0 (some e.itir) none)
    else if !e.a && !s.psrBit Psr.da then some (refFault r va .dataAccessBit 0 (some e.itir) none)
    else none := by
  rw [entryFault_of_usable hu, keyDenies_of_keysAllow hk, if_neg Bool.false_ne_true]

theorem entryFault_dataAccessRights (hu : s.PageUsable e) (hk : s.KeysAllow e r.access)
    (hg : ¬ Grants e r.access r.pl) :
    s.entryFault e r va = some (refFault r va .dataAccessRights 0 (some e.itir) none) := by
  rw [entryFault_of_keysAllow hu hk, if_pos ((rights_denied_iff _ _ _).mpr hg)]

/-- Past the access rights (R210 check 10). -/
theorem entryFault_of_grants (hu : s.PageUsable e) (hk : s.KeysAllow e r.access) (hg : Grants e r.access r.pl) :
    s.entryFault e r va =
      if r.access.w && !e.d && !s.psrBit Psr.da then some (refFault r va .dirtyBit 0 (some e.itir) none)
      else if !e.a && !s.psrBit Psr.da then some (refFault r va .dataAccessBit 0 (some e.itir) none)
      else none := by
  rw [entryFault_of_keysAllow hu hk, if_neg (mt (rights_denied_iff _ _ _).mp (not_not_intro hg))]

theorem entryFault_dirtyBit (hu : s.PageUsable e) (hk : s.KeysAllow e r.access) (hg : Grants e r.access r.pl)
    (hw : r.access.w = true) (hd : e.d = false) (hda : s.psrBit Psr.da = false) :
    s.entryFault e r va = some (refFault r va .dirtyBit 0 (some e.itir) none) := by
  rw [entryFault_of_grants hu hk hg, hw, hd, hda]; rfl

/-- Past the dirty bit (R210 check 11). -/
theorem entryFault_of_dirty (hu : s.PageUsable e) (hk : s.KeysAllow e r.access) (hg : Grants e r.access r.pl)
    (hd : r.access.w = true → e.d = true ∨ s.psrBit Psr.da = true) : s.entryFault e r va =
      if !e.a && !s.psrBit Psr.da then some (refFault r va .dataAccessBit 0 (some e.itir) none) else none := by
  have hclean : (r.access.w && !e.d && !s.psrBit Psr.da) = false := by
    cases hw : r.access.w with
    | false => rfl
    | true => rcases hd hw with h | h <;> simp [h]
  rw [entryFault_of_grants hu hk hg, hclean, if_neg Bool.false_ne_true]

theorem entryFault_dataAccessBit (hu : s.PageUsable e) (hk : s.KeysAllow e r.access) (hg : Grants e r.access r.pl)
    (hd : r.access.w = true → e.d = true ∨ s.psrBit Psr.da = true) (ha : e.a = false) (hda : s.psrBit Psr.da = false) :
    s.entryFault e r va = some (refFault r va .dataAccessBit 0 (some e.itir) none) := by
  rw [entryFault_of_dirty hu hk hg hd, ha, hda]; rfl

theorem entryFault_none (hu : s.PageUsable e) (hk : s.KeysAllow e r.access) (hg : Grants e r.access r.pl)
    (hd : r.access.w = true → e.d = true ∨ s.psrBit Psr.da = true) (ha : e.a = true ∨ s.psrBit Psr.da = true) :
    s.entryFault e r va = none := by
  have hclean : (!e.a && !s.psrBit Psr.da) = false := by rcases ha with h | h <;> simp [h]
  rw [entryFault_of_dirty hu hk hg hd, hclean, if_neg Bool.false_ne_true]

end

/-! #### The walker (R200, R221) -/

/-- A read holds what its bytes say, and nothing else does (R150). -/
theorem memRead_eq_of_holdsBytes {s : State} {pa v : Word} {be : Bool} (h : HoldsBytes v 8 be (bytesFrom s pa)) :
    s.memRead pa 8 be = v := by
  have hread : HoldsBytes (s.memRead pa 8 be) 8 be (bytesFrom s pa) := holds_read 64 s.mem (physAddr pa) 8 be rfl
  apply BitVec.eq_of_getLsbD_eq
  intro i hi
  have hbyte : fld (s.memRead pa 8 be) (8 * (i / 8)) 8 = fld v (8 * (i / 8)) 8 :=
    (hread (i / 8) (by omega)).trans (h (i / 8) (by omega)).symm
  have hbit := congrArg (fun b => b.getLsbD (i % 8)) hbyte
  simp only [getLsbD_fld, Nat.div_add_mod] at hbit
  simpa [Nat.mod_lt] using hbit

section
variable {s : State} {va : Word}

theorem walkVhpt_of_miss (h : s.findData (s.vhptHash va) = none) : s.walkVhpt va = .vhptFault := by
  simp only [State.walkVhpt, h]

/-- The walker's own read of a usable page meets no fault (R200: it is privileged). -/
theorem entryFault_walker {e : TlbEntry} (hp : e.p = true) (hma : e.ma = 0) (hpk : s.psrBit Psr.pk = false)
    (ha : e.a = true ∨ s.psrBit Psr.da = true) :
    s.entryFault e { access := { r := true }, size := 8, align := 8, pl := 0 } va = none := by
  have hoff {P : Prop} (h : s.psrBit Psr.pk = true) : P := absurd h (by rw [hpk]; decide)
  refine entryFault_none ⟨hp, by rw [hma]; decide, hoff⟩ hoff ⟨fun _ => ⟨?_, fun _ => rfl⟩, ?_⟩ ?_ ha
  · exact Nat.zero_le e.pl.toNat
  · exact fun hw => absurd hw (by decide)
  · exact fun hw => absurd hw (by decide)

/-- The short format: the page word alone is read, its size and key are the region register's (log entry 21). -/
theorem walkVhpt_short {e : TlbEntry} {v : Word} (hfind : s.findData (s.vhptHash va) = some e)
    (hva : unimplementedVa (s.vhptHash va) (s.psrBit Psr.vm) = false)
    (hp : e.p = true) (hma : e.ma = 0) (hpk : s.psrBit Psr.pk = false) (ha : e.a = true ∨ s.psrBit Psr.da = true)
    (hblock : s.blockOffset (e.physical (s.vhptHash va)) = none) (hshort : s.cr.pta.getLsbD 8 = false)
    (hv : HoldsBytes v 8 (s.cr.dcr.getLsbD 1) (bytesFrom s (e.physical (s.vhptHash va)))) :
    s.walkVhpt va = if tlbReserved v (s.missItir va) then .notFound
      else .found (pageEntry v (s.missItir va) va (fld (s.region va) 8 24)) := by
  have hfault := entryFault_walker (va := s.vhptHash va) hp hma hpk ha
  have hread := memRead_eq_of_holdsBytes hv
  have hgoes : (unimplementedVa (s.vhptHash va) (s.psrBit Psr.vm) || (none : Option Interruption).isSome || e.ma != maWb
      || (s.blockOffset (e.physical (s.vhptHash va))).isSome) = false := by
    rw [hva, hma, hblock]; rfl
  simp only [State.walkVhpt, hfind, hfault, hgoes, bit_eq, hshort, hread, Bool.false_eq_true, if_false, Bool.not_false,
    Bool.true_or, Bool.not_true, Bool.false_or]
  rfl

end

theorem walkerReads : WalkerReads := fun s va => by
  refine ⟨walkVhpt_of_miss, fun e v hfind hva hp hma hpk ha hblock hshort hv => ?_⟩
  rw [walkVhpt_short hfind hva hp hma hpk ha hblock hshort hv]
  exact ⟨fun h => if_pos h, fun h => if_neg (by simp [h])⟩

end Sys2Proof.Machine
end

section
/-! ### The translation of a data reference -/
namespace Sys2Proof.Machine

section
variable {s : State} {va : Word} {r : Ref} {x : Interruption} {e : TlbEntry} {walked : Option TlbEntry}

/-! #### The page, or the fault of the miss (R210 checks 2 to 5) -/

theorem walks_iff : (bit s.cr.pta 0 && rrVe (s.region va) && s.psrBit Psr.dt) = true ↔ s.Walks va := by
  rw [Bool.and_eq_true, Bool.and_eq_true, and_assoc]; rfl

theorem dataEntry_of_dataPage (h : s.DataPage va e walked) : s.dataEntry va r = .ok (e, walked) := by
  rcases h with ⟨hfind, rfl⟩ | ⟨hfind, hon, hfound, rfl⟩
  · simp only [State.dataEntry, hfind]
  · simp only [State.dataEntry, hfind, walks_iff.mpr hon, if_true, hfound]

/-- The walk finds no page: the fault of the miss by PSR.ic and by where the walk ended (R210, R1124). -/
theorem dataEntry_of_walk {w : Walk} (hfind : s.findData va = none)
    (hw : (if bit s.cr.pta 0 && rrVe (s.region va) && s.psrBit Psr.dt then s.walkVhpt va else .notFound) = w)
    (hno : ∀ e, w ≠ .found e) : s.dataEntry va r = .error (
      if !s.psrBit Psr.ic then
        { vector := .dataNestedTlb, access := r.access, code := r.access.naCode.zeroExtend 16 }
      else if !(bit s.cr.pta 0 && rrVe (s.region va) && s.psrBit Psr.dt) then
        refFault r va .alternateDataTlb 0 (some (s.missItir va)) none
      else if w = .vhptFault then
        refFault r va .vhptTranslation 0 (some (s.missItir va)) (some (s.vhptHash va))
      else refFault r va .dataTlb 0 (some (s.missItir va)) (some (s.vhptHash va))) := by
  simp only [State.dataEntry, hfind, hw]
  cases w with
  | found e => exact absurd rfl (hno e)
  | vhptFault | notFound => simp only [apply_ite Except.error]; rfl

theorem dataEntry_of_dataMiss (h : s.DataMiss va r x) : s.dataEntry va r = .error x := by
  obtain ⟨hfind, ⟨hic, hno, rfl⟩ | ⟨hic, hoff, rfl⟩ | ⟨hic, hon, hwalk, rfl⟩ | ⟨hic, hon, hwalk, rfl⟩⟩ := h
  · rw [dataEntry_of_walk hfind rfl, hic]
    · rfl
    · intro e he
      split at he
      · next hon => exact hno ⟨walks_iff.mp hon, e, he⟩
      · cases he
  · have hoff := Bool.eq_false_of_not_eq_true (mt walks_iff.mp hoff)
    rw [dataEntry_of_walk (w := .notFound) hfind (by rw [hoff]; rfl) (by simp), hic, hoff]
    rfl
  · have hon := walks_iff.mpr hon
    rw [dataEntry_of_walk (w := .vhptFault) hfind (by rw [hon, if_pos rfl, hwalk]) (by simp), hic, hon]
    rfl
  · have hon := walks_iff.mpr hon
    rw [dataEntry_of_walk (w := .notFound) hfind (by rw [hon, if_pos rfl, hwalk]) (by simp), hic, hon]
    rfl

/-! #### Debug, alignment, attribute (R210 checks 13 to 15) -/

/-- A data breakpoint of PSR.cpl matches a byte of the reference (R114, R1138). -/
def State.DataBreaks (s : State) (va : Word) (r : Ref) : Prop :=
  s.psrBit Psr.db = true ∧ s.psrBit Psr.dd = false ∧ ∃ k < 4,
    let (addr, ctl) := breakpoint s.dbr k
    ((r.access.r = true ∧ ctl.getLsbD 63 = true) ∨ (r.access.w = true ∧ ctl.getLsbD 62 = true)) ∧
      ctl.getLsbD (56 + s.cpl.toNat) = true ∧
      ∃ n < r.size, (fld (va + BitVec.ofNat 64 n) 0 56 : BitVec 56) &&& fld ctl 0 56 = fld addr 0 56 &&& fld ctl 0 56

theorem debugPair_iff {addr ctl : Word} {size : Nat} {cpl : BitVec 2} : debugPair addr ctl va size cpl = true ↔
    ctl.getLsbD (56 + cpl.toNat) = true ∧ ∃ n < size,
      (fld (va + BitVec.ofNat 64 n) 0 56 : BitVec 56) &&& fld ctl 0 56 = fld addr 0 56 &&& fld ctl 0 56 := by
  have hcpl : cpl.toNat < 4 := cpl.isLt
  simp only [debugPair, Bool.and_eq_true, bit_eq, getLsbD_fld, hcpl, decide_true, Bool.true_and, List.any_eq_true,
    List.mem_range, beq_iff_eq]

theorem dataBreak_iff : s.dataBreak va r.size r.access s.cpl = true ↔ s.DataBreaks va r := by
  simp only [State.dataBreak, breakpointHit, Bool.and_eq_true, Bool.not_eq_true', List.any_eq_true, List.mem_range,
    Bool.or_eq_true, debugPair_iff, bit_eq, and_assoc]
  rfl

/-- How a reference to physical address `pa` on a page of attribute `ma` ends in `y`, the checks of its page passed. -/
def State.Ends (s : State) (va : Word) (r : Ref) (pa : Word) (ma : BitVec 3) (walked : Option TlbEntry)
    (y : Except Faulted Translation) : Prop :=
  (s.DataBreaks va r → y = .error ⟨refFault r va .debug 0 none none, walked⟩) ∧
    (¬ s.DataBreaks va r → va.toNat % r.align ≠ 0 →
      y = .error ⟨refFault r va .unalignedReference 0 none none, walked⟩) ∧
    (¬ s.DataBreaks va r → va.toNat % r.align = 0 →
      (r.cacheableOnly = true → ma ≠ 0 → y = .error ⟨refFault r va .unsupportedDataReference 0 none none, walked⟩) ∧
      (r.cacheableOnly = false ∨ ma = 0 → y = .ok ⟨pa, ma, va, r.size, walked⟩))

theorem ends_of_finalFault {pa : Word} {ma : BitVec 3} {y : Except Faulted Translation}
    (hf : ∀ i, s.finalFault r va ma = some i → y = .error ⟨i, walked⟩)
    (hn : s.finalFault r va ma = none → y = .ok ⟨pa, ma, va, r.size, walked⟩) : s.Ends va r pa ma walked y := by
  refine ⟨fun hb => hf _ ?_, fun hb ha => hf _ ?_, fun hb ha => ⟨fun hc hm => hf _ ?_, fun hc => hn ?_⟩⟩
  · rw [State.finalFault, if_pos (dataBreak_iff.mpr hb)]; rfl
  · rw [State.finalFault, if_neg (mt dataBreak_iff.mp hb), if_pos ha]; rfl
  · have hbad : (r.cacheableOnly && ma != maWb) = true := by simpa [hc, maWb] using hm
    rw [State.finalFault, if_neg (mt dataBreak_iff.mp hb), if_neg (not_not_intro ha), if_pos hbad]; rfl
  · have hgood : (r.cacheableOnly && ma != maWb) = false := by rcases hc with h | h <;> simp [h, maWb]
    rw [State.finalFault, if_neg (mt dataBreak_iff.mp hb), if_neg (not_not_intro ha), hgood]; rfl

/-! #### The whole translation -/

theorem translate_physical_unimplemented (h : unimplementedPa va = true) :
    s.translate false va r = .error ⟨unimplementedData r.access, none⟩ := by
  simp [State.translate, h]

theorem translate_physical_ends (h : unimplementedPa va = false) :
    s.Ends va r va (if va.getLsbD 63 then 4 else 0) none (s.translate false va r) := by
  change s.Ends va r va (if bit va 63 then maUc else maWb) none _
  refine ends_of_finalFault (fun i hi => ?_) (fun hn => ?_)
  · simp only [State.translate, h, Bool.false_eq_true, if_false, hi]
  · simp only [State.translate, h, Bool.false_eq_true, if_false, hn]

theorem translate_virtual_unimplemented (h : unimplementedVa va (s.psrBit Psr.vm) = true) :
    s.translate true va r = .error ⟨unimplementedData r.access, none⟩ := by
  simp [State.translate, h]

theorem translate_of_dataMiss (hva : unimplementedVa va (s.psrBit Psr.vm) = false) (h : s.DataMiss va r x) :
    s.translate true va r = .error ⟨x, none⟩ := by
  simp only [State.translate, hva, dataEntry_of_dataMiss h, if_true, Bool.false_eq_true, if_false]

theorem translate_of_entryFault (hva : unimplementedVa va (s.psrBit Psr.vm) = false) (hp : s.DataPage va e walked)
    (h : s.entryFault e r va = some x) : s.translate true va r = .error ⟨x, walked⟩ := by
  simp only [State.translate, hva, dataEntry_of_dataPage hp, h, if_true, Bool.false_eq_true, if_false]

theorem translate_ends (hva : unimplementedVa va (s.psrBit Psr.vm) = false) (hp : s.DataPage va e walked)
    (h : s.entryFault e r va = none) : s.Ends va r (e.physical va) e.ma walked (s.translate true va r) := by
  refine ends_of_finalFault (fun i hi => ?_) (fun hn => ?_)
  · simp only [State.translate, hva, dataEntry_of_dataPage hp, h, hi, if_true, Bool.false_eq_true, if_false]
  · simp only [State.translate, hva, dataEntry_of_dataPage hp, h, hn, if_true, Bool.false_eq_true, if_false]

end

theorem dataTranslated : DataTranslated := fun s va r =>
  ⟨translate_physical_unimplemented, translate_physical_ends, translate_virtual_unimplemented, fun hva =>
    ⟨fun _ => translate_of_dataMiss hva, fun e walked hp =>
      have raises {x : Interruption} : s.entryFault e r va = some x → s.translate true va r = .error ⟨x, walked⟩ :=
        translate_of_entryFault hva hp
      ⟨fun _ hx => raises (entryFault_of_pageFault hx), fun hu =>
        ⟨fun hk => raises (entryFault_keyPermission hu hk),
          fun hk hg => raises (entryFault_dataAccessRights hu hk hg),
          fun hk hg => ⟨fun hw hd hda => raises (entryFault_dirtyBit hu hk hg hw hd hda),
            fun hd => ⟨fun ha hda => raises (entryFault_dataAccessBit hu hk hg hd ha hda),
              fun ha => translate_ends hva hp (entryFault_none hu hk hg hd ha)⟩⟩⟩⟩⟩⟩

end Sys2Proof.Machine
end

section
/-! ### Memory instructions whose reference is not made -/
namespace Sys2Proof.Machine

/-! #### Checks, one after the other -/

section
variable {α β : Type} {c d : Bool} {i : Interruption} {f : Unit → Except Stop β}

theorem check_true_bind : (check true i >>= f) = .error (.interrupt i) := rfl

theorem check_false_bind : (check false i >>= f) = f () := rfl

/-- Two checks of one fault are a check of either. -/
theorem check_bind_check : (check c i >>= fun _ => check d i >>= f) = check (c || d) i >>= f := by
  cases c <;> rfl

end

section
variable {i : Instr} {s : State} {qp : BitVec 6} {r3 : BitVec 7} {bad nat : Bool} {reads : Prop} {access : Access}
  {ref : Ref} {regs : List (BitVec 7)} {x : Faulted} {rest : Body}

/-! #### How a reference that is not made ends -/

/-- The fault of the translation ends whatever follows. -/
theorem faulted_bind {α β : Type} (s : State) (x : Faulted) (f : α → Except Stop β) :
    (s.faulted x >>= f) = s.faulted x := by
  unfold State.faulted
  cases s.checkWalk false x.walked <;> rfl

theorem finish_faulted (h : s.checkWalk false x.walked = .ok ()) :
    finish s (s.faulted x) = .next (deliver x.fault (s.keepWalk x.walked)) := by
  simp only [State.faulted, h]; rfl

theorem finish_faulted_machineCheck (h : s.checkWalk false x.walked ≠ .ok ()) :
    finish s (s.faulted x) = .fault .machineCheck := by
  have hstuck : s.checkWalk false x.walked = .error (.stuck .machineCheck) := by
    unfold State.checkWalk stuckIf at h ⊢
    split at h
    · next hc => rw [if_pos hc]
    · exact absurd rfl h
  simp only [State.faulted, hstuck]; rfl

theorem traps_of_exec (hq : s.prBit qp = true) {y : Interruption}
    (hi : exec i s = predicated qp s (.error (.interrupt y))) : Traps i s y := by
  rw [Traps, hi, predicated, if_pos hq]; rfl

theorem trapsAt_of_exec (hq : s.prBit qp = true) (hi : exec i s = predicated qp s (s.faulted x)) : TrapsAt i s x := by
  rw [predicated, if_pos hq] at hi
  exact ⟨fun h => hi.trans (finish_faulted h), fun h => hi.trans (finish_faulted_machineCheck h)⟩

/-- `i` takes the fault of a bad target, of a NaT operand, or of the translation of the address in GR `r3`. -/
def TakesFaults (i : Instr) (s : State) (r3 : BitVec 7) (bad nat : Bool) (reads : Prop) (access : Access)
    (ref : Ref) : Prop :=
  (bad = true → Traps i s illegalOperation) ∧
    (bad = false → nat = true → Traps i s (natConsumption access)) ∧
    (bad = false → nat = false → reads → ∀ x,
      s.translate (s.psrBit Psr.dt) (s.gr r3).val ref = .error x → TrapsAt i s x)

/-- What follows the checks ends with the fault that the translation of the address in GR `r3` meets. -/
def MeetsFault (s : State) (r3 : BitVec 7) (reads : Prop) (ref : Ref) (rest : Body) : Prop :=
  reads → ∀ x, s.translate (s.psrBit Psr.dt) (s.gr r3).val ref = .error x → rest = s.faulted x

theorem takesFaults_of_exec (hq : s.prBit qp = true) (hm : MeetsFault s r3 reads ref rest)
    (hi : exec i s = predicated qp s (check bad illegalOperation >>= fun _ =>
      check nat (natConsumption access) >>= fun _ => rest)) : TakesFaults i s r3 bad nat reads access ref := by
  refine ⟨fun hb => ?_, fun hb hn => ?_, fun hb hn hr x hx => ?_⟩
  · rw [hb, check_true_bind] at hi; exact traps_of_exec hq hi
  · rw [hb, hn, check_false_bind, check_true_bind] at hi; exact traps_of_exec hq hi
  · rw [hb, hn, check_false_bind, check_false_bind, hm hr x hx] at hi; exact trapsAt_of_exec hq hi

/-- The same of a floating-point reference, which looks at the partitions of `regs` before the NaT operands. -/
def TakesFpFaults (i : Instr) (s : State) (r3 : BitVec 7) (bad : Bool) (regs : List (BitVec 7)) (nat : Bool)
    (reads : Prop) (access : Access) (ref : Ref) : Prop :=
  (bad = true → Traps i s illegalOperation) ∧
    (bad = false → s.disabledCode regs ≠ 0 → Traps i s (disabledFp (s.disabledCode regs))) ∧
    (s.disabledCode regs = 0 → TakesFaults i s r3 bad nat reads access ref)

theorem takesFpFaults_of_exec (hq : s.prBit qp = true) (hm : MeetsFault s r3 reads ref rest)
    (hi : exec i s = predicated qp s (check bad illegalOperation >>= fun _ => s.checkFp regs >>= fun _ =>
      check nat (natConsumption access) >>= fun _ => rest)) : TakesFpFaults i s r3 bad regs nat reads access ref := by
  refine ⟨fun hb => ?_, fun hb hd => ?_, fun hd => takesFaults_of_exec hq hm ?_⟩
  · rw [hb, check_true_bind] at hi; exact traps_of_exec hq hi
  · rw [hb, check_false_bind, State.checkFp, bne_iff_ne.mpr hd, check_true_bind] at hi; exact traps_of_exec hq hi
  · rwa [State.checkFp, hd] at hi

/-! #### Loads -/

/-- Only a check load that hits looks at no address (log entry 20). -/
def Misses (s : State) (t : LdType) (reg : AlatReg) : Prop := t.isCheck = true → s.alatCmp reg = false

theorem not_hits {t : LdType} {reg : AlatReg} (h : Misses s t reg) : (t.isCheck && s.alatCmp reg) = false :=
  Bool.and_eq_false_imp.mpr h

theorem loadAddress_faulted {t : LdType} {hint : BitVec 3} (ht : t.speculative = false)
    (hx : s.translate (s.psrBit Psr.dt) (s.gr r3).val ref = .error x) :
    s.loadAddress t hint (s.gr r3) ref = s.faulted x := by
  simp only [State.loadAddress, ht, hx, Bool.false_and, Bool.false_eq_true, if_false]

theorem loadInto_faulted {t : LdType} {fill : Bool} {n : Nat} {hint : BitVec 3} {r1 : BitVec 7}
    (ht : t.speculative = false) (hm : Misses s t (s.alatGr r1))
    (hx : s.translate (s.psrBit Psr.dt) (s.gr r3).val (s.loadRef t n n) = .error x) :
    s.loadInto t fill n hint r1 r3 = s.faulted x := by
  simp only [State.loadInto, not_hits hm, loadAddress_faulted ht hx, faulted_bind, Bool.false_eq_true, if_false]

theorem loadFrInto_faulted {t : LdType} {m : FpFormat} {hint : BitVec 3} {f1 : BitVec 7}
    (ht : t.speculative = false) (hm : Misses s t (s.alatFr f1))
    (hx : s.translate (s.psrBit Psr.dt) (s.gr r3).val (m.ref (s.loadRef t m.size m.align)) = .error x) :
    s.loadFrInto t m hint f1 r3 = s.faulted x := by
  simp only [State.loadFrInto, not_hits hm, loadAddress_faulted ht hx, faulted_bind, Bool.false_eq_true, if_false]

theorem loadPairInto_faulted {t : LdType} {m : FpFormat} {hint : BitVec 3} {f1 f2 : BitVec 7}
    (ht : t.speculative = false) (hm : Misses s t (s.alatFr f1))
    (hx : s.translate (s.psrBit Psr.dt) (s.gr r3).val (s.loadRef t (2 * m.size) (2 * m.size)) = .error x) :
    s.loadPairInto t m hint f1 f2 r3 = s.faulted x := by
  simp only [State.loadPairInto, not_hits hm, loadAddress_faulted ht hx, faulted_bind, Bool.false_eq_true, if_false]

/-- The NaT check of a load: a speculative one makes none. -/
theorem check_loadNat (t : LdType) (nat : Bool) :
    check (!t.speculative && nat) (natConsumption t.access) =
      check (nat && !t.speculative) (natConsumption { r := true }) := by
  cases ht : t.speculative with
  | true => rw [Bool.not_true, Bool.and_false, Bool.false_and]; rfl
  | false => rw [Bool.and_comm, LdType.access, ht]

theorem loadGr_faults {t : LdType} {fill : Bool} {n : Nat} {hint : BitVec 3} {post : Post} {r1 : BitVec 7}
    (hq : s.prBit qp = true) (hi : exec i s = loadGr t fill n hint post qp r1 r3 s) :
    TakesFaults i s r3 (s.badTarget r1 || post.updates && (r1 == r3 || s.badTarget r3)) ((s.gr r3).nat && !t.speculative)
      (t.speculative = false ∧ Misses s t (s.alatGr r1)) { r := true } (s.loadRef t n n) := by
  have hbad : (s.badTarget r1 || post.updates && (r1 == r3 || s.badTarget r3)) =
      (post.updates && r1 == r3 || s.badTarget r1 || post.updates && s.badTarget r3) := by
    cases post.updates <;> cases r1 == r3 <;> simp
  refine takesFaults_of_exec (qp := qp)
    (rest := s.loadInto t fill n hint r1 r3 >>= fun u => done (u.postUpdate s r3 post)) hq (fun ⟨ht, hm⟩ x hx => ?_) ?_
  · rw [loadInto_faulted ht hm hx, faulted_bind]
  · rw [hi, hbad, ← check_bind_check, ← check_bind_check, ← check_loadNat]; rfl

theorem load16_faults {r1 : BitVec 7} (hq : s.prBit qp = true) (hi : exec i s = load16 qp r1 r3 s) :
    TakesFaults i s r3 (s.badTarget r1) (s.gr r3).nat True { r := true }
      { s.loadRef .normal 16 16 with cacheableOnly := true } := by
  refine takesFaults_of_exec hq (fun _ x hx => ?_) hi
  change s.translate _ _ (s.loadRef .normal 16 16).wide = _ at hx
  rw [loadAddress_faulted rfl hx, faulted_bind]

theorem loadFr_faults {t : LdType} {m : FpFormat} {hint : BitVec 3} {post : Post} {f1 : BitVec 7}
    (hq : s.prBit qp = true) (hi : exec i s = loadFr t m hint post qp f1 r3 s) :
    TakesFpFaults i s r3 (f1 == 0 || f1 == 1 || post.updates && s.badTarget r3) [f1] ((s.gr r3).nat && !t.speculative)
      (t.speculative = false ∧ Misses s t (s.alatFr f1)) { r := true } (m.ref (s.loadRef t m.size m.align)) := by
  refine takesFpFaults_of_exec (qp := qp)
    (rest := s.loadFrInto t m hint f1 r3 >>= fun u => done (u.postUpdate s r3 post)) hq (fun ⟨ht, hm⟩ x hx => ?_) ?_
  · rw [loadFrInto_faulted ht hm hx, faulted_bind]
  · rw [hi, ← check_bind_check, ← check_loadNat]; rfl

theorem loadPair_faults {t : LdType} {m : FpFormat} {hint : BitVec 3} {post : Post} {f1 f2 : BitVec 7}
    (hq : s.prBit qp = true) (hi : exec i s = loadPair t m hint post qp f1 f2 r3 s) :
    TakesFpFaults i s r3
      (f1.getLsbD 0 == f2.getLsbD 0 || f1 == 0 || f1 == 1 || f2 == 0 || f2 == 1 || post.updates && s.badTarget r3)
      [f1, f2] ((s.gr r3).nat && !t.speculative) (t.speculative = false ∧ Misses s t (s.alatFr f1)) { r := true }
      (s.loadRef t (2 * m.size) (2 * m.size)) := by
  refine takesFpFaults_of_exec (qp := qp)
    (rest := s.loadPairInto t m hint f1 f2 r3 >>= fun u => done (u.postUpdate s r3 post)) hq
    (fun ⟨ht, hm⟩ x hx => ?_) ?_
  · rw [loadPairInto_faulted ht hm hx, faulted_bind]
  · rw [hi, ← check_bind_check, ← check_loadNat, Bool.or_assoc _ (f2 == 0), ← check_bind_check,
      Bool.or_assoc _ (f1 == 0), ← check_bind_check]
    rfl

/-! #### Stores and semaphores -/

theorem translateData_faulted (hx : s.translate (s.psrBit Psr.dt) (s.gr r3).val ref = .error x) :
    s.translateData (s.gr r3).val ref = s.faulted x := by
  simp only [State.translateData, State.dataReference, hx]

/-- A store or semaphore translates its address first. -/
theorem meetsFault_translateData {f : Translation → Body} :
    MeetsFault s r3 True ref (s.translateData (s.gr r3).val ref >>= f) := fun _ x hx => by
  rw [translateData_faulted hx, faulted_bind]

theorem storeGr_faults {n : Nat} {post : Post} {r2 : BitVec 7} (hq : s.prBit qp = true)
    (hi : exec i s = storeGr n post qp r2 r3 s) : TakesFaults i s r3 (post.updates && s.badTarget r3)
      ((s.gr r3).nat || (s.gr r2).nat) True { w := true } (s.storeRef n n) :=
  takesFaults_of_exec hq meetsFault_translateData hi

theorem storeSpill_faults {post : Post} {r2 : BitVec 7} (hq : s.prBit qp = true)
    (hi : exec i s = storeSpill post qp r2 r3 s) : TakesFaults i s r3 (post.updates && s.badTarget r3) (s.gr r3).nat True
      { w := true } (s.storeRef 8 8) :=
  takesFaults_of_exec hq meetsFault_translateData hi

theorem store16_faults {r2 : BitVec 7} (hq : s.prBit qp = true) (hi : exec i s = store16 qp r2 r3 s) :
    TakesFaults i s r3 false ((s.gr r3).nat || (s.gr r2).nat) True { w := true }
      { s.storeRef 16 16 with cacheableOnly := true } :=
  takesFaults_of_exec hq meetsFault_translateData hi

theorem storeFr_faults {m : FpFormat} {post : Post} {f2 : BitVec 7} (hq : s.prBit qp = true)
    (hi : exec i s = storeFr m post qp f2 r3 s) : TakesFpFaults i s r3 (post.updates && s.badTarget r3) [f2]
      ((s.gr r3).nat || m != .whole && decide (s.fpr f2 = ⟨false, 0x1FFFE, 0⟩)) True { w := true }
      (m.ref (s.storeRef m.size m.align)) :=
  takesFpFaults_of_exec hq meetsFault_translateData hi

theorem semaphore_faults {n : Nat} {r1 : BitVec 7} {write : State → Translation → Word → Except Stop State}
    (hq : s.prBit qp = true) (hi : exec i s = semaphore n qp r1 r3 nat write s) :
    TakesFaults i s r3 (s.badTarget r1) ((s.gr r3).nat || nat) True { r := true, w := true }
      (s.semaphoreRef n) :=
  takesFaults_of_exec hq meetsFault_translateData hi

end

end Sys2Proof.Machine
end

section
/-! ### The forms of the memory instructions, and the faults of each -/
namespace Sys2Proof.Machine

section
variable (s : State) (qp : BitVec 6) (r r2 r3 : BitVec 7) (hint : BitVec 2) (h : BitVec 1) (imm : BitVec 9)

/-! #### Each form is its operation on the operands of its format -/

theorem exec_loadForms : ∀ f ∈ loadForms, exec (f.1 qp r r3 hint h) s =
    loadGr f.2.1 f.2.2.1 f.2.2.2 (hint8 h hint) .none qp r r3 s := by
  simp only [loadForms, List.forall_mem_cons, List.not_mem_nil, false_imp_iff, implies_true, and_true]
  and_intros
  all_goals rfl

theorem exec_loadRegForms : ∀ f ∈ loadRegForms, exec (f.1 qp r r2 r3 hint) s =
    loadGr f.2.1 f.2.2.1 f.2.2.2 (hint4 hint) (.reg r2) qp r r3 s := by
  simp only [loadRegForms, List.forall_mem_cons, List.not_mem_nil, false_imp_iff, implies_true, and_true]
  and_intros
  all_goals rfl

theorem exec_loadImmForms : ∀ f ∈ loadImmForms, exec (f.1 qp r r3 hint imm) s =
    loadGr f.2.1 f.2.2.1 f.2.2.2 (hint4 hint) (.imm (imm.signExtend 64)) qp r r3 s := by
  simp only [loadImmForms, List.forall_mem_cons, List.not_mem_nil, false_imp_iff, implies_true, and_true]
  and_intros
  all_goals rfl

theorem exec_load16Forms : ∀ i ∈ [Instr.ld16M1 qp r r3 hint h, .ld16AcqM1 qp r r3 hint h],
    exec i s = load16 qp r r3 s := by
  simp only [List.forall_mem_cons, List.not_mem_nil, false_imp_iff, implies_true, and_true]
  exact ⟨rfl, rfl⟩

theorem exec_fpLoadForms : ∀ g ∈ fpLoadForms, exec (g.1 qp r r3 hint h) s =
    loadFr g.2.1 g.2.2 (hint8 h hint) .none qp r r3 s := by
  simp only [fpLoadForms, List.forall_mem_cons, List.not_mem_nil, false_imp_iff, implies_true, and_true]
  and_intros
  all_goals rfl

theorem exec_fpLoadRegForms : ∀ g ∈ fpLoadRegForms, exec (g.1 qp r r2 r3 hint) s =
    loadFr g.2.1 g.2.2 (hint4 hint) (.reg r2) qp r r3 s := by
  simp only [fpLoadRegForms, List.forall_mem_cons, List.not_mem_nil, false_imp_iff, implies_true, and_true]
  and_intros
  all_goals rfl

theorem exec_fpLoadImmForms : ∀ g ∈ fpLoadImmForms, exec (g.1 qp r r3 hint imm) s =
    loadFr g.2.1 g.2.2 (hint4 hint) (.imm (imm.signExtend 64)) qp r r3 s := by
  simp only [fpLoadImmForms, List.forall_mem_cons, List.not_mem_nil, false_imp_iff, implies_true, and_true]
  and_intros
  all_goals rfl

theorem exec_pairForms : ∀ g ∈ pairForms, exec (g.1 qp r r2 r3 hint) s =
    loadPair g.2.1 g.2.2 (hint4 hint) .none qp r r2 r3 s := by
  simp only [pairForms, List.forall_mem_cons, List.not_mem_nil, false_imp_iff, implies_true, and_true]
  and_intros
  all_goals rfl

theorem exec_pairUpdateForms : ∀ g ∈ pairUpdateForms, exec (g.1 qp r r2 r3 hint) s =
    loadPair g.2.1 g.2.2.1 (hint4 hint) (.imm g.2.2.2) qp r r2 r3 s := by
  simp only [pairUpdateForms, List.forall_mem_cons, List.not_mem_nil, false_imp_iff, implies_true, and_true]
  and_intros
  all_goals rfl

theorem exec_storeForms : ∀ f ∈ storeForms, exec (f.1 qp r r3 hint h) s = storeGr f.2 .none qp r r3 s := by
  simp only [storeForms, List.forall_mem_cons, List.not_mem_nil, false_imp_iff, implies_true, and_true]
  and_intros
  all_goals rfl

theorem exec_storeImmForms : ∀ f ∈ storeImmForms, exec (f.1 qp r r3 hint imm) s =
    storeGr f.2 (.imm (imm.signExtend 64)) qp r r3 s := by
  simp only [storeImmForms, List.forall_mem_cons, List.not_mem_nil, false_imp_iff, implies_true, and_true]
  and_intros
  all_goals rfl

theorem exec_st8SpillM4 : exec (.st8SpillM4 qp r r3 hint h) s = storeSpill .none qp r r3 s := rfl

theorem exec_st8SpillM5 : exec (.st8SpillM5 qp r r3 hint imm) s = storeSpill (.imm (imm.signExtend 64)) qp r r3 s := rfl

theorem exec_store16Forms : ∀ i ∈ [Instr.st16M4 qp r r3 hint h, .st16RelM4 qp r r3 hint h],
    exec i s = store16 qp r r3 s := by
  simp only [List.forall_mem_cons, List.not_mem_nil, false_imp_iff, implies_true, and_true]
  exact ⟨rfl, rfl⟩

theorem exec_fpStoreForms : ∀ g ∈ fpStoreForms, exec (g.1 qp r r3 hint h) s = storeFr g.2 .none qp r r3 s := by
  simp only [fpStoreForms, List.forall_mem_cons, List.not_mem_nil, false_imp_iff, implies_true, and_true]
  and_intros
  all_goals rfl

theorem exec_fpStoreImmForms : ∀ g ∈ fpStoreImmForms, exec (g.1 qp r r3 hint imm) s =
    storeFr g.2 (.imm (imm.signExtend 64)) qp r r3 s := by
  simp only [fpStoreImmForms, List.forall_mem_cons, List.not_mem_nil, false_imp_iff, implies_true, and_true]
  and_intros
  all_goals rfl

theorem exec_xchgForms : ∀ f ∈ xchgForms, exec (f.1 qp r r2 r3 hint) s = exchange f.2 qp r r2 r3 s := by
  simp only [xchgForms, List.forall_mem_cons, List.not_mem_nil, false_imp_iff, implies_true, and_true]
  and_intros
  all_goals rfl

theorem exec_cmpxchgForms : ∀ f ∈ cmpxchgForms, exec (f.1 qp r r2 r3 hint) s = compareExchange f.2 qp r r2 r3 s := by
  simp only [cmpxchgForms, List.forall_mem_cons, List.not_mem_nil, false_imp_iff, implies_true, and_true]
  and_intros
  all_goals rfl

theorem exec_fetchaddForms (inc : BitVec 3) : ∀ f ∈ fetchaddForms, exec (f.1 qp r r3 hint inc) s =
    fetchAdd f.2 qp r r3 inc s := by
  simp only [fetchaddForms, List.forall_mem_cons, List.not_mem_nil, false_imp_iff, implies_true, and_true]
  and_intros
  all_goals rfl

theorem exec_cmp8xchg16Forms : ∀ i ∈ [Instr.cmp8xchg16AcqM16 qp r r2 r3 hint, .cmp8xchg16RelM16 qp r r2 r3 hint],
    exec i s = compareExchange16 qp r r2 r3 s := by
  simp only [List.forall_mem_cons, List.not_mem_nil, false_imp_iff, implies_true, and_true]
  exact ⟨rfl, rfl⟩

end

/-! #### The faults of each -/

section
variable {s : State} {qp : BitVec 6} {i : Instr} {r1 r2 r3 : BitVec 7}

/-- A load's bad target is an Illegal Operation whatever its type, its other faults are those of a load that is not
speculative. -/
theorem loadGr_traps {t : LdType} {fill : Bool} {n : Nat} {hint : BitVec 3} {post : Post}
    (hq : s.prBit qp = true) (hi : exec i s = loadGr t fill n hint post qp r1 r3 s) :
    ((s.badTarget r1 || post.updates && (r1 == r3 || s.badTarget r3)) = true → Traps i s illegalOperation) ∧
      (t.speculative = false → TakesFaults i s r3 (s.badTarget r1 || post.updates && (r1 == r3 || s.badTarget r3))
        (s.gr r3).nat (Misses s t (s.alatGr r1)) { r := true } (s.loadRef t n n)) := by
  have hf := loadGr_faults hq hi
  refine ⟨hf.1, fun ht => ?_⟩
  simpa only [ht, Bool.not_false, Bool.and_true, true_and] using hf

theorem exchange_faults {n : Nat} (hq : s.prBit qp = true)
    (hi : exec i s = exchange n qp r1 r2 r3 s ∨ exec i s = compareExchange n qp r1 r2 r3 s) :
    TakesFaults i s r3 (s.badTarget r1) ((s.gr r3).nat || (s.gr r2).nat) True { r := true, w := true }
      (s.semaphoreRef n) :=
  hi.elim (semaphore_faults hq) (semaphore_faults hq)

theorem compareExchange16_faults (hq : s.prBit qp = true) (hi : exec i s = compareExchange16 qp r1 r2 r3 s) :
    TakesFaults i s r3 (s.badTarget r1) ((s.gr r3).nat || (s.gr r2).nat) True { r := true, w := true }
      (s.semaphoreRef 8) := by
  rw [compareExchange16, ifImplemented, if_pos (show Config.implLd16St16 = true from rfl)] at hi
  exact semaphore_faults hq hi

end

/-- Settles O10: each form is its operation, an operation checks its targets, its partitions and its operands and then
makes its reference, and the reference meets the checks of R210 in their order. -/
theorem memoryFaultsAreTaken : Obligations.MemoryFaultsAreTaken := by
  refine ⟨tlbsFind, walkerReads, dataTranslated, fun s qp r r2 r3 hint h imm inc hq => ?_⟩
  refine ⟨⟨?_, ?_, ?_, ?_⟩, ⟨?_, ?_, ?_, ?_, ?_⟩, ⟨?_, ?_, ?_, ?_, ?_, ?_, ?_⟩, ?_, ?_, ?_⟩
  · exact fun f hf => loadGr_traps hq (exec_loadForms s qp r r3 hint h f hf)
  · exact fun f hf => loadGr_traps hq (exec_loadRegForms s qp r r2 r3 hint f hf)
  · exact fun f hf => loadGr_traps hq (exec_loadImmForms s qp r r3 hint imm f hf)
  · exact fun i hi => load16_faults hq (exec_load16Forms s qp r r3 hint h i hi)
  · exact fun g hg => loadFr_faults hq (exec_fpLoadForms s qp r r3 hint h g hg)
  · exact fun g hg => loadFr_faults hq (exec_fpLoadRegForms s qp r r2 r3 hint g hg)
  · exact fun g hg => loadFr_faults hq (exec_fpLoadImmForms s qp r r3 hint imm g hg)
  · exact fun g hg => loadPair_faults hq (exec_pairForms s qp r r2 r3 hint g hg)
  · exact fun g hg => loadPair_faults hq (exec_pairUpdateForms s qp r r2 r3 hint g hg)
  · exact fun f hf => storeGr_faults hq (exec_storeForms s qp r r3 hint h f hf)
  · exact fun f hf => storeGr_faults hq (exec_storeImmForms s qp r r3 hint imm f hf)
  · exact storeSpill_faults hq (exec_st8SpillM4 s qp r r3 hint h)
  · exact storeSpill_faults hq (exec_st8SpillM5 s qp r r3 hint imm)
  · exact fun i hi => store16_faults hq (exec_store16Forms s qp r r3 hint h i hi)
  · exact fun g hg => storeFr_faults hq (exec_fpStoreForms s qp r r3 hint h g hg)
  · exact fun g hg => storeFr_faults hq (exec_fpStoreImmForms s qp r r3 hint imm g hg)
  · exact fun f hf => exchange_faults hq ((List.mem_append.mp hf).imp (exec_xchgForms s qp r r2 r3 hint f)
      (exec_cmpxchgForms s qp r r2 r3 hint f))
  · exact fun f hf => semaphore_faults hq (exec_fetchaddForms s qp r r3 hint inc f hf)
  · exact fun i hi => compareExchange16_faults hq (exec_cmp8xchg16Forms s qp r r2 r3 hint i hi)

end Sys2Proof.Machine
end

section
/-! ### Decoding what was encoded

An encoded word is its fields one after the other, so a field read from it is the field put there: each opcode field
that the decoder asks for is the number the row writes, its tables come to that row, and the operands it reads are the
row's. -/
namespace Sys2Proof

/-! #### Fields of words put together from fields -/

/-- A field above the seam is a field of the upper part, one below it is a field of the lower part. -/
theorem fld_append {m k : Nat} (a : BitVec m) (b : BitVec k) {lo len : Nat} :
    (k ≤ lo → fld (no_index (a ++ b)) lo len = fld a (lo - k) len) ∧
      (lo + len ≤ k → fld (no_index (a ++ b)) lo len = fld b lo len) := by
  constructor
  · intro h
    apply BitVec.eq_of_getLsbD_eq
    intro j _
    rw [getLsbD_fld, getLsbD_fld, BitVec.getLsbD_append, if_neg (by omega), Nat.sub_add_comm h]
  · intro h
    apply BitVec.eq_of_getLsbD_eq
    intro j hj
    rw [getLsbD_fld, getLsbD_fld, BitVec.getLsbD_append, if_pos (by omega)]

theorem fld_whole {m : Nat} (a : BitVec m) : fld a 0 m = a := by
  apply BitVec.eq_of_getLsbD_eq
  intro j hj
  rw [getLsbD_fld, Nat.zero_add, decide_eq_true hj, Bool.true_and]

/-- R270: the pieces of a split immediate, read in their order, join again. -/
theorem fld_append_fld {m : Nat} (a : BitVec m) {lo hi len k : Nat} (h : hi = lo + len) :
    @HAppend.hAppend _ _ (no_index _) _ (fld a hi k) (fld a lo len) = fld a lo (k + len) := by
  subst h
  apply BitVec.eq_of_getLsbD_eq
  intro j hj
  rw [BitVec.getLsbD_append, getLsbD_fld, getLsbD_fld, getLsbD_fld, decide_eq_true hj, Bool.true_and]
  by_cases hl : j < len
  · rw [if_pos hl, decide_eq_true hl, Bool.true_and]
  · have hk : j - len < k := by omega
    rw [if_neg hl, decide_eq_true hk, Bool.true_and, Nat.add_assoc, Nat.add_sub_cancel' (Nat.le_of_not_lt hl)]

/-! #### The slots an encoded instruction may stand in -/

/-- The words decode to the instruction in every kind of slot that their type fits. -/
def ReadsAs (e : SlotWords) (i : Instr) : Prop :=
  ∀ u : SlotUnit, e.unit.fits u = true → decodeSlot u e.long e.slot = .instr i

/-- R254, R256: the decoder's column for an instruction type. -/
noncomputable def decodeColumn (t : InstrUnit) (l w : Slot) : Option SlotDecode :=
  match t with
  | .a => decodeA w
  | .i => decodeI w
  | .m => decodeM w
  | .f => decodeF w
  | .b => decodeB w
  | .x => decodeX l w

/-- R256: under the A opcodes 8, 9, C, D and E the M and the I column hold the A column's entries. -/
theorem decodeM_decodeI_of_decodeA {w : Slot} {d : SlotDecode} (h : decodeA w = some d) :
    decodeM w = some d ∧ decodeI w = some d := by
  rw [← h]
  unfold decodeA at h
  split at h
  case h_6 => contradiction
  all_goals
    next hop => simp only [decodeM, decodeI, hop, and_self]

theorem readsAs_of_column {t : InstrUnit} {l w : Slot} {i : Instr} (h : decodeColumn t l w = some (.instr i)) :
    ReadsAs ⟨t, l, w⟩ i := by
  have found {d : SlotDecode} {o : Option SlotDecode} (ho : o = some (.instr i)) : o.getD d = .instr i := by
    rw [ho, Option.getD_some]
  intro u hu
  match t, u, hu with
  | .a, .m, _ => exact found (decodeM_decodeI_of_decodeA h).1
  | .a, .i, _ => exact found (decodeM_decodeI_of_decodeA h).2
  | .i, .i, _ | .m, .m, _ | .f, .f, _ | .b, .b, _ | .x, .x, _ => exact found h

/-! #### Every row of the opcode table

Each alternative below names the rows of one format and the decoders on the way to that format's table. `simp` reads
the fields off the encoded word (`-iota` keeps it from looking into the tables); looking the row up is `rfl`. -/

/-- The order of the opcode table, whose rows `Instr` lists. -/
def Instr.before (i j : Instr) : Bool := i.ctorIdx.blt j.ctorIdx

/-- The first row of format M6. -/
noncomputable def firstFpLoad : Instr := .ldfeM6 0 0 0 0 0

/-- The first row of format M13. -/
noncomputable def firstPrefetch : Instr := .lfetchExclM13 0 0 0 0

/-- A-type rows (R331-R342). -/
theorem readsAs_of_unit_a (i : Instr) (hu : (encode i).unit = .a) : ReadsAs (encode i) i := by
  cases i with
  | addA1 | addPlus1A1 | subA1 | subMinus1A1 | addp4A1 | andA1 | andcmA1 | orA1 | xorA1 =>
    exact readsAs_of_column (by simp -iota only [decodeColumn, decodeA, decodeA8op, decodeA1, fld_append, fld_whole,
      Nat.reduceLeDiff, Nat.reduceAdd, Nat.reduceSub]; rfl)
  | shladdA2 | shladdp4A2 =>
    exact readsAs_of_column (by simp -iota only [decodeColumn, decodeA, decodeA8op, decodeA2, fld_append, fld_whole,
      Nat.reduceLeDiff, Nat.reduceAdd, Nat.reduceSub]; rfl)
  | subA3 | andA3 | andcmA3 | orA3 | xorA3 =>
    exact readsAs_of_column (by simp -iota only [decodeColumn, decodeA, decodeA8op, decodeA3, fld_append, fld_whole,
      Nat.reduceLeDiff, Nat.reduceAdd, Nat.reduceSub, fld_append_fld]; rfl)
  | addsA4 | addp4A4 =>
    exact readsAs_of_column (by simp -iota only [decodeColumn, decodeA, decodeA8op, decodeA4, fld_append, fld_whole,
      Nat.reduceLeDiff, Nat.reduceAdd, Nat.reduceSub, fld_append_fld]; rfl)
  | addlA5 =>
    exact readsAs_of_column (by simp -iota only [decodeColumn, decodeA, decodeA5, fld_append, fld_whole,
      Nat.reduceLeDiff, Nat.reduceAdd, Nat.reduceSub, fld_append_fld]; rfl)
  | cmpLtA6 | cmpLtuA6 | cmpEqA6 | cmpLtUncA6 | cmpLtuUncA6 | cmpEqUncA6 | cmpEqAndA6 | cmpEqOrA6 | cmpEqOrAndcmA6
    | cmpNeAndA6 | cmpNeOrA6 | cmpNeOrAndcmA6 | cmp4LtA6 | cmp4LtuA6 | cmp4EqA6 | cmp4LtUncA6 | cmp4LtuUncA6
    | cmp4EqUncA6 | cmp4EqAndA6 | cmp4EqOrA6 | cmp4EqOrAndcmA6 | cmp4NeAndA6 | cmp4NeOrA6 | cmp4NeOrAndcmA6 =>
    exact readsAs_of_column (by simp -iota only [decodeColumn, decodeA, decodeCompare, decodeA6, fld_append,
      fld_whole, Nat.reduceLeDiff, Nat.reduceAdd, Nat.reduceSub]; rfl)
  | cmpGtAndA7 | cmpGtOrA7 | cmpGtOrAndcmA7 | cmpLeAndA7 | cmpLeOrA7 | cmpLeOrAndcmA7 | cmpGeAndA7 | cmpGeOrA7
    | cmpGeOrAndcmA7 | cmpLtAndA7 | cmpLtOrA7 | cmpLtOrAndcmA7 | cmp4GtAndA7 | cmp4GtOrA7 | cmp4GtOrAndcmA7
    | cmp4LeAndA7 | cmp4LeOrA7 | cmp4LeOrAndcmA7 | cmp4GeAndA7 | cmp4GeOrA7 | cmp4GeOrAndcmA7 | cmp4LtAndA7
    | cmp4LtOrA7 | cmp4LtOrAndcmA7 =>
    exact readsAs_of_column (by simp -iota only [decodeColumn, decodeA, decodeCompare, decodeA7, fld_append,
      fld_whole, Nat.reduceLeDiff, Nat.reduceAdd, Nat.reduceSub]; rfl)
  | cmpLtA8 | cmpLtuA8 | cmpEqA8 | cmpLtUncA8 | cmpLtuUncA8 | cmpEqUncA8 | cmpEqAndA8 | cmpEqOrA8 | cmpEqOrAndcmA8
    | cmpNeAndA8 | cmpNeOrA8 | cmpNeOrAndcmA8 | cmp4LtA8 | cmp4LtuA8 | cmp4EqA8 | cmp4LtUncA8 | cmp4LtuUncA8
    | cmp4EqUncA8 | cmp4EqAndA8 | cmp4EqOrA8 | cmp4EqOrAndcmA8 | cmp4NeAndA8 | cmp4NeOrA8 | cmp4NeOrAndcmA8 =>
    exact readsAs_of_column (by simp -iota only [decodeColumn, decodeA, decodeCompare, decodeA8, fld_append,
      fld_whole, Nat.reduceLeDiff, Nat.reduceAdd, Nat.reduceSub, fld_append_fld]; rfl)
  | padd1A9 | padd2A9 | padd4A9 | padd1SssA9 | padd2SssA9 | padd1UuuA9 | padd2UuuA9 | padd1UusA9 | padd2UusA9
    | psub1A9 | psub2A9 | psub4A9 | psub1SssA9 | psub2SssA9 | psub1UuuA9 | psub2UuuA9 | psub1UusA9 | psub2UusA9
    | pavg1A9 | pavg2A9 | pavg1RazA9 | pavg2RazA9 | pavgsub1A9 | pavgsub2A9 | pcmp1EqA9 | pcmp2EqA9 | pcmp4EqA9
    | pcmp1GtA9 | pcmp2GtA9 | pcmp4GtA9 =>
    exact readsAs_of_column (by simp -iota only [decodeColumn, decodeA, decodeA8op, decodeA9, fld_append, fld_whole,
      Nat.reduceLeDiff, Nat.reduceAdd, Nat.reduceSub]; rfl)
  | pshladd2A10 | pshradd2A10 =>
    exact readsAs_of_column (by simp -iota only [decodeColumn, decodeA, decodeA8op, decodeA10, fld_append, fld_whole,
      Nat.reduceLeDiff, Nat.reduceAdd, Nat.reduceSub]; rfl)
  | _ => contradiction

/-- I-type rows (R351-R384). -/
theorem readsAs_of_unit_i (i : Instr) (hu : (encode i).unit = .i) : ReadsAs (encode i) i := by
  cases i with
  | pmpyshr2I1 | pmpyshr2UI1 =>
    exact readsAs_of_column (by simp -iota only [decodeColumn, decodeI, decodeI7op, decodeI1, fld_append, fld_whole,
      Nat.reduceLeDiff, Nat.reduceAdd, Nat.reduceSub]; rfl)
  | unpack1HI2 | mix1RI2 | pmin1UI2 | pmax1UI2 | unpack1LI2 | mix1LI2 | psad1I2 | pack2UssI2 | unpack2HI2 | mix2RI2
    | pmpy2RI2 | pack2SssI2 | unpack2LI2 | mix2LI2 | pmin2I2 | pmax2I2 | pmpy2LI2 | mpy4I2 | mpyshl4I2 | unpack4HI2
    | mix4RI2 | pack4SssI2 | unpack4LI2 | mix4LI2 =>
    exact readsAs_of_column (by simp -iota only [decodeColumn, decodeI, decodeI7op, decodeI2, fld_append, fld_whole,
      Nat.reduceLeDiff, Nat.reduceAdd, Nat.reduceSub]; rfl)
  | mux1I3 =>
    exact readsAs_of_column (by simp -iota only [decodeColumn, decodeI, decodeI7op, decodeI3, fld_append, fld_whole,
      Nat.reduceLeDiff, Nat.reduceAdd, Nat.reduceSub]; rfl)
  | mux2I4 =>
    exact readsAs_of_column (by simp -iota only [decodeColumn, decodeI, decodeI7op, decodeI4, fld_append, fld_whole,
      Nat.reduceLeDiff, Nat.reduceAdd, Nat.reduceSub]; rfl)
  | pshr2I5 | pshr4I5 | shrI5 | pshr2UI5 | pshr4UI5 | shrUI5 =>
    exact readsAs_of_column (by simp -iota only [decodeColumn, decodeI, decodeI7op, decodeI5, fld_append, fld_whole,
      Nat.reduceLeDiff, Nat.reduceAdd, Nat.reduceSub]; rfl)
  | pshr2I6 | pshr4I6 | pshr2UI6 | pshr4UI6 =>
    exact readsAs_of_column (by simp -iota only [decodeColumn, decodeI, decodeI7op, decodeI6, fld_append, fld_whole,
      Nat.reduceLeDiff, Nat.reduceAdd, Nat.reduceSub]; rfl)
  | pshl2I7 | pshl4I7 | shlI7 =>
    exact readsAs_of_column (by simp -iota only [decodeColumn, decodeI, decodeI7op, decodeI7, fld_append, fld_whole,
      Nat.reduceLeDiff, Nat.reduceAdd, Nat.reduceSub]; rfl)
  | pshl2I8 | pshl4I8 =>
    exact readsAs_of_column (by simp -iota only [decodeColumn, decodeI, decodeI7op, decodeI8, fld_append, fld_whole,
      Nat.reduceLeDiff, Nat.reduceAdd, Nat.reduceSub]; rfl)
  | popcntI9 | clzI9 =>
    exact readsAs_of_column (by simp -iota only [decodeColumn, decodeI, decodeI7op, decodeI9, fld_append, fld_whole,
      Nat.reduceLeDiff, Nat.reduceAdd, Nat.reduceSub]; rfl)
  | shrpI10 =>
    exact readsAs_of_column (by simp -iota only [decodeColumn, decodeI, decodeI5op, decodeI10, fld_append, fld_whole,
      Nat.reduceLeDiff, Nat.reduceAdd, Nat.reduceSub]; rfl)
  | extrUI11 | extrI11 =>
    exact readsAs_of_column (by simp -iota only [decodeColumn, decodeI, decodeI5op, decodeI11, fld_append, fld_whole,
      Nat.reduceLeDiff, Nat.reduceAdd, Nat.reduceSub]; rfl)
  | depZI12 =>
    exact readsAs_of_column (by simp -iota only [decodeColumn, decodeI, decodeI5op, decodeI12, fld_append, fld_whole,
      Nat.reduceLeDiff, Nat.reduceAdd, Nat.reduceSub]; rfl)
  | depZI13 =>
    exact readsAs_of_column (by simp -iota only [decodeColumn, decodeI, decodeI5op, decodeI13, fld_append, fld_whole,
      Nat.reduceLeDiff, Nat.reduceAdd, Nat.reduceSub, fld_append_fld]; rfl)
  | depI14 =>
    exact readsAs_of_column (by simp -iota only [decodeColumn, decodeI, decodeI5op, decodeI14, fld_append, fld_whole,
      Nat.reduceLeDiff, Nat.reduceAdd, Nat.reduceSub]; rfl)
  | depI15 =>
    exact readsAs_of_column (by simp -iota only [decodeColumn, decodeI, decodeI15, fld_append, fld_whole,
      Nat.reduceLeDiff, Nat.reduceAdd, Nat.reduceSub]; rfl)
  | tbitZI16 | tbitZUncI16 | tbitZAndI16 | tbitNzAndI16 | tbitZOrI16 | tbitNzOrI16 | tbitZOrAndcmI16
    | tbitNzOrAndcmI16 =>
    exact readsAs_of_column (by simp -iota only [decodeColumn, decodeI, decodeI5op, decodeI16, fld_append, fld_whole,
      Nat.reduceLeDiff, Nat.reduceAdd, Nat.reduceSub]; rfl)
  | tnatZI17 | tnatZUncI17 | tnatZAndI17 | tnatNzAndI17 | tnatZOrI17 | tnatNzOrI17 | tnatZOrAndcmI17
    | tnatNzOrAndcmI17 =>
    exact readsAs_of_column (by simp -iota only [decodeColumn, decodeI, decodeI5op, decodeI17, fld_append, fld_whole,
      Nat.reduceLeDiff, Nat.reduceAdd, Nat.reduceSub]; rfl)
  | tfZI30 | tfZUncI30 | tfZAndI30 | tfNzAndI30 | tfZOrI30 | tfNzOrI30 | tfZOrAndcmI30 | tfNzOrAndcmI30 =>
    exact readsAs_of_column (by simp -iota only [decodeColumn, decodeI, decodeI5op, decodeI30, fld_append, fld_whole,
      Nat.reduceLeDiff, Nat.reduceAdd, Nat.reduceSub]; rfl)
  | nopII18 | hintII18 =>
    exact readsAs_of_column (by simp -iota only [decodeColumn, decodeI, decodeI0, decodeI0x6, decodeI18, fld_append,
      fld_whole, Nat.reduceLeDiff, Nat.reduceAdd, Nat.reduceSub, fld_append_fld]; rfl)
  | breakII19 =>
    exact readsAs_of_column (by simp -iota only [decodeColumn, decodeI, decodeI0, decodeI0x6, decodeI19, fld_append,
      fld_whole, Nat.reduceLeDiff, Nat.reduceAdd, Nat.reduceSub, fld_append_fld]; rfl)
  | chkSII20 =>
    exact readsAs_of_column (by simp -iota only [decodeColumn, decodeI, decodeI0, decodeI20, fld_append, fld_whole,
      Nat.reduceLeDiff, Nat.reduceAdd, Nat.reduceSub, fld_append_fld]; rfl)
  | movToBrI21 | movRetToBrI21 =>
    exact readsAs_of_column (by simp -iota only [decodeColumn, decodeI, decodeI0, decodeI21, fld_append, fld_whole,
      Nat.reduceLeDiff, Nat.reduceAdd, Nat.reduceSub]; rfl)
  | movFromBrI22 =>
    exact readsAs_of_column (by simp -iota only [decodeColumn, decodeI, decodeI0, decodeI0x6, decodeI22, fld_append,
      fld_whole, Nat.reduceLeDiff, Nat.reduceAdd, Nat.reduceSub]; rfl)
  | movToPrI23 =>
    exact readsAs_of_column (by simp -iota only [decodeColumn, decodeI, decodeI0, decodeI23, fld_append, fld_whole,
      Nat.reduceLeDiff, Nat.reduceAdd, Nat.reduceSub, fld_append_fld]; rfl)
  | movToPrRotI24 =>
    exact readsAs_of_column (by simp -iota only [decodeColumn, decodeI, decodeI0, decodeI24, fld_append, fld_whole,
      Nat.reduceLeDiff, Nat.reduceAdd, Nat.reduceSub, fld_append_fld]; rfl)
  | movFromIpI25 | movFromPrI25 =>
    exact readsAs_of_column (by simp -iota only [decodeColumn, decodeI, decodeI0, decodeI0x6, decodeI25, fld_append,
      fld_whole, Nat.reduceLeDiff, Nat.reduceAdd, Nat.reduceSub]; rfl)
  | movIToArI26 =>
    exact readsAs_of_column (by simp -iota only [decodeColumn, decodeI, decodeI0, decodeI0x6, decodeI26, fld_append,
      fld_whole, Nat.reduceLeDiff, Nat.reduceAdd, Nat.reduceSub]; rfl)
  | movIToArImmI27 =>
    exact readsAs_of_column (by simp -iota only [decodeColumn, decodeI, decodeI0, decodeI0x6, decodeI27, fld_append,
      fld_whole, Nat.reduceLeDiff, Nat.reduceAdd, Nat.reduceSub, fld_append_fld]; rfl)
  | movIFromArI28 =>
    exact readsAs_of_column (by simp -iota only [decodeColumn, decodeI, decodeI0, decodeI0x6, decodeI28, fld_append,
      fld_whole, Nat.reduceLeDiff, Nat.reduceAdd, Nat.reduceSub]; rfl)
  | zxt1I29 | zxt2I29 | zxt4I29 | sxt1I29 | sxt2I29 | sxt4I29 | czx1LI29 | czx2LI29 | czx1RI29 | czx2RI29 =>
    exact readsAs_of_column (by simp -iota only [decodeColumn, decodeI, decodeI0, decodeI0x6, decodeI29, fld_append,
      fld_whole, Nat.reduceLeDiff, Nat.reduceAdd, Nat.reduceSub]; rfl)
  | _ => contradiction

/-- M-type rows before `ldfe`: integer loads and stores (R405-R409). -/
theorem readsAs_of_integer_memory (i : Instr) (hu : (encode i).unit = .m)
    (hb : i.before firstFpLoad = true) : ReadsAs (encode i) i := by
  cases i with
  | ld1M1 | ld2M1 | ld4M1 | ld8M1 | ld1SM1 | ld2SM1 | ld4SM1 | ld8SM1 | ld1AM1 | ld2AM1 | ld4AM1 | ld8AM1 | ld1SaM1
    | ld2SaM1 | ld4SaM1 | ld8SaM1 | ld1BiasM1 | ld2BiasM1 | ld4BiasM1 | ld8BiasM1 | ld1AcqM1 | ld2AcqM1 | ld4AcqM1
    | ld8AcqM1 | ld1CClrM1 | ld2CClrM1 | ld4CClrM1 | ld8CClrM1 | ld1CNcM1 | ld2CNcM1 | ld4CNcM1 | ld8CNcM1
    | ld1CClrAcqM1 | ld2CClrAcqM1 | ld4CClrAcqM1 | ld8CClrAcqM1 | ld8FillM1 | ld16M1 | ld16AcqM1 =>
    exact readsAs_of_column (by simp -iota only [decodeColumn, decodeM, decodeM4op, decodeM1, fld_append, fld_whole,
      Nat.reduceLeDiff, Nat.reduceAdd, Nat.reduceSub]; rfl)
  | ld1M2 | ld2M2 | ld4M2 | ld8M2 | ld1SM2 | ld2SM2 | ld4SM2 | ld8SM2 | ld1AM2 | ld2AM2 | ld4AM2 | ld8AM2 | ld1SaM2
    | ld2SaM2 | ld4SaM2 | ld8SaM2 | ld1BiasM2 | ld2BiasM2 | ld4BiasM2 | ld8BiasM2 | ld1AcqM2 | ld2AcqM2 | ld4AcqM2
    | ld8AcqM2 | ld1CClrM2 | ld2CClrM2 | ld4CClrM2 | ld8CClrM2 | ld1CNcM2 | ld2CNcM2 | ld4CNcM2 | ld8CNcM2
    | ld1CClrAcqM2 | ld2CClrAcqM2 | ld4CClrAcqM2 | ld8CClrAcqM2 | ld8FillM2 =>
    exact readsAs_of_column (by simp -iota only [decodeColumn, decodeM, decodeM4op, decodeM2, fld_append, fld_whole,
      Nat.reduceLeDiff, Nat.reduceAdd, Nat.reduceSub]; rfl)
  | ld1M3 | ld2M3 | ld4M3 | ld8M3 | ld1SM3 | ld2SM3 | ld4SM3 | ld8SM3 | ld1AM3 | ld2AM3 | ld4AM3 | ld8AM3 | ld1SaM3
    | ld2SaM3 | ld4SaM3 | ld8SaM3 | ld1BiasM3 | ld2BiasM3 | ld4BiasM3 | ld8BiasM3 | ld1AcqM3 | ld2AcqM3 | ld4AcqM3
    | ld8AcqM3 | ld1CClrM3 | ld2CClrM3 | ld4CClrM3 | ld8CClrM3 | ld1CNcM3 | ld2CNcM3 | ld4CNcM3 | ld8CNcM3
    | ld1CClrAcqM3 | ld2CClrAcqM3 | ld4CClrAcqM3 | ld8CClrAcqM3 | ld8FillM3 =>
    exact readsAs_of_column (by simp -iota only [decodeColumn, decodeM, decodeM3, fld_append, fld_whole,
      Nat.reduceLeDiff, Nat.reduceAdd, Nat.reduceSub, fld_append_fld]; rfl)
  | st1M4 | st2M4 | st4M4 | st8M4 | st1RelM4 | st2RelM4 | st4RelM4 | st8RelM4 | st8SpillM4 | st16M4 | st16RelM4 =>
    exact readsAs_of_column (by simp -iota only [decodeColumn, decodeM, decodeM4op, decodeM4, fld_append, fld_whole,
      Nat.reduceLeDiff, Nat.reduceAdd, Nat.reduceSub]; rfl)
  | st1M5 | st2M5 | st4M5 | st8M5 | st1RelM5 | st2RelM5 | st4RelM5 | st8RelM5 | st8SpillM5 =>
    exact readsAs_of_column (by simp -iota only [decodeColumn, decodeM, decodeM5, fld_append, fld_whole,
      Nat.reduceLeDiff, Nat.reduceAdd, Nat.reduceSub, fld_append_fld]; rfl)
  | _ => contradiction

/-- M-type rows from `ldfe` up to `lfetch`: floating-point loads and stores (R410-R416). -/
theorem readsAs_of_fp_memory (i : Instr) (hu : (encode i).unit = .m)
    (hb : i.before firstFpLoad = false) (hc : i.before firstPrefetch = true) : ReadsAs (encode i) i := by
  cases i with
  | ldfeM6 | ldf8M6 | ldfsM6 | ldfdM6 | ldfeSM6 | ldf8SM6 | ldfsSM6 | ldfdSM6 | ldfeAM6 | ldf8AM6 | ldfsAM6
    | ldfdAM6 | ldfeSaM6 | ldf8SaM6 | ldfsSaM6 | ldfdSaM6 | ldfeCClrM6 | ldf8CClrM6 | ldfsCClrM6 | ldfdCClrM6
    | ldfeCNcM6 | ldf8CNcM6 | ldfsCNcM6 | ldfdCNcM6 | ldfFillM6 =>
    exact readsAs_of_column (by simp -iota only [decodeColumn, decodeM, decodeM6op, decodeM6, fld_append, fld_whole,
      Nat.reduceLeDiff, Nat.reduceAdd, Nat.reduceSub]; rfl)
  | ldfeM7 | ldf8M7 | ldfsM7 | ldfdM7 | ldfeSM7 | ldf8SM7 | ldfsSM7 | ldfdSM7 | ldfeAM7 | ldf8AM7 | ldfsAM7
    | ldfdAM7 | ldfeSaM7 | ldf8SaM7 | ldfsSaM7 | ldfdSaM7 | ldfeCClrM7 | ldf8CClrM7 | ldfsCClrM7 | ldfdCClrM7
    | ldfeCNcM7 | ldf8CNcM7 | ldfsCNcM7 | ldfdCNcM7 | ldfFillM7 =>
    exact readsAs_of_column (by simp -iota only [decodeColumn, decodeM, decodeM6op, decodeM7, fld_append, fld_whole,
      Nat.reduceLeDiff, Nat.reduceAdd, Nat.reduceSub]; rfl)
  | ldfeM8 | ldf8M8 | ldfsM8 | ldfdM8 | ldfeSM8 | ldf8SM8 | ldfsSM8 | ldfdSM8 | ldfeAM8 | ldf8AM8 | ldfsAM8
    | ldfdAM8 | ldfeSaM8 | ldf8SaM8 | ldfsSaM8 | ldfdSaM8 | ldfeCClrM8 | ldf8CClrM8 | ldfsCClrM8 | ldfdCClrM8
    | ldfeCNcM8 | ldf8CNcM8 | ldfsCNcM8 | ldfdCNcM8 | ldfFillM8 =>
    exact readsAs_of_column (by simp -iota only [decodeColumn, decodeM, decodeM7op, decodeM8, fld_append, fld_whole,
      Nat.reduceLeDiff, Nat.reduceAdd, Nat.reduceSub, fld_append_fld]; rfl)
  | stfeM9 | stf8M9 | stfsM9 | stfdM9 | stfSpillM9 =>
    exact readsAs_of_column (by simp -iota only [decodeColumn, decodeM, decodeM6op, decodeM9, fld_append, fld_whole,
      Nat.reduceLeDiff, Nat.reduceAdd, Nat.reduceSub]; rfl)
  | stfeM10 | stf8M10 | stfsM10 | stfdM10 | stfSpillM10 =>
    exact readsAs_of_column (by simp -iota only [decodeColumn, decodeM, decodeM7op, decodeM10, fld_append, fld_whole,
      Nat.reduceLeDiff, Nat.reduceAdd, Nat.reduceSub, fld_append_fld]; rfl)
  | ldfp8M11 | ldfpsM11 | ldfpdM11 | ldfp8SM11 | ldfpsSM11 | ldfpdSM11 | ldfp8AM11 | ldfpsAM11 | ldfpdAM11
    | ldfp8SaM11 | ldfpsSaM11 | ldfpdSaM11 | ldfp8CClrM11 | ldfpsCClrM11 | ldfpdCClrM11 | ldfp8CNcM11 | ldfpsCNcM11
    | ldfpdCNcM11 =>
    exact readsAs_of_column (by simp -iota only [decodeColumn, decodeM, decodeM6op, decodeM11, fld_append, fld_whole,
      Nat.reduceLeDiff, Nat.reduceAdd, Nat.reduceSub]; rfl)
  | ldfp8M12 | ldfpsM12 | ldfpdM12 | ldfp8SM12 | ldfpsSM12 | ldfpdSM12 | ldfp8AM12 | ldfpsAM12 | ldfpdAM12
    | ldfp8SaM12 | ldfpsSaM12 | ldfpdSaM12 | ldfp8CClrM12 | ldfpsCClrM12 | ldfpdCClrM12 | ldfp8CNcM12 | ldfpsCNcM12
    | ldfpdCNcM12 =>
    exact readsAs_of_column (by simp -iota only [decodeColumn, decodeM, decodeM6op, decodeM12, fld_append, fld_whole,
      Nat.reduceLeDiff, Nat.reduceAdd, Nat.reduceSub]; rfl)
  | _ => contradiction

/-- M-type rows from `lfetch` on: prefetches, semaphores and the system instructions (R417-R457). -/
theorem readsAs_of_other_m (i : Instr) (hu : (encode i).unit = .m)
    (hc : i.before firstPrefetch = false) : ReadsAs (encode i) i := by
  cases i with
  | lfetchExclM13 | lfetchFaultM13 | lfetchFaultExclM13 =>
    exact readsAs_of_column (by simp -iota only [decodeColumn, decodeM, decodeM6op, decodeM13, fld_append, fld_whole,
      Nat.reduceLeDiff, Nat.reduceAdd, Nat.reduceSub]; rfl)
  | lfetchM51 =>
    exact readsAs_of_column (by simp -iota only [decodeColumn, decodeM, decodeM6op, decodeM51, fld_append, fld_whole,
      Nat.reduceLeDiff, Nat.reduceAdd, Nat.reduceSub]; rfl)
  | lfetchCountM52 =>
    exact readsAs_of_column (by simp -iota only [decodeColumn, decodeM, decodeM6op, decodeM52, fld_append, fld_whole,
      Nat.reduceLeDiff, Nat.reduceAdd, Nat.reduceSub]; rfl)
  | lfetchM14 | lfetchExclM14 | lfetchFaultM14 | lfetchFaultExclM14 =>
    exact readsAs_of_column (by simp -iota only [decodeColumn, decodeM, decodeM6op, decodeM14, fld_append, fld_whole,
      Nat.reduceLeDiff, Nat.reduceAdd, Nat.reduceSub]; rfl)
  | lfetchM15 | lfetchExclM15 | lfetchFaultM15 | lfetchFaultExclM15 =>
    exact readsAs_of_column (by simp -iota only [decodeColumn, decodeM, decodeM7op, decodeM15, fld_append, fld_whole,
      Nat.reduceLeDiff, Nat.reduceAdd, Nat.reduceSub, fld_append_fld]; rfl)
  | cmpxchg1AcqM16 | cmpxchg1RelM16 | xchg1M16 | cmpxchg2AcqM16 | cmpxchg2RelM16 | xchg2M16 | cmpxchg4AcqM16
    | cmpxchg4RelM16 | xchg4M16 | cmpxchg8AcqM16 | cmpxchg8RelM16 | xchg8M16 | cmp8xchg16AcqM16 | cmp8xchg16RelM16 =>
    exact readsAs_of_column (by simp -iota only [decodeColumn, decodeM, decodeM4op, decodeM16, fld_append, fld_whole,
      Nat.reduceLeDiff, Nat.reduceAdd, Nat.reduceSub]; rfl)
  | fetchadd4AcqM17 | fetchadd8AcqM17 | fetchadd4RelM17 | fetchadd8RelM17 =>
    exact readsAs_of_column (by simp -iota only [decodeColumn, decodeM, decodeM4op, decodeM17, fld_append, fld_whole,
      Nat.reduceLeDiff, Nat.reduceAdd, Nat.reduceSub, fld_append_fld]; rfl)
  | setfSigM18 | setfExpM18 | setfSM18 | setfDM18 =>
    exact readsAs_of_column (by simp -iota only [decodeColumn, decodeM, decodeM6op, decodeM18, fld_append, fld_whole,
      Nat.reduceLeDiff, Nat.reduceAdd, Nat.reduceSub]; rfl)
  | getfSigM19 | getfExpM19 | getfSM19 | getfDM19 =>
    exact readsAs_of_column (by simp -iota only [decodeColumn, decodeM, decodeM4op, decodeM19, fld_append, fld_whole,
      Nat.reduceLeDiff, Nat.reduceAdd, Nat.reduceSub]; rfl)
  | chkSMM20 =>
    exact readsAs_of_column (by simp -iota only [decodeColumn, decodeM, decodeM1op, decodeM20, fld_append, fld_whole,
      Nat.reduceLeDiff, Nat.reduceAdd, Nat.reduceSub, fld_append_fld]; rfl)
  | chkSM21 =>
    exact readsAs_of_column (by simp -iota only [decodeColumn, decodeM, decodeM1op, decodeM21, fld_append, fld_whole,
      Nat.reduceLeDiff, Nat.reduceAdd, Nat.reduceSub, fld_append_fld]; rfl)
  | chkANcM22 | chkAClrM22 =>
    exact readsAs_of_column (by simp -iota only [decodeColumn, decodeM, decodeM0, decodeM22, fld_append, fld_whole,
      Nat.reduceLeDiff, Nat.reduceAdd, Nat.reduceSub, fld_append_fld]; rfl)
  | chkANcM23 | chkAClrM23 =>
    exact readsAs_of_column (by simp -iota only [decodeColumn, decodeM, decodeM0, decodeM23, fld_append, fld_whole,
      Nat.reduceLeDiff, Nat.reduceAdd, Nat.reduceSub, fld_append_fld]; rfl)
  | invalaM24 | fwbM24 | mfM24 | mfAM24 | srlzDM24 | srlzIM24 | syncIM24 =>
    exact readsAs_of_column (by simp -iota only [decodeColumn, decodeM, decodeM0, decodeM0x4, decodeM24, fld_append,
      fld_whole, Nat.reduceLeDiff, Nat.reduceAdd, Nat.reduceSub]; rfl)
  | flushrsM25 | loadrsM25 =>
    exact readsAs_of_column (by simp -iota only [decodeColumn, decodeM, decodeM0, decodeM0x4, decodeM25, fld_append,
      fld_whole, Nat.reduceLeDiff, Nat.reduceAdd, Nat.reduceSub]; rfl)
  | invalaEM26 =>
    exact readsAs_of_column (by simp -iota only [decodeColumn, decodeM, decodeM0, decodeM0x4, decodeM26, fld_append,
      fld_whole, Nat.reduceLeDiff, Nat.reduceAdd, Nat.reduceSub]; rfl)
  | invalaEM27 =>
    exact readsAs_of_column (by simp -iota only [decodeColumn, decodeM, decodeM0, decodeM0x4, decodeM27, fld_append,
      fld_whole, Nat.reduceLeDiff, Nat.reduceAdd, Nat.reduceSub]; rfl)
  | fcM28 | fcIM28 =>
    exact readsAs_of_column (by simp -iota only [decodeColumn, decodeM, decodeM1op, decodeM1x6, decodeM28, fld_append,
      fld_whole, Nat.reduceLeDiff, Nat.reduceAdd, Nat.reduceSub]; rfl)
  | movMToArM29 =>
    exact readsAs_of_column (by simp -iota only [decodeColumn, decodeM, decodeM1op, decodeM1x6, decodeM29, fld_append,
      fld_whole, Nat.reduceLeDiff, Nat.reduceAdd, Nat.reduceSub]; rfl)
  | movMToArImmM30 =>
    exact readsAs_of_column (by simp -iota only [decodeColumn, decodeM, decodeM0, decodeM0x4, decodeM30, fld_append,
      fld_whole, Nat.reduceLeDiff, Nat.reduceAdd, Nat.reduceSub, fld_append_fld]; rfl)
  | movMFromArM31 =>
    exact readsAs_of_column (by simp -iota only [decodeColumn, decodeM, decodeM1op, decodeM1x6, decodeM31, fld_append,
      fld_whole, Nat.reduceLeDiff, Nat.reduceAdd, Nat.reduceSub]; rfl)
  | movToCrM32 =>
    exact readsAs_of_column (by simp -iota only [decodeColumn, decodeM, decodeM1op, decodeM1x6, decodeM32, fld_append,
      fld_whole, Nat.reduceLeDiff, Nat.reduceAdd, Nat.reduceSub]; rfl)
  | movFromCrM33 =>
    exact readsAs_of_column (by simp -iota only [decodeColumn, decodeM, decodeM1op, decodeM1x6, decodeM33, fld_append,
      fld_whole, Nat.reduceLeDiff, Nat.reduceAdd, Nat.reduceSub]; rfl)
  | allocM34 =>
    exact readsAs_of_column (by simp -iota only [decodeColumn, decodeM, decodeM1op, decodeM34, fld_append, fld_whole,
      Nat.reduceLeDiff, Nat.reduceAdd, Nat.reduceSub]; rfl)
  | movToPsrLM35 | movToPsrUmM35 =>
    exact readsAs_of_column (by simp -iota only [decodeColumn, decodeM, decodeM1op, decodeM1x6, decodeM35, fld_append,
      fld_whole, Nat.reduceLeDiff, Nat.reduceAdd, Nat.reduceSub]; rfl)
  | movFromPsrM36 | movFromPsrUmM36 =>
    exact readsAs_of_column (by simp -iota only [decodeColumn, decodeM, decodeM1op, decodeM1x6, decodeM36, fld_append,
      fld_whole, Nat.reduceLeDiff, Nat.reduceAdd, Nat.reduceSub]; rfl)
  | breakMM37 =>
    exact readsAs_of_column (by simp -iota only [decodeColumn, decodeM, decodeM0, decodeM0x4, decodeM37, fld_append,
      fld_whole, Nat.reduceLeDiff, Nat.reduceAdd, Nat.reduceSub, fld_append_fld]; rfl)
  | probeRM38 | probeWM38 =>
    exact readsAs_of_column (by simp -iota only [decodeColumn, decodeM, decodeM1op, decodeM1x6, decodeM38, fld_append,
      fld_whole, Nat.reduceLeDiff, Nat.reduceAdd, Nat.reduceSub]; rfl)
  | probeRM39 | probeWM39 =>
    exact readsAs_of_column (by simp -iota only [decodeColumn, decodeM, decodeM1op, decodeM1x6, decodeM39, fld_append,
      fld_whole, Nat.reduceLeDiff, Nat.reduceAdd, Nat.reduceSub]; rfl)
  | probeRwFaultM40 | probeRFaultM40 | probeWFaultM40 =>
    exact readsAs_of_column (by simp -iota only [decodeColumn, decodeM, decodeM1op, decodeM1x6, decodeM40, fld_append,
      fld_whole, Nat.reduceLeDiff, Nat.reduceAdd, Nat.reduceSub]; rfl)
  | itcDM41 | itcIM41 =>
    exact readsAs_of_column (by simp -iota only [decodeColumn, decodeM, decodeM1op, decodeM1x6, decodeM41, fld_append,
      fld_whole, Nat.reduceLeDiff, Nat.reduceAdd, Nat.reduceSub]; rfl)
  | movToRrM42 | movToDbrM42 | movToIbrM42 | movToPkrM42 | movToPmcM42 | movToPmdM42 | itrDM42 | itrIM42 =>
    exact readsAs_of_column (by simp -iota only [decodeColumn, decodeM, decodeM1op, decodeM1x6, decodeM42, fld_append,
      fld_whole, Nat.reduceLeDiff, Nat.reduceAdd, Nat.reduceSub]; rfl)
  | movFromRrM43 | movFromDbrM43 | movFromIbrM43 | movFromPkrM43 | movFromPmcM43 | movFromPmdM43 | movFromCpuidM43
    | movFromDahrM43 =>
    exact readsAs_of_column (by simp -iota only [decodeColumn, decodeM, decodeM1op, decodeM1x6, decodeM43, fld_append,
      fld_whole, Nat.reduceLeDiff, Nat.reduceAdd, Nat.reduceSub]; rfl)
  | sumM44 | rumM44 | ssmM44 | rsmM44 =>
    exact readsAs_of_column (by simp -iota only [decodeColumn, decodeM, decodeM0, decodeM0x4, decodeM44, fld_append,
      fld_whole, Nat.reduceLeDiff, Nat.reduceAdd, Nat.reduceSub, fld_append_fld]; rfl)
  | ptcLM45 | ptcGM45 | ptcGaM45 | ptrDM45 | ptrIM45 =>
    exact readsAs_of_column (by simp -iota only [decodeColumn, decodeM, decodeM1op, decodeM1x6, decodeM45, fld_append,
      fld_whole, Nat.reduceLeDiff, Nat.reduceAdd, Nat.reduceSub]; rfl)
  | thashM46 | ttagM46 | tpaM46 | takM46 =>
    exact readsAs_of_column (by simp -iota only [decodeColumn, decodeM, decodeM1op, decodeM1x6, decodeM46, fld_append,
      fld_whole, Nat.reduceLeDiff, Nat.reduceAdd, Nat.reduceSub]; rfl)
  | ptcEM47 =>
    exact readsAs_of_column (by simp -iota only [decodeColumn, decodeM, decodeM1op, decodeM1x6, decodeM47, fld_append,
      fld_whole, Nat.reduceLeDiff, Nat.reduceAdd, Nat.reduceSub]; rfl)
  | nopMM48 =>
    exact readsAs_of_column (by simp -iota only [decodeColumn, decodeM, decodeM0, decodeM0x4, decodeM48, fld_append,
      fld_whole, Nat.reduceLeDiff, Nat.reduceAdd, Nat.reduceSub, fld_append_fld]; rfl)
  | hintMM49 =>
    exact readsAs_of_column (by simp -iota only [decodeColumn, decodeM, decodeM0, decodeM0x4, decodeM49, fld_append,
      fld_whole, Nat.reduceLeDiff, Nat.reduceAdd, Nat.reduceSub, fld_append_fld]; rfl)
  | movToDahrImmM50 =>
    exact readsAs_of_column (by simp -iota only [decodeColumn, decodeM, decodeM0, decodeM0x4, decodeM50, fld_append,
      fld_whole, Nat.reduceLeDiff, Nat.reduceAdd, Nat.reduceSub, fld_append_fld]; rfl)
  | _ => contradiction

/-- B-type rows (R487-R496). -/
theorem readsAs_of_unit_b (i : Instr) (hu : (encode i).unit = .b) : ReadsAs (encode i) i := by
  cases i with
  | brCondB1 | brWexitB1 | brWtopB1 =>
    exact readsAs_of_column (by simp -iota only [decodeColumn, decodeB, decodeB1, fld_append, fld_whole,
      Nat.reduceLeDiff, Nat.reduceAdd, Nat.reduceSub, fld_append_fld]; rfl)
  | brCloopB2 | brCexitB2 | brCtopB2 =>
    exact readsAs_of_column (by simp -iota only [decodeColumn, decodeB, decodeB2, fld_append, fld_whole,
      Nat.reduceLeDiff, Nat.reduceAdd, Nat.reduceSub, fld_append_fld]; rfl)
  | brCallB3 =>
    exact readsAs_of_column (by simp -iota only [decodeColumn, decodeB, decodeB3, fld_append, fld_whole,
      Nat.reduceLeDiff, Nat.reduceAdd, Nat.reduceSub, fld_append_fld]; rfl)
  | brCondB4 | brIaB4 | brRetB4 =>
    exact readsAs_of_column (by simp -iota only [decodeColumn, decodeB, decodeB4, fld_append, fld_whole,
      Nat.reduceLeDiff, Nat.reduceAdd, Nat.reduceSub]; rfl)
  | brCallB5 =>
    exact readsAs_of_column (by simp -iota only [decodeColumn, decodeB, decodeB5, fld_append, fld_whole,
      Nat.reduceLeDiff, Nat.reduceAdd, Nat.reduceSub]; rfl)
  | brpB6 =>
    exact readsAs_of_column (by simp -iota only [decodeColumn, decodeB, decodeB6, fld_append, fld_whole,
      Nat.reduceLeDiff, Nat.reduceAdd, Nat.reduceSub, fld_append_fld]; rfl)
  | brpB7 | brpRetB7 =>
    exact readsAs_of_column (by simp -iota only [decodeColumn, decodeB, decodeB7, fld_append, fld_whole,
      Nat.reduceLeDiff, Nat.reduceAdd, Nat.reduceSub, fld_append_fld]; rfl)
  | coverB8 | clrrrbB8 | clrrrbPrB8 | rfiB8 | bsw0B8 | bsw1B8 | epcB8 | vmsw0B8 | vmsw1B8 =>
    exact readsAs_of_column (by simp -iota only [decodeColumn, decodeB, decodeB8, fld_append, fld_whole,
      Nat.reduceLeDiff, Nat.reduceAdd, Nat.reduceSub]; rfl)
  | breakBB9 | nopBB9 | hintBB9 =>
    exact readsAs_of_column (by simp -iota only [decodeColumn, decodeB, decodeB9, fld_append, fld_whole,
      Nat.reduceLeDiff, Nat.reduceAdd, Nat.reduceSub, fld_append_fld]; rfl)
  | _ => contradiction

/-- F-type rows (R505-R520). -/
theorem readsAs_of_unit_f (i : Instr) (hu : (encode i).unit = .f) : ReadsAs (encode i) i := by
  cases i with
  | fmaF1 | fmaSF1 | fmaDF1 | fpmaF1 | fmsF1 | fmsSF1 | fmsDF1 | fpmsF1 | fnmaF1 | fnmaSF1 | fnmaDF1 | fpnmaF1 =>
    exact readsAs_of_column (by simp -iota only [decodeColumn, decodeF, decodeF1, fld_append, fld_whole,
      Nat.reduceLeDiff, Nat.reduceAdd, Nat.reduceSub]; rfl)
  | xmaLF2 | xmaHuF2 | xmaHF2 =>
    exact readsAs_of_column (by simp -iota only [decodeColumn, decodeF, decodeF2, fld_append, fld_whole,
      Nat.reduceLeDiff, Nat.reduceAdd, Nat.reduceSub]; rfl)
  | fselectF3 =>
    exact readsAs_of_column (by simp -iota only [decodeColumn, decodeF, decodeF3, fld_append, fld_whole,
      Nat.reduceLeDiff, Nat.reduceAdd, Nat.reduceSub]; rfl)
  | fcmpEqF4 | fcmpEqUncF4 | fcmpLtF4 | fcmpLtUncF4 | fcmpLeF4 | fcmpLeUncF4 | fcmpUnordF4 | fcmpUnordUncF4 =>
    exact readsAs_of_column (by simp -iota only [decodeColumn, decodeF, decodeF4, fld_append, fld_whole,
      Nat.reduceLeDiff, Nat.reduceAdd, Nat.reduceSub]; rfl)
  | fclassMF5 | fclassMUncF5 =>
    exact readsAs_of_column (by simp -iota only [decodeColumn, decodeF, decodeF5, fld_append, fld_whole,
      Nat.reduceLeDiff, Nat.reduceAdd, Nat.reduceSub, fld_append_fld]; rfl)
  | frcpaF6 | fprcpaF6 =>
    exact readsAs_of_column (by simp -iota only [decodeColumn, decodeF, decodeF0, decodeF1op, decodeF6, fld_append,
      fld_whole, Nat.reduceLeDiff, Nat.reduceAdd, Nat.reduceSub]; rfl)
  | frsqrtaF7 | fprsqrtaF7 =>
    exact readsAs_of_column (by simp -iota only [decodeColumn, decodeF, decodeF0, decodeF1op, decodeF7, fld_append,
      fld_whole, Nat.reduceLeDiff, Nat.reduceAdd, Nat.reduceSub]; rfl)
  | fminF8 | fmaxF8 | faminF8 | famaxF8 | fpminF8 | fpmaxF8 | fpaminF8 | fpamaxF8 | fpcmpEqF8 | fpcmpLtF8
    | fpcmpLeF8 | fpcmpUnordF8 | fpcmpNeqF8 | fpcmpNltF8 | fpcmpNleF8 | fpcmpOrdF8 =>
    exact readsAs_of_column (by simp -iota only [decodeColumn, decodeF, decodeF0, decodeF1op, decodeF8, fld_append,
      fld_whole, Nat.reduceLeDiff, Nat.reduceAdd, Nat.reduceSub]; rfl)
  | fmergeSF9 | fmergeNsF9 | fmergeSeF9 | fmixLrF9 | fmixRF9 | fmixLF9 | fsxtRF9 | fsxtLF9 | fpackF9 | fswapF9
    | fswapNlF9 | fswapNrF9 | fandF9 | fandcmF9 | forF9 | fxorF9 | fpmergeSF9 | fpmergeNsF9 | fpmergeSeF9 =>
    exact readsAs_of_column (by simp -iota only [decodeColumn, decodeF, decodeF0, decodeF1op, decodeF9, fld_append,
      fld_whole, Nat.reduceLeDiff, Nat.reduceAdd, Nat.reduceSub]; rfl)
  | fcvtFxF10 | fcvtFxuF10 | fcvtFxTruncF10 | fcvtFxuTruncF10 | fpcvtFxF10 | fpcvtFxuF10 | fpcvtFxTruncF10
    | fpcvtFxuTruncF10 =>
    exact readsAs_of_column (by simp -iota only [decodeColumn, decodeF, decodeF0, decodeF1op, decodeF10, fld_append,
      fld_whole, Nat.reduceLeDiff, Nat.reduceAdd, Nat.reduceSub]; rfl)
  | fcvtXfF11 =>
    exact readsAs_of_column (by simp -iota only [decodeColumn, decodeF, decodeF0, decodeF11, fld_append, fld_whole,
      Nat.reduceLeDiff, Nat.reduceAdd, Nat.reduceSub]; rfl)
  | fsetcF12 =>
    exact readsAs_of_column (by simp -iota only [decodeColumn, decodeF, decodeF0, decodeF12, fld_append, fld_whole,
      Nat.reduceLeDiff, Nat.reduceAdd, Nat.reduceSub]; rfl)
  | fclrfF13 =>
    exact readsAs_of_column (by simp -iota only [decodeColumn, decodeF, decodeF0, decodeF13, fld_append, fld_whole,
      Nat.reduceLeDiff, Nat.reduceAdd, Nat.reduceSub]; rfl)
  | fchkfF14 =>
    exact readsAs_of_column (by simp -iota only [decodeColumn, decodeF, decodeF0, decodeF14, fld_append, fld_whole,
      Nat.reduceLeDiff, Nat.reduceAdd, Nat.reduceSub, fld_append_fld]; rfl)
  | breakFF15 =>
    exact readsAs_of_column (by simp -iota only [decodeColumn, decodeF, decodeF0, decodeF15, fld_append, fld_whole,
      Nat.reduceLeDiff, Nat.reduceAdd, Nat.reduceSub, fld_append_fld]; rfl)
  | nopFF16 | hintFF16 =>
    exact readsAs_of_column (by simp -iota only [decodeColumn, decodeF, decodeF0, decodeF16, fld_append, fld_whole,
      Nat.reduceLeDiff, Nat.reduceAdd, Nat.reduceSub, fld_append_fld]; rfl)
  | _ => contradiction

/-- X-type rows, with the L slot (R526-R530). -/
theorem readsAs_of_unit_x (i : Instr) (hu : (encode i).unit = .x) : ReadsAs (encode i) i := by
  cases i with
  | breakXX1 =>
    exact readsAs_of_column (by simp -iota only [decodeColumn, decodeX, decodeX1, fld_append, fld_whole,
      Nat.reduceLeDiff, Nat.reduceAdd, Nat.reduceSub, fld_append_fld]; rfl)
  | movlX2 =>
    exact readsAs_of_column (by simp -iota only [decodeColumn, decodeX, decodeX2, fld_append, fld_whole,
      Nat.reduceLeDiff, Nat.reduceAdd, Nat.reduceSub, fld_append_fld]; rfl)
  | brlCondX3 =>
    exact readsAs_of_column (by simp -iota only [decodeColumn, decodeX, decodeX3, fld_append, fld_whole,
      Nat.reduceLeDiff, Nat.reduceAdd, Nat.reduceSub, fld_append_fld]; rfl)
  | brlCallX4 =>
    exact readsAs_of_column (by simp -iota only [decodeColumn, decodeX, decodeX4, fld_append, fld_whole,
      Nat.reduceLeDiff, Nat.reduceAdd, Nat.reduceSub, fld_append_fld]; rfl)
  | nopXX5 | hintXX5 =>
    exact readsAs_of_column (by simp -iota only [decodeColumn, decodeX, decodeX5, fld_append, fld_whole,
      Nat.reduceLeDiff, Nat.reduceAdd, Nat.reduceSub, fld_append_fld]; rfl)
  | _ => contradiction

theorem readsAs_encode (i : Instr) : ReadsAs (encode i) i := by
  cases hu : (encode i).unit with
  | a => exact readsAs_of_unit_a i hu
  | i => exact readsAs_of_unit_i i hu
  | m =>
    cases hb : i.before firstFpLoad with
    | true => exact readsAs_of_integer_memory i hu hb
    | false =>
      cases hc : i.before firstPrefetch with
      | true => exact readsAs_of_fp_memory i hu hb hc
      | false => exact readsAs_of_other_m i hu hc
  | f => exact readsAs_of_unit_f i hu
  | b => exact readsAs_of_unit_b i hu
  | x => exact readsAs_of_unit_x i hu

/-- Settles O59: a row's opcode fields lead the decoder back to the row, its operand fields to the operands. -/
theorem encodeDecodeRoundTrip : Obligations.EncodeDecodeRoundTrip :=
  readsAs_encode

end Sys2Proof
end

section
/-! ### Words that the spec writes out -/
namespace Sys2Proof

/-- A slot whose words are an instruction's encoding decodes to that instruction. -/
theorem decodeSlot_of_encode_eq {i : Instr} {t : InstrUnit} {l w : Slot} {u : SlotUnit} (he : encode i = ⟨t, l, w⟩)
    (hu : t.fits u = true) : decodeSlot u l w = .instr i := by
  have hr := readsAs_encode i
  rw [he] at hr
  exact hr u hu

/-- Settles O56: each of the spec's words is the encoding of the instruction beside it, and the decoder undoes the
encoder. -/
theorem specWordsDecode : Obligations.SpecWordsDecode := by
  have add_word : encode (.addA1 0 1 2 3) = ⟨.a, 0, 0x10000304040⟩ := by decide
  have adds_word : encode (.addsA4 0 1 0 1) = ⟨.a, 0, 0x10800002040⟩ := by decide
  have cmp_word : encode (.cmpEqA6 0 6 7 2 3) = ⟨.a, 0, 0x1C038304180⟩ := by decide
  have ld8_word : encode (.ld8M1 0 1 3 0 0) = ⟨.m, 0, 0x080C0300040⟩ := by decide
  have st8_word : encode (.st8M4 0 2 3 0 0) = ⟨.m, 0, 0x08CC0304000⟩ := by decide
  have brCond_word : encode (.brCondB1 6 0 0 0 2) = ⟨.b, 0, 0x08000004006⟩ := by decide
  have brRet_word : encode (.brRetB4 0 0 0 0 0) = ⟨.b, 0, 0x00108000100⟩ := by decide
  have fma_word : encode (.fmaF1 0 8 11 9 10 0) = ⟨.f, 0, 0x10050916200⟩ := by decide
  have movl_words : encode (.movlX2 0 4 0x123456789ABCDEF0) = ⟨.x, 0x048D159E26A, 0x0CDEF2E0100⟩ := by decide
  have nop_word : encode (.nopMM48 0 0) = ⟨.m, 0, 0x00008000000⟩ := by decide
  exact ⟨decodeSlot_of_encode_eq add_word rfl, decodeSlot_of_encode_eq adds_word rfl,
    decodeSlot_of_encode_eq cmp_word rfl, decodeSlot_of_encode_eq ld8_word rfl, decodeSlot_of_encode_eq st8_word rfl,
    decodeSlot_of_encode_eq brCond_word rfl, decodeSlot_of_encode_eq brRet_word rfl,
    decodeSlot_of_encode_eq fma_word rfl, decodeSlot_of_encode_eq movl_words rfl, decodeSlot_of_encode_eq nop_word rfl⟩

end Sys2Proof
end

section
/-! ### How branches end, and where they go -/
namespace Sys2Proof.Machine

/-! #### Checks that are passed, checks that are not -/

section
variable {i : Instr} {s u : State} {c : Bool} {x : Interruption} {f : Unit → Body}

theorem stuckIf_false_bind {e : Fault} : (stuckIf false e >>= f) = f () := rfl

/-- The first check of an instruction raises its fault. -/
theorem traps_of_check (hc : c = true) (hi : exec i s = finish s (check c x >>= f)) : Traps i s x := by
  rw [Traps, hi, hc, check_true_bind]; rfl

theorem checkLast_passes (h : s.followedByStop = true) : (s.checkLast >>= f) = f () := by
  rw [State.checkLast, h, Bool.not_true, check_false_bind]

theorem traps_of_checkLast (h : s.followedByStop = false) (hi : exec i s = finish s (s.checkLast >>= f)) :
    Traps i s illegalOperation :=
  traps_of_check (by rw [h, Bool.not_false]) hi

/-! #### Completion on the next instruction, at a target -/

/-- Completing with a state whose place and PSR.ss are those before. -/
theorem completes_of_exec (hss : s.psrBit Psr.ss = false) (hu : u.psrBit Psr.ss = s.psrBit Psr.ss) (hri : u.ri = s.ri)
    (hip : u.ip = s.ip) (hi : exec i s = finish s (done u)) : Completes i s u := by
  obtain ⟨hsettled, hplace⟩ := retire_sequential u (hu.trans hss)
  have hnext : u.nextPlace = s.nextPlace := by rw [State.nextPlace, State.nextPlace, hri, hip]
  exact ⟨_, hi, hplace.trans hnext, hsettled⟩

theorem reaches_of_taken {a : Word} {lowered : Bool} (hs : Untrapped u) (hl : (lowered && u.psrBit Psr.lp) = false)
    (hi : exec i s = finish s (taken u a lowered)) : Reaches i s u (a, 0) := by
  obtain ⟨hss, htb⟩ := hs
  obtain ⟨hsettled, hplace⟩ := retire_branch u a lowered hss htb hl
  exact ⟨_, hi, hplace, hsettled⟩

theorem untrapped_of_psr (hpsr : u.psr = s.psr) (hs : Untrapped s) : Untrapped u := by
  rw [Untrapped, State.psrBit, State.psrBit, hpsr]; exact hs

/-- A branch that is taken or not (R557), whose state has PSR and IP as before. -/
theorem reaches_of_branchIf {a : Word} (hs : Untrapped s) (hpsr : u.psr = s.psr) (hip : u.ip = s.ip)
    (hi : exec i s = finish s (branchIf c u a)) : Reaches i s u (if c then (a, 0) else s.nextPlace) := by
  have hu := untrapped_of_psr hpsr hs
  cases c with
  | true => exact reaches_of_taken hu rfl hi
  | false =>
    refine completes_of_exec hs.1 ?_ ?_ hip hi
    · rw [State.psrBit, hpsr]; rfl
    · rw [State.ri, hpsr]; rfl

end

/-! #### Targets -/

theorem relTarget_eq (s : State) (disp : BitVec 21) : relTarget s disp = (s.target25 disp, 0) := by
  have hdisp : (sx disp <<< 4 : Word) = BitVec.ofInt 64 (16 * disp.toInt) := by
    show (BitVec.ofInt 64 disp.toInt <<< 4 : Word) = _
    rw [BitVec.ofInt_mul, BitVec.mul_comm, BitVec.shiftLeft_eq_mul_twoPow]
    rfl
  rw [relTarget, State.target25, hdisp]

/-- The 60-bit displacement times 16 fills the word, so that its sign does not matter. -/
theorem target64_eq (s : State) (disp : BitVec 60) :
    s.target64 disp = s.ip + BitVec.ofInt 64 (16 * disp.toInt) := by
  have hdisp : (disp.zeroExtend 64 <<< 4 : Word) = BitVec.ofInt 64 (16 * disp.toInt) := by
    apply BitVec.eq_of_toNat_eq
    rw [BitVec.toNat_shiftLeft, BitVec.toNat_ofInt, BitVec.toInt_eq_toNat_cond, Nat.shiftLeft_eq,
      BitVec.toNat_setWidth]
    have := disp.isLt
    split <;> omega
  rw [State.target64, hdisp]

theorem brTarget_eq (s : State) (b : BitVec 3) : brTarget s b = (s.targetBr b, 0) := rfl

/-! #### Conditional branches (R551, R560) -/

section
variable {i : Instr} {s u : State} {qp : BitVec 6} {a : Word}

/-- A predicated branch is taken by its predicate. -/
theorem reaches_of_predicated_taken (hs : Untrapped s) (hi : exec i s = predicated qp s (taken s a)) :
    Reaches i s s (if s.prBit qp then (a, 0) else s.nextPlace) :=
  reaches_of_branchIf hs rfl rfl hi

theorem longBranch_eq (hstop : s.followedByStop = true) : longBranch qp u a s =
    finish s (if s.prBit qp then taken u a else .ok { st := s, flow := .nextBundle }) := by
  rw [longBranch, hstop]; rfl

theorem longBranch_undefined (hstop : s.followedByStop = false) : longBranch qp u a s = .fault .undefinedBehavior := by
  rw [longBranch, hstop]; rfl

theorem reaches_of_longBranch (hs : Untrapped s) (hu : Untrapped u) (hstop : s.followedByStop = true)
    (hi : exec i s = longBranch qp u a s) :
    Reaches i s (if s.prBit qp then u else s) (if s.prBit qp then (a, 0) else (s.ip + 16, 0)) := by
  rw [longBranch_eq hstop] at hi
  cases hq : s.prBit qp with
  | true =>
    rw [hq] at hi
    exact reaches_of_taken hu rfl hi
  | false =>
    rw [hq] at hi
    obtain ⟨hsettled, hplace⟩ := retire_nextBundle s hs.1
    exact ⟨_, hi, hplace, hsettled⟩

end

/-- Settles O22: a branch that is taken completes at its target, one that is not at the next instruction. -/
theorem branchesReachTheirTargets : Obligations.BranchesReachTheirTargets := by
  intro s qp b d wh p disp disp60 hs
  refine ⟨?_, reaches_of_predicated_taken hs rfl, fun hstop => ?_, fun hstop => longBranch_undefined hstop⟩
  · rw [relTarget_eq]
    exact reaches_of_predicated_taken hs rfl
  · have hlong := reaches_of_longBranch (i := .brlCondX3 qp d wh p disp60) hs hs hstop rfl
    rwa [ite_self, target64_eq] at hlong

end Sys2Proof.Machine
end

section
/-! ### Calls -/
namespace Sys2Proof.Machine

/-! #### Fields and branch registers -/

/-- A field that lies outside the one written reads as before. -/
theorem fld_setFld_of_disjoint {n len : Nat} {w : BitVec n} {lo : Nat} {v : BitVec len} {lo' len' : Nat}
    (h : lo + len ≤ n) (hd : lo' + len' ≤ lo ∨ lo + len ≤ lo') : fld (setFld w lo v) lo' len' = fld w lo' len' :=
  fld_congr fun j h1 h2 => by rw [getLsbD_setFld _ _ _ _ h, if_neg (by omega)]

section
variable {s t : State} {b b' : BitVec 3} {v : Word}

theorem setBr_brReg (s : State) (b : BitVec 3) (v : Word) : (s.setBr b v).brReg b = v := by
  simp [State.brReg]

theorem setBr_brReg_of_ne (h : b' ≠ b) : (s.setBr b v).brReg b' = s.brReg b' := by
  have hne : b.toFin.val ≠ b'.toFin.val := fun e => h (BitVec.eq_of_toFin_eq (Fin.ext e.symm))
  exact Vector.getElem_set_ne b.toFin.isLt b'.toFin.isLt hne

/-- What `settled` keeps reads alike in states that it makes alike. -/
theorem read_of_settled {α : Type} (f : State → α) (hf : ∀ u : State, f u.settled = f u) (h : t.settled = s.settled) :
    f t = f s := by
  rw [← hf t, ← hf s, h]

theorem psrBit_of_settled (h : t.settled = s.settled) {k : Nat}
    (hk : (Psr.oneShot ||| 0x0000060000000000).getLsbD k = false) : t.psrBit k = s.psrBit k := by
  rw [← bit_settled t k hk, ← bit_settled s k hk, h]

theorem cpl_of_psr_bits (h : ∀ k, 32 ≤ k → k < 34 → t.psrBit k = s.psrBit k) : t.cpl = s.cpl :=
  fld_congr fun j h1 h2 => h j h1 h2

theorem cpl_of_settled (h : t.settled = s.settled) : t.cpl = s.cpl :=
  cpl_of_psr_bits fun k h1 h2 => psrBit_of_settled h (by
    obtain rfl | rfl : k = 32 ∨ k = 33 := by omega
    · rfl
    · rfl)

/-! #### What a call saves (R83, R552) -/

theorem savedPfs_pfm (s : State) : (fld s.savedPfs 0 38 : BitVec 38) = s.cfm.toBits := by
  rw [State.savedPfs, fld_setFld_of_disjoint (by decide) (by decide), fld_setFld_of_disjoint (by decide) (by decide),
    fld_setFld _ _ _ (by decide)]

theorem savedPfs_pec (s : State) : (fld s.savedPfs 52 6 : BitVec 6) = s.ar.ec := by
  rw [State.savedPfs, fld_setFld_of_disjoint (by decide) (by decide), fld_setFld _ _ _ (by decide)]

theorem savedPfs_ppl (s : State) : (fld s.savedPfs 62 2 : BitVec 2) = s.cpl :=
  fld_setFld _ _ _ (by decide)

/-- The bits of PFS that no field of the call has. -/
theorem savedPfs_rest {lo len : Nat} (s : State) (h : 38 ≤ lo ∧ lo + len ≤ 52 ∨ 58 ≤ lo ∧ lo + len ≤ 62) :
    fld s.savedPfs lo len = fld s.ar.pfs lo len := by
  rw [State.savedPfs, fld_setFld_of_disjoint (by decide) (by omega), fld_setFld_of_disjoint (by decide) (by omega),
    fld_setFld_of_disjoint (by decide) (by omega)]

end

/-- Settles O23: each form completes with `State.call` at its target, and `settled` keeps what the statement reads. -/
theorem callsSaveTheFrame : Obligations.CallsSaveTheFrame := by
  intro s qp b1 b2 d wh wh3 p disp disp60 hq hs called
  have called_of_reaches {i : Instr} {place : Word × BitVec 2} (h : Reaches i s (s.call b1) place) :
      called i place := by
    obtain ⟨t, hi, hplace, hsettled⟩ := h
    have kept {α : Type} (f : State → α) (hf : ∀ u : State, f u.settled = f u) : f t = f (s.call b1) :=
      read_of_settled f hf hsettled
    have hbr (b : BitVec 3) : t.brReg b = (s.setBr b1 (s.ip + 16)).brReg b := kept (·.brReg b) fun _ => rfl
    have hpfs : t.ar.pfs = s.savedPfs := kept (·.ar.pfs) fun _ => rfl
    refine ⟨t, hi, hplace, (hbr b1).trans (setBr_brReg s b1 _), fun b hb => (hbr b).trans (setBr_brReg_of_ne hb),
      ?_, ?_, ?_, ?_, ?_, kept State.cfm fun _ => rfl, kept State.dahr fun _ => rfl, kept State.dahs fun _ => rfl,
      kept State.pr fun _ => rfl, kept State.fr fun _ => rfl, kept State.grStacked fun _ => rfl,
      fun a => kept (State.byteAt · a) fun _ => rfl, hsettled⟩
    · rw [hpfs, savedPfs_pfm]
    · rw [hpfs, savedPfs_pec]
    · rw [hpfs, savedPfs_ppl]
    · rw [hpfs, savedPfs_rest s (by decide)]
    · rw [hpfs, savedPfs_rest s (by decide)]
  refine ⟨called_of_reaches ?_, called_of_reaches ?_, fun hstop => called_of_reaches ?_⟩
  · rw [relTarget_eq]
    exact reaches_of_taken hs rfl (congrArg (finish s) (if_pos hq))
  · exact reaches_of_taken hs rfl (congrArg (finish s) (if_pos hq))
  · have hlong := reaches_of_longBranch (i := .brlCallX4 qp b1 d wh p disp60) (u := s.call b1) hs hs hstop rfl
    rwa [if_pos hq, if_pos hq, target64_eq] at hlong

end Sys2Proof.Machine
end

section
/-! ### Returns -/
namespace Sys2Proof.Machine

/-! #### The frame that a return restores (R139, R558, R566) -/

section
variable {s t : State} {c : Cfm} {n : Nat}

theorem makeRoom_eq (s : State) (n : Nat) : s.makeRoom n = { s with rse := (s.makeRoom n).rse } := by
  unfold State.makeRoom
  split <;> rfl

theorem makeRoom_bof (s : State) (n : Nat) : (s.makeRoom n).rse.bof = s.rse.bof := by
  unfold State.makeRoom
  split <;> rfl

theorem enableFrameLoad_eq (s : State) : s.enableFrameLoad = { s with rse := s.enableFrameLoad.rse } := by
  unfold State.enableFrameLoad
  split <;> rfl

theorem enableFrameLoad_bof (s : State) : s.enableFrameLoad.rse.bof = s.rse.bof := by
  unfold State.enableFrameLoad
  split <;> rfl

/-- Of the application registers a return moves those of the register stack engine. -/
theorem returnFrame_eq (s : State) (c : Cfm) (n : Nat) : ∃ g store rnat rse alat, s.returnFrame c n = { s with
    cfm := if s.restoreFatal n c.sof.toNat then Cfm.empty else c
    grStacked := g
    ar := { s.ar with bsp := bsShrink s.ar.bsp n, bspstore := store, rnat := rnat }
    rse := rse
    alat := alat } := by
  unfold State.returnFrame
  dsimp only
  rw [enableFrameLoad_eq]
  split
  · exact ⟨_, _, _, _, _, rfl⟩
  · rw [makeRoom_eq]
    exact ⟨_, _, _, _, _, rfl⟩

theorem undefineRegs_self (s : State) {a b : Nat} (h : b ≤ a) : s.undefineRegs a b = s := by
  have hg : (s.undefineRegs a b).grStacked = s.grStacked := by
    refine Vector.ext fun i hi => ?_
    rw [State.undefineRegs, Vector.getElem_ofFn]
    exact if_neg (by omega)
  calc s.undefineRegs a b = { s with grStacked := (s.undefineRegs a b).grStacked } := rfl
    _ = s := by rw [hg]

/-- A frame that fits, of no more registers than come back and were there, is made of registers as they are. -/
theorem returnFrame_of_fits (hf : s.restoreFatal n c.sof.toNat = false) (hn : c.sof.toNat ≤ n + s.cfm.sof.toNat) :
    (s.returnFrame c n).grStacked = s.grStacked ∧
      (s.returnFrame c n).rse.bof =
        Fin.ofNat Config.nStackPhys (s.rse.bof.val + Config.nStackPhys - n % Config.nStackPhys) := by
  unfold State.returnFrame
  dsimp only
  rw [hf, if_neg Bool.false_ne_true, undefineRegs_self _ hn]
  refine ⟨?_, ?_⟩
  · rw [State.enableFrameLoad_grStacked, State.alatPrune_grStacked, State.makeRoom_grStacked]
    rfl
  · rw [enableFrameLoad_bof, State.alatPrune_rse, makeRoom_bof]
    rfl

/-! #### The privilege level and the rest of the state (R558) -/

/-- A return lowers the privilege level where PFS says so, and never raises it. -/
def State.returnPsr (s : State) : Word :=
  if s.cpl < fld s.ar.pfs 62 2 then setFld s.psr 32 (fld s.ar.pfs 62 2 : BitVec 2) else s.psr

theorem returned_eq (s : State) : s.returned = { s.returnFrame (Cfm.ofBits (fld s.ar.pfs 0 38))
      (Cfm.ofBits (fld s.ar.pfs 0 38)).sol.toNat with
    ar := { (s.returnFrame (Cfm.ofBits (fld s.ar.pfs 0 38)) (Cfm.ofBits (fld s.ar.pfs 0 38)).sol.toNat).ar with
      ec := fld s.ar.pfs 52 6 }
    psr := s.returnPsr
    dahr := s.dahrPop.dahr
    dahs := s.dahrPop.dahs } := by
  obtain ⟨g, store, rnat, rse, alat, h⟩ :=
    returnFrame_eq s (Cfm.ofBits (fld s.ar.pfs 0 38)) (Cfm.ofBits (fld s.ar.pfs 0 38)).sol.toNat
  unfold State.returned State.returnPsr
  dsimp only
  rw [h]
  split <;> rfl

theorem returnPsr_bit (s : State) {k : Nat} (hk : k < 32 ∨ 34 ≤ k) : bit s.returnPsr k = s.psrBit k := by
  unfold State.returnPsr
  split
  · rw [bit_setFld _ _ _ _ (by decide), if_neg (by omega)]
    rfl
  · rfl

theorem returnPsr_cpl (s : State) : (fld s.returnPsr 32 2 : BitVec 2) =
    if s.cpl < fld s.ar.pfs 62 2 then fld s.ar.pfs 62 2 else s.cpl := by
  unfold State.returnPsr
  split
  · exact fld_setFld _ _ _ (by decide)
  · rfl

theorem returned_psrBit (s : State) {k : Nat} (hk : k < 32 ∨ 34 ≤ k) : s.returned.psrBit k = s.psrBit k := by
  rw [returned_eq]
  exact returnPsr_bit s hk

end

/-- Settles O25: `State.returned` is the frame that PFS names beside EC, the privilege level and the hint registers. -/
theorem returnsRestoreTheFrame : Obligations.ReturnsRestoreTheFrame := by
  intro s qp b2 d wh p hq hs hlp pfm fatal
  have hexec : exec (.brRetB4 qp b2 d wh p) s = finish s (check s.badReturn reservedRegisterField >>= fun _ =>
      taken s.returned (s.targetBr b2) (decide (s.cpl < (fld s.ar.pfs 62 2 : BitVec 2)))) :=
    congrArg (finish s) (if_pos hq)
  have hbad : s.badReturn = (!fatal && !pfm.wf) := rfl
  refine ⟨fun hf hw => traps_of_check (by rw [hbad, hf, hw]; rfl) hexec, fun hfw => ?_⟩
  have hgood : s.badReturn = false := by
    rw [hbad]
    rcases hfw with h | h
    · rw [h]; rfl
    · rw [h, Bool.not_true, Bool.and_false]
  rw [hgood, check_false_bind] at hexec
  have hunt : Untrapped s.returned :=
    ⟨(returned_psrBit s (by decide)).trans hs.1, (returned_psrBit s (by decide)).trans hs.2⟩
  have hlow : (decide (s.cpl < (fld s.ar.pfs 62 2 : BitVec 2)) && s.returned.psrBit Psr.lp) = false := by
    rw [returned_psrBit s (by decide), hlp, Bool.and_false]
  obtain ⟨t, ht, hplace, hsettled⟩ := reaches_of_taken hunt hlow hexec
  obtain ⟨g, store, rnat, rse, alat, hframe⟩ := returnFrame_eq s pfm pfm.sol.toNat
  have hret := returned_eq s
  rw [hframe] at hret
  have kept {α : Type} (f : State → α) (hf : ∀ u : State, f u.settled = f u) : f t = f _ :=
    (read_of_settled f hf hsettled).trans (congrArg f hret)
  have hcpl : t.cpl = (if s.cpl < fld s.ar.pfs 62 2 then fld s.ar.pfs 62 2 else s.cpl) := by
    rw [cpl_of_settled hsettled, hret]
    exact returnPsr_cpl s
  exact ⟨t, ht, hplace, kept (·.ar.ec) fun _ => rfl, hcpl, kept State.cfm fun _ => rfl, kept State.dahr fun _ => rfl,
    kept State.dahs fun _ => rfl, kept State.br fun _ => rfl, kept State.pr fun _ => rfl, kept State.fr fun _ => rfl,
    kept (·.ar.pfs) fun _ => rfl, fun a => kept (State.byteAt · a) fun _ => rfl, hsettled⟩

end Sys2Proof.Machine
end

section
/-! ### A call and the return from it -/
namespace Sys2Proof.Machine

theorem Cfm.ofBits_toBits (c : Cfm) : Cfm.ofBits c.toBits = c := by
  obtain ⟨sof, sol, sor, rrbGr, rrbFr, rrbPr⟩ := c
  simp only [Cfm.ofBits, Cfm.toBits, Cfm.mk.injEq]
  simp only [fld_append, fld_whole, Nat.reduceLeDiff, Nat.reduceAdd, Nat.reduceSub, and_self]

/-- A bundle's address has nothing to clear. -/
theorem Aligned.and_not {a : Word} (h : Aligned a) : a &&& ~~~(15 : Word) = a := by
  apply BitVec.eq_of_getLsbD_eq
  intro k hk
  rw [BitVec.getLsbD_and, BitVec.getLsbD_not]
  by_cases h4 : k < 4
  · have hbit := congrArg (fun v => v.getLsbD k) h
    simp only [getLsbD_fld, h4, decide_true, Bool.true_and, Nat.zero_add] at hbit
    rw [hbit, BitVec.ofNat_eq_ofNat, BitVec.getLsbD_zero, Bool.false_and]
  · have hlow : 15 < 2 ^ k :=
      Nat.lt_of_lt_of_le (m := 2 ^ 4) (by decide) (Nat.pow_le_pow_right (by decide) (by omega))
    have h15 : (15 : Word).getLsbD k = false := by
      rw [BitVec.ofNat_eq_ofNat, BitVec.getLsbD_ofNat, Nat.testBit_lt_two_pow hlow, Bool.and_false]
    rw [h15, Bool.not_false, decide_eq_true hk, Bool.and_true, Bool.and_true]

section
variable {s u : State}

/-- The general registers of the frame, and the static ones, of two states with the same marker, bank and bottom of
frame; where the free values are the same too, every general register. -/
theorem gr_of_same_frame (hcfm : u.cfm = s.cfm) (hbof : u.rse.bof = s.rse.bof)
    (hbn : u.psrBit Psr.bn = s.psrBit Psr.bn) (hstatic : u.grStatic = s.grStatic) (hbank0 : u.grBank0 = s.grBank0)
    (hbank1 : u.grBank1 = s.grBank1) (hstacked : u.grStacked = s.grStacked) {r : BitVec 7}
    (hr : r.toNat < 32 + s.cfm.sof.toNat ∨ u.fresh = s.fresh) : u.gr r = s.gr r := by
  have hloc : u.grLoc r = s.grLoc r := by
    simp only [State.grLoc, hcfm, hbof, hbn]
  have hin : s.grLoc r = .outOfFrame → ¬ r.toNat < 32 + s.cfm.sof.toNat := by
    intro ho hlt
    unfold State.grLoc at ho
    dsimp only at ho
    split at ho
    · cases ho
    · split at ho
      · cases ho
      · split at ho
        · split at ho <;> cases ho
        · rw [if_pos (by omega)] at ho
          cases ho
  unfold State.gr
  rw [hloc, hstatic, hbank0, hbank1, hstacked]
  cases hl : s.grLoc r with
  | outOfFrame => rw [hr.resolve_left (hin hl)]
  | _ => rfl

/-- The frame of the caller of a called frame always fits: its locals are all that comes back. -/
theorem restoreFatal_caller {c : Cfm} (hc : u.cfm.sof = c.sof - c.sol) (hle : c.sol.toNat ≤ c.sof.toNat) :
    u.restoreFatal c.sol.toNat c.sof.toNat = false := by
  have hsof : u.cfm.sof.toNat = c.sof.toNat - c.sol.toNat := by
    rw [hc, BitVec.toNat_sub_of_le (by rw [BitVec.le_def]; exact hle)]
  rw [State.restoreFatal, decide_eq_false_iff_not]
  omega

/-- The bottom of the frame comes down as it went up. -/
theorem bof_down_up (f : Fin Config.nStackPhys) (n : Nat) :
    Fin.ofNat Config.nStackPhys
      ((Fin.ofNat Config.nStackPhys (f.val + n)).val + Config.nStackPhys - n % Config.nStackPhys) = f := by
  apply Fin.ext
  show ((f.val + n) % 96 + 96 - n % 96) % 96 = f.val
  have hf : f.val < 96 := f.isLt
  omega

/-- What comes back from the hint stack after a push (R77). -/
theorem headD_dropLast_push {α : Type} (x d : α) (l : List α) :
    (x :: l).dropLast.headD d = if l.isEmpty then d else x := by
  cases l <;> rfl

end

/-- Settles O26: the link and PFS hold the caller's place and frame, and the frame that comes back is made of the same
physical registers. -/
theorem callThenReturnRestoresCaller : Obligations.CallThenReturnRestoresCaller := by
  intro s b1 d d' wh wh' p p' disp hframe hs hlp hip
  obtain ⟨-, hsol, -⟩ := (Cfm.wf_iff s.cfm).mp hframe
  obtain ⟨t, ht, -, hbr, -, hpfm, hpec, hppl, -, -, htcfm, -, hdahs, -, -, htstacked, htmem, hcalled⟩ :=
    (callsSaveTheFrame s 0 b1 0 d wh 0 p disp 0 rfl hs).1
  have tkept {α : Type} (f : State → α) (hf : ∀ u : State, f u.settled = f u) : f t = f (s.call b1) :=
    read_of_settled f hf hcalled
  have hbit {k : Nat} (hk : (Psr.oneShot ||| 0x0000060000000000).getLsbD k = false) : t.psrBit k = s.psrBit k :=
    psrBit_of_settled hcalled hk
  have hmarker : Cfm.ofBits (fld t.ar.pfs 0 38) = s.cfm := by rw [hpfm, Cfm.ofBits_toBits]
  have hfits : t.restoreFatal s.cfm.sol.toNat s.cfm.sof.toNat = false :=
    restoreFatal_caller (by rw [htcfm]) hsol
  have hsize : s.cfm.sof.toNat ≤ s.cfm.sol.toNat + t.cfm.sof.toNat := by
    rw [htcfm, BitVec.toNat_sub_of_le (by rw [BitVec.le_def]; exact hsol)]
    omega
  obtain ⟨-, hreturn⟩ := returnsRestoreTheFrame t 0 b1 d' wh' p' rfl
    ⟨(hbit rfl).trans hs.1, (hbit rfl).trans hs.2⟩ ((hbit rfl).trans hlp)
  rw [hmarker] at hreturn
  obtain ⟨u, hu, huplace, huec, hucpl, hucfm, hudahr, -, -, -, -, -, humem, hreturned⟩ := hreturn (.inr hframe)
  obtain ⟨hstacked, hbof⟩ := returnFrame_of_fits (s := t) (c := s.cfm) hfits hsize
  have hret := returned_eq t
  rw [hmarker] at hret
  obtain ⟨g, store, rnat, rse, alat, hshape⟩ := returnFrame_eq t s.cfm s.cfm.sol.toNat
  have ukept {α : Type} (f : State → α) (hf : ∀ u : State, f u.settled = f u) : f u = f _ :=
    (read_of_settled f hf hreturned).trans (congrArg f hret)
  rw [hfits, if_neg Bool.false_ne_true] at hucfm
  have hcpl : t.cpl = s.cpl := (cpl_of_settled hcalled).trans rfl
  have hubof : u.rse.bof = s.rse.bof := by
    rw [ukept (·.rse.bof) fun _ => rfl, hbof, tkept (·.rse.bof) fun _ => rfl]
    exact bof_down_up s.rse.bof s.cfm.sol.toNat
  refine ⟨t, u, ht, hu, ?_, hucfm, huec.trans hpec, ?_, hubof, ?_, fun r hr => ?_, fun a => (humem a).trans (htmem a)⟩
  · have hlink : Aligned (s.ip + 16) := Aligned.add hip rfl
    rw [huplace, brTarget_eq, State.targetBr, hbr, hlink.and_not]
  · rw [hucpl, hppl, hcpl, ite_self]
  · rw [hudahr, hdahs, headD_dropLast_push]
  · refine gr_of_same_frame hucfm hubof ?_ ?_ ?_ ?_ ?_ (.inl hr)
    · exact (psrBit_of_settled hreturned rfl).trans ((returned_psrBit t (by decide)).trans (hbit rfl))
    · rw [ukept State.grStatic fun _ => rfl, hshape]; exact tkept State.grStatic fun _ => rfl
    · rw [ukept State.grBank0 fun _ => rfl, hshape]; exact tkept State.grBank0 fun _ => rfl
    · rw [ukept State.grBank1 fun _ => rfl, hshape]; exact tkept State.grBank1 fun _ => rfl
    · rw [ukept State.grStacked fun _ => rfl, hstacked, htstacked]

end Sys2Proof.Machine
end

section
/-! ### Loop branches -/
namespace Sys2Proof.Machine

section
variable {i : Instr} {s u : State} {c : Bool}

/-- Writing a predicate and the application registers are of no concern to each other. -/
theorem setPr_withAr (s : State) (a : AppRegs) (p : BitVec 6) (b : Bool) :
    ({ s with ar := a } : State).setPr p b = { s.setPr p b with ar := a } := by
  unfold State.setPr
  split <;> rfl

/-- `br.ctop` and `br.cexit` with LC 0, `br.wtop` and `br.wexit` with PR[qp] 0: EC counts down (R553, R554). -/
def State.drained (s : State) : State :=
  if s.ar.ec = 0 then s.setPr 63 false
  else { s.setPr 63 false with ar := { s.ar with ec := s.ar.ec - 1 }, cfm := (s.setPr 63 false).cfm.rotate }

theorem countedLoop_eq (s : State) : s.countedLoop = if s.ar.lc = 0 then s.drained
    else { s.setPr 63 true with ar := { s.ar with lc := s.ar.lc - 1 }, cfm := (s.setPr 63 true).cfm.rotate } := by
  unfold State.countedLoop State.drained
  rw [setPr_withAr, setPr_withAr, ite_not, ite_not]
  rfl

theorem whileLoop_eq (s : State) (qp : BitVec 6) : s.whileLoop qp = if s.prBit qp then (s.setPr 63 false).rotate
    else s.drained := by
  unfold State.whileLoop State.drained
  rw [setPr_withAr, ite_not]
  rfl

theorem drained_psr_ip (s : State) : s.drained.psr = s.psr ∧ s.drained.ip = s.ip := by
  unfold State.drained
  split
  · exact ⟨State.setPr_psr .., State.setPr_ip ..⟩
  · exact ⟨State.setPr_psr .., State.setPr_ip ..⟩

theorem countedLoop_psr_ip (s : State) : s.countedLoop.psr = s.psr ∧ s.countedLoop.ip = s.ip := by
  rw [countedLoop_eq]
  split
  · exact drained_psr_ip s
  · exact ⟨State.setPr_psr .., State.setPr_ip ..⟩

theorem whileLoop_psr_ip (s : State) (qp : BitVec 6) : (s.whileLoop qp).psr = s.psr ∧ (s.whileLoop qp).ip = s.ip := by
  rw [whileLoop_eq]
  split
  · exact ⟨State.setPr_psr .., State.setPr_ip ..⟩
  · exact drained_psr_ip s

theorem bne_eq_decide_ne {n : Nat} (a b : BitVec n) : (a != b) = decide (a ≠ b) := by
  rw [Bool.eq_iff_iff, bne_iff_ne, decide_eq_true_iff]

theorem countedTaken_eq (s : State) : s.countedTaken = decide (s.ar.lc ≠ 0 ∨ 1 < s.ar.ec.toNat) := by
  rw [State.countedTaken, Bool.decide_or, bne_eq_decide_ne]

theorem whileTaken_eq (s : State) (qp : BitVec 6) :
    s.whileTaken qp = decide (s.prBit qp = true ∨ 1 < s.ar.ec.toNat) := by
  rw [State.whileTaken, Bool.decide_or, Bool.decide_eq_true]

theorem checkSlot2_passes {f : Unit → Body} (h : s.ri = 2) : (s.checkSlot2 >>= f) = f () := by
  rw [State.checkSlot2, h]; rfl

theorem traps_of_checkSlot2 {f : Unit → Body} (h : s.ri ≠ 2) (hi : exec i s = finish s (s.checkSlot2 >>= f)) :
    Traps i s illegalOperation :=
  traps_of_check (bne_iff_ne.mpr h) hi

/-- A loop branch in slot 2 is taken by its condition (R555). -/
theorem reaches_of_loop {disp : BitVec 21} (hs : Untrapped s) (hri : s.ri = 2)
    (hu : u.psr = s.psr ∧ u.ip = s.ip)
    (hi : exec i s = finish s (s.checkSlot2 >>= fun _ => branchIf c u (s.target25 disp))) :
    Reaches i s u (if c then relTarget s disp else s.nextPlace) := by
  rw [relTarget_eq]
  exact reaches_of_branchIf hs hu.1 hu.2 (hi.trans (congrArg (finish s) (checkSlot2_passes hri)))

end

/-- Settles O27: outside slot 2 the first check faults; in it each branch has its counting state and its condition. -/
theorem loopBranchesCountAndRotate : Obligations.LoopBranchesCountAndRotate := by
  intro s qp d wh p disp place rotated ended drained counted whiled again more
  have hcounted : s.countedLoop = counted := countedLoop_eq s
  have hwhiled : s.whileLoop qp = whiled := whileLoop_eq s qp
  have hagain : s.countedTaken = again := countedTaken_eq s
  have hmore : s.whileTaken qp = more := whileTaken_eq s qp
  refine ⟨fun hri hs => ?_, fun hri i hi => ?_⟩
  · rw [← hcounted, ← hwhiled, ← hagain, ← hmore]
    refine ⟨?_, reaches_of_loop hs hri (countedLoop_psr_ip s) rfl, reaches_of_loop hs hri (countedLoop_psr_ip s) rfl,
      reaches_of_loop hs hri (whileLoop_psr_ip s qp) rfl, reaches_of_loop hs hri (whileLoop_psr_ip s qp) rfl⟩
    rw [← bne_eq_decide_ne]
    exact reaches_of_loop hs hri ⟨rfl, rfl⟩ rfl
  · simp only [List.mem_cons, List.not_mem_nil, or_false] at hi
    obtain rfl | rfl | rfl | rfl | rfl := hi
    all_goals exact traps_of_checkSlot2 hri rfl

end Sys2Proof.Machine
end

section
/-! ### Frames, banks, levels, and the virtual machine bit -/
namespace Sys2Proof.Machine

section
variable {i : Instr} {s u : State} {b : Bool}

/-- PSR of a completed instruction differs from the one before in no bit that its completion looks at. -/
theorem completes_of_psr {w : Word} (hss : s.psrBit Psr.ss = false)
    (hw : ∀ k, k = 40 ∨ k = 41 ∨ k = 42 → bit w k = s.psrBit k)
    (hi : exec i s = finish s (done { s with psr := w })) : Completes i s { s with psr := w } :=
  completes_of_exec hss (hw _ (.inl rfl)) (fld_congr fun k h1 h2 => hw k (by omega)) rfl hi

theorem completes_setPsrBit {k : Nat} (hk : k < 40 ∨ 42 < k ∧ k < 64) (hss : s.psrBit Psr.ss = false)
    (hi : exec i s = finish s (done (s.setPsrBit k b))) : Completes i s { s with psr := setBit s.psr k b } := by
  refine completes_of_psr hss (fun j hj => ?_) hi
  rw [bit_setBit _ _ _ _ (by omega), if_neg (by omega)]
  rfl

theorem completes_setCpl {v : BitVec 2} (hss : s.psrBit Psr.ss = false)
    (hi : exec i s = finish s (done (s.setCpl v))) : Completes i s { s with psr := setFld s.psr 32 v } := by
  refine completes_of_psr hss (fun j hj => ?_) hi
  rw [bit_setFld _ _ _ _ (by decide), if_neg (by omega)]
  rfl

/-! #### `cover` (R564) -/

/-- CR[IFS] after `cover`: CFM with the valid bit, where interruption collection is off. -/
def State.coverIfs (s : State) : Word :=
  if s.psrBit Psr.ic then s.cr.ifs else setBit (setFld s.cr.ifs 0 s.cfm.toBits) 63 true

/-- What `cover` leaves: an empty frame above the old one. -/
def State.covered (s : State) : State :=
  { s.leaveFrame s.cfm.sof.toNat Cfm.empty with cr := { s.cr with ifs := s.coverIfs } }

theorem cover_eq (hstop : s.followedByStop = true) (hvm : (s.psrBit Psr.vm && !s.psrBit Psr.ic) = false) :
    exec .coverB8 s = finish s (done s.covered) := by
  have hic : (if s.psrBit Psr.ic then s.leaveFrame s.cfm.sof.toNat Cfm.empty
      else { s.leaveFrame s.cfm.sof.toNat Cfm.empty with
        cr := { (s.leaveFrame s.cfm.sof.toNat Cfm.empty).cr with
          ifs := setBit (setFld (s.leaveFrame s.cfm.sof.toNat Cfm.empty).cr.ifs 0 s.cfm.toBits) 63 true } }) =
      s.covered := by
    unfold State.covered State.coverIfs
    split <;> rfl
  show finish s (s.checkLast >>= fun _ => check _ virtualizationFault >>= fun _ => done _) = _
  rw [checkLast_passes hstop, hvm, check_false_bind, hic]

theorem covered_gr_static {r : BitVec 7} (hr : r.toNat < 32) : s.covered.gr r = s.gr r := by
  have hl : s.covered.grLoc r = s.grLoc r := by
    unfold State.grLoc
    dsimp only
    rw [if_pos hr, if_pos hr]
    rfl
  rw [State.gr, State.gr, hl]
  rfl

/-! #### `bsw`, `vmsw`, `epc` (R567, R568, R569) -/

theorem bankSwitch_eq (hstop : s.followedByStop = true) (hcpl : s.cpl = 0) :
    bankSwitch b s =
      finish s (check (s.psrBit Psr.vm) virtualizationFault >>= fun _ => done (s.setPsrBit Psr.bn b)) := by
  show finish s (s.checkLast >>= fun _ => check (s.cpl != 0) _ >>= fun _ => _) = _
  rw [checkLast_passes hstop, hcpl, bne_self_eq_false, check_false_bind]

theorem vmSwitch_eq (hcpl : s.cpl = 0) :
    vmSwitch b s = finish s (check (!s.vmswAllowed) virtualizationFault >>= fun _ => done (s.setPsrBit Psr.vm b)) := by
  show finish s (check (s.cpl != 0) _ >>= fun _ => _) = _
  rw [hcpl, bne_self_eq_false, check_false_bind]

theorem epc_eq (h : ¬ (fld s.ar.pfs 62 2 : BitVec 2) < s.cpl) : exec .epcB8 s = finish s (done s.promoted) := by
  show finish s (check (decide ((fld s.ar.pfs 62 2 : BitVec 2) < s.cpl)) _ >>= fun _ => _) = _
  rw [decide_eq_false h, check_false_bind]

theorem vdcBit_eq_false_iff (k : Fin 64) :
    s.vdcBit k = false ↔ ∀ run, s.pal.vpRun = some run → run.vdc.getLsbD k.val = false := by
  rw [State.vdcBit, ← Bool.not_eq_true, Option.any_eq_true]
  simp only [not_exists, not_and, Bool.not_eq_true, bit_eq]

theorem vmswAllowed_iff (s : State) : s.vmswAllowed = true ↔ s.pal.features.getLsbD 40 = true ∧
    s.pal.features.getLsbD 54 = true ∧
    (∀ run, s.pal.vpRun = some run → run.vdc.getLsbD Config.dVmswBit.val = false) ∧ s.psrBit Psr.it = true ∧
    ∃ e, some e ∈ s.itr.toList ∧ e.ar = 7 ∧ Maps s s.ip e := by
  have hpage : (s.itr.toList.any fun o => o.any fun e => e.ar == 7 && e.matches (rrRid (s.region s.ip)) s.ip) = true ↔
      ∃ e, some e ∈ s.itr.toList ∧ e.ar = 7 ∧ Maps s s.ip e := by
    simp only [List.any_eq_true, Option.any_eq_true, Bool.and_eq_true, beq_iff_eq, matches_iff_maps]
    constructor
    · rintro ⟨o, ho, e, rfl, h⟩
      exact ⟨e, ho, h⟩
    · rintro ⟨e, he, h⟩
      exact ⟨some e, he, e, rfl, h⟩
  rw [State.vmswAllowed, Bool.and_eq_true, Bool.and_eq_true, Bool.and_eq_true, Bool.and_eq_true, Bool.and_eq_true,
    Bool.not_eq_true', vdcBit_eq_false_iff, hpage]
  simp only [Config.implVm, bit_eq]
  tauto

theorem promotion_eq_some_iff (s : State) (e : TlbEntry) :
    s.promotion = some e ↔ s.findInst s.ip = some e ∧ e.ar = 7 := by
  rw [State.promotion, Option.filter_eq_some_iff, beq_iff_eq]

end

/-- Settles O29: each instruction is its checks, in the order of its rule, and then one update of the state. -/
theorem frameAndBankInstructions : Obligations.FrameAndBankInstructions := by
  refine ⟨fun s hstop hvm => ⟨fun hic => ?_, fun hcpl => ?_⟩, fun s hcpl hv i hi => ?_,
    fun s => ⟨vmswAllowed_iff s, promotion_eq_some_iff s⟩, fun s hss => ⟨fun hstop => ⟨fun hvm => ?_, ?_, ?_, ?_⟩,
      fun hstop i hi => ?_, fun hppl => ⟨fun hit => ?_, fun hit => ?_⟩, fun hppl => ?_, fun hcpl hv => ?_, ?_⟩⟩
  · exact traps_of_check (by rw [hvm, hic]; rfl) (congrArg (finish s) (checkLast_passes hstop))
  · exact ⟨traps_of_check hvm (bankSwitch_eq hstop hcpl), traps_of_check hvm (bankSwitch_eq hstop hcpl)⟩
  · simp only [List.mem_cons, List.not_mem_nil, or_false] at hi
    obtain rfl | rfl := hi
    all_goals exact traps_of_check (by rw [hv, Bool.not_false]) (vmSwitch_eq hcpl)
  · obtain ⟨t, ht, hplace, hsettled⟩ :=
      completes_of_exec (u := s.covered) hss rfl rfl rfl (cover_eq hstop hvm)
    have kept {α : Type} (f : State → α) (hf : ∀ u : State, f u.settled = f u) : f t = f s.covered :=
      read_of_settled f hf hsettled
    have hifs : t.cr.ifs = s.coverIfs := kept (·.cr.ifs) fun _ => rfl
    refine ⟨t, ht, hplace, kept State.cfm fun _ => rfl, kept State.grStacked fun _ => rfl, kept (·.ar.bsp) fun _ => rfl,
      kept (·.rse.bof) fun _ => rfl, hifs, fun r hr => ?_, fun a => kept (State.byteAt · a) fun _ => rfl, ?_⟩
    · exact (gr_of_settled hsettled r).trans (covered_gr_static hr)
    · rw [hifs]
      exact hsettled
  · exact completes_of_exec hss rfl rfl rfl (congrArg (finish s) (checkLast_passes hstop))
  · exact completes_of_exec hss rfl rfl rfl (congrArg (finish s) (checkLast_passes hstop))
  · intro hcpl hvm
    have hbank (b : Bool) : bankSwitch b s = finish s (done (s.setPsrBit Psr.bn b)) := by
      rw [bankSwitch_eq hstop hcpl, hvm, check_false_bind]
    exact ⟨completes_setPsrBit (by decide) hss (hbank false), completes_setPsrBit (by decide) hss (hbank true)⟩
  · simp only [List.mem_cons, List.not_mem_nil, or_false] at hi
    obtain rfl | rfl | rfl | rfl | rfl := hi
    all_goals exact traps_of_checkLast hstop rfl
  · have hpromoted : s.promoted = s.setCpl 0 := by rw [State.promoted, hit, if_neg Bool.false_ne_true]
    exact completes_setCpl hss ((epc_eq hppl).trans (by rw [hpromoted]))
  · have hexec := epc_eq hppl
    rw [State.promoted, if_pos hit] at hexec
    cases hp : s.promotion with
    | none =>
      rw [hp] at hexec
      exact completes_of_exec hss rfl rfl rfl hexec
    | some e =>
      rw [hp] at hexec
      dsimp only at hexec ⊢
      split
      · next hlt =>
        rw [if_pos hlt] at hexec
        exact completes_setCpl hss hexec
      · next hge =>
        rw [if_neg hge] at hexec
        exact completes_of_exec hss rfl rfl rfl hexec
  · exact traps_of_check (decide_eq_true hppl) rfl
  · have hswitch (b : Bool) : vmSwitch b s = finish s (done (s.setPsrBit Psr.vm b)) := by
      rw [vmSwitch_eq hcpl, hv, Bool.not_true, check_false_bind]
    exact ⟨completes_setPsrBit (by decide) hss (hswitch false), completes_setPsrBit (by decide) hss (hswitch true)⟩
  · intro b2 ih p wh v disp tag i hi
    simp only [List.mem_cons, List.not_mem_nil, or_false] at hi
    obtain rfl | rfl | rfl := hi
    all_goals exact completes_of_exec hss rfl rfl rfl rfl

end Sys2Proof.Machine
end

section
/-! ### The switch to the IA-32 instruction set -/
namespace Sys2Proof.Machine

section
variable {s : State} {qp : BitVec 6} {b2 : BitVec 3} {d : BitVec 1} {wh : BitVec 2} {p : BitVec 1}

/-- The mode in which `br.ia` is defined (R556). -/
def State.ia32Mode (s : State) : Bool := s.psrBit Psr.ic && s.psrBit Psr.dt && !s.psrBit Psr.mc && s.psrBit Psr.it

theorem ia32Mode_iff (s : State) : s.ia32Mode = true ↔
    s.psrBit Psr.ic = true ∧ s.psrBit Psr.dt = true ∧ s.psrBit Psr.it = true ∧ s.psrBit Psr.mc = false := by
  simp only [State.ia32Mode, Bool.and_eq_true, Bool.not_eq_true', and_assoc, and_comm (a := s.psrBit Psr.mc = false)]

theorem brIa_eq : exec (.brIaB4 qp b2 d wh p) s = finish s (stuckIf (!s.ia32Mode) .undefinedBehavior >>= fun _ =>
    check (qp != 0 || s.ar.bspstore != s.ar.bsp) illegalOperation >>= fun _ =>
    check (s.psrBit Psr.di) disabledIsTransition >>= fun _ => taken s.enterIa32 (s.ia32Target b2)) := by
  have hmode : (!s.ia32Mode) = (!s.psrBit Psr.ic || !s.psrBit Psr.dt || s.psrBit Psr.mc || !s.psrBit Psr.it) := by
    rw [State.ia32Mode, Bool.not_and, Bool.not_and, Bool.not_and, Bool.not_not]
  rw [← check_bind_check, hmode]
  rfl

theorem brIa_of_mode (h : s.ia32Mode = true) : exec (.brIaB4 qp b2 d wh p) s =
    finish s (check (qp != 0 || s.ar.bspstore != s.ar.bsp) illegalOperation >>= fun _ =>
      check (s.psrBit Psr.di) disabledIsTransition >>= fun _ => taken s.enterIa32 (s.ia32Target b2)) := by
  rw [brIa_eq, h, Bool.not_true, stuckIf_false_bind]

theorem brIa_of_flushed (h : s.ia32Mode = true) (hq : qp = 0) (hf : s.ar.bspstore = s.ar.bsp) :
    exec (.brIaB4 qp b2 d wh p) s =
      finish s (check (s.psrBit Psr.di) disabledIsTransition >>= fun _ => taken s.enterIa32 (s.ia32Target b2)) := by
  rw [brIa_of_mode h, hq, hf, bne_self_eq_false, bne_self_eq_false, Bool.or_false, check_false_bind]

theorem enterIa32_psrBit {k : Nat} (hk : k ≠ Psr.is) : s.enterIa32.psrBit k = s.psrBit k := by
  rw [State.psrBit, State.enterIa32, State.setPsrBit_psr, bit_setBit _ _ _ _ (by decide), if_neg hk]
  rfl

/-- With nothing dirty the store pointer is where it is to be. -/
theorem enterIa32_eq (hf : s.ar.bspstore = s.ar.bsp) : s.enterIa32 = { s with
    cfm := Cfm.empty
    psr := setBit s.psr 34 true
    rse := { s.rse with
      bspLoad := s.ar.bspstore
      dispersal := if collectionOf (s.rse.bspLoad - 8) = collectionOf s.ar.bspstore then s.rse.dispersal
        else s.ar.rnat } } := by
  have har : ({ s.ar with bspstore := s.ar.bsp } : AppRegs) = s.ar := by rw [← hf]
  have hrse : s.enterIa32.rse = { s.rse with
      bspLoad := s.ar.bspstore
      dispersal := if collectionOf (s.rse.bspLoad - 8) = collectionOf s.ar.bspstore then s.rse.dispersal
        else s.ar.rnat } := by
    rw [hf]
    simp only [← beq_iff_eq (a := collectionOf _)]
    rfl
  calc s.enterIa32 = { s with
        cfm := Cfm.empty, psr := setBit s.psr 34 true, ar := { s.ar with bspstore := s.ar.bsp }
        rse := s.enterIa32.rse } := rfl
    _ = _ := by rw [har, hrse]

theorem ia32Target_of_untrapped (hs : Untrapped s) :
    s.ia32Target b2 = ((s.brReg b2).truncate 32).zeroExtend 64 := by
  rw [State.ia32Target, hs.1, hs.2, Bool.or_false, if_neg Bool.false_ne_true]
  apply BitVec.eq_of_getLsbD_eq
  intro k hk
  simp [getLsbD_fld]

end

/-- Settles O30: the checks of R556 in their order, and the state that `State.enterIa32` makes of one with nothing
dirty. -/
theorem branchToIa32 : Obligations.BranchToIa32 := by
  intro s qp b2 d wh p mode
  have hmode : s.ia32Mode = true ↔ mode := ia32Mode_iff s
  refine ⟨fun hm hq hf hdi hs => ?_, fun hm hne => ?_, fun hm hq hf hdi => ?_, fun hm => ?_⟩
  · have hexec := brIa_of_flushed (b2 := b2) (d := d) (wh := wh) (p := p) (hmode.mpr hm) hq hf
    rw [hdi, check_false_bind] at hexec
    have hunt : Untrapped s.enterIa32 :=
      ⟨(enterIa32_psrBit (by decide)).trans hs.1, (enterIa32_psrBit (by decide)).trans hs.2⟩
    obtain ⟨t, ht, hplace, hsettled⟩ := reaches_of_taken hunt rfl hexec
    refine ⟨t, ht, ?_, ?_, read_of_settled State.cfm (fun _ => rfl) hsettled, ?_⟩
    · rw [hplace, ia32Target_of_untrapped hs]
    · rw [psrBit_of_settled hsettled rfl]
      exact (bit_setBit _ _ _ _ (by decide)).trans (if_pos rfl)
    · rw [hsettled, enterIa32_eq hf]
  · refine traps_of_check ?_ (brIa_of_mode (hmode.mpr hm))
    rwa [Bool.or_eq_true, bne_iff_ne, bne_iff_ne]
  · exact traps_of_check hdi (brIa_of_flushed (hmode.mpr hm) hq hf)
  · rw [brIa_eq, Bool.eq_false_of_not_eq_true (mt hmode.mp hm)]
    rfl

end Sys2Proof.Machine
end

section
/-! ### The return from an interruption -/
namespace Sys2Proof.Machine

section
variable {s : State}

/-! #### What `rfi` does to the state (R566, R1126) -/

theorem restorePsr_eq (s : State) : ∃ dahs, s.restorePsr = { s with
    psr := s.cr.ipsr
    dahr := if s.cr.ipsr.getLsbD Psr.ic then s.dahs.headD dahrDefaults else s.dahr
    dahs := dahs } := by
  unfold State.restorePsr
  dsimp only
  split
  next hic =>
    rw [bit_eq] at hic
    rw [if_pos hic]
    exact ⟨_, rfl⟩
  next hic =>
    rw [bit_eq] at hic
    rw [if_neg hic]
    exact ⟨_, rfl⟩

/-- The frame of IFS always fits: all of it comes back from below. -/
theorem restoreFatal_self (s : State) (n : Nat) : s.restoreFatal n n = false := by
  rw [State.restoreFatal, decide_eq_false_iff_not]
  omega

/-- Beside what `State.restorePsr` does, the return moves the frame. -/
theorem interruptReturn_eq (s : State) : ∃ c g ar rse alat, s.interruptReturn =
    { s.restorePsr with cfm := c, grStacked := g, ar := ar, rse := rse, alat := alat } := by
  unfold State.interruptReturn
  dsimp only
  split
  · obtain ⟨g, store, rnat, rse, alat, hframe⟩ :=
      returnFrame_eq s.restorePsr (Cfm.ofBits (fld s.cr.ifs 0 38)) (Cfm.ofBits (fld s.cr.ifs 0 38)).sof.toNat
    exact ⟨_, _, _, _, _, hframe⟩
  · exact ⟨_, _, _, _, _, enableFrameLoad_eq _⟩

/-- A valid IFS gives the frame. -/
theorem interruptReturn_of_valid (h : s.cr.ifs.getLsbD 63 = true) :
    s.interruptReturn.cfm = Cfm.ofBits (fld s.cr.ifs 0 38) ∧
      s.interruptReturn.ar.bsp = bsShrink s.ar.bsp (Cfm.ofBits (fld s.cr.ifs 0 38)).sof.toNat := by
  have hreturn : s.interruptReturn = s.restorePsr.returnFrame (Cfm.ofBits (fld s.cr.ifs 0 38))
      (Cfm.ofBits (fld s.cr.ifs 0 38)).sof.toNat := if_pos h
  obtain ⟨g, store, rnat, rse, alat, hframe⟩ :=
    returnFrame_eq s.restorePsr (Cfm.ofBits (fld s.cr.ifs 0 38)) (Cfm.ofBits (fld s.cr.ifs 0 38)).sof.toNat
  rw [restoreFatal_self, if_neg Bool.false_ne_true, State.restorePsr_ar] at hframe
  rw [hreturn, hframe]
  exact ⟨rfl, rfl⟩

/-- Without a valid IFS the frame is that of the handler. -/
theorem interruptReturn_of_invalid (h : s.cr.ifs.getLsbD 63 = false) :
    s.interruptReturn.cfm = s.cfm ∧ s.interruptReturn.ar = s.ar ∧ s.interruptReturn.grStacked = s.grStacked ∧
      s.interruptReturn.rse.bof = s.rse.bof := by
  have hreturn : s.interruptReturn = s.restorePsr.enableFrameLoad :=
    if_neg (by rw [bit_eq, h]; exact Bool.false_ne_true)
  rw [hreturn, enableFrameLoad_bof]
  simp

/-! #### Completion of `rfi` (R1140) -/

/-- The completion of `rfi` moves IP, and beside it what `settled` does not see. -/
theorem retire_returned (u : State) (a : Word) : ∃ last p pmc pmd irr, retire { st := u, flow := .returned a } =
    { u with
      ip := a, lastIp := last, midGroup := false, progress := p, pmc := pmc, pmd := pmd
      cr := { u.cr with irr := irr } } :=
  ⟨_, _, _, _, _, rfl⟩

theorem takeTraps_due {code : BitVec 16} (h : code ≠ 0) (slot : BitVec 2) (t : State) :
    takeTraps code slot t = deliver { kind := .trap, vector := trapVector code, code := code, ei := some slot } t := by
  rw [takeTraps, trapsUnimplemented_eq, if_neg Bool.false_ne_true, if_neg h]

/-- An `rfi` executed with PSR.ss = 1 takes the Single Step trap at the state it returns to. -/
theorem retire_stepped (u : State) (a : Word) (k : BitVec 2) :
    retire { st := u, flow := .returned a, stepped := some k } =
      deliver { kind := .trap, vector := .singleStep, code := 8, ei := some k }
        (retire { st := u, flow := .returned a }) := by
  have htraps : retire { st := u, flow := .returned a, stepped := some k } =
      takeTraps 8 k (retire { st := u, flow := .returned a }) := rfl
  have hvector : trapVector 8 = .singleStep := by decide
  rw [htraps, takeTraps_due (by decide), hvector]

/-- The address to which `rfi` returns: that of a bundle, or of an IA-32 instruction (R59, R566). -/
def State.rfiTarget (s : State) : Word :=
  if s.cr.ipsr.getLsbD 34 then s.cr.iip &&& 0xFFFFFFFF else s.cr.iip &&& ~~~(15 : Word)

theorem rfiTarget_eq (s : State) : (if bit s.cr.ipsr Psr.is then zx (fld s.cr.iip 0 32 : BitVec 32)
    else s.cr.iip &&& ~~~(15 : Word)) = s.rfiTarget := by
  have hlow : zx (fld s.cr.iip 0 32 : BitVec 32) = s.cr.iip &&& 0xFFFFFFFF := by
    apply BitVec.eq_of_getLsbD_eq
    intro k hk
    rw [BitVec.getLsbD_and, show (0xFFFFFFFF : Word) = BitVec.ofNat 64 (2 ^ 32 - 1) from rfl, BitVec.getLsbD_ofNat,
      Nat.testBit_two_pow_sub_one]
    simp [getLsbD_fld, hk, Bool.and_comm]
  rw [hlow]
  rfl

/-! #### The faults of `rfi`, in their order (R566, R1133, log entries 25 and 39) -/

/-- PSR.ri or IPSR.ri is no slot. -/
def State.badSlots (s : State) : Bool := s.ri == 3 || (fld s.cr.ipsr 41 2 : BitVec 2) == 3

/-- IFS is valid and holds a frame marker that no frame can have. -/
def State.badIfs (s : State) : Bool := bit s.cr.ifs 63 && !(Cfm.ofBits (fld s.cr.ifs 0 38)).wf

/-- What a completed `rfi` has done. -/
def State.rfiDone (s : State) : Done :=
  { st := s.interruptReturn, flow := .returned s.rfiTarget, stepped := if s.psrBit Psr.ss then some s.ri else none }

theorem rfi_undefined (h : s.followedByStop = false) : exec .rfiB8 s = .fault .undefinedBehavior := by
  show finish s (stuckIf (!s.followedByStop) _ >>= fun _ => _) = _
  rw [h]
  rfl

theorem rfi_eq (h : s.followedByStop = true) : exec .rfiB8 s = finish s (
    check (s.cpl != 0) (privilegedOperation {}) >>= fun _ =>
    check (s.psrBit Psr.vm) virtualizationFault >>= fun _ =>
    check (s.badSlots || s.badIfs) reservedRegisterField >>= fun _ => .ok s.rfiDone) := by
  rw [← check_bind_check, State.rfiDone, ← rfiTarget_eq]
  show finish s (stuckIf (!s.followedByStop) _ >>= fun _ => _) = _
  rw [h]
  rfl

theorem rfi_permitted (h : s.followedByStop = true) (hcpl : s.cpl = 0) (hvm : s.psrBit Psr.vm = false) :
    exec .rfiB8 s =
      finish s (check (s.badSlots || s.badIfs) reservedRegisterField >>= fun _ => .ok s.rfiDone) := by
  rw [rfi_eq h, hcpl, hvm, bne_self_eq_false, check_false_bind, check_false_bind]

theorem badSlots_eq_false_iff (s : State) :
    s.badSlots = false ↔ s.ri ≠ 3 ∧ (fld s.cr.ipsr 41 2 : BitVec 2) ≠ 3 := by
  rw [State.badSlots, Bool.or_eq_false_iff, beq_eq_false_iff_ne, beq_eq_false_iff_ne]

theorem badIfs_eq_false_iff (s : State) :
    s.badIfs = false ↔ (s.cr.ifs.getLsbD 63 = true → (Cfm.ofBits (fld s.cr.ifs 0 38)).wf = true) := by
  rw [State.badIfs, bit_eq]
  cases s.cr.ifs.getLsbD 63 <;> simp

theorem rfi_completes (h : s.followedByStop = true) (hcpl : s.cpl = 0) (hvm : s.psrBit Psr.vm = false)
    (hslots : s.badSlots = false) (hifs : s.badIfs = false) : exec .rfiB8 s = .next (retire s.rfiDone) := by
  rw [rfi_permitted h hcpl hvm, hslots, hifs]
  rfl

/-- The state that `rfi` returns to, but for a trap. -/
def State.resumed (s : State) : State := retire { st := s.interruptReturn, flow := .returned s.rfiTarget }

theorem rfiDone_quiet (hss : s.psrBit Psr.ss = false) : retire s.rfiDone = s.resumed := by
  rw [State.rfiDone, hss]
  rfl

theorem rfiDone_stepped (hss : s.psrBit Psr.ss = true) : retire s.rfiDone =
    deliver { kind := .trap, vector := .singleStep, code := 8, ei := some s.ri } s.resumed := by
  rw [State.rfiDone, hss]
  exact retire_stepped _ _ _

/-- What a return takes from CR, IFS apart, and what it leaves as it was. -/
structure State.ResumedFrom (t s : State) : Prop where
  psr : t.psr = s.cr.ipsr
  ip : t.ip = s.rfiTarget
  dahr : t.dahr = if s.cr.ipsr.getLsbD Psr.ic then s.dahs.headD dahrDefaults else s.dahr
  grStatic : t.grStatic = s.grStatic
  grBank0 : t.grBank0 = s.grBank0
  grBank1 : t.grBank1 = s.grBank1
  fr : t.fr = s.fr
  pr : t.pr = s.pr
  br : t.br = s.br
  rr : t.rr = s.rr
  itr : t.itr = s.itr
  dtr : t.dtr = s.dtr
  itc : t.itc = s.itc
  dtc : t.dtc = s.dtc
  mem : t.mem = s.mem
  fresh : t.fresh = s.fresh

theorem resumed_resumedFrom (s : State) : s.resumed.ResumedFrom s := by
  obtain ⟨last, p, pmc, pmd, irr, hretire⟩ := retire_returned s.interruptReturn s.rfiTarget
  obtain ⟨c, g, ar, rse, alat, hframe⟩ := interruptReturn_eq s
  obtain ⟨dahs, hpsr⟩ := restorePsr_eq s
  have hresumed : s.resumed = _ := hretire
  rw [hframe, hpsr] at hresumed
  constructor
  all_goals rw [hresumed]

theorem resumed_frame_of_valid (h : s.cr.ifs.getLsbD 63 = true) : s.resumed.cfm = Cfm.ofBits (fld s.cr.ifs 0 38) ∧
    s.resumed.ar.bsp = bsShrink s.ar.bsp (Cfm.ofBits (fld s.cr.ifs 0 38)).sof.toNat :=
  interruptReturn_of_valid h

theorem resumed_frame_of_invalid (h : s.cr.ifs.getLsbD 63 = false) : s.resumed.cfm = s.cfm ∧ s.resumed.ar = s.ar ∧
    s.resumed.grStacked = s.grStacked ∧ s.resumed.rse.bof = s.rse.bof :=
  interruptReturn_of_invalid h

theorem resumed_cfm (s : State) :
    s.resumed.cfm = if s.cr.ifs.getLsbD 63 then Cfm.ofBits (fld s.cr.ifs 0 38) else s.cfm := by
  split
  next h => exact (resumed_frame_of_valid h).1
  next h => exact (resumed_frame_of_invalid (Bool.eq_false_of_not_eq_true h)).1

theorem resumed_bsp (s : State) : s.resumed.ar.bsp =
    if s.cr.ifs.getLsbD 63 then bsShrink s.ar.bsp (Cfm.ofBits (fld s.cr.ifs 0 38)).sof.toNat else s.ar.bsp := by
  split
  next h => exact (resumed_frame_of_valid h).2
  next h =>
    obtain ⟨-, har, -, -⟩ := resumed_frame_of_invalid (Bool.eq_false_of_not_eq_true h)
    rw [har]

/-! #### The state in which a handler returns (R1120) -/

/-- What delivery keeps no bit of, and takes none of from DCR, is 0 in the handler. -/
theorem entryPsr_bit_of_cleared {k : Nat} (hk : Psr.keptOnEntry.getLsbD k = false) (hbe : k ≠ Psr.be)
    (hpp : k ≠ Psr.pp) : bit s.entryPsr k = false := by
  rw [State.entryPsr, bit_setBit _ _ _ _ (by decide), if_neg hpp, bit_setBit _ _ _ _ (by decide), if_neg hbe, bit_eq,
    BitVec.getLsbD_and, hk, Bool.and_false]

/-- What delivery saves where PSR.ic is 1. -/
theorem enterHandler_saves {x : Interruption} (hic : s.psrBit Psr.ic = true) :
    (enterHandler x s).cr.ipsr = s.psr ∧ (enterHandler x s).cr.iip = s.ip ∧
      (enterHandler x s).cr.ifs.getLsbD 63 = false ∧ (enterHandler x s).dahs = (s.dahr :: s.dahs).dropLast := by
  have hifs : (setBit s.cr.ifs 63 false).getLsbD 63 = false := by rw [getLsbD_setBit _ _ _ _ (by decide), if_pos rfl]
  unfold enterHandler
  dsimp only
  rw [if_pos hic]
  exact ⟨rfl, rfl, hifs, rfl⟩

theorem cpl_eq_zero (h : ∀ k, 32 ≤ k → k < 34 → s.psrBit k = false) : s.cpl = 0 := by
  apply BitVec.eq_of_getLsbD_eq
  intro k hk
  rw [State.cpl, getLsbD_fld, show s.psr.getLsbD (32 + k) = false from h _ (by omega) (by omega), Bool.and_false,
    BitVec.ofNat_eq_ofNat, BitVec.getLsbD_zero]

theorem enterHandler_bof (x : Interruption) (s : State) : (enterHandler x s).rse.bof = s.rse.bof := by
  unfold enterHandler
  dsimp only
  split <;> rfl

/-- The handler of `x`, at slot `k` of bundle `b` at address `a`, having changed nothing else. -/
def State.inHandler (s : State) (x : Interruption) (a : Word) (k : BitVec 2) (b : Bundle) : State :=
  { (enterHandler x s).setRi k with ip := a, curBundle := b }

section
variable {x : Interruption} {a : Word} {k : BitVec 2} {b : Bundle}

theorem inHandler_psrBit {j : Nat} (hj : Psr.keptOnEntry.getLsbD j = false) (hbe : j ≠ Psr.be) (hpp : j ≠ Psr.pp)
    (hslot : ¬ (41 ≤ j ∧ j < 43)) : (s.inHandler x a k b).psrBit j = false := by
  show bit (setFld s.entryPsr 41 k) j = false
  rw [bit_setFld _ _ _ _ (by decide), if_neg hslot, entryPsr_bit_of_cleared hj hbe hpp]

theorem inHandler_cpl : (s.inHandler x a k b).cpl = 0 := cpl_eq_zero fun j h1 h2 => by
  obtain rfl | rfl : j = 32 ∨ j = 33 := by omega
  · exact inHandler_psrBit rfl (by decide) (by decide) (by decide)
  · exact inHandler_psrBit rfl (by decide) (by decide) (by decide)

/-- In the handler of an interruption that was collected, `rfi` completes without a trap. -/
theorem inHandler_rfi (hic : s.psrBit Psr.ic = true) (hri : s.ri ≠ 3) (hk : k ≠ 3)
    (hstop : (s.inHandler x a k b).followedByStop = true) :
    exec .rfiB8 (s.inHandler x a k b) = .next (s.inHandler x a k b).resumed := by
  obtain ⟨hipsr, -, hifs, -⟩ := enterHandler_saves (x := x) hic
  have hslots : (s.inHandler x a k b).badSlots = false := by
    refine (badSlots_eq_false_iff _).mpr ⟨?_, ?_⟩
    · rwa [show (s.inHandler x a k b).ri = k from setRi_ri _ k]
    · rwa [show (s.inHandler x a k b).cr.ipsr = s.psr from hipsr]
  have hvalid : (s.inHandler x a k b).badIfs = false := (badIfs_eq_false_iff _).mpr fun hv => by
    rw [show (s.inHandler x a k b).cr.ifs.getLsbD 63 = false from hifs] at hv
    cases hv
  rw [rfi_completes hstop inHandler_cpl (inHandler_psrBit rfl (by decide) (by decide) (by decide)) hslots hvalid,
    rfiDone_quiet (inHandler_psrBit rfl (by decide) (by decide) (by decide))]

end

theorem prBit_of_same {t : State} (hpr : t.pr = s.pr) (hcfm : t.cfm = s.cfm) (p : BitVec 6) :
    t.prBit p = s.prBit p := by
  simp only [State.prBit, State.prIndex, hpr, hcfm]

theorem fpr_of_same {t : State} (hfr : t.fr = s.fr) (hcfm : t.cfm = s.cfm) (f : BitVec 7) : t.fpr f = s.fpr f := by
  simp only [State.fpr, State.frIndex, hfr, hcfm]

end

/-- Settles O54: the checks of `rfi` in their order; then `State.resumed`, which after a delivery is the interrupted state,
as IPSR, IIP, an invalid IFS and the pushed hint registers are what the delivery saved. -/
theorem rfiReturnsFromInterruption : Obligations.RfiReturnsFromInterruption := by
  refine ⟨fun s hstop hvm => ?_, fun s hstop => rfi_undefined hstop, fun s x at_ k b hic his hip hri hk hx => ?_⟩
  · intro c slots target
    have hslots : s.badSlots = false ↔ slots := badSlots_eq_false_iff s
    have hifs : s.badIfs = false ↔ (s.cr.ifs.getLsbD 63 = true → c.wf = true) := badIfs_eq_false_iff s
    have hfrom := resumed_resumedFrom s
    refine ⟨fun hcpl hbad => ?_, fun hcpl hok hwf hss => ⟨s.resumed, ?_, hfrom.psr, hfrom.ip, resumed_cfm s⟩,
      fun hcpl hok hss hwf => ⟨s.resumed, ?_, hfrom.psr, hfrom.ip, resumed_cfm s, resumed_bsp s, hfrom.dahr,
        fun hv => have ⟨_, _, hstacked, _⟩ := resumed_frame_of_invalid hv; hstacked, hfrom.grStatic, hfrom.grBank0,
        hfrom.grBank1, hfrom.fr, hfrom.pr, hfrom.br, hfrom.rr, hfrom.itr, hfrom.dtr, hfrom.itc, hfrom.dtc, fun a => ?_⟩,
      fun hcpl hok hv hwf => ?_, fun hcpl => ?_⟩
    · refine traps_of_check ?_ (rfi_permitted hstop hcpl hvm)
      rw [Bool.eq_true_of_not_eq_false (mt hslots.mp hbad), Bool.true_or]
    · rw [rfi_completes hstop hcpl hvm (hslots.mpr hok) (hifs.mpr hwf), rfiDone_stepped hss]
    · rw [rfi_completes hstop hcpl hvm (hslots.mpr hok) (hifs.mpr hwf), rfiDone_quiet hss]
    · rw [State.byteAt, hfrom.mem, State.byteAt]
    · refine traps_of_check ?_ (rfi_permitted hstop hcpl hvm)
      have hbad : s.badIfs = true := Bool.eq_true_of_not_eq_false fun h => by
        rw [hifs.mp h hv] at hwf
        cases hwf
      rw [hbad, Bool.or_true]
    · exact traps_of_check (bne_iff_ne.mpr hcpl) (rfi_eq hstop)
  · have hdeliver : deliver x s = enterHandler x s := hx.elim (deliver_eq s) deliver_of_noVp
    obtain ⟨hipsr, hiip, hifs, hdahs⟩ := enterHandler_saves (x := x) hic
    rw [hdeliver]
    intro h hstop
    have hfrom := resumed_resumedFrom h
    obtain ⟨hhandler, har, hstacked, hbof⟩ := resumed_frame_of_invalid (s := h) hifs
    have hpsr : h.resumed.psr = s.psr := hfrom.psr.trans hipsr
    have hcfm : h.resumed.cfm = s.cfm := hhandler.trans (enterHandler_cfm x s)
    refine ⟨h.resumed, inHandler_rfi hic hri hk hstop, hpsr, ?_, hcfm, fun r => ?_,
      fpr_of_same (hfrom.fr.trans (enterHandler_fr x s)) hcfm,
      prBit_of_same (hfrom.pr.trans (enterHandler_pr x s)) hcfm, hfrom.br.trans (enterHandler_br x s),
      har.trans (enterHandler_ar x s), ?_, fun a => ?_⟩
    · have hbundle : Aligned s.ip := by simpa [State.ipOk, his, Aligned] using hip
      have hitanium : s.psr.getLsbD 34 = false := his
      rw [hfrom.ip, State.rfiTarget, show h.cr.ipsr = s.psr from hipsr, show h.cr.iip = s.ip from hiip, hitanium,
        if_neg Bool.false_ne_true, hbundle.and_not]
    · refine gr_of_same_frame hcfm (hbof.trans (enterHandler_bof x s)) ?_
        (hfrom.grStatic.trans (enterHandler_grStatic x s)) (hfrom.grBank0.trans (enterHandler_grBank0 x s))
        (hfrom.grBank1.trans (enterHandler_grBank1 x s)) (hstacked.trans (enterHandler_grStacked x s))
        (.inr (hfrom.fresh.trans (enterHandler_fresh x s)))
      rw [State.psrBit, hpsr, State.psrBit]
    · rw [hfrom.dahr, show h.cr.ipsr = s.psr from hipsr, show h.dahs = _ from hdahs, headD_dropLast_push]
      exact if_pos hic
    · rw [State.byteAt, hfrom.mem, State.byteAt, show h.mem = s.mem from enterHandler_mem x s]

end Sys2Proof.Machine
end

section
/-! ### What a data reference that is made leaves -/
namespace Sys2Proof.Machine

/-! #### The interrupt block stays where it is -/

theorem meetError_interruptBlock (s : State) (i : Injection) :
    (s.meetError i).pal.interruptBlock = s.pal.interruptBlock := by
  obtain ⟨_, _, _, _, h⟩ := State.meetError_eq s i
  rw [h]

theorem placeError_interruptBlock (s : State) (i : Injection) :
    (s.placeError i).pal.interruptBlock = s.pal.interruptBlock := by
  unfold State.placeError
  split
  · exact meetError_interruptBlock s i
  · rfl

theorem meetTrigger_interruptBlock (s : State) (d : Bool) (a : Word) (n : Nat) :
    (s.meetTrigger d a n).pal.interruptBlock = s.pal.interruptBlock := by
  unfold State.meetTrigger
  split
  · rfl
  · split
    · exact placeError_interruptBlock _ _
    · rfl

/-- A data reference leaves the interrupt block where it is. -/
@[simp] theorem touch_blockOffset (s : State) (a : Translation) (pa : Word) :
    (s.touch a).blockOffset pa = s.blockOffset pa := by
  have h : (s.touch a).pal.interruptBlock = s.pal.interruptBlock := by
    rw [State.touch, meetTrigger_interruptBlock, State.keepWalk_pal]
  rw [State.blockOffset, State.blockOffset, h]

/-! #### Bytes stored, ALAT entries kept (R16, R150) -/

/-- Memory with the low eight bytes of `v` at `pa` and those of `w` eight bytes above. -/
def twoWords (m : List Host.Cell) (pa : Word) (be : Bool) (v w : Word) : List Host.Cell :=
  Memory.writeBytes (Memory.writeBytes m (physAddr pa) (orderBytes be (toBytesLE 8 v))) (physAddr (pa + 8))
    (orderBytes be (toBytesLE 8 w))

theorem stored_twoWords {s u : State} {pa : Word} {be : Bool} {v w : Word} (hw : Memory.wf s.mem = true)
    (hpa : physAddr (pa + 8) = physAddr pa + 8) (hu : u.mem = twoWords s.mem pa be v w) :
    Stored u pa 8 be v ∧ Stored u (pa + 8) 8 be w ∧ SameOutside s u pa 16 := by
  let t : State := { s with mem := Memory.writeBytes s.mem (physAddr pa) (orderBytes be (toBytesLE 8 v)) }
  obtain ⟨hlow, hlowOut⟩ := stored_write s t hw pa 8 be v rfl
  obtain ⟨hhigh, hhighOut⟩ := stored_write t u (Memory.writeBytes_wf hw _ _) (pa + 8) 8 be w hu
  refine ⟨fun k hk => ?_, hhigh, fun x hx => ?_⟩
  · rw [← hlow k hk]
    exact hhighOut _ (.inl (by omega))
  · rw [hhighOut x (by omega), hlowOut x (by omega)]

/-- The entries that overlap none of the `n` bytes at `pa` (R16). -/
def alatKept (l : List AlatEntry) (pa : Word) (n : Nat) : List AlatEntry :=
  l.filter fun e => decide (physAddr e.paddr + e.size ≤ physAddr pa ∨ physAddr pa + n ≤ physAddr e.paddr)

@[simp] theorem mem_alatKept {l : List AlatEntry} {pa : Word} {n : Nat} {e : AlatEntry} : e ∈ alatKept l pa n ↔
    e ∈ l ∧ (physAddr e.paddr + e.size ≤ physAddr pa ∨ physAddr pa + n ≤ physAddr e.paddr) := by
  simp [alatKept]

/-- The entries that overlap neither of two words. -/
theorem mem_alatKept_twoWords {l : List AlatEntry} {pa : Word} {e : AlatEntry}
    (hpa : physAddr (pa + 8) = physAddr pa + 8) : e ∈ alatKept (alatKept l pa 8) (pa + 8) 8 ↔
      e ∈ l ∧ ∀ k < 2, physAddr e.paddr + e.size ≤ physAddr pa + 8 * k ∨
        physAddr pa + 8 * k + 8 ≤ physAddr e.paddr := by
  rw [mem_alatKept, mem_alatKept, hpa, and_assoc, Nat.forall_lt_succ_right, Nat.forall_lt_succ_right]
  simp

/-! #### Stores through the reference -/

/-- What the reference `a` leaves of `s`, with memory `m` and the ALAT entries `l`. -/
def State.wrote (s : State) (a : Translation) (m : List Host.Cell) (l : List AlatEntry) : State :=
  { s.touch a with mem := m, alat := l }

theorem wrote_shape (s : State) (a : Translation) (m : List Host.Cell) (l : List AlatEntry) :
    s.wrote a m l = { s.touch a with alat := l, mem := m, ar := (s.touch a).ar } := rfl

section
variable {s : State} {a : Translation} {pa : Word} {n : Nat} {v w : Word} {m : List Host.Cell} {l : List AlatEntry}

theorem wrote_unchanged (s : State) (a : Translation) : s.wrote a s.mem s.alat = s.touch a := by
  rw [State.wrote, ← State.touch_mem s a, ← State.touch_alat s a]

theorem storeAt_eq_wrote (hb : s.blockOffset a.pa = none) : s.storeAt a n v = .ok (s.wrote a
    (Memory.writeBytes s.mem (physAddr a.pa) (orderBytes (s.psrBit Psr.be) (toBytesLE n v)))
    (alatKept s.alat a.pa n)) := by
  rw [storeAt_ok s a n v hb, State.wrote, ← State.touch_ar s a]
  rfl

/-- A further store of a reference that has been made. -/
theorem wrote_storeAt (hb : s.blockOffset pa = none) :
    (s.wrote a m l).storeAt { a with pa := pa, walked := none } n v = .ok (s.wrote a
      (Memory.writeBytes m (physAddr pa) (orderBytes (s.psrBit Psr.be) (toBytesLE n v))) (alatKept l pa n)) := by
  have hbe : (s.wrote a m l).psrBit Psr.be = s.psrBit Psr.be := congrArg (bit · Psr.be) (State.touch_psr s a)
  refine (storeAt_touched s a pa n v (s.wrote a m l) rfl ((touch_blockOffset s a pa).trans hb)).trans ?_
  rw [hbe]
  rfl

theorem touch_storeAt (hb : s.blockOffset pa = none) :
    (s.touch a).storeAt { a with pa := pa, walked := none } n v = .ok (s.wrote a
      (Memory.writeBytes s.mem (physAddr pa) (orderBytes (s.psrBit Psr.be) (toBytesLE n v))) (alatKept s.alat pa n)) := by
  rw [← wrote_unchanged, wrote_storeAt hb]

end

/-! #### Parts of an instruction that end well -/

/-- A part of an instruction that ends well hands its value on. -/
theorem bind_of_ok {α β : Type} {x : Except Stop α} {v : α} {f : α → Except Stop β} (h : x = .ok v) :
    (x >>= f) = f v := by rw [h]; rfl

section
variable {i : Instr} {s u v : State} {qp : BitVec 6} {r r3 : BitVec 7} {post : Post} {a : Translation} {ref : Ref}

theorem checkPost_of_target (hb3 : post.updates = true → s.badTarget r3 = false) : s.checkPost r3 post = .ok () := by
  cases hu : post.updates with
  | false => simp [State.checkPost, check, hu]
  | true => simp [State.checkPost, check, hb3 hu]

/-- A reference that meets no fault, its VHPT walk no Machine Check (R208, R210). -/
theorem translateData_of_ok (htr : s.translate (s.psrBit Psr.dt) (s.gr r3).val ref = .ok a)
    (hwalk : s.checkWalk false a.walked = .ok ()) : s.translateData (s.gr r3).val ref = .ok a := by
  simp only [State.translateData, State.dataReference, htr]
  exact bind_of_ok hwalk

theorem translateData_of_reaches (hw : WriteReaches s qp r3 ref a) : s.translateData (s.gr r3).val ref = .ok a := by
  obtain ⟨_, _, _, _, htr, hwalk, _⟩ := hw
  exact translateData_of_ok htr hwalk

theorem load_of_outside {pa : Word} {n : Nat} {be : Bool} {ma : BitVec 3} (hb : s.blockOffset pa = none) :
    s.load pa n be ma = .ok (s.memRead pa n be) := by
  rw [State.load, hb]

/-- A load that reads memory goes to the address that its base is translated to. -/
theorem loadAddress_of_reads {t : LdType} {hint : BitVec 3} (hr : LoadReads s t qp r3 ref a) :
    s.loadAddress t hint (s.gr r3) ref = .ok (.memory a) := by
  obtain ⟨_, _, hn, htr, hwalk, _, hspec, hma⟩ := hr
  unfold State.loadAddress
  rw [htr, hn]
  cases ht : t.speculative with
  | false =>
    have hpage : (t.advanced && !maSpeculative a.ma) = false := by
      cases ha : t.advanced with
      | false => rfl
      | true => simp [hma (.inr ha)]
    simp [bind_of_ok hwalk, hpage]
  | true =>
    obtain ⟨hed, hfeature⟩ := hspec ht
    simp [bind_of_ok hwalk, hed, hma (.inl ht), State.defersFreely, hfeature]

theorem holdsBytes_memRead (s : State) (pa : Word) (n : Nat) (be : Bool) :
    HoldsBytes (s.memRead pa n be) n be (bytesFrom s pa) := holds_read 64 _ _ _ _ rfl

/-- A memory instruction that passes its checks and then makes the state that `into` answers, its base updated. -/
def ExecInto (i : Instr) (s : State) (qp : BitVec 6) (r3 : BitVec 7) (post : Post) (into : Except Stop State) : Prop :=
  exec i s = predicated qp s (into >>= fun u => done (u.postUpdate s r3 post))

theorem exec_of_into {into : Except Stop State} (hq : s.prBit qp = true) (hi : ExecInto i s qp r3 post into)
    (hinto : into = .ok u) : exec i s = finish s (done (u.postUpdate s r3 post)) :=
  hi.trans (predicated_done hq (bind_of_ok hinto))

/-! #### Completion -/

/-- An instruction that writes nothing but memory, the ALAT and its base, in the reference `a`. -/
theorem wrote_completes {m : List Host.Cell} {l : List AlatEntry} (hss : s.psrBit Psr.ss = false)
    (hb3 : post.updates = true → s.badTarget r3 = false)
    (hi : exec i s = finish s (done ((s.wrote a m l).postUpdate s r3 post))) :
    ∃ u, exec i s = .next u ∧ u.place = s.nextPlace ∧ u.mem = m ∧ u.alat = l ∧
      u.dtc = (s.keepWalk a.walked).dtc ∧ (post.updates = true → u.gr r3 = s.postValue r3 post) ∧
      (∀ q, (post.updates = true → s.grLoc q ≠ s.grLoc r3) → u.gr q = s.gr q) ∧
      u.settled = (({ s.touch a with alat := u.alat, mem := u.mem } : State).postUpdate s r3 post).settled := by
  obtain ⟨u, hu, hplace, hbase, hgr, hmem, halat, hdtc, hset⟩ := retire_store s (s.touch a) _ _ _ (s.touch a).ar
    (touch_shape s a) (wrote_shape s a m l) r3 post hss hb3
  exact ⟨u, hi.trans (congrArg _ hu), hplace, hmem, halat, hdtc.trans (State.touch_dtc s a), hbase, hgr, hset⟩

/-- `u` stands where `s` does, with the general registers of `s`. -/
structure SameRegisters (s u : State) : Prop where
  ip : u.ip = s.ip
  ri : u.ri = s.ri
  ss : u.psrBit Psr.ss = s.psrBit Psr.ss
  grLoc : ∀ q, u.grLoc q = s.grLoc q
  gr : ∀ q, u.gr q = s.gr q

theorem SameRegisters.badTarget (h : SameRegisters s u) : u.badTarget r = s.badTarget r := by
  rw [State.badTarget, State.badTarget, h.grLoc]

theorem sameRegisters_refl (s : State) : SameRegisters s s := ⟨rfl, rfl, rfl, fun _ => rfl, fun _ => rfl⟩

theorem SameRegisters.trans (h : SameRegisters s u) (h' : SameRegisters u v) : SameRegisters s v where
  ip := h'.ip.trans h.ip
  ri := h'.ri.trans h.ri
  ss := h'.ss.trans h.ss
  grLoc q := (h'.grLoc q).trans (h.grLoc q)
  gr q := (h'.gr q).trans (h.gr q)

theorem sameRegisters_touch (s : State) (a : Translation) : SameRegisters s (s.touch a) := by
  rw [touch_shape s a]
  exact ⟨rfl, rfl, rfl, fun _ => rfl, fun _ => rfl⟩

theorem setGr_completes {x : Gr} (hss : s.psrBit Psr.ss = false) (hb : s.badTarget r = false) (hu : SameRegisters s u)
    (hi : exec i s = finish s (done (u.setGr r x))) :
    ∃ t, exec i s = .next t ∧ t.place = s.nextPlace ∧ t.gr r = x ∧ SameGrBut r s t ∧ t.mem = u.mem ∧ t.ar = u.ar ∧
      t.settled = (u.setGr r x).settled := by
  obtain ⟨t, he, hplace, hset⟩ := completes_of_exec (u := u.setGr r x) hss
    (by rw [State.psrBit, State.setGr_psr]; exact hu.ss) (by rw [State.ri, State.setGr_psr]; exact hu.ri)
    ((State.setGr_ip _ _ _).trans hu.ip) hi
  refine ⟨t, he, hplace, ?_, fun q hq => ?_, ?_, ?_, hset⟩
  · rw [gr_of_settled hset, setGr_gr _ _ _ (hu.badTarget.trans hb)]
  · rw [gr_of_settled hset, setGr_gr_other _ _ _ _ (by rwa [hu.grLoc, hu.grLoc]), hu.gr]
  · rw [mem_of_settled hset, State.setGr_mem]
  · rw [read_of_settled State.ar (fun _ => rfl) hset, State.setGr_ar]

end

end Sys2Proof.Machine
end

section
/-! ### Integer loads and stores -/
namespace Sys2Proof.Machine

/-- Settles O8: each form is `loadGr` of its operands, which `loads_gr` describes in every type. -/
theorem loadsReadMemory : Obligations.LoadsReadMemory := by
  intro s qp r1 r2 r3 a hb
  refine ⟨fun f hf hint h hr => ?_, fun hb3 hne => ⟨fun f hf hint hr => ?_, fun f hf hint imm hr => ?_⟩⟩
  · exact loads_gr s _ _ _ _ .none qp r1 r3 a _ (exec_loadForms s qp r1 r3 hint h f hf) hr hb nofun nofun
  · exact loads_gr s _ _ _ _ (.reg r2) qp r1 r3 a _ (exec_loadRegForms s qp r1 r2 r3 hint f hf) hr hb (fun _ => hb3)
      fun _ => hne
  · exact loads_gr s _ _ _ _ (.imm _) qp r1 r3 a _ (exec_loadImmForms s qp r1 r3 hint imm f hf) hr hb (fun _ => hb3)
      fun _ => hne

/-- Settles O11: each form is `storeGr` or `storeSpill` of its operands. -/
theorem storesWriteMemory : Obligations.StoresWriteMemory := by
  intro s qp r2 r3 a hint h imm
  refine ⟨fun f hf hw hn => ?_, fun f hf hw hn hb3 => ?_, fun hw => ⟨?_, fun hb3 => ?_⟩⟩
  · exact stores_gr s _ .none qp r2 r3 a _ (exec_storeForms s qp r2 r3 hint h f hf) hw hn nofun
  · exact stores_gr s _ (.imm _) qp r2 r3 a _ (exec_storeImmForms s qp r2 r3 hint imm f hf) hw hn fun _ => hb3
  · exact stores_spill s .none qp r2 r3 a _ (exec_st8SpillM4 s qp r2 r3 hint h) hw nofun
  · exact stores_spill s (.imm _) qp r2 r3 a _ (exec_st8SpillM5 s qp r2 r3 hint imm) hw fun _ => hb3

end Sys2Proof.Machine
end

section
/-! ### Semaphores -/
namespace Sys2Proof.Machine

/-- The semaphore `i` completes in `u` with the old value of its `n` bytes in GR `r1` (R630); what it leaves in memory and
in the ALAT is said apart. -/
def SemaphoreDone (i : Instr) (s : State) (r1 : BitVec 7) (a : Translation) (n : Nat) (u : State) (old : Word) : Prop :=
  exec i s = .next u ∧ u.place = s.nextPlace ∧ u.gr r1 = ⟨old, false⟩ ∧
    HoldsBytes old n (s.psrBit Psr.be) (bytesFrom s a.pa) ∧ SameGrBut r1 s u ∧
    u.settled = (({ s.touch a with alat := u.alat, mem := u.mem } : State).setGr r1 ⟨old, false⟩).settled

section
variable {i : Instr} {s : State} {qp : BitVec 6} {r1 r2 r3 : BitVec 7} {a : Translation} {n : Nat}

theorem semaphore_done {wr : State → Translation → Word → Except Stop State} {nat : Bool} {m : List Host.Cell}
    {l : List AlatEntry} (hb : s.badTarget r1 = false) (hw : WriteReaches s qp r3 (s.semaphoreRef n) a)
    (hn : nat = false) (hi : exec i s = semaphore n qp r1 r3 nat wr s)
    (hwr : wr (s.touch a) { a with walked := none } (s.memRead a.pa n (s.psrBit Psr.be)) = .ok (s.wrote a m l)) :
    ∃ u, SemaphoreDone i s r1 a n u (s.memRead a.pa n (s.psrBit Psr.be)) ∧ u.mem = m ∧
      ∀ e, e ∈ u.alat ↔ e ∈ alatKept l a.pa n := by
  obtain ⟨u, old, he, hplace, hr1, hold, hgr, halat, hset, hmem, rfl⟩ := sem_ok s n qp r1 r3 a nat wr hw hn hb l m hwr
  exact ⟨u, ⟨hi.trans he, hplace, hr1, hold, hgr, hset⟩, hmem, fun e => (halat e).trans mem_alatKept.symm⟩

/-- A semaphore that stores `v` at its address. -/
theorem semaphore_stores {wr : State → Translation → Word → Except Stop State} {nat : Bool} {v : Word}
    (hb : s.badTarget r1 = false) (hw : WriteReaches s qp r3 (s.semaphoreRef n) a) (hn : nat = false)
    (hi : exec i s = semaphore n qp r1 r3 nat wr s)
    (hwr : wr (s.touch a) { a with walked := none } (s.memRead a.pa n (s.psrBit Psr.be)) =
      (s.touch a).storeAt { a with walked := none } n v) :
    ∃ u, SemaphoreDone i s r1 a n u (s.memRead a.pa n (s.psrBit Psr.be)) ∧ AlatAfterStore s u a.pa n ∧
      Stored u a.pa n (s.psrBit Psr.be) v ∧ SameOutside s u a.pa n := by
  have ⟨_, _, _, hwf, _, _, hblock⟩ := hw
  obtain ⟨u, hdone, hmem, halat⟩ := semaphore_done hb hw hn hi (hwr.trans (touch_storeAt hblock))
  refine ⟨u, hdone, fun e => ?_, stored_write s u hwf a.pa n _ v hmem⟩
  rw [halat, mem_alatKept, mem_alatKept, and_assoc, and_self]

/-- A semaphore that stores nothing. -/
theorem semaphore_reads {wr : State → Translation → Word → Except Stop State} {nat : Bool}
    (hb : s.badTarget r1 = false) (hw : WriteReaches s qp r3 (s.semaphoreRef n) a) (hn : nat = false)
    (hi : exec i s = semaphore n qp r1 r3 nat wr s)
    (hwr : wr (s.touch a) { a with walked := none } (s.memRead a.pa n (s.psrBit Psr.be)) = .ok (s.touch a)) :
    ∃ u, SemaphoreDone i s r1 a n u (s.memRead a.pa n (s.psrBit Psr.be)) ∧ AlatAfterStore s u a.pa n ∧
      SameMemory s u := by
  obtain ⟨u, hdone, hmem, halat⟩ := semaphore_done hb hw hn hi (hwr.trans (congrArg _ (wrote_unchanged s a).symm))
  exact ⟨u, hdone, fun e => (halat e).trans mem_alatKept, fun x => congrArg (Memory.readByte · x) hmem⟩

theorem compareExchange_done (hn8 : n ≤ 8) (hb : s.badTarget r1 = false)
    (hw : WriteReaches s qp r3 (s.semaphoreRef n) a) (hn : (s.gr r2).nat = false)
    (hi : exec i s = compareExchange n qp r1 r2 r3 s) :
    ∃ u old, SemaphoreDone i s r1 a n u old ∧ AlatAfterStore s u a.pa n ∧
      (if old.toNat = s.ar.ccv.toNat % 2 ^ (8 * n) then
        Stored u a.pa n (s.psrBit Psr.be) (s.gr r2).val ∧ SameOutside s u a.pa n else SameMemory s u) := by
  by_cases heq : s.memRead a.pa n (s.psrBit Psr.be) = lowBytes n s.ar.ccv
  · obtain ⟨u, hdone, halat, hstored⟩ := semaphore_stores hb hw hn hi (if_pos heq)
    refine ⟨u, _, hdone, halat, ?_⟩
    rwa [if_pos ((lowBytes_iff n hn8 _ _).mp heq)]
  · obtain ⟨u, hdone, halat, hsame⟩ := semaphore_reads hb hw hn hi (if_neg heq)
    refine ⟨u, _, hdone, halat, ?_⟩
    rwa [if_neg (mt (lowBytes_iff n hn8 _ _).mpr heq)]

theorem compareExchange16_done (hb : s.badTarget r1 = false) (hw : WriteReaches s qp r3 (s.semaphoreRef 8) a)
    (hn : (s.gr r2).nat = false) (hi : exec i s = compareExchange16 qp r1 r2 r3 s) {block : Word}
    (hblock : block = a.pa &&& ~~~8) (hlow : s.blockOffset block = none) (hhigh : s.blockOffset (block + 8) = none)
    (hpa : physAddr (block + 8) = physAddr block + 8) :
    ∃ u old, SemaphoreDone i s r1 a 8 u old ∧
      (if old = s.ar.ccv then
        Stored u block 8 (s.psrBit Psr.be) (s.gr r2).val ∧ Stored u (block + 8) 8 (s.psrBit Psr.be) s.ar.csd ∧
          SameOutside s u block 16 ∧
          ∀ e, e ∈ u.alat ↔ e ∈ s.alat ∧
            (physAddr e.paddr + e.size ≤ physAddr a.pa ∨ physAddr a.pa + 8 ≤ physAddr e.paddr) ∧
            ∀ k < 2, physAddr e.paddr + e.size ≤ physAddr block + 8 * k ∨
              physAddr block + 8 * k + 8 ≤ physAddr e.paddr
      else SameMemory s u ∧ AlatAfterStore s u a.pa 8) := by
  subst hblock
  rw [compareExchange16, ifImplemented, if_pos (show Config.implLd16St16 = true from rfl)] at hi
  by_cases heq : s.memRead a.pa 8 (s.psrBit Psr.be) = s.ar.ccv
  · have ⟨_, _, _, hwf, _, _, _⟩ := hw
    obtain ⟨u, hdone, hmem, halat⟩ := semaphore_done hb hw hn hi ((if_pos heq).trans
      ((congrArg (· >>= _) (touch_storeAt hlow)).trans (wrote_storeAt hhigh)))
    obtain ⟨hfirst, hsecond, hout⟩ := stored_twoWords hwf hpa hmem
    refine ⟨u, _, hdone, ?_⟩
    rw [if_pos heq]
    refine ⟨hfirst, hsecond, hout, fun e => ?_⟩
    rw [halat, mem_alatKept, mem_alatKept_twoWords hpa, and_assoc, and_comm (b := _ ∨ _)]
  · obtain ⟨u, hdone, halat, hsame⟩ := semaphore_reads hb hw hn hi (if_neg heq)
    exact ⟨u, _, hdone, (if_neg heq).symm ▸ ⟨hsame, halat⟩⟩

end

theorem cmpxchgForms_size : ∀ f ∈ cmpxchgForms, f.2 ≤ 8 := by
  simp only [cmpxchgForms, List.forall_mem_cons, List.not_mem_nil, false_imp_iff, implies_true, and_true]
  and_intros
  all_goals decide

/-- Settles O13: each form is `semaphore` with what it writes, which stores at the address, in the block around it, or not at
all. -/
theorem semaphoresReadAndWrite : Obligations.SemaphoresReadAndWrite := by
  intro s qp r1 r2 r3 hint inc a hb ready completes
  refine ⟨fun f hf hw hn => ?_, fun f hf hw hn => ?_, fun f hf hw => ?_, fun i hi hw hn => ?_⟩
  · obtain ⟨u, hu⟩ := semaphore_stores hb hw hn (exec_xchgForms s qp r1 r2 r3 hint f hf) rfl
    exact ⟨u, _, hu⟩
  · exact compareExchange_done (cmpxchgForms_size f hf) hb hw hn (exec_cmpxchgForms s qp r1 r2 r3 hint f hf)
  · obtain ⟨u, hu⟩ := semaphore_stores hb hw rfl (exec_fetchaddForms s qp r1 r3 hint inc f hf) rfl
    rw [← fetchInc_eq]
    exact ⟨u, _, hu⟩
  · exact compareExchange16_done hb hw hn (exec_cmp8xchg16Forms s qp r1 r2 r3 hint i hi) rfl

end Sys2Proof.Machine
end

section
/-! ### Accesses of sixteen bytes -/
namespace Sys2Proof.Machine

section
variable {i : Instr} {s : State} {qp : BitVec 6} {r r3 : BitVec 7} {a : Translation}

theorem store16_eq (hw : WriteReaches s qp r3 { s.storeRef 16 16 with cacheableOnly := true } a)
    (hn : (s.gr r).nat = false) (hhigh : s.blockOffset (a.pa + 8) = none) (hi : exec i s = store16 qp r r3 s) :
    exec i s = finish s (done (s.wrote a (twoWords s.mem a.pa (s.psrBit Psr.be) (s.gr r).val s.ar.csd)
      (alatKept (alatKept s.alat a.pa 8) (a.pa + 8) 8))) := by
  have ⟨hq, _, hnat, _, _, _, hlow⟩ := hw
  refine hi.trans (predicated_done hq ?_)
  rw [hnat, hn]
  exact (bind_of_ok (translateData_of_reaches hw)).trans
    ((bind_of_ok (storeAt_eq_wrote hlow)).trans (bind_of_ok (wrote_storeAt hhigh)))

theorem store16_done (hw : WriteReaches s qp r3 { s.storeRef 16 16 with cacheableOnly := true } a)
    (hn : (s.gr r).nat = false) (hhigh : s.blockOffset (a.pa + 8) = none)
    (hpa : physAddr (a.pa + 8) = physAddr a.pa + 8) (hi : exec i s = store16 qp r r3 s) :
    ∃ u, exec i s = .next u ∧ u.place = s.nextPlace ∧ Stored u a.pa 8 (s.psrBit Psr.be) (s.gr r).val ∧
      Stored u (a.pa + 8) 8 (s.psrBit Psr.be) s.ar.csd ∧ SameOutside s u a.pa 16 ∧ (∀ q, u.gr q = s.gr q) ∧
      (∀ e, e ∈ u.alat ↔ e ∈ s.alat ∧ ∀ k < 2, physAddr e.paddr + e.size ≤ physAddr a.pa + 8 * k ∨
        physAddr a.pa + 8 * k + 8 ≤ physAddr e.paddr) ∧
      u.settled = ({ s.touch a with alat := u.alat, mem := u.mem } : State).settled := by
  have ⟨_, hss, _, hwf, _, _, _⟩ := hw
  obtain ⟨u, he, hplace, hmem, halat, -, -, hgr, hset⟩ :=
    wrote_completes (post := .none) (r3 := r3) hss nofun (store16_eq hw hn hhigh hi)
  obtain ⟨hfirst, hsecond, hout⟩ := stored_twoWords hwf hpa hmem
  exact ⟨u, he, hplace, hfirst, hsecond, hout, fun q => hgr q nofun,
    fun e => by rw [halat, mem_alatKept_twoWords hpa], hset⟩

/-- A general register and AR[CSD] are written in either order. -/
theorem setGr_setCsd (s : State) (r : BitVec 7) (x : Gr) (w : Word) :
    ({ s.setGr r x with ar := { (s.setGr r x).ar with csd := w } } : State) =
      ({ s with ar := { s.ar with csd := w } } : State).setGr r x := by
  show _ = ({ s with ar := { s.ar with csd := w } } : State).setLoc (s.grLoc r) x
  rw [State.setGr]
  cases s.grLoc r <;> rfl

/-- `s` after `ld16` has made the reference `a` and set AR[CSD], GR `r1` not yet written. -/
def State.read16 (s : State) (a : Translation) : State :=
  { s.touch a with ar := { s.ar with csd := s.memRead (a.pa + 8) 8 (s.psrBit Psr.be) } }

theorem load16_eq (hb : s.badTarget r = false)
    (hr : LoadReads s .normal qp r3 { s.loadRef .normal 16 16 with cacheableOnly := true } a)
    (hhigh : s.blockOffset (a.pa + 8) = none) (hi : exec i s = load16 qp r r3 s) :
    exec i s = finish s (done ((s.read16 a).setGr r ⟨s.memRead a.pa 8 (s.psrBit Psr.be), false⟩)) := by
  have ⟨hq, _, hnat, _, _, hlow, _, _⟩ := hr
  refine hi.trans (predicated_done hq ?_)
  rw [State.checkTarget, hb, check_false_bind, hnat, check_false_bind]
  refine (bind_of_ok (loadAddress_of_reads hr)).trans
    ((bind_of_ok (load_of_outside hlow)).trans ((bind_of_ok (load_of_outside hhigh)).trans ?_))
  dsimp only
  rw [setGr_setCsd, State.read16, State.touch_ar]
  rfl

theorem load16_done (hb : s.badTarget r = false)
    (hr : LoadReads s .normal qp r3 { s.loadRef .normal 16 16 with cacheableOnly := true } a)
    (hhigh : s.blockOffset (a.pa + 8) = none) (hi : exec i s = load16 qp r r3 s) :
    ∃ u lo hi, exec i s = .next u ∧ u.place = s.nextPlace ∧ u.gr r = ⟨lo, false⟩ ∧ u.ar.csd = hi ∧
      HoldsBytes lo 8 (s.psrBit Psr.be) (bytesFrom s a.pa) ∧
      HoldsBytes hi 8 (s.psrBit Psr.be) (bytesFrom s (a.pa + 8)) ∧ SameGrBut r s u ∧ SameMemory s u ∧
      u.settled = (({ s.touch a with ar := { s.ar with csd := hi } } : State).setGr r ⟨lo, false⟩).settled := by
  have ⟨_, hss, _⟩ := hr
  have hsame : SameRegisters s (s.read16 a) :=
    (sameRegisters_touch s a).trans ⟨rfl, rfl, rfl, fun _ => rfl, fun _ => rfl⟩
  obtain ⟨u, he, hplace, hgr, hother, hmem, har, hset⟩ := setGr_completes hss hb hsame (load16_eq hb hr hhigh hi)
  exact ⟨u, _, _, he, hplace, hgr, congrArg AppRegs.csd har, holdsBytes_memRead s _ 8 _, holdsBytes_memRead s _ 8 _,
    hother, fun x => congrArg (Memory.readByte · x) (hmem.trans (State.touch_mem s a)), hset⟩

end

/-- Settles O12: both words lie outside the interrupt block, and the second is a part of the reference already made. -/
theorem sixteenByteAccesses : Obligations.SixteenByteAccesses := by
  intro s qp r r3 a hint h hhigh
  refine ⟨fun i hi hb hr => ?_, fun i hi hn hw hpa => ?_⟩
  · exact load16_done hb hr hhigh (exec_load16Forms s qp r r3 hint h i hi)
  · exact store16_done hw hn hhigh hpa (exec_store16Forms s qp r r3 hint h i hi)

end Sys2Proof.Machine
end

section
/-! ### Floating-point loads -/
namespace Sys2Proof.Machine

/-! #### Several floating-point registers written -/

theorem fpr_congr {s u : State} (hfr : u.fr = s.fr) (hcfm : u.cfm = s.cfm) (f : BitVec 7) : u.fpr f = s.fpr f := by
  simp only [State.fpr, State.frIndex, hfr, hcfm]

/-- Marking a partition a second time does nothing. -/
theorem markModified_twice (s : State) (f : BitVec 7) : (s.markModified f).markModified f = s.markModified f := by
  simp [State.markModified, State.setPsrBit, setBit, BitVec.or_assoc]

theorem setFpr_markModified {s : State} {f : BitVec 7} {x : Fr} (h : f ≠ 0 ∧ f ≠ 1) :
    (s.setFpr f x).markModified f = s.setFpr f x := by
  rw [State.setFpr, if_neg (by simpa using h), markModified_twice]

/-- Marking the partition of a register is writing to it what it holds. -/
theorem markModified_eq_setFpr {s : State} {f : BitVec 7} (h : f ≠ 0 ∧ f ≠ 1) :
    s.markModified f = s.setFpr f (s.fpr f) := by
  rw [State.setFpr, if_neg (by simpa using h), State.fpr, if_neg h.1, if_neg h.2]
  simp

theorem sameRegisters_setFpr (s : State) (f : BitVec 7) (x : Fr) : SameRegisters s (s.setFpr f x) := by
  obtain ⟨fr, psr, heq, hpsr⟩ := setFpr_eq s f x
  have hbn : State.psrBit { s with fr := fr, psr := psr } Psr.bn = s.psrBit Psr.bn := hpsr _ (by decide) (by decide)
  have hloc : ∀ q, State.grLoc { s with fr := fr, psr := psr } q = s.grLoc q := fun q => by
    rw [State.grLoc, State.grLoc, hbn]
  rw [heq]
  refine ⟨rfl, fld_congr fun k hk _ => ?_, hpsr _ (by decide) (by decide), hloc, fun q => ?_⟩
  · exact hpsr k (by unfold Psr.mfl; omega) (by unfold Psr.mfh; omega)
  · rw [State.gr, State.gr, hloc]

/-- `s` with each floating-point register of `fs` written to its value in `v`. -/
def State.setFprs (s : State) (fs : List (BitVec 7)) (v : BitVec 7 → Fr) : State :=
  fs.foldl (fun w f => w.setFpr f (v f)) s

section
variable {s : State} {fs : List (BitVec 7)} {v x : BitVec 7 → Fr} {f : BitVec 7}

theorem setFprs_eq (s : State) (fs : List (BitVec 7)) (v : BitVec 7 → Fr) :
    ∃ fr psr, s.setFprs fs v = { s with fr := fr, psr := psr } := by
  induction fs generalizing s with
  | nil => exact ⟨s.fr, s.psr, rfl⟩
  | cons f fs ih =>
    obtain ⟨_, _, hhead, -⟩ := setFpr_eq s f (v f)
    obtain ⟨fr, psr, htail⟩ := ih (s.setFpr f (v f))
    exact ⟨fr, psr, by rw [State.setFprs, List.foldl_cons, ← State.setFprs, htail, hhead]⟩

theorem sameRegisters_setFprs (s : State) (fs : List (BitVec 7)) (v : BitVec 7 → Fr) :
    SameRegisters s (s.setFprs fs v) := by
  induction fs generalizing s with
  | nil => exact sameRegisters_refl s
  | cons f fs ih => exact (sameRegisters_setFpr s f (v f)).trans (ih _)

theorem setFprs_fpr_other (hf : f ∉ fs) : (s.setFprs fs v).fpr f = s.fpr f := by
  induction fs generalizing s with
  | nil => rfl
  | cons g fs ih =>
    obtain ⟨hg, hfs⟩ := not_or.mp (mt List.mem_cons.mpr hf)
    exact (ih hfs).trans (setFpr_fpr_other s g f (v g) hg)

theorem setFprs_fpr (hfs : ∀ g ∈ fs, g ≠ 0 ∧ g ≠ 1) (hf : f ∈ fs) : (s.setFprs fs v).fpr f = v f := by
  induction fs generalizing s with
  | nil => exact absurd hf List.not_mem_nil
  | cons g fs ih =>
    obtain ⟨⟨h0, h1⟩, hrest⟩ := List.forall_mem_cons.mp hfs
    by_cases hm : f ∈ fs
    · exact ih hrest hm
    · obtain rfl : f = g := (List.mem_cons.mp hf).resolve_right hm
      exact (setFprs_fpr_other hm).trans (setFpr_fpr s f (v f) h0 h1)

/-- Marking partitions is writing to registers what they hold. -/
theorem foldl_markModified (hfs : ∀ g ∈ fs, g ≠ 0 ∧ g ≠ 1) (hx : ∀ g, s.fpr g = x g) :
    fs.foldl State.markModified s = s.setFprs fs x := by
  induction fs generalizing s with
  | nil => rfl
  | cons g fs ih =>
    obtain ⟨hg, hrest⟩ := List.forall_mem_cons.mp hfs
    have hhead : s.markModified g = s.setFpr g (x g) := by rw [← hx, markModified_eq_setFpr hg]
    rw [State.setFprs, List.foldl_cons, List.foldl_cons, ← hhead]
    exact ih hrest hx

/-- The marks that the writes make anyway. -/
theorem foldl_setFpr_markModified (hfs : ∀ g ∈ fs, g ≠ 0 ∧ g ≠ 1) (hx : ∀ g ∈ fs, x g = v g) :
    fs.foldl (fun w g => (w.setFpr g (x g)).markModified g) s = s.setFprs fs v := by
  refine List.foldl_ext _ _ s fun w g hg => ?_
  rw [setFpr_markModified (hfs g hg), hx g hg]

end

/-! #### Completion -/

section
variable {i : Instr} {s B : State} {r3 : BitVec 7} {post : Post} {fs : List (BitVec 7)} {v : BitVec 7 → Fr}

/-- An instruction that writes the registers `fs` and its base in a state with the registers of `s`. -/
theorem setFprs_completes (hss : s.psrBit Psr.ss = false) (hB : SameRegisters s B) (hfpr : ∀ f, B.fpr f = s.fpr f)
    (hfs : ∀ f ∈ fs, f ≠ 0 ∧ f ≠ 1) (hb3 : post.updates = true → s.badTarget r3 = false)
    (hi : exec i s = finish s (done ((B.setFprs fs v).postUpdate s r3 post))) :
    ∃ u, exec i s = .next u ∧ u.place = s.nextPlace ∧ (∀ f ∈ fs, u.fpr f = v f) ∧
      (∀ f, f ∉ fs → u.fpr f = s.fpr f) ∧ (post.updates = true → u.gr r3 = s.postValue r3 post) ∧
      (∀ q, (post.updates = true → s.grLoc q ≠ s.grLoc r3) → u.gr q = s.gr q) ∧ u.mem = B.mem ∧ u.alat = B.alat ∧
      u.dtc = B.dtc ∧ u.settled = ((B.setFprs fs v).postUpdate s r3 post).settled := by
  have hX : SameRegisters s (B.setFprs fs v) := hB.trans (sameRegisters_setFprs B fs v)
  obtain ⟨fr, psr, hshape⟩ := setFprs_eq B fs v
  obtain ⟨u, he, hplace, hset⟩ := completes_of_exec (u := (B.setFprs fs v).postUpdate s r3 post) hss
    (by rw [State.psrBit, State.postUpdate_psr]; exact hX.ss) (by rw [State.ri, State.postUpdate_psr]; exact hX.ri)
    ((State.postUpdate_ip ..).trans hX.ip) hi
  have hufpr : ∀ f, u.fpr f = (B.setFprs fs v).fpr f := fun f =>
    (fpr_of_settled hset f).trans (fpr_congr (State.postUpdate_fr ..) (State.postUpdate_cfm ..) f)
  refine ⟨u, he, hplace, fun f hf => ?_, fun f hf => ?_, fun hu => ?_, fun q hq => ?_, ?_, ?_, ?_, hset⟩
  · rw [hufpr, setFprs_fpr hfs hf]
  · rw [hufpr, setFprs_fpr_other hf, hfpr]
  · rw [gr_of_settled hset, postUpdate_gr _ _ _ _ hu (hX.badTarget.trans (hb3 hu))]
  · rw [gr_of_settled hset, postUpdate_gr_other _ _ _ _ _ (by rwa [hX.grLoc, hX.grLoc]), hX.gr]
  · rw [mem_of_settled hset, State.postUpdate_mem, hshape]
  · rw [settled_alat hset, State.postUpdate_alat, hshape]
  · rw [settled_dtc hset, State.postUpdate_dtc, hshape]

end

/-! #### The image of the bytes (R649) -/

section
variable {s : State} {a : Translation}

/-- A field of a value that has been widened. -/
theorem fld_zeroExtend {w w' lo len : Nat} (v : BitVec w) (h : lo + len ≤ w') :
    (fld (v.zeroExtend w') lo len : BitVec len) = fld v lo len := by
  apply BitVec.eq_of_getLsbD_eq
  intro j hj
  have hlt : lo + j < w' := by omega
  rw [getLsbD_fld, getLsbD_fld, BitVec.getLsbD_setWidth, decide_eq_true hlt, Bool.true_and]

/-- A field below the seam of a low part. -/
theorem fld_fld_low {w w' lo len : Nat} (v : BitVec w) (h : lo + len ≤ w') :
    (fld (fld v 0 w' : BitVec w') lo len : BitVec len) = fld v lo len := by
  apply BitVec.eq_of_getLsbD_eq
  intro j hj
  have hlt : lo + j < w' := by omega
  rw [getLsbD_fld, getLsbD_fld, getLsbD_fld, Nat.zero_add, decide_eq_true hlt, Bool.true_and]

/-- The low part of a value holds the same bytes as far as it goes. -/
theorem HoldsBytes.low {v : Word} {n : Nat} {be : Bool} {byte : Nat → Byte} (h : HoldsBytes v n be byte) {w : Nat}
    (hw : w ≤ 64) (h8 : w % 8 = 0) : HoldsBytes (fld (v.zeroExtend 80) 0 w) n be byte := by
  intro k hk
  rw [← h k (by omega), fld_fld_low _ (by omega), fld_zeroExtend _ (by omega)]

theorem loadWide_of_narrow {n : Nat} (hn : n ≤ 8) (hlow : s.blockOffset a.pa = none) :
    s.loadWide a n = .ok ((s.memRead a.pa n (s.psrBit Psr.be)).zeroExtend 80) := by
  rw [State.loadWide, if_pos hn]
  exact bind_of_ok (load_of_outside hlow)

theorem loadWide_ten (hlow : s.blockOffset a.pa = none) : s.loadWide a 10 =
    .ok (ofBytesLE 80 (orderBytes (s.psrBit Psr.be) (Memory.readBytes s.mem (physAddr a.pa) 10))) := by
  simp only [State.loadWide, hlow]
  rfl

theorem readFr_image {m : FpFormat} (hlow : s.blockOffset a.pa = none)
    (hhigh : m = .whole → s.blockOffset (a.pa + 8) = none) : ∃ x, s.readFr m a = .ok x ∧ FrImage s m a.pa x := by
  have hbytes (n : Nat) := holdsBytes_memRead s a.pa n (s.psrBit Psr.be)
  cases m with
  | single => exact ⟨_, bind_of_ok (loadWide_of_narrow (by decide) hlow), _, (hbytes 4).low (by decide) rfl, rfl⟩
  | double => exact ⟨_, bind_of_ok (loadWide_of_narrow (by decide) hlow), _, (hbytes 8).low (by decide) rfl, rfl⟩
  | extended => exact ⟨_, bind_of_ok (loadWide_ten hlow), _, holds_read 80 _ _ _ _ rfl, rfl⟩
  | integer => exact ⟨_, bind_of_ok (loadWide_of_narrow (by decide) hlow), _, (hbytes 8).low (by decide) rfl, rfl⟩
  | whole =>
    exact ⟨_, (bind_of_ok (load_of_outside hlow)).trans (bind_of_ok (load_of_outside (hhigh rfl))), _, hbytes 8,
      holdsBytes_memRead s _ 8 _, rfl, rfl⟩

end

/-! #### What the operations do -/

section
variable {i : Instr} {s : State} {qp : BitVec 6} {r3 f1 f2 : BitVec 7} {t : LdType} {m : FpFormat} {hint : BitVec 3}
  {post : Post} {a : Translation}

theorem frOk_ne (h : FrOk s f1) : f1 ≠ 0 ∧ f1 ≠ 1 := ⟨h.1, h.2.1⟩

theorem frOk_enabled (h : FrOk s f1) : s.disabledCode [f1] = 0 := h.2.2

theorem skipAlat_fpr (s : State) (t : LdType) (reg : AlatReg) (f : BitVec 7) : (s.skipAlat t reg).fpr f = s.fpr f := by
  rw [skipAlat_eq]
  rfl

theorem checkFpTarget_of_frOk (h : FrOk s f1) : checkFpTarget f1 = .ok () := by
  obtain ⟨h0, h1, -⟩ := h
  simpa [checkFpTarget, check] using ⟨h0, h1⟩

theorem checkFp_of_enabled {fs : List (BitVec 7)} (h : s.disabledCode fs = 0) : s.checkFp fs = .ok () := by
  simp [State.checkFp, check, h]

theorem disabledCode_eq_zero_iff {fs : List (BitVec 7)} : s.disabledCode fs = 0 ↔
    (s.psrBit Psr.dfl && fs.any fun f => decide (2 ≤ f.toNat ∧ f.toNat < 32)) = false ∧
      (s.psrBit Psr.dfh && fs.any fun f => decide (32 ≤ f.toNat)) = false := by
  unfold State.disabledCode
  split
  · next h => simp only [h]; split <;> simp
  · next h =>
    split
    · next h' => simp [h']
    · next h' => simp only [Bool.not_eq_true] at h h'; simp only [h, h']; simp

/-- Two registers in enabled partitions. -/
theorem disabledCode_pair (h1 : s.disabledCode [f1] = 0) (h2 : s.disabledCode [f2] = 0) :
    s.disabledCode [f1, f2] = 0 := by
  rw [disabledCode_eq_zero_iff] at h1 h2 ⊢
  have hany (p : BitVec 7 → Bool) : [f1, f2].any p = ([f1].any p || [f2].any p) := by simp
  constructor
  · rw [hany, Bool.and_or_distrib_left, h1.1, h2.1]; rfl
  · rw [hany, Bool.and_or_distrib_left, h1.2, h2.2]; rfl

theorem loadFr_into (hf1 : FrOk s f1) (hb3 : post.updates = true → s.badTarget r3 = false)
    (hn : (!t.speculative && (s.gr r3).nat) = false) (hi : exec i s = loadFr t m hint post qp f1 r3 s) :
    ExecInto i s qp r3 post (s.loadFrInto t m hint f1 r3) := by
  refine hi.trans (congrArg (predicated qp s) ?_)
  rw [hn]
  exact (bind_of_ok (checkFpTarget_of_frOk hf1)).trans ((bind_of_ok (checkPost_of_target hb3)).trans
    (bind_of_ok (checkFp_of_enabled (frOk_enabled hf1))))

theorem loadPair_into (hf1 : FrOk s f1) (hf2 : FrOk s f2) (hodd : f1.getLsbD 0 ≠ f2.getLsbD 0)
    (hb3 : post.updates = true → s.badTarget r3 = false) (hn : (!t.speculative && (s.gr r3).nat) = false)
    (hi : exec i s = loadPair t m hint post qp f1 f2 r3 s) :
    ExecInto i s qp r3 post (s.loadPairInto t m hint f1 f2 r3) := by
  refine hi.trans (congrArg (predicated qp s) ?_)
  have hbit : (bit f1 0 == bit f2 0) = false := beq_eq_false_iff_ne.mpr hodd
  rw [hn, hbit]
  exact (bind_of_ok (checkFpTarget_of_frOk hf1)).trans ((bind_of_ok (checkFpTarget_of_frOk hf2)).trans
    ((bind_of_ok (checkPost_of_target hb3)).trans
      (bind_of_ok (checkFp_of_enabled (disabledCode_pair (frOk_enabled hf1) (frOk_enabled hf2))))))

/-- A check load that hits writes to its targets what they hold (R645). -/
theorem loadFrInto_of_hit (hf1 : FrOk s f1) (hhit : (t.isCheck && s.alatCmp (s.alatFr f1)) = true) :
    s.loadFrInto t m hint f1 r3 = .ok ((s.skipAlat t (s.alatFr f1)).setFprs [f1] s.fpr) := by
  simp only [State.loadFrInto, hhit, if_true]
  exact congrArg Except.ok (foldl_markModified (fs := [f1]) (by simpa using frOk_ne hf1) (skipAlat_fpr s t _))

theorem loadPairInto_of_hit (hf1 : FrOk s f1) (hf2 : FrOk s f2)
    (hhit : (t.isCheck && s.alatCmp (s.alatFr f1)) = true) :
    s.loadPairInto t m hint f1 f2 r3 = .ok ((s.skipAlat t (s.alatFr f1)).setFprs [f1, f2] s.fpr) := by
  simp only [State.loadPairInto, hhit, if_true]
  exact congrArg Except.ok (foldl_markModified (fs := [f1, f2]) (by simpa using ⟨frOk_ne hf1, frOk_ne hf2⟩)
    (skipAlat_fpr s t _))

theorem loadFrInto_of_reads (hr : LoadReads s t qp r3 (m.ref (s.loadRef t m.size m.align)) a)
    (hmiss : (t.isCheck && s.alatCmp (s.alatFr f1)) = false) {x : Fr} (hx : s.readFr m a = .ok x) :
    s.loadFrInto t m hint f1 r3 =
      .ok (((s.touch a).loadAlat t (s.alatFr f1) a m.size).setFprs [f1] fun _ => x) := by
  simp only [State.loadFrInto, hmiss, Bool.false_eq_true, if_false]
  exact (bind_of_ok (loadAddress_of_reads hr)).trans (bind_of_ok hx)

theorem loadPairInto_of_reads (hr : LoadReads s t qp r3 (s.loadRef t (2 * m.size) (2 * m.size)) a) (hne : f2 ≠ f1)
    (hmiss : (t.isCheck && s.alatCmp (s.alatFr f1)) = false) {x y : Fr} (hx : s.readFr m a = .ok x)
    (hy : s.readFr m { a with pa := a.pa + BitVec.ofNat 64 m.size } = .ok y) :
    s.loadPairInto t m hint f1 f2 r3 =
      .ok (((s.touch a).loadAlat t (s.alatFr f1) a (2 * m.size)).setFprs [f1, f2] fun g => if g = f1 then x else y) := by
  simp only [State.loadPairInto, hmiss, Bool.false_eq_true, if_false, State.setFprs, List.foldl_cons, List.foldl_nil,
    if_pos, if_neg hne]
  exact (bind_of_ok (loadAddress_of_reads hr)).trans ((bind_of_ok hx).trans (bind_of_ok hy))

/-- What a floating-point load does in a state `T`, that of a hit or of a reference that is made. -/
theorem loadsFr_of_exec {T B : State} {n : Nat} {fs : List (BitVec 7)} {v : BitVec 7 → Fr} {image : BitVec 7 → Fr → Prop}
    {hit : Bool} (hhit : (t.isCheck && s.alatCmp (s.alatFr f1)) = hit) (hT : T = if hit then s else s.touch a)
    (hB : B = { T with alat := B.alat }) (halat : AlatAfterLoad s B t hit (s.alatFr f1) a n)
    (hfs : ∀ f ∈ fs, f ≠ 0 ∧ f ≠ 1) (hv : ∀ f ∈ fs, if hit then v f = s.fpr f else image f (v f))
    (hss : s.psrBit Psr.ss = false) (hb3 : post.updates = true → s.badTarget r3 = false)
    (hi : exec i s = finish s (done ((B.setFprs fs v).postUpdate s r3 post))) :
    LoadsFr i s t n post r3 f1 image fs a := by
  have hregs : SameRegisters s T := by
    rw [hT]
    cases hit with
    | true => exact sameRegisters_refl s
    | false => exact sameRegisters_touch s a
  have hTfr : T.fr = s.fr ∧ T.cfm = s.cfm ∧ T.mem = s.mem := by
    rw [hT]
    cases hit <;> simp
  have hBregs : SameRegisters s B := by
    rw [hB]
    exact hregs.trans ⟨rfl, rfl, rfl, fun _ => rfl, fun _ => rfl⟩
  obtain ⟨hfr, hcfm, hTmem⟩ := hTfr
  have hBfpr (f : BitVec 7) : B.fpr f = s.fpr f := by
    rw [hB]
    exact fpr_congr hfr hcfm f
  obtain ⟨u, he, hplace, hin, hout, hbase, hgr, hmem, hualat, hdtc, hset⟩ :=
    setFprs_completes hss hBregs hBfpr hfs hb3 hi
  refine ⟨u, he, hplace, fun f hf => ?_, hout, hbase, hgr, fun x => ?_, ?_, ?_, ?_⟩
  · rw [hin f hf, hhit]
    exact hv f hf
  · have hsame : u.mem = s.mem := by rw [hmem, hB]; exact hTmem
    exact congrArg (Memory.readByte · x) hsame
  · rw [hhit]
    unfold AlatAfterLoad
    rw [hualat]
    exact halat
  · rw [hhit, WalkKept, hdtc, hB, hT]
    cases hit <;> simp
  · rw [hset, hhit, ← hT, hualat, ← hB, foldl_setFpr_markModified hfs hin]

theorem touch_loadAlat_alat (s : State) (a : Translation) (t : LdType) (reg : AlatReg) (n : Nat) :
    ((s.touch a).loadAlat t reg a n).alat = (s.loadAlat t reg a n).alat := by
  unfold State.loadAlat State.alatWrite State.alatInvalEntry
  split
  · simp
  · split <;> simp

/-- A check load that hits. -/
theorem loadsFr_of_hit {n : Nat} {fs : List (BitVec 7)} {image : BitVec 7 → Fr → Prop}
    (hhit : (t.isCheck && s.alatCmp (s.alatFr f1)) = true) (hfs : ∀ f ∈ fs, f ≠ 0 ∧ f ≠ 1)
    (hss : s.psrBit Psr.ss = false) (hb3 : post.updates = true → s.badTarget r3 = false)
    (hi : exec i s = finish s (done (((s.skipAlat t (s.alatFr f1)).setFprs fs s.fpr).postUpdate s r3 post))) :
    LoadsFr i s t n post r3 f1 image fs a := by
  obtain ⟨hcheck, -⟩ := Bool.and_eq_true_iff.mp hhit
  exact loadsFr_of_exec hhit rfl (skipAlat_eq s t _) (alat_skip s t hcheck _ a n _ rfl) hfs (fun _ _ => rfl) hss hb3 hi

/-- A load that reads memory. -/
theorem loadsFr_of_reads {n : Nat} {fs : List (BitVec 7)} {v : BitVec 7 → Fr} {image : BitVec 7 → Fr → Prop} {ref : Ref}
    (hr : LoadReads s t qp r3 ref a) (hmiss : (t.isCheck && s.alatCmp (s.alatFr f1)) = false)
    (hfs : ∀ f ∈ fs, f ≠ 0 ∧ f ≠ 1) (hv : ∀ f ∈ fs, image f (v f))
    (hb3 : post.updates = true → s.badTarget r3 = false)
    (hi : exec i s = finish s (done ((((s.touch a).loadAlat t (s.alatFr f1) a n).setFprs fs v).postUpdate s r3 post))) :
    LoadsFr i s t n post r3 f1 image fs a := by
  obtain ⟨_, hss, _, _, _, _, _, hma⟩ := hr
  exact loadsFr_of_exec hmiss rfl (loadAlat_eq ..) (alat_load s t _ a n hma _ (touch_loadAlat_alat ..)) hfs hv hss hb3 hi

theorem loadFr_done (hf1 : FrOk s f1) (hb3 : post.updates = true → s.badTarget r3 = false)
    (hr : LoadReads s t qp r3 (m.ref (s.loadRef t m.size m.align)) a) (hhigh : s.blockOffset (a.pa + 8) = none)
    (hi : exec i s = loadFr t m hint post qp f1 r3 s) :
    LoadsFr i s t m.size post r3 f1 (fun _ x => FrImage s m a.pa x) [f1] a := by
  have ⟨hq, hss, hnat, _, _, hlow, _⟩ := hr
  have hinto := loadFr_into hf1 hb3 (by rw [hnat, Bool.and_false]) hi
  have hfs : ∀ f ∈ [f1], f ≠ 0 ∧ f ≠ 1 := by simpa using frOk_ne hf1
  cases hhit : t.isCheck && s.alatCmp (s.alatFr f1) with
  | true => exact loadsFr_of_hit hhit hfs hss hb3 (exec_of_into hq hinto (loadFrInto_of_hit hf1 hhit))
  | false =>
    obtain ⟨x, hx, himage⟩ := readFr_image hlow fun _ => hhigh
    exact loadsFr_of_reads hr hhit hfs (fun _ _ => himage) hb3
      (exec_of_into hq hinto (loadFrInto_of_reads hr hhit hx))

theorem loadPair_done (hf1 : FrOk s f1) (hf2 : FrOk s f2) (hodd : f1.getLsbD 0 ≠ f2.getLsbD 0) (hm : m ≠ .whole)
    (hb3 : post.updates = true → s.badTarget r3 = false)
    (hr : LoadReads s t qp r3 (s.loadRef t (2 * m.size) (2 * m.size)) a)
    (hhigh : s.blockOffset (a.pa + BitVec.ofNat 64 m.size) = none)
    (hi : exec i s = loadPair t m hint post qp f1 f2 r3 s) :
    LoadsFr i s t (2 * m.size) post r3 f1
      (fun g x => FrImage s m (if g = f1 then a.pa else a.pa + BitVec.ofNat 64 m.size) x) [f1, f2] a := by
  have ⟨hq, hss, hnat, _, _, hlow, _⟩ := hr
  have hinto := loadPair_into hf1 hf2 hodd hb3 (by rw [hnat, Bool.and_false]) hi
  have hfs : ∀ f ∈ [f1, f2], f ≠ 0 ∧ f ≠ 1 := by simpa using ⟨frOk_ne hf1, frOk_ne hf2⟩
  have hne : f2 ≠ f1 := fun h => hodd (by rw [h])
  cases hhit : t.isCheck && s.alatCmp (s.alatFr f1) with
  | true =>
    exact loadsFr_of_hit hhit hfs hss hb3 (exec_of_into hq hinto (loadPairInto_of_hit hf1 hf2 hhit))
  | false =>
    obtain ⟨x, hx, hximage⟩ := readFr_image hlow fun h => absurd h hm
    obtain ⟨y, hy, hyimage⟩ :=
      readFr_image (a := { a with pa := a.pa + BitVec.ofNat 64 m.size }) hhigh fun h => absurd h hm
    refine loadsFr_of_reads hr hhit hfs (fun g _ => ?_) hb3
      (exec_of_into hq hinto (loadPairInto_of_reads hr hne hhit hx hy))
    by_cases hg : g = f1
    · simpa only [if_pos hg] using hximage
    · simpa only [if_neg hg] using hyimage

end

/-- Settles O14: each form is `loadFr` of its operands, which on a hit writes to its target what it holds, and on a miss the
image of the bytes. -/
theorem fpLoadsReadMemory : Obligations.FpLoadsReadMemory := by
  intro s qp f1 r2 r3 a hf1 hhigh
  refine ⟨fun g hg hint h hr => ?_, fun hb3 => ⟨fun g hg hint hr => ?_, fun g hg hint imm hr => ?_⟩⟩
  · exact loadFr_done hf1 nofun hr hhigh (exec_fpLoadForms s qp f1 r3 hint h g hg)
  · exact loadFr_done hf1 (fun _ => hb3) hr hhigh (exec_fpLoadRegForms s qp f1 r2 r3 hint g hg)
  · exact loadFr_done hf1 (fun _ => hb3) hr hhigh (exec_fpLoadImmForms s qp f1 r3 hint imm g hg)

/-- No pair load has the format of a fill. -/
theorem pairForms_format : ∀ g ∈ pairForms, g.2.2 ≠ .whole := by
  simp only [pairForms, List.forall_mem_cons, List.not_mem_nil, false_imp_iff, implies_true, and_true]
  and_intros
  all_goals nofun

theorem pairUpdateForms_format : ∀ g ∈ pairUpdateForms, g.2.2.1 ≠ .whole := by
  simp only [pairUpdateForms, List.forall_mem_cons, List.not_mem_nil, false_imp_iff, implies_true, and_true]
  and_intros
  all_goals nofun

/-- Settles O15: each form is `loadPair` of its operands, whose two reads are the images of the two elements. -/
theorem fpPairLoadsReadMemory : Obligations.FpPairLoadsReadMemory := by
  intro s qp f1 f2 r3 a hint hf1 hf2 hodd
  refine ⟨fun g hg ⟨hr, hhigh⟩ => ?_, fun hb3 g hg ⟨hr, hhigh⟩ => ?_⟩
  · exact loadPair_done hf1 hf2 hodd (pairForms_format g hg) nofun hr hhigh
      (exec_pairForms s qp f1 f2 r3 hint g hg)
  · exact loadPair_done hf1 hf2 hodd (pairUpdateForms_format g hg) (fun _ => hb3) hr hhigh
      (exec_pairUpdateForms s qp f1 f2 r3 hint g hg)

end Sys2Proof.Machine
end

section
/-! ### Floating-point stores -/
namespace Sys2Proof.Machine

section
variable {i : Instr} {s u : State} {qp : BitVec 6} {r3 f2 : BitVec 7} {m : FpFormat} {post : Post} {a : Translation}
  {x : Fr} {pa : Word} {n : Nat} {be : Bool}

/-- What is stored of a value is its low bytes. -/
theorem Stored.congr {w w' : Nat} {v : BitVec w} {v' : BitVec w'} (h : Stored u pa n be v)
    (hv : ∀ k, k < n → (fld v (8 * k) 8 : Byte) = fld v' (8 * k) 8) : Stored u pa n be v' := by
  intro k hk
  rw [h k hk]
  exact hv _ (by split <;> omega)

theorem toBytesLE_congr {w w' : Nat} {v : BitVec w} {v' : BitVec w'}
    (hv : ∀ k, k < n → (fld v (8 * k) 8 : Byte) = fld v' (8 * k) 8) : toBytesLE n v = toBytesLE n v' := by
  refine List.ext_getElem (by rw [toBytesLE_length, toBytesLE_length]) fun k hk hk' => ?_
  have hkn : k < n := by rwa [toBytesLE_length] at hk
  rw [← List.getD_eq_getElem _ 0 hk, ← List.getD_eq_getElem _ 0 hk', toBytesLE_get n v k hkn, toBytesLE_get n v' k hkn,
    hv k hkn]

theorem signExp_eq (x : Fr) : x.signExp = x.exp.zeroExtend 64 ||| if x.sign then 0x20000 else 0 := by
  apply BitVec.eq_of_getLsbD_eq
  intro j hj
  have hsign : (if x.sign then 0x20000 else 0 : Word).getLsbD j = (x.sign && decide (j = 17)) := by
    cases x.sign with
    | false => exact BitVec.getLsbD_zero
    | true =>
      rw [if_pos rfl, show (0x20000 : Word) = BitVec.twoPow 64 17 from rfl, BitVec.getLsbD_twoPow]
      simp [eq_comm]
  rw [Fr.signExp, BitVec.getLsbD_setWidth, BitVec.getLsbD_append, BitVec.getLsbD_or, BitVec.getLsbD_setWidth, hsign,
    decide_eq_true hj]
  by_cases h : j < 17
  · have h17 : j ≠ 17 := by omega
    simp [h, h17]
  · have hsub : j - 17 = 0 ↔ j = 17 := by omega
    have hexp : x.exp.getLsbD j = false := BitVec.getLsbD_of_ge _ _ (Nat.le_of_not_lt h)
    simp [h, hsub, hexp, Bool.and_comm]

/-- The memory after a store of the image of `x` in format `m` at `pa` (R647, R648, log entries 23 and 52). -/
def imageMemory (l : List Host.Cell) (m : FpFormat) (pa : Word) (be : Bool) (x : Fr) : List Host.Cell :=
  match m with
  | .whole => twoWords l pa be x.sig x.signExp
  | m => Memory.writeBytes l (physAddr pa) (orderBytes be (toBytesLE m.size (m.encode x)))

theorem store_of_outside {ma : BitVec 3} {v : Word} (hb : s.blockOffset pa = none) : s.store pa n be ma v =
    .ok { s with mem := Memory.writeBytes s.mem (physAddr pa) (orderBytes be (toBytesLE n v)) } := by
  rw [State.store, hb]
  rfl

theorem storeWide_eq {v : BitVec 80} (hlow : s.blockOffset a.pa = none) : s.storeWide a n v =
    .ok { s with mem := Memory.writeBytes s.mem (physAddr a.pa) (orderBytes (s.psrBit Psr.be) (toBytesLE n v)) } := by
  unfold State.storeWide
  split
  · have hbytes : toBytesLE n (fld v 0 64 : Word) = toBytesLE n v := toBytesLE_congr fun k hk => fld_fld_low v (by omega)
    rw [store_of_outside hlow, hbytes]
  · rw [hlow]

theorem writeFr_eq (hlow : s.blockOffset a.pa = none) (hhigh : m = .whole → s.blockOffset (a.pa + 8) = none) :
    s.writeFr m a x = .ok { s with mem := imageMemory s.mem m a.pa (s.psrBit Psr.be) x } := by
  cases m with
  | single | double | extended | integer => exact storeWide_eq hlow
  | whole => exact (bind_of_ok (store_of_outside hlow)).trans (store_of_outside (hhigh rfl))

/-- The reference of a store that has changed memory first. -/
theorem touch_alatInvalRange {l : List Host.Cell} : (({ s with mem := l } : State).touch a).alatInvalRange pa n =
    s.wrote a l (alatKept s.alat pa n) := by
  rw [State.touch_congr (s := s) (t := { s with mem := l }) a rfl rfl rfl rfl rfl, State.wrote, touch_shape s a]
  rfl

theorem storeFr_eq (hw : WriteReaches s qp r3 (m.ref (s.storeRef m.size m.align)) a) (hdis : s.disabledCode [f2] = 0)
    (hb3 : post.updates = true → s.badTarget r3 = false) (hn : (m != .whole && s.fpr f2 == Fr.natVal) = false)
    (hhigh : m = .whole → s.blockOffset (a.pa + 8) = none) (hi : exec i s = storeFr m post qp f2 r3 s) :
    exec i s = finish s (done ((s.wrote a (imageMemory s.mem m a.pa (s.psrBit Psr.be) (s.fpr f2))
      (alatKept s.alat a.pa m.size)).postUpdate s r3 post)) := by
  have ⟨hq, _, hnat, _, _, _, hlow⟩ := hw
  refine hi.trans (predicated_done hq ?_)
  rw [hnat, hn, ← touch_alatInvalRange]
  exact (bind_of_ok (checkPost_of_target hb3)).trans ((bind_of_ok (checkFp_of_enabled hdis)).trans
    ((bind_of_ok (translateData_of_reaches hw)).trans (bind_of_ok (writeFr_eq hlow hhigh))))

/-- A store of a format other than that of a spill. -/
theorem storeFr_done (hw : WriteReaches s qp r3 (m.ref (s.storeRef m.size m.align)) a) (hdis : s.disabledCode [f2] = 0)
    (hb3 : post.updates = true → s.badTarget r3 = false) (hm : m ≠ .whole) (hn : s.fpr f2 ≠ Fr.natVal)
    (hi : exec i s = storeFr m post qp f2 r3 s) {w : Nat} {v : BitVec w}
    (hv : ∀ k, k < m.size → (fld (m.encode (s.fpr f2)) (8 * k) 8 : Byte) = fld v (8 * k) 8) :
    StoresValue i s post r3 a m.size s.ar v := by
  have ⟨_, hss, _, hwf, _⟩ := hw
  obtain ⟨u, he, hplace, hmem, halat, hdtc, hbase, hgr, hset⟩ := wrote_completes hss hb3
    (storeFr_eq hw hdis hb3 (by simp [hn]) (fun h => absurd h hm) hi)
  have hbytes : u.mem = Memory.writeBytes s.mem (physAddr a.pa)
      (orderBytes (s.psrBit Psr.be) (toBytesLE m.size (m.encode (s.fpr f2)))) := by
    rw [hmem]
    cases m with
    | single | double | extended | integer => rfl
    | whole => exact absurd rfl hm
  obtain ⟨hstored, hout⟩ := stored_write s u hwf a.pa m.size _ _ hbytes
  refine ⟨u, he, hplace, hstored.congr hv, hout, hbase, hgr, fun e => by rw [halat, mem_alatKept], hdtc, ?_⟩
  rw [hset, ← State.touch_ar s a]

/-- A spill of a floating-point register that completes (R648). -/
def SpillsFr (i : Instr) (s : State) (f2 r3 : BitVec 7) (post : Post) (a : Translation) : Prop :=
  ∃ u, exec i s = .next u ∧ u.place = s.nextPlace ∧ Stored u a.pa 8 (s.psrBit Psr.be) (s.fpr f2).sig ∧
    Stored u (a.pa + 8) 8 (s.psrBit Psr.be) ((s.fpr f2).exp.zeroExtend 64 ||| if (s.fpr f2).sign then 0x20000 else 0) ∧
    SameOutside s u a.pa 16 ∧ (post.updates = true → u.gr r3 = s.postValue r3 post) ∧
    (∀ r, (post.updates = true → s.grLoc r ≠ s.grLoc r3) → u.gr r = s.gr r) ∧ AlatAfterStore s u a.pa 16 ∧
    u.settled = (({ s.touch a with alat := u.alat, mem := u.mem } : State).postUpdate s r3 post).settled

theorem storeFr_spills (hw : WriteReaches s qp r3 (FpFormat.whole.ref (s.storeRef 16 16)) a)
    (hdis : s.disabledCode [f2] = 0) (hb3 : post.updates = true → s.badTarget r3 = false)
    (hhigh : s.blockOffset (a.pa + 8) = none) (hpa : physAddr (a.pa + 8) = physAddr a.pa + 8)
    (hi : exec i s = storeFr .whole post qp f2 r3 s) : SpillsFr i s f2 r3 post a := by
  have ⟨_, hss, _, hwf, _⟩ := hw
  obtain ⟨u, he, hplace, hmem, halat, -, hbase, hgr, hset⟩ := wrote_completes hss hb3
    (storeFr_eq (m := .whole) hw hdis hb3 rfl (fun _ => hhigh) hi)
  obtain ⟨hsig, hsignExp, hout⟩ := stored_twoWords hwf hpa hmem
  rw [signExp_eq] at hsignExp
  exact ⟨u, he, hplace, hsig, hsignExp, hout, hbase, hgr, fun e => by rw [halat, mem_alatKept]; rfl, hset⟩

end

/-- Settles O16: each form is `storeFr` of its operands, which writes the image of its format through its reference. -/
theorem fpStoresWriteMemory : Obligations.FpStoresWriteMemory := by
  intro s qp f2 r3 a hint h imm hdis ready narrow spills
  have hnarrow (i : Instr) (m : FpFormat) (post : Post) (hw : ready m) (hn : s.fpr f2 ≠ Fr.natVal)
      (hb3 : post.updates = true → s.badTarget r3 = false) (hi : exec i s = storeFr m post qp f2 r3 s) :
      narrow i m post := by
    cases m with
    | single =>
      refine storeFr_done hw hdis hb3 nofun hn hi fun k (hk : k < 4) => fld_zeroExtend _ ?_
      omega
    | double | integer =>
      refine storeFr_done hw hdis hb3 nofun hn hi fun k (hk : k < 8) => fld_zeroExtend _ ?_
      omega
    | extended => exact storeFr_done hw hdis hb3 nofun hn hi fun _ _ => rfl
    | whole => trivial
  refine ⟨fun g hg hw hn => ?_, fun hb3 g hg hw hn => ?_, fun hw hhigh hpa => ⟨?_, fun hb3 => ?_⟩⟩
  · exact hnarrow _ _ _ hw hn nofun (exec_fpStoreForms s qp f2 r3 hint h g hg)
  · exact hnarrow _ _ _ hw hn (fun _ => hb3) (exec_fpStoreImmForms s qp f2 r3 hint imm g hg)
  · exact storeFr_spills hw hdis nofun hhigh hpa rfl
  · exact storeFr_spills hw hdis (fun _ => hb3) hhigh hpa rfl

end Sys2Proof.Machine
end

section
/-! ### Floating-point memory formats -/
namespace Sys2Proof.Machine

/-! #### Significands -/

/-- The fields of a significand: the integer bit, the fraction, zeros. -/
theorem significand_fields {k n : Nat} (c : Bool) (frac : BitVec k) :
    (fld (BitVec.ofBool c ++ frac ++ (0 : BitVec n)) n k : BitVec k) = frac ∧
      (fld (BitVec.ofBool c ++ frac ++ (0 : BitVec n)) 0 n : BitVec n) = 0 ∧
      (BitVec.ofBool c ++ frac ++ (0 : BitVec n)).getLsbD (n + k) = c := by
  refine ⟨?_, ?_, ?_⟩
  · rw [(fld_append _ _).1 le_rfl, Nat.sub_self, (fld_append _ _).2 (Nat.zero_add k).le, fld_whole]
  · rw [(fld_append _ _).2 (Nat.zero_add n).le, fld_whole]
  · rw [BitVec.getLsbD_append, if_neg (by omega), BitVec.getLsbD_append, if_neg (by omega)]
    simp

theorem ofBool_bit {n : Nat} (m : BitVec n) (k : Nat) : BitVec.ofBool (bit m k) = (fld m k 1 : BitVec 1) := by
  apply BitVec.eq_of_getLsbD_eq
  intro j hj
  obtain rfl : j = 0 := by omega
  rw [getLsbD_fld]
  simp [bit]

/-! #### Exponents (R649) -/

/-- The register exponent for the exponent field `e` of a memory format: the bias is `2 ^ k - 1` in the format and
`2 ^ 16 - 1` in the register, the greatest field stands for infinities and NaNs, and the field 0 for `z`. -/
def registerExponent {k : Nat} (e : BitVec (1 + k)) (z : BitVec 17) : BitVec 17 :=
  if e = BitVec.allOnes (1 + k) then 0x1FFFF
  else if e = 0 then z else e.zeroExtend 17 + BitVec.ofNat 17 (2 ^ 16 - 2 ^ k)

/-- The exponent field that is stored for a register exponent (R649). -/
def storedExponent (k : Nat) (x : BitVec 17) : BitVec (1 + k) := (fld x 16 1 : BitVec 1) ++ (fld x 0 k : BitVec k)

section
variable {k : Nat} {e : BitVec (1 + k)} {z : BitVec 17}

theorem registerExponent_allOnes : registerExponent (BitVec.allOnes (1 + k)) z = 0x1FFFF := if_pos rfl

theorem registerExponent_zero : registerExponent (0 : BitVec (1 + k)) z = z := by
  rw [registerExponent, if_neg, if_pos rfl]
  exact fun h => absurd (congrArg (fun w => w.getLsbD 0) h) (by simp)

theorem registerExponent_toNat (hk : k ≤ 16) (h0 : e ≠ 0) (h1 : e ≠ BitVec.allOnes (1 + k)) :
    (registerExponent e z).toNat = e.toNat + (2 ^ 16 - 2 ^ k) := by
  have he : e.toNat < 2 * 2 ^ k := by simpa [Nat.pow_add] using e.isLt
  have hle : 2 ^ k ≤ 2 ^ 16 := Nat.pow_le_pow_right (by decide) hk
  rw [registerExponent, if_neg h1, if_neg h0, BitVec.toNat_add, BitVec.toNat_setWidth, BitVec.toNat_ofNat]
  omega

/-- A register exponent whose bias is larger by `2 ^ 16 - 2 ^ k`: its bits below `k` are the field's, and its bit 16 is the
field's bit `k`. -/
theorem storedExponent_of_toNat (hk : k ≤ 16) {x : BitVec 17} (hx : x.toNat = e.toNat + (2 ^ 16 - 2 ^ k)) :
    storedExponent k x = e := by
  have hpow : 2 ^ 16 = 2 ^ k * 2 ^ (16 - k) := by rw [← Nat.pow_add, Nat.add_sub_cancel' hk]
  have he : e.toNat < 2 * 2 ^ k := by simpa [Nat.pow_add] using e.isLt
  have hle : 2 ^ k ≤ 2 ^ 16 := Nat.pow_le_pow_right (by decide) hk
  have hlow : x.toNat % 2 ^ k = e.toNat % 2 ^ k := by
    rw [hx, hpow, ← Nat.mul_sub_one, Nat.add_mul_mod_self_left]
  have hhigh : x.toNat / 2 ^ 16 % 2 = e.toNat / 2 ^ k := by
    by_cases h : e.toNat < 2 ^ k
    · rw [Nat.div_eq_of_lt h, Nat.div_eq_of_lt (by omega)]
    · rw [Nat.div_eq_of_lt_le (k := 1) (by omega) (by omega), Nat.div_eq_of_lt_le (k := 1) (by omega) (by omega)]
  apply BitVec.eq_of_toNat_eq
  rw [storedExponent, BitVec.toNat_append, fld, fld, BitVec.extractLsb'_toNat, BitVec.extractLsb'_toNat,
    Nat.shiftRight_zero, Nat.shiftRight_eq_div_pow, Nat.pow_one, hhigh, hlow,
    ← Nat.shiftLeft_add_eq_or_of_lt (Nat.mod_lt _ (Nat.two_pow_pos k)), Nat.shiftLeft_eq, Nat.div_add_mod']

theorem storedExponent_allOnes (hk : k ≤ 16) : storedExponent k 0x1FFFF = BitVec.allOnes (1 + k) := by
  apply BitVec.eq_of_getLsbD_eq
  intro j hj
  rw [storedExponent, show (0x1FFFF : BitVec 17) = BitVec.allOnes 17 from rfl, BitVec.getLsbD_append, getLsbD_fld,
    getLsbD_fld, BitVec.getLsbD_allOnes, BitVec.getLsbD_allOnes, BitVec.getLsbD_allOnes]
  split
  · next h => simp [h, hj, show j < 17 by omega]
  · next h => simp [hj, show j - k < 1 by omega, show 16 + (j - k) < 17 by omega]

/-- Storing what was loaded, where the field is not 0. -/
theorem storedExponent_registerExponent (hk : k ≤ 16) (h0 : e ≠ 0) :
    storedExponent k (registerExponent e z) = e := by
  by_cases h1 : e = BitVec.allOnes (1 + k)
  · rw [h1, registerExponent_allOnes, storedExponent_allOnes hk]
  · exact storedExponent_of_toNat hk (registerExponent_toNat hk h0 h1)

end

/-! #### The formats -/

theorem frOfSingle_exp (m : BitVec 32) : (frOfSingle m).exp =
    registerExponent (k := 7) (fld m 23 8) (if (fld m 0 23 : BitVec 23) = 0 then 0 else 0xFF81) := rfl

theorem frOfDouble_exp (m : BitVec 64) : (frOfDouble m).exp =
    registerExponent (k := 10) (fld m 52 11) (if (fld m 0 52 : BitVec 52) = 0 then 0 else 0xFC01) := rfl

theorem frOfExtended_exp (m : BitVec 80) : (frOfExtended m).exp = registerExponent (k := 14) (fld m 64 15) 0 := rfl

theorem toSingle_eq (x : Fr) : x.toSingle =
    BitVec.ofBool x.sign ++ (if bit x.sig 63 then storedExponent 7 x.exp else 0) ++ (fld x.sig 40 23 : BitVec 23) := rfl

theorem toDouble_eq (x : Fr) : x.toDouble =
    BitVec.ofBool x.sign ++ (if bit x.sig 63 then storedExponent 10 x.exp else 0) ++ (fld x.sig 11 52 : BitVec 52) := rfl

theorem toExtended_eq (x : Fr) : x.toExtended = BitVec.ofBool x.sign ++ storedExponent 14 x.exp ++ x.sig := by
  rw [Fr.toExtended, storedExponent, BitVec.append_assoc (x₁ := BitVec.ofBool x.sign)]
  rfl

/-- The exponent field of a format that has no integer bit, where the integer bit says that the field is not 0. -/
theorem storedField_registerExponent {k : Nat} (hk : k ≤ 16) (e : BitVec (1 + k)) (z : BitVec 17) {c : Bool}
    (hc : c = (e != 0)) : (if c then storedExponent k (registerExponent e z) else 0) = e := by
  subst hc
  by_cases h0 : e = 0
  · simp [h0]
  · rw [if_pos (bne_iff_ne.mpr h0), storedExponent_registerExponent hk h0]

theorem storedExponent_registerExponent_zero {k : Nat} (hk : k ≤ 16) (e : BitVec (1 + k)) :
    storedExponent k (registerExponent e 0) = e := by
  by_cases h0 : e = 0
  · rw [h0, registerExponent_zero, storedExponent]
    apply BitVec.eq_of_getLsbD_eq
    intro j _
    simp [BitVec.getLsbD_append, getLsbD_fld]
  · exact storedExponent_registerExponent hk h0

theorem toSingle_frOfSingle (m : BitVec 32) : (frOfSingle m).toSingle = m := by
  obtain ⟨hfrac, -, hbit⟩ := significand_fields (k := 23) (n := 40) ((fld m 23 8 : BitVec 8) != 0) (fld m 0 23)
  calc (frOfSingle m).toSingle
      = BitVec.ofBool (bit m 31) ++ (fld m 23 8 : BitVec 8) ++ (fld m 0 23 : BitVec 23) := by
        rw [toSingle_eq, frOfSingle_exp, storedField_registerExponent (by decide) _ _ hbit]
        exact congrArg _ hfrac
    _ = m := by
        rw [ofBool_bit, fld_append_fld m (lo := 23) (len := 8) rfl,
          fld_append_fld m (lo := 0) (len := 23) rfl]
        exact fld_whole m

theorem toDouble_frOfDouble (m : BitVec 64) : (frOfDouble m).toDouble = m := by
  obtain ⟨hfrac, -, hbit⟩ := significand_fields (k := 52) (n := 11) ((fld m 52 11 : BitVec 11) != 0) (fld m 0 52)
  calc (frOfDouble m).toDouble
      = BitVec.ofBool (bit m 63) ++ (fld m 52 11 : BitVec 11) ++ (fld m 0 52 : BitVec 52) := by
        rw [toDouble_eq, frOfDouble_exp, storedField_registerExponent (by decide) _ _ hbit]
        exact congrArg _ hfrac
    _ = m := by
        rw [ofBool_bit, fld_append_fld m (lo := 52) (len := 11) rfl,
          fld_append_fld m (lo := 0) (len := 52) rfl]
        exact fld_whole m

theorem toExtended_frOfExtended (m : BitVec 80) : (frOfExtended m).toExtended = m := by
  calc (frOfExtended m).toExtended
      = BitVec.ofBool (bit m 79) ++ (fld m 64 15 : BitVec 15) ++ (fld m 0 64 : BitVec 64) := by
        rw [toExtended_eq, frOfExtended_exp, storedExponent_registerExponent_zero (by decide)]
        rfl
    _ = m := by
        rw [ofBool_bit, fld_append_fld m (lo := 64) (len := 15) rfl,
          fld_append_fld m (lo := 0) (len := 64) rfl]
        exact fld_whole m

/-- A normal exponent loses the format's bias and gets the register's; the two special fields (R649). -/
theorem registerExponent_values {k : Nat} (hk : k ≤ 16) (e : BitVec (1 + k)) (z : BitVec 17) :
    (0 < e.toNat → e.toNat < 2 ^ (1 + k) - 1 → (registerExponent e z).toNat + (2 ^ k - 1) = e.toNat + 65535) ∧
      (e = BitVec.allOnes (1 + k) → registerExponent e z = 0x1FFFF) ∧ (e = 0 → registerExponent e z = z) := by
  refine ⟨fun hpos hlt => ?_, fun h => h ▸ registerExponent_allOnes, fun h => h ▸ registerExponent_zero⟩
  have h0 : e ≠ 0 := fun h => by rw [h] at hpos; simp at hpos
  have h1 : e ≠ BitVec.allOnes (1 + k) := fun h => by rw [h, BitVec.toNat_allOnes] at hlt; exact lt_irrefl _ hlt
  have hpow : 2 ^ k ≤ 2 ^ 16 := Nat.pow_le_pow_right (by decide) hk
  have hpos : 0 < 2 ^ k := Nat.two_pow_pos k
  rw [registerExponent_toNat hk h0 h1]
  omega

/-- Settles O17: the exponents of the three formats are one function of the field and its width, undone by the store. -/
theorem fpMemoryFormats : Obligations.FpMemoryFormats := by
  refine ⟨fun m => ?_, fun m => ?_, fun m => ?_⟩
  · obtain ⟨hfrac, hlow, hbit⟩ := significand_fields (k := 23) (n := 40) ((fld m 23 8 : BitVec 8) != 0) (fld m 0 23)
    obtain ⟨hnormal, htop, hzero⟩ := registerExponent_values (k := 7) (by decide) (fld m 23 8)
      (if (fld m 0 23 : BitVec 23) = 0 then 0 else 0xFF81)
    exact ⟨rfl, hfrac, hlow, (Bool.eq_iff_iff.mp hbit).trans bne_iff_ne, hnormal, htop, hzero, toSingle_frOfSingle m⟩
  · obtain ⟨hfrac, hlow, hbit⟩ := significand_fields (k := 52) (n := 11) ((fld m 52 11 : BitVec 11) != 0) (fld m 0 52)
    obtain ⟨hnormal, htop, hzero⟩ := registerExponent_values (k := 10) (by decide) (fld m 52 11)
      (if (fld m 0 52 : BitVec 52) = 0 then 0 else 0xFC01)
    exact ⟨rfl, hfrac, hlow, (Bool.eq_iff_iff.mp hbit).trans bne_iff_ne, hnormal, htop, hzero, toDouble_frOfDouble m⟩
  · obtain ⟨hnormal, htop, hzero⟩ := registerExponent_values (k := 14) (by decide) (fld m 64 15) 0
    exact ⟨rfl, rfl, hnormal, htop, hzero, toExtended_frOfExtended m⟩

end Sys2Proof.Machine
end

section
/-! ### Loads that are deferred -/
namespace Sys2Proof.Machine

/-- The load of type `t` whose base is GR `r3` is deferred, the VHPT walker having inserted `walked` (R602, R603, R611, R167):
it is speculative with a NaT base or under PSR.ed, its fault is deferred, or its page may not be read speculatively. -/
def State.Defers (s : State) (t : LdType) (r3 : BitVec 7) (r : Ref) (walked : Option TlbEntry) : Prop :=
  (t.speculative = true ∧ ((s.gr r3).nat = true ∨ s.psrBit Psr.ed = true) ∧ walked = none) ∨
    ((s.gr r3).nat = false ∧ (t.speculative = true → s.psrBit Psr.ed = false) ∧
      s.checkWalk false walked = .ok () ∧
      ((t.speculative = true ∧ ∃ x : Interruption,
          (s.psrBit Psr.ic = false ∨ (x.vector = Ivt.natConsumption ∧ x.code = 0x20)) ∧
          s.translate (s.psrBit Psr.dt) (s.gr r3).val r = .error ⟨x, walked⟩) ∨
        ((t.speculative = true ∨ t.advanced = true) ∧ ∃ a : Translation, a.walked = walked ∧
          s.translate (s.psrBit Psr.dt) (s.gr r3).val r = .ok a ∧ maSpeculative a.ma = false)))

/-- A speculative load takes the fault of its translation that is not deferred (R602). -/
def RaisesUndeferred (i : Instr) (s : State) (t : LdType) (r3 : BitVec 7) (r : Ref) : Prop :=
  t.speculative = true → (s.gr r3).nat = false → s.psrBit Psr.ed = false → s.psrBit Psr.ic = true → ∀ x : Faulted,
    s.translate (s.psrBit Psr.dt) (s.gr r3).val r = .error x →
    ¬ (x.fault.vector = Ivt.natConsumption ∧ x.fault.code = 0x20) → TrapsAt i s x

/-- What a deferred load does beside its targets. -/
def DeferralFrame (s u : State) (t : LdType) (r3 : BitVec 7) (post : Post) (reg : AlatReg) : Prop :=
  u.place = s.nextPlace ∧ (post.updates = true → u.gr r3 = s.postValue r3 post) ∧ SameMemory s u ∧
    (t.advanced = true → ∀ e ∈ u.alat, e.reg ≠ reg) ∧ (t = .s → u.alat = s.alat) ∧
    (∀ e, e.reg ≠ reg → (e ∈ u.alat ↔ e ∈ s.alat))

section
variable {i : Instr} {s u : State} {qp : BitVec 6} {r1 r3 f1 f2 : BitVec 7} {t : LdType} {m : FpFormat} {hint : BitVec 3}
  {post : Post} {a : Translation} {r : Ref} {walked : Option TlbEntry} {fill : Bool} {n : Nat} {reg : AlatReg}

/-! #### Where a deferred load goes -/

theorem State.Defers.type (h : s.Defers t r3 r walked) : t.speculative = true ∨ t.advanced = true := by
  obtain ⟨hsp, -⟩ | ⟨-, -, -, ⟨hsp, -⟩ | ⟨htype, -⟩⟩ := h
  · exact .inl hsp
  · exact .inl hsp
  · exact htype

/-- Neither speculative nor advanced loads are check loads. -/
theorem isCheck_eq_false (h : t.speculative = true ∨ t.advanced = true) : t.isCheck = false := by
  cases t with
  | s | a | sa => rfl
  | normal | bias | acq | cClr | cNc | cClrAcq => simp [LdType.speculative, LdType.advanced] at h

theorem State.Defers.natChecked (h : s.Defers t r3 r walked) : (!t.speculative && (s.gr r3).nat) = false := by
  obtain ⟨hsp, -⟩ | ⟨hnat, -⟩ := h
  · rw [hsp]; rfl
  · rw [hnat, Bool.and_false]

theorem loadAddress_of_defers (h : s.Defers t r3 r walked) :
    s.loadAddress t hint (s.gr r3) r = .ok (.deferred walked) := by
  unfold State.loadAddress
  obtain ⟨hsp, hcause, rfl⟩ | ⟨hnat, hed, hwalk, ⟨hsp, x, hx, htr⟩ | ⟨htype, a, rfl, htr, hma⟩⟩ := h
  · have hdefer : (t.speculative && ((s.gr r3).nat || s.psrBit Psr.ed)) = true := by simpa [hsp] using hcause
    rw [if_pos hdefer]
  · have hfault : s.defersFault x = true := by simpa [State.defersFault] using hx
    rw [hnat, hed hsp, htr]
    simp [hsp, hfault, bind_of_ok hwalk]
  · have hpass : (t.speculative && ((s.gr r3).nat || s.psrBit Psr.ed)) = false := by
      cases hsp : t.speculative with
      | false => rfl
      | true => rw [hnat, hed hsp]; rfl
    rw [hpass, htr]
    simp [bind_of_ok hwalk, htype, hma]

theorem loadAddress_of_undeferred {x : Faulted} (hnat : (s.gr r3).nat = false) (hed : s.psrBit Psr.ed = false)
    (hic : s.psrBit Psr.ic = true) (hx : s.translate (s.psrBit Psr.dt) (s.gr r3).val r = .error x)
    (hkind : ¬ (x.fault.vector = Ivt.natConsumption ∧ x.fault.code = 0x20)) :
    s.loadAddress t hint (s.gr r3) r = s.faulted x := by
  have hfault : s.defersFault x.fault = false := by simpa [State.defersFault, hic] using hkind
  unfold State.loadAddress
  rw [hnat, hed, hx]
  simp [hfault]

/-! #### What is left of it -/

/-- A load that is deferred loses its ALAT entry if it is an advanced one. -/
theorem keepWalk_skipAlat_alat (hc : t.isCheck = false) : ((s.keepWalk walked).skipAlat t reg).alat =
    if t.advanced then s.alat.filter fun e => e.reg ≠ reg else s.alat := by
  have hclear : t.checkClear = false := (Bool.or_eq_false_iff.mp hc).2
  rw [State.skipAlat, hclear, Bool.false_or]
  split
  · rw [State.alatInvalEntry, State.keepWalk_alat]
  · rw [State.keepWalk_alat]

theorem deferralFrame_of_alat (hc : t.isCheck = false) (hplace : u.place = s.nextPlace)
    (hbase : post.updates = true → u.gr r3 = s.postValue r3 post) (hmem : SameMemory s u)
    (halat : u.alat = ((s.keepWalk walked).skipAlat t reg).alat) : DeferralFrame s u t r3 post reg := by
  rw [keepWalk_skipAlat_alat hc] at halat
  refine ⟨hplace, hbase, hmem, fun hadv e he => ?_, fun ht => ?_, fun e he => ?_⟩
  · rw [halat, if_pos hadv] at he
    simpa using (List.mem_filter.mp he).2
  · rw [halat, ht]
    rfl
  · rw [halat]
    split
    · simp [he]
    · rfl

/-- The state in which the targets of a deferred load are written. -/
theorem deferred_eq (s : State) (walked : Option TlbEntry) (t : LdType) (reg : AlatReg) :
    (s.keepWalk walked).skipAlat t reg =
      { s.keepWalk walked with alat := ((s.keepWalk walked).skipAlat t reg).alat } := skipAlat_eq _ _ _

theorem sameRegisters_deferred (s : State) (walked : Option TlbEntry) (t : LdType) (reg : AlatReg) :
    SameRegisters s ((s.keepWalk walked).skipAlat t reg) := by
  rw [deferred_eq, keepWalk_eq]
  exact ⟨rfl, rfl, rfl, fun _ => rfl, fun _ => rfl⟩

/-! #### Floating-point loads -/

/-- A deferred floating-point load: NaTVal, or of an advanced load zero, in the targets. -/
def DefersFr (i : Instr) (s : State) (t : LdType) (r3 : BitVec 7) (post : Post) (r : Ref) (f1 : BitVec 7)
    (targets : List (BitVec 7)) : Prop :=
  RaisesUndeferred i s t r3 r ∧ ∀ walked, s.Defers t r3 r walked →
    ∃ u, exec i s = .next u ∧ DeferralFrame s u t r3 post (s.alatFr f1) ∧ (∀ f ∈ targets, u.fpr f = deferredFr t) ∧
      (∀ f, f ∉ targets → u.fpr f = s.fpr f) ∧
      (∀ q, (post.updates = true → s.grLoc q ≠ s.grLoc r3) → u.gr q = s.gr q) ∧
      u.settled = ((targets.foldl (fun w f => w.setFpr f (deferredFr t))
        ({ s.keepWalk walked with alat := u.alat } : State)).postUpdate s r3 post).settled

theorem defersFr_of_into {into : Except Stop State} {fs : List (BitVec 7)} (hq : s.prBit qp = true)
    (hss : s.psrBit Psr.ss = false) (hfs : ∀ f ∈ fs, f ≠ 0 ∧ f ≠ 1)
    (hb3 : post.updates = true → s.badTarget r3 = false)
    (hi : (!t.speculative && (s.gr r3).nat) = false → ExecInto i s qp r3 post into)
    (hfaulted : t.isCheck = false → ∀ x, s.loadAddress t hint (s.gr r3) r = s.faulted x → into = s.faulted x)
    (hdeferred : t.isCheck = false → ∀ walked, s.loadAddress t hint (s.gr r3) r = .ok (.deferred walked) →
      into = .ok (((s.keepWalk walked).skipAlat t (s.alatFr f1)).setFprs fs fun _ => deferredFr t)) :
    DefersFr i s t r3 post r f1 fs := by
  refine ⟨fun hsp hnat hed hic x hx hkind => trapsAt_of_exec hq ?_, fun walked hd => ?_⟩
  · rw [hi (by rw [hsp]; rfl), hfaulted (isCheck_eq_false (.inl hsp)) x
      (loadAddress_of_undeferred hnat hed hic hx hkind), faulted_bind]
  · have hc := isCheck_eq_false hd.type
    obtain ⟨u, he, hplace, hin, hout, hbase, hgr, hmem, halat, -, hset⟩ :=
      setFprs_completes hss (sameRegisters_deferred s walked t (s.alatFr f1))
        (fpr_congr (by rw [deferred_eq]; simp) (by rw [deferred_eq]; simp)) hfs hb3
        (exec_of_into hq (hi hd.natChecked) (hdeferred hc walked (loadAddress_of_defers hd)))
    have hsame : u.mem = s.mem := by rw [hmem, deferred_eq]; simp
    refine ⟨u, he, deferralFrame_of_alat hc hplace hbase (fun x => congrArg (Memory.readByte · x) hsame) halat, hin,
      hout, hgr, ?_⟩
    rw [hset, halat, ← deferred_eq]
    rfl

theorem loadFr_defers (hq : s.prBit qp = true) (hss : s.psrBit Psr.ss = false) (hf1 : FrOk s f1)
    (hb3 : post.updates = true → s.badTarget r3 = false) (hi : exec i s = loadFr t m hint post qp f1 r3 s) :
    DefersFr i s t r3 post (m.ref (s.loadRef t m.size m.align)) f1 [f1] := by
  refine defersFr_of_into (hint := hint) hq hss (by simpa using frOk_ne hf1) hb3 (fun hn => loadFr_into hf1 hb3 hn hi)
    (fun hc x hx => ?_) fun hc walked hx => ?_
  · simp only [State.loadFrInto, hc, Bool.false_and, Bool.false_eq_true, if_false, hx, faulted_bind]
  · simp only [State.loadFrInto, hc, Bool.false_and, Bool.false_eq_true, if_false]
    exact bind_of_ok hx

theorem loadPair_defers (hq : s.prBit qp = true) (hss : s.psrBit Psr.ss = false) (hf1 : FrOk s f1) (hf2 : FrOk s f2)
    (hodd : f1.getLsbD 0 ≠ f2.getLsbD 0) (hb3 : post.updates = true → s.badTarget r3 = false)
    (hi : exec i s = loadPair t m hint post qp f1 f2 r3 s) :
    DefersFr i s t r3 post (s.loadRef t (2 * m.size) (2 * m.size)) f1 [f1, f2] := by
  refine defersFr_of_into (hint := hint) hq hss (by simpa using ⟨frOk_ne hf1, frOk_ne hf2⟩) hb3
    (fun hn => loadPair_into hf1 hf2 hodd hb3 hn hi) (fun hc x hx => ?_) fun hc walked hx => ?_
  · simp only [State.loadPairInto, hc, Bool.false_and, Bool.false_eq_true, if_false, hx, faulted_bind]
  · simp only [State.loadPairInto, hc, Bool.false_and, Bool.false_eq_true, if_false]
    exact bind_of_ok hx

/-! #### Integer loads -/

/-- A deferred integer load: a NaT bit, or of an advanced load zero, in GR `r1`. -/
def DefersGr (i : Instr) (s : State) (t : LdType) (r1 r3 : BitVec 7) (post : Post) (r : Ref) : Prop :=
  RaisesUndeferred i s t r3 r ∧ ∀ walked, s.Defers t r3 r walked →
    ∃ u v, exec i s = .next u ∧ DeferralFrame s u t r3 post (s.alatGr r1) ∧ u.gr r1 = v ∧
      (if t.speculative then v.nat = true else v = ⟨0, false⟩) ∧
      (∀ q, s.grLoc q ≠ s.grLoc r1 → (post.updates = true → s.grLoc q ≠ s.grLoc r3) → u.gr q = s.gr q) ∧
      u.settled = ((({ s.keepWalk walked with alat := u.alat } : State).setGr r1 v).postUpdate s r3 post).settled

/-- What a deferred integer load leaves in its target (R602, R611). -/
def State.deferredGr (s : State) (t : LdType) : Gr :=
  if t.speculative then ⟨Config.freeWord .natd s.fresh, true⟩ else Gr.ofWord 0

theorem loadGr_into (hb : s.badTarget r1 = false) (hb3 : post.updates = true → s.badTarget r3 = false)
    (hne : post.updates = true → s.grLoc r1 ≠ s.grLoc r3) (hn : (!t.speculative && (s.gr r3).nat) = false)
    (hi : exec i s = loadGr t fill n hint post qp r1 r3 s) :
    ExecInto i s qp r3 post (s.loadInto t fill n hint r1 r3) := by
  have hdistinct : (post.updates && r1 == r3) = false := by
    cases hu : post.updates with
    | false => rfl
    | true => exact beq_eq_false_iff_ne.mpr fun h => hne hu (by rw [h])
  refine hi.trans (congrArg (predicated qp s) ?_)
  rw [hdistinct, State.checkTarget, hb, hn]
  exact bind_of_ok (checkPost_of_target hb3)

theorem loadInto_of_faulted {x : Faulted} (hc : t.isCheck = false)
    (hx : s.loadAddress t hint (s.gr r3) (s.loadRef t n n) = s.faulted x) :
    s.loadInto t fill n hint r1 r3 = s.faulted x := by
  simp only [State.loadInto, hc, Bool.false_and, Bool.false_eq_true, if_false, hx, faulted_bind]

theorem loadInto_of_deferred (hc : t.isCheck = false)
    (hx : s.loadAddress t hint (s.gr r3) (s.loadRef t n n) = .ok (.deferred walked)) :
    s.loadInto t fill n hint r1 r3 =
      .ok (((s.keepWalk walked).skipAlat t (s.alatGr r1)).setGr r1 (s.deferredGr t)) := by
  simp only [State.loadInto, hc, Bool.false_and, Bool.false_eq_true, if_false]
  exact bind_of_ok hx

theorem deferredGr_nat (s : State) (t : LdType) :
    if t.speculative then (s.deferredGr t).nat = true else s.deferredGr t = ⟨0, false⟩ := by
  unfold State.deferredGr
  split
  · rfl
  · rfl

theorem loadGr_defers (hq : s.prBit qp = true) (hss : s.psrBit Psr.ss = false) (hb : s.badTarget r1 = false)
    (hb3 : post.updates = true → s.badTarget r3 = false) (hne : post.updates = true → s.grLoc r1 ≠ s.grLoc r3)
    (hi : exec i s = loadGr t fill n hint post qp r1 r3 s) :
    DefersGr i s t r1 r3 post (s.loadRef t n n) := by
  refine ⟨fun hsp hnat hed hic x hx hkind => trapsAt_of_exec hq ?_, fun walked hd => ?_⟩
  · rw [loadGr_into hb hb3 hne (by rw [hsp]; rfl) hi, loadInto_of_faulted (isCheck_eq_false (.inl hsp))
      (loadAddress_of_undeferred hnat hed hic hx hkind), faulted_bind]
  · have hc := isCheck_eq_false hd.type
    obtain ⟨u, hu, hplace, hr1, hbase, hother, hmem, halat, -, hset⟩ := retire_load s (s.keepWalk walked) _ _
      (by rw [keepWalk_eq]) (deferred_eq s walked t (s.alatGr r1)) r1 r3 (s.deferredGr t) post hss hb hb3 hne
    have hexec := exec_of_into hq (loadGr_into hb hb3 hne hd.natChecked hi)
      (loadInto_of_deferred hc (loadAddress_of_defers hd))
    exact ⟨u, _, hexec.trans (congrArg _ hu), deferralFrame_of_alat hc hplace hbase hmem halat, hr1, deferredGr_nat s t,
      hother, hset⟩

end

/-- Settles O9: each form is its operation, which goes where `State.loadAddress` says: to the fault that is not deferred, or
to the end of a load that reads nothing. -/
theorem speculativeLoadsDefer : Obligations.SpeculativeLoadsDefer := by
  intro s qp r1 r2 r3 t hq hss defers raises frame grAt frAt
  refine ⟨fun size hb => ⟨fun f hf hint h => ?_, fun hb3 hne => ⟨fun f hf hint => ?_, fun f hf hint imm => ?_⟩⟩,
    fun f1 m hf1 => ⟨fun g hg hint h => ?_, fun hb3 => ⟨fun g hg hint => ?_, fun g hg hint imm => ?_⟩⟩,
    fun f1 f2 m hint hf1 hf2 hodd => ⟨fun g hg => ?_, fun hb3 g v hg => ?_⟩⟩
  · exact loadGr_defers hq hss hb nofun nofun (exec_loadForms s qp r1 r3 hint h _ hf)
  · exact loadGr_defers hq hss hb (fun _ => hb3) (fun _ => hne) (exec_loadRegForms s qp r1 r2 r3 hint _ hf)
  · exact loadGr_defers hq hss hb (fun _ => hb3) (fun _ => hne) (exec_loadImmForms s qp r1 r3 hint imm _ hf)
  · exact loadFr_defers hq hss hf1 nofun (exec_fpLoadForms s qp f1 r3 hint h _ hg)
  · exact loadFr_defers hq hss hf1 (fun _ => hb3) (exec_fpLoadRegForms s qp f1 r2 r3 hint _ hg)
  · exact loadFr_defers hq hss hf1 (fun _ => hb3) (exec_fpLoadImmForms s qp f1 r3 hint imm _ hg)
  · exact loadPair_defers hq hss hf1 hf2 hodd nofun (exec_pairForms s qp f1 f2 r3 hint _ hg)
  · exact loadPair_defers hq hss hf1 hf2 hodd (fun _ => hb3) (exec_pairUpdateForms s qp f1 f2 r3 hint _ hg)

end Sys2Proof.Machine
end

section
/-! ### Line prefetch -/
namespace Sys2Proof.Machine

/-- The operand numbers that are no targets (R17). -/
theorem badTarget_eq_true_iff {s : State} {r : BitVec 7} : s.badTarget r = true ↔ NoTarget s r := by
  have hzero : r = 0 ↔ r.toNat = 0 := by rw [← BitVec.toNat_inj]; rfl
  rw [NoTarget, hzero, State.badTarget, State.grLoc]
  by_cases h0 : r.toNat = 0
  · simp [h0]
  · by_cases h16 : r.toNat < 16
    · simp [h0, h16]; omega
    · by_cases h32 : r.toNat < 32
      · cases hbn : s.psrBit Psr.bn <;> simp [h0, h16, h32] <;> omega
      · by_cases hframe : r.toNat - 32 < s.cfm.sof.toNat
        · simp [h0, h16, h32, hframe]; omega
        · simp [h0, h16, h32, hframe]; omega

section
variable {i : Instr} {s u : State} {qp : BitVec 6} {r3 : BitVec 7} {post : Post} {a : Translation}

/-- `i` completes with the effect `u` and its base updated. -/
def UpdatesBase (i : Instr) (s u : State) (r3 : BitVec 7) (post : Post) : Prop :=
  ∃ t, exec i s = .next t ∧ t.place = s.nextPlace ∧ (post.updates = true → t.gr r3 = s.postValue r3 post) ∧
    (∀ q, (post.updates = true → s.grLoc q ≠ s.grLoc r3) → t.gr q = s.gr q) ∧ SameMemory s t ∧
    t.settled = (u.postUpdate s r3 post).settled

/-- The reference of `lfetch.fault`: the read of a byte, as a non-access one (R627). -/
def State.prefetchRef (s : State) : Ref :=
  { access := { r := true, na := true, naCode := 4 }, size := 1, align := 1, pl := s.cpl }

/-- An instruction that updates its base in a state with the registers and the memory of `s`. -/
theorem updatesBase_of_exec (hss : s.psrBit Psr.ss = false) (hu : SameRegisters s u) (hmem : u.mem = s.mem)
    (hb3 : post.updates = true → s.badTarget r3 = false)
    (hi : exec i s = finish s (done (u.postUpdate s r3 post))) : UpdatesBase i s u r3 post := by
  obtain ⟨t, he, hplace, hset⟩ := completes_of_exec (u := u.postUpdate s r3 post) hss
    (by rw [State.psrBit, State.postUpdate_psr]; exact hu.ss) (by rw [State.ri, State.postUpdate_psr]; exact hu.ri)
    ((State.postUpdate_ip ..).trans hu.ip) hi
  refine ⟨t, he, hplace, fun h => ?_, fun q hq => ?_, fun x => ?_, hset⟩
  · rw [gr_of_settled hset, postUpdate_gr _ _ _ _ h (hu.badTarget.trans (hb3 h))]
  · rw [gr_of_settled hset, postUpdate_gr_other _ _ _ _ _ (by rwa [hu.grLoc, hu.grLoc]), hu.gr]
  · exact congrArg (Memory.readByte · x) ((mem_of_settled hset).trans ((State.postUpdate_mem ..).trans hmem))

theorem prefetch_done (hq : s.prBit qp = true) (hss : s.psrBit Psr.ss = false)
    (hb3 : post.updates = true → s.badTarget r3 = false) (hi : exec i s = prefetch post qp r3 s) :
    UpdatesBase i s s r3 post :=
  updatesBase_of_exec hss (sameRegisters_refl s) rfl hb3
    (hi.trans (predicated_done hq (bind_of_ok (checkPost_of_target hb3))))

/-- What `lfetch.fault` does: with PSR.ed it is `lfetch`, else it takes the faults of its reference. -/
def PrefetchFaults (i : Instr) (s : State) (r3 : BitVec 7) (post : Post) : Prop :=
  (s.psrBit Psr.ed = true → UpdatesBase i s s r3 post) ∧
    (s.psrBit Psr.ed = false → (s.gr r3).nat = true →
      Traps i s (natConsumption { r := true, na := true, naCode := 4 })) ∧
    (s.psrBit Psr.ed = false → (s.gr r3).nat = false →
      (∀ a, s.translate (s.psrBit Psr.dt) (s.gr r3).val s.prefetchRef = .ok a →
        (s.checkWalk false a.walked = .ok () → UpdatesBase i s (s.touch a) r3 post) ∧
        (s.checkWalk false a.walked ≠ .ok () → exec i s = .fault .machineCheck)) ∧
      (∀ x, s.translate (s.psrBit Psr.dt) (s.gr r3).val s.prefetchRef = .error x → TrapsAt i s x))

/-- A VHPT walk that overlaps a translation register is a Machine Check (R208). -/
theorem translateData_of_overlap {ref : Ref} (htr : s.translate (s.psrBit Psr.dt) (s.gr r3).val ref = .ok a)
    (hwalk : s.checkWalk false a.walked ≠ .ok ()) :
    s.translateData (s.gr r3).val ref = .error (.stuck .machineCheck) := by
  have hstuck : s.checkWalk false a.walked = .error (.stuck .machineCheck) := by
    unfold State.checkWalk stuckIf at hwalk ⊢
    split at hwalk
    · next hc => rw [if_pos hc]
    · exact absurd rfl hwalk
  simp only [State.translateData, State.dataReference, htr, hstuck]
  rfl

theorem prefetchFault_eq (hq : s.prBit qp = true) (hb3 : post.updates = true → s.badTarget r3 = false)
    (hi : exec i s = prefetchFault post qp r3 s) : exec i s = finish s
      (if s.psrBit Psr.ed then done (s.postUpdate s r3 post)
      else check (s.gr r3).nat (natConsumption { r := true, na := true, naCode := 4 }) >>= fun _ =>
        s.translateData (s.gr r3).val s.prefetchRef >>= fun a => done ((s.touch a).postUpdate s r3 post)) := by
  rw [hi, prefetchFault, predicated, if_pos hq]
  exact congrArg (finish s) (bind_of_ok (checkPost_of_target hb3))

theorem prefetchFault_done (hq : s.prBit qp = true) (hss : s.psrBit Psr.ss = false)
    (hb3 : post.updates = true → s.badTarget r3 = false) (hi : exec i s = prefetchFault post qp r3 s) :
    PrefetchFaults i s r3 post := by
  have hexec := prefetchFault_eq hq hb3 hi
  refine ⟨fun hed => ?_, fun hed hnat => ?_, fun hed hnat => ?_⟩
  · rw [if_pos hed] at hexec
    exact updatesBase_of_exec hss (sameRegisters_refl s) rfl hb3 hexec
  · rw [hed, hnat] at hexec
    exact hexec
  · rw [hed, hnat] at hexec
    change exec i s = finish s (s.translateData (s.gr r3).val s.prefetchRef >>= fun a =>
      done ((s.touch a).postUpdate s r3 post)) at hexec
    refine ⟨fun a ha => ⟨fun hwalk => ?_, fun hwalk => ?_⟩, fun x hx => ?_⟩
    · rw [bind_of_ok (translateData_of_ok ha hwalk)] at hexec
      exact updatesBase_of_exec hss (sameRegisters_touch s a) (State.touch_mem s a) hb3 hexec
    · rw [translateData_of_overlap ha hwalk] at hexec
      exact hexec
    · rw [translateData_faulted hx, faulted_bind] at hexec
      exact ⟨fun h => hexec.trans (finish_faulted h), fun h => hexec.trans (finish_faulted_machineCheck h)⟩

/-- Both prefetches look at a base to be updated first (R17). -/
theorem prefetch_traps (hq : s.prBit qp = true) (hu : post.updates = true) (hbad : NoTarget s r3)
    (hi : exec i s = prefetch post qp r3 s ∨ exec i s = prefetchFault post qp r3 s) : Traps i s illegalOperation := by
  have hpost : s.checkPost r3 post = .error (.interrupt illegalOperation) := by
    rw [State.checkPost, hu, badTarget_eq_true_iff.mpr hbad]
    rfl
  rcases hi with hi | hi
  · refine traps_of_exec hq (hi.trans (congrArg (predicated qp s) ?_))
    rw [hpost]
    rfl
  · refine traps_of_exec hq (hi.trans (congrArg (predicated qp s) ?_))
    rw [hpost]
    rfl

end

/-- Settles O19: each form is `prefetch` or `prefetchFault` of its base. -/
theorem prefetchesUpdateTheBase : Obligations.PrefetchesUpdateTheBase := by
  intro s qp r2 r3 hint h imm stride cnt hq hss r updated faulting
  have hfree {i : Instr} {post : Post} (hb3 : post.updates = true → s.badTarget r3 = false)
      (hi : exec i s = prefetch post qp r3 s) : updated i s post := prefetch_done hq hss hb3 hi
  have hfault {i : Instr} {post : Post} (hb3 : post.updates = true → s.badTarget r3 = false)
      (hi : exec i s = prefetchFault post qp r3 s) : faulting i post := prefetchFault_done hq hss hb3 hi
  simp only [List.forall_mem_cons, List.not_mem_nil, false_imp_iff, implies_true, and_true]
  refine ⟨⟨hfree nofun rfl, hfree nofun rfl, hfree nofun rfl⟩, ⟨hfault nofun rfl, hfault nofun rfl⟩, fun hbad => ?_,
    fun hb3 => ?_⟩
  · have hreg {i : Instr} := prefetch_traps (i := i) (post := .reg r2) hq rfl hbad
    have himm {i : Instr} := prefetch_traps (i := i) (post := .imm (imm.signExtend 64)) hq rfl hbad
    exact ⟨hreg (.inl rfl), hreg (.inl rfl), hreg (.inr rfl), hreg (.inr rfl), himm (.inl rfl), himm (.inl rfl),
      himm (.inr rfl), himm (.inr rfl)⟩
  · have hb3 {p : Prop} : p → s.badTarget r3 = false := fun _ => hb3
    exact ⟨⟨hfree hb3 rfl, hfree hb3 rfl⟩, ⟨hfault hb3 rfl, hfault hb3 rfl⟩, ⟨hfree hb3 rfl, hfree hb3 rfl⟩,
      hfault hb3 rfl, hfault hb3 rfl⟩

end Sys2Proof.Machine
end

section
/-! ### Speculation checks, and the ALAT emptied -/
namespace Sys2Proof.Machine

section
variable {i : Instr} {s u : State} {qp : BitVec 6} {disp : BitVec 21} {c : Bool}

/-- A check: it branches, or leaves the state `u` to the next instruction. -/
theorem reaches_of_check (hq : s.prBit qp = true) (hs : Untrapped s) (hpsr : u.psr = s.psr) (hip : u.ip = s.ip)
    (hi : exec i s = predicated qp s (if c then taken s (s.target25 disp) else done u)) :
    Reaches i s (if c then s else u) (if c then relTarget s disp else s.nextPlace) := by
  rw [predicated, if_pos hq] at hi
  cases c with
  | true =>
    rw [relTarget_eq]
    exact reaches_of_taken hs rfl hi
  | false =>
    exact completes_of_exec hs.1 (congrArg (bit · _) hpsr) (congrArg (fld · _ _) hpsr) hip hi

theorem checkSpeculation_reaches {r : BitVec 7} (hq : s.prBit qp = true) (hs : Untrapped s)
    (hi : exec i s = checkSpeculation qp r disp s) :
    Reaches i s s (if (s.gr r).nat then relTarget s disp else s.nextPlace) := by
  have h := reaches_of_check hq hs rfl rfl hi
  rwa [ite_self] at h

theorem checkAdvanced_reaches {type : Config.CheckType} {clear : Bool} {reg : AlatReg} (hq : s.prBit qp = true)
    (hs : Untrapped s) (hi : exec i s = predicated qp s (checkAdvanced type clear reg disp s)) :
    Reaches i s (if s.alatCmp reg then if clear then s.alatInvalEntry reg else s else s)
      (if s.alatCmp reg then s.nextPlace else relTarget s disp) := by
  rw [checkAdvanced] at hi
  cases hhit : s.alatCmp reg with
  | true =>
    rw [hhit] at hi
    cases clear with
    | true => exact reaches_of_check (c := false) (disp := disp) hq hs rfl rfl hi
    | false => exact reaches_of_check (c := false) (disp := disp) hq hs rfl rfl hi
  | false =>
    rw [hhit] at hi
    exact reaches_of_check (u := s) (c := true) hq hs rfl rfl hi

theorem alatCmp_of_no_entry {reg : AlatReg} (h : ∀ e ∈ s.alat, e.reg ≠ reg) : s.alatCmp reg = false := by
  have hany : (s.alat.any fun e => e.reg = reg) = false := by simpa using h
  rw [State.alatCmp, hany, Bool.and_false, Bool.false_and]

/-- A check of a floating-point register looks at its partition first (R655, R72). -/
theorem checkFp_bind {α : Type} {f : BitVec 7} {rest : Unit → Except Stop α} : (s.checkFp [f] >>= rest) =
    if s.disabledCode [f] = 0 then rest () else .error (.interrupt (disabledFp (s.disabledCode [f]))) := by
  split
  · next h => rw [State.checkFp, h]; rfl
  · next h => rw [State.checkFp, bne_iff_ne.mpr h]; rfl

/-- An instruction that only changes the state. -/
theorem completes_of_predicated (hq : s.prBit qp = true) (hss : s.psrBit Psr.ss = false) (hpsr : u.psr = s.psr)
    (hip : u.ip = s.ip) (hi : exec i s = predicated qp s (done u)) : Completes i s u := by
  rw [predicated, if_pos hq] at hi
  exact completes_of_exec hss (congrArg (bit · _) hpsr) (congrArg (fld · _ _) hpsr) hip hi

end

/-- Settles O20: a check is a branch that its register or the ALAT decides, and `invala.e` filters the entries. -/
theorem checksAndEntryInvalidation : Obligations.ChecksAndEntryInvalidation := by
  intro s qp r disp hq hss htb target chooses advanced
  have hs : Untrapped s := ⟨hss, htb⟩
  have hadvanced (nc clr : Instr) (reg : AlatReg) (type : Config.CheckType)
      (hnc : exec nc s = predicated qp s (checkAdvanced type false reg disp s))
      (hclr : exec clr s = predicated qp s (checkAdvanced type true reg disp s)) : advanced nc clr reg := by
    have h := checkAdvanced_reaches hq hs hnc
    rw [if_neg Bool.false_ne_true, ite_self] at h
    exact ⟨h, checkAdvanced_reaches hq hs hclr, alatCmp_of_no_entry⟩
  refine ⟨checkSpeculation_reaches hq hs rfl, checkSpeculation_reaches hq hs rfl, fun hd => ?_, fun hd => ?_,
    hadvanced _ _ _ .chkaGeneral rfl rfl, hadvanced _ _ _ .chkaFloat rfl rfl,
    completes_of_predicated hq hss rfl rfl rfl, completes_of_predicated hq hss rfl rfl rfl⟩
  · have hi : exec (.chkSM21 qp r disp) s = predicated qp s
        (if decide (s.fpr r = Fr.natVal) then taken s (s.target25 disp) else done s) := by
      refine congrArg (predicated qp s) (checkFp_bind.trans ?_)
      simp only [if_pos hd, decide_eq_true_eq]
      rfl
    have h := reaches_of_check hq hs rfl rfl hi
    rwa [ite_self] at h
  · exact traps_of_exec hq (congrArg (predicated qp s) (checkFp_bind.trans (if_neg hd)))

/-- Settles O21: `invala` is the completion with no ALAT entry. -/
theorem invalaEmptiesTheAlat : Obligations.InvalaEmptiesTheAlat := by
  intro s qp hss
  refine ⟨fun hq => completes_of_predicated hq hss rfl rfl rfl, fun hq => ?_⟩
  have hi : exec (.invalaM24 qp) s = predicated qp s (done s.alatInval) := rfl
  rw [predicated, hq] at hi
  exact completes_of_exec hss rfl rfl rfl hi

end Sys2Proof.Machine
end

section
/-! ### Checks made in order -/
namespace Sys2Proof.Machine

section
variable {α : Type} {l : List (Bool × Stop)} {b : Except Stop α} {e : Stop}

/-- A meaning behind its checks: the first condition that holds ends it. -/
def guarded (l : List (Bool × Stop)) (b : Except Stop α) : Except Stop α :=
  match l with
  | [] => b
  | (c, e) :: l => (if c then .error e else .ok ()) >>= fun _ => guarded l b

/-- How the first check that does not pass ends the meaning. -/
def firstStop : List (Bool × Stop) → Option Stop
  | [] => none
  | (c, e) :: l => if c then some e else firstStop l

@[simp] theorem firstStop_nil : firstStop [] = none := rfl

@[simp] theorem firstStop_cons (c : Bool) (e : Stop) (l : List (Bool × Stop)) :
    firstStop ((c, e) :: l) = if c then some e else firstStop l := rfl

/-- A check that passes leaves the answer to those after it. -/
theorem firstStop_pass {c : Bool} {o : Option Stop} (hc : c = false) (h : firstStop l = o) :
    firstStop ((c, e) :: l) = o := by
  rw [hc]; exact h

/-- A check that does not pass is the answer. -/
theorem firstStop_stop {c : Bool} (hc : c = true) : firstStop ((c, e) :: l) = some e := by
  rw [hc]; rfl

/-- Checks in a part of their own are checks in front. -/
theorem guarded_bind {β : Type} (f : α → Except Stop β) : (guarded l b >>= f) = guarded l (b >>= f) := by
  induction l with
  | nil => rfl
  | cons g l ih =>
    obtain ⟨c, e⟩ := g
    cases c with
    | true => rfl
    | false => exact ih

theorem guarded_of_none (h : firstStop l = none) : guarded l b = b := by
  induction l with
  | nil => rfl
  | cons g l ih =>
    obtain ⟨c, e⟩ := g
    cases c with
    | true => cases h
    | false => exact ih h

theorem guarded_of_some (h : firstStop l = some e) : guarded l b = .error e := by
  induction l with
  | nil => cases h
  | cons g l ih =>
    obtain ⟨c, e'⟩ := g
    cases c with
    | true => cases h; rfl
    | false => exact ih h

end

section
variable {i : Instr} {s u : State} {qp : BitVec 6} {r : BitVec 7} {v : Gr} {l : List (Bool × Stop)} {b : Body}
  {x : Interruption} {f : Fault}

theorem exec_of_guarded (hi : exec i s = predicated qp s (guarded l b)) (h : firstStop l = none) :
    exec i s = predicated qp s b := by
  rwa [guarded_of_none h] at hi

theorem traps_of_guarded (hq : s.prBit qp = true) (hi : exec i s = predicated qp s (guarded l b))
    (h : firstStop l = some (.interrupt x)) : Traps i s x := by
  rw [guarded_of_some h] at hi
  exact traps_of_exec hq hi

theorem fault_of_guarded (hq : s.prBit qp = true) (hi : exec i s = predicated qp s (guarded l b))
    (h : firstStop l = some (.stuck f)) : exec i s = .fault f := by
  rw [guarded_of_some h, predicated, if_pos hq] at hi
  exact hi

/-- An instruction that passes its checks and then cannot go on. -/
theorem fault_of_body (hq : s.prBit qp = true) (hi : exec i s = predicated qp s (guarded l b))
    (h : firstStop l = none) (hb : b = .error (.stuck f)) : exec i s = .fault f := by
  rw [exec_of_guarded hi h, predicated, if_pos hq, hb]; rfl

/-- An instruction that passes its checks and then only changes the state. -/
theorem completes_of_guarded (hq : s.prBit qp = true) (hss : s.psrBit Psr.ss = false) (hpsr : u.psr = s.psr)
    (hip : u.ip = s.ip) (hi : exec i s = predicated qp s (guarded l (done u))) (h : firstStop l = none) :
    Completes i s u :=
  completes_of_predicated hq hss hpsr hip (exec_of_guarded hi h)

/-- An instruction that passes its checks and then writes a general register. -/
theorem writesGr_of_guarded (hr : ReadyGr s qp r) (hi : exec i s = predicated qp s (guarded l (done (s.setGr r v))))
    (h : firstStop l = none) : WritesGr i s r v := by
  obtain ⟨hq, hss, hb⟩ := hr
  exact writesGr_of_exec hss hb ((exec_of_guarded hi h).trans (predicated_done hq rfl))

theorem badTarget_of_noTarget (h : NoTarget s r) : s.badTarget r = true := badTarget_eq_true_iff.mpr h

theorem badTarget_of_target (h : ¬ NoTarget s r) : s.badTarget r = false :=
  Bool.eq_false_of_not_eq_true (mt badTarget_eq_true_iff.mp h)

/-- Level 0 passes the checks that ask for it. -/
theorem cpl_passes (h : s.cpl = 0) : (s.cpl != 0) = false := bne_eq_false_iff_eq.mpr h

end

end Sys2Proof.Machine
end

section
/-! ### Breaks, and instructions without effect -/
namespace Sys2Proof.Machine

section
variable {i : Instr} {s : State} {qp : BitVec 6} {imm : Word}

/-- The delivery of a Break Instruction fault (R674, R1120, R1141). -/
theorem deliver_breakFault (s : State) (imm : Word) :
    (deliver (breakFault imm) s).ip = (fld s.cr.iva 15 49 : BitVec 49) ++ (0x2C00 : BitVec 15) ∧
      (s.psrBit Psr.ic = true → (deliver (breakFault imm) s).cr.iim = imm ∧
        (deliver (breakFault imm) s).cr.iip = s.ip ∧ (deliver (breakFault imm) s).cr.ipsr = s.psr) := by
  rw [deliver_eq (i := breakFault imm) s nofun]
  refine ⟨rfl, fun hic => ?_⟩
  simp only [enterHandler, hic, if_true]
  exact ⟨rfl, rfl, rfl⟩

/-- What a break does with PR[qp] 1. -/
theorem breaks_of_exec (hi : exec i s = .next (deliver (breakFault imm) s)) :
    ∃ t, exec i s = .next t ∧ t = deliver { vector := .breakInstruction, iim := some imm } s ∧
      t.ip = (fld s.cr.iva 15 49 : BitVec 49) ++ (0x2C00 : BitVec 15) ∧
      (s.psrBit Psr.ic = true → t.cr.iim = imm ∧ t.cr.iip = s.ip ∧ t.cr.ipsr = s.psr) := by
  obtain ⟨hip, hcr⟩ := deliver_breakFault s imm
  exact ⟨_, hi, rfl, hip, hcr⟩

/-- A break whose predicate is 1, in a unit of one slot. -/
theorem exec_break (hq : s.prBit qp = true) (hi : exec i s = breakWith qp imm s) :
    exec i s = .next (deliver (breakFault imm) s) :=
  traps_of_exec hq hi

theorem exec_breakX (hq : s.prBit qp = true) (imm62 : BitVec 62) :
    exec (.breakXX1 qp imm62) s = .next (deliver (breakFault (imm62.zeroExtend 64)) s) :=
  congrArg (finish s) (if_pos hq)

/-- An instruction that is switched off moves on. -/
theorem completes_off (hq : s.prBit qp = false) (hss : s.psrBit Psr.ss = false) {b : Body}
    (hi : exec i s = predicated qp s b) : Completes i s s := by
  obtain ⟨hsettled, hplace⟩ := retire_sequential s hss
  exact ⟨_, hi.trans (predicated_off hq), hplace, hsettled⟩

/-- A completion with the next bundle (R59). -/
theorem reaches_nextBundle (hss : s.psrBit Psr.ss = false)
    (hi : exec i s = finish s (.ok { st := s, flow := .nextBundle })) : Reaches i s s (s.ip + 16, 0) := by
  obtain ⟨hsettled, hplace⟩ := retire_nextBundle s hss
  exact ⟨_, hi, hplace, hsettled⟩

/-- An instruction that has no effect completes whatever its predicate is. -/
theorem completes_of_noEffect (hss : s.psrBit Psr.ss = false) (hi : exec i s = noEffect qp s) : Completes i s s := by
  cases hq : s.prBit qp with
  | true => exact completes_of_predicated hq hss rfl rfl hi
  | false => exact completes_off hq hss hi

/-- The same of an L+X instruction. -/
theorem reaches_of_noEffectLong (hss : s.psrBit Psr.ss = false) (hi : exec i s = predicatedLong qp s (.ok s)) :
    Reaches i s s (s.ip + 16, 0) := by
  rw [predicatedLong] at hi
  cases hq : s.prBit qp with
  | true => rw [hq] at hi; exact reaches_nextBundle hss hi
  | false => rw [hq] at hi; exact reaches_nextBundle hss hi

end

/-- Settles O31: a break is its fault, or with PR[qp] 0 nothing. -/
theorem breaksTakeTheBreakFault : Obligations.BreaksTakeTheBreakFault := by
  intro s qp imm imm62 breaks
  simp only [breaks, List.forall_mem_cons, List.not_mem_nil, false_imp_iff, implies_true, and_true, reduceCtorEq,
    if_true, if_false]
  refine ⟨fun hq => ⟨?_, ?_, ?_, ?_, ?_⟩, fun hq hss => ⟨?_, ?_, ?_, ?_, ?_⟩⟩
  · exact breaks_of_exec (exec_break hq rfl)
  · exact breaks_of_exec (exec_break hq rfl)
  · exact breaks_of_exec (exec_break hq rfl)
  · exact breaks_of_exec (exec_break hq rfl)
  · exact breaks_of_exec (exec_breakX hq imm62)
  · exact completes_off hq hss rfl
  · exact completes_off hq hss rfl
  · exact completes_off hq hss rfl
  · exact completes_off hq hss rfl
  · exact reaches_nextBundle hss (congrArg (finish s) (if_neg (by rw [hq]; exact Bool.false_ne_true)))

/-- Settles O32: each of them is the completion of the state it starts in. -/
theorem noOperationsOnlyMoveOn : Obligations.NoOperationsOnlyMoveOn := by
  intro s qp imm21 imm19 imm62 hss
  have moves {i : Instr} (hi : exec i s = noEffect qp s) : Completes i s s := completes_of_noEffect hss hi
  have movesLong {i : Instr} (hi : exec i s = predicatedLong qp s (.ok s)) : Reaches i s s (s.ip + 16, 0) :=
    reaches_of_noEffectLong hss hi
  simp only [List.forall_mem_cons, List.not_mem_nil, false_imp_iff, implies_true, and_true]
  exact ⟨⟨moves rfl, moves rfl, moves rfl, moves rfl, moves rfl, moves rfl, moves rfl, moves rfl, moves rfl, moves rfl,
    moves rfl, moves rfl, moves rfl, moves rfl⟩, movesLong rfl, movesLong rfl⟩

end Sys2Proof.Machine
end

section
/-! ### Moves from and to application registers -/
namespace Sys2Proof.Machine

/-! #### What the numbers name (R80, R91 to R93) -/

theorem arOf_kr (k : Fin 8) : arOf (BitVec.ofNat 7 k.val) = .kr k := by
  revert k; decide

theorem arOf_ignored {n : BitVec 7} (h : (48 ≤ n.toNat ∧ n.toNat < 64) ∨ 112 ≤ n.toNat) : arOf n = .ignored := by
  revert n; decide

theorem onUnit_i_eq_false {n : BitVec 7} (h : n.toNat < 48 ∨ (66 < n.toNat ∧ n.toNat < 112)) :
    (arOf n).onUnit true = false := by
  revert n; decide

theorem onUnit_m_eq_false {n : BitVec 7}
    (h : (64 ≤ n.toNat ∧ n.toNat < 112) ∨ (8 ≤ n.toNat ∧ n.toNat < 16) ∨ n ∈ reservedArs) :
    (arOf n).onUnit false = false := by
  revert n; decide

/-- The registers of which a mode of the register stack engine decides (R88, R680). -/
def Ar.isLazy (r : Ar) : Bool := r == .bspstore || r == .rnat

/-- The registers whose read asks neither for a mode nor for a level (R680). -/
def Ar.readsFreely (r : Ar) : Bool := !r.isLazy && !r.isCounter && r != .cflg

/-! #### Reads (R680) -/

section
variable {i : Instr} {s : State} {qp : BitVec 6} {r1 n : BitVec 7} {iForm : Bool} {r : Ar}

/-- The checks of a read, in their order. -/
def State.arReadChecks (s : State) (iForm : Bool) (r1 : BitVec 7) (r : Ar) : List (Bool × Stop) :=
  [(!r.onUnit iForm, .interrupt illegalOperation), (s.badTarget r1, .interrupt illegalOperation),
    (r.isLazy && s.rscMode != 0, .interrupt illegalOperation),
    (r.isCounter && s.psrBit Psr.si && s.cpl != 0 || r == .cflg && s.cpl != 0, .interrupt privilegedRegister),
    (r.isCounter && s.psrBit Psr.si && s.psrBit Psr.vm, .interrupt virtualizationFault)]

theorem moveFromAr_eq : moveFromAr iForm qp r1 n s = predicated qp s
    (guarded (s.arReadChecks iForm r1 (arOf n)) (done (s.setGr r1 (Gr.ofWord (s.arValue (arOf n)))))) := rfl

theorem readsAr (hr : ReadyGr s qp r1) (hi : exec i s = moveFromAr iForm qp r1 n s) (hn : arOf n = r)
    (h : firstStop (s.arReadChecks iForm r1 r) = none) : WritesGr i s r1 ⟨s.arValue r, false⟩ := by
  rw [moveFromAr_eq, hn] at hi
  exact writesGr_of_guarded hr hi h

theorem traps_of_readAr {x : Interruption} (hq : s.prBit qp = true) (hi : exec i s = moveFromAr iForm qp r1 n s)
    (hn : arOf n = r) (h : firstStop (s.arReadChecks iForm r1 r) = some (.interrupt x)) : Traps i s x := by
  rw [moveFromAr_eq, hn] at hi
  exact traps_of_guarded hq hi h

theorem arReadChecks_offUnit (hu : r.onUnit iForm = false) :
    firstStop (s.arReadChecks iForm r1 r) = some (.interrupt illegalOperation) := by
  simp [State.arReadChecks, hu]

theorem arReadChecks_badTarget (hb : s.badTarget r1 = true) :
    firstStop (s.arReadChecks iForm r1 r) = some (.interrupt illegalOperation) := by
  simp [State.arReadChecks, hb]

theorem arReadChecks_free (hb : s.badTarget r1 = false) (hu : r.onUnit iForm = true) (hf : r.readsFreely = true) :
    firstStop (s.arReadChecks iForm r1 r) = none := by
  simp only [Ar.readsFreely, Bool.and_eq_true, Bool.not_eq_true', bne_iff_ne, ne_eq] at hf
  obtain ⟨⟨hlazy, hcounter⟩, hcflg⟩ := hf
  simp [State.arReadChecks, hb, hu, hlazy, hcounter, hcflg]

/-- A lazy register's read: the mode decides (R88). -/
theorem arReadChecks_lazy (hb : s.badTarget r1 = false) (hr : r = .bspstore ∨ r = .rnat) :
    firstStop (s.arReadChecks false r1 r) = if s.rscMode = 0 then none else some (.interrupt illegalOperation) := by
  rcases hr with rfl | rfl <;> simp [State.arReadChecks, hb, Ar.onUnit, Ar.isLazy, Ar.isCounter]

/-- A counter's read: PSR.si, then the level, then PSR.vm decide (R680, R81). -/
theorem arReadChecks_counter (hb : s.badTarget r1 = false) (hr : r = .itc ∨ r = .ruc) :
    firstStop (s.arReadChecks false r1 r) = if s.psrBit Psr.si = false then none
      else if s.cpl ≠ 0 then some (.interrupt privilegedRegister)
      else if s.psrBit Psr.vm then some (.interrupt virtualizationFault) else none := by
  have hplain : r.onUnit false = true ∧ r.isLazy = false ∧ r.isCounter = true ∧ (r == .cflg) = false := by
    rcases hr with rfl | rfl <;> exact ⟨rfl, rfl, rfl, rfl⟩
  obtain ⟨hu, hlazy, hcounter, hcflg⟩ := hplain
  cases hsi : s.psrBit Psr.si <;> simp [State.arReadChecks, hb, hu, hlazy, hcounter, hcflg, hsi]

theorem arReadChecks_cflg (hb : s.badTarget r1 = false) : firstStop (s.arReadChecks false r1 .cflg) =
    if s.cpl = 0 then none else some (.interrupt privilegedRegister) := by
  by_cases hl : s.cpl = 0 <;> simp [State.arReadChecks, hb, hl, Ar.onUnit, Ar.isLazy, Ar.isCounter]

/-- A move into a bad target, of a register that is always there. -/
theorem traps_of_writeGr {v : Gr} (hq : s.prBit qp = true) (hb : s.badTarget r1 = true)
    (hi : exec i s = writeGr qp r1 v s) : Traps i s illegalOperation :=
  traps_of_guarded (l := [(s.badTarget r1, .interrupt illegalOperation)]) (b := done (s.setGr r1 v)) hq hi (by simp [hb])

end

/-- Settles O34: a read is its checks and then the register's value. -/
theorem applicationRegistersRead : Obligations.ApplicationRegistersRead := by
  refine ⟨fun s qp r n b hq hno => ?_, fun s qp r1 hr => ?_⟩
  · have hb := badTarget_of_noTarget hno
    simp only [List.forall_mem_cons, List.not_mem_nil, false_imp_iff, implies_true, and_true]
    exact ⟨traps_of_readAr hq rfl rfl (arReadChecks_badTarget hb), traps_of_readAr hq rfl rfl (arReadChecks_badTarget hb),
      traps_of_writeGr hq hb rfl, traps_of_writeGr hq hb rfl, traps_of_writeGr hq hb rfl⟩
  intro m i
  obtain ⟨hq, hss, hb⟩ := id hr
  have freely {n : BitVec 7} {r : Ar} (hn : arOf n = r) (hu : r.onUnit false = true) (hf : r.readsFreely = true) :
      m n (s.arValue r) := readsAr hr rfl hn (arReadChecks_free hb hu hf)
  have freelyI {n : BitVec 7} {r : Ar} (hn : arOf n = r) (hu : r.onUnit true = true) (hf : r.readsFreely = true) :
      i n (s.arValue r) := readsAr hr rfl hn (arReadChecks_free hb hu hf)
  have counters {n : BitVec 7} (h : n ∈ ([44, 45] : List (BitVec 7))) : arOf n = .itc ∨ arOf n = .ruc := by
    revert n; decide
  have noCounterStop (h : s.psrBit Psr.si = false ∨ (s.cpl = 0 ∧ s.psrBit Psr.vm = false)) :
      (if s.psrBit Psr.si = false then none else if s.cpl ≠ 0 then some (Stop.interrupt privilegedRegister)
        else if s.psrBit Psr.vm then some (.interrupt virtualizationFault) else none) = none := by
    rcases h with h | ⟨hl, hvm⟩
    · exact if_pos h
    · simp [hl, hvm]
  refine ⟨freelyI (r := .pfs) rfl rfl rfl, freelyI (r := .lc) rfl rfl rfl, freelyI (r := .ec) rfl rfl rfl,
    fun k => freely (arOf_kr k) rfl rfl, freely (r := .rsc) rfl rfl rfl, freely (r := .bsp) rfl rfl rfl,
    freely (r := .fcr) rfl rfl rfl, freely (r := .eflag) rfl rfl rfl, freely (r := .csd) rfl rfl rfl,
    freely (r := .ssd) rfl rfl rfl, freely (r := .fsr) rfl rfl rfl, freely (r := .fir) rfl rfl rfl,
    freely (r := .fdr) rfl rfl rfl, freely (r := .ccv) rfl rfl rfl, freely (r := .unat) rfl rfl rfl,
    freely (r := .fpsr) rfl rfl rfl, fun hm => ⟨?_, ?_⟩, fun hl => ?_, fun hsi => ⟨?_, ?_⟩,
    fun n hn => ⟨freely (arOf_ignored hn) rfl rfl, freelyI (arOf_ignored hn) rfl rfl⟩, fun n hn => ?_, fun n hn => ?_,
    fun hm => ?_, fun hl => ?_, fun hsi n hn => ⟨fun hl => ?_, fun hl hvm => ?_⟩⟩
  · exact readsAr (r := .bspstore) hr rfl rfl ((arReadChecks_lazy hb (.inl rfl)).trans (if_pos hm))
  · exact readsAr (r := .rnat) hr rfl rfl ((arReadChecks_lazy hb (.inr rfl)).trans (if_pos hm))
  · exact readsAr (r := .cflg) hr rfl rfl ((arReadChecks_cflg hb).trans (if_pos hl))
  · exact readsAr (r := .itc) hr rfl rfl ((arReadChecks_counter hb (.inl rfl)).trans (noCounterStop hsi))
  · exact readsAr (r := .ruc) hr rfl rfl ((arReadChecks_counter hb (.inr rfl)).trans (noCounterStop hsi))
  · exact traps_of_readAr hq rfl rfl (arReadChecks_offUnit (onUnit_i_eq_false hn))
  · exact traps_of_readAr hq rfl rfl (arReadChecks_offUnit (onUnit_m_eq_false hn))
  · simp only [List.forall_mem_cons, List.not_mem_nil, false_imp_iff, implies_true, and_true]
    exact ⟨traps_of_readAr (r := .bspstore) hq rfl rfl ((arReadChecks_lazy hb (.inl rfl)).trans (if_neg hm)),
      traps_of_readAr (r := .rnat) hq rfl rfl ((arReadChecks_lazy hb (.inr rfl)).trans (if_neg hm))⟩
  · exact traps_of_readAr (r := .cflg) hq rfl rfl ((arReadChecks_cflg hb).trans (if_neg hl))
  · exact traps_of_readAr hq rfl rfl ((arReadChecks_counter hb (counters hn)).trans
      ((if_neg (by simp [hsi])).trans (if_pos hl)))
  · exact traps_of_readAr hq rfl rfl ((arReadChecks_counter hb (counters hn)).trans (by simp [hsi, hl, hvm]))

/-! #### Writes (R680) -/

/-- The number names a register whose write asks for level 0 (R680). -/
def asksLevel (n : BitVec 7) : Bool := decide (n.toNat < 8) || (arOf n).isCounter || arOf n == .cflg

/-- The number names a register that the unit may write in every mode (R680, R88). -/
def writable (iForm : Bool) (n : BitVec 7) : Bool :=
  (arOf n).onUnit iForm && arOf n != .bsp && !(arOf n).isLazy

section
variable {i : Instr} {s : State} {qp : BitVec 6} {n : BitVec 7} {iForm : Bool} {v : Word} {g : Gr}

/-- The checks of a write, in their order. -/
def State.arWriteChecks (s : State) (iForm : Bool) (n : BitVec 7) (g : Gr) : List (Bool × Stop) :=
  [(!(arOf n).onUnit iForm, .interrupt illegalOperation), (arOf n == .bsp, .interrupt illegalOperation),
    ((arOf n).isLazy && s.rscMode != 0, .interrupt illegalOperation), (g.nat, .interrupt (natConsumption {})),
    ((arOf n).reservedField g.val, .interrupt reservedRegisterField),
    (asksLevel n && s.cpl != 0, .interrupt privilegedRegister),
    ((arOf n).isCounter && s.psrBit Psr.vm, .interrupt virtualizationFault)]

theorem moveToAr_eq : moveToAr iForm qp n g s = predicated qp s
    (guarded (s.arWriteChecks iForm n g) (done (s.setAr (arOf n) g.val))) := rfl

@[simp] theorem State.setAr_psr (s : State) (r : Ar) (v : Word) : (s.setAr r v).psr = s.psr := by
  cases r <;> rfl

@[simp] theorem State.setAr_ip (s : State) (r : Ar) (v : Word) : (s.setAr r v).ip = s.ip := by
  cases r <;> rfl

theorem arWriteChecks_illegal
    (h : (arOf n).onUnit iForm = false ∨ arOf n = .bsp ∨ ((arOf n).isLazy = true ∧ s.rscMode ≠ 0)) :
    firstStop (s.arWriteChecks iForm n g) = some (.interrupt illegalOperation) := by
  rcases h with h | h | ⟨hl, hm⟩
  · simp [State.arWriteChecks, h]
  · simp [State.arWriteChecks, h]
  · have hm : (s.rscMode != 0) = true := bne_iff_ne.mpr hm
    simp only [State.arWriteChecks, hl, hm, firstStop_cons, Bool.and_self, if_true, ite_self]

/-- The checks that remain of a register of the unit. -/
theorem arWriteChecks_writable (hw : writable iForm n = true) :
    firstStop (s.arWriteChecks iForm n g) = if g.nat then some (.interrupt (natConsumption {}))
      else if (arOf n).reservedField g.val then some (.interrupt reservedRegisterField)
      else if asksLevel n && s.cpl != 0 then some (.interrupt privilegedRegister)
      else if (arOf n).isCounter && s.psrBit Psr.vm then some (.interrupt virtualizationFault) else none := by
  simp only [writable, Bool.and_eq_true, Bool.not_eq_true', bne_iff_ne, ne_eq] at hw
  obtain ⟨⟨hu, hbsp⟩, hlazy⟩ := hw
  simp [State.arWriteChecks, hu, hbsp, hlazy]

/-- The check that remains of a lazy register in lazy mode. -/
theorem arWriteChecks_lazy (hm : s.rscMode = 0) (hn : n = 18 ∨ n = 19) :
    firstStop (s.arWriteChecks false n g) = if g.nat then some (.interrupt (natConsumption {})) else none := by
  have hplain : (arOf n).onUnit false = true ∧ arOf n ≠ .bsp ∧ (arOf n).reservedField g.val = false ∧
      asksLevel n = false ∧ (arOf n).isCounter = false := by
    rcases hn with rfl | rfl <;> exact ⟨rfl, nofun, rfl, rfl, rfl⟩
  obtain ⟨hu, hbsp, hfield, hlevel, hcounter⟩ := hplain
  simp [State.arWriteChecks, hm, hu, hbsp, hfield, hlevel, hcounter]

theorem completes_of_writeAr (hq : s.prBit qp = true) (hss : s.psrBit Psr.ss = false)
    (hi : exec i s = moveToAr iForm qp n ⟨v, false⟩ s)
    (h : firstStop (s.arWriteChecks iForm n ⟨v, false⟩) = none) : Completes i s (s.setAr (arOf n) v) :=
  completes_of_guarded hq hss (s.setAr_psr _ v) (s.setAr_ip _ v) (hi.trans moveToAr_eq) h

theorem traps_of_writeAr {x : Interruption} (hq : s.prBit qp = true) (hi : exec i s = moveToAr iForm qp n g s)
    (h : firstStop (s.arWriteChecks iForm n g) = some (.interrupt x)) : Traps i s x :=
  traps_of_guarded hq (hi.trans moveToAr_eq) h

/-- Two instructions write the value `v`: one from a register that holds it, one from the immediate that stands for it. -/
theorem bothSources {P : Instr → Prop} {reg im : Instr} {imm : BitVec 8}
    (hreg : exec reg s = moveToAr iForm qp n g s)
    (him : exec im s = moveToAr iForm qp n (Gr.ofWord (imm.signExtend 64)) s)
    (h : ∀ i, exec i s = moveToAr iForm qp n ⟨v, false⟩ s → P i) :
    (g = ⟨v, false⟩ → P reg) ∧ (v = imm.signExtend 64 → P im) :=
  ⟨fun hg => h reg (hg ▸ hreg), fun hv => h im (hv ▸ him)⟩

end

/-! #### The numbers of the statement -/

theorem writable_plainArs {n : BitVec 7} (h : n ∈ plainArs ∨ n ∈ privilegedArs) : writable false n = true := by
  revert n; decide

theorem writable_i {n : BitVec 7} (h : n ∈ ([64, 65, 66] : List (BitVec 7))) : writable true n = true := by
  revert n; decide

theorem asksLevel_privilegedArs {n : BitVec 7} (h : n ∈ privilegedArs) :
    asksLevel n = true ∧ arOf n ≠ .rsc ∧ arOf n ≠ .fpsr := by
  revert n; decide

theorem Ar.reservedField_eq_false {r : Ar} {v : Word} (hrsc : r ≠ .rsc) (hfpsr : r ≠ .fpsr) :
    r.reservedField v = false := by
  cases r with
  | rsc => exact absurd rfl hrsc
  | fpsr => exact absurd rfl hfpsr
  | _ => rfl

theorem illegal_m {n : BitVec 7} {s : State}
    (h : n = 17 ∨ n ∈ reservedArs ∨ (8 ≤ n.toNat ∧ n.toNat < 16) ∨ (64 ≤ n.toNat ∧ n.toNat < 112) ∨
      (s.rscMode ≠ 0 ∧ (n = 18 ∨ n = 19))) :
    (arOf n).onUnit false = false ∨ arOf n = .bsp ∨ ((arOf n).isLazy = true ∧ s.rscMode ≠ 0) := by
  rcases h with rfl | h | h | h | ⟨hm, rfl | rfl⟩
  · exact .inr (.inl rfl)
  · exact .inl (onUnit_m_eq_false (.inr (.inr h)))
  · exact .inl (onUnit_m_eq_false (.inr (.inl h)))
  · exact .inl (onUnit_m_eq_false (.inl h))
  · exact .inr (.inr ⟨rfl, hm⟩)
  · exact .inr (.inr ⟨rfl, hm⟩)

/-- Settles O35: a write is its checks and then the register's new value. -/
theorem applicationRegistersWritten : Obligations.ApplicationRegistersWritten := by
  intro s qp r2 imm v hq hss src m i
  have writes {n : BitVec 7} (h : firstStop (s.arWriteChecks false n ⟨v, false⟩) = none) : m n (s.setAr (arOf n) v) :=
    bothSources rfl rfl fun _ hi => completes_of_writeAr hq hss hi h
  have writesI {n : BitVec 7} (h : firstStop (s.arWriteChecks true n ⟨v, false⟩) = none) : i n (s.setAr (arOf n) v) :=
    bothSources rfl rfl fun _ hi => completes_of_writeAr hq hss hi h
  have plain {f : Bool} {n : BitVec 7} (hw : writable f n = true) (hl : asksLevel n = false)
      (hc : (arOf n).isCounter = false) (hfield : (arOf n).reservedField v = false) :
      firstStop (s.arWriteChecks f n ⟨v, false⟩) = none := by
    simp [arWriteChecks_writable hw, hl, hc, hfield]
  have level {n : BitVec 7} (hn : n ∈ privilegedArs) (hl : s.cpl = 0)
      (hc : (arOf n).isCounter = false ∨ s.psrBit Psr.vm = false) :
      firstStop (s.arWriteChecks false n ⟨v, false⟩) = none := by
    obtain ⟨-, hrsc, hfpsr⟩ := asksLevel_privilegedArs hn
    rcases hc with hc | hc <;>
      simp [arWriteChecks_writable (writable_plainArs (.inr hn)), Ar.reservedField_eq_false hrsc hfpsr, hl, hc]
  have ignored {n : BitVec 7} (hn : (48 ≤ n.toNat ∧ n.toNat < 64) ∨ 112 ≤ n.toNat) (f : Bool) :
      writable f n = true ∧ asksLevel n = false := by
    revert n f; decide
  have lazily {n : BitVec 7} (hm : s.rscMode = 0) (hn : n = 18 ∨ n = 19) :
      firstStop (s.arWriteChecks false n ⟨v, false⟩) = none := by
    simp [arWriteChecks_lazy hm hn]
  have faults {f : Bool} {n : BitVec 7} {x : Interruption} {reg im : Instr}
      (hreg : exec reg s = moveToAr f qp n (s.gr r2) s)
      (him : exec im s = moveToAr f qp n (Gr.ofWord (imm.signExtend 64)) s)
      (h : firstStop (s.arWriteChecks f n ⟨v, false⟩) = some (.interrupt x)) :
      (s.gr r2 = ⟨v, false⟩ → Traps reg s x) ∧ (v = imm.signExtend 64 → Traps im s x) :=
    bothSources hreg him fun _ hi => traps_of_writeAr hq hi h
  have nat {f : Bool} {n : BitVec 7} {reg : Instr} (hreg : exec reg s = moveToAr f qp n (s.gr r2) s)
      (hn : (s.gr r2).nat = true) (hw : writable f n = true) : Traps reg s (natConsumption {}) :=
    traps_of_writeAr hq hreg (by simp [arWriteChecks_writable hw, hn])
  refine ⟨writesI (plain rfl rfl rfl rfl), writesI (plain rfl rfl rfl rfl), writesI (plain rfl rfl rfl rfl),
    writes (plain rfl rfl rfl rfl), writes (plain rfl rfl rfl rfl), writes (plain rfl rfl rfl rfl),
    writes (plain rfl rfl rfl rfl), writes (plain rfl rfl rfl rfl), writes (plain rfl rfl rfl rfl),
    writes (plain rfl rfl rfl rfl), writes (plain rfl rfl rfl rfl), writes (plain rfl rfl rfl rfl),
    fun hl => ⟨fun k => ?_, writes (n := 27) (level (by decide) hl (.inl rfl)), fun hvm =>
      ⟨writes (n := 44) (level (by decide) hl (.inr hvm)), writes (n := 45) (level (by decide) hl (.inr hvm))⟩⟩,
    fun hv => ?_, fun hv => writes (n := 40) (plain rfl rfl rfl hv),
    fun hm => ⟨?_, Config.freeWord .rnat s.fresh, writes (lazily hm (.inl rfl))⟩, fun n hn => ⟨?_, ?_⟩,
    fun n hn => ⟨traps_of_writeAr hq rfl (arWriteChecks_illegal (illegal_m hn)),
      traps_of_writeAr hq rfl (arWriteChecks_illegal (illegal_m hn))⟩,
    fun n hn => ⟨traps_of_writeAr hq rfl (arWriteChecks_illegal (.inl (onUnit_i_eq_false hn))),
      traps_of_writeAr hq rfl (arWriteChecks_illegal (.inl (onUnit_i_eq_false hn)))⟩,
    fun hnat => ⟨fun n hn => ?_, fun n hn => nat rfl hnat (writable_i hn),
      fun n hn => ⟨nat rfl hnat (ignored hn false).1, nat rfl hnat (ignored hn true).1⟩⟩,
    fun hv => ?_, fun hv => ?_, fun hl n hn => ?_, fun hl hvm n hn => ?_⟩
  · have hn : BitVec.ofNat 7 k.val ∈ privilegedArs := by revert k; decide
    have hc : (arOf (BitVec.ofNat 7 k.val)).isCounter = false := by rw [arOf_kr]; rfl
    have hk := writes (level hn hl (.inl hc))
    rwa [arOf_kr] at hk
  · exact writes (n := 16) (plain rfl rfl rfl (bne_eq_false_iff_eq.mpr hv))
  · have hdispersal := writes (lazily hm (.inr rfl))
    simpa [arOf, State.setAr, State.loadsOpenGroup] using hdispersal
  · have hk := writes (plain (ignored hn false).1 (ignored hn false).2 (by rw [arOf_ignored hn]; rfl)
      (by rw [arOf_ignored hn]; rfl))
    rwa [arOf_ignored hn] at hk
  · have hk := writesI (plain (ignored hn true).1 (ignored hn true).2 (by rw [arOf_ignored hn]; rfl)
      (by rw [arOf_ignored hn]; rfl))
    rwa [arOf_ignored hn] at hk
  · rcases hn with hn | hn | ⟨hm, hn⟩
    · exact nat rfl hnat (writable_plainArs (.inl hn))
    · exact nat rfl hnat (writable_plainArs (.inr hn))
    · exact traps_of_writeAr hq rfl ((arWriteChecks_lazy hm hn).trans (if_pos hnat))
  · have hfield : (arOf 16).reservedField v = true := bne_iff_ne.mpr hv
    exact faults (n := 16) rfl rfl
      ((arWriteChecks_writable rfl).trans ((if_neg Bool.false_ne_true).trans (if_pos hfield)))
  · have hfield : (arOf 40).reservedField v = true := hv
    exact faults (n := 40) rfl rfl
      ((arWriteChecks_writable rfl).trans ((if_neg Bool.false_ne_true).trans (if_pos hfield)))
  · obtain ⟨hlevel, hrsc, hfpsr⟩ := asksLevel_privilegedArs hn
    have hl : (s.cpl != 0) = true := bne_iff_ne.mpr hl
    exact faults (f := false) rfl rfl (by
      simp only [arWriteChecks_writable (writable_plainArs (.inr hn)), Ar.reservedField_eq_false hrsc hfpsr, hlevel, hl,
        Bool.and_self, Bool.false_eq_true, if_true, if_false])
  · have hcounter : (arOf n).isCounter = true ∧ n ∈ privilegedArs := by revert n; decide
    obtain ⟨hcounter, hn⟩ := hcounter
    obtain ⟨-, hrsc, hfpsr⟩ := asksLevel_privilegedArs hn
    exact faults (f := false) rfl rfl (by
      simp [arWriteChecks_writable (writable_plainArs (.inr hn)), Ar.reservedField_eq_false hrsc hfpsr, hl, hcounter, hvm])

end Sys2Proof.Machine
end

section
/-! ### Moves to and from PSR -/
namespace Sys2Proof.Machine

/-! #### The fields they write -/

theorem getLsbD_fld_low {n len : Nat} {w : BitVec n} {j : Nat} (h : j < len) :
    (fld w 0 len).getLsbD j = w.getLsbD j := by
  simp only [getLsbD_fld, h, decide_true, Bool.true_and, Nat.zero_add]

theorem getLsbD_andNot {n : Nat} {w v : BitVec n} {j : Nat} (h : j < n) :
    (w &&& ~~~v).getLsbD j = (w.getLsbD j && !v.getLsbD j) := by
  simp only [BitVec.getLsbD_and, BitVec.getLsbD_not, h, decide_true, Bool.true_and]

/-- The bits of a source that no user mask has (R683). -/
theorem outsideUserMask_iff (v : Word) : (fld v 6 58 != (0 : BitVec 58) || bit v 0) = true ↔ v &&& 0xFFFFFFFFFFFFFFC1 ≠ 0 := by
  have hmask : ∀ k < 64, (0xFFFFFFFFFFFFFFC1 : Word).getLsbD k = (decide (k = 0) || decide (6 ≤ k)) := by decide
  rw [← not_iff_not, ne_eq, not_not, Bool.not_eq_true, Bool.or_eq_false_iff, bne_eq_false_iff_eq, and_eq_zero_iff_bits]
  constructor
  swap
  · intro h
    refine ⟨BitVec.eq_of_getLsbD_eq fun k hk => ?_, h 0 rfl⟩
    have hbit := h (6 + k) (by rw [hmask _ (by omega)]; simp)
    rw [getLsbD_fld, decide_eq_true hk, Bool.true_and, hbit]
    exact BitVec.getLsbD_zero.symm
  · rintro ⟨hfld, hzero⟩ k hk
    have hlt : k < 64 := BitVec.lt_of_getLsbD hk
    rw [hmask k hlt, Bool.or_eq_true, decide_eq_true_iff, decide_eq_true_iff] at hk
    rcases hk with rfl | hk
    · exact hzero
    · have hbit := congrArg (fun x => x.getLsbD (k - 6)) hfld
      rw [getLsbD_fld, decide_eq_true (by omega), Bool.true_and, show 6 + (k - 6) = k by omega] at hbit
      exact hbit.trans BitVec.getLsbD_zero

/-- PSR after a write of the user mask (R683, R684). -/
theorem getLsbD_setUserMask (s : State) (v : BitVec 6) (j : Nat) : (s.setUserMask v).psr.getLsbD j =
    if 1 ≤ j ∧ j ≤ 5 ∧ (j = 2 → s.psrBit Psr.sp = false) then v.getLsbD j else s.psr.getLsbD j := by
  rw [State.setUserMask, getLsbD_setFld _ _ _ _ (by decide)]
  by_cases hj : 1 ≤ j ∧ j < 1 + 5
  · have hpos : 1 + (j - 1) = j := by omega
    rw [if_pos hj, getLsbD_fld, hpos, getLsbD_setBit _ _ _ _ (by decide)]
    have hlt : j - 1 < 5 := by omega
    have hle : 1 ≤ j ∧ j ≤ 5 := by omega
    by_cases hup : j = Psr.up
    · subst hup
      cases hsp : s.psrBit Psr.sp <;> simp [Psr.up, bit, State.psrBit]
    · simp [hup, hlt, hle, show j ≠ 2 from hup]
  · rw [if_neg hj, if_neg (by omega)]

section
variable {i : Instr} {s u : State} {qp : BitVec 6} {r : BitVec 7} {l : List (Bool × Stop)}

/-- An instruction that passes its checks and then writes bits of PSR{31:0} alone. -/
theorem completes_of_lowPsr (hq : s.prBit qp = true) (hss : s.psrBit Psr.ss = false) (hip : u.ip = s.ip)
    (hhigh : ∀ j, 32 ≤ j → u.psr.getLsbD j = s.psr.getLsbD j)
    (hi : exec i s = predicated qp s (guarded l (done u))) (h : firstStop l = none) : Completes i s u := by
  have hi : exec i s = finish s (done u) := (exec_of_guarded hi h).trans (predicated_done hq rfl)
  exact completes_of_exec hss (hhigh _ (by decide)) (fld_congr fun j hj _ => hhigh j (by omega)) hip hi

end

section
variable {s : State} {qp : BitVec 6} {r : BitVec 7}

/-! #### Their checks, in order (R682 to R685) -/

/-- The checks of `mov psr.l`. -/
def State.psrLChecks (s : State) (g : Gr) : List (Bool × Stop) :=
  [(s.cpl != 0, .interrupt (privilegedOperation {})), (g.nat, .interrupt (natConsumption {})),
    (fld g.val 0 32 &&& Psr.reservedL != 0 || psrHighReserved g.val, .interrupt reservedRegisterField),
    (s.psrBit Psr.vm, .interrupt virtualizationFault)]

/-- The checks of `ssm` and `rsm`. -/
def State.systemMaskChecks (s : State) (imm : BitVec 24) : List (Bool × Stop) :=
  [(s.cpl != 0, .interrupt (privilegedOperation {})), (imm &&& Psr.reservedSm != 0, .interrupt reservedRegisterField),
    (s.psrBit Psr.vm, .interrupt virtualizationFault)]

/-- The checks of `mov r1 = psr`. -/
def State.fromPsrChecks (s : State) (r : BitVec 7) : List (Bool × Stop) :=
  [(s.badTarget r, .interrupt illegalOperation), (s.cpl != 0, .interrupt (privilegedOperation {})),
    (s.psrBit Psr.vm, .interrupt virtualizationFault)]

/-- The checks of `mov psr.um`. -/
def psrUmChecks (g : Gr) : List (Bool × Stop) :=
  [(g.nat, .interrupt (natConsumption {})),
    (fld g.val 6 58 != (0 : BitVec 58) || bit g.val 0, .interrupt reservedRegisterField)]

/-- The checks of `sum` and `rum`. -/
def userMaskChecks (imm : BitVec 24) : List (Bool × Stop) := [(imm &&& 0xFFFFC1 != 0, .interrupt reservedRegisterField)]

theorem exec_movToPsrL : exec (.movToPsrLM35 qp r) s = predicated qp s (guarded (s.psrLChecks (s.gr r))
    (done { s with psr := setFld s.psr 0 (fld (s.gr r).val 0 32 : BitVec 32) })) := rfl

theorem exec_movToPsrUm : exec (.movToPsrUmM35 qp r) s = predicated qp s (guarded (psrUmChecks (s.gr r))
    (done (s.setUserMask (fld (s.gr r).val 0 6)))) := rfl

theorem exec_movFromPsr : exec (.movFromPsrM36 qp r) s = predicated qp s (guarded (s.fromPsrChecks r)
    (done (s.setGr r (Gr.ofWord s.psrRead)))) := rfl

theorem systemMask_eq {imm new : BitVec 24} : systemMask qp imm new s = predicated qp s
    (guarded (s.systemMaskChecks imm) (done { s with psr := setFld s.psr 0 new })) := rfl

theorem userMask_eq {imm : BitVec 24} {new : BitVec 6} : userMask qp imm new s = predicated qp s
    (guarded (userMaskChecks imm) (done (s.setUserMask new))) := rfl

/-- What `mov psr.l` may not write (R682; impl_check_mov_psr_l is 1). -/
theorem psrLReserved_iff {v : Word} : (fld v 0 32 &&& Psr.reservedL != 0 || psrHighReserved v) = true ↔
    fld v 0 32 &&& Psr.reservedL ≠ 0 ∨ (fld v 47 17 : BitVec 17) ≠ 0 := by
  simp [psrHighReserved]

/-- A write of PSR{31:0} (R682, R685). -/
theorem completes_setPsrLow {i : Instr} {len : Nat} {v : BitVec len} {l : List (Bool × Stop)} (hq : s.prBit qp = true)
    (hss : s.psrBit Psr.ss = false) (hlen : len ≤ 32)
    (hi : exec i s = predicated qp s (guarded l (done { s with psr := setFld s.psr 0 v }))) (h : firstStop l = none) :
    ∃ w : Word, Completes i s { s with psr := w } ∧
      ∀ j, j < 64 → w.getLsbD j = if j < len then v.getLsbD j else s.psr.getLsbD j := by
  have hbits (j : Nat) : (setFld s.psr 0 v).getLsbD j = if j < len then v.getLsbD j else s.psr.getLsbD j := by
    rw [getLsbD_setFld _ _ _ _ (by omega)]
    simp
  exact ⟨setFld s.psr 0 v,
    completes_of_lowPsr hq hss rfl (fun j hj => (hbits j).trans (if_neg (by omega))) hi h, fun j _ => hbits j⟩

/-- A write of the user mask (R683, R684). -/
theorem completes_userMask {i : Instr} {v : BitVec 6} {new : Nat → Bool} {l : List (Bool × Stop)}
    (hq : s.prBit qp = true) (hss : s.psrBit Psr.ss = false)
    (hi : exec i s = predicated qp s (guarded l (done (s.setUserMask v)))) (h : firstStop l = none)
    (hnew : ∀ j < 6, v.getLsbD j = new j) :
    ∃ w : Word, Completes i s { s with psr := w } ∧ ∀ j, j < 64 → w.getLsbD j =
      if 1 ≤ j ∧ j ≤ 5 ∧ (j = 2 → s.psrBit Psr.sp = false) then new j else s.psr.getLsbD j := by
  refine ⟨_, completes_of_lowPsr (u := s.setUserMask v) hq hss rfl
    (fun j hj => (getLsbD_setUserMask s v j).trans (if_neg (by omega))) hi h, fun j _ => ?_⟩
  refine (getLsbD_setUserMask s v j).trans ?_
  by_cases hj : j < 6
  · rw [hnew j hj]
  · rw [if_neg (by omega), if_neg (by omega)]

/-- What `mov r1 = psr.um` reads (R683). -/
theorem low_userMask (w : Word) : (fld w 0 6 : BitVec 6).zeroExtend 64 = w &&& 0x3F := by
  have hmask : ∀ j < 64, (0x3F : Word).getLsbD j = decide (j < 6) := by decide
  refine BitVec.eq_of_getLsbD_eq fun j hj => ?_
  rw [BitVec.getLsbD_and, hmask j hj, BitVec.zeroExtend, BitVec.getLsbD_setWidth, getLsbD_fld]
  simp [hj, Bool.and_comm]

end

/-- Settles O37: the checks of each form, and the bits that its write changes. -/
theorem statusRegisterMoves : Obligations.StatusRegisterMoves := by
  refine ⟨fun s qp r hq hno => ?_, fun s qp r imm hq => ?_, fun s qp r imm k imm16 hq hss => ?_⟩
  · have hb := badTarget_of_noTarget hno
    exact ⟨traps_of_guarded hq exec_movFromPsr (firstStop_stop hb), traps_of_writeGr hq hb rfl⟩
  · refine ⟨fun hl => ?_, fun hn => traps_of_guarded hq exec_movToPsrUm (firstStop_stop hn), fun hn hv =>
      traps_of_guarded hq exec_movToPsrUm (firstStop_pass hn (firstStop_stop ((outsideUserMask_iff _).mpr hv))),
      fun himm => ?_⟩
    · have hl := cpl_passes hl
      refine ⟨fun hn => traps_of_guarded hq exec_movToPsrL (firstStop_pass hl (firstStop_stop hn)), fun hn hres =>
        traps_of_guarded hq exec_movToPsrL
          (firstStop_pass hl (firstStop_pass hn (firstStop_stop (psrLReserved_iff.mpr hres)))),
        fun hvm => ⟨fun hn hres => ?_, fun himm => ?_, fun hno => ?_⟩⟩
      · have hres := Bool.eq_false_of_not_eq_true (mt psrLReserved_iff.mp hres)
        exact traps_of_guarded hq exec_movToPsrL
          (firstStop_pass hl (firstStop_pass hn (firstStop_pass hres (firstStop_stop hvm))))
      · have himm : (imm &&& Psr.reservedSm != 0) = false := bne_eq_false_iff_eq.mpr himm
        have hstop : firstStop (s.systemMaskChecks imm) = some (.interrupt virtualizationFault) :=
          firstStop_pass hl (firstStop_pass himm (firstStop_stop hvm))
        exact ⟨traps_of_guarded hq systemMask_eq hstop, traps_of_guarded hq systemMask_eq hstop⟩
      · exact traps_of_guarded hq exec_movFromPsr
          (firstStop_pass (badTarget_of_target hno) (firstStop_pass hl (firstStop_stop hvm)))
    · have hstop : firstStop (userMaskChecks imm) = some (.interrupt reservedRegisterField) :=
        firstStop_stop (bne_iff_ne.mpr himm)
      exact ⟨traps_of_guarded hq userMask_eq hstop, traps_of_guarded hq userMask_eq hstop⟩
  · refine ⟨fun hl hvm => ⟨fun hn hlow hhigh => ?_, fun himm => ?_, fun himm => ?_, fun hb => ?_⟩, fun hn hv => ?_,
      fun himm => ?_, fun hb => ?_, completes_of_predicated hq hss rfl rfl rfl⟩
    · have hl := cpl_passes hl
      have hres : (fld (s.gr r).val 0 32 &&& Psr.reservedL != 0 || psrHighReserved (s.gr r).val) = false :=
        Bool.eq_false_of_not_eq_true (mt psrLReserved_iff.mp (not_or.mpr ⟨not_not_intro hlow, not_not_intro hhigh⟩))
      obtain ⟨w, hw, hbits⟩ := completes_setPsrLow hq hss (by decide) exec_movToPsrL
        (firstStop_pass hl (firstStop_pass hn (firstStop_pass hres (firstStop_pass hvm firstStop_nil))))
      refine ⟨w, hw, fun j hj => (hbits j hj).trans ?_⟩
      by_cases hlow : j < 32
      · simp only [if_pos hlow, getLsbD_fld_low hlow]
      · simp [hlow]
    · have hstop : firstStop (s.systemMaskChecks imm) = none := firstStop_pass (cpl_passes hl)
        (firstStop_pass (bne_eq_false_iff_eq.mpr himm) (firstStop_pass hvm firstStop_nil))
      have systemBits (new : BitVec 24) (f : Bool → Bool → Bool) (hf : ∀ a, f a false = a)
          (hnew : ∀ j < 24, new.getLsbD j = f (s.psr.getLsbD j) (imm.getLsbD j)) (j : Nat) :
          (if j < 24 then new.getLsbD j else s.psr.getLsbD j) = f (s.psr.getLsbD j) (imm.getLsbD j) := by
        by_cases hlow : j < 24
        · rw [if_pos hlow, hnew j hlow]
        · rw [if_neg hlow, BitVec.getLsbD_of_ge imm j (by omega), hf]
      constructor
      · obtain ⟨w, hw, hbits⟩ := completes_setPsrLow (i := .ssmM44 qp imm) hq hss (by decide) systemMask_eq hstop
        exact ⟨w, hw, fun j hj => (hbits j hj).trans (systemBits _ (fun a b => a || b) Bool.or_false
          (fun j hj => by rw [BitVec.getLsbD_or, getLsbD_fld_low hj]) j)⟩
      · obtain ⟨w, hw, hbits⟩ := completes_setPsrLow (i := .rsmM44 qp imm) hq hss (by decide) systemMask_eq hstop
        exact ⟨w, hw, fun j hj => (hbits j hj).trans (systemBits _ (fun a b => a && !b) Bool.and_true
          (fun j hj => by rw [getLsbD_andNot hj, getLsbD_fld_low hj]) j)⟩
    · have hstop : firstStop (s.systemMaskChecks imm) = some (.interrupt reservedRegisterField) :=
        firstStop_pass (cpl_passes hl) (firstStop_stop (bne_iff_ne.mpr himm))
      exact ⟨traps_of_guarded hq systemMask_eq hstop, traps_of_guarded hq systemMask_eq hstop⟩
    · exact writesGr_of_guarded ⟨hq, hss, hb⟩ exec_movFromPsr
        (firstStop_pass hb (firstStop_pass (cpl_passes hl) (firstStop_pass hvm firstStop_nil)))
    · exact completes_userMask hq hss exec_movToPsrUm (firstStop_pass hn
        (firstStop_pass (Bool.eq_false_of_not_eq_true (mt (outsideUserMask_iff _).mp (not_not_intro hv))) firstStop_nil))
        fun j hj => getLsbD_fld_low hj
    · have hstop : firstStop (userMaskChecks imm) = none := firstStop_pass (bne_eq_false_iff_eq.mpr himm) firstStop_nil
      exact ⟨completes_userMask hq hss userMask_eq hstop
          fun j hj => by rw [BitVec.getLsbD_or, getLsbD_fld_low hj, getLsbD_fld_low hj],
        completes_userMask hq hss userMask_eq hstop
          fun j hj => by rw [getLsbD_andNot hj, getLsbD_fld_low hj, getLsbD_fld_low hj]⟩
    · refine writesGr_of_guarded (l := [(s.badTarget r, .interrupt illegalOperation)]) ⟨hq, hss, hb⟩ (hi := ?_)
        (firstStop_pass hb firstStop_nil)
      rw [← low_userMask]
      rfl

end Sys2Proof.Machine
end

section
/-! ### Purges of translations -/
namespace Sys2Proof.Machine

section
variable {s u : State} {i : Instr} {qp : BitVec 6} {r2 r3 : BitVec 7} {last alat inst : Bool} {l : List (Bool × Stop)}

/-- The checks that the purges share, in their order (R716). -/
def State.purgeChecks (s : State) (r2 r3 : BitVec 7) : List (Bool × Stop) :=
  [(s.cpl != 0, .interrupt (privilegedOperation {})), ((s.gr r3).nat || (s.gr r2).nat, .interrupt (natConsumption {})),
    (itirReserved (s.gr r2).val, .interrupt reservedRegisterField),
    (unimplementedVa (s.gr r3).val (s.psrBit Psr.vm), .interrupt (unimplementedData {})),
    (s.psrBit Psr.vm, .interrupt virtualizationFault)]

theorem checkPurge_eq : s.checkPurge r2 r3 = guarded (s.purgeChecks r2 r3) (.ok ()) := by
  cases hvm : s.psrBit Psr.vm <;> simp only [State.checkPurge, State.purgeChecks, hvm] <;> rfl

/-- What `ptc.l`, `ptc.g` and `ptc.ga` do after their checks. -/
def State.purgedCaches (s : State) (alat : Bool) (va : Word) (ps : BitVec 6) : Body := do
  let t ← s.purgeLocal va ps
  stuckIf (s.purgesStream va ps) .undefinedBehavior
  done (if alat then t.alatInval else t)

theorem purgeCache_eq : purgeCache last alat qp r2 r3 s = predicated qp s
    (guarded ((last && !s.followedByStop, .stuck .undefinedBehavior) :: s.purgeChecks r2 r3)
      (s.purgedCaches alat (s.gr r3).val (itirPs (s.gr r2).val))) := by
  rw [purgeCache, checkPurge_eq, guarded_bind]; rfl

theorem purgeRegister_eq : purgeRegister inst qp r2 r3 s = predicated qp s (guarded (s.purgeChecks r2 r3)
    (guarded [(inst && s.purgesStream (s.gr r3).val (itirPs (s.gr r2).val), .stuck .undefinedBehavior)]
      (done (s.purgeTrs inst (s.gr r3).val (itirPs (s.gr r2).val))))) := by
  rw [purgeRegister, checkPurge_eq, guarded_bind]; rfl

/-- The faults of a purge's operands (R716). -/
theorem purgeFaults (hl : s.cpl = 0)
    (htraps : ∀ x, firstStop (s.purgeChecks r2 r3) = some (.interrupt x) → Traps i s x) :
    ((s.gr r2).nat = true ∨ (s.gr r3).nat = true → Traps i s (natConsumption {})) ∧
    ((s.gr r2).nat = false → (s.gr r3).nat = false →
      (itirReserved (s.gr r2).val = true → Traps i s reservedRegisterField) ∧
      (itirReserved (s.gr r2).val = false → unimplementedVa (s.gr r3).val (s.psrBit Psr.vm) = true →
        Traps i s (unimplementedData {}))) := by
  have hl := cpl_passes hl
  refine ⟨fun h => htraps _ (firstStop_pass hl (firstStop_stop ?_)), fun h2 h3 => ?_⟩
  · rw [Bool.or_eq_true]; exact h.symm
  have hnat : ((s.gr r3).nat || (s.gr r2).nat) = false := by rw [h2, h3]; rfl
  exact ⟨fun hres => htraps _ (firstStop_pass hl (firstStop_pass hnat (firstStop_stop hres))), fun hres hva =>
    htraps _ (firstStop_pass hl (firstStop_pass hnat (firstStop_pass hres (firstStop_stop hva))))⟩

theorem purgeChecks_pass (hl : s.cpl = 0) (hvm : s.psrBit Psr.vm = false) (h2 : (s.gr r2).nat = false)
    (h3 : (s.gr r3).nat = false) (hres : itirReserved (s.gr r2).val = false)
    (hva : unimplementedVa (s.gr r3).val false = false) : firstStop (s.purgeChecks r2 r3) = none :=
  firstStop_pass (cpl_passes hl) (firstStop_pass (by rw [h2, h3]; rfl) (firstStop_pass hres
    (firstStop_pass (by rw [hvm]; exact hva) (firstStop_pass hvm firstStop_nil))))

/-- A purge takes away the running translation (U14). -/
theorem purgesStream_iff {va : Word} {ps : BitVec 6} : s.purgesStream va ps = true ↔
    s.psrBit Psr.it = true ∧
      ∃ e, s.findInst s.ip = some e ∧ e.overlaps (fld s.rr[(fld va 61 3 : BitVec 3).toFin] 8 24) va ps = true := by
  rw [State.purgesStream, Bool.and_eq_true, Option.any_eq_true]; rfl

end

/-- Settles O40: the purges are their checks, then the filters of the translations. -/
theorem purgesRemoveTranslations : Obligations.PurgesRemoveTranslations := by
  refine ⟨fun s qp r2 r3 hq hl => ?_, fun s qp r2 r3 hp h3 => ?_⟩
  · have purges {last alat : Bool} {i : Instr} (hi : exec i s = purgeCache last alat qp r2 r3 s)
        (hlast : (last && !s.followedByStop) = false) :=
      purgeFaults (i := i) hl fun x hx => traps_of_guarded hq (hi.trans purgeCache_eq) (firstStop_pass hlast hx)
    have purgesTr {inst : Bool} {i : Instr} (hi : exec i s = purgeRegister inst qp r2 r3 s) :=
      purgeFaults (i := i) hl fun x hx => traps_of_guarded hq (hi.trans purgeRegister_eq) hx
    refine ⟨fun h3 => ?_, purges rfl rfl, purgesTr rfl, purgesTr rfl, fun hstop => ⟨purges rfl ?_, purges rfl ?_⟩⟩
    · exact traps_of_guarded
        (l := [(s.cpl != 0, .interrupt (privilegedOperation {})), ((s.gr r3).nat, .interrupt (natConsumption {})),
          (s.psrBit Psr.vm, .interrupt virtualizationFault)])
        (b := done s.purgeCaches) hq rfl (firstStop_pass (cpl_passes hl) (firstStop_stop h3))
    · rw [hstop]; rfl
    · rw [hstop]; rfl
  · obtain ⟨hq, hl, hvm, hss⟩ := hp
    refine ⟨completes_of_guarded
        (l := [(s.cpl != 0, .interrupt (privilegedOperation {})), ((s.gr r3).nat, .interrupt (natConsumption {})),
          (s.psrBit Psr.vm, .interrupt virtualizationFault)]) hq hss rfl rfl rfl
        (firstStop_pass (cpl_passes hl) (firstStop_pass h3 (firstStop_pass hvm firstStop_nil))),
      fun h2 hres hva => ?_⟩
    intro va ps rid hit trs running local_
    have hpass := purgeChecks_pass hl hvm h2 h3 hres hva
    have hrunning : s.purgesStream va ps = true ↔ running := purgesStream_iff
    have hoverlap : s.purgeLocal va ps = if trs then .error (.stuck .machineCheck) else .ok local_ := rfl
    have completes {last alat : Bool} {i : Instr} (hi : exec i s = purgeCache last alat qp r2 r3 s)
        (hlast : (last && !s.followedByStop) = false) (htrs : trs = false) (hrun : ¬ running) :
        Completes i s (if alat then local_.alatInval else local_) := by
      have hrun := Bool.eq_false_of_not_eq_true (mt hrunning.mp hrun)
      have hbody : s.purgedCaches alat va ps = done (if alat then local_.alatInval else local_) := by
        rw [State.purgedCaches, hoverlap, htrs, hrun]; rfl
      have hi := (exec_of_guarded (hi.trans purgeCache_eq) (firstStop_pass hlast hpass)).trans
        (congrArg (predicated qp s) hbody)
      cases alat <;> exact completes_of_predicated hq hss rfl rfl hi
    have stops {last alat : Bool} {i : Instr} (hi : exec i s = purgeCache last alat qp r2 r3 s)
        (hlast : (last && !s.followedByStop) = false) {f : Fault}
        (hf : (trs = true ∧ f = .machineCheck) ∨ (trs = false ∧ running ∧ f = .undefinedBehavior)) :
        exec i s = .fault f := by
      refine fault_of_body hq (hi.trans purgeCache_eq) (firstStop_pass hlast hpass) ?_
      change s.purgedCaches alat va ps = _
      rcases hf with ⟨htrs, rfl⟩ | ⟨htrs, hrun, rfl⟩
      · rw [State.purgedCaches, hoverlap, htrs]; rfl
      · rw [State.purgedCaches, hoverlap, htrs, hrunning.mpr hrun]; rfl
    have followed (hstop : s.followedByStop = true) : (true && !s.followedByStop) = false := by rw [hstop]; rfl
    have unfollowed {alat : Bool} {i : Instr} (hi : exec i s = purgeCache true alat qp r2 r3 s)
        (hstop : s.followedByStop = false) : exec i s = .fault .undefinedBehavior :=
      fault_of_guarded hq (hi.trans purgeCache_eq) (firstStop_stop (by rw [hstop]; rfl))
    refine ⟨fun htrs hrun => ⟨completes (alat := false) rfl rfl htrs hrun, fun hstop =>
        ⟨completes (alat := false) rfl (followed hstop) htrs hrun,
          completes (alat := true) rfl (followed hstop) htrs hrun⟩⟩, ?_,
      fun hstop => ⟨unfollowed rfl hstop, unfollowed rfl hstop⟩, ?_, fun hrun => ?_, fun hrun => ?_⟩
    · simp only [List.forall_mem_cons, List.not_mem_nil, false_imp_iff, implies_true, and_true]
      exact ⟨fun htrs => ⟨stops rfl rfl (.inl ⟨htrs, rfl⟩), fun hstop =>
          ⟨stops rfl (followed hstop) (.inl ⟨htrs, rfl⟩), stops rfl (followed hstop) (.inl ⟨htrs, rfl⟩)⟩⟩,
        fun ⟨htrs, hrun⟩ => ⟨stops rfl rfl (.inr ⟨htrs, hrun, rfl⟩), fun hstop =>
          ⟨stops rfl (followed hstop) (.inr ⟨htrs, hrun, rfl⟩), stops rfl (followed hstop) (.inr ⟨htrs, hrun, rfl⟩)⟩⟩⟩
    · exact completes_of_guarded hq hss rfl rfl (exec_of_guarded purgeRegister_eq hpass) (firstStop_pass rfl firstStop_nil)
    · exact fault_of_guarded hq (exec_of_guarded purgeRegister_eq hpass) (firstStop_stop (hrunning.mpr hrun))
    · have hrun := Bool.eq_false_of_not_eq_true (mt hrunning.mp hrun)
      exact completes_of_guarded hq hss rfl rfl (exec_of_guarded purgeRegister_eq hpass)
        (firstStop_pass hrun firstStop_nil)

end Sys2Proof.Machine
end

section
/-! ### Inserts of translations -/
namespace Sys2Proof.Machine

/-! #### Reserved fields (R205) -/

theorem itirReserved_iff (itir : Word) : itirReserved itir = true ↔ (fld itir 0 2 : BitVec 2) ≠ 0 ∨
    (fld itir 32 32 : BitVec 32) ≠ 0 ∨
    (fld itir 2 6 : BitVec 6).toNat ∉ [12, 13, 14, 16, 18, 20, 22, 24, 26, 28] := by
  rw [itirReserved, Bool.or_eq_true, Bool.or_eq_true, bne_iff_ne, bne_iff_ne, Bool.not_eq_true', ← Bool.not_eq_true,
    List.contains_iff_mem, or_assoc]
  rfl

/-- The memory attributes that no page may have are 1, 2 and 3. -/
theorem reservedAttribute_iff (pte : Word) :
    (fld pte 2 3 != (0 : BitVec 3) && !bit pte 4) = true ↔ (fld pte 2 3 : BitVec 3) ∈ [(1 : BitVec 3), 2, 3] := by
  have hhigh : bit pte 4 = (fld pte 2 3 : BitVec 3).getLsbD 2 := (getLsbD_fld pte 2 3 2).symm
  rw [hhigh]
  generalize (fld pte 2 3 : BitVec 3) = ma
  revert ma; decide

theorem tlbReserved_iff (pte itir : Word) : tlbReserved pte itir = true ↔ itirReserved itir = true ∨
    (pte.getLsbD 0 = true ∧ (pte.getLsbD 1 = true ∨ (fld pte 50 2 : BitVec 2) ≠ 0 ∨
      (fld pte 2 3 : BitVec 3) ∈ [(1 : BitVec 3), 2, 3])) := by
  have hunfold : tlbReserved pte itir = (itirReserved itir || (bit pte 0 && (bit pte 1 || fld pte 50 2 != (0 : BitVec 2) ||
      (fld pte 2 3 != (0 : BitVec 3) && !bit pte 4)))) := rfl
  rw [hunfold, Bool.or_eq_true, Bool.and_eq_true, Bool.or_eq_true, Bool.or_eq_true, bne_iff_ne, reservedAttribute_iff,
    or_assoc]
  rfl

/-! #### Checks, and what follows them (R676, R677) -/

section
variable {s u : State} {i : Instr} {qp : BitVec 6} {r2 r3 : BitVec 7} {inst : Bool}

/-- The completion of an instruction that neither branches nor traps, as the state that it leaves. -/
theorem retire_untrapped (h : u.psrBit Psr.ss = false) :
    retire { st := u } = ((u.cleared .sequential).goto .sequential).countEvent Config.eventRetired := by
  have hss := (cleared_bit u .sequential _ (by decide)).trans h
  have hcode : trapCode (u.cleared .sequential) .sequential none = 0 := by simp [trapCode, hss]
  exact (congrArg (fun c => takeTraps c _ _) hcode).trans (takeTraps_zero _ _)

/-- With PSR.ic 0 a completion serves no translation (R204). -/
theorem retire_progress (h : u.psrBit Psr.ss = false) (hic : u.psrBit Psr.ic = false) :
    (retire { st := u }).progress = u.progress := by
  rw [retire_untrapped h, State.countEvent_progress, State.goto_progress, State.cleared, hic]
  rfl

/-- The checks of `itc`. -/
def State.cacheChecks (s : State) (r2 : BitVec 7) : List (Bool × Stop) :=
  [(!s.followedByStop, .stuck .undefinedBehavior), (s.psrBit Psr.ic, .interrupt illegalOperation),
    (s.cpl != 0, .interrupt (privilegedOperation {})), ((s.gr r2).nat, .interrupt (natConsumption {})),
    (tlbReserved (s.gr r2).val s.cr.itir, .interrupt reservedRegisterField),
    (!Config.checkMovIfa && unimplementedVa s.cr.ifa (s.psrBit Psr.vm), .interrupt (unimplementedData {})),
    (s.psrBit Psr.vm, .interrupt virtualizationFault)]

/-- The checks of `itr`. -/
def State.registerChecks (s : State) (inst : Bool) (r2 r3 : BitVec 7) : List (Bool × Stop) :=
  [(s.psrBit Psr.ic, .interrupt illegalOperation), (s.cpl != 0, .interrupt (privilegedOperation {})),
    ((s.gr r3).nat || (s.gr r2).nat, .interrupt (natConsumption {})),
    (decide ((if inst then Config.nItr else Config.nDtr) ≤ (fld (s.gr r3).val 0 8 : BitVec 8).toNat),
      .interrupt reservedRegisterField),
    (tlbReserved (s.gr r2).val s.cr.itir, .interrupt reservedRegisterField),
    (!Config.checkMovIfa && unimplementedVa s.cr.ifa (s.psrBit Psr.vm), .interrupt (unimplementedData {})),
    (s.psrBit Psr.vm, .interrupt virtualizationFault)]

/-- The state with a new entry in a translation cache (R676, R204, R208). -/
def State.withTc (s : State) (inst : Bool) (e : TlbEntry) : State :=
  let purged (tc : List TlbEntry) : List TlbEntry := purgeTc tc e.rid (e.base.zeroExtend 64) e.ps
  { s with
    itc := if inst then fillTc Config.nItc e (purged s.itc) else s.itc
    dtc := if inst then s.dtc else fillTc Config.nDtc e (purged s.dtc)
    progress := s.progress.install inst e }

section
variable (s : State) (inst : Bool) (e : TlbEntry)

@[simp] theorem State.withTc_psr : (s.withTc inst e).psr = s.psr := rfl
@[simp] theorem State.withTc_ip : (s.withTc inst e).ip = s.ip := rfl
theorem State.mem_withTc_required : (inst, e) ∈ (s.withTc inst e).progress.required := List.mem_cons_self

end

theorem insertTc_ok {e : TlbEntry} (h : s.overlapsTr inst e.rid (e.base.zeroExtend 64) e.ps = false) :
    s.insertTc inst e = .ok (s.withTc inst e) := by
  refine (if_neg (ne_true_of_eq_false h)).trans ?_
  cases inst <;> rfl

theorem insertTc_overlap {e : TlbEntry} (h : s.overlapsTr inst e.rid (e.base.zeroExtend 64) e.ps = true) :
    s.insertTc inst e = .error (.stuck .machineCheck) :=
  if_pos h

section
variable {n : Nat} {k : Fin 8} {e : TlbEntry}

theorem insertTr_data (h : Fin.ofNat 8 n = k) : s.insertTr false n e =
    if trOverlap (s.dtr.set k none) e.rid (e.base.zeroExtend 64) e.ps = true then .error (.stuck .machineCheck)
    else .ok { s with
      dtr := s.dtr.set k (some e)
      dtc := (purgeTc (s.dtr[k].toList ++ s.dtc) e.rid (e.base.zeroExtend 64) e.ps).take Config.nDtc } := by
  subst h; rfl

theorem insertTr_code (h : Fin.ofNat 8 n = k) : s.insertTr true n e =
    if trOverlap (s.itr.set k none) e.rid (e.base.zeroExtend 64) e.ps = true then .error (.stuck .machineCheck)
    else .ok { s with
      itr := s.itr.set k (some e)
      itc := (purgeTc (s.itr[k].toList ++ s.itc) e.rid (e.base.zeroExtend 64) e.ps).take Config.nItc } := by
  subst h; rfl

end

theorem insertCache_eq : insertCache inst qp r2 s = predicated qp s (guarded (s.cacheChecks r2)
    (s.insertTc inst (s.newEntry (s.gr r2).val) >>= fun t => done t)) := rfl

theorem insertRegister_eq : insertRegister inst qp r2 r3 s = predicated qp s (guarded (s.registerChecks inst r2 r3)
    (s.insertTr inst (fld (s.gr r3).val 0 8 : BitVec 8).toNat (s.newEntry (s.gr r2).val) >>= fun t => done t)) := rfl

/-- The index of a translation register is bits 7:0 of r3, and there are 8 of each stream. -/
theorem slot_toNat (v : Word) : (fld v 0 8 : BitVec 8).toNat = v.toNat % 256 := by
  simp [fld]

theorem trCount : (if inst then Config.nItr else Config.nDtr) = 8 := by cases inst <;> rfl

theorem cacheChecks_pass (hl : s.cpl = 0) (hvm : s.psrBit Psr.vm = false) (hic : s.psrBit Psr.ic = false)
    (hn : (s.gr r2).nat = false) (hres : tlbReserved (s.gr r2).val s.cr.itir = false)
    (hstop : s.followedByStop = true) : firstStop (s.cacheChecks r2) = none :=
  firstStop_pass (by rw [hstop]; rfl) (firstStop_pass hic (firstStop_pass (cpl_passes hl) (firstStop_pass hn
    (firstStop_pass hres (firstStop_pass rfl (firstStop_pass hvm firstStop_nil))))))

theorem registerChecks_pass (hl : s.cpl = 0) (hvm : s.psrBit Psr.vm = false) (hic : s.psrBit Psr.ic = false)
    (hn : (s.gr r2).nat = false) (hn3 : (s.gr r3).nat = false) (hres : tlbReserved (s.gr r2).val s.cr.itir = false)
    (hslot : (s.gr r3).val.toNat % 256 < 8) : firstStop (s.registerChecks inst r2 r3) = none :=
  firstStop_pass hic (firstStop_pass (cpl_passes hl) (firstStop_pass (by rw [hn, hn3]; rfl)
    (firstStop_pass (by rw [trCount, slot_toNat]; exact decide_eq_false (by omega))
      (firstStop_pass hres (firstStop_pass rfl (firstStop_pass hvm firstStop_nil))))))

end

/-- Settles O39: the inserts are their checks, then the new entry in the place of those it overlaps. -/
theorem insertsMakeTranslations : Obligations.InsertsMakeTranslations := by
  refine ⟨fun pte itir => ⟨itirReserved_iff itir, tlbReserved_iff pte itir⟩, fun s qp r2 r3 hq => ?_,
    fun s qp r2 r3 hp hic hn hres => ?_⟩
  · simp only [List.forall_mem_cons, List.not_mem_nil, false_imp_iff, implies_true, and_true]
    have registers {inst : Bool} {i : Instr} {x : Interruption} (hi : exec i s = insertRegister inst qp r2 r3 s)
        (h : firstStop (s.registerChecks inst r2 r3) = some (.interrupt x)) : Traps i s x :=
      traps_of_guarded hq (hi.trans insertRegister_eq) h
    have caches {inst : Bool} {i : Instr} {x : Interruption} (hi : exec i s = insertCache inst qp r2 s)
        (h : firstStop (s.cacheChecks r2) = some (.interrupt x)) : Traps i s x :=
      traps_of_guarded hq (hi.trans insertCache_eq) h
    have unfollowed {inst : Bool} {i : Instr} (hi : exec i s = insertCache inst qp r2 s)
        (hstop : s.followedByStop = false) : exec i s = .fault .undefinedBehavior :=
      fault_of_guarded hq (hi.trans insertCache_eq) (firstStop_stop (by rw [hstop]; rfl))
    refine ⟨fun hic => ⟨registers rfl (firstStop_stop hic), registers rfl (firstStop_stop hic)⟩, fun hic hl =>
      ⟨fun hnat => ?_, fun hn hn3 hbad => ?_⟩, fun hstop => ⟨fun hic => ?_, fun hic hl => ⟨fun hnat => ?_,
        fun hn hres => ?_⟩⟩, fun hstop => ⟨unfollowed rfl hstop, unfollowed rfl hstop⟩⟩
    · have h {inst : Bool} : firstStop (s.registerChecks inst r2 r3) = some (.interrupt (natConsumption {})) :=
        firstStop_pass hic (firstStop_pass (cpl_passes hl) (firstStop_stop (by rw [Bool.or_eq_true]; exact hnat.symm)))
      exact ⟨registers rfl h, registers rfl h⟩
    · have h {inst : Bool} : firstStop (s.registerChecks inst r2 r3) = some (.interrupt reservedRegisterField) := by
        refine firstStop_pass hic (firstStop_pass (cpl_passes hl) (firstStop_pass (by rw [hn, hn3]; rfl) ?_))
        by_cases hslot : 8 ≤ (s.gr r3).val.toNat % 256
        · exact firstStop_stop (by rw [trCount, slot_toNat]; exact decide_eq_true hslot)
        · exact firstStop_pass (by rw [trCount, slot_toNat]; exact decide_eq_false hslot)
            (firstStop_stop (hbad.resolve_left hslot))
      exact ⟨registers rfl h, registers rfl h⟩
    all_goals have followed : (!s.followedByStop) = false := by rw [hstop]; rfl
    · have h : firstStop (s.cacheChecks r2) = some (.interrupt illegalOperation) :=
        firstStop_pass followed (firstStop_stop hic)
      exact ⟨caches rfl h, caches rfl h⟩
    · have h : firstStop (s.cacheChecks r2) = some (.interrupt (natConsumption {})) :=
        firstStop_pass followed (firstStop_pass hic (firstStop_pass (cpl_passes hl) (firstStop_stop hnat)))
      exact ⟨caches rfl h, caches rfl h⟩
    · have h : firstStop (s.cacheChecks r2) = some (.interrupt reservedRegisterField) := firstStop_pass followed
        (firstStop_pass hic (firstStop_pass (cpl_passes hl) (firstStop_pass hn (firstStop_stop hres))))
      exact ⟨caches rfl h, caches rfl h⟩
  · obtain ⟨hq, hl, hvm, hss⟩ := hp
    intro rid e page purged
    refine ⟨fun hstop => ?_, fun hn3 k hk => ?_⟩
    · have inserts {inst : Bool} {i : Instr} (hi : exec i s = insertCache inst qp r2 s) :
          exec i s = predicated qp s (s.insertTc inst e >>= fun t => done t) :=
        exec_of_guarded (hi.trans insertCache_eq) (cacheChecks_pass hl hvm hic hn hres hstop)
      have completes {inst : Bool} {i : Instr} (hi : exec i s = insertCache inst qp r2 s)
          (h : s.overlapsTr inst rid page e.ps = false) : Completes i s (s.withTc inst e) :=
        completes_of_predicated hq hss (s.withTc_psr inst e) (s.withTc_ip inst e) ((inserts hi).trans (by
          rw [insertTc_ok h]; rfl))
      have stops {inst : Bool} {i : Instr} (hi : exec i s = insertCache inst qp r2 s)
          (h : s.overlapsTr inst rid page e.ps = true) : exec i s = .fault .machineCheck :=
        fault_of_body (l := []) hq (inserts hi) rfl (by rw [insertTc_overlap h]; rfl)
      have required {inst : Bool} {i : Instr} (hi : exec i s = insertCache inst qp r2 s) {t : State}
          (ht : exec i s = .next t) : (inst, e) ∈ t.progress.required := by
        cases h : s.overlapsTr inst rid page e.ps with
        | true => rw [stops hi h] at ht; exact nomatch ht
        | false =>
          rw [inserts hi, predicated, if_pos hq, insertTc_ok h] at ht
          obtain rfl : retire { st := s.withTc inst e } = t := Host.Outcome.next.inj ht
          rw [retire_progress (u := s.withTc inst e) hss hic]
          exact s.mem_withTc_required inst e
      exact ⟨completes (inst := false) rfl, completes (inst := true) rfl, fun t => required rfl, fun t => required rfl,
        stops (inst := false) rfl, stops (inst := true) rfl⟩
    · have hslot : Fin.ofNat 8 (fld (s.gr r3).val 0 8 : BitVec 8).toNat = k := by
        rw [slot_toNat, ← hk]; exact Fin.ofNat_val_eq_self k
      have inserts {inst : Bool} {i : Instr} (hi : exec i s = insertRegister inst qp r2 r3 s) :
          exec i s = predicated qp s (s.insertTr inst (fld (s.gr r3).val 0 8 : BitVec 8).toNat e >>= fun t => done t) :=
        exec_of_guarded (hi.trans insertRegister_eq) (registerChecks_pass hl hvm hic hn hn3 hres (hk ▸ k.isLt))
      have data := inserts (inst := false) (i := .itrDM42 qp r2 r3) rfl
      have code := inserts (inst := true) (i := .itrIM42 qp r2 r3) rfl
      rw [insertTr_data hslot] at data
      rw [insertTr_code hslot] at code
      refine ⟨fun h => ?_, fun h => ?_, fun h => ?_, fun h => ?_⟩
      · exact fault_of_body (l := []) hq data rfl (congrArg (· >>= fun t => done t) (if_pos h))
      · exact fault_of_body (l := []) hq code rfl (congrArg (· >>= fun t => done t) (if_pos h))
      · exact completes_of_predicated hq hss rfl rfl
          (data.trans (congrArg (fun b => predicated qp s (b >>= fun t => done t)) (if_neg (ne_true_of_eq_false h))))
      · exact completes_of_predicated hq hss rfl rfl
          (code.trans (congrArg (fun b => predicated qp s (b >>= fun t => done t)) (if_neg (ne_true_of_eq_false h))))

end Sys2Proof.Machine
end

section
/-! ### Moves from and to control registers -/
namespace Sys2Proof.Machine

/-! #### What the performance monitors make pending as an instruction completes (R1168) -/

/-- The pending vectors of `u` are those of `s`, but for the vector of PMV where it is not masked. -/
structure PendsPmvAlone (s u : State) : Prop where
  pmv : u.cr.pmv = s.cr.pmv
  bits : ∀ j, u.cr.irr.getLsbD j ≠ s.cr.irr.getLsbD j →
    s.cr.pmv.getLsbD 16 = false ∧ j = (fld s.cr.pmv 0 8 : BitVec 8).toNat

theorem pendsPmvAlone_of_cr_eq {s u : State} (h : u.cr = s.cr) : PendsPmvAlone s u :=
  ⟨by rw [h], fun j hj => absurd (by rw [h]) hj⟩

theorem pendsPmvAlone_pend {s u : State} (h : u.cr = s.cr) (hmask : s.cr.pmv.getLsbD 16 = false) :
    PendsPmvAlone s (u.pend (fld s.cr.pmv 0 8)) := by
  refine ⟨by rw [State.pend_cr, h], fun j hj => ⟨hmask, ?_⟩⟩
  by_contra hne
  refine hj ?_
  rw [State.pend_cr, h, BitVec.getLsbD_or, Nat.one_shiftLeft]
  have hbit : (BitVec.ofNat 256 (2 ^ (fld s.cr.pmv 0 8 : BitVec 8).toNat)).getLsbD j = false := by
    rw [BitVec.getLsbD_ofNat, Nat.testBit_two_pow, decide_eq_false (Ne.symm hne), Bool.and_false]
  exact (congrArg _ hbit).trans (Bool.or_false _)

theorem PendsPmvAlone.trans {s u w : State} (h : PendsPmvAlone s u) (h' : PendsPmvAlone u w) : PendsPmvAlone s w := by
  refine ⟨h'.pmv.trans h.pmv, fun j hj => ?_⟩
  by_cases hu : u.cr.irr.getLsbD j = s.cr.irr.getLsbD j
  · rw [← h.pmv]
    exact h'.bits j (hu ▸ hj)
  · exact h.bits j hu

theorem pendsPmvAlone_countOne (s : State) (k : Fin 256) : PendsPmvAlone s (s.countOne k) := by
  unfold State.countOne
  dsimp only
  repeat' split
  case isTrue.isTrue.isTrue.isFalse hmask => exact pendsPmvAlone_pend rfl (Bool.eq_false_of_not_eq_true hmask)
  all_goals exact pendsPmvAlone_of_cr_eq rfl

theorem pendsPmvAlone_foldl (s : State) (ks : List (Fin 256)) : PendsPmvAlone s (ks.foldl State.countOne s) := by
  induction ks generalizing s with
  | nil => exact pendsPmvAlone_of_cr_eq rfl
  | cons k ks ih => exact (pendsPmvAlone_countOne s k).trans (ih _)

/-- An event changes the pending vectors only where the monitors are not frozen. -/
theorem irr_countEvent {s : State} {ev : BitVec 8} {j : Nat}
    (h : (s.countEvent ev).cr.irr.getLsbD j ≠ s.cr.irr.getLsbD j) :
    s.pmc[0].getLsbD 0 = false ∧ s.cr.pmv.getLsbD 16 = false ∧ j = (fld s.cr.pmv 0 8 : BitVec 8).toNat := by
  cases hfrozen : bit s.pmc[0] 0 with
  | true => simp [State.countEvent, hfrozen] at h
  | false =>
    refine ⟨hfrozen, (pendsPmvAlone_foldl s (s.selecting ev)).bits j ?_⟩
    simpa [State.countEvent, hfrozen] using h

/-- The same of the completion of an instruction. -/
theorem irr_retire {u : State} {j : Nat} (hss : u.psrBit Psr.ss = false)
    (h : (retire { st := u }).cr.irr.getLsbD j ≠ u.cr.irr.getLsbD j) :
    u.pmc[0].getLsbD 0 = false ∧ u.cr.pmv.getLsbD 16 = false ∧ j = (fld u.cr.pmv 0 8 : BitVec 8).toNat := by
  rw [retire_untrapped hss] at h
  have hcr : ((u.cleared .sequential).goto .sequential).cr = u.cr := State.goto_cr _ _
  have hpmc : ((u.cleared .sequential).goto .sequential).pmc = u.pmc := State.goto_pmc _ _
  have hbits := irr_countEvent (s := (u.cleared .sequential).goto .sequential) (ev := Config.eventRetired) (j := j)
    (by rw [hcr]; exact h)
  rwa [hcr, hpmc] at hbits

/-! #### What the numbers name (R100, R105, R108) -/

theorem crOf_reserved {n : BitVec 7} (h : n ∉ ([0, 1, 2, 4, 8, 9, 16, 17, 19, 20, 21, 22, 23, 24, 25, 26, 27, 64, 65, 66,
    67, 68, 69, 70, 71, 72, 73, 74, 80, 81] : List (BitVec 7))) : crOf n = .reserved := by
  revert n; decide

theorem crOf_plain {n : BitVec 7} (h : n ∈ ([0, 1, 2, 4, 8, 9, 64, 66, 67, 72, 73, 74, 80, 81] : List (BitVec 7))) :
    crOf n ≠ .reserved ∧ (crOf n).readOnly = false ∧ (crOf n).isInterruption = false := by
  revert n; decide

theorem crOf_interruption {n : BitVec 7} (h : n ∈ ([16, 17, 19, 20, 21, 22, 23, 24, 25, 26, 27] : List (BitVec 7))) :
    crOf n ≠ .reserved ∧ (crOf n).readOnly = false ∧ (crOf n).isInterruption = true := by
  revert n; decide

theorem crOf_readOnly {n : BitVec 7} (h : n ∈ ([65, 68, 69, 70, 71] : List (BitVec 7))) :
    crOf n ≠ .reserved ∧ (crOf n).readOnly = true ∧ (crOf n).isInterruption = false := by
  revert n; decide

theorem crOf_plain_ne {n : BitVec 7} (h : n ∈ ([0, 1, 2, 4, 8, 9, 64, 66, 67, 72, 73, 74, 80, 81] : List (BitVec 7))) :
    crOf n ≠ .iipa ∧ (crOf n == .ifa) = false := by
  revert n; decide

theorem crOf_irr (k : Fin 4) : crOf (68 + BitVec.ofNat 7 k.val) = .irr k := by
  revert k; decide

theorem crOf_eq_ifa {n : BitVec 7} : (crOf n == .ifa) = true ↔ n = 20 := by
  revert n; decide

/-- The numbers of the registers with reserved fields (R101, R105, R107, R110, R1122). -/
theorem reservedField_crOf {n : BitVec 7} {v : Word} : (crOf n).reservedField v = true ↔
    (n = 0 ∧ v &&& 0xFFFFFFFFFFFF80F8 ≠ 0) ∨ (n = 16 ∧ v &&& reservedPsr ≠ 0) ∨
      (n = 17 ∧ v &&& 0xFFFFF000FF000000 ≠ 0) ∨ (n = 21 ∧ itirReserved v = true) ∨
      ((n = 80 ∨ n = 81) ∧ lrrReserved v = true) := by
  have hdcr : ∀ n, n = 0 ↔ crOf n = .dcr := by decide
  have hipsr : ∀ n, n = 16 ↔ crOf n = .ipsr := by decide
  have hisr : ∀ n, n = 17 ↔ crOf n = .isr := by decide
  have hitir : ∀ n, n = 21 ↔ crOf n = .itir := by decide
  have hlrr0 : ∀ n, n = 80 ↔ crOf n = .lrr0 := by decide
  have hlrr1 : ∀ n, n = 81 ↔ crOf n = .lrr1 := by decide
  have hpsr : reservedPsr = Psr.reserved := by decide
  rw [hdcr, hipsr, hisr, hitir, hlrr0, hlrr1, hpsr]
  cases crOf n <;> simp [Cr.reservedField]

/-! #### The checks, and what follows them (R681) -/

section
variable {s u : State} {i : Instr} {qp : BitVec 6} {r n : BitVec 7} {c : Cr} {v : Word} {g : Gr}

/-- The checks of a read, in their order. -/
def State.fromCrChecks (s : State) (r : BitVec 7) (c : Cr) : List (Bool × Stop) :=
  [(c == .reserved || (s.psrBit Psr.ic && c.isInterruption), .interrupt illegalOperation),
    (s.badTarget r, .interrupt illegalOperation), (s.cpl != 0, .interrupt (privilegedOperation {})),
    (s.psrBit Psr.vm, .interrupt virtualizationFault)]

/-- The checks of a write, in their order. -/
def State.toCrChecks (s : State) (c : Cr) (g : Gr) : List (Bool × Stop) :=
  [(c == .reserved || c.readOnly || (s.psrBit Psr.ic && c.isInterruption), .interrupt illegalOperation),
    (s.cpl != 0, .interrupt (privilegedOperation {})), (g.nat, .interrupt (natConsumption {})),
    (c.reservedField g.val, .interrupt reservedRegisterField),
    (c == .ifa && Config.checkMovIfa && unimplementedVa g.val (s.psrBit Psr.vm), .interrupt (unimplementedData {})),
    (s.psrBit Psr.vm, .interrupt virtualizationFault)]

theorem exec_movFromCr : exec (.movFromCrM33 qp r n) s = predicated qp s (guarded (s.fromCrChecks r (crOf n))
    (done ((s.readCr (crOf n)).2.setGr r (Gr.ofWord (s.readCr (crOf n)).1)))) := rfl

theorem exec_movToCr : exec (.movToCrM32 qp r n) s = predicated qp s (guarded (s.toCrChecks (crOf n) (s.gr r))
    (.ok { st := s.setCr (crOf n) (s.gr r).val, lastIp := if crOf n = .iipa then some (s.gr r).val else none })) := rfl

@[simp] theorem State.setCr_psr (s : State) (c : Cr) (v : Word) : (s.setCr c v).psr = s.psr := by
  cases c with
  | eoi => simp only [State.setCr, State.endOfInterrupt]; split <;> rfl
  | lrr0 => simp only [State.setCr]; split <;> rfl
  | lrr1 => simp only [State.setCr]; split <;> rfl
  | _ => rfl

@[simp] theorem State.setCr_ip (s : State) (c : Cr) (v : Word) : (s.setCr c v).ip = s.ip := by
  cases c with
  | eoi => simp only [State.setCr, State.endOfInterrupt]; split <;> rfl
  | lrr0 => simp only [State.setCr]; split <;> rfl
  | lrr1 => simp only [State.setCr]; split <;> rfl
  | _ => rfl

/-- The register may be accessed with the PSR.ic of the state (R105). -/
def State.reachesCr (s : State) (c : Cr) : Prop := c ≠ .reserved ∧ (s.psrBit Psr.ic && c.isInterruption) = false

theorem reachesCr_check (h : s.reachesCr c) : (c == .reserved || (s.psrBit Psr.ic && c.isInterruption)) = false := by
  rw [beq_false_of_ne h.1, h.2]; rfl

theorem reachesCr_plain (h : n ∈ ([0, 1, 2, 4, 8, 9, 64, 66, 67, 72, 73, 74, 80, 81] : List (BitVec 7))) :
    s.reachesCr (crOf n) ∧ (crOf n).readOnly = false := by
  obtain ⟨hreserved, hreadOnly, hint⟩ := crOf_plain h
  exact ⟨⟨hreserved, by rw [hint, Bool.and_false]⟩, hreadOnly⟩

theorem reachesCr_readOnly (h : n ∈ ([65, 68, 69, 70, 71] : List (BitVec 7))) : s.reachesCr (crOf n) := by
  obtain ⟨hreserved, -, hint⟩ := crOf_readOnly h
  exact ⟨hreserved, by rw [hint, Bool.and_false]⟩

theorem reachesCr_interruption (hic : s.psrBit Psr.ic = false)
    (h : n ∈ ([16, 17, 19, 20, 21, 22, 23, 24, 25, 26, 27] : List (BitVec 7))) :
    s.reachesCr (crOf n) ∧ (crOf n).readOnly = false := by
  obtain ⟨hreserved, hreadOnly, -⟩ := crOf_interruption h
  exact ⟨⟨hreserved, by rw [hic, Bool.false_and]⟩, hreadOnly⟩

/-- What remains of the checks of a write that the register's number and the level pass. -/
theorem toCrChecks_open {o : Option Stop} (hl : s.cpl = 0) (h : s.reachesCr c ∧ c.readOnly = false)
    (hrest : firstStop [(g.nat, .interrupt (natConsumption {})),
      (c.reservedField g.val, .interrupt reservedRegisterField),
      (c == .ifa && Config.checkMovIfa && unimplementedVa g.val (s.psrBit Psr.vm), .interrupt (unimplementedData {})),
      (s.psrBit Psr.vm, .interrupt virtualizationFault)] = o) : firstStop (s.toCrChecks c g) = o := by
  obtain ⟨⟨hreserved, hic⟩, hreadOnly⟩ := h
  exact firstStop_pass (by rw [beq_false_of_ne hreserved, hic, hreadOnly]; rfl) (firstStop_pass (cpl_passes hl) hrest)

/-- The completion of a write of IIPA, from which IIPA is next collected (log entry 13). -/
theorem retire_lastIp (h : u.psrBit Psr.ss = false) :
    (retire { st := u, lastIp := some v }).settled = u.settled ∧
      (retire { st := u, lastIp := some v }).place = u.nextPlace ∧ (retire { st := u, lastIp := some v }).lastIp = v := by
  have hss := (cleared_bit u .sequential _ (by decide)).trans h
  have hcode : trapCode { u.cleared .sequential with lastIp := v } .sequential none = 0 := by
    have hss' : State.psrBit { u.cleared .sequential with lastIp := v } Psr.ss = false := hss
    simp [trapCode, hss']
  have key : retire { st := u, lastIp := some v } =
      (State.goto { u.cleared .sequential with lastIp := v } .sequential).countEvent Config.eventRetired :=
    (congrArg (fun c => takeTraps c _ _) hcode).trans (takeTraps_zero _ _)
  rw [key, countEvent_settled, countEvent_place, goto_settled, goto_place, State.countEvent_lastIp, State.goto_lastIp]
  exact ⟨cleared_settled u .sequential, cleared_nextPlace u .sequential, rfl⟩

/-- The state in which vector `k` is in service and no longer pending (R1162). -/
def State.served (s : State) (k : Nat) : State :=
  { s with cr := { s.cr with irr := setBit s.cr.irr k false }, inService := setBit s.inService k true }

/-- What is pending is not among what a write of a general register settles. -/
theorem settled_setGr_irr (u : State) (r : BitVec 7) (g : Gr) (irr : BitVec 256) :
    (State.setGr { u with cr := { u.cr with irr := irr } } r g).settled = (u.setGr r g).settled := by
  change (State.setLoc { u with cr := { u.cr with irr := irr } } (u.grLoc r) g).settled =
    (u.setLoc (u.grLoc r) g).settled
  cases u.grLoc r <;> rfl

theorem sameRegisters_served (s : State) (k : Nat) : SameRegisters s (s.served k) :=
  ⟨rfl, rfl, rfl, fun _ => rfl, fun _ => rfl⟩

theorem exec_readCr (hr : ReadyGr s qp r) (hl : s.cpl = 0) (hvm : s.psrBit Psr.vm = false) (hc : s.reachesCr (crOf n))
    (hread : s.readCr (crOf n) = (v, u)) :
    exec (.movFromCrM33 qp r n) s = finish s (done (u.setGr r ⟨v, false⟩)) := by
  obtain ⟨hq, hss, hb⟩ := hr
  have hi := exec_of_guarded (exec_movFromCr (s := s) (qp := qp) (r := r) (n := n)) (firstStop_pass (reachesCr_check hc)
    (firstStop_pass hb (firstStop_pass (cpl_passes hl) (firstStop_pass hvm firstStop_nil))))
  rw [hread] at hi
  exact hi.trans (congrArg (finish s) (if_pos hq))

/-- A read that leaves the state (all but that of IVR). -/
theorem readsCr (hr : ReadyGr s qp r) (hl : s.cpl = 0) (hvm : s.psrBit Psr.vm = false) (hc : s.reachesCr (crOf n))
    (hread : s.readCr (crOf n) = (v, s)) : WritesGr (.movFromCrM33 qp r n) s r ⟨v, false⟩ :=
  writesGr_of_exec hr.2.1 hr.2.2 (exec_readCr hr hl hvm hc hread)

/-- The read of IVR that serves a vector (R1162). -/
theorem readsIvr {k : Nat} (hr : ReadyGr s qp r) (hl : s.cpl = 0) (hvm : s.psrBit Psr.vm = false)
    (hk : s.highestInterrupt = some k) : ∃ t, exec (.movFromCrM33 qp r 65) s = .next t ∧ t.place = s.nextPlace ∧
      t.gr r = ⟨BitVec.ofNat 64 k, false⟩ ∧ SameGrBut r s t ∧ SameMemory s t ∧
      t.settled = (({ s with inService := setBit s.inService k true } : State).setGr r ⟨BitVec.ofNat 64 k, false⟩).settled ∧
      ∀ j, t.cr.irr.getLsbD j ≠ (setBit s.cr.irr k false).getLsbD j →
        s.pmc[0].getLsbD 0 = false ∧ s.cr.pmv.getLsbD 16 = false ∧ j = (fld s.cr.pmv 0 8 : BitVec 8).toNat := by
  have hread : s.readCr (crOf 65) = (BitVec.ofNat 64 k, s.served k) := by
    change s.readIvr = _
    rw [State.readIvr, hk]; rfl
  have hi := exec_readCr hr hl hvm (reachesCr_readOnly (by decide)) hread
  obtain ⟨hq, hss, hb⟩ := hr
  obtain ⟨t, ht, hplace, hgr, hsame, hmem, -, hset⟩ := setGr_completes hss hb (sameRegisters_served s k) hi
  refine ⟨t, ht, hplace, hgr, hsame, fun a => by rw [State.byteAt, hmem]; rfl,
    hset.trans (settled_setGr_irr { s with inService := setBit s.inService k true } r _ _), fun j hj => ?_⟩
  obtain rfl : retire { st := (s.served k).setGr r ⟨BitVec.ofNat 64 k, false⟩ } = t :=
    Host.Outcome.next.inj (hi.symm.trans ht)
  have hcr : ((s.served k).setGr r ⟨BitVec.ofNat 64 k, false⟩).cr = (s.served k).cr := State.setGr_cr _ _ _
  have hpmc : ((s.served k).setGr r ⟨BitVec.ofNat 64 k, false⟩).pmc = s.pmc := State.setGr_pmc _ _ _
  have hpsr : ((s.served k).setGr r ⟨BitVec.ofNat 64 k, false⟩).psrBit Psr.ss = false := by
    rw [State.psrBit, State.setGr_psr]; exact hss
  have hbits := irr_retire hpsr (by rw [hcr]; exact hj)
  rwa [hcr, hpmc] at hbits

/-- A write of a register, IIPA apart. -/
theorem writesCr (hp : Privileged s qp) (hnat : (s.gr r).nat = false) (hc : s.reachesCr (crOf n) ∧ (crOf n).readOnly = false)
    (hiipa : crOf n ≠ .iipa) (hres : (crOf n).reservedField (s.gr r).val = false)
    (hifa : (crOf n == .ifa && unimplementedVa (s.gr r).val false) = false) :
    Completes (.movToCrM32 qp r n) s (s.setCr (crOf n) (s.gr r).val) := by
  obtain ⟨hq, hl, hvm, hss⟩ := hp
  have hi := exec_movToCr (s := s) (qp := qp) (r := r) (n := n)
  rw [if_neg hiipa] at hi
  exact completes_of_guarded hq hss (s.setCr_psr _ _) (s.setCr_ip _ _) hi (toCrChecks_open hl hc
    (firstStop_pass hnat (firstStop_pass hres (firstStop_pass (by rw [hvm, Bool.and_comm (_ == _)]; exact hifa)
      (firstStop_pass hvm firstStop_nil)))))

end

/-- Settles O36: the checks of a read and of a write, and what each register is then. -/
theorem controlRegistersMove : Obligations.ControlRegistersMove := by
  refine ⟨fun s qp r n hq => ⟨fun hno => ?_, fun hn => ?_⟩, fun s qp r hq hl => ?_, fun s qp r hp => ?_⟩
  · refine traps_of_guarded hq exec_movFromCr ?_
    cases hc : crOf n == .reserved || (s.psrBit Psr.ic && (crOf n).isInterruption) with
    | true => exact firstStop_stop hc
    | false => exact firstStop_pass hc (firstStop_stop (badTarget_of_noTarget hno))
  · have hres : (crOf n == .reserved) = true := beq_iff_eq.mpr (crOf_reserved hn)
    exact ⟨traps_of_guarded hq exec_movFromCr (firstStop_stop (by rw [hres]; rfl)),
      traps_of_guarded hq exec_movToCr (firstStop_stop (by rw [hres]; rfl))⟩
  · intro v stops open_ reserved absent
    have hopen {n : BitVec 7} (h : open_ n) : s.reachesCr (crOf n) ∧ (crOf n).readOnly = false :=
      h.elim reachesCr_plain fun ⟨hic, hn⟩ => reachesCr_interruption hic hn
    have hstops {n : BitVec 7} {x : Interruption} (h : open_ n) (hrest : _ = some (Stop.interrupt x)) : stops n x :=
      traps_of_guarded hq exec_movToCr (toCrChecks_open hl (hopen h) hrest)
    refine ⟨fun n h hnat => hstops h (firstStop_stop hnat), fun n h hnat => ⟨fun hres => ?_, fun habs => ?_,
      fun hres habs hvm => ?_⟩, fun n h hno hvm => ?_⟩
    · exact hstops h (firstStop_pass hnat (firstStop_stop (reservedField_crOf.mpr hres)))
    · obtain ⟨rfl, hva⟩ := habs
      exact hstops h (firstStop_pass hnat (firstStop_pass rfl (firstStop_stop hva)))
    · have hres := Bool.eq_false_of_not_eq_true (mt reservedField_crOf.mp hres)
      have habs : (crOf n == .ifa && Config.checkMovIfa && unimplementedVa v (s.psrBit Psr.vm)) = false :=
        Bool.eq_false_of_not_eq_true fun h => habs (by
          rw [Bool.and_eq_true, Bool.and_eq_true] at h
          exact ⟨crOf_eq_ifa.mp h.1.1, h.2⟩)
      exact hstops h (firstStop_pass hnat (firstStop_pass hres (firstStop_pass habs (firstStop_stop hvm))))
    · have hc : s.reachesCr (crOf n) := h.elim (fun h => (hopen h).1) reachesCr_readOnly
      exact traps_of_guarded hq exec_movFromCr (firstStop_pass (reachesCr_check hc)
        (firstStop_pass (badTarget_of_target hno) (firstStop_pass (cpl_passes hl) (firstStop_stop hvm))))
  · obtain ⟨hq, hl, hvm, hss⟩ := id hp
    intro v reads writes c
    have illegal {n : BitVec 7} (h : (crOf n).readOnly = true ∨ (s.psrBit Psr.ic && (crOf n).isInterruption) = true) :
        Traps (.movToCrM32 qp r n) s illegalOperation :=
      traps_of_guarded hq exec_movToCr (firstStop_stop (by rcases h with h | h <;> simp [h]))
    refine ⟨fun hb => ?_, fun hnat => ?_, fun hic n hn => ?_, fun n hn => illegal (.inl (crOf_readOnly hn).2.1)⟩
    · have plain {n : BitVec 7} {x : Word}
          (hn : n ∈ ([0, 1, 2, 4, 8, 9, 64, 66, 67, 72, 73, 74, 80, 81] : List (BitVec 7)))
          (hread : s.readCr (crOf n) = (x, s)) : reads n x :=
        readsCr ⟨hq, hss, hb⟩ hl hvm (reachesCr_plain hn).1 hread
      have readOnly {n : BitVec 7} {x : Word} (hn : n ∈ ([65, 68, 69, 70, 71] : List (BitVec 7)))
          (hread : s.readCr (crOf n) = (x, s)) : reads n x :=
        readsCr ⟨hq, hss, hb⟩ hl hvm (reachesCr_readOnly hn) hread
      refine ⟨plain (by decide) rfl, plain (by decide) rfl, plain (by decide) rfl, plain (by decide) rfl,
        plain (by decide) rfl, plain (by decide) rfl, plain (by decide) rfl, plain (by decide) rfl,
        plain (by decide) rfl, fun k => readOnly (by revert k; decide) (by rw [crOf_irr]; rfl), plain (by decide) rfl,
        plain (by decide) rfl, plain (by decide) rfl, fun hpins => ⟨plain (by decide) ?_, plain (by decide) ?_⟩,
        fun hic => ?_, fun hnone => readOnly (by decide) ?_, fun k hk => ?_⟩
      · exact congrArg (·, s) (if_pos hpins)
      · exact congrArg (·, s) (if_pos hpins)
      · have interruption {n : BitVec 7} {x : Word}
            (hn : n ∈ ([16, 17, 19, 20, 21, 22, 23, 24, 25, 26, 27] : List (BitVec 7)))
            (hread : s.readCr (crOf n) = (x, s)) : reads n x :=
          readsCr ⟨hq, hss, hb⟩ hl hvm (reachesCr_interruption hic hn).1 hread
        exact ⟨interruption (by decide) rfl, interruption (by decide) rfl, interruption (by decide) rfl,
          interruption (by decide) rfl, interruption (by decide) rfl, interruption (by decide) rfl,
          interruption (by decide) rfl, interruption (by decide) rfl, interruption (by decide) rfl,
          interruption (by decide) rfl, interruption (by decide) rfl⟩
      · change s.readIvr = _
        rw [State.readIvr, hnone]
      · exact readsIvr ⟨hq, hss, hb⟩ hl hvm hk
    · have plain {n : BitVec 7} (hn : n ∈ ([0, 1, 2, 4, 8, 9, 64, 66, 67, 72, 73, 74, 80, 81] : List (BitVec 7)))
          (hres : (crOf n).reservedField v = false) : Completes (.movToCrM32 qp r n) s (s.setCr (crOf n) v) := by
        obtain ⟨hiipa, hifa⟩ := crOf_plain_ne hn
        exact writesCr hp hnat (reachesCr_plain hn) hiipa hres (by rw [hifa]; rfl)
      refine ⟨plain (n := 1) (by decide) rfl, plain (n := 2) (by decide) rfl, plain (n := 4) (by decide) rfl,
        plain (n := 8) (by decide) rfl, plain (n := 9) (by decide) rfl, plain (n := 64) (by decide) rfl,
        plain (n := 66) (by decide) rfl, plain (n := 72) (by decide) rfl, plain (n := 73) (by decide) rfl,
        plain (n := 74) (by decide) rfl, fun hv => plain (n := 0) (by decide) (bne_eq_false_iff_eq.mpr hv),
        plain (n := 67) (by decide) rfl, fun hpins hv => ⟨?_, ?_⟩, fun hic => ?_⟩
      · exact (congrArg (Completes _ s) (if_pos hpins : s.setCr .lrr0 v = s)).mp (plain (n := 80) (by decide) hv)
      · exact (congrArg (Completes _ s) (if_pos hpins : s.setCr .lrr1 v = s)).mp (plain (n := 81) (by decide) hv)
      · have interruption {n : BitVec 7}
            (hn : n ∈ ([16, 17, 19, 20, 21, 22, 23, 24, 25, 26, 27] : List (BitVec 7))) (hiipa : crOf n ≠ .iipa)
            (hres : (crOf n).reservedField v = false) (hifa : (crOf n == .ifa && unimplementedVa v false) = false) :
            Completes (.movToCrM32 qp r n) s (s.setCr (crOf n) v) :=
          writesCr hp hnat (reachesCr_interruption hic hn) hiipa hres hifa
        refine ⟨fun hv => interruption (n := 16) (by decide) nofun ?_ rfl,
          fun hv => interruption (n := 17) (by decide) nofun (bne_eq_false_iff_eq.mpr hv) rfl,
          interruption (n := 19) (by decide) nofun rfl rfl, fun hv => interruption (n := 20) (by decide) nofun rfl hv,
          fun hv => interruption (n := 21) (by decide) nofun hv rfl, ?_,
          interruption (n := 23) (by decide) nofun rfl rfl, interruption (n := 24) (by decide) nofun rfl rfl,
          interruption (n := 25) (by decide) nofun rfl rfl, interruption (n := 26) (by decide) nofun rfl rfl,
          interruption (n := 27) (by decide) nofun rfl rfl⟩
        · exact bne_eq_false_iff_eq.mpr hv
        · have hi := exec_of_guarded (exec_movToCr (s := s) (qp := qp) (r := r) (n := 22))
            (toCrChecks_open hl (reachesCr_interruption hic (by decide))
              (firstStop_pass hnat (firstStop_pass rfl (firstStop_pass rfl (firstStop_pass hvm firstStop_nil)))))
          obtain ⟨hset, hplace, hlast⟩ := retire_lastIp (u := s.setCr .iipa v) (v := v) hss
          exact ⟨_, hi.trans (predicated_done hq rfl), hplace, hset, hlast⟩
    · obtain ⟨-, -, hint⟩ := crOf_interruption hn
      have hcheck : (s.psrBit Psr.ic && (crOf n).isInterruption) = true := by rw [hic, hint]; rfl
      exact ⟨traps_of_guarded hq exec_movFromCr (firstStop_stop (by rw [hcheck, Bool.or_true])), illegal (.inr hcheck)⟩

end Sys2Proof.Machine
end

section
/-! ### Moves from and to indirect registers -/
namespace Sys2Proof.Machine

/-! #### Indices, and the values behind them (R690, R115 to R117) -/

theorem index_eq {f : IndFile} {v : Word} (h : f ≠ .rr) : f.index v = v.toNat % 256 :=
  (if_neg h).trans (slot_toNat v)

theorem ofNat_eq_of_val {n i : Nat} [NeZero n] {k : Fin n} (h : k.val = i) : Fin.ofNat n i = k := by
  subst h; exact Fin.ofNat_val_eq_self k

theorem getElem_ofNat {α : Type} {n i : Nat} [NeZero n] {k : Fin n} (w : Vector α n) (h : k.val = i) :
    w[Fin.ofNat n i] = w[k] := by
  obtain rfl : Fin.ofNat n i = k := ofNat_eq_of_val h
  rfl

theorem set_ofNat {α : Type} {n i : Nat} [NeZero n] {k : Fin n} (w : Vector α n) (x : α) (h : k.val = i) :
    w.set (Fin.ofNat n i) x = w.set k x := by
  obtain rfl : Fin.ofNat n i = k := ofNat_eq_of_val h
  rfl

section
variable {s : State} {n : Nat} {k : Fin 256}

theorem pmcRead_eq (hk : k.val = n) (h : n ≤ Config.maxGeneric) : s.pmcRead n = s.pmc[k] := by
  obtain rfl : Fin.ofNat 256 n = k := ofNat_eq_of_val hk
  exact if_pos h

theorem pmdRead_eq_zero (h : n < 4 ∨ Config.maxGeneric < n) : s.pmdRead n = 0 :=
  if_neg (by omega)

/-- A monitor's count, or an open one where it is off. -/
theorem pmdRead_eq (hk : k.val = n) (h4 : 4 ≤ n) (h : n ≤ Config.maxGeneric) : s.pmdRead n =
    if fld s.pmc[k] 0 4 = (0 : BitVec 4) then
      (fld (Config.freeWord (.pmdLost n) s.fresh) 0 Config.pmdWidth : BitVec Config.pmdWidth).zeroExtend 64
    else s.pmd[k] := by
  obtain rfl : Fin.ofNat 256 n = k := ofNat_eq_of_val hk
  exact if_pos ⟨h4, h⟩

/-- An open count has the width of a count. -/
theorem openCount_lt (x : BitVec Config.pmdWidth) : (x.zeroExtend 64).toNat < 2 ^ Config.pmdWidth :=
  lt_of_le_of_lt (by simp [Nat.mod_le]) x.isLt

theorem pmdVisible_eq_zero
    (h : (n < 4 ∨ Config.maxGeneric < n) ∨ (s.cpl ≠ 0 ∧ s.psrBit Psr.sp = true)) : s.pmdVisible n = 0 := by
  rw [State.pmdVisible]
  rcases h with h | ⟨hl, hsp⟩
  · rw [pmdRead_eq_zero h, ite_self]
  · exact if_pos ⟨hl, .inl hsp⟩

theorem pmdVisible_hidden (hk : k.val = n) (h4 : 4 ≤ n) (h : n ≤ Config.maxGeneric) (hl : s.cpl ≠ 0)
    (hpm : s.pmc[k].getLsbD 6 = true) : s.pmdVisible n = 0 :=
  if_pos ⟨hl, .inr ⟨h4, h, by rw [pmcRead_eq hk h]; exact hpm⟩⟩

theorem pmdVisible_shown (hk : k.val = n) (h : n ≤ Config.maxGeneric)
    (hshown : s.cpl = 0 ∨ (s.psrBit Psr.sp = false ∧ s.pmc[k].getLsbD 6 = false)) : s.pmdVisible n = s.pmdRead n := by
  refine if_neg fun ⟨hl, hhidden⟩ => ?_
  obtain ⟨hsp, hpm⟩ := hshown.resolve_left hl
  rcases hhidden with hhidden | ⟨-, -, hhidden⟩
  · exact Bool.false_ne_true (hsp.symm.trans hhidden)
  · rw [pmcRead_eq hk h] at hhidden
    exact Bool.false_ne_true (hpm.symm.trans hhidden)

end

/-! #### The checks, and what follows them (R690, R691) -/

section
variable {s u : State} {i : Instr} {qp : BitVec 6} {r r3 : BitVec 7} {f : IndFile} {v x : Word}

/-- The checks of a read, in their order. -/
def State.fromIndChecks (s : State) (f : IndFile) (r r3 : BitVec 7) : List (Bool × Stop) :=
  [(f == .dahr && !Config.implDahr, .interrupt illegalOperation), (s.badTarget r, .interrupt illegalOperation),
    (s.cpl != 0 && !f.unprivileged, .interrupt (privilegedOperation {})),
    ((s.gr r3).nat, .interrupt (natConsumption {})),
    (f.reservedIndex (f.index (s.gr r3).val), .interrupt reservedRegisterField),
    (s.psrBit Psr.vm && !f.notVirtualized, .interrupt virtualizationFault)]

/-- The checks of a write, in their order. -/
def State.toIndChecks (s : State) (f : IndFile) (r r3 : BitVec 7) : List (Bool × Stop) :=
  [(s.cpl != 0, .interrupt (privilegedOperation {})), ((s.gr r).nat || (s.gr r3).nat, .interrupt (natConsumption {})),
    (f.reservedIndex (f.index (s.gr r3).val) || f.reservedField (s.gr r).val, .interrupt reservedRegisterField),
    (s.virtualizesWrite f, .interrupt virtualizationFault),
    (s.translatesStream f (f.index (s.gr r3).val) (s.gr r).val, .stuck .undefinedBehavior)]

theorem moveFromIndirect_eq : moveFromIndirect f qp r r3 s = predicated qp s (guarded (s.fromIndChecks f r r3)
    (done (s.setGr r (Gr.ofWord (s.indirect f (f.index (s.gr r3).val)))))) := rfl

theorem moveToIndirect_eq : moveToIndirect f qp r r3 s = predicated qp s (guarded (s.toIndChecks f r r3)
    (done (s.setIndirect f (f.index (s.gr r3).val) (s.gr r).val))) := rfl

/-- What remains of the checks of a read that its target and the level pass. -/
theorem fromIndChecks_open {o : Option Stop} (hb : s.badTarget r = false) (hl : s.cpl = 0 ∨ f.unprivileged = true)
    (hrest : firstStop [((s.gr r3).nat, .interrupt (natConsumption {})),
      (f.reservedIndex (f.index (s.gr r3).val), .interrupt reservedRegisterField),
      (s.psrBit Psr.vm && !f.notVirtualized, .interrupt virtualizationFault)] = o) :
    firstStop (s.fromIndChecks f r r3) = o := by
  refine firstStop_pass (Bool.and_false _) (firstStop_pass hb (firstStop_pass ?_ hrest))
  rcases hl with hl | hl
  · rw [cpl_passes hl]; rfl
  · rw [hl]; exact Bool.and_false _

theorem virtualized_read (hvm : s.psrBit Psr.vm = false ∨ f.notVirtualized = true) :
    (s.psrBit Psr.vm && !f.notVirtualized) = false := by
  rcases hvm with hvm | hvm
  · rw [hvm]; rfl
  · rw [hvm]; exact Bool.and_false _

theorem readsIndirect (hr : ReadyGr s qp r) (hn : (s.gr r3).nat = false)
    (hi : exec i s = moveFromIndirect f qp r r3 s) (hl : s.cpl = 0 ∨ f.unprivileged = true)
    (hvm : s.psrBit Psr.vm = false ∨ f.notVirtualized = true)
    (hres : f.reservedIndex (f.index (s.gr r3).val) = false) (hx : s.indirect f (f.index (s.gr r3).val) = x) :
    WritesGr i s r ⟨x, false⟩ := by
  subst hx
  exact writesGr_of_guarded hr (hi.trans moveFromIndirect_eq) (fromIndChecks_open hr.2.2 hl
    (firstStop_pass hn (firstStop_pass hres (firstStop_pass (virtualized_read hvm) firstStop_nil))))

theorem traps_of_reservedRead (hq : s.prBit qp = true) (hb : s.badTarget r = false) (hn : (s.gr r3).nat = false)
    (hi : exec i s = moveFromIndirect f qp r r3 s) (hl : s.cpl = 0 ∨ f.unprivileged = true)
    (hres : f.reservedIndex (f.index (s.gr r3).val) = true) : Traps i s reservedRegisterField :=
  traps_of_guarded hq (hi.trans moveFromIndirect_eq)
    (fromIndChecks_open hb hl (firstStop_pass hn (firstStop_stop hres)))

/-- What remains of the checks of a write whose operands and level pass. -/
theorem toIndChecks_open {o : Option Stop} (hl : s.cpl = 0) (hn : (s.gr r).nat = false) (hn3 : (s.gr r3).nat = false)
    (hrest : firstStop [(f.reservedIndex (f.index (s.gr r3).val) || f.reservedField (s.gr r).val,
        .interrupt reservedRegisterField),
      (s.virtualizesWrite f, .interrupt virtualizationFault),
      (s.translatesStream f (f.index (s.gr r3).val) (s.gr r).val, .stuck .undefinedBehavior)] = o) :
    firstStop (s.toIndChecks f r r3) = o :=
  firstStop_pass (cpl_passes hl) (firstStop_pass (by rw [hn, hn3]; rfl) hrest)

/-- A write whose operands are legal, at level 0 with PSR.vm 0. -/
theorem exec_setIndirect (hq : s.prBit qp = true) (hl : s.cpl = 0) (hvm : s.psrBit Psr.vm = false)
    (hn : (s.gr r).nat = false) (hn3 : (s.gr r3).nat = false) (hi : exec i s = moveToIndirect f qp r r3 s)
    (hres : (f.reservedIndex (f.index (s.gr r3).val) || f.reservedField (s.gr r).val) = false)
    (hstream : s.translatesStream f (f.index (s.gr r3).val) (s.gr r).val = false)
    (hu : s.setIndirect f (f.index (s.gr r3).val) (s.gr r).val = u) : exec i s = .next (retire { st := u }) := by
  subst hu
  have hvirtual : s.virtualizesWrite f = false := by rw [State.virtualizesWrite, hvm]; rfl
  exact (exec_of_guarded (hi.trans moveToIndirect_eq) (toIndChecks_open hl hn hn3 (firstStop_pass hres
    (firstStop_pass hvirtual (firstStop_pass hstream firstStop_nil))))).trans (predicated_done hq rfl)

/-- Frozen monitors count nothing as an instruction completes (R115). -/
theorem retire_frozen (hss : u.psrBit Psr.ss = false) (h : u.pmc[0].getLsbD 0 = true) :
    (retire { st := u }).pmc = u.pmc ∧ (retire { st := u }).pmd = u.pmd := by
  have hpmc : ((u.cleared .sequential).goto .sequential).pmc = u.pmc := State.goto_pmc _ _
  have hpmd : ((u.cleared .sequential).goto .sequential).pmd = u.pmd := State.goto_pmd _ _
  rw [retire_untrapped hss, State.countEvent, hpmc, show bit u.pmc[0] 0 = true from h]
  exact ⟨hpmc, hpmd⟩

/-- The completion of a write of a monitor: seen where the monitors are frozen after it. -/
theorem reaches_monitors (hi : exec i s = .next (retire { st := u })) (hu : u.psr = s.psr) (hip : u.ip = s.ip)
    (hss : s.psrBit Psr.ss = false) : ∃ t, exec i s = .next t ∧ t.place = s.nextPlace ∧
      t.settled = u.settled ∧ (u.pmc[0].getLsbD 0 = true → t.pmc = u.pmc ∧ t.pmd = u.pmd) := by
  have hss : u.psrBit Psr.ss = false := by rw [State.psrBit, hu]; exact hss
  obtain ⟨hset, hplace⟩ := retire_sequential u hss
  have hnext : u.nextPlace = s.nextPlace := by rw [State.nextPlace, State.nextPlace, State.ri, State.ri, hu, hip]
  exact ⟨_, hi, hplace.trans hnext, hset, retire_frozen hss⟩

theorem reservedField_rr : IndFile.rr.reservedField v = true ↔ v.getLsbD 1 = true ∨ (fld v 32 32 : BitVec 32) ≠ 0 ∨
    Config.pageSizes.contains (fld v 2 6 : BitVec 6).toNat = false := by
  have hunfold : IndFile.rr.reservedField v = (bit v 1 || fld v 32 32 != (0 : BitVec 32) ||
    !Config.pageSizes.contains (fld v 2 6 : BitVec 6).toNat) := rfl
  rw [hunfold, Bool.or_eq_true, Bool.or_eq_true, bne_iff_ne, Bool.not_eq_true', or_assoc]
  rfl

theorem reservedField_eq_false (h : f ≠ .rr) : f.reservedField v = false := by
  rw [IndFile.reservedField, beq_false_of_ne h]; rfl

end

/-! #### The key registers, the region registers and the monitors written (R112, R113, R116, R117) -/

theorem setBit_zero_false (w : Word) : setBit w 0 false = w &&& 0xFFFFFFFFFFFFFFFE := by
  have hmask : ∀ j < 64, (0xFFFFFFFFFFFFFFFE : Word).getLsbD j = decide (j ≠ 0) := by decide
  refine BitVec.eq_of_getLsbD_eq fun j hj => ?_
  rw [getLsbD_setBit _ _ _ _ (by decide), BitVec.getLsbD_and, hmask j hj]
  by_cases hzero : j = 0 <;> simp [hzero]

/-- A key register after the write of another one: invalid where it held the key written (R113). -/
theorem setPkr_other {s : State} {k j : Fin 16} {v : Word} (h : j ≠ k) : (s.setPkr k v).pkr[j] =
    if v.getLsbD 0 = true ∧ s.pkr[j].getLsbD 0 = true ∧ (fld s.pkr[j] 8 24 : BitVec 24) = fld v 8 24 then
      s.pkr[j] &&& 0xFFFFFFFFFFFFFFFE
    else s.pkr[j] := by
  have hne : k.val ≠ j.val := fun hval => h (Fin.ext hval.symm)
  simp only [State.setPkr, Fin.getElem_fin, Vector.getElem_set_ne _ _ hne, Vector.getElem_map, setBit_zero_false, bit,
    Bool.and_eq_true, beq_iff_eq, and_assoc]

theorem setPkr_self {s : State} {k : Fin 16} {v : Word} : (s.setPkr k v).pkr[k] = v := by
  simp only [State.setPkr, Fin.getElem_fin, Vector.getElem_set_self]

section
variable {s : State} {n : Nat} {v : Word}

/-- A write takes the running stream's translation by its region (R692). -/
theorem translatesStream_rr : s.translatesStream .rr n v = true ↔
    s.psrBit Psr.it = true ∧ n = (fld s.ip 61 3 : BitVec 3).toNat := by
  rw [State.translatesStream, Bool.and_eq_true]
  exact and_congr_right fun _ => decide_eq_true_iff

/-- A write takes the running stream's translation by its key (R691, R692). -/
theorem translatesStream_pkr {k : Fin 16} (hk : k.val = n) : s.translatesStream .pkr n v = true ↔
    s.psrBit Psr.it = true ∧ s.psrBit Psr.pk = true ∧ ∃ e, s.findInst s.ip = some e ∧
      ((s.pkr[k].getLsbD 0 = true ∧ (fld s.pkr[k] 8 24 : BitVec 24) = e.key) ∨
        (v.getLsbD 0 = true ∧ (fld v 8 24 : BitVec 24) = e.key)) := by
  obtain rfl : Fin.ofNat 16 n = k := ofNat_eq_of_val hk
  simp [State.translatesStream, bit, Option.any_eq_true]

theorem pmcWrite_eq {k : Fin 256} (hk : k.val = n) (h : n ≤ Config.maxGeneric) : s.pmcWrite n v =
    { s with pmc := s.pmc.set k (if k.val ≤ 3 then v else v &&& 0x000000070000FF7F) } := by
  subst hk
  simp only [State.pmcWrite, if_pos h, Fin.ofNat_val_eq_self]
  rfl

theorem pmdWrite_eq {k : Fin 256} (hk : k.val = n) (h : n ≤ Config.maxGeneric) : s.pmdWrite n v =
    { s with pmd := if k.val ≤ 3 then s.pmd
        else s.pmd.set k (BitVec.ofNat 64 (v.toNat % 2 ^ Config.pmdWidth)) } := by
  subst hk
  have hcount : (fld v 0 Config.pmdWidth : BitVec Config.pmdWidth).zeroExtend 64 =
      BitVec.ofNat 64 (v.toNat % 2 ^ Config.pmdWidth) := by
    refine BitVec.eq_of_toNat_eq ?_
    simp [fld]
  by_cases h4 : 4 ≤ k.val
  · simp only [State.pmdWrite, if_pos (And.intro h4 h), Fin.ofNat_val_eq_self, hcount,
      if_neg (show ¬ k.val ≤ 3 by omega)]
  · rw [State.pmdWrite, if_neg (by omega), if_pos (by omega)]

end

/-- Settles O38: the checks of a read and of a write of each file, and what the file then holds. -/
theorem indirectRegistersMove : Obligations.IndirectRegistersMove := by
  refine ⟨fun s qp r r3 hq => ?_, fun s qp r r3 hq hss hn3 => ?_⟩
  · intro free privileged writes index v reserved
    have reads {f : IndFile} {i : Instr} {x : Interruption} (hi : exec i s = moveFromIndirect f qp r r3 s)
        (h : firstStop (s.fromIndChecks f r r3) = some (.interrupt x)) : Traps i s x :=
      traps_of_guarded hq (hi.trans moveFromIndirect_eq) h
    have sets {f : IndFile} {i : Instr} {x : Interruption} (hi : exec i s = moveToIndirect f qp r r3 s)
        (h : firstStop (s.toIndChecks f r r3) = some (.interrupt x)) : Traps i s x :=
      traps_of_guarded hq (hi.trans moveToIndirect_eq) h
    simp only [free, privileged, writes, List.cons_append, List.nil_append, List.forall_mem_cons, List.not_mem_nil,
      false_imp_iff, implies_true, and_true]
    refine ⟨fun hno => ?_, fun hno hn3 => ?_, fun hl hnat => ?_, fun hl hn hn3 hres => ?_, fun hvm hn3 => ?_⟩
    · have h {f : IndFile} : firstStop (s.fromIndChecks f r r3) = some (.interrupt illegalOperation) :=
        firstStop_pass (Bool.and_false _) (firstStop_stop (badTarget_of_noTarget hno))
      exact ⟨reads rfl h, reads rfl h, reads rfl h, reads rfl h, reads rfl h, reads rfl h, reads rfl h, reads rfl h⟩
    · have h {f : IndFile} (hl : s.cpl = 0 ∨ f.unprivileged = true) :
          firstStop (s.fromIndChecks f r r3) = some (.interrupt (natConsumption {})) :=
        fromIndChecks_open (badTarget_of_target hno) hl (firstStop_stop hn3)
      exact ⟨⟨reads rfl (h (.inr rfl)), reads rfl (h (.inr rfl)), reads rfl (h (.inr rfl))⟩, fun hl =>
        ⟨reads rfl (h (.inl hl)), reads rfl (h (.inl hl)), reads rfl (h (.inl hl)), reads rfl (h (.inl hl)),
          reads rfl (h (.inl hl))⟩⟩
    · have h {f : IndFile} : firstStop (s.toIndChecks f r r3) = some (.interrupt (natConsumption {})) :=
        firstStop_pass (cpl_passes hl) (firstStop_stop (by rwa [Bool.or_eq_true]))
      exact ⟨sets rfl h, sets rfl h, sets rfl h, sets rfl h, sets rfl h, sets rfl h⟩
    · exact sets (f := .rr) rfl (toIndChecks_open hl hn hn3 (firstStop_stop (reservedField_rr.mpr hres)))
    · refine ⟨fun hno => ?_, fun hl hn => ?_⟩
      · have virtual {f : IndFile} {i : Instr} (hi : exec i s = moveFromIndirect f qp r r3 s)
            (hl : s.cpl = 0 ∨ f.unprivileged = true) (hf : f.notVirtualized = false)
            (hres : f.reservedIndex (f.index (s.gr r3).val) = false) : Traps i s virtualizationFault :=
          reads hi (fromIndChecks_open (badTarget_of_target hno) hl
            (firstStop_pass hn3 (firstStop_pass hres (firstStop_stop (by rw [hvm, hf]; rfl)))))
        have below {f : IndFile} (hf : f ≠ .rr) {n : Nat} (h : index < n) :
            decide (n ≤ f.index (s.gr r3).val) = false := by
          rw [index_eq hf]; exact decide_eq_false (by omega)
        exact ⟨fun h => virtual rfl (.inr rfl) rfl (below (f := .cpuid) nofun (Nat.lt_succ_of_le h)), fun hl =>
          ⟨virtual rfl (.inl hl) rfl rfl, virtual rfl (.inl hl) rfl rfl, fun h =>
            ⟨virtual rfl (.inl hl) rfl (below (f := .dbr) nofun h), virtual rfl (.inl hl) rfl (below (f := .ibr) nofun h)⟩,
            fun h => virtual rfl (.inl hl) rfl (below (f := .pkr) nofun h)⟩⟩
      · have virtual {f : IndFile} {i : Instr} (hi : exec i s = moveToIndirect f qp r r3 s)
            (hres : (f.reservedIndex (f.index (s.gr r3).val) || f.reservedField (s.gr r).val) = false)
            (hf : s.virtualizesWrite f = true) : Traps i s virtualizationFault :=
          sets hi (toIndChecks_open hl hn hn3 (firstStop_pass hres (firstStop_stop hf)))
        have below {f : IndFile} (hf : f ≠ .rr) {n : Nat} (h : index < n) :
            (decide (n ≤ f.index (s.gr r3).val) || f.reservedField (s.gr r).val) = false := by
          rw [index_eq hf, reservedField_eq_false hf, decide_eq_false (by omega)]; rfl
        have virtualizes {f : IndFile} (hf : f ≠ .pmd) : s.virtualizesWrite f = true := by
          rw [State.virtualizesWrite, hvm, beq_false_of_ne hf]; rfl
        exact ⟨fun hres => virtual (f := .rr) rfl (Bool.eq_false_of_not_eq_true (mt reservedField_rr.mp hres))
            (virtualizes nofun), virtual (f := .pmc) rfl rfl (virtualizes nofun), fun h =>
          ⟨virtual (f := .dbr) rfl (below (f := .dbr) nofun h) (virtualizes nofun),
            virtual (f := .ibr) rfl (below (f := .ibr) nofun h) (virtualizes nofun)⟩,
          fun h => virtual (f := .pkr) rfl (below (f := .pkr) nofun h) (virtualizes nofun),
          fun hd => virtual (f := .pmd) rfl rfl (by rw [State.virtualizesWrite, hvm, hd]; rfl)⟩
  · intro index region v
    refine ⟨fun hb => ?_, fun hl hvm hn => ?_⟩
    · intro reads
      have hr : ReadyGr s qp r := ⟨hq, hss, hb⟩
      have plain {f : IndFile} {i : Instr} {x : Word} (hf : f ≠ .rr) (hi : exec i s = moveFromIndirect f qp r r3 s)
          (hl : s.cpl = 0 ∨ f.unprivileged = true) (hvm : s.psrBit Psr.vm = false ∨ f.notVirtualized = true)
          (hres : f.reservedIndex index = false) (hx : s.indirect f index = x) : reads i x :=
        readsIndirect hr hn3 hi hl hvm (by rw [index_eq hf]; exact hres) (by rw [index_eq hf]; exact hx)
      have pmds {x : Word} (hx : s.pmdVisible index = x) : reads (.movFromPmdM43 qp r r3) x :=
        plain (f := .pmd) nofun rfl (.inr rfl) (.inr rfl) rfl hx
      have absent {f : IndFile} {i : Instr} (hf : f ≠ .rr) (hi : exec i s = moveFromIndirect f qp r r3 s)
          (hl : s.cpl = 0 ∨ f.unprivileged = true) (hres : f.reservedIndex index = true) :
          Traps i s reservedRegisterField :=
        traps_of_reservedRead hq hb hn3 hi hl (by rw [index_eq hf]; exact hres)
      have within {k n : Nat} (hk : k = index) (h : k < n) : decide (n ≤ index) = false := decide_eq_false (by omega)
      refine ⟨fun h hvm => plain (f := .cpuid) nofun rfl (.inr rfl) (.inl hvm) (within rfl (Nat.lt_succ_of_le h)) rfl,
        fun h => absent (f := .cpuid) nofun rfl (.inr rfl) (decide_eq_true h),
        fun k hk => plain (f := .dahr) nofun rfl (.inr rfl) (.inr rfl) (within hk k.isLt)
          (congrArg (·.zeroExtend 64) (getElem_ofNat s.dahr hk)),
        fun h => absent (f := .dahr) nofun rfl (.inr rfl) (decide_eq_true h), fun h => pmds (pmdVisible_eq_zero h),
        fun k hk h4 h => ⟨fun hl hpm => pmds (pmdVisible_hidden hk h4 h hl hpm), fun hshown =>
          ⟨fun hon => pmds ?_, fun hoff => ⟨_, openCount_lt _, pmds ((pmdVisible_shown hk h hshown).trans
            ((pmdRead_eq hk h4 h).trans (if_pos hoff)))⟩⟩⟩, fun hl hvm => ?_⟩
      · rw [pmdVisible_shown hk h hshown, pmdRead_eq hk h4 h, if_neg hon]
      · exact ⟨readsIndirect (f := .rr) hr hn3 rfl (.inl hl) (.inl hvm) rfl (getElem_ofNat s.rr rfl),
          fun k hk => ⟨plain (f := .dbr) nofun rfl (.inl hl) (.inl hvm) (within hk k.isLt) (getElem_ofNat s.dbr hk),
            plain (f := .ibr) nofun rfl (.inl hl) (.inl hvm) (within hk k.isLt) (getElem_ofNat s.ibr hk)⟩,
          fun k hk h => plain (f := .pmc) nofun rfl (.inl hl) (.inl hvm) rfl (pmcRead_eq hk h),
          fun h => plain (f := .pmc) nofun rfl (.inl hl) (.inl hvm) rfl (if_neg (Nat.not_le_of_lt h)),
          fun h => ⟨absent (f := .dbr) nofun rfl (.inl hl) (decide_eq_true h),
            absent (f := .ibr) nofun rfl (.inl hl) (decide_eq_true h)⟩,
          fun h => absent (f := .pkr) nofun rfl (.inl hl) (decide_eq_true h),
          fun k hk => plain (f := .pkr) nofun rfl (.inl hl) (.inl hvm) (within hk k.isLt) (getElem_ofNat s.pkr hk)⟩
    · have sets {f : IndFile} {i : Instr} {u : State} (hf : f ≠ .rr) (hi : exec i s = moveToIndirect f qp r r3 s)
          (hres : f.reservedIndex index = false) (hstream : s.translatesStream f index v = false)
          (hu : s.setIndirect f index v = u) : exec i s = .next (retire { st := u }) := by
        refine exec_setIndirect hq hl hvm hn hn3 hi ?_ ?_ ?_ <;> rw [index_eq hf]
        · rw [reservedField_eq_false hf, Bool.or_false]; exact hres
        · exact hstream
        · exact hu
      have completes {i : Instr} {u : State} (hpsr : u.psr = s.psr) (hip : u.ip = s.ip)
          (hi : exec i s = .next (retire { st := u })) : Completes i s u :=
        completes_of_exec hss (congrArg (bit · Psr.ss) hpsr) (congrArg (fld · 41 2) hpsr) hip hi
      have absent {f : IndFile} {i : Instr} (hf : f ≠ .rr) (hi : exec i s = moveToIndirect f qp r r3 s)
          (hres : f.reservedIndex index = true) : Traps i s reservedRegisterField :=
        traps_of_guarded hq (hi.trans moveToIndirect_eq) (toIndChecks_open hl hn hn3 (firstStop_stop (by
          rw [index_eq hf, hres]; rfl)))
      have within {k n : Nat} (hk : k = index) (h : k < n) : decide (n ≤ index) = false := decide_eq_false (by omega)
      refine ⟨fun k hk => ⟨?_, ?_⟩, fun k hk h => ⟨?_, ?_⟩, fun h => ⟨?_, ?_⟩, fun h => ⟨?_, ?_⟩, fun hbit hhigh hps => ?_,
        fun hbit => ?_, fun h => ?_, fun k hk => ?_⟩
      · exact completes rfl rfl (sets (f := .dbr) nofun rfl (within hk k.isLt) (Bool.and_false _)
          (congrArg (fun w => { s with dbr := w }) (set_ofNat s.dbr v hk)))
      · exact completes rfl rfl (sets (f := .ibr) nofun rfl (within hk k.isLt) (Bool.and_false _)
          (congrArg (fun w => { s with ibr := w }) (set_ofNat s.ibr v hk)))
      · intro w
        have hu : s.pmcWrite index v = { s with pmc := w } := pmcWrite_eq hk h
        have hi := sets (f := .pmc) (i := .movToPmcM42 qp r r3) nofun rfl rfl (Bool.and_false _) hu
        obtain ⟨t, ht, hplace, hset, hfrozen⟩ := reaches_monitors hi rfl rfl hss
        exact ⟨t, ht, hplace, hset, fun h => (hfrozen h).1⟩
      · have hu := pmdWrite_eq (s := s) (v := v) hk h
        have hi := sets (f := .pmd) (i := .movToPmdM42 qp r r3) nofun rfl rfl (Bool.and_false _) hu
        obtain ⟨t, ht, hplace, hset, hfrozen⟩ := reaches_monitors hi rfl rfl hss
        exact ⟨t, ht, hplace, hset, fun h => (hfrozen h).2⟩
      · exact absent (f := .dbr) nofun rfl (decide_eq_true h)
      · exact absent (f := .ibr) nofun rfl (decide_eq_true h)
      · exact completes rfl rfl (sets (f := .pmc) nofun rfl rfl (Bool.and_false _) (if_neg (Nat.not_le_of_lt h)))
      · have hi := sets (f := .pmd) (i := .movToPmdM42 qp r r3) nofun rfl rfl (Bool.and_false _)
          (if_neg (show ¬ (4 ≤ index ∧ index ≤ Config.maxGeneric) by omega))
        obtain ⟨t, ht, hplace, hset, hfrozen⟩ := reaches_monitors hi rfl rfl hss
        exact ⟨t, ht, hplace, hset, fun h => (hfrozen h).2⟩
      · have hres : (IndFile.rr.reservedIndex (IndFile.rr.index (s.gr r3).val) || IndFile.rr.reservedField v) = false :=
          Bool.eq_false_of_not_eq_true fun h => by
            rcases reservedField_rr.mp h with h | h | h
            · exact Bool.false_ne_true (hbit.symm.trans h)
            · exact h hhigh
            · exact Bool.false_ne_true (h.symm.trans hps)
        have hstream : s.translatesStream .rr (IndFile.rr.index (s.gr r3).val) v = true ↔
            s.psrBit Psr.it = true ∧ region = (fld s.ip 61 3 : BitVec 3).toFin :=
          translatesStream_rr.trans (and_congr_right fun _ => Fin.ext_iff.symm)
        intro running
        refine ⟨fun hrun => completes rfl rfl (exec_setIndirect (f := .rr) hq hl hvm hn hn3 rfl hres
          (Bool.eq_false_of_not_eq_true (mt hstream.mp hrun))
          (congrArg (fun w => { s with rr := w }) (set_ofNat s.rr v rfl))), fun hrun => ?_⟩
        have hvirtual : s.virtualizesWrite .rr = false := by rw [State.virtualizesWrite, hvm]; rfl
        exact fault_of_guarded hq (moveToIndirect_eq (f := .rr)) (toIndChecks_open hl hn hn3
          (firstStop_pass hres (firstStop_pass hvirtual (firstStop_stop (hstream.mpr hrun)))))
      · exact traps_of_guarded hq (moveToIndirect_eq (f := .rr)) (toIndChecks_open hl hn hn3
          (firstStop_stop (reservedField_rr.mpr (.inl hbit))))
      · exact absent (f := .pkr) nofun rfl (decide_eq_true h)
      · intro holds running
        have hstream : s.translatesStream .pkr index v = true ↔ running := translatesStream_pkr hk
        have hres : (IndFile.pkr.reservedIndex (IndFile.pkr.index (s.gr r3).val) || IndFile.pkr.reservedField v) = false := by
          rw [index_eq (f := .pkr) nofun]
          exact (congrArg (· || _) (within hk k.isLt)).trans rfl
        have hvirtual : s.virtualizesWrite .pkr = false := by rw [State.virtualizesWrite, hvm]; rfl
        refine ⟨fun hrun => ?_, fun hrun => ?_⟩
        · refine fault_of_guarded hq (moveToIndirect_eq (f := .pkr)) (toIndChecks_open hl hn hn3
            (firstStop_pass hres (firstStop_pass hvirtual (firstStop_stop ?_))))
          rw [index_eq (f := .pkr) nofun]
          exact hstream.mpr hrun
        · have hrun := Bool.eq_false_of_not_eq_true (mt hstream.mp hrun)
          have hk' : Fin.ofNat 16 index = k := ofNat_eq_of_val hk
          refine ⟨(s.setPkr k v).pkr, completes rfl rfl (sets (f := .pkr) nofun rfl (within hk k.isLt) hrun
            (congrArg (s.setPkr · v) hk')), setPkr_self, fun j hj => ⟨fun h => ?_, fun h => ?_⟩⟩
          · exact (setPkr_other hj).trans (if_pos h)
          · exact (setPkr_other hj).trans (if_neg h)

end Sys2Proof.Machine
end

section
/-! ### Probes -/
namespace Sys2Proof.Machine

/-! #### What a probe is granted (R212) -/

section
variable {s : State} {va : Word} {acc : Access} {pl : BitVec 2} {e : TlbEntry} {walked : Option TlbEntry} {x : Interruption}

/-- The reference that a probe stands for (R212). -/
def probeRef (acc : Access) (pl : BitVec 2) : Ref := { access := acc, size := 1, align := 1, pl }

theorem grantPermission_of_miss (hdt : s.psrBit Psr.dt = true) (hva : unimplementedVa va (s.psrBit Psr.vm) = false)
    (h : s.dataEntry va (probeRef acc pl) = .error x) : s.grantPermission va acc pl = .error ⟨x, none⟩ := by
  rw [probeRef] at h
  simp only [State.grantPermission, hdt, hva, h, if_true, Bool.false_eq_true, if_false]

/-- What is answered of a page: its faults in order, then its rights and its key (R212). -/
theorem grantPermission_of_page (hdt : s.psrBit Psr.dt = true) (hva : unimplementedVa va (s.psrBit Psr.vm) = false)
    (h : s.dataEntry va (probeRef acc pl) = .ok (e, walked)) : s.grantPermission va acc pl =
      if !e.p then .error ⟨refFault (probeRef acc pl) va .pageNotPresent 0 (some e.itir) none, walked⟩
      else if e.ma = 7 then .error ⟨refFault (probeRef acc pl) va .natConsumption 0x20 none none, walked⟩
      else if s.psrBit Psr.pk && (s.searchPkr e.key).isNone then
        .error ⟨refFault (probeRef acc pl) va .dataKeyMiss 0 (some e.itir) none, walked⟩
      else .ok (!((acc.r && !(rights e.ar e.pl pl).1) || (acc.w && !(rights e.ar e.pl pl).2.1)) && !s.keyDenies e acc,
        walked) := by
  rw [probeRef] at h
  simp only [State.grantPermission, hdt, hva, h, if_true, Bool.false_eq_true, if_false, State.keyDenies,
    Bool.not_or, Bool.not_and, Bool.not_not]
  rfl

theorem grantPermission_of_pageFault (hdt : s.psrBit Psr.dt = true) (hva : unimplementedVa va (s.psrBit Psr.vm) = false)
    (h : s.dataEntry va (probeRef acc pl) = .ok (e, walked)) (hx : s.PageFault va (probeRef acc pl) e x) :
    s.grantPermission va acc pl = .error ⟨x, walked⟩ := by
  rw [grantPermission_of_page hdt hva h]
  obtain ⟨hp, rfl⟩ | ⟨hp, hma, rfl⟩ | ⟨hp, hma, hpk, hkey, rfl⟩ := hx
  · rw [hp]; rfl
  · rw [hp, if_pos hma]; rfl
  · have hnone : s.searchPkr e.key = none := by
      by_contra hne
      obtain ⟨i, hi⟩ := Option.ne_none_iff_exists'.mp hne
      exact hkey _ (pkr_mem i) (keyOf_of_searchPkr hi)
    rw [hp, if_neg hma, hpk, hnone]; rfl

theorem grantPermission_of_pageUsable (hdt : s.psrBit Psr.dt = true) (hva : unimplementedVa va (s.psrBit Psr.vm) = false)
    (h : s.dataEntry va (probeRef acc pl) = .ok (e, walked)) (hu : s.PageUsable e) :
    s.grantPermission va acc pl =
      .ok (!((acc.r && !(rights e.ar e.pl pl).1) || (acc.w && !(rights e.ar e.pl pl).2.1)) && !s.keyDenies e acc,
        walked) := by
  have hkey : (s.psrBit Psr.pk && (s.searchPkr e.key).isNone) = false := by
    rw [Bool.and_eq_false_imp]
    intro hpk
    obtain ⟨i, hi⟩ := searchPkr_of_usable hu hpk
    rw [hi]; rfl
  obtain ⟨hp, hma, -⟩ := hu
  rw [grantPermission_of_page hdt hva h, hp, if_neg hma, hkey]
  rfl

end

/-! #### The probes themselves (R695, R696) -/

section
variable {s : State} {i : Instr} {qp : BitVec 6} {r1 r3 : BitVec 7} {level : Gr} {write : Bool} {w : Option TlbEntry}

theorem checkWalk_eq_error (h : s.checkWalk false w ≠ .ok ()) : s.checkWalk false w = .error (.stuck .machineCheck) := by
  unfold State.checkWalk stuckIf at h ⊢
  split at h
  · next hc => rw [if_pos hc]
  · exact absurd rfl h

theorem sameRegisters_keepWalk (s : State) (w : Option TlbEntry) : SameRegisters s (s.keepWalk w) := by
  rw [keepWalk_eq]
  exact ⟨rfl, rfl, rfl, fun _ => rfl, fun _ => rfl⟩

/-- The access of a probe (R695, R1136). -/
def probeAccess (write : Bool) : Access := { r := !write, w := write, na := true, naCode := 2 }

/-- The checks of a probe, in their order. -/
def State.probeChecks (s : State) (write : Bool) (r1 r3 : BitVec 7) (level : Gr) : List (Bool × Stop) :=
  [(s.badTarget r1, .interrupt illegalOperation),
    ((s.gr r3).nat || level.nat, .interrupt (natConsumption (probeAccess write)))]

/-- What follows the checks. -/
def State.probed (s : State) (write : Bool) (r1 r3 : BitVec 7) (pl : BitVec 2) : Body :=
  match s.grantPermission (s.gr r3).val (probeAccess write) pl with
  | .error x => s.faulted x
  | .ok (granted, walked) => do
    s.checkWalk false walked
    done ((s.keepWalk walked).setGr r1 (Gr.ofWord (if granted then 1 else 0)))

theorem probe_eq : probe write qp r1 r3 level s = predicated qp s (guarded (s.probeChecks write r1 r3 level)
    (s.probed write r1 r3 (s.probeLevel (fld level.val 0 2)))) := rfl

section
variable {pl : BitVec 2} {x : Faulted} {granted : Bool}

/-- A probe whose operands have no NaT, into a target. -/
theorem exec_probe (hb : s.badTarget r1 = false) (hn : (s.gr r3).nat = false) (hlevel : level.nat = false)
    (hi : exec i s = probe write qp r1 r3 level s) :
    exec i s = predicated qp s (s.probed write r1 r3 (s.probeLevel (fld level.val 0 2))) :=
  exec_of_guarded (hi.trans probe_eq) (firstStop_pass hb (firstStop_pass (by rw [hn, hlevel]; rfl) firstStop_nil))

theorem probed_faulted (h : s.grantPermission (s.gr r3).val (probeAccess write) pl = .error x) :
    s.probed write r1 r3 pl = s.faulted x := by
  rw [State.probed, h]

theorem probed_answer (h : s.grantPermission (s.gr r3).val (probeAccess write) pl = .ok (granted, w)) :
    s.probed write r1 r3 pl =
      (s.checkWalk false w >>= fun _ => done ((s.keepWalk w).setGr r1 (Gr.ofWord (if granted then 1 else 0)))) := by
  rw [State.probed, h]

/-- What a probe does by what is granted. -/
theorem probe_queries (hq : s.prBit qp = true) (hss : s.psrBit Psr.ss = false) (hb : s.badTarget r1 = false)
    (hi : exec i s = predicated qp s (s.probed write r1 r3 pl)) :
    (∀ g w, s.grantPermission (s.gr r3).val (probeAccess write) pl = .ok (g, w) → s.checkWalk false w ≠ .ok () →
      exec i s = .fault .machineCheck) ∧
    (∀ g w, s.grantPermission (s.gr r3).val (probeAccess write) pl = .ok (g, w) → s.checkWalk false w = .ok () →
      ∃ t, exec i s = .next t ∧ t.place = s.nextPlace ∧ t.gr r1 = ⟨if g then 1 else 0, false⟩ ∧ SameGrBut r1 s t ∧
        SameMemory s t ∧ t.settled = ((s.keepWalk w).setGr r1 ⟨if g then 1 else 0, false⟩).settled) ∧
    (∀ x, s.grantPermission (s.gr r3).val (probeAccess write) pl = .error x → TrapsAt i s x) ∧
    (s.psrBit Psr.dt = false → s.grantPermission (s.gr r3).val (probeAccess write) pl =
      .ok (!unimplementedPa (s.gr r3).val, none)) := by
  refine ⟨fun g w h hwalk => ?_, fun g w h hwalk => ?_, fun x h => ?_, fun hdt => ?_⟩
  · exact fault_of_body (l := []) (b := s.probed write r1 r3 pl) hq hi rfl (by
      rw [probed_answer h, checkWalk_eq_error hwalk]; rfl)
  · rw [probed_answer h, bind_of_ok hwalk] at hi
    obtain ⟨t, ht, hplace, hgr, hsame, hmem, -, hset⟩ :=
      setGr_completes hss hb (sameRegisters_keepWalk s w) (hi.trans (congrArg (finish s) (if_pos hq)))
    refine ⟨t, ht, hplace, hgr, hsame, fun a => ?_, hset⟩
    rw [State.byteAt, State.byteAt, hmem, keepWalk_eq]
  · exact trapsAt_of_exec hq (hi.trans (congrArg (predicated qp s) (probed_faulted h)))
  · rw [State.grantPermission, hdt]; rfl

/-- The access of a faulting probe (R696, R1136). -/
def probeFaultAccess (read write : Bool) : Access := { r := read, w := write, na := true, naCode := 5 }

theorem probeFault_eq {read : Bool} {imm : BitVec 2} : probeFault read write qp r3 imm s = predicated qp s
    (guarded [((s.gr r3).nat, .interrupt (natConsumption (probeFaultAccess read write)))]
      (s.translateData (s.gr r3).val (probeRef (probeFaultAccess read write) (s.probeLevel imm)) >>= fun a =>
        done (s.keepWalk a.walked))) := rfl

/-- What a faulting probe does by how its reference is translated. -/
theorem probeFault_faults {read : Bool} {imm : BitVec 2} (hq : s.prBit qp = true) (hss : s.psrBit Psr.ss = false)
    (hn : (s.gr r3).nat = false) (hi : exec i s = probeFault read write qp r3 imm s) :
    (∀ a, s.translate (s.psrBit Psr.dt) (s.gr r3).val (probeRef (probeFaultAccess read write) (s.probeLevel imm)) = .ok a →
      (s.checkWalk false a.walked = .ok () → Completes i s (s.keepWalk a.walked)) ∧
      (s.checkWalk false a.walked ≠ .ok () → exec i s = .fault .machineCheck)) ∧
    (∀ x, s.translate (s.psrBit Psr.dt) (s.gr r3).val (probeRef (probeFaultAccess read write) (s.probeLevel imm)) =
      .error x → TrapsAt i s x) := by
  have hi := exec_of_guarded (hi.trans probeFault_eq) (firstStop_pass hn firstStop_nil)
  refine ⟨fun a ha => ⟨fun hwalk => ?_, fun hwalk => ?_⟩, fun x hx => ?_⟩
  · rw [bind_of_ok (translateData_of_ok ha hwalk)] at hi
    exact completes_of_predicated hq hss (by rw [keepWalk_eq]) (by rw [keepWalk_eq]) hi
  · exact fault_of_body (l := []) hq hi rfl (by rw [translateData_of_overlap ha hwalk]; rfl)
  · rw [translateData_faulted hx, faulted_bind] at hi
    exact trapsAt_of_exec hq hi

end

end

/-- Settles O41: what is granted of a page, and what each form of the probe makes of it. -/
theorem probesReportAccess : Obligations.ProbesReportAccess := by
  refine ⟨fun s va acc pl hdt => ?_, fun s qp r1 r2 r3 imm hq => ?_, fun s qp r1 r2 r3 imm hq hss hn => ?_⟩
  · refine ⟨fun hva => ?_, fun hva => ⟨fun x h => grantPermission_of_miss hdt hva (dataEntry_of_dataMiss h),
      fun e walked h => ⟨fun x hx => grantPermission_of_pageFault hdt hva (dataEntry_of_dataPage h) hx, fun hu =>
        ⟨_, grantPermission_of_pageUsable hdt hva (dataEntry_of_dataPage h) hu, fun hno => ?_, fun hdeny => ?_,
          fun hgrants hallow => ?_⟩⟩⟩⟩
    · simp only [State.grantPermission, hdt, hva, if_true]
    · rw [(rights_denied_iff e acc pl).mpr hno]; rfl
    · rw [keyDenies_of_keysDeny hu hdeny]; exact Bool.and_false _
    · have hrights := Bool.eq_false_of_not_eq_true (mt (rights_denied_iff e acc pl).mp (not_not_intro hgrants))
      rw [hrights, keyDenies_of_keysAllow hallow]; rfl
  · have probes {write : Bool} {level : Gr} {i : Instr} {x : Interruption} (hi : exec i s = probe write qp r1 r3 level s)
        (h : firstStop (s.probeChecks write r1 r3 level) = some (.interrupt x)) : Traps i s x :=
      traps_of_guarded hq (hi.trans probe_eq) h
    have faults {read write : Bool} {i : Instr} (hi : exec i s = probeFault read write qp r3 imm s)
        (hn : (s.gr r3).nat = true) : Traps i s (natConsumption (probeFaultAccess read write)) :=
      traps_of_guarded hq (hi.trans probeFault_eq) (firstStop_stop hn)
    simp only [List.forall_mem_cons, List.not_mem_nil, false_imp_iff, implies_true, and_true]
    refine ⟨fun hno => ?_, fun hno => ⟨fun hn => ?_, fun hn => ?_⟩, fun hn => ⟨faults rfl hn, faults rfl hn, faults rfl hn⟩⟩
    · have h {write : Bool} {level : Gr} : firstStop (s.probeChecks write r1 r3 level) = some (.interrupt illegalOperation) :=
        firstStop_stop (badTarget_of_noTarget hno)
      exact ⟨probes rfl h, probes rfl h, probes rfl h, probes rfl h⟩
    · have h {write : Bool} {level : Gr} : firstStop (s.probeChecks write r1 r3 level) =
          some (.interrupt (natConsumption (probeAccess write))) :=
        firstStop_pass (badTarget_of_target hno) (firstStop_stop (by rw [hn]; rfl))
      exact ⟨probes (write := false) rfl h, probes (write := true) rfl h⟩
    · have h {write : Bool} : firstStop (s.probeChecks write r1 r3 (s.gr r2)) =
          some (.interrupt (natConsumption (probeAccess write))) :=
        firstStop_pass (badTarget_of_target hno) (firstStop_stop (by rwa [Bool.or_eq_true]))
      exact ⟨probes (write := false) rfl h, probes (write := true) rfl h⟩
  · have himm : (fld (Gr.ofWord (zx imm)).val 0 2 : BitVec 2) = imm :=
      (fld_zeroExtend imm (by decide)).trans (fld_whole imm)
    have byImm {write : Bool} {i : Instr} (hb : s.badTarget r1 = false)
        (hi : exec i s = probe write qp r1 r3 (Gr.ofWord (zx imm)) s) :
        exec i s = predicated qp s (s.probed write r1 r3 (s.probeLevel imm)) := by
      have h := exec_probe hb hn rfl hi
      rwa [himm] at h
    exact ⟨fun hb => ⟨probe_queries hq hss hb (byImm (write := false) hb rfl),
        probe_queries hq hss hb (byImm (write := true) hb rfl), fun hlevel =>
        ⟨probe_queries hq hss hb (exec_probe (write := false) hb hn hlevel rfl),
          probe_queries hq hss hb (exec_probe (write := true) hb hn hlevel rfl)⟩⟩,
      probeFault_faults hq hss hn rfl, probeFault_faults hq hss hn rfl, probeFault_faults hq hss hn rfl⟩

end Sys2Proof.Machine
end

section
/-! ### Translation queries -/
namespace Sys2Proof.Machine

/-! #### Nonaccess translation (R211) -/

section
variable {s : State} {va : Word} {acc : Access} {fc : Bool} {e : TlbEntry} {walked : Option TlbEntry} {x : Interruption}

theorem translateNonaccess_off (hdt : s.psrBit Psr.dt = false) : s.translateNonaccess va acc fc =
    if unimplementedPa va then .error ⟨unimplementedData acc, none⟩
    else .ok ⟨va, if va.getLsbD 63 then 4 else 0, va, 1, none⟩ := by
  rw [State.translateNonaccess, hdt]; rfl

theorem translateNonaccess_unimplemented (hdt : s.psrBit Psr.dt = true)
    (hva : unimplementedVa va (s.psrBit Psr.vm) = true) :
    s.translateNonaccess va acc fc = .error ⟨unimplementedData acc, none⟩ := by
  rw [State.translateNonaccess, hdt, hva]; rfl

theorem translateNonaccess_of_miss (hdt : s.psrBit Psr.dt = true) (hva : unimplementedVa va (s.psrBit Psr.vm) = false)
    (h : s.dataEntry va (probeRef acc s.cpl) = .error x) : s.translateNonaccess va acc fc = .error ⟨x, none⟩ := by
  rw [probeRef] at h
  simp only [State.translateNonaccess, hdt, hva, h, if_true, Bool.false_eq_true, if_false]

theorem rights_read_denied (e : TlbEntry) (pl : BitVec 2) :
    (!(rights e.ar e.pl pl).1) = true ↔ ¬ Grants e { r := true } pl := by
  have h := rights_denied_iff e { r := true } pl
  rwa [Bool.false_and, Bool.or_false, Bool.true_and] at h

/-- What is answered of a page: its faults in order, then its address (R211). -/
theorem translateNonaccess_of_page (hdt : s.psrBit Psr.dt = true) (hva : unimplementedVa va (s.psrBit Psr.vm) = false)
    (h : s.dataEntry va (probeRef acc s.cpl) = .ok (e, walked)) : s.translateNonaccess va acc fc =
      if !e.p then .error ⟨refFault (probeRef acc s.cpl) va .pageNotPresent 0 (some e.itir) none, walked⟩
      else if e.ma = 7 then .error ⟨refFault (probeRef acc s.cpl) va .natConsumption 0x20 none none, walked⟩
      else if fc && !(rights e.ar e.pl s.cpl).1 then
        .error ⟨refFault (probeRef acc s.cpl) va .dataAccessRights 0 (some e.itir) none, walked⟩
      else .ok ⟨e.physical va, e.ma, va, 1, walked⟩ := by
  rw [probeRef] at h
  simp only [State.translateNonaccess, hdt, hva, h, if_true, Bool.false_eq_true, if_false]
  rfl

end

/-! #### The hash (R221) -/

/-- The hash of the short format: the offset shifted right by the region's page size, times 8. -/
theorem getLsbD_vhptHash {s : State} {va : Word} {k : Nat} (hshort : s.cr.pta.getLsbD 8 = false)
    (hsize : 15 ≤ (fld s.cr.pta 2 6 : BitVec 6).toNat) (h3 : 3 ≤ k) (hk : k < (fld s.cr.pta 2 6 : BitVec 6).toNat)
    (h61 : k < 61) : (s.vhptHash va).getLsbD k =
      (decide (k - 3 + (fld s.rr[(fld va 61 3 : BitVec 3).toFin] 2 6 : BitVec 6).toNat < 61) &&
        va.getLsbD (k - 3 + (fld s.rr[(fld va 61 3 : BitVec 3).toFin] 2 6 : BitVec 6).toNat)) := by
  have hmask : (BitVec.ofNat 64 (2 ^ max (fld s.cr.pta 2 6 : BitVec 6).toNat 15 - 1) : Word).getLsbD k = true := by
    rw [BitVec.getLsbD_ofNat, Nat.testBit_two_pow_sub_one, decide_eq_true (by omega), decide_eq_true (by omega)]
    rfl
  have hregion (w : Word) : (w <<< 61).getLsbD k = false := by
    rw [BitVec.getLsbD_shiftLeft, decide_eq_true h61, Bool.not_true, Bool.and_false, Bool.false_and]
  have hindex : ((((fld va 0 61 : BitVec 61).zeroExtend 64 : Word) >>>
      (fld s.rr[(fld va 61 3 : BitVec 3).toFin] 2 6 : BitVec 6).toNat) <<< 3).getLsbD k =
      (decide (k - 3 + (fld s.rr[(fld va 61 3 : BitVec 3).toFin] 2 6 : BitVec 6).toNat < 61) &&
        va.getLsbD (k - 3 + (fld s.rr[(fld va 61 3 : BitVec 3).toFin] 2 6 : BitVec 6).toNat)) := by
    rw [BitVec.getLsbD_shiftLeft, BitVec.getLsbD_ushiftRight, BitVec.zeroExtend, BitVec.getLsbD_setWidth, getLsbD_fld,
      decide_eq_true (show k < 64 by omega), decide_eq_false (show ¬ k < 3 by omega), Nat.zero_add, Nat.add_comm]
    simp; omega
  have hunfold : s.vhptHash va = ((vrn va).zeroExtend 64 <<< 61) |||
      (((fld s.cr.pta 15 46 : BitVec 46).zeroExtend 64 <<< 15) &&&
        ~~~(BitVec.ofNat 64 (2 ^ max (fld s.cr.pta 2 6 : BitVec 6).toNat 15 - 1))) |||
      ((((fld va 0 61 : BitVec 61).zeroExtend 64 : Word) >>>
        (fld s.rr[(fld va 61 3 : BitVec 3).toFin] 2 6 : BitVec 6).toNat) <<< 3 &&&
        BitVec.ofNat 64 (2 ^ max (fld s.cr.pta 2 6 : BitVec 6).toNat 15 - 1)) := by
    simp only [State.vhptHash, bit, hshort, Bool.false_eq_true, if_false]
    rfl
  rw [hunfold, BitVec.getLsbD_or, BitVec.getLsbD_or, BitVec.getLsbD_and, BitVec.getLsbD_and, BitVec.getLsbD_not, hmask,
    hregion, hindex]
  simp

/-! #### The queries themselves -/

section
variable {s : State} {i : Instr} {qp : BitVec 6} {r1 r3 : BitVec 7} {acc : Access} {fc : Bool} {a : Translation}
  {x : Faulted}

theorem translateQuery_of_ok (h : s.translateNonaccess (s.gr r3).val acc fc = .ok a)
    (hwalk : s.checkWalk false a.walked = .ok ()) : s.translateQuery (s.gr r3).val acc fc = .ok a := by
  simp only [State.translateQuery, h]
  exact bind_of_ok hwalk

theorem translateQuery_of_overlap (h : s.translateNonaccess (s.gr r3).val acc fc = .ok a)
    (hwalk : s.checkWalk false a.walked ≠ .ok ()) :
    s.translateQuery (s.gr r3).val acc fc = .error (.stuck .machineCheck) := by
  simp only [State.translateQuery, h, checkWalk_eq_error hwalk]; rfl

theorem translateQuery_faulted (h : s.translateNonaccess (s.gr r3).val acc fc = .error x) :
    s.translateQuery (s.gr r3).val acc fc = s.faulted x := by
  simp only [State.translateQuery, h]

/-- The checks of `thash` and `ttag` (R699). -/
def State.hashChecks (s : State) (r1 : BitVec 7) : List (Bool × Stop) :=
  [(s.badTarget r1, .interrupt illegalOperation), (s.psrBit Psr.vm, .interrupt virtualizationFault)]

theorem hashQuery_eq {f : Word → Word} : hashQuery f qp r1 r3 s = predicated qp s (guarded (s.hashChecks r1)
    (done (s.setGr r1 (if (s.gr r3).nat || unimplementedVa (s.gr r3).val (s.psrBit Psr.vm) then
      ⟨Config.freeWord .hashUndefined s.fresh, true⟩ else Gr.ofWord (f (s.gr r3).val))))) := rfl

/-- The checks of `tpa` (R697). -/
def State.tpaChecks (s : State) (r1 r3 : BitVec 7) : List (Bool × Stop) :=
  [(s.badTarget r1, .interrupt illegalOperation),
    (s.cpl != 0, .interrupt (privilegedOperation { na := true, naCode := 0 })),
    ((s.gr r3).nat, .interrupt (natConsumption { na := true, naCode := 0 })),
    (s.unimplementedAddress (s.gr r3).val, .interrupt (unimplementedData { na := true, naCode := 0 })),
    (s.psrBit Psr.vm, .interrupt virtualizationFault)]

theorem exec_tpa : exec (.tpaM46 qp r1 r3) s = predicated qp s (guarded (s.tpaChecks r1 r3)
    (s.translateQuery (s.gr r3).val { na := true, naCode := 0 } false >>= fun a =>
      done ((s.keepWalk a.walked).setGr r1 (Gr.ofWord a.pa)))) := rfl

/-- The checks of `tak` (R698). -/
def State.takChecks (s : State) (r1 r3 : BitVec 7) : List (Bool × Stop) :=
  [(s.badTarget r1, .interrupt illegalOperation),
    (s.cpl != 0, .interrupt (privilegedOperation { na := true, naCode := 3 })),
    ((s.gr r3).nat, .interrupt (natConsumption { na := true, naCode := 3 })),
    (s.psrBit Psr.vm, .interrupt virtualizationFault)]

theorem exec_tak : exec (.takM46 qp r1 r3) s = predicated qp s (guarded (s.takChecks r1 r3)
    (done (s.setGr r1 (Gr.ofWord (s.accessKey (s.gr r3).val))))) := rfl

theorem flushLine_eq : flushLine qp r3 s = predicated qp s
    (guarded [((s.gr r3).nat, .interrupt (natConsumption { r := true, na := true, naCode := 1 }))]
      (s.translateQuery (s.gr r3).val { r := true, na := true, naCode := 1 } true >>= fun a =>
        done (s.keepWalk a.walked))) := rfl

theorem unimplementedAddress_iff {va : Word} : s.unimplementedAddress va = true ↔
    if s.psrBit Psr.dt then unimplementedVa va (s.psrBit Psr.vm) = true else unimplementedPa va = true := by
  cases hdt : s.psrBit Psr.dt <;> simp [State.unimplementedAddress, hdt]

/-- What `tpa` does of an implemented address (R697). -/
theorem tpa_queries (hr : ReadyGr s qp r1) (hl : s.cpl = 0) (hvm : s.psrBit Psr.vm = false) (hn : (s.gr r3).nat = false)
    (hva : s.unimplementedAddress (s.gr r3).val = false) :
    (∀ a, s.translateNonaccess (s.gr r3).val { na := true, naCode := 0 } false = .ok a →
      (s.checkWalk false a.walked = .ok () → ∃ t, exec (.tpaM46 qp r1 r3) s = .next t ∧ t.place = s.nextPlace ∧
        t.gr r1 = ⟨a.pa, false⟩ ∧ SameGrBut r1 s t ∧ SameMemory s t ∧
        t.settled = ((s.keepWalk a.walked).setGr r1 ⟨a.pa, false⟩).settled) ∧
      (s.checkWalk false a.walked ≠ .ok () → exec (.tpaM46 qp r1 r3) s = .fault .machineCheck)) ∧
    (∀ x, s.translateNonaccess (s.gr r3).val { na := true, naCode := 0 } false = .error x →
      TrapsAt (.tpaM46 qp r1 r3) s x) := by
  obtain ⟨hq, hss, hb⟩ := hr
  have hi := exec_of_guarded (exec_tpa (s := s) (qp := qp) (r1 := r1) (r3 := r3)) (firstStop_pass hb
    (firstStop_pass (cpl_passes hl) (firstStop_pass hn (firstStop_pass hva (firstStop_pass hvm firstStop_nil)))))
  refine ⟨fun a ha => ⟨fun hwalk => ?_, fun hwalk => ?_⟩, fun x hx => ?_⟩
  · rw [bind_of_ok (translateQuery_of_ok ha hwalk)] at hi
    obtain ⟨t, ht, hplace, hgr, hsame, hmem, -, hset⟩ :=
      setGr_completes hss hb (sameRegisters_keepWalk s a.walked) (hi.trans (congrArg (finish s) (if_pos hq)))
    refine ⟨t, ht, hplace, hgr, hsame, fun b => ?_, hset⟩
    rw [State.byteAt, State.byteAt, hmem, keepWalk_eq]
  · exact fault_of_body (l := []) hq hi rfl (by rw [translateQuery_of_overlap ha hwalk]; rfl)
  · rw [translateQuery_faulted hx, faulted_bind] at hi
    exact trapsAt_of_exec hq hi

/-- What `fc` and `fc.i` do (R720, R721). -/
theorem flushLine_queries (hq : s.prBit qp = true) (hss : s.psrBit Psr.ss = false) (hn : (s.gr r3).nat = false)
    (hi : exec i s = flushLine qp r3 s) :
    (∀ a, s.translateNonaccess (s.gr r3).val { r := true, na := true, naCode := 1 } true = .ok a →
      (s.checkWalk false a.walked = .ok () → Completes i s (s.keepWalk a.walked)) ∧
      (s.checkWalk false a.walked ≠ .ok () → exec i s = .fault .machineCheck)) ∧
    (∀ x, s.translateNonaccess (s.gr r3).val { r := true, na := true, naCode := 1 } true = .error x → TrapsAt i s x) := by
  have hi := exec_of_guarded (hi.trans flushLine_eq) (firstStop_pass hn firstStop_nil)
  refine ⟨fun a ha => ⟨fun hwalk => ?_, fun hwalk => ?_⟩, fun x hx => ?_⟩
  · rw [bind_of_ok (translateQuery_of_ok ha hwalk)] at hi
    exact completes_of_predicated hq hss (by rw [keepWalk_eq]) (by rw [keepWalk_eq]) hi
  · exact fault_of_body (l := []) hq hi rfl (by rw [translateQuery_of_overlap ha hwalk]; rfl)
  · rw [translateQuery_faulted hx, faulted_bind] at hi
    exact trapsAt_of_exec hq hi

end

/-- Settles O42: what the TLB answers, and what each query makes of it. -/
theorem translationQueries : Obligations.TranslationQueries := by
  refine ⟨fun s va acc fc => ⟨translateNonaccess_off, translateNonaccess_unimplemented, fun hdt hva =>
    ⟨fun x h => translateNonaccess_of_miss hdt hva (dataEntry_of_dataMiss h), fun e walked h => ?_⟩⟩,
    fun s qp r1 r3 hq => ?_, fun s qp r1 r3 hq hss hn => ?_⟩
  · rw [translateNonaccess_of_page hdt hva (dataEntry_of_dataPage h)]
    refine ⟨fun hp => by rw [hp]; rfl, fun hp hma => by rw [hp, if_pos hma]; rfl, fun hp hma =>
      ⟨fun hfc hno => ?_, fun hgrants => ?_⟩⟩
    · rw [hp, if_neg hma, hfc, (rights_read_denied e s.cpl).mpr hno]; rfl
    · have hpass : (fc && !(rights e.ar e.pl s.cpl).1) = false := by
        rcases hgrants with hfc | hgrants
        · rw [hfc]; rfl
        · rw [Bool.eq_false_of_not_eq_true (mt (rights_read_denied e s.cpl).mp (not_not_intro hgrants))]
          exact Bool.and_false _
      rw [hp, if_neg hma, hpass]; rfl
  · intro va absent
    have hashes {f : Word → Word} {i : Instr} {x : Interruption} (hi : exec i s = hashQuery f qp r1 r3 s)
        (h : firstStop (s.hashChecks r1) = some (.interrupt x)) : Traps i s x :=
      traps_of_guarded hq (hi.trans hashQuery_eq) h
    simp only [List.forall_mem_cons, List.not_mem_nil, false_imp_iff, implies_true, and_true]
    refine ⟨fun hno => ?_, fun hn => ⟨traps_of_guarded hq flushLine_eq (firstStop_stop hn),
      traps_of_guarded hq flushLine_eq (firstStop_stop hn)⟩, fun hno => ?_⟩
    · have hb := badTarget_of_noTarget hno
      exact ⟨hashes rfl (firstStop_stop hb), hashes rfl (firstStop_stop hb),
        traps_of_guarded hq exec_tpa (firstStop_stop hb), traps_of_guarded hq exec_tak (firstStop_stop hb)⟩
    · have hb := badTarget_of_target hno
      refine ⟨fun hvm => ?_, fun hvm hss hundefined => ?_, fun hl => ?_⟩
      · have h : firstStop (s.hashChecks r1) = some (.interrupt virtualizationFault) :=
          firstStop_pass hb (firstStop_stop hvm)
        exact ⟨hashes rfl h, hashes rfl h⟩
      · have undefined_ {f : Word → Word} {i : Instr} (hi : exec i s = hashQuery f qp r1 r3 s) :
            ∃ x : Word, WritesGr i s r1 ⟨x, true⟩ := by
          have hwrite := writesGr_of_guarded ⟨hq, hss, hb⟩ (hi.trans hashQuery_eq)
            (firstStop_pass hb (firstStop_pass hvm firstStop_nil))
          rw [hvm, if_pos (by rwa [Bool.or_eq_true])] at hwrite
          exact ⟨_, hwrite⟩
        exact ⟨undefined_ rfl, undefined_ rfl⟩
      · have hl := cpl_passes hl
        refine ⟨fun hn => ⟨traps_of_guarded hq exec_tpa (firstStop_pass hb (firstStop_pass hl (firstStop_stop hn))),
            traps_of_guarded hq exec_tak (firstStop_pass hb (firstStop_pass hl (firstStop_stop hn)))⟩,
          fun hn habs => traps_of_guarded hq exec_tpa (firstStop_pass hb (firstStop_pass hl (firstStop_pass hn
            (firstStop_stop (unimplementedAddress_iff.mpr habs))))),
          fun hn habs hvm => ?_, fun hn hvm => traps_of_guarded hq exec_tak (firstStop_pass hb (firstStop_pass hl
            (firstStop_pass hn (firstStop_stop hvm))))⟩
        have habs := Bool.eq_false_of_not_eq_true (mt unimplementedAddress_iff.mp habs)
        exact traps_of_guarded hq exec_tpa (firstStop_pass hb (firstStop_pass hl (firstStop_pass hn
          (firstStop_pass habs (firstStop_stop hvm)))))
  · intro va walked
    refine ⟨fun hb hvm => ⟨fun hva => ?_, fun hl => ?_⟩,
      fun hshort hsize k h3 hk h61 => getLsbD_vhptHash hshort hsize h3 hk h61, ?_⟩
    · have hashes {f : Word → Word} {i : Instr} (hi : exec i s = hashQuery f qp r1 r3 s) :
          WritesGr i s r1 ⟨f va, false⟩ := by
        have hwrite := writesGr_of_guarded ⟨hq, hss, hb⟩ (hi.trans hashQuery_eq)
          (firstStop_pass hb (firstStop_pass hvm firstStop_nil))
        rwa [hvm, hn, hva] at hwrite
      exact ⟨hashes rfl, hashes rfl⟩
    · intro key
      refine ⟨?_, tpa_queries ⟨hq, hss, hb⟩ hl hvm hn⟩
      have hwrite := writesGr_of_guarded ⟨hq, hss, hb⟩ (exec_tak (qp := qp) (r3 := r3)) (firstStop_pass hb
        (firstStop_pass (cpl_passes hl) (firstStop_pass hn (firstStop_pass hvm firstStop_nil))))
      rw [State.accessKey, hvm] at hwrite
      exact hwrite
    · simp only [List.forall_mem_cons, List.not_mem_nil, false_imp_iff, implies_true, and_true]
      exact ⟨flushLine_queries hq hss hn rfl, flushLine_queries hq hss hn rfl⟩

end Sys2Proof.Machine
end

section
/-! ### Words of the backing store -/
namespace Sys2Proof.Machine

/-! #### Their slots (R127) -/

theorem bsSlot_eq (a : Word) : bsSlot a = a.toNat / 8 % 64 := by
  simp [bsSlot, fld, Nat.shiftRight_eq_div_pow]

theorem bsSlot_lt (a : Word) : bsSlot a < 64 := by
  rw [bsSlot_eq]; omega

theorem isCollection_iff {a : Word} : isCollection a = true ↔ bsSlot a = 63 := beq_iff_eq

theorem toNat_bsWord (a : Word) (j : Nat) : (bsWord a j).toNat = (a.toNat + 8 * j) % 2 ^ 64 := by
  rw [bsWord, BitVec.toNat_add, BitVec.toNat_ofNat]
  omega

@[simp] theorem bsWord_zero (a : Word) : bsWord a 0 = a := by
  simp [bsWord]

theorem bsWord_succ (a : Word) (j : Nat) : bsWord a (j + 1) = bsWord a j + 8 := by
  apply BitVec.eq_of_toNat_eq
  rw [BitVec.toNat_add, toNat_bsWord, toNat_bsWord, show (8 : Word).toNat = 8 from rfl]
  omega

theorem bsSlot_bsWord (a : Word) (j : Nat) : bsSlot (bsWord a j) = (bsSlot a + j) % 64 := by
  rw [bsSlot_eq, bsSlot_eq, toNat_bsWord]
  omega

/-- The slot of the next word. -/
theorem bsSlot_bsWord_succ (a : Word) (j : Nat) : bsSlot (bsWord a (j + 1)) = (bsSlot (bsWord a j) + 1) % 64 := by
  rw [bsSlot_bsWord, bsSlot_bsWord]
  omega

/-- Words less than 2^60 places apart compare as their places do. -/
theorem bsBelow_bsWord {a : Word} {i j : Nat} (hi : i < 2 ^ 60) (hj : j < 2 ^ 60) :
    bsBelow (bsWord a i) (bsWord a j) = decide (i < j) := by
  have hdiff : (bsWord a i - bsWord a j).toNat = (8 * i + (2 ^ 64 - 8 * j)) % 2 ^ 64 := by
    rw [BitVec.toNat_sub, toNat_bsWord, toNat_bsWord]
    omega
  rw [bsBelow, BitVec.msb_eq_decide, hdiff]
  exact decide_eq_decide.mpr (by omega)

/-- A word is known by its group's collection and its slot. -/
theorem bsWord_inj {a : Word} {i j : Nat} (hi : i < 2 ^ 60) (hj : j < 2 ^ 60)
    (hc : collectionOf (bsWord a i) = collectionOf (bsWord a j)) (hs : bsSlot (bsWord a i) = bsSlot (bsWord a j)) :
    i = j := by
  have hhigh : (bsWord a i).toNat / 512 = (bsWord a j).toNat / 512 := by
    have hshift := congrArg (fun x : Word => (x >>> 9).toNat) hc
    have hmask : (0x1F8 : Word) >>> 9 = 0 := by decide
    simp only [collectionOf, BitVec.ushiftRight_or_distrib, hmask] at hshift
    simpa [Nat.shiftRight_eq_div_pow] using hshift
  rw [bsSlot_eq, bsSlot_eq] at hs
  rw [toNat_bsWord, toNat_bsWord] at hhigh hs
  omega

/-! #### References that the TLB answers (R210) -/

/-- `s` with what mandatory references and the register stack engine change. -/
def State.engaged (s : State) (t : State) (m : List Host.Cell) (l : List AlatEntry) (g : Vector Gr Config.nStackPhys)
    (r : AppRegs) (e : RseState) : State :=
  { s with
    pal := t.pal, checkPending := t.checkPending, cr := { s.cr with irr := t.cr.irr }
    mem := m, alat := l, grStacked := g, ar := r, rse := e }

section
variable {s t : State} {on : Bool} {va : Word} {ref : Ref} {a : Translation} {m : List Host.Cell} {l : List AlatEntry}
  {g : Vector Gr Config.nStackPhys} {r : AppRegs} {e : RseState}

theorem walked_of_dataEntry {p : TlbEntry} {w : Option TlbEntry} (hfind : s.findData va = none)
    (h : s.dataEntry va ref = .ok (p, w)) : w = some p := by
  cases hwalk : (if bit s.cr.pta 0 && rrVe (s.region va) && s.psrBit Psr.dt then s.walkVhpt va else .notFound) with
  | found q =>
    simp only [State.dataEntry, hfind, hwalk] at h
    cases h; rfl
  | vhptFault => rw [dataEntry_of_walk hfind hwalk nofun] at h; cases h
  | notFound => rw [dataEntry_of_walk hfind hwalk nofun] at h; cases h

/-- What a reference that is translated without a walk found in the TLB. -/
theorem findData_of_translate (h : s.translate true va ref = .ok a) (hw : a.walked = none) :
    ∃ p, s.findData va = some p := by
  by_contra hno
  have hfind : s.findData va = none := Option.not_isSome_iff_eq_none.mp fun hsome => hno (Option.isSome_iff_exists.mp hsome)
  simp only [State.translate, if_true] at h
  split at h
  · cases h
  · split at h
    · cases h
    · next p w hentry =>
      obtain rfl := walked_of_dataEntry hfind hentry
      split at h
      · cases h
      · split at h <;> cases h
        cases hw

/-- An address that the TLB translates is translated alike while the engine works: no walk reads memory. -/
theorem translate_engaged (h : s.translate on va ref = .ok a) (hw : a.walked = none) :
    (s.engaged t m l g r e).translate on va ref = .ok a := by
  cases on with
  | false => exact h
  | true =>
    obtain ⟨p, hfind⟩ := findData_of_translate h hw
    have hfind' : (s.engaged t m l g r e).findData va = some p := hfind
    simp only [State.translate, if_true, State.dataEntry, hfind] at h
    simp only [State.translate, if_true, State.dataEntry, hfind']
    exact h

end

/-! #### What the references of the engine leave (R208, R1101) -/

section
variable {s : State} {a : Nat → Translation} {j : Nat} {m : List Host.Cell} {l : List AlatEntry}
  {g : Vector Gr Config.nStackPhys} {r : AppRegs} {e : RseState}

theorem touches_succ : s.touches a (j + 1) = (s.touches a j).touch (a j) := by
  rw [State.touches, List.range_succ, List.foldl_append]; rfl

@[simp] theorem touches_blockOffset (pa : Word) : (s.touches a j).blockOffset pa = s.blockOffset pa := by
  induction j with
  | zero => rfl
  | succ j ih => rw [touches_succ, touch_blockOffset, ih]

/-- References without walks touch little. -/
theorem touches_engaged (h : ∀ i < j, (a i).walked = none) :
    s.touches a j = s.engaged (s.touches a j) s.mem s.alat s.grStacked s.ar s.rse := by
  induction j with
  | zero => rfl
  | succ j ih =>
    have ih := ih fun i hi => h i (Nat.lt_succ_of_lt hi)
    have hwalk : (s.touches a j).keepWalk (a j).walked = s.touches a j := by rw [h j (Nat.lt_succ_self j)]; rfl
    have htouch := State.touch_eq (s.touches a j) (a j)
    rw [hwalk] at htouch
    rw [touches_succ]
    generalize (s.touches a j).touch (a j) = t at htouch ⊢
    rw [htouch, ih]
    rfl

/-- One more reference of the engine. -/
theorem engaged_touch (h : ∀ i < j + 1, (a i).walked = none) :
    (s.engaged (s.touches a j) m l g r e).touch (a j) = s.engaged (s.touches a (j + 1)) m l g r e := by
  have hshape := touches_engaged (s := s) fun i hi => h i (Nat.lt_succ_of_lt hi)
  have hshape' := touches_engaged (s := s) h
  have hcr := congrArg State.cr hshape'
  have hdtc : (s.touches a (j + 1)).dtc = s.dtc := (congrArg State.dtc hshape').trans rfl
  have htouch := State.touch_congr (s := s.touches a j) (t := s.engaged (s.touches a j) m l g r e) (a j)
    (congrArg State.dtc hshape).symm rfl rfl (congrArg State.cr hshape).symm (congrArg State.psr hshape).symm
  rw [← touches_succ, hdtc, hcr] at htouch
  exact htouch

end

end Sys2Proof.Machine
end

section
/-! ### Mandatory stores of the register stack engine -/
namespace Sys2Proof.Machine

/-! #### One store (R137) -/

/-- The NaT bit of the register whose place is `a`. -/
def State.natAt (s : State) (a : Word) : Bool := s.grStacked[s.physAt a].nat

/-- AR[RNAT] with the NaT bit of the register at `a` collected; a collection leaves it. -/
def State.collectedInto (s : State) (a w : Word) : Word :=
  if bsSlot a = 63 then w else setBit w (bsSlot a) (s.natAt a)

/-- What the store at `a` writes: the register that belongs there, or the collection `rnat`. -/
def State.wordAt (s : State) (a rnat : Word) : Word :=
  if bsSlot a = 63 then rnat else s.grStacked[s.physAt a].val

/-- Memory with the eight bytes of a word at `pa`. -/
def wordStored (m : List Host.Cell) (be : Bool) (pa v : Word) : List Host.Cell :=
  Memory.writeBytes m (physAddr pa) (orderBytes be (toBytesLE 8 v))

section
variable {s : State} {t : Translation} {j : Nat} {a : Nat → Translation}

theorem translateRse_of_ok {u : State} {va : Word} {ref : Ref} (h : u.translate (u.psrBit Psr.rt) va ref = .ok t)
    (hw : t.walked = none) : u.translateRse va ref = .ok t := by
  rw [State.translateRse, State.dataReference, h]
  dsimp only
  rw [hw]; rfl

/-- One store of the engine: `v` is what the store leaves, `u` what its reference leaves besides. -/
theorem rseStore_of_store {u v : State} (htr : s.translateRse s.ar.bspstore (s.rseRef true false) = .ok t)
    (hv : s.store t.pa 8 s.rscBe t.ma (s.wordAt s.ar.bspstore s.ar.rnat) = .ok v) (hu : v.touch t = u)
    (har : v.ar = s.ar) (hvrse : v.rse = s.rse) (hurse : u.rse = s.rse) : s.rseStore = .ok
      { u.alatInvalRange t.pa 8 with
        ar := { s.ar with bspstore := s.ar.bspstore + 8, rnat := s.collectedInto s.ar.bspstore s.ar.rnat }
        rse := { s.rse with dispersal :=
          if s.loadsOpenGroup then s.collectedInto s.ar.bspstore s.rse.dispersal else s.rse.dispersal } } := by
  refine (bind_of_ok htr).trans ?_
  by_cases hslot : bsSlot s.ar.bspstore = 63
  · rw [State.wordAt, if_pos hslot] at hv
    refine (if_pos (isCollection_iff.mpr hslot)).trans ((bind_of_ok hv).trans ?_)
    simp only [State.collectedInto, if_pos hslot, ite_self, hu, har, ← hurse]
    rfl
  · rw [State.wordAt, if_neg hslot] at hv
    refine (if_neg (mt isCollection_iff.mp hslot)).trans ((bind_of_ok hv).trans ?_)
    simp only [State.collectedInto, if_neg hslot, hu, har, hvrse]
    rfl

end

/-! #### The stores of a partition, one after another -/

/-- AR[RNAT] after the first `j` of the stores from AR[BSPSTORE] up. -/
def State.rnatAfter (s : State) : Nat → Word
  | 0 => s.ar.rnat
  | j + 1 => s.collectedInto (bsWord s.ar.bspstore j) (s.rnatAfter j)

/-- The dispersal register after the first `j` stores. -/
def State.dispersalAfter (s : State) : Nat → Word
  | 0 => s.rse.dispersal
  | j + 1 =>
    if collectionOf (s.rse.bspLoad - 8) == collectionOf (bsWord s.ar.bspstore j) then
      s.collectedInto (bsWord s.ar.bspstore j) (s.dispersalAfter j)
    else s.dispersalAfter j

/-- The word that the store of place `j` writes. -/
def State.spilledWord (s : State) (j : Nat) : Word := s.wordAt (bsWord s.ar.bspstore j) (s.rnatAfter j)

/-- Memory after the first `j` stores. -/
def State.memAfter (s : State) (a : Nat → Translation) : Nat → List Host.Cell
  | 0 => s.mem
  | j + 1 => wordStored (s.memAfter a j) s.rscBe (a j).pa (s.spilledWord j)

/-- The ALAT after the first `j` stores. -/
def State.alatAfter (s : State) (a : Nat → Translation) : Nat → List AlatEntry
  | 0 => s.alat
  | j + 1 => alatKept (s.alatAfter a j) (a j).pa 8

/-- The state after the first `j` stores, translated to `a`. -/
def State.spilled (s : State) (a : Nat → Translation) (j : Nat) : State :=
  s.engaged (s.touches a j) (s.memAfter a j) (s.alatAfter a j) s.grStacked
    { s.ar with bspstore := bsWord s.ar.bspstore j, rnat := s.rnatAfter j }
    { s.rse with dispersal := s.dispersalAfter j }

/-- The words of the first `j` places of the store pointer are translated by the TLB, outside the interrupt block. -/
def Spillable (s : State) (n : Nat) (a : Nat → Translation) : Prop :=
  ∀ j, j < n → s.translate (s.psrBit Psr.rt) (bsWord s.ar.bspstore j) (s.rseRef true false) = .ok (a j) ∧
    (a j).walked = none ∧ s.blockOffset (a j).pa = none

section
variable {s : State} {n j : Nat} {a : Nat → Translation}

theorem spilled_zero : s.spilled a 0 = s := by
  simp only [State.spilled, bsWord_zero]; rfl

theorem rseStore_spilled (h : Spillable s n a) (hj : j < n) : (s.spilled a j).rseStore = .ok (s.spilled a (j + 1)) := by
  obtain ⟨htr, hw, hb⟩ := h j hj
  have hwalks : ∀ i < j + 1, (a i).walked = none := fun i hi => (h i (by omega)).2.1
  have htr' : (s.spilled a j).translateRse (bsWord s.ar.bspstore j) (s.rseRef true false) = .ok (a j) :=
    translateRse_of_ok (translate_engaged htr hw) hw
  have hb' : (s.spilled a j).blockOffset (a j).pa = none := (touches_blockOffset (a j).pa).trans hb
  have hstore : (s.spilled a j).store (a j).pa 8 s.rscBe (a j).ma (s.spilledWord j) =
      .ok (s.engaged (s.touches a j) (s.memAfter a (j + 1)) (s.alatAfter a j) s.grStacked (s.spilled a j).ar
        (s.spilled a j).rse) := store_of_outside hb'
  have hnext : (s.spilled a j).ar.bspstore + 8 = bsWord s.ar.bspstore (j + 1) := (bsWord_succ _ _).symm
  refine (rseStore_of_store htr' hstore (engaged_touch hwalks) rfl rfl rfl).trans ?_
  rw [hnext]
  rfl

theorem flushDirty_spilled (h : Spillable s n a) (hn : n ≤ 98) (hbsp : s.ar.bsp = bsWord s.ar.bspstore n) :
    ∀ {fuel j : Nat}, j ≤ n → n ≤ j + fuel → (s.spilled a j).flushDirty fuel = .ok (s.spilled a n)
  | 0, j, hj, hfuel => by rw [show j = n by omega]; rfl
  | fuel + 1, j, hj, hfuel => by
    have hbelow : bsBelow (s.spilled a j).ar.bspstore (s.spilled a j).ar.bsp = decide (j < n) := by
      rw [show (s.spilled a j).ar.bsp = s.ar.bsp from rfl, hbsp]
      exact bsBelow_bsWord (by omega) (by omega)
    rw [State.flushDirty, hbelow]
    by_cases hlast : j < n
    · rw [decide_eq_true hlast]
      exact (bind_of_ok (rseStore_spilled h hlast)).trans (flushDirty_spilled h hn hbsp (by omega) (by omega))
    · rw [decide_eq_false hlast, show j = n by omega]; rfl

theorem flushRse_spilled (h : Spillable s n a) (hn : n ≤ 98) (hbsp : s.ar.bsp = bsWord s.ar.bspstore n) :
    s.flushRse = .ok (s.spilled a n) := by
  have hflush := flushDirty_spilled h hn hbsp (Nat.zero_le n) (show n ≤ 0 + rseFuel by rw [show rseFuel = 128 from rfl]; omega)
  rwa [spilled_zero] at hflush

end

end Sys2Proof.Machine
end

section
/-! ### What the stores of the register stack engine leave -/
namespace Sys2Proof.Machine

section
variable {s t u : State} {n j : Nat} {a : Nat → Translation} {w : Word} {b : Nat}

/-! #### NaT bits (R137) -/

theorem getLsbD_collectedInto (old : Word) : (s.collectedInto w old).getLsbD b =
    if bsSlot w ≠ 63 ∧ b = bsSlot w then s.natAt w else old.getLsbD b := by
  rw [State.collectedInto]
  by_cases hslot : bsSlot w = 63
  · rw [if_pos hslot, if_neg (fun h => h.1 hslot)]
  · rw [if_neg hslot, getLsbD_setBit _ _ _ _ (bsSlot_lt w)]
    simp only [ne_eq, hslot, not_false_eq_true, true_and]

/-- How far below a store pointer at slot `k` the last place of slot `b` lies. -/
def slotsBack (k b : Nat) : Nat := if b < k then k - b else k + 64 - b

theorem natStored_eq (a old : Word) (n b : Nat) : s.natStored a old n b =
    if b < 63 ∧ slotsBack (bsSlot (bsWord a n)) b ≤ n then
      s.natAt (bsWord a (n - slotsBack (bsSlot (bsWord a n)) b))
    else old.getLsbD b := rfl

theorem natStored_zero (a old : Word) (hb : b < 64) : s.natStored a old 0 b = old.getLsbD b := by
  rw [natStored_eq, if_neg]
  unfold slotsBack
  split <;> omega

/-- One more store collects the NaT bit of its register. -/
theorem natStored_succ (a old : Word) (n : Nat) (hb : b < 64) : s.natStored a old (n + 1) b =
    if bsSlot (bsWord a n) ≠ 63 ∧ b = bsSlot (bsWord a n) then s.natAt (bsWord a n)
    else s.natStored a old n b := by
  have hlt := bsSlot_lt (bsWord a n)
  rw [natStored_eq, natStored_eq, bsSlot_bsWord_succ]
  by_cases hslot : bsSlot (bsWord a n) ≠ 63 ∧ b = bsSlot (bsWord a n)
  · obtain ⟨hreg, rfl⟩ := hslot
    have hback : slotsBack ((bsSlot (bsWord a n) + 1) % 64) (bsSlot (bsWord a n)) = 1 := by
      unfold slotsBack; split <;> omega
    rw [hback, if_pos (by omega), if_pos ⟨hreg, rfl⟩, Nat.add_sub_cancel]
  · rw [if_neg hslot]
    by_cases hlow : b < 63
    · have hback : slotsBack ((bsSlot (bsWord a n) + 1) % 64) b = slotsBack (bsSlot (bsWord a n)) b + 1 := by
        unfold slotsBack; split <;> split <;> omega
      simp only [hback, hlow, true_and, Nat.add_le_add_iff_right, Nat.add_sub_add_right]
    · rw [if_neg (fun h => hlow h.1), if_neg (fun h => hlow h.1)]

theorem getLsbD_rnatAfter (hb : b < 64) :
    (s.rnatAfter j).getLsbD b = s.natStored s.ar.bspstore s.ar.rnat j b := by
  induction j with
  | zero => exact (natStored_zero _ _ hb).symm
  | succ j ih => rw [natStored_succ _ _ _ hb, ← ih]; exact getLsbD_collectedInto _

/-! #### The dispersal register (log entry 16) -/

/-- The store of place `j` is that of a register whose group is next to be loaded from. -/
def State.Disperses (s : State) (j : Nat) : Prop :=
  bsSlot (bsWord s.ar.bspstore j) ≠ 63 ∧ collectionOf (bsWord s.ar.bspstore j) = collectionOf (s.rse.bspLoad - 8)

open Classical in
theorem getLsbD_dispersalAfter_succ : (s.dispersalAfter (j + 1)).getLsbD b =
    if s.Disperses j ∧ b = bsSlot (bsWord s.ar.bspstore j) then s.natAt (bsWord s.ar.bspstore j)
    else (s.dispersalAfter j).getLsbD b := by
  rw [State.dispersalAfter]
  by_cases hgroup : collectionOf (bsWord s.ar.bspstore j) = collectionOf (s.rse.bspLoad - 8)
  · rw [if_pos (beq_iff_eq.mpr hgroup.symm), getLsbD_collectedInto]
    simp only [State.Disperses, hgroup, and_true]
  · rw [if_neg (fun h => hgroup (beq_iff_eq.mp h).symm), if_neg (fun h => hgroup h.1.2)]

/-- The bit of a register's slot is that register's. -/
theorem getLsbD_dispersalAfter (hn : n ≤ 98) (hj : j < n) (hopen : s.Disperses j) :
    (s.dispersalAfter n).getLsbD (bsSlot (bsWord s.ar.bspstore j)) = s.natAt (bsWord s.ar.bspstore j) := by
  induction n with
  | zero => omega
  | succ n ih =>
    rw [getLsbD_dispersalAfter_succ]
    by_cases hlast : j = n
    · subst hlast
      rw [if_pos ⟨hopen, rfl⟩]
    · rw [if_neg, ih (by omega) (by omega)]
      exact fun h => hlast (bsWord_inj (by omega) (by omega) (hopen.2.trans h.1.2.symm) h.2)

theorem getLsbD_dispersalAfter_other (h : ∀ j, j < n → s.Disperses j → bsSlot (bsWord s.ar.bspstore j) ≠ b) :
    (s.dispersalAfter n).getLsbD b = s.rse.dispersal.getLsbD b := by
  induction n with
  | zero => rfl
  | succ n ih =>
    rw [Nat.forall_lt_succ_right] at h
    rw [getLsbD_dispersalAfter_succ, if_neg (fun hd => h.2 hd.1 hd.2.symm), ih h.1]

theorem dispersed_after (hn : n ≤ 98) : Dispersed s (s.dispersalAfter n) n :=
  ⟨fun _ hj hopen => getLsbD_dispersalAfter hn hj hopen, fun _ _ h => getLsbD_dispersalAfter_other h⟩

/-! #### Memory and the ALAT -/

theorem memAfter_wf (hwf : Memory.wf s.mem = true) : Memory.wf (s.memAfter a j) = true := by
  induction j with
  | zero => exact hwf
  | succ j ih => exact Memory.writeBytes_wf ih _ _

theorem mem_alatAfter {e : AlatEntry} : e ∈ s.alatAfter a n ↔ e ∈ s.alat ∧ ∀ j, j < n →
    physAddr e.paddr + e.size ≤ physAddr (a j).pa ∨ physAddr (a j).pa + 8 ≤ physAddr e.paddr := by
  induction n with
  | zero => simp [State.alatAfter]
  | succ n ih => rw [State.alatAfter, mem_alatKept, ih, Nat.forall_lt_succ_right, and_assoc]

/-- The store of place `j`, and no other byte. -/
theorem stored_spilled_succ (hwf : Memory.wf s.mem = true) :
    Stored (s.spilled a (j + 1)) (a j).pa 8 s.rscBe (s.spilledWord j) ∧
      SameOutside (s.spilled a j) (s.spilled a (j + 1)) (a j).pa 8 :=
  stored_write (s.spilled a j) (s.spilled a (j + 1)) (memAfter_wf hwf) (a j).pa 8 s.rscBe (s.spilledWord j) rfl

/-- Later stores, to other places, leave a stored word. -/
theorem stored_spilled (h : StackReaches s n a) {k : Nat} (hk : k ≤ n) (hj : j < k) :
    Stored (s.spilled a k) (a j).pa 8 s.rscBe (s.spilledWord j) := by
  obtain ⟨-, hwf, -, hapart⟩ := h
  induction k with
  | zero => omega
  | succ k ih =>
    by_cases hlast : j = k
    · subst hlast
      exact (stored_spilled_succ hwf).1
    · intro x hx
      have hdisjoint := hapart j k (by omega) (by omega)
      exact ((stored_spilled_succ hwf).2 _ (by omega)).trans (ih (by omega) (by omega) x hx)

theorem byteAt_spilled (hwf : Memory.wf s.mem = true) {x : Nat}
    (hx : ∀ j, j < n → x < physAddr (a j).pa ∨ physAddr (a j).pa + 8 ≤ x) :
    (s.spilled a n).byteAt x = s.byteAt x := by
  induction n with
  | zero => rfl
  | succ n ih =>
    rw [Nat.forall_lt_succ_right] at hx
    exact ((stored_spilled_succ hwf).2 x hx.2).trans (ih hx.1)

theorem stackStored_spilled (h : StackReaches s n a) : StackStored s (s.spilled a n) n a := by
  refine ⟨fun j hj => ⟨s.spilledWord j, stored_spilled h le_rfl hj, fun hslot => if_neg hslot, fun hslot b hb => ?_⟩,
    fun x => byteAt_spilled h.2.1, fun e => mem_alatAfter, fun b hb => getLsbD_rnatAfter hb⟩
  rw [State.spilledWord, State.wordAt, if_pos hslot, getLsbD_rnatAfter hb]

/-- `StackStored` is about memory, the ALAT and AR[RNAT] alone. -/
theorem stackStored_congr (hmem : t.mem = u.mem) (halat : t.alat = u.alat) (hrnat : t.ar.rnat = u.ar.rnat)
    (h : StackStored s u n a) : StackStored s t n a := by
  obtain ⟨hwords, hother, hentries, hbits⟩ := h
  have hbyte (x : Nat) : t.byteAt x = u.byteAt x := congrArg (Memory.readByte · x) hmem
  refine ⟨fun j hj => ?_, fun x hx => (hbyte x).trans (hother x hx), fun e => halat ▸ hentries e, fun b hb => ?_⟩
  · obtain ⟨v, hv, hword⟩ := hwords j hj
    exact ⟨v, fun k hk => (hbyte _).trans (hv k hk), hword⟩
  · rw [hrnat, hbits b hb]

end

end Sys2Proof.Machine
end

section
/-! ### flushrs (R705) -/
namespace Sys2Proof.Machine

section
variable {s : State} {n : Nat} {a : Nat → Translation} {x : Faulted} {m : List Host.Cell} {l : List AlatEntry}
  {g : Vector Gr Config.nStackPhys} {r : AppRegs} {e : RseState}

/-- The engine's state as what the references leave, with the engine's own effect. -/
theorem engaged_touches (h : ∀ i < n, (a i).walked = none) : s.engaged (s.touches a n) m l g r e =
    { s.touches a n with mem := m, alat := l, grStacked := g, ar := r, rse := e } := by
  have hshape := touches_engaged (s := s) h
  generalize s.touches a n = t at hshape ⊢
  rw [hshape]
  rfl

theorem touches_grStacked (h : ∀ i < n, (a i).walked = none) : (s.touches a n).grStacked = s.grStacked := by
  rw [touches_engaged h]; rfl

theorem spilled_eq_touches (h : ∀ i < n, (a i).walked = none) : s.spilled a n =
    { s.touches a n with
      mem := s.memAfter a n, alat := s.alatAfter a n
      ar := { s.ar with bspstore := bsWord s.ar.bspstore n, rnat := s.rnatAfter n }
      rse := { s.rse with dispersal := s.dispersalAfter n } } := by
  rw [State.spilled, engaged_touches h, ← touches_grStacked h]

theorem exec_flushrs (hfirst : s.firstInGroup = true) :
    exec .flushrsM25 s = finish s (s.flushRse >>= done) := by
  change finish s (stuckIf (!s.firstInGroup) .undefinedBehavior >>= _) = _
  rw [hfirst]; rfl

theorem flushrs_completes (hss : s.psrBit Psr.ss = false) (hfirst : s.firstInGroup = true)
    (hbsp : s.ar.bsp = bsWord s.ar.bspstore n) (h : StackReaches s n a) :
    ∃ t, exec .flushrsM25 s = .next t ∧ t.place = s.nextPlace ∧ t.ar.bspstore = s.ar.bsp ∧
      StackStored s t n a ∧ Dispersed s t.rse.dispersal n ∧ t.rse.bspLoad = s.rse.bspLoad ∧
      t.settled = ({ s.touches a n with
        mem := t.mem, alat := t.alat, ar := { s.ar with bspstore := s.ar.bsp, rnat := t.ar.rnat }
        rse := { s.rse with dispersal := t.rse.dispersal } } : State).settled := by
  have ⟨hn, _, hreach, _⟩ := h
  have hwalks : ∀ i < n, (a i).walked = none := fun i hi => (hreach i hi).2.1
  have hexec : exec .flushrsM25 s = finish s (done (s.spilled a n)) := by
    rw [exec_flushrs hfirst, bind_of_ok (flushRse_spilled hreach hn hbsp)]
  obtain ⟨t, ht, hplace, hset⟩ := completes_of_exec hss (u := s.spilled a n) rfl rfl rfl hexec
  have hmem : t.mem = (s.spilled a n).mem := mem_of_settled hset
  have halat : t.alat = (s.spilled a n).alat := settled_alat hset
  have har : t.ar = (s.spilled a n).ar := read_of_settled State.ar (fun _ => rfl) hset
  have hrse : t.rse = (s.spilled a n).rse := read_of_settled State.rse (fun _ => rfl) hset
  have hrnat : t.ar.rnat = (s.spilled a n).ar.rnat := congrArg AppRegs.rnat har
  refine ⟨t, ht, hplace, (congrArg AppRegs.bspstore har).trans hbsp.symm,
    stackStored_congr hmem halat hrnat (stackStored_spilled h), hrse ▸ dispersed_after hn, by rw [hrse]; rfl, hset.trans ?_⟩
  rw [hmem, halat, har, hrse, hbsp]
  exact congrArg State.settled (spilled_eq_touches hwalks)

theorem flushrs_nothing (hss : s.psrBit Psr.ss = false) (hfirst : s.firstInGroup = true)
    (hnone : bsBelow s.ar.bspstore s.ar.bsp = false) : Completes .flushrsM25 s s := by
  have hflush : s.flushRse = .ok s := by
    refine if_neg ?_
    rw [hnone]; exact Bool.false_ne_true
  exact completes_of_exec hss rfl rfl rfl (by rw [exec_flushrs hfirst, bind_of_ok hflush])

/-- A mandatory reference whose translation faults ends the engine's work. -/
theorem translateRse_faulted {va : Word} {ref : Ref} (h : s.translate (s.psrBit Psr.rt) va ref = .error x) :
    s.translateRse va ref = s.faulted x := by
  rw [State.translateRse, State.dataReference, h]

theorem trapsAt_of_faulted {i : Instr} (hi : exec i s = finish s (s.faulted x)) : TrapsAt i s x :=
  ⟨fun h => hi.trans (finish_faulted h), fun h => hi.trans (finish_faulted_machineCheck h)⟩

theorem flushrs_faults (hfirst : s.firstInGroup = true) (hsome : bsBelow s.ar.bspstore s.ar.bsp = true)
    (h : s.translate (s.psrBit Psr.rt) s.ar.bspstore (s.rseRef true false) = .error x) : TrapsAt .flushrsM25 s x := by
  have hstore : s.rseStore = s.faulted x := by
    rw [State.rseStore, translateRse_faulted h, faulted_bind]
  have hflush : s.flushRse = s.faulted x := by
    refine (if_pos hsome).trans ?_
    rw [hstore, faulted_bind]
  exact trapsAt_of_faulted (by rw [exec_flushrs hfirst, hflush, faulted_bind])

theorem flushrs_interrupted {u : State} {y : Interruption} (hfirst : s.firstInGroup = true)
    (h : s.flushRse = .error (.interruptAt u y)) : exec .flushrsM25 s = .next (deliver y u) := by
  rw [exec_flushrs hfirst, h]; rfl

end

end Sys2Proof.Machine
end

section
/-! ### loadrs (R706) -/
namespace Sys2Proof.Machine

/-! #### One load (R136) -/

section
variable {s u : State} {t : Translation} {b v : Word}

/-- One load of the engine outside a frame load; `u` is what its reference leaves. -/
theorem rseLoad_of_load (hcfle : s.rse.cfle = false) (hb : s.rse.bspLoad - 8 = b)
    (htr : s.translateRse b (s.rseRef false false) = .ok t)
    (hv : s.load t.pa 8 s.rscBe t.ma = .ok v) (hu : s.touch t = u) (har : u.ar = s.ar) (hrse : u.rse = s.rse)
    (hgr : u.grStacked = s.grStacked) : s.rseLoad = .ok
      { u with
        grStacked := if bsSlot b = 63 then s.grStacked
          else s.grStacked.set (s.physAt b) ⟨v, bit s.rse.dispersal (bsSlot b)⟩
        ar := s.ar
        rse := { s.rse with
          bspLoad := b
          dispersal := if bsSlot b = 63 then setBit v 63 false else s.rse.dispersal } } := by
  subst hb
  have htr' : s.translateRse (s.rse.bspLoad - 8) (s.rseRef false s.rse.cfle) = .ok t := by rw [hcfle]; exact htr
  refine (bind_of_ok htr').trans ?_
  refine (bind_of_ok hv).trans ?_
  by_cases hslot : bsSlot (s.rse.bspLoad - 8) = 63
  · refine (if_pos (isCollection_iff.mpr hslot)).trans ?_
    simp only [hu, hcfle, if_pos hslot, har, hrse, ← hgr, Bool.false_eq_true, if_false]
  · refine (if_neg (mt isCollection_iff.mp hslot)).trans ?_
    simp only [hu, hcfle, if_neg hslot, har, hrse, hgr, Bool.false_eq_true, if_false]

end

/-! #### The loads of a partition, one after another -/

/-- The load pointer after `j` loads. -/
def State.loadAt (s : State) (j : Nat) : Word := s.rse.bspLoad - BitVec.ofNat 64 (8 * j)

/-- The dispersal register after `j` loads of the words `w`. -/
def State.dispersalLoaded (s : State) (w : Nat → Word) : Nat → Word
  | 0 => s.rse.dispersal
  | j + 1 => if bsSlot (s.loadWord j) = 63 then setBit (w j) 63 false else s.dispersalLoaded w j

/-- The stacked registers after `j` loads of the words `w`. -/
def State.regsLoaded (s : State) (w : Nat → Word) : Nat → Vector Gr Config.nStackPhys
  | 0 => s.grStacked
  | j + 1 => if bsSlot (s.loadWord j) = 63 then s.regsLoaded w j
    else (s.regsLoaded w j).set (s.physAt (s.loadWord j)) ⟨w j, bit (s.dispersalLoaded w j) (bsSlot (s.loadWord j))⟩

/-- The state after `j` loads of the words `w`, translated to `a`. -/
def State.filled (s : State) (a : Nat → Translation) (w : Nat → Word) (j : Nat) : State :=
  s.engaged (s.touches a j) s.mem s.alat (s.regsLoaded w j) s.ar
    { s.rse with bspLoad := s.loadAt j, dispersal := s.dispersalLoaded w j }

/-- The first `m` words below the load pointer are translated by the TLB, outside the interrupt block, and are `w`. -/
def Loadable (s : State) (m : Nat) (a : Nat → Translation) (w : Nat → Word) : Prop :=
  ∀ j, j < m → s.translate (s.psrBit Psr.rt) (s.loadWord j) (s.rseRef false false) = .ok (a j) ∧
    (a j).walked = none ∧ s.blockOffset (a j).pa = none ∧ HoldsBytes (w j) 8 s.rscBe (bytesFrom s (a j).pa)

section
variable {s : State} {m j : Nat} {a : Nat → Translation} {w : Nat → Word} {target : Word}

theorem loadAt_zero : s.loadAt 0 = s.rse.bspLoad := by simp [State.loadAt]

theorem loadAt_succ : s.loadAt j - 8 = s.loadWord j := by
  apply BitVec.eq_of_toNat_eq
  simp only [State.loadAt, State.loadWord, BitVec.toNat_sub, BitVec.toNat_ofNat, show (8 : Word).toNat = 8 from rfl]
  omega

theorem filled_zero : s.filled a w 0 = s := by
  simp only [State.filled, loadAt_zero]; rfl

theorem rseLoad_filled (hcfle : s.rse.cfle = false) (h : Loadable s m a w) (hj : j < m) :
    (s.filled a w j).rseLoad = .ok (s.filled a w (j + 1)) := by
  obtain ⟨htr, hw, hb, hbytes⟩ := h j hj
  have hwalks : ∀ i < j + 1, (a i).walked = none := fun i hi => (h i (by omega)).2.1
  have hptr : (s.filled a w j).rse.bspLoad - 8 = s.loadWord j := loadAt_succ
  have htr' : (s.filled a w j).translateRse (s.loadWord j) (s.rseRef false false) = .ok (a j) :=
    translateRse_of_ok (translate_engaged htr hw) hw
  have hb' : (s.filled a w j).blockOffset (a j).pa = none := (touches_blockOffset (a j).pa).trans hb
  have hload : (s.filled a w j).load (a j).pa 8 s.rscBe (a j).ma = .ok (w j) := by
    have hread : (s.filled a w j).memRead (a j).pa 8 s.rscBe = s.memRead (a j).pa 8 s.rscBe := rfl
    rw [load_of_outside hb', hread, memRead_eq_of_holdsBytes hbytes]
  exact rseLoad_of_load (s := s.filled a w j) hcfle hptr htr' hload (engaged_touch hwalks) rfl rfl rfl

theorem loadUntil_filled (hcfle : s.rse.cfle = false) (h : Loadable s m a w)
    (hstop : ∀ j ≤ m, bsBelow target (s.loadAt j) = decide (j < m)) :
    ∀ {fuel j : Nat}, j ≤ m → m ≤ j + fuel → (s.filled a w j).loadUntil target fuel = .ok (s.filled a w m)
  | 0, j, hj, hfuel => by rw [show j = m by omega]; rfl
  | fuel + 1, j, hj, hfuel => by
    have hbelow : bsBelow target (s.filled a w j).rse.bspLoad = decide (j < m) := hstop j hj
    rw [State.loadUntil, hbelow]
    by_cases hlast : j < m
    · rw [decide_eq_true hlast]
      exact (bind_of_ok (rseLoad_filled hcfle h hlast)).trans (loadUntil_filled hcfle h hstop (by omega) (by omega))
    · rw [decide_eq_false hlast, show j = m by omega]; rfl

/-! #### Where `loadrs` ends -/

/-- What lies below BSP has no more words than the register file and its collections. -/
theorem words_le_of_regsBetween {b : Word} (h : regsBetween target b ≤ 96) : (b - target).toNat / 8 ≤ 98 := by
  have hslot := bsSlot_lt target
  rw [regsBetween, BitVec.toNat_ushiftRight, Nat.shiftRight_eq_div_pow] at h
  omega

theorem loadReaches_le (h : LoadReaches s target m a w) : 8 * m ≤ (s.ar.bsp - target).toNat := by
  obtain ⟨⟨-, hm⟩ | ⟨-, rfl⟩, -⟩ := h <;> omega

/-- With the `m` words between `target` and the load pointer, each is a word above `target`. -/
theorem loadAt_eq_bsWord (hm : (s.ar.bsp - s.rse.bspLoad).toNat + 8 * m = (s.ar.bsp - target).toNat) (hj : j ≤ m) :
    s.loadAt j = bsWord target (m - j) := by
  apply BitVec.eq_of_toNat_eq
  rw [BitVec.toNat_sub, BitVec.toNat_sub] at hm
  rw [toNat_bsWord, State.loadAt, BitVec.toNat_sub, BitVec.toNat_ofNat]
  omega

theorem bsBelow_loadAt (h : LoadReaches s target m a w) (hm : m ≤ 98) (hj : j ≤ m) :
    bsBelow target (s.loadAt j) = decide (j < m) := by
  obtain ⟨⟨-, hwords⟩ | ⟨hnone, rfl⟩, -⟩ := h
  · have hbelow := bsBelow_bsWord (a := target) (i := 0) (j := m - j) (by omega) (by omega)
    rw [loadAt_eq_bsWord hwords hj]
    rw [bsWord_zero] at hbelow
    rw [hbelow]
    exact decide_eq_decide.mpr (by omega)
  · rw [show j = 0 by omega, loadAt_zero, hnone]; rfl

end

end Sys2Proof.Machine
end

section
/-! ### What the loads of the register stack engine leave -/
namespace Sys2Proof.Machine

/-! #### Where the words go (R127) -/

section
variable {s : State} {target : Word} {k i j m : Nat} {w : Nat → Word}

/-- The registers between a word above `target` and BSP. -/
theorem regsBetween_bsWord {b : Word} (hk : 8 * k ≤ (b - target).toNat) : regsBetween (bsWord target k) b =
    (b - target).toNat / 8 - k - ((bsSlot target + k) % 64 + ((b - target).toNat / 8 - k)) / 64 := by
  have hdiff : (b - bsWord target k).toNat / 8 = (b - target).toNat / 8 - k := by
    rw [BitVec.toNat_sub] at hk ⊢
    rw [BitVec.toNat_sub, toNat_bsWord]
    omega
  rw [regsBetween, BitVec.toNat_ushiftRight, Nat.shiftRight_eq_div_pow, bsSlot_bsWord]
  rw [show 2 ^ 3 = 8 from rfl, hdiff]

/-- A word below BSP belongs to the register as far below the frame as there are registers between. -/
theorem physAt_bsWord (hk : 8 * k < (s.ar.bsp - target).toNat) (hD : (s.ar.bsp - target).toNat / 8 ≤ 98) :
    s.physAt (bsWord target k) = Fin.ofNat Config.nStackPhys
      (s.rse.bof.val + Config.nStackPhys * 2 ^ 61 - regsBetween (bsWord target k) s.ar.bsp) := by
  have hdiff : (bsWord target k - s.ar.bsp).toNat = 2 ^ 64 - ((s.ar.bsp - target).toNat - 8 * k) := by
    rw [BitVec.toNat_sub] at hk hD
    rw [BitVec.toNat_sub, BitVec.toNat_sub, toNat_bsWord]
    omega
  refine if_pos ?_
  rw [bsBelow, BitVec.msb_eq_decide, hdiff]
  exact decide_eq_true (by omega)

/-- Below the frame, places up to the size of the register file apart are different registers. -/
theorem belowFrame_inj {bof f g : Nat} (hf : 1 ≤ f ∧ f ≤ 96) (hg : 1 ≤ g ∧ g ≤ 96)
    (h : (bof + 96 * 2 ^ 61 - f) % 96 = (bof + 96 * 2 ^ 61 - g) % 96) : f = g := by
  omega

/-- A partition that fits: every register of it is at most its size below BSP. -/
theorem regsBetween_register {b : Word} (hregs : regsBetween target b ≤ 96)
    (hslot : bsSlot (bsWord target k) ≠ 63) (haligned : 8 * (k + 1) ≤ (b - target).toNat) :
    1 ≤ regsBetween (bsWord target k) b ∧ regsBetween (bsWord target k) b ≤ 96 := by
  have hlt := bsSlot_lt target
  rw [← bsWord_zero target, regsBetween_bsWord (by omega)] at hregs
  rw [bsSlot_bsWord] at hslot
  rw [regsBetween_bsWord (by omega)]
  omega

theorem regsBetween_inj {b : Word} (hi : 8 * (i + 1) ≤ (b - target).toNat) (hj : 8 * (j + 1) ≤ (b - target).toNat)
    (hsi : bsSlot (bsWord target i) ≠ 63) (hsj : bsSlot (bsWord target j) ≠ 63)
    (h : regsBetween (bsWord target i) b = regsBetween (bsWord target j) b) : i = j := by
  have hlt := bsSlot_lt target
  rw [bsSlot_bsWord] at hsi hsj
  rw [regsBetween_bsWord (by omega), regsBetween_bsWord (by omega)] at h
  omega

/-- Different registers of a partition that fits lie at different places. -/
theorem bsWord_of_physAt (hregs : regsBetween target s.ar.bsp ≤ 96) (hi : 8 * (i + 1) ≤ (s.ar.bsp - target).toNat)
    (hj : 8 * (j + 1) ≤ (s.ar.bsp - target).toNat) (hsi : bsSlot (bsWord target i) ≠ 63)
    (hsj : bsSlot (bsWord target j) ≠ 63) (h : s.physAt (bsWord target i) = s.physAt (bsWord target j)) : i = j := by
  have hD := words_le_of_regsBetween hregs
  rw [physAt_bsWord (by omega) hD, physAt_bsWord (by omega) hD] at h
  exact regsBetween_inj hi hj hsi hsj
    (belowFrame_inj (regsBetween_register hregs hsi hi) (regsBetween_register hregs hsj hj)
      (congrArg Fin.val h))

end

end Sys2Proof.Machine
end

section
/-! ### The register stack instructions -/
namespace Sys2Proof.Machine

/-! #### What `loadrs` leaves in the registers and the dispersal register (R136) -/

section
variable {s : State} {target : Word} {i j m n d : Nat} {a : Nat → Translation} {w : Nat → Word}

theorem loadWord_eq_bsWord (h : LoadReaches s target m a w) (hj : j < m) :
    s.loadWord j = bsWord target (m - (j + 1)) := by
  obtain ⟨⟨-, hwords⟩ | ⟨-, rfl⟩, -⟩ := h
  · exact loadAt_eq_bsWord hwords hj
  · omega

/-- Different words that `loadrs` loads into registers go to different registers. -/
theorem loadWord_of_physAt (h : LoadReaches s target m a w) (hregs : regsBetween target s.ar.bsp ≤ 96) (hi : i < m)
    (hj : j < m) (hsi : bsSlot (s.loadWord i) ≠ 63) (hsj : bsSlot (s.loadWord j) ≠ 63)
    (heq : s.physAt (s.loadWord i) = s.physAt (s.loadWord j)) : i = j := by
  have hm := loadReaches_le h
  rw [loadWord_eq_bsWord h hi] at hsi heq
  rw [loadWord_eq_bsWord h hj] at hsj heq
  have hplaces := bsWord_of_physAt hregs (by omega) (by omega) hsi hsj heq
  omega

/-- Earlier loads are of higher words. -/
theorem loadWord_sub (hd : d ≤ j) : s.loadWord (j - d) = bsWord (s.loadWord j) d := by
  apply BitVec.eq_of_toNat_eq
  rw [toNat_bsWord, State.loadWord, State.loadWord, BitVec.toNat_sub, BitVec.toNat_sub, BitVec.toNat_ofNat,
    BitVec.toNat_ofNat]
  omega

/-- Loads into other registers leave a register. -/
theorem regsLoaded_keeps {k : Fin Config.nStackPhys} (hi : i ≤ n)
    (h : ∀ l, i ≤ l → l < n → bsSlot (s.loadWord l) ≠ 63 → k ≠ s.physAt (s.loadWord l)) :
    (s.regsLoaded w n)[k] = (s.regsLoaded w i)[k] := by
  induction n, hi using Nat.le_induction with
  | base => rfl
  | succ n hin ih =>
    have hrest := ih fun l hl hln => h l hl (Nat.lt_succ_of_lt hln)
    rw [State.regsLoaded]
    by_cases hslot : bsSlot (s.loadWord n) = 63
    · rw [if_pos hslot, hrest]
    · have hne : (s.physAt (s.loadWord n)).val ≠ k.val := fun e => h n hin (Nat.lt_succ_self n) hslot (Fin.ext e.symm)
      rw [if_neg hslot, ← hrest]
      exact Vector.getElem_set_ne _ _ hne

/-- The dispersal register keeps a collection until the next is loaded. -/
theorem dispersalLoaded_keeps (hi : i ≤ n) (h : ∀ l, i ≤ l → l < n → bsSlot (s.loadWord l) ≠ 63) :
    s.dispersalLoaded w n = s.dispersalLoaded w i := by
  induction n, hi using Nat.le_induction with
  | base => rfl
  | succ n hin ih =>
    rw [State.dispersalLoaded, if_neg (h n hin (Nat.lt_succ_self n)), ih fun l hl hln => h l hl (Nat.lt_succ_of_lt hln)]

theorem dispersalLoaded_collection (h : bsSlot (s.loadWord j) = 63) :
    s.dispersalLoaded w (j + 1) = setBit (w j) 63 false := if_pos h

/-- The NaT bit of a loaded register is in its group's collection, or in the dispersal register where that was loaded
before. -/
theorem dispersalLoaded_bit (hslot : bsSlot (s.loadWord j) ≠ 63) :
    (s.dispersalLoaded w j).getLsbD (bsSlot (s.loadWord j)) =
      (if 63 - bsSlot (s.loadWord j) ≤ j then w (j - (63 - bsSlot (s.loadWord j))) else s.rse.dispersal).getLsbD
        (bsSlot (s.loadWord j)) := by
  have hlt := bsSlot_lt (s.loadWord j)
  have habove {l : Nat} (hl : l ≤ j) : bsSlot (s.loadWord l) = (bsSlot (s.loadWord j) + (j - l)) % 64 := by
    have hword := loadWord_sub (s := s) (Nat.sub_le j l)
    rw [Nat.sub_sub_self hl] at hword
    rw [hword, bsSlot_bsWord]
  by_cases hup : 63 - bsSlot (s.loadWord j) ≤ j
  · have hcoll : bsSlot (s.loadWord (j - (63 - bsSlot (s.loadWord j)))) = 63 := by
      rw [habove (Nat.sub_le _ _)]; omega
    rw [if_pos hup, dispersalLoaded_keeps (i := j - (63 - bsSlot (s.loadWord j)) + 1) (by omega),
      dispersalLoaded_collection hcoll, getLsbD_setBit _ _ _ _ (by omega), if_neg hslot]
    intro l hl hlj
    rw [habove (by omega)]
    omega
  · rw [if_neg hup, dispersalLoaded_keeps (Nat.zero_le j)]
    · rfl
    · intro l _ hlj
      rw [habove (by omega)]
      omega

/-- The register of a loaded word. -/
theorem regsLoaded_at (h : LoadReaches s target m a w) (hregs : regsBetween target s.ar.bsp ≤ 96) (hj : j < m)
    (hslot : bsSlot (s.loadWord j) ≠ 63) : (s.regsLoaded w m)[s.physAt (s.loadWord j)] =
      ⟨w j, (if 63 - bsSlot (s.loadWord j) ≤ j then w (j - (63 - bsSlot (s.loadWord j))) else s.rse.dispersal).getLsbD
        (bsSlot (s.loadWord j))⟩ := by
  have hlater : ∀ l, j + 1 ≤ l → l < m → bsSlot (s.loadWord l) ≠ 63 → s.physAt (s.loadWord j) ≠ s.physAt (s.loadWord l) :=
    fun l hl hlm hsl heq => by
      have := loadWord_of_physAt h hregs hj hlm hslot hsl heq
      omega
  rw [regsLoaded_keeps hj hlater, State.regsLoaded, if_neg hslot, ← dispersalLoaded_bit hslot]
  exact Vector.getElem_set_self _

end

/-! #### loadrs -/

section
variable {s : State} {target : Word} {m : Nat} {a : Nat → Translation} {w : Nat → Word} {x : Faulted}

/-- Where the loads of `loadrs` end (R706). -/
def State.loadTarget (s : State) : Word := (s.ar.bsp - s.rscLoadrs.zeroExtend 64) &&& 0xFFFFFFFFFFFFFFF8

theorem ensureLoaded_eq : s.ensureLoaded = (do
    check (decide (Config.nStackPhys < s.cfm.sof.toNat + regsBetween s.loadTarget s.ar.bsp)) illegalOperation
    let t ← s.loadUntil s.loadTarget rseFuel
    .ok { t with
      ar := { t.ar with bspstore := s.loadTarget, rnat := Config.freeWord .rnat s.fresh }
      rse := { t.rse with bspLoad := s.loadTarget } }) := rfl

theorem exec_loadrs (hfirst : s.firstInGroup = true) : exec .loadrsM25 s = finish s (do
    check (s.rscMode != 0) illegalOperation
    let t ← s.ensureLoaded
    done t) := by
  change finish s (stuckIf (!s.firstInGroup) .undefinedBehavior >>= _) = _
  rw [hfirst]; rfl

theorem loadrs_lazy (hfirst : s.firstInGroup = true) (hmode : s.rscMode ≠ 0) : Traps .loadrsM25 s illegalOperation := by
  rw [Traps, exec_loadrs hfirst, check, if_pos (bne_iff_ne.mpr hmode)]; rfl

theorem exec_loadrs_enforced (hfirst : s.firstInGroup = true) (hmode : s.rscMode = 0) :
    exec .loadrsM25 s = finish s (s.ensureLoaded >>= done) := by
  rw [exec_loadrs hfirst, hmode]; rfl

/-- More registers than fit beside the frame. -/
def State.LoadFits (s : State) : Prop := s.cfm.sof.toNat + regsBetween s.loadTarget s.ar.bsp ≤ 96

theorem loadrs_tooMany (hfirst : s.firstInGroup = true) (hmode : s.rscMode = 0) (hfits : ¬ s.LoadFits) :
    Traps .loadrsM25 s illegalOperation := by
  rw [Traps, exec_loadrs_enforced hfirst hmode, ensureLoaded_eq, check, decide_eq_true (Nat.lt_of_not_le hfits)]; rfl

theorem ensureLoaded_of_fits (hfits : s.LoadFits) : s.ensureLoaded = (do
    let t ← s.loadUntil s.loadTarget rseFuel
    .ok { t with
      ar := { t.ar with bspstore := s.loadTarget, rnat := Config.freeWord .rnat s.fresh }
      rse := { t.rse with bspLoad := s.loadTarget } }) := by
  rw [ensureLoaded_eq, check, decide_eq_false (Nat.not_lt_of_le hfits)]; rfl

/-- The state that `loadrs` leaves. -/
def State.reloaded (s : State) (m : Nat) (a : Nat → Translation) (w : Nat → Word) : State :=
  s.engaged (s.touches a m) s.mem s.alat (s.regsLoaded w m)
    { s.ar with bspstore := s.loadTarget, rnat := Config.freeWord .rnat s.fresh }
    { s.rse with bspLoad := s.loadTarget, dispersal := s.dispersalLoaded w m }

theorem ensureLoaded_reloaded (hfits : s.LoadFits) (hcfle : s.rse.cfle = false)
    (h : LoadReaches s s.loadTarget m a w) : s.ensureLoaded = .ok (s.reloaded m a w) := by
  have hm : m ≤ 98 := by
    have hwords := words_le_of_regsBetween (Nat.le_of_add_left_le hfits)
    have hle := loadReaches_le h
    omega
  have hload := loadUntil_filled hcfle h.2 (fun j hj => bsBelow_loadAt h hm hj) (Nat.zero_le m)
    (show m ≤ 0 + rseFuel by rw [show rseFuel = 128 from rfl]; omega)
  rw [filled_zero] at hload
  rw [ensureLoaded_of_fits hfits]
  exact bind_of_ok hload

theorem reloaded_eq_touches (h : ∀ i < m, (a i).walked = none) : s.reloaded m a w =
    { s.touches a m with
      grStacked := s.regsLoaded w m
      ar := { s.ar with bspstore := s.loadTarget, rnat := Config.freeWord .rnat s.fresh }
      rse := { s.rse with bspLoad := s.loadTarget, dispersal := s.dispersalLoaded w m } } := by
  have hshape := touches_engaged (s := s) h
  rw [State.reloaded]
  generalize s.touches a m = t at hshape ⊢
  rw [hshape]
  rfl

theorem loadrs_completes (hss : s.psrBit Psr.ss = false) (hfirst : s.firstInGroup = true) (hmode : s.rscMode = 0)
    (hfits : s.LoadFits) (hcfle : s.rse.cfle = false) (h : LoadReaches s s.loadTarget m a w) :
    ∃ t, exec .loadrsM25 s = .next t ∧ t.place = s.nextPlace ∧ SameMemory s t ∧
      (∀ j, j < m → bsSlot (s.loadWord j) ≠ 63 →
        let up := 63 - bsSlot (s.loadWord j)
        t.grStacked[s.physAt (s.loadWord j)] = ⟨w j,
          (if up ≤ j then w (j - up) else s.rse.dispersal).getLsbD (bsSlot (s.loadWord j))⟩) ∧
      (∀ k : Fin 96, (∀ j, j < m → bsSlot (s.loadWord j) ≠ 63 → k ≠ s.physAt (s.loadWord j)) →
        t.grStacked[k] = s.grStacked[k]) ∧
      ((∀ j, j < m → bsSlot (s.loadWord j) ≠ 63) → t.rse.dispersal = s.rse.dispersal) ∧
      (∀ j, j < m → bsSlot (s.loadWord j) = 63 → (∀ i, j < i → i < m → bsSlot (s.loadWord i) ≠ 63) →
        t.rse.dispersal = (w j &&& 0x7FFFFFFFFFFFFFFF)) ∧
      t.settled = ({ s.touches a m with
        grStacked := t.grStacked, ar := { s.ar with bspstore := s.loadTarget, rnat := t.ar.rnat }
        rse := { s.rse with bspLoad := s.loadTarget, dispersal := t.rse.dispersal } } : State).settled := by
  have hregs : regsBetween s.loadTarget s.ar.bsp ≤ 96 := Nat.le_of_add_left_le hfits
  have hexec : exec .loadrsM25 s = finish s (done (s.reloaded m a w)) := by
    rw [exec_loadrs_enforced hfirst hmode, bind_of_ok (ensureLoaded_reloaded hfits hcfle h)]
  obtain ⟨t, ht, hplace, hset⟩ := completes_of_exec hss (u := s.reloaded m a w) rfl rfl rfl hexec
  have hmem : t.mem = (s.reloaded m a w).mem := mem_of_settled hset
  have hgr : t.grStacked = s.regsLoaded w m := read_of_settled State.grStacked (fun _ => rfl) hset
  have har : t.ar.rnat = Config.freeWord .rnat s.fresh := read_of_settled (fun u => u.ar.rnat) (fun _ => rfl) hset
  have hdisp : t.rse.dispersal = s.dispersalLoaded w m := read_of_settled (fun u => u.rse.dispersal) (fun _ => rfl) hset
  refine ⟨t, ht, hplace, fun x => congrArg (Memory.readByte · x) hmem, fun j hj hslot => ?_, fun k hk => ?_, fun hnone => ?_,
    fun j hj hcoll hlater => ?_, hset.trans ?_⟩
  · rw [hgr]; exact regsLoaded_at h hregs hj hslot
  · rw [hgr]; exact regsLoaded_keeps (Nat.zero_le m) fun l _ => hk l
  · rw [hdisp]; exact dispersalLoaded_keeps (Nat.zero_le m) fun l _ => hnone l
  · rw [hdisp, dispersalLoaded_keeps (Nat.succ_le_of_lt hj) hlater, dispersalLoaded_collection hcoll]
    rfl
  · rw [hgr, har, hdisp, reloaded_eq_touches fun i hi => (h.2 i hi).2.1]

theorem loadrs_faults (hfirst : s.firstInGroup = true) (hmode : s.rscMode = 0) (hfits : s.LoadFits)
    (hcfle : s.rse.cfle = false) (hsome : bsBelow s.loadTarget s.rse.bspLoad = true)
    (h : s.translate (s.psrBit Psr.rt) (s.loadWord 0) (s.rseRef false false) = .error x) : TrapsAt .loadrsM25 s x := by
  have hload : s.rseLoad = s.faulted x := by
    rw [State.rseLoad, hcfle]
    exact (congrArg (· >>= _) (translateRse_faulted h)).trans (faulted_bind _ _ _)
  have hloads : s.loadUntil s.loadTarget rseFuel = s.faulted x := by
    refine (if_pos hsome).trans ?_
    rw [hload, faulted_bind]
  exact trapsAt_of_faulted (by
    rw [exec_loadrs_enforced hfirst hmode, ensureLoaded_of_fits hfits, hloads, faulted_bind, faulted_bind])

theorem loadrs_interrupted {u : State} {y : Interruption} (hfirst : s.firstInGroup = true) (hmode : s.rscMode = 0)
    (h : s.ensureLoaded = .error (.interruptAt u y)) : exec .loadrsM25 s = .next (deliver y u) := by
  rw [exec_loadrs_enforced hfirst hmode, h]; rfl

/-- An instruction that must be the first of its group stops the model elsewhere (U5). -/
theorem flushrs_notFirst (hfirst : s.firstInGroup = false) : exec .flushrsM25 s = .fault .undefinedBehavior := by
  change finish s (stuckIf (!s.firstInGroup) .undefinedBehavior >>= _) = _
  rw [hfirst]; rfl

theorem loadrs_notFirst (hfirst : s.firstInGroup = false) : exec .loadrsM25 s = .fault .undefinedBehavior := by
  change finish s (stuckIf (!s.firstInGroup) .undefinedBehavior >>= _) = _
  rw [hfirst]; rfl

end

/-- Settles O44: the state after each store, and after each load, is given by recursion on their number (`State.spilled`,
`State.filled`). -/
theorem registerStackTraffic : Obligations.RegisterStackTraffic := by
  intro s hss
  refine ⟨fun hfirst => ⟨flushrs_notFirst hfirst, loadrs_notFirst hfirst⟩, fun hfirst => ⟨?_, ?_, ?_, ?_, ?_, ?_⟩⟩
  · exact fun n a hbsp h => flushrs_completes hss hfirst hbsp h
  · exact fun hnone => flushrs_nothing hss hfirst hnone
  · exact fun hsome x h => flushrs_faults hfirst hsome h
  · exact fun u x h => flushrs_interrupted hfirst h
  · exact fun hmode => loadrs_lazy hfirst hmode
  · intro hmode
    refine ⟨fun hfits => loadrs_tooMany hfirst hmode hfits, fun hfits hcfle => ⟨?_, ?_, ?_⟩⟩
    · exact fun m a w h => loadrs_completes hss hfirst hmode hfits hcfle h
    · exact fun hsome x h => loadrs_faults hfirst hmode hfits hcfle hsome h
    · exact fun u x h => loadrs_interrupted hfirst hmode h

end Sys2Proof.Machine
end

section
/-! ### Instructions that write one general register -/
namespace Sys2Proof.Machine

/-! #### Completion, and the fault of a register that is no target (R17) -/

section
variable {i : Instr} {s : State} {qp : BitVec 6} {r1 : BitVec 7} {v : Gr}

theorem writesGr_of_writeGr (hr : ReadyGr s qp r1) (hi : exec i s = writeGr qp r1 v s) : WritesGr i s r1 v := by
  obtain ⟨hq, hss, hb⟩ := hr
  exact writesGr_of_exec hss hb (hi.trans (writeGr_done hq hb))

theorem exec_movl (hq : s.prBit qp = true) (imm : BitVec 64) :
    exec (.movlX2 qp r1 imm) s = finish s (s.checkTarget r1 >>= fun _ =>
      .ok { st := s.setGr r1 ⟨imm, false⟩, flow := .nextBundle }) := by
  change finish s (if s.prBit qp then _ else _) = _
  rw [if_pos hq]
  unfold State.checkTarget check
  cases s.badTarget r1 <;> rfl

theorem traps_movl (hq : s.prBit qp = true) (hn : NoTarget s r1) (imm : BitVec 64) :
    Traps (.movlX2 qp r1 imm) s illegalOperation :=
  traps_of_check (badTarget_of_noTarget hn) (exec_movl hq imm)

/-- `movl` is an L+X instruction: the next bundle follows (R830, R252). -/
theorem movl_completes (hr : ReadyGr s qp r1) (imm : BitVec 64) :
    ∃ t, exec (.movlX2 qp r1 imm) s = .next t ∧ t.place = (s.ip + 16, 0) ∧ t.gr r1 = ⟨imm, false⟩ ∧
      SameGrBut r1 s t ∧ SameMemory s t ∧ t.settled = (s.setGr r1 ⟨imm, false⟩).settled := by
  obtain ⟨hq, hss, hb⟩ := hr
  have hexec := exec_movl (r1 := r1) hq imm
  rw [State.checkTarget, hb, check_false_bind] at hexec
  obtain ⟨hset, hplace⟩ := retire_nextBundle (s.setGr r1 ⟨imm, false⟩) (by rw [State.psrBit, State.setGr_psr]; exact hss)
  refine ⟨_, hexec, ?_, ?_, fun r hne => ?_, fun a => ?_, hset⟩
  · rw [hplace, State.setGr_ip]
  · rw [gr_of_settled hset, setGr_gr _ _ _ hb]
  · rw [gr_of_settled hset, setGr_gr_other _ _ _ _ hne]
  · rw [State.byteAt, mem_of_settled hset, State.setGr_mem]; rfl

end

/-! #### Each form writes its value (R761 to R774, R800 to R812, R890, R891) -/

section
variable (s : State) (qp : BitVec 6) (r1 r2 r3 : BitVec 7)

theorem exec_binaryForms : ∀ f ∈ aluForms ++ leftShiftForms, exec (f.1 qp r1 r2 r3) s =
    writeGr qp r1 ⟨f.2 (s.gr r2).val (s.gr r3).val, (s.gr r2).nat || (s.gr r3).nat⟩ s := by
  simp only [aluForms, leftShiftForms, List.cons_append, List.nil_append, List.forall_mem_cons, List.not_mem_nil,
    false_imp_iff, implies_true, and_true]
  and_intros
  all_goals rfl

theorem exec_aluImmForms (imm : BitVec 8) : ∀ f ∈ aluImmForms, exec (f.1 qp r1 r3 imm) s =
    writeGr qp r1 ⟨f.2 (imm.signExtend 64) (s.gr r3).val, (s.gr r3).nat⟩ s := by
  simp only [aluImmForms, List.forall_mem_cons, List.not_mem_nil, false_imp_iff, implies_true, and_true]
  and_intros
  all_goals rfl

theorem exec_rightShiftForms : ∀ f ∈ rightShiftForms, exec (f.1 qp r1 r2 r3) s =
    writeGr qp r1 ⟨f.2 (s.gr r3).val (s.gr r2).val, (s.gr r3).nat || (s.gr r2).nat⟩ s := by
  simp only [rightShiftForms, List.forall_mem_cons, List.not_mem_nil, false_imp_iff, implies_true, and_true]
  and_intros
  all_goals rfl

theorem exec_unaryForms : ∀ f ∈ unaryForms, exec (f.1 qp r1 r3) s =
    writeGr qp r1 ⟨f.2 (s.gr r3).val, (s.gr r3).nat⟩ s := by
  simp only [unaryForms, List.forall_mem_cons, List.not_mem_nil, false_imp_iff, implies_true, and_true]
  and_intros
  all_goals rfl

theorem exec_rightCountForms (c : BitVec 5) : ∀ f ∈ rightCountForms, exec (f.1 qp r1 r3 c) s =
    writeGr qp r1 ⟨f.2 (s.gr r3).val c.toNat, (s.gr r3).nat⟩ s := by
  simp only [rightCountForms, List.forall_mem_cons, List.not_mem_nil, false_imp_iff, implies_true, and_true]
  and_intros
  all_goals rfl

theorem exec_leftCountForms (c : BitVec 5) : ∀ f ∈ leftCountForms, exec (f.1 qp r1 r2 c) s =
    writeGr qp r1 ⟨f.2 (s.gr r2).val (31 - c.toNat), (s.gr r2).nat⟩ s := by
  simp only [leftCountForms, List.forall_mem_cons, List.not_mem_nil, false_imp_iff, implies_true, and_true]
  and_intros
  all_goals rfl

end

/-- Settles O1: each form is `writeGr` of its value, `movl` the same with the next bundle after it. -/
theorem integerAluWritesResult : Obligations.IntegerAluWritesResult := by
  intro s qp r1 r2 r3 hr
  have writes {i : Instr} {v : Gr} (hi : exec i s = writeGr qp r1 v s) : WritesGr i s r1 v := writesGr_of_writeGr hr hi
  refine ⟨fun f hf => writes (exec_binaryForms s qp r1 r2 r3 f (List.mem_append_left _ hf)), fun n => writes rfl,
    fun n => writes rfl, fun f hf imm => writes (exec_aluImmForms s qp r1 r3 imm f hf), fun imm => ⟨writes rfl, writes rfl⟩,
    fun b imm => writes rfl, movl_completes hr⟩

/-- Settles O2: a register is no target exactly where `badTarget` says so, and each form is `writeGr` of its value. -/
theorem shiftsAndFieldsWriteResult : Obligations.ShiftsAndFieldsWriteResult := by
  refine ⟨fun s r => badTarget_eq_true_iff, fun s qp r1 r2 r3 n b i1 i8 i14 i22 i64 c len pos len4 hq hn => ?_,
    fun s qp r1 r2 r3 hr => ?_⟩
  · have traps {i : Instr} {v : Gr} (hi : exec i s = writeGr qp r1 v s) : Traps i s illegalOperation :=
      traps_of_writeGr hq (badTarget_of_noTarget hn) hi
    refine ⟨fun f hf => ?_, fun f hf => traps (exec_aluImmForms s qp r1 r3 i8 f hf),
      fun f hf => traps (exec_unaryForms s qp r1 r3 f hf), fun f hf => ?_, ?_⟩
    · rcases List.mem_append.mp hf with hf | hf
      · exact traps (exec_binaryForms s qp r1 r2 r3 f hf)
      · exact traps (exec_rightShiftForms s qp r1 r2 r3 f hf)
    · rcases List.mem_append.mp hf with hf | hf
      · exact traps (exec_rightCountForms s qp r1 r3 c f hf)
      · exact traps (exec_leftCountForms s qp r1 r3 c f hf)
    · simp only [List.forall_mem_cons, List.not_mem_nil, false_imp_iff, implies_true, and_true]
      exact ⟨traps rfl, traps rfl, traps rfl, traps rfl, traps rfl, traps_movl hq hn i64, traps rfl, traps rfl, traps rfl,
        traps rfl, traps rfl, traps rfl, traps rfl, traps rfl, traps rfl⟩
  · have writes {i : Instr} {v : Gr} (hi : exec i s = writeGr qp r1 v s) : WritesGr i s r1 v := writesGr_of_writeGr hr hi
    refine ⟨fun f hf => writes (exec_binaryForms s qp r1 r2 r3 f (List.mem_append_right _ hf)),
      fun f hf => writes (exec_rightShiftForms s qp r1 r2 r3 f hf), fun f hf => writes (exec_unaryForms s qp r1 r3 f hf),
      fun f hf c => writes (exec_rightCountForms s qp r1 r3 c f hf),
      fun f hf c => writes (exec_leftCountForms s qp r1 r2 c f hf), fun n => writes rfl,
      fun len pos => ⟨writes rfl, writes rfl⟩, fun len cpos => ⟨writes rfl, fun imm => writes rfl, fun imm => writes rfl,
      fun len4 => writes rfl⟩, writes rfl, writes rfl⟩

end Sys2Proof.Machine
end

section
/-! ### Bit tests, and unconditional compares whose predicate is 0 -/
namespace Sys2Proof.Machine

/-! #### Each form of I16, I17 and I30 is a compare of its bit (R794 to R796) -/

section
variable (s : State) (qp p1 p2 : BitVec 6)

theorem exec_tbitForms (r3 : BitVec 7) (pos : BitVec 6) : ∀ f ∈ tbitForms, exec (f.1 qp p1 p2 r3 pos) s =
    compare f.2.1 qp p1 p2 ((s.gr r3).val.getLsbD pos.toNat != f.2.2) (s.gr r3).nat s := by
  simp only [tbitForms, List.forall_mem_cons, List.not_mem_nil, false_imp_iff, implies_true, and_true, Bool.bne_true,
    Bool.bne_false]
  and_intros
  all_goals rfl

theorem exec_tnatForms (r3 : BitVec 7) : ∀ f ∈ tnatForms, exec (f.1 qp p1 p2 r3) s =
    compare f.2.1 qp p1 p2 ((s.gr r3).nat != f.2.2) false s := by
  simp only [tnatForms, List.forall_mem_cons, List.not_mem_nil, false_imp_iff, implies_true, and_true, Bool.bne_true,
    Bool.bne_false]
  and_intros
  all_goals rfl

theorem exec_tfForms (imm : BitVec 5) : ∀ f ∈ tfForms, exec (f.1 qp p1 p2 imm) s =
    compare f.2.1 qp p1 p2 ((Config.cpuid 4).getLsbD (32 + imm.toNat) != f.2.2) false s := by
  simp only [tfForms, List.forall_mem_cons, List.not_mem_nil, false_imp_iff, implies_true, and_true, Bool.bne_true,
    Bool.bne_false]
  and_intros
  all_goals rfl

end

/-- Settles O6: each form is `compare` of its bit, and `compare` writes what R790 says. -/
theorem bitTestsWritePredicates : Obligations.BitTestsWritePredicates := by
  refine ⟨fun s qp p r3 hq => ⟨?_, ?_, ?_⟩, fun s qp p1 p2 r3 hq hss hne => ⟨?_, ?_, ?_⟩⟩
  · exact fun f hf pos => traps_of_compare hq (exec_tbitForms s qp p p r3 pos f hf)
  · exact fun f hf => traps_of_compare hq (exec_tnatForms s qp p p r3 f hf)
  · exact fun f hf imm => traps_of_compare hq (exec_tfForms s qp p p imm f hf)
  · exact fun f hf pos => compares_of_exec hq hss hne (exec_tbitForms s qp p1 p2 r3 pos f hf)
  · exact fun f hf => compares_of_exec hq hss hne (exec_tnatForms s qp p1 p2 r3 f hf)
  · exact fun f hf imm => compares_of_exec hq hss hne (exec_tfForms s qp p1 p2 imm f hf)

/-! #### Unconditional compares (R790, R938, R939) -/

section
variable {i : Instr} {s : State} {qp p1 p2 : BitVec 6}

/-- The meaning that clears two predicates, which must differ. -/
def clearPreds (p1 p2 : BitVec 6) (s : State) : Host.Outcome State Fault Refusal :=
  finish s (check (p1 == p2) illegalOperation >>= fun _ => done (s.setPrs p1 p2 false false))

theorem compare_unc_off {rel nat : Bool} (hq : s.prBit qp = false) :
    compare .unc qp p1 p2 rel nat s = clearPreds p1 p2 s := by
  simp only [compare, hq, Bool.false_eq_true, if_false, if_true, clearPreds]

theorem compareFr_unc_off {r : FpRel} {f2 f3 : BitVec 7} {sf : BitVec 2} (hq : s.prBit qp = false) :
    compareFr r true qp p1 p2 f2 f3 sf s = clearPreds p1 p2 s := by
  simp only [compareFr, hq, Bool.false_eq_true, if_false, if_true, clearPreds]

theorem classify_unc_off {f2 : BitVec 7} {m : BitVec 9} (hq : s.prBit qp = false) :
    classify true qp p1 p2 f2 m s = clearPreds p1 p2 s := by
  simp only [classify, hq, Bool.false_eq_true, if_false, if_true, clearPreds]

/-- `i` clears its two predicates, or is an Illegal Operation where they are one. -/
theorem clears_of_exec (hss : s.psrBit Psr.ss = false) (hi : exec i s = clearPreds p1 p2 s) :
    (p1 ≠ p2 → WritesPrs i s p1 p2 false false) ∧ (p1 = p2 → Traps i s illegalOperation) := by
  refine ⟨fun hne => writesPrs_of_exec hss hne ?_, fun heq => traps_of_check (beq_iff_eq.mpr heq) hi⟩
  rw [hi, clearPreds, beq_eq_false_iff_ne.mpr hne]
  rfl

end

/-- Settles O7: each form is `clearPreds` where PR[qp] is 0. -/
theorem unconditionalComparesClear : Obligations.UnconditionalComparesClear := by
  intro s qp p1 p2 r2 r3 imm pos i5 sf cl hq hss
  have clears {i : Instr} {rel nat : Bool} (hi : exec i s = compare .unc qp p1 p2 rel nat s) :=
    clears_of_exec hss (hi.trans (compare_unc_off hq))
  have clearsFr {i : Instr} {r : FpRel} (hi : exec i s = compareFr r true qp p1 p2 r2 r3 sf s) :=
    clears_of_exec hss (hi.trans (compareFr_unc_off hq))
  simp only [List.forall_mem_cons, List.not_mem_nil, false_imp_iff, implies_true, and_true]
  exact ⟨clears rfl, clears rfl, clears rfl, clears rfl, clears rfl, clears rfl, clears rfl, clears rfl, clears rfl,
    clears rfl, clears rfl, clears rfl, clears rfl, clears rfl, clears rfl, clearsFr rfl, clearsFr rfl, clearsFr rfl,
    clearsFr rfl, clears_of_exec hss (classify_unc_off hq)⟩

end Sys2Proof.Machine
end

section
/-! ### Moves from and to branch registers, predicates, and IP -/
namespace Sys2Proof.Machine

section
variable {i : Instr} {s u : State} {qp : BitVec 6} {b : BitVec 3} {r : BitVec 7}

/-! #### The bits of the predicates written (R822, R823) -/

theorem getLsbD_setPredicates (s : State) (v mask : Word) {k : Nat} (hk : k < 64) :
    (s.setPredicates v mask).pr.getLsbD k = if mask.getLsbD k then v.getLsbD k else s.pr.getLsbD k := by
  simp only [State.setPredicates, BitVec.getLsbD_or, BitVec.getLsbD_and, BitVec.getLsbD_not, hk, decide_true,
    Bool.true_and]
  cases mask.getLsbD k <;> simp

/-- The mask has a bit for each of PR1 to PR15, and its top bit for every rotating predicate (R823). -/
theorem getLsbD_predMask (mask : BitVec 16) {k : Nat} (hk : k < 64) :
    (predMask mask).getLsbD k = (decide (1 ≤ k) && mask.getLsbD (min k 16 - 1)) := by
  rw [predMask, BitVec.getLsbD_signExtend, BitVec.msb_eq_getLsbD_last, BitVec.getLsbD_append, BitVec.getLsbD_append]
  by_cases h0 : k = 0
  · subst h0; rfl
  · by_cases hlow : k < 17
    · have h1 : 1 ≤ k := by omega
      have hmin : min k 16 = k := by omega
      have hk1 : ¬ k < 1 := by omega
      simp [hk, hlow, h1, hmin, hk1]
    · have h1 : 1 ≤ k := by omega
      have hmin : min k 16 = 16 := by omega
      simp [hk, hlow, h1, hmin]

/-- The immediate of `mov pr.rot` is for the rotating predicates alone (R822). -/
theorem getLsbD_rotImm (imm : BitVec 28) {k : Nat} (hk : k < 64) : (rotImm imm).getLsbD k =
    if k < 16 then false else if k < 44 then imm.getLsbD (k - 16) else imm.getLsbD 27 := by
  rw [rotImm, BitVec.getLsbD_signExtend, BitVec.msb_eq_getLsbD_last, BitVec.getLsbD_append, BitVec.getLsbD_append]
  by_cases h16 : k < 16
  · have h44 : k < 44 := by omega
    simp [hk, h16, h44]
  · by_cases h44 : k < 44
    · simp [hk, h16, h44]
    · simp [hk, h16, h44]

theorem getLsbD_rotating {k : Nat} (hk : k < 64) : (~~~(0xFFFF : Word)).getLsbD k = decide (16 ≤ k) := by
  have hlow : (0xFFFF : Word) = (BitVec.allOnes 16).zeroExtend 64 := by decide
  rw [BitVec.getLsbD_not, hlow, BitVec.getLsbD_setWidth, BitVec.getLsbD_allOnes]
  by_cases h : k < 16
  · simp [hk, h]
  · simp [hk, h]; omega

/-! #### A NaT source: the fault, and nothing written (R820, R823) -/

/-- An instruction that looks at the NaT bit of its source and then only changes the state. -/
theorem completes_of_natCheck (hq : s.prBit qp = true) (hss : s.psrBit Psr.ss = false) (hpsr : u.psr = s.psr)
    (hip : u.ip = s.ip) (hn : (s.gr r).nat = false)
    (hi : exec i s = predicated qp s (check (s.gr r).nat (natConsumption {}) >>= fun _ => done u)) : Completes i s u := by
  rw [hn, check_false_bind] at hi
  exact completes_of_predicated hq hss hpsr hip hi

theorem traps_of_natCheck {f : Unit → Body} (hq : s.prBit qp = true) (hn : (s.gr r).nat = true)
    (hi : exec i s = predicated qp s (check (s.gr r).nat (natConsumption {}) >>= f)) : Traps i s (natConsumption {}) := by
  rw [hn, check_true_bind] at hi
  exact traps_of_exec hq hi

theorem moveToBr_ends (hq : s.prBit qp = true) (hss : s.psrBit Psr.ss = false) (hi : exec i s = moveToBr qp b r s) :
    ((s.gr r).nat = false → Completes i s { s with br := s.br.set b.toFin (s.gr r).val }) ∧
      ((s.gr r).nat = true → Traps i s (natConsumption {})) :=
  ⟨fun hn => completes_of_natCheck hq hss rfl rfl hn hi, fun hn => traps_of_natCheck hq hn hi⟩

end

/-- Settles O33: the moves to predicates are `State.setPredicates`, whose mask says bit by bit what is written. -/
theorem branchAndPredicateMoves : Obligations.BranchAndPredicateMoves := by
  intro s qp b r tim ih wh p v mask imm hq hss
  simp only [List.forall_mem_cons, List.not_mem_nil, false_imp_iff, implies_true, and_true]
  refine ⟨⟨moveToBr_ends hq hss rfl, moveToBr_ends hq hss rfl⟩, fun hb => ?_, fun hn => traps_of_natCheck hq hn rfl,
    fun hn => ⟨(s.setPredicates (s.gr r).val (predMask mask)).pr, completes_of_natCheck hq hss rfl rfl hn rfl,
      fun k hk => ?_⟩, (s.setPredicates (rotImm imm) (~~~(0xFFFF : Word))).pr, completes_of_predicated hq hss rfl rfl rfl,
    fun k hk => ?_⟩
  · have writes {i : Instr} {x : Gr} (hi : exec i s = writeGr qp r x s) : WritesGr i s r x :=
      writesGr_of_writeGr ⟨hq, hss, hb⟩ hi
    exact ⟨writes rfl, writes rfl, writes rfl⟩
  · refine (getLsbD_setPredicates s (s.gr r).val (predMask mask) hk).trans ?_
    simp only [getLsbD_predMask mask hk, Bool.and_eq_true, decide_eq_true_eq]
  · refine (getLsbD_setPredicates s (rotImm imm) (~~~(0xFFFF : Word)) hk).trans ?_
    rw [getLsbD_rotating hk, getLsbD_rotImm imm hk]
    by_cases h16 : k < 16
    · rw [decide_eq_false (by omega), if_neg Bool.false_ne_true, if_pos h16]
    · rw [decide_eq_true (by omega), if_pos rfl, if_neg h16, if_neg h16]

end Sys2Proof.Machine
end

section
/-! ### The bits of shifts, fields and counts -/
namespace Sys2Proof.Machine

/-! #### Shifts of a whole register (R800 to R802) -/

section
variable (a b c : Word) {k n pos len : Nat}

theorem getLsbD_shiftLeft (hk : k < 64) :
    (shiftLeft a c).getLsbD k = (decide (c.toNat ≤ k) && a.getLsbD (k - c.toNat)) := by
  unfold shiftLeft
  by_cases hc : 63 < c.toNat
  · have hout : ¬ c.toNat ≤ k := by omega
    simp [hc, hout]
  · rw [if_neg hc, BitVec.getLsbD_shiftLeft, decide_eq_true hk, Bool.true_and]
    simp only [← decide_not, Nat.not_lt]

theorem getLsbD_shiftRightUnsigned : (shiftRightUnsigned a c).getLsbD k = a.getLsbD (k + c.toNat) := by
  unfold shiftRightUnsigned
  by_cases hc : 63 < c.toNat
  · rw [if_pos hc, BitVec.getLsbD_of_ge a _ (by omega)]
    exact BitVec.getLsbD_zero
  · rw [if_neg hc, BitVec.getLsbD_ushiftRight, Nat.add_comm]

/-- A register shifted right with its sign (R801): the sign bit from where the register ends. -/
theorem getLsbD_sshiftRight_word (hk : k < 64) (m : Nat) :
    (a.sshiftRight m).getLsbD k = if k + m < 64 then a.getLsbD (k + m) else a.getLsbD 63 := by
  rw [BitVec.getLsbD_sshiftRight, decide_eq_false (by omega : ¬ 64 ≤ k), Bool.not_false, Bool.true_and,
    BitVec.msb_eq_getLsbD_last, Nat.add_comm m k]

theorem getLsbD_shiftRightSigned (hk : k < 64) : (shiftRightSigned a c).getLsbD k =
    if k + c.toNat < 64 then a.getLsbD (k + c.toNat) else a.getLsbD 63 := by
  rw [shiftRightSigned, getLsbD_sshiftRight_word a hk]
  by_cases hc : c.toNat ≤ 63
  · rw [Nat.min_eq_left hc]
  · rw [Nat.min_eq_right (by omega), if_neg (by omega : ¬ k + c.toNat < 64)]
    split
    · next h => rw [show k = 0 by omega]
    · rfl

theorem getLsbD_shiftPair (hk : k < 64) : (shiftPair n a b).getLsbD k =
    if k + n < 64 then b.getLsbD (k + n) else a.getLsbD (k + n - 64) := by
  rw [shiftPair, getLsbD_fld, BitVec.getLsbD_ushiftRight, BitVec.getLsbD_append, decide_eq_true hk, Bool.true_and,
    show n + (0 + k) = k + n by omega]

/-! #### Extracts, deposits, extensions, pointers (R765, R803, R804, R806, R807) -/

theorem clipLen_le (hpos : pos < 64) (hlen : 0 < len) :
    0 < clipLen pos len ∧ clipLen pos len ≤ len ∧ pos + clipLen pos len ≤ 64 := by
  unfold clipLen; omega

/-- A field moved up to the top of the register. -/
theorem getLsbD_fieldAtTop (hk : k < 64) :
    ((a >>> pos) <<< (64 - n)).getLsbD k = (decide (64 - n ≤ k) && a.getLsbD (pos + (k - (64 - n)))) := by
  rw [BitVec.getLsbD_shiftLeft, BitVec.getLsbD_ushiftRight, decide_eq_true hk, Bool.true_and]
  simp only [← decide_not, Nat.not_lt]

theorem getLsbD_extractUnsigned (hpos : pos < 64) (hlen : 0 < len) :
    (extractUnsigned pos len a).getLsbD k = (decide (k < len) && a.getLsbD (pos + k)) := by
  obtain ⟨hn0, hnlen, hnpos⟩ := clipLen_le hpos hlen
  unfold extractUnsigned
  dsimp only
  rw [BitVec.getLsbD_ushiftRight]
  by_cases hin : k < clipLen pos len
  · rw [getLsbD_fieldAtTop a (by omega), decide_eq_true (by omega), decide_eq_true (by omega),
      show pos + (64 - clipLen pos len + k - (64 - clipLen pos len)) = pos + k by omega]
  · rw [BitVec.getLsbD_of_ge _ _ (by omega)]
    by_cases hlow : k < len
    · rw [BitVec.getLsbD_of_ge a _ (by unfold clipLen at hin; omega), Bool.and_false]
    · rw [decide_eq_false hlow, Bool.false_and]

theorem getLsbD_extractSigned (hk : k < 64) (hpos : pos < 64) (hlen : 0 < len) : (extractSigned pos len a).getLsbD k =
    if k < min len (64 - pos) then a.getLsbD (pos + k) else a.getLsbD (pos + min len (64 - pos) - 1) := by
  obtain ⟨hn0, hnlen, hnpos⟩ := clipLen_le hpos hlen
  unfold extractSigned
  dsimp only
  rw [show min len (64 - pos) = clipLen pos len from rfl, getLsbD_sshiftRight_word _ hk]
  by_cases hin : k < clipLen pos len
  · rw [if_pos (by omega), if_pos hin, getLsbD_fieldAtTop a (by omega), decide_eq_true (by omega), Bool.true_and,
      show pos + (k + (64 - clipLen pos len) - (64 - clipLen pos len)) = pos + k by omega]
  · rw [if_neg (by omega), if_neg hin, getLsbD_fieldAtTop a (by omega), decide_eq_true (by omega), Bool.true_and,
      show pos + (63 - (64 - clipLen pos len)) = pos + clipLen pos len - 1 by omega]

theorem getLsbD_depositMask (hk : k < 64) (hpos : pos < 64) (hlen : 0 < len) :
    (depositMask pos len).getLsbD k = decide (pos ≤ k ∧ k < pos + len) := by
  obtain ⟨hn0, hnlen, hnpos⟩ := clipLen_le hpos hlen
  rw [depositMask, BitVec.getLsbD_shiftLeft, BitVec.getLsbD_ushiftRight, BitVec.getLsbD_allOnes, decide_eq_true hk,
    Bool.true_and, ← decide_not, ← Bool.decide_and]
  exact decide_eq_decide.mpr (by unfold clipLen at *; omega)

theorem getLsbD_deposit (hk : k < 64) (hpos : pos < 64) (hlen : 0 < len) : (deposit pos len a b).getLsbD k =
    if pos ≤ k ∧ k < pos + len then a.getLsbD (k - pos) else b.getLsbD k := by
  rw [deposit, BitVec.getLsbD_or, BitVec.getLsbD_and, BitVec.getLsbD_and, BitVec.getLsbD_not, BitVec.getLsbD_shiftLeft,
    getLsbD_depositMask hk hpos hlen, decide_eq_true hk, Bool.true_and, Bool.true_and]
  by_cases hin : pos ≤ k ∧ k < pos + len
  · rw [if_pos hin, decide_eq_true hin, decide_eq_false (by omega : ¬ k < pos)]
    simp
  · rw [if_neg hin, decide_eq_false hin]
    simp

theorem getLsbD_zeroExt (hk : k < 64) : (zeroExt n a).getLsbD k = (decide (k < n) && a.getLsbD k) := by
  rw [zeroExt, BitVec.getLsbD_setWidth, BitVec.getLsbD_setWidth, decide_eq_true hk, Bool.true_and]

theorem getLsbD_signExt (hk : k < 64) (hn : 0 < n) :
    (signExt n a).getLsbD k = if k < n then a.getLsbD k else a.getLsbD (n - 1) := by
  rw [signExt, BitVec.getLsbD_signExtend, decide_eq_true hk, Bool.true_and, BitVec.msb_eq_getLsbD_last,
    BitVec.getLsbD_setWidth, BitVec.getLsbD_setWidth, decide_eq_true (by omega : n - 1 < n), Bool.true_and]
  split
  · next h => rw [decide_eq_true h, Bool.true_and]
  · rfl

theorem getLsbD_pointer32 (hk : k < 64) : (pointer32 a b).getLsbD k =
    if k < 32 then a.getLsbD k else if k = 61 then b.getLsbD 30 else if k = 62 then b.getLsbD 31 else false := by
  rw [pointer32, BitVec.getLsbD_append, BitVec.getLsbD_append, BitVec.getLsbD_append, getLsbD_fld, getLsbD_fld]
  by_cases h32 : k < 32
  · simp [h32]
  · rw [if_neg h32, if_neg h32]
    by_cases h61 : k < 61
    · rw [if_pos (by omega), if_neg (by omega), if_neg (by omega)]
      exact BitVec.getLsbD_zero
    · rw [if_neg (by omega)]
      obtain rfl | rfl | rfl : k = 61 ∨ k = 62 ∨ k = 63 := by omega
      · rfl
      · rfl
      · rfl

end

/-! #### Searches and counts (R808 to R810) -/

/-- Where a search of the first `n` numbers ends: at the first that is found, or at `n`. -/
theorem findIdx_range_spec (p : Nat → Bool) (n : Nat) :
    (List.range n).findIdx p ≤ n ∧ ((List.range n).findIdx p < n → p ((List.range n).findIdx p) = true) ∧
      ∀ j < (List.range n).findIdx p, p j = false := by
  have hle : (List.range n).findIdx p ≤ n := by simpa using List.findIdx_le_length (xs := List.range n) (p := p)
  refine ⟨hle, fun hlt => ?_, fun j hj => ?_⟩
  · have hfound := List.findIdx_getElem (xs := List.range n) (p := p) (w := by simpa using hlt)
    simpa using hfound
  · have hbefore := List.not_of_lt_findIdx hj
    simpa using hbefore

/-- The numbers that a search can end at are values of a register. -/
theorem toNat_findIdx_range (p : Nat → Bool) {n : Nat} (hn : n ≤ 64) :
    (BitVec.ofNat 64 ((List.range n).findIdx p)).toNat = (List.range n).findIdx p := by
  have hle := (findIdx_range_spec p n).1
  rw [BitVec.toNat_ofNat, Nat.mod_eq_of_lt (by omega)]

section
variable (a b : Word)

theorem zeroIndexRight_spec (size : Nat) :
    let r := (zeroIndexRight size a).toNat
    r ≤ 64 / size ∧ (r < 64 / size → fld a (size * r) size = (0 : BitVec size)) ∧
      ∀ j < r, fld a (size * j) size ≠ (0 : BitVec size) := by
  obtain ⟨hle, hat, hbefore⟩ := findIdx_range_spec (fun k => fld a (size * k) size == 0) (64 / size)
  dsimp only
  rw [zeroIndexRight, toNat_findIdx_range _ (Nat.div_le_self 64 size)]
  exact ⟨hle, fun h => beq_iff_eq.mp (hat h), fun j hj => beq_eq_false_iff_ne.mp (hbefore j hj)⟩

theorem zeroIndexLeft_spec (size : Nat) :
    let l := (zeroIndexLeft size a).toNat
    l ≤ 64 / size ∧ (l < 64 / size → fld a (64 - size * (l + 1)) size = (0 : BitVec size)) ∧
      ∀ j < l, fld a (64 - size * (j + 1)) size ≠ (0 : BitVec size) := by
  obtain ⟨hle, hat, hbefore⟩ := findIdx_range_spec (fun k => fld a (64 - size * (k + 1)) size == 0) (64 / size)
  dsimp only
  rw [zeroIndexLeft, toNat_findIdx_range _ (Nat.div_le_self 64 size)]
  exact ⟨hle, fun h => beq_iff_eq.mp (hat h), fun j hj => beq_eq_false_iff_ne.mp (hbefore j hj)⟩

theorem countP_range_eq_sum (p : Nat → Bool) (n : Nat) :
    (List.range n).countP p = ∑ k ∈ Finset.range n, (p k).toNat := by
  induction n with
  | zero => rfl
  | succ n ih =>
    rw [List.range_succ, List.countP_append, ih, Finset.sum_range_succ, List.countP_singleton]
    cases p n <;> rfl

theorem popCount_toNat : (popCount a).toNat = ∑ k ∈ Finset.range 64, (a.getLsbD k).toNat := by
  have hle : (List.range 64).countP (fun k => bit a k) ≤ 64 := by
    simpa using List.countP_le_length (p := fun k => bit a k) (l := List.range 64)
  rw [popCount, BitVec.toNat_ofNat, Nat.mod_eq_of_lt (by omega)]
  exact countP_range_eq_sum (fun k => bit a k) 64

theorem leadingZeros_spec :
    let z := (leadingZeros a).toNat
    z ≤ 64 ∧ (∀ k, 64 - z ≤ k → k < 64 → a.getLsbD k = false) ∧ (z < 64 → a.getLsbD (63 - z) = true) := by
  obtain ⟨hle, hat, hbefore⟩ := findIdx_range_spec (fun k => bit a (63 - k)) 64
  dsimp only
  rw [leadingZeros, toNat_findIdx_range _ le_rfl]
  refine ⟨hle, fun k h1 h2 => ?_, hat⟩
  have hzero := hbefore (63 - k) (by omega)
  rwa [show 63 - (63 - k) = k by omega] at hzero

/-! #### Products (R811, R812) -/

theorem zeroExt_toNat (n : Nat) (hn : n ≤ 64) : (zeroExt n a).toNat = a.toNat % 2 ^ n := by
  have hpow : 2 ^ n ≤ 2 ^ 64 := Nat.pow_le_pow_right (by decide) hn
  have hlt : a.toNat % 2 ^ n < 2 ^ n := Nat.mod_lt _ (Nat.two_pow_pos n)
  rw [zeroExt, BitVec.toNat_setWidth, BitVec.toNat_setWidth, Nat.mod_eq_of_lt (by omega)]

/-- A product of two numbers of 32 bits has 64 bits. -/
theorem mul_lt_of_32 {x y : Nat} (hx : x < 2 ^ 32) (hy : y < 2 ^ 32) : x * y < 2 ^ 64 :=
  calc x * y < 2 ^ 32 * 2 ^ 32 := Nat.mul_lt_mul'' hx hy
    _ = 2 ^ 64 := by decide

theorem multiply4_toNat : (multiply4 a b).toNat = (a.toNat % 2 ^ 32) * (b.toNat % 2 ^ 32) := by
  rw [multiply4, BitVec.toNat_mul, zeroExt_toNat _ _ (by decide), zeroExt_toNat _ _ (by decide), Nat.mod_eq_of_lt]
  exact mul_lt_of_32 (Nat.mod_lt _ (by decide)) (Nat.mod_lt _ (by decide))

theorem multiplyShift4_toNat :
    (multiplyShift4 a b).toNat = (a.toNat / 2 ^ 32) * (b.toNat % 2 ^ 32) % 2 ^ 32 * 2 ^ 32 := by
  have ha : a.toNat / 2 ^ 32 < 2 ^ 32 := by omega
  have hb : b.toNat % 2 ^ 32 < 2 ^ 32 := Nat.mod_lt _ (by decide)
  have hprod : ((a >>> 32) * zeroExt 32 b).toNat = (a.toNat / 2 ^ 32) * (b.toNat % 2 ^ 32) := by
    rw [BitVec.toNat_mul, BitVec.toNat_ushiftRight, zeroExt_toNat _ _ (by decide), Nat.shiftRight_eq_div_pow,
      Nat.mod_eq_of_lt (mul_lt_of_32 ha hb)]
  rw [multiplyShift4, BitVec.toNat_shiftLeft, hprod, Nat.shiftLeft_eq]
  omega

/-! #### Parallel shifts (R890, R891) -/

theorem halfOf_ofHalves (f : Nat → BitVec 16) {i : Nat} (hi : i < 4) : halfOf (ofHalves f) i = f i := by
  apply BitVec.eq_of_getLsbD_eq
  intro k hk
  rw [halfOf, getLsbD_fld, ofHalves, joinHalves, BitVec.getLsbD_append, BitVec.getLsbD_append, BitVec.getLsbD_append,
    decide_eq_true hk, Bool.true_and]
  obtain rfl | rfl | rfl | rfl : i = 0 ∨ i = 1 ∨ i = 2 ∨ i = 3 := by omega
  · rw [if_pos (by omega)]; congr 1; omega
  · rw [if_neg (by omega), if_pos (by omega)]; congr 1; omega
  · rw [if_neg (by omega), if_neg (by omega), if_pos (by omega)]; congr 1; omega
  · rw [if_neg (by omega), if_neg (by omega), if_neg (by omega)]; congr 1; omega

theorem wordOf_ofWords (f : Nat → BitVec 32) {i : Nat} (hi : i < 2) : wordOf (ofWords f) i = f i := by
  apply BitVec.eq_of_getLsbD_eq
  intro k hk
  rw [wordOf, getLsbD_fld, ofWords, joinWords, BitVec.getLsbD_append, decide_eq_true hk, Bool.true_and]
  obtain rfl | rfl : i = 0 ∨ i = 1 := by omega
  · rw [if_pos (by omega)]; congr 1; omega
  · rw [if_neg (by omega)]; congr 1; omega

end

section
variable {w : Nat} (x : BitVec w) (c : Nat) {k : Nat}

/-- An element shifted left: nothing of it is left by a count that exceeds its width. -/
theorem getLsbD_elementShiftLeft (hk : k < w) :
    (if w - 1 < c then 0 else x <<< c).getLsbD k = (decide (c ≤ k) && x.getLsbD (k - c)) := by
  by_cases hc : w - 1 < c
  · rw [if_pos hc, decide_eq_false (by omega), Bool.false_and]
    exact BitVec.getLsbD_zero
  · rw [if_neg hc, BitVec.getLsbD_shiftLeft, decide_eq_true hk, Bool.true_and]
    simp only [← decide_not, Nat.not_lt]

theorem getLsbD_elementShiftRight : (if w - 1 < c then 0 else x >>> c).getLsbD k = x.getLsbD (k + c) := by
  by_cases hc : w - 1 < c
  · rw [if_pos hc, BitVec.getLsbD_of_ge x _ (by omega)]
    exact BitVec.getLsbD_zero
  · rw [if_neg hc, BitVec.getLsbD_ushiftRight, Nat.add_comm]

/-- An element shifted right with its sign: its top bit from where it ends. -/
theorem getLsbD_elementShiftSigned (hk : k < w) :
    (x.sshiftRight (min c (w - 1))).getLsbD k = x.getLsbD (min (k + c) (w - 1)) := by
  rw [BitVec.getLsbD_sshiftRight, decide_eq_false (by omega : ¬ w ≤ k), Bool.not_false, Bool.true_and,
    BitVec.msb_eq_getLsbD_last]
  by_cases h : min c (w - 1) + k < w
  · rw [if_pos h]; congr 1; omega
  · rw [if_neg h]; congr 1; omega

end

section
variable (a : Word) (c : Nat) {i k : Nat}

theorem halfwise_shifts (hi : i < 4) (hk : k < 16) :
    (halfOf (pshl2 a c) i).getLsbD k = (decide (c ≤ k) && (halfOf a i).getLsbD (k - c)) ∧
      (halfOf (pshr2u a c) i).getLsbD k = (halfOf a i).getLsbD (k + c) ∧
      (halfOf (pshr2 a c) i).getLsbD k = (halfOf a i).getLsbD (min (k + c) 15) := by
  rw [pshl2, pshr2u, pshr2, halfOf_ofHalves _ hi, halfOf_ofHalves _ hi, halfOf_ofHalves _ hi]
  exact ⟨getLsbD_elementShiftLeft (halfOf a i) c hk, getLsbD_elementShiftRight (halfOf a i) c,
    getLsbD_elementShiftSigned (halfOf a i) c hk⟩

theorem wordwise_shifts (hi : i < 2) (hk : k < 32) :
    (wordOf (pshl4 a c) i).getLsbD k = (decide (c ≤ k) && (wordOf a i).getLsbD (k - c)) ∧
      (wordOf (pshr4u a c) i).getLsbD k = (wordOf a i).getLsbD (k + c) ∧
      (wordOf (pshr4 a c) i).getLsbD k = (wordOf a i).getLsbD (min (k + c) 31) := by
  rw [pshl4, pshr4u, pshr4, wordOf_ofWords _ hi, wordOf_ofWords _ hi, wordOf_ofWords _ hi]
  exact ⟨getLsbD_elementShiftLeft (wordOf a i) c hk, getLsbD_elementShiftRight (wordOf a i) c,
    getLsbD_elementShiftSigned (wordOf a i) c hk⟩

end

/-- Settles O3: every operation, bit by bit. -/
theorem shiftedAndDepositedBits : Obligations.ShiftedAndDepositedBits := by
  refine ⟨fun a c k hk => ?_, fun a pos len k hk hpos hlen => ?_, fun a b pos len k hk hpos hlen => ?_,
    fun a n k hk hn _ => ?_, fun t b k hk => getLsbD_pointer32 t b hk, fun a b n k _ hk => getLsbD_shiftPair a b hk,
    fun a size _ => ⟨zeroIndexRight_spec a size, zeroIndexLeft_spec a size⟩, popCount_toNat, leadingZeros_spec,
    fun a b => ⟨multiply4_toNat a b, multiplyShift4_toNat a b⟩, fun a c i k hi hk => halfwise_shifts a c hi hk,
    fun a c i k hi hk => wordwise_shifts a c hi hk⟩
  · exact ⟨getLsbD_shiftLeft a c hk, getLsbD_shiftRightUnsigned a c, getLsbD_shiftRightSigned a c hk⟩
  · exact ⟨getLsbD_extractUnsigned a hpos hlen, getLsbD_extractSigned a hk hpos hlen⟩
  · exact getLsbD_deposit a b hk hpos hlen
  · exact ⟨getLsbD_zeroExt a hk, getLsbD_signExt a hk hn⟩

end Sys2Proof.Machine
end

section
/-! ### Where the general registers of a frame are -/
namespace Sys2Proof.Machine

section
variable {s t : State} {c : Cfm} {r q : BitVec 7} {k v w : Nat}

/-! #### Static registers (R50, R51) -/

/-- Where a static register is, of the bank that PSR.bn names. -/
def staticHome (bn : Bool) (n : Nat) : GrLoc :=
  if n = 0 then .zero
  else if n < 16 then .static (Fin.ofNat 16 n)
  else if bn then .bank1 (Fin.ofNat 16 (n - 16)) else .bank0 (Fin.ofNat 16 (n - 16))

theorem grLoc_of_static (hr : r.toNat < 32) : s.grLoc r = staticHome (s.psrBit Psr.bn) r.toNat := by
  unfold State.grLoc staticHome
  dsimp only
  rw [if_pos hr]

theorem staticHome_inj {bn : Bool} (hv : v < 32) (hw : w < 32) (h : staticHome bn v = staticHome bn w) : v = w := by
  have hall : ∀ (b : Bool) (i j : Fin 32), staticHome b i = staticHome b j → i = j := by decide
  exact congrArg Fin.val (hall bn ⟨v, hv⟩ ⟨w, hw⟩ h)

theorem staticHome_cases (bn : Bool) (n : Nat) : staticHome bn n = .zero ∨ (∃ i, staticHome bn n = .static i) ∨
    (∃ i, staticHome bn n = .bank1 i) ∨ ∃ i, staticHome bn n = .bank0 i := by
  unfold staticHome
  split
  · exact .inl rfl
  · split
    · exact .inr (.inl ⟨_, rfl⟩)
    · split
      · exact .inr (.inr (.inl ⟨_, rfl⟩))
      · exact .inr (.inr (.inr ⟨_, rfl⟩))

theorem staticHome_ne_stacked (bn : Bool) (n : Nat) (i : Fin Config.nStackPhys) : staticHome bn n ≠ .stacked i := by
  obtain h | ⟨_, h⟩ | ⟨_, h⟩ | ⟨_, h⟩ := staticHome_cases bn n
  all_goals rw [h]; exact nofun

theorem gr_of_static (hr : r.toNat < 32) (hpsr : t.psr = s.psr) (hstatic : t.grStatic = s.grStatic)
    (hbank0 : t.grBank0 = s.grBank0) (hbank1 : t.grBank1 = s.grBank1) : t.gr r = s.gr r := by
  have hbn : t.psrBit Psr.bn = s.psrBit Psr.bn := congrArg (bit · Psr.bn) hpsr
  rw [State.gr, State.gr, grLoc_of_static hr, grLoc_of_static hr, hbn]
  obtain h | ⟨_, h⟩ | ⟨_, h⟩ | ⟨_, h⟩ := staticHome_cases (s.psrBit Psr.bn) r.toNat
  · rw [h]
  · rw [h, hstatic]
  · rw [h, hbank1]
  · rw [h, hbank0]

/-! #### Stacked registers (R53) -/

theorem grLoc_of_inFrame (hr : r.toNat = 32 + k) (hk : k < s.cfm.sof.toNat) :
    s.grLoc r = .stacked (Fin.ofNat Config.nStackPhys (s.rse.bof.val + s.cfm.frameIndex k)) := by
  unfold State.grLoc
  dsimp only
  rw [if_neg (by omega), if_neg (by omega), if_neg (by omega), if_pos (by omega), hr, Nat.add_sub_cancel_left]

theorem Cfm.frameIndex_lt {n : Nat} (hrot : 8 * c.sor.toNat ≤ n) (hv : v < n) : c.frameIndex v < n := by
  unfold Cfm.frameIndex
  split
  · exact Nat.lt_of_lt_of_le (Nat.mod_lt _ (by omega)) hrot
  · exact hv

/-- Renaming is one to one: it turns the rotating region, and leaves the rest. -/
theorem Cfm.frameIndex_inj (h : c.frameIndex v = c.frameIndex w) : v = w := by
  unfold Cfm.frameIndex at h
  split at h
  · next hv =>
    split at h
    · next hw => exact (Nat.ModEq.add_right_cancel' _ h).eq_of_lt_of_lt hv hw
    · have := Nat.mod_lt (v + c.rrbGr.toNat) (show 0 < 8 * c.sor.toNat by omega)
      omega
  · split at h
    · have := Nat.mod_lt (w + c.rrbGr.toNat) (show 0 < 8 * c.sor.toNat by omega)
      omega
    · exact h

theorem target_iff : s.badTarget r = false ↔ r ≠ 0 ∧ r.toNat < 32 + s.cfm.sof.toNat := by
  rw [← Bool.not_eq_true, badTarget_eq_true_iff, NoTarget, not_or, Nat.not_le]

/-- Two registers of which one is in the frame have different homes. -/
theorem grLoc_ne (hmax : s.cfm.sof.toNat ≤ 96) (hrot : 8 * s.cfm.sor.toNat ≤ s.cfm.sof.toNat)
    (hr : r.toNat < 32 + s.cfm.sof.toNat) (hq : q.toNat < 32 + s.cfm.sof.toNat) (hne : r ≠ q) : s.grLoc r ≠ s.grLoc q := by
  have hval : r.toNat ≠ q.toNat := fun h => hne (BitVec.eq_of_toNat_eq h)
  intro h
  by_cases hr32 : r.toNat < 32
  · rw [grLoc_of_static hr32] at h
    by_cases hq32 : q.toNat < 32
    · rw [grLoc_of_static hq32] at h
      exact hval (staticHome_inj hr32 hq32 h)
    · rw [grLoc_of_inFrame (k := q.toNat - 32) (by omega) (by omega)] at h
      exact staticHome_ne_stacked _ _ _ h
  · rw [grLoc_of_inFrame (r := r) (k := r.toNat - 32) (by omega) (by omega)] at h
    by_cases hq32 : q.toNat < 32
    · rw [grLoc_of_static hq32] at h
      exact staticHome_ne_stacked _ _ _ h.symm
    · rw [grLoc_of_inFrame (k := q.toNat - 32) (by omega) (by omega)] at h
      have hir := Cfm.frameIndex_lt hrot (show r.toNat - 32 < s.cfm.sof.toNat by omega)
      have hiq := Cfm.frameIndex_lt hrot (show q.toNat - 32 < s.cfm.sof.toNat by omega)
      have hphys : (s.rse.bof.val + s.cfm.frameIndex (r.toNat - 32)) % 96 =
          (s.rse.bof.val + s.cfm.frameIndex (q.toNat - 32)) % 96 := congrArg Fin.val (GrLoc.stacked.inj h)
      have hindex : r.toNat - 32 = q.toNat - 32 := Cfm.frameIndex_inj (c := s.cfm) (by omega)
      omega

end

end Sys2Proof.Machine
end

section
/-! ### Room for a new frame -/
namespace Sys2Proof.Machine

/-! #### What mandatory stores leave of the registers (R137) -/

/-- The registers but for the stacked ones, the place, and what says where the registers are. -/
def State.unstacked (s : State) :
    Word × Word × Cfm × Fin Config.nStackPhys × Vector Gr 16 × Vector Gr 16 × Vector Gr 16 × Vector Fr 128 × Word :=
  (s.ip, s.psr, s.cfm, s.rse.bof, s.grStatic, s.grBank0, s.grBank1, s.fr, s.pr)

section
variable {s t u : State} {limit fuel : Nat}

theorem unstacked_eq_iff : t.unstacked = s.unstacked ↔ t.ip = s.ip ∧ t.psr = s.psr ∧ t.cfm = s.cfm ∧
    t.rse.bof = s.rse.bof ∧ t.grStatic = s.grStatic ∧ t.grBank0 = s.grBank0 ∧ t.grBank1 = s.grBank1 ∧ t.fr = s.fr ∧
    t.pr = s.pr := by
  simp [State.unstacked]

/-- All registers, and their places. -/
def State.registers (s : State) := (s.unstacked, s.grStacked)

/-- A part of an instruction that ends well is two parts that do. -/
theorem ok_of_bind {α β : Type} {x : Except Stop α} {f : α → Except Stop β} {b : β} (h : (x >>= f) = .ok b) :
    ∃ a, x = .ok a ∧ f a = .ok b := by
  cases x with
  | ok a => exact ⟨a, rfl, h⟩
  | error e => cases h

/-- An interrupt message makes something pending (R1166). -/
theorem receiveMessage_registers (s : State) (v : Word) : (s.receiveMessage v).registers = s.registers := by
  unfold State.receiveMessage
  dsimp only
  split
  · split <;> rfl
  all_goals rfl

theorem store_registers {pa : Word} {n : Nat} {be : Bool} {ma : BitVec 3} {v : Word} (h : s.store pa n be ma v = .ok t) :
    t.registers = s.registers := by
  unfold State.store State.blockWrite at h
  split at h
  · dsimp only at h
    split at h
    · split at h
      · cases h; exact receiveMessage_registers s v
      · cases h; rfl
    · split at h
      · cases h; rfl
      · cases h
  · cases h; rfl

theorem touch_registers (s : State) (a : Translation) : (s.touch a).registers = s.registers := by
  rw [touch_shape s a]; rfl

theorem rseStore_registers (h : s.rseStore = .ok t) : t.registers = s.registers := by
  have kept {u v : State} {pa : Word} {n : Nat} {be : Bool} {ma : BitVec 3} {x : Word} {a : Translation}
      (hu : s.store pa n be ma x = .ok u) (hv : v.registers = (u.touch a).registers) : v.registers = s.registers :=
    hv.trans ((touch_registers u a).trans (store_registers hu))
  obtain ⟨a, -, h⟩ := ok_of_bind h
  split at h
  · obtain ⟨u, hu, h⟩ := ok_of_bind h
    cases h
    exact kept (a := a) hu rfl
  · obtain ⟨u, hu, h⟩ := ok_of_bind h
    cases h
    refine kept (a := a) hu ?_
    simp only [State.registers, State.unstacked, State.touch_rse]
    rfl

theorem storeUntil_registers (h : State.storeUntil limit fuel s = .ok t) : t.registers = s.registers := by
  induction fuel generalizing s with
  | zero => cases h; rfl
  | succ fuel ih =>
    unfold State.storeUntil at h
    split at h
    · cases h; rfl
    · obtain ⟨u, hu, h⟩ := ok_of_bind h
      exact (ih h).trans (rseStore_registers hu)

/-! #### The registers of the old frame and those outside the new one (R138) -/

/-- The place of a register, counted from the bottom of the frame. -/
def State.indexOf (s : State) (i : Fin Config.nStackPhys) : Nat :=
  (i.val + Config.nStackPhys - s.rse.bof.val) % Config.nStackPhys

theorem undefineRegs_getElem {a b : Nat} {i : Fin Config.nStackPhys} (h : s.indexOf i < a ∨ b ≤ s.indexOf i) :
    (s.undefineRegs a b).grStacked[i] = s.grStacked[i] := by
  refine (Vector.getElem_ofFn i.isLt).trans (if_neg ?_)
  change ¬(a ≤ s.indexOf i ∧ s.indexOf i < b)
  omega

theorem undefineRegs_unstacked (s : State) (a b : Nat) : (s.undefineRegs a b).unstacked = s.unstacked := by
  simp [State.unstacked]

/-- Where the clean registers have no room beside the frame, they are given up (log entry 16). -/
theorem makeRoom_shape (s : State) (new : Nat) :
    ∃ b d, s.makeRoom new = { s with rse := { s.rse with bspLoad := b, dispersal := d } } := by
  unfold State.makeRoom
  split
  · exact ⟨_, _, rfl⟩
  · exact ⟨_, _, rfl⟩

theorem makeRoom_registers (s : State) (new : Nat) : (s.makeRoom new).registers = s.registers := by
  obtain ⟨b, d, h⟩ := makeRoom_shape s new
  rw [h]; rfl

/-- `u` is `s` with room made for a frame of `new` registers: those new in the frame are undefined. -/
def FrameMade (s u : State) (new : Nat) : Prop := u.unstacked = s.unstacked ∧
  ∀ i : Fin Config.nStackPhys, s.indexOf i < s.cfm.sof.toNat ∨ new ≤ s.indexOf i → u.grStacked[i] = s.grStacked[i]

theorem frameMade_of_registers {new : Nat} (h : t.registers = s.registers) :
    FrameMade s ((t.makeRoom new).undefineRegs s.cfm.sof.toNat new) new := by
  have hroom := (makeRoom_registers t new).trans h
  have hfixed : (t.makeRoom new).unstacked = s.unstacked := congrArg Prod.fst hroom
  have hstacked : (t.makeRoom new).grStacked = s.grStacked := congrArg Prod.snd hroom
  obtain ⟨-, -, -, hbof, -⟩ := unstacked_eq_iff.mp hfixed
  refine ⟨(undefineRegs_unstacked _ _ _).trans hfixed, fun i hi => ?_⟩
  have hindex : (t.makeRoom new).indexOf i = s.indexOf i := by rw [State.indexOf, hbof, State.indexOf]
  rw [undefineRegs_getElem (by rwa [hindex]), hstacked]

theorem rseNewFrame_of_stored {new : BitVec 7} (h : State.storeUntil (96 - new.toNat) rseFuel s = .ok t) :
    s.rseNewFrame new = .ok ((t.makeRoom new.toNat).undefineRegs s.cfm.sof.toNat new.toNat) := bind_of_ok h

theorem rseNewFrame_made {new : BitVec 7} (h : s.rseNewFrame new = .ok u) : FrameMade s u new.toNat := by
  obtain ⟨t, ht, hu⟩ := ok_of_bind h
  cases hu
  exact frameMade_of_registers (storeUntil_registers ht)

/-- With few enough dirty registers nothing is stored. -/
theorem storeUntil_nothing (h : s.ndirty ≤ limit) : State.storeUntil limit rseFuel s = .ok s := if_pos h

end

/-! #### The stores that make room (R137, R138) -/

section
variable {s : State} {n new limit : Nat} {a : Nat → Translation}

theorem storeUntil_spilled (h : Spillable s n a) (hlast : s.dirtyAfter n ≤ limit)
    (hbefore : ∀ m < n, limit < s.dirtyAfter m) : ∀ {fuel j : Nat}, j ≤ n → n < j + fuel →
      State.storeUntil limit fuel (s.spilled a j) = .ok (s.spilled a n)
  | 0, j, hj, hfuel => by omega
  | fuel + 1, j, hj, hfuel => by
    have hdirty : (s.spilled a j).ndirty = s.dirtyAfter j := rfl
    rw [State.storeUntil, hdirty]
    by_cases hend : j = n
    · subst hend
      exact if_pos hlast
    · have hmore := hbefore j (by omega)
      rw [if_neg (by omega), bind_of_ok (rseStore_spilled h (by omega))]
      exact storeUntil_spilled h hlast hbefore (by omega) (by omega)

/-- The room of the clean partition, where the frame leaves it any (log entry 16). -/
theorem makeRoom_clean (s : State) (new : Nat) :
    if new + s.ndirty + s.nclean ≤ 96 then
      (s.makeRoom new).rse.bspLoad = s.rse.bspLoad ∧ (s.makeRoom new).rse.dispersal = s.rse.dispersal
    else (s.makeRoom new).rse.bspLoad = s.ar.bspstore ∧ (s.makeRoom new).rse.dispersal =
      if collectionOf (s.rse.bspLoad - 8) = collectionOf s.ar.bspstore then s.rse.dispersal else s.ar.rnat := by
  unfold State.makeRoom
  by_cases h : new + s.ndirty + s.nclean ≤ 96
  · rw [if_pos h, if_pos h]
    exact ⟨rfl, rfl⟩
  · rw [if_neg h, if_neg h]
    exact ⟨rfl, by simp only [State.dropClean, State.loadsOpenGroup, beq_iff_eq]⟩

/-- The state once the `n` least words are stored and room is made for the frame. -/
def State.roomMade (s : State) (a : Nat → Translation) (n new : Nat) : State :=
  ((s.spilled a n).makeRoom new).undefineRegs s.cfm.sof.toNat new

theorem rseNewFrame_spilled {sof : BitVec 7} (h : StackReaches s n a) (hlast : s.dirtyAfter n ≤ 96 - sof.toNat)
    (hbefore : ∀ m < n, 96 - sof.toNat < s.dirtyAfter m) : s.rseNewFrame sof = .ok (s.roomMade a n sof.toNat) := by
  obtain ⟨hn, -, hreach, -⟩ := h
  have hstored := storeUntil_spilled (fuel := rseFuel) hreach hlast hbefore (Nat.zero_le n)
    (by rw [show rseFuel = 128 from rfl]; omega)
  rw [spilled_zero] at hstored
  exact rseNewFrame_of_stored hstored

/-- Besides the stores' own effect, what their references leave. -/
theorem roomMade_eq (h : StackReaches s n a) : s.roomMade a n new = { s.touches a n with
    mem := (s.roomMade a n new).mem, alat := (s.roomMade a n new).alat, grStacked := (s.roomMade a n new).grStacked
    ar := { s.ar with bspstore := bsWord s.ar.bspstore n, rnat := (s.roomMade a n new).ar.rnat }
    rse := { s.rse with
      bspLoad := (s.roomMade a n new).rse.bspLoad, dispersal := (s.roomMade a n new).rse.dispersal } } := by
  obtain ⟨-, -, hreach, -⟩ := h
  obtain ⟨b, d, hroom⟩ := makeRoom_shape (s.spilled a n) new
  unfold State.roomMade
  rw [hroom, spilled_eq_touches fun i hi => (hreach i hi).2.1]
  rfl

theorem roomMade_stored (h : StackReaches s n a) : StackStored s (s.roomMade a n new) n a := by
  refine stackStored_congr ?_ ?_ ?_ (stackStored_spilled h)
  · rw [State.roomMade, State.undefineRegs_mem, State.makeRoom_mem]
  · rw [State.roomMade, State.undefineRegs_alat, State.makeRoom_alat]
  · rw [State.roomMade, State.undefineRegs_ar, State.makeRoom_ar]

/-- What becomes of the load pointer and the dispersal register (log entry 16). -/
theorem roomMade_clean :
    if new + s.dirtyAfter n + regsBetween s.rse.bspLoad (s.roomMade a n new).ar.bspstore ≤ 96 then
      (s.roomMade a n new).rse.bspLoad = s.rse.bspLoad ∧ (s.roomMade a n new).rse.dispersal = s.dispersalAfter n
    else (s.roomMade a n new).rse.bspLoad = (s.roomMade a n new).ar.bspstore ∧ (s.roomMade a n new).rse.dispersal =
      if collectionOf (s.rse.bspLoad - 8) = collectionOf (s.roomMade a n new).ar.bspstore then s.dispersalAfter n
      else (s.roomMade a n new).ar.rnat := by
  rw [State.roomMade, State.undefineRegs_ar, State.undefineRegs_rse, State.makeRoom_ar]
  exact makeRoom_clean (s.spilled a n) new

end

end Sys2Proof.Machine
end

section
/-! ### alloc (R829) -/
namespace Sys2Proof.Machine

section
variable {s u : State} {qp : BitVec 6} {r1 r : BitVec 7} {sor : BitVec 4} {sol sof : BitVec 7}

/-! #### Its checks, in order (R17, R829) -/

/-- A frame that `alloc` can make. -/
def AllocLegal (sor : BitVec 4) (sol sof : BitVec 7) : Prop :=
  sof.toNat ≤ 96 ∧ sol.toNat ≤ sof.toNat ∧ 8 * sor.toNat ≤ sof.toNat

/-- A target in it. -/
def AllocTarget (r1 sof : BitVec 7) : Prop := r1 ≠ 0 ∧ r1.toNat < 32 + sof.toNat

/-- The rotating region stays, or nothing is renamed. -/
def State.AllocKeeps (s : State) (sor : BitVec 4) : Prop :=
  sor = s.cfm.sor ∨ s.cfm.rrbGr = 0 ∧ s.cfm.rrbFr = 0 ∧ s.cfm.rrbPr = 0

/-- The conditions under which `alloc` stops. -/
def State.allocChecks (s : State) (r1 : BitVec 7) (sor : BitVec 4) (sol sof : BitVec 7) : List (Bool × Stop) :=
  [(!s.firstInGroup, .stuck .undefinedBehavior), (badTargetSof r1 sof, .interrupt illegalOperation),
    (decide (96 < sof.toNat ∨ sof.toNat < 8 * sor.toNat ∨ sof.toNat < sol.toNat), .interrupt illegalOperation),
    (sor != s.cfm.sor && (s.cfm.rrbGr != 0 || s.cfm.rrbFr != 0 || s.cfm.rrbPr != 0), .interrupt reservedRegisterField)]

/-- The state once the frame of `u` is resized, but for the target. -/
def State.resized (s u : State) (sor : BitVec 4) (sol sof : BitVec 7) : State :=
  ({ u with cfm := s.cfm.allocated sor sol sof } : State).alatPrune

theorem badTargetSof_eq_false_iff : badTargetSof r1 sof = false ↔ AllocTarget r1 sof := by
  simp only [badTargetSof, AllocTarget, Bool.or_eq_false_iff, beq_eq_false_iff_ne, decide_eq_false_iff_not, ne_eq]
  exact and_congr_right fun _ => by omega

theorem allocTooLarge_eq_false_iff :
    decide (96 < sof.toNat ∨ sof.toNat < 8 * sor.toNat ∨ sof.toNat < sol.toNat) = false ↔ AllocLegal sor sol sof := by
  rw [decide_eq_false_iff_not, AllocLegal]
  omega

theorem allocRenames_eq_false_iff :
    (sor != s.cfm.sor && (s.cfm.rrbGr != 0 || s.cfm.rrbFr != 0 || s.cfm.rrbPr != 0)) = false ↔ s.AllocKeeps sor := by
  simp only [State.AllocKeeps, Bool.and_eq_false_iff, Bool.or_eq_false_iff, bne_eq_false_iff_eq, and_assoc]

theorem exec_alloc (s : State) (qp : BitVec 6) (r1 : BitVec 7) (sor : BitVec 4) (sol sof : BitVec 7) :
    exec (.allocM34 qp r1 sor sol sof) s = finish s (guarded (s.allocChecks r1 sor sol sof) (if s.prBit qp then do
      let t ← s.rseNewFrame sof
      done ((({ t with cfm := t.cfm.allocated sor sol sof } : State).alatPrune).setGr r1 (Gr.ofWord s.ar.pfs))
    else done s)) := rfl

theorem alloc_notFirst (hfirst : s.firstInGroup = false) :
    exec (.allocM34 qp r1 sor sol sof) s = .fault .undefinedBehavior := by
  have hstop : firstStop (s.allocChecks r1 sor sol sof) = some (.stuck .undefinedBehavior) :=
    firstStop_stop (by rw [hfirst]; rfl)
  rw [exec_alloc, guarded_of_some hstop]
  rfl

/-- The faults are taken whatever PR[qp] is (log entry 15). -/
theorem traps_alloc {x : Interruption} (h : firstStop (s.allocChecks r1 sor sol sof) = some (.interrupt x)) :
    Traps (.allocM34 qp r1 sor sol sof) s x := by
  rw [Traps, exec_alloc, guarded_of_some h]
  rfl

theorem alloc_illegal (hfirst : s.firstInGroup = true) (h : ¬ AllocLegal sor sol sof ∨ ¬ AllocTarget r1 sof) :
    Traps (.allocM34 qp r1 sor sol sof) s illegalOperation := by
  refine traps_alloc (firstStop_pass (by rw [hfirst]; rfl) ?_)
  by_cases ht : AllocTarget r1 sof
  · have hl : ¬ AllocLegal sor sol sof := h.resolve_right (not_not.mpr ht)
    rw [← allocTooLarge_eq_false_iff, Bool.not_eq_false] at hl
    exact firstStop_pass (badTargetSof_eq_false_iff.mpr ht) (firstStop_stop hl)
  · rw [← badTargetSof_eq_false_iff, Bool.not_eq_false] at ht
    exact firstStop_stop ht

theorem alloc_renames (hfirst : s.firstInGroup = true) (hl : AllocLegal sor sol sof) (ht : AllocTarget r1 sof)
    (hk : ¬ s.AllocKeeps sor) : Traps (.allocM34 qp r1 sor sol sof) s reservedRegisterField := by
  rw [← allocRenames_eq_false_iff, Bool.not_eq_false] at hk
  exact traps_alloc (firstStop_pass (by rw [hfirst]; rfl) (firstStop_pass (badTargetSof_eq_false_iff.mpr ht)
    (firstStop_pass (allocTooLarge_eq_false_iff.mpr hl) (firstStop_stop hk))))

/-- Past its checks `alloc` makes room for the frame. -/
theorem exec_alloc_of_passes (hfirst : s.firstInGroup = true) (hl : AllocLegal sor sol sof) (ht : AllocTarget r1 sof)
    (hk : s.AllocKeeps sor) (hq : s.prBit qp = true) : exec (.allocM34 qp r1 sor sol sof) s = finish s (do
      let t ← s.rseNewFrame sof
      done ((({ t with cfm := t.cfm.allocated sor sol sof } : State).alatPrune).setGr r1 (Gr.ofWord s.ar.pfs))) := by
  have hpass : firstStop (s.allocChecks r1 sor sol sof) = none :=
    firstStop_pass (by rw [hfirst]; rfl) (firstStop_pass (badTargetSof_eq_false_iff.mpr ht)
      (firstStop_pass (allocTooLarge_eq_false_iff.mpr hl) (firstStop_pass (allocRenames_eq_false_iff.mpr hk) rfl)))
  rw [exec_alloc, guarded_of_none hpass, if_pos hq]

theorem exec_alloc_of_stop {e : Stop} (hfirst : s.firstInGroup = true) (hl : AllocLegal sor sol sof)
    (ht : AllocTarget r1 sof) (hk : s.AllocKeeps sor) (hq : s.prBit qp = true) (h : s.rseNewFrame sof = .error e) :
    exec (.allocM34 qp r1 sor sol sof) s = finish s (.error e) := by
  rw [exec_alloc_of_passes hfirst hl ht hk hq, h]
  rfl

/-! #### The resized frame (R53) -/

/-- A static register reads in the resized frame as before. -/
theorem resized_gr_static (hu : FrameMade s u sof.toNat) (hr : r.toNat < 32) :
    (s.resized u sor sol sof).gr r = s.gr r := by
  obtain ⟨-, hpsr, -, -, hstatic, hbank0, hbank1, -⟩ := unstacked_eq_iff.mp hu.1
  exact gr_of_static hr hpsr hstatic hbank0 hbank1

/-- A register of both frames keeps what it held where the rotating region stays. -/
theorem resized_gr_stacked {k : Nat} (hf : s.frameOk = true) (hu : FrameMade s u sof.toNat) (hsor : sor = s.cfm.sor)
    (hr : r.toNat = 32 + k) (hold : k < s.cfm.sof.toNat) (hnew : k < sof.toNat) :
    (s.resized u sor sol sof).gr r = s.gr r := by
  obtain ⟨hmax, -, hrot, -⟩ := (Cfm.wf_iff s.cfm).mp hf
  obtain ⟨hfixed, hstacked⟩ := hu
  obtain ⟨-, -, -, hbof, -⟩ := unstacked_eq_iff.mp hfixed
  have hlt : s.cfm.frameIndex k < s.cfm.sof.toNat := Cfm.frameIndex_lt hrot hold
  have hindex : (s.resized u sor sol sof).cfm.frameIndex k = s.cfm.frameIndex k := by rw [hsor]; rfl
  have hplace : s.indexOf (Fin.ofNat Config.nStackPhys (s.rse.bof.val + s.cfm.frameIndex k)) = s.cfm.frameIndex k := by
    have hlt96 : s.rse.bof.val < 96 := s.rse.bof.isLt
    change ((s.rse.bof.val + s.cfm.frameIndex k) % 96 + 96 - s.rse.bof.val) % 96 = _
    omega
  calc (s.resized u sor sol sof).gr r
      = (s.resized u sor sol sof).frameReg (s.cfm.frameIndex k) := by
        rw [gr_of_inFrame (s := s.resized u sor sol sof) hr hnew, hindex]
    _ = u.grStacked[Fin.ofNat Config.nStackPhys (s.rse.bof.val + s.cfm.frameIndex k)] :=
        congrArg (fun b => u.grStacked[Fin.ofNat Config.nStackPhys (b + s.cfm.frameIndex k)]) (congrArg Fin.val hbof)
    _ = s.frameReg (s.cfm.frameIndex k) := hstacked _ (.inl (by rw [hplace]; exact hlt))
    _ = s.gr r := (gr_of_inFrame hr hold).symm

/-- The target of `alloc` is a target in the resized frame, and no other register is where it is. -/
theorem resized_target (hl : AllocLegal sor sol sof) (ht : AllocTarget r1 sof) :
    (s.resized u sor sol sof).badTarget r1 = false ∧ ∀ r : BitVec 7, r.toNat < 32 + sof.toNat → r ≠ r1 →
      (s.resized u sor sol sof).grLoc r ≠ (s.resized u sor sol sof).grLoc r1 := by
  obtain ⟨hmax, -, hrot⟩ := hl
  exact ⟨target_iff.mpr ht, fun r hr hne => grLoc_ne (s := s.resized u sor sol sof) hmax hrot hr ht.2 hne⟩

theorem exec_alloc_of_room (hl : AllocLegal sor sol sof) (ht : AllocTarget r1 sof) (hk : s.AllocKeeps sor)
    (hq : s.prBit qp = true) (hfirst : s.firstInGroup = true) (h : s.rseNewFrame sof = .ok u) :
    exec (.allocM34 qp r1 sor sol sof) s =
      finish s (done ((s.resized u sor sol sof).setGr r1 ⟨s.ar.pfs, false⟩)) := by
  obtain ⟨-, -, hcfm, -⟩ := unstacked_eq_iff.mp (rseNewFrame_made h).1
  rw [exec_alloc_of_passes hfirst hl ht hk hq, bind_of_ok h, hcfm]
  rfl

/-- `alloc` that makes room completes in the resized frame, PFS in its target. -/
theorem alloc_completes (hl : AllocLegal sor sol sof) (ht : AllocTarget r1 sof) (hf : s.frameOk = true)
    (hq : s.prBit qp = true) (hss : s.psrBit Psr.ss = false) (hk : s.AllocKeeps sor) (hfirst : s.firstInGroup = true)
    (h : s.rseNewFrame sof = .ok u) :
    ∃ t, exec (.allocM34 qp r1 sor sol sof) s = .next t ∧ t.place = s.nextPlace ∧
      t.cfm = { s.cfm with sof := sof, sol := sol, sor := sor } ∧ t.gr r1 = ⟨s.ar.pfs, false⟩ ∧ t.pr = s.pr ∧
      (∀ r : BitVec 7, r.toNat < 32 → r ≠ r1 → t.gr r = s.gr r) ∧ t.fr = s.fr ∧
      (sor = s.cfm.sor → ∀ r : BitVec 7, r.toNat < 32 + min s.cfm.sof.toNat sof.toNat → r ≠ r1 → t.gr r = s.gr r) ∧
      t.settled = ((s.resized u sor sol sof).setGr r1 ⟨s.ar.pfs, false⟩).settled := by
  have hmade := rseNewFrame_made h
  obtain ⟨hip, hpsr, -, -, -, -, -, hfr, hpr⟩ := unstacked_eq_iff.mp hmade.1
  obtain ⟨hgood, hother⟩ := resized_target (s := s) (u := u) hl ht
  have hpsr' : ((s.resized u sor sol sof).setGr r1 ⟨s.ar.pfs, false⟩).psr = s.psr := (State.setGr_psr _ _ _).trans hpsr
  have hip' : ((s.resized u sor sol sof).setGr r1 ⟨s.ar.pfs, false⟩).ip = s.ip := (State.setGr_ip _ _ _).trans hip
  obtain ⟨t, he, hplace, hset⟩ := completes_of_exec hss (by rw [State.psrBit, hpsr']; rfl) (by rw [State.ri, hpsr']; rfl)
    hip' (exec_alloc_of_room hl ht hk hq hfirst h)
  have hkept (r : BitVec 7) (hr : r.toNat < 32 + sof.toNat) (hne : r ≠ r1) : t.gr r = (s.resized u sor sol sof).gr r := by
    rw [gr_of_settled hset, setGr_gr_other _ _ _ _ (hother r hr hne)]
  have hstatic (r : BitVec 7) (hr : r.toNat < 32) (hne : r ≠ r1) : t.gr r = s.gr r :=
    (hkept r (by omega) hne).trans (resized_gr_static hmade hr)
  refine ⟨t, he, hplace, ?_, ?_, ?_, hstatic, ?_, fun hsor r hr hne => ?_, hset⟩
  · exact (read_of_settled State.cfm (fun _ => rfl) hset).trans (State.setGr_cfm _ _ _)
  · rw [gr_of_settled hset, setGr_gr _ _ _ hgood]
  · exact (read_of_settled State.pr (fun _ => rfl) hset).trans ((State.setGr_pr _ _ _).trans hpr)
  · exact (read_of_settled State.fr (fun _ => rfl) hset).trans ((State.setGr_fr _ _ _).trans hfr)
  · by_cases hr32 : r.toNat < 32
    · exact hstatic r hr32 hne
    · exact (hkept r (by omega) hne).trans
        (resized_gr_stacked (k := r.toNat - 32) hf hmade hsor (by omega) (by omega) (by omega))

/-! #### Room made (R137, R138) -/

theorem rseNewFrame_nothing (h : s.ndirty ≤ 96 - sof.toNat) : ∃ u, s.rseNewFrame sof = .ok u ∧ u.mem = s.mem ∧
    u.ar = s.ar ∧ (s.frameOk = true → ∀ i : Fin 96, (i.val + 96 - s.rse.bof.val) % 96 < s.cfm.sof.toNat →
      u.grStacked[i] = s.grStacked[i]) := by
  have hok := rseNewFrame_of_stored (storeUntil_nothing h)
  refine ⟨_, hok, ?_, ?_, fun _ i hi => (rseNewFrame_made hok).2 i (.inl hi)⟩
  · rw [State.undefineRegs_mem, State.makeRoom_mem]
  · rw [State.undefineRegs_ar, State.makeRoom_ar]

end

/-- Settles O43: `State.resized` is the state past the checks once room is made, and `State.roomMade` what the stores that
make it leave. -/
theorem allocResizesTheFrame : Obligations.AllocResizesTheFrame := by
  intro s qp r1 sor sol sof
  refine ⟨alloc_notFirst, fun hfirst => ?_⟩
  intro legal target keeps
  refine ⟨fun hl ht hf hq hss hk u h => alloc_completes hl ht hf hq hss hk hfirst h, rseNewFrame_nothing,
    fun n a h hlast hbefore => ?_, fun hl ht hk hq => ⟨fun u x h => ?_, fun f h => ?_⟩, alloc_illegal hfirst,
    alloc_renames hfirst⟩
  · have hok := rseNewFrame_spilled h hlast hbefore
    exact ⟨s.roomMade a n sof.toNat, s.dispersalAfter n, hok, roomMade_stored h, dispersed_after h.1, roomMade_clean,
      (rseNewFrame_made hok).2, roomMade_eq h⟩
  · exact exec_alloc_of_stop hfirst hl ht hk hq h
  · exact exec_alloc_of_stop hfirst hl ht hk hq h

end Sys2Proof.Machine
end

section
/-! ### Parallel instructions (44_multimedia.md) -/
namespace Sys2Proof.Machine

/-! #### Completion, and the Illegal Operations of a reserved operand or a register that is no target (R17, R262) -/

section
variable (s : State) (qp : BitVec 6) (r1 r2 r3 : BitVec 7)

theorem exec_parallelForms : ∀ f ∈ parallelForms ++ arrangeForms, exec (f.1 qp r1 r2 r3) s =
    writeGr qp r1 ⟨f.2 (s.gr r2).val (s.gr r3).val, (s.gr r2).nat || (s.gr r3).nat⟩ s := by
  simp only [parallelForms, arrangeForms, List.cons_append, List.nil_append, List.forall_mem_cons, List.not_mem_nil,
    false_imp_iff, implies_true, and_true]
  and_intros
  all_goals rfl

/-- The checks of an instruction that writes GR `r1` and whose operand is `reserved` or not. -/
def State.reservedChecks (reserved : Bool) : List (Bool × Stop) :=
  [(reserved, .interrupt illegalOperation), (s.badTarget r1, .interrupt illegalOperation)]

theorem shiftAdd2_eq (f : Nat → BitVec 16 → BitVec 16 → BitVec 16) (n : BitVec 2) : shiftAdd2 f qp r1 r2 r3 n s =
    predicated qp s (guarded (s.reservedChecks r1 (n == 3))
      (done (s.setGr r1 (Gr.map₂ (halfwise (f (count2 n))) (s.gr r2) (s.gr r3))))) := rfl

theorem muxBytes_eq (m : BitVec 4) : muxBytes qp r1 r2 m s =
    predicated qp s (guarded (s.reservedChecks r1 (permuteBytes m (s.gr r2).val).isNone)
      (done (s.setGr r1 ((s.gr r2).map fun a => (permuteBytes m a).getD 0)))) := rfl

end

section
variable {i : Instr} {s : State} {qp : BitVec 6} {r1 : BitVec 7} {v : Gr} {reserved : Bool}

theorem traps_of_reserved (hq : s.prBit qp = true) (hc : reserved = true)
    (hi : exec i s = predicated qp s (guarded (s.reservedChecks r1 reserved) (done (s.setGr r1 v)))) :
    Traps i s illegalOperation :=
  traps_of_guarded hq hi (firstStop_stop hc)

/-- A register that is no target is an Illegal Operation whether or not the operand is reserved. -/
theorem traps_of_reservedChecks (hq : s.prBit qp = true) (hn : NoTarget s r1)
    (hi : exec i s = predicated qp s (guarded (s.reservedChecks r1 reserved) (done (s.setGr r1 v)))) :
    Traps i s illegalOperation := by
  cases reserved with
  | true => exact traps_of_reserved hq rfl hi
  | false => exact traps_of_guarded hq hi (firstStop_pass rfl (firstStop_stop (badTarget_of_noTarget hn)))

theorem writesGr_of_reservedChecks (hr : ReadyGr s qp r1) (hc : reserved = false)
    (hi : exec i s = predicated qp s (guarded (s.reservedChecks r1 reserved) (done (s.setGr r1 v)))) :
    WritesGr i s r1 v :=
  have ⟨_, _, hb⟩ := hr
  writesGr_of_guarded hr hi (firstStop_pass hc (firstStop_pass hb firstStop_nil))

theorem muxBytes_writes {r2 : BitVec 7} {m : BitVec 4} {w : Word} (hr : ReadyGr s qp r1)
    (hw : permuteBytes m (s.gr r2).val = some w) : WritesGr (.mux1I3 qp r1 r2 m) s r1 ⟨w, (s.gr r2).nat⟩ := by
  have hwrites := writesGr_of_reservedChecks (i := .mux1I3 qp r1 r2 m) hr (by rw [hw]; rfl) (muxBytes_eq s qp r1 r2 m)
  rwa [Gr.map, hw, Option.getD_some] at hwrites

end

/-- The permutations that R885's table does not name are reserved. -/
theorem permuteBytes_eq_none {m : BitVec 4} (hm : m ∉ [(0 : BitVec 4), 8, 9, 10, 11]) (a : Word) :
    permuteBytes m a = none := by
  simp only [List.mem_cons, List.not_mem_nil, or_false, not_or, ← BitVec.toNat_inj] at hm
  obtain ⟨h0, h8, h9, h10, h11⟩ := hm
  unfold permuteBytes
  dsimp only
  split
  · exact absurd ‹_› h0
  · exact absurd ‹_› h8
  · exact absurd ‹_› h9
  · exact absurd ‹_› h10
  · exact absurd ‹_› h11
  · rfl

/-! #### Elements of a register -/

theorem byteOf_ofBytes (f : Nat → BitVec 8) {i : Nat} (hi : i < 8) : byteOf (ofBytes f) i = f i := by
  apply BitVec.eq_of_getLsbD_eq
  intro k hk
  rw [byteOf, getLsbD_fld, decide_eq_true hk, Bool.true_and]
  simp only [ofBytes, joinBytes, BitVec.getLsbD_append]
  obtain rfl | rfl | rfl | rfl | rfl | rfl | rfl | rfl :
    i = 0 ∨ i = 1 ∨ i = 2 ∨ i = 3 ∨ i = 4 ∨ i = 5 ∨ i = 6 ∨ i = 7 := by omega
  all_goals
    simp (disch := omega) only [if_pos, if_neg]
    congr 1
    omega

/-- Two registers with the same elements are the same. -/
theorem eq_of_elements {a b : Word} {w : Nat} (hw : 0 < w)
    (h : ∀ i, w * i < 64 → fld a (w * i) w = fld b (w * i) w) : a = b := by
  apply BitVec.eq_of_getLsbD_eq
  intro k hk
  have hin : w * (k / w) < 64 := (Nat.mul_div_le k w).trans_lt hk
  have hbit := congrArg (fun x => x.getLsbD (k % w)) (h (k / w) hin)
  simpa only [getLsbD_fld, decide_eq_true (Nat.mod_lt k hw), Bool.true_and, Nat.div_add_mod] using hbit

section
variable (a b : Word) {i : Nat}

theorem byteOf_bytewise (f : BitVec 8 → BitVec 8 → BitVec 8) (hi : i < 8) :
    byteOf (bytewise f a b) i = f (byteOf a i) (byteOf b i) := byteOf_ofBytes _ hi

theorem halfOf_halfwise (f : BitVec 16 → BitVec 16 → BitVec 16) (hi : i < 4) :
    halfOf (halfwise f a b) i = f (halfOf a i) (halfOf b i) := halfOf_ofHalves _ hi

theorem wordOf_wordwise (f : BitVec 32 → BitVec 32 → BitVec 32) (hi : i < 2) :
    wordOf (wordwise f a b) i = f (wordOf a i) (wordOf b i) := wordOf_ofWords _ hi

/-! #### Permutations (R885, R886) -/

theorem permuteBytes_broadcast : permuteBytes 0 a = some (ofBytes fun _ => byteOf a 0) := rfl

theorem permuteBytes_mix :
    permuteBytes 8 a = some (ofBytes fun i => byteOf a ([0, 4, 2, 6, 1, 5, 3, 7].getD i 0)) := rfl

theorem permuteBytes_shuffle :
    permuteBytes 9 a = some (ofBytes fun i => byteOf a ([0, 4, 1, 5, 2, 6, 3, 7].getD i 0)) := rfl

theorem permuteBytes_alternate :
    permuteBytes 10 a = some (ofBytes fun i => byteOf a ([0, 2, 4, 6, 1, 3, 5, 7].getD i 0)) := rfl

theorem permuteBytes_reverse : permuteBytes 11 a = some (ofBytes fun i => byteOf a (7 - i)) := rfl

theorem permuteBytes_reverse_twice : (permuteBytes 11 a).bind (permuteBytes 11) = some a := by
  rw [permuteBytes_reverse, Option.bind_some, permuteBytes_reverse]
  refine congrArg some (eq_of_elements (w := 8) (by decide) fun i hi => ?_)
  have hrev : 7 - (7 - i) = i := by omega
  calc byteOf (ofBytes fun i => byteOf (ofBytes fun j => byteOf a (7 - j)) (7 - i)) i
      = byteOf (ofBytes fun j => byteOf a (7 - j)) (7 - i) := byteOf_ofBytes _ (by omega)
    _ = byteOf a (7 - (7 - i)) := byteOf_ofBytes _ (by omega)
    _ = byteOf a i := by rw [hrev]

theorem halfOf_permuteHalves (m : BitVec 8) (hi : i < 4) :
    halfOf (permuteHalves m a) i = halfOf a (fld m (2 * i) 2 : BitVec 2).toNat := halfOf_ofHalves _ hi

/-- The selector 3, 2, 1, 0 leaves each half in its place. -/
theorem permuteHalves_identity : permuteHalves 0xE4 a = a := by
  refine eq_of_elements (w := 16) (by decide) fun i hi => (halfOf_permuteHalves a 0xE4 (by omega)).trans ?_
  obtain rfl | rfl | rfl | rfl : i = 0 ∨ i = 1 ∨ i = 2 ∨ i = 3 := by omega
  all_goals rfl

/-! #### Interleaving (R880, R881) -/

/-- Elements of `lo` and `hi` in turn, `hi`'s in the more significant place of each pair. -/
def interleave {w : Nat} (lo hi : Nat → BitVec w) (k : Nat) : BitVec w := if k % 2 = 0 then lo (k / 2) else hi (k / 2)

theorem interleave_even {w : Nat} (lo hi : Nat → BitVec w) (i : Nat) : interleave lo hi (2 * i) = lo i := by
  rw [interleave, if_pos (by omega), show 2 * i / 2 = i by omega]

theorem interleave_odd {w : Nat} (lo hi : Nat → BitVec w) (i : Nat) : interleave lo hi (2 * i + 1) = hi i := by
  rw [interleave, if_neg (by omega), show (2 * i + 1) / 2 = i by omega]

theorem unpack1_eq (o : Nat) :
    unpack1 o a b = ofBytes (interleave (fun i => byteOf b (o + i)) fun i => byteOf a (o + i)) := rfl

theorem unpack2_eq (o : Nat) :
    unpack2 o a b = ofHalves (interleave (fun i => halfOf b (o + i)) fun i => halfOf a (o + i)) := rfl

theorem mix1_eq (o : Nat) :
    mix1 o a b = ofBytes (interleave (fun i => byteOf b (2 * i + o)) fun i => byteOf a (2 * i + o)) := by
  simp [mix1, ofBytes, interleave]

theorem mix2_eq (o : Nat) :
    mix2 o a b = ofHalves (interleave (fun i => halfOf b (2 * i + o)) fun i => halfOf a (2 * i + o)) := by
  simp [mix2, ofHalves, interleave]

theorem byteOf_interleaved (lo hi : Nat → BitVec 8) (h : i < 4) :
    byteOf (ofBytes (interleave lo hi)) (2 * i) = lo i ∧ byteOf (ofBytes (interleave lo hi)) (2 * i + 1) = hi i := by
  rw [byteOf_ofBytes _ (by omega), byteOf_ofBytes _ (by omega), interleave_even, interleave_odd]
  exact ⟨rfl, rfl⟩

theorem halfOf_interleaved (lo hi : Nat → BitVec 16) (h : i < 2) :
    halfOf (ofHalves (interleave lo hi)) (2 * i) = lo i ∧ halfOf (ofHalves (interleave lo hi)) (2 * i + 1) = hi i := by
  rw [halfOf_ofHalves _ (by omega), halfOf_ofHalves _ (by omega), interleave_even, interleave_odd]
  exact ⟨rfl, rfl⟩

theorem wordOf_joinWords (x y : BitVec 32) : wordOf (joinWords x y) 0 = y ∧ wordOf (joinWords x y) 1 = x :=
  ⟨wordOf_ofWords (interleave (fun _ => y) fun _ => x) (by decide),
    wordOf_ofWords (interleave (fun _ => y) fun _ => x) (by decide)⟩

theorem byteOf_unpack1_mix1 (o : Nat) (hi : i < 4) :
    byteOf (unpack1 o a b) (2 * i) = byteOf b (o + i) ∧ byteOf (unpack1 o a b) (2 * i + 1) = byteOf a (o + i) ∧
      byteOf (mix1 o a b) (2 * i) = byteOf b (2 * i + o) ∧ byteOf (mix1 o a b) (2 * i + 1) = byteOf a (2 * i + o) := by
  rw [unpack1_eq, mix1_eq, ← and_assoc]
  exact ⟨byteOf_interleaved _ _ hi, byteOf_interleaved _ _ hi⟩

theorem halfOf_unpack2_mix2 (o : Nat) (hi : i < 2) :
    halfOf (unpack2 o a b) (2 * i) = halfOf b (o + i) ∧ halfOf (unpack2 o a b) (2 * i + 1) = halfOf a (o + i) ∧
      halfOf (mix2 o a b) (2 * i) = halfOf b (2 * i + o) ∧ halfOf (mix2 o a b) (2 * i + 1) = halfOf a (2 * i + o) := by
  rw [unpack2_eq, mix2_eq, ← and_assoc]
  exact ⟨halfOf_interleaved _ _ hi, halfOf_interleaved _ _ hi⟩

/-- Words make one pair, the same of `unpack4` and `mix4`. -/
theorem wordOf_unpack4_mix4 (o : Nat) :
    wordOf (unpack4 o a b) 0 = wordOf b o ∧ wordOf (unpack4 o a b) 1 = wordOf a o ∧
      wordOf (mix4 o a b) 0 = wordOf b o ∧ wordOf (mix4 o a b) 1 = wordOf a o := by
  rw [← and_assoc]
  exact ⟨wordOf_joinWords _ _, wordOf_joinWords _ _⟩

end

/-! #### Saturation (R860, R862, R864, R882) -/

section
variable {n : Nat}

theorem satSigned_toInt (n : Nat) (x : Int) :
    (satSigned (n + 1) x).toInt = max (-(2 ^ n)) (min (2 ^ n - 1) x) := by
  have hpos : (0 : Int) < 2 ^ n := Int.pow_pos (by decide)
  have hlow : -(2 ^ n : Int) ≤ max (-(2 ^ n)) (min (2 ^ n - 1) x) := le_max_left _ _
  have hhigh : max (-(2 ^ n)) (min (2 ^ n - 1) x) < (2 ^ n : Int) := by omega
  exact BitVec.toInt_ofInt_eq_self (Nat.succ_pos n) hlow hhigh

theorem satUnsigned_toNat (n : Nat) (x : Int) : ((satUnsigned n x).toNat : Int) = max 0 (min (2 ^ n - 1) x) := by
  have hpos : (0 : Int) < 2 ^ n := Int.pow_pos (by decide)
  have hcast : ((2 ^ n : Nat) : Int) = 2 ^ n := by norm_cast
  rw [satUnsigned, clampTo, BitVec.toNat_ofInt, hcast, Int.emod_eq_of_lt (by omega) (by omega),
    Int.toNat_of_nonneg (by omega)]

variable (a b : BitVec n)

/-- A sum of unsigned numbers is not negative: only the upper bound clamps it. -/
theorem addUuu_toNat : (addUuu a b).toNat = min (2 ^ n - 1) (a.toNat + b.toNat) := by
  have hsat := satUnsigned_toNat n ((a.toNat : Int) + b.toNat)
  have hpos : 0 < 2 ^ n := Nat.two_pow_pos n
  have hcast : ((2 ^ n : Nat) : Int) = 2 ^ n := by norm_cast
  rw [addUuu]
  omega

/-- A difference of unsigned numbers does not exceed the first: only 0 clamps it, as in `Nat`. -/
theorem subUuu_toNat : (subUuu a b).toNat = a.toNat - b.toNat := by
  have hsat := satUnsigned_toNat n ((a.toNat : Int) - b.toNat)
  have hlt := a.isLt
  have hcast : ((2 ^ n : Nat) : Int) = 2 ^ n := by norm_cast
  rw [subUuu]
  omega

theorem parallelEq_eq_ite : parallelEq a b = if a = b then BitVec.allOnes n else 0 := by
  simp only [parallelEq, maskOf, beq_iff_eq]

theorem parallelGt_eq_ite : parallelGt a b = if b.toInt < a.toInt then BitVec.allOnes n else 0 := by
  simp only [parallelGt, maskOf, BitVec.slt_iff_toInt_lt]

end

/-! #### Averages (R865, R866) -/

section
variable {n : Nat} (a b : BitVec n)

/-- A sum or difference of elements is exact in one bit more. -/
theorem toNat_widenedSum : (a.zeroExtend (n + 1) + b.zeroExtend (n + 1)).toNat = a.toNat + b.toNat := by
  have ha := a.isLt
  have hb := b.isLt
  have hpow : 2 ^ (n + 1) = 2 ^ n * 2 := Nat.pow_succ ..
  rw [BitVec.toNat_add, BitVec.toNat_setWidth, BitVec.toNat_setWidth, Nat.mod_eq_of_lt (by omega : a.toNat < _),
    Nat.mod_eq_of_lt (by omega : b.toNat < _), Nat.mod_eq_of_lt (by omega)]

theorem toInt_zeroExtend_succ : (a.zeroExtend (n + 1)).toInt = a.toNat := by
  have ha := a.isLt
  have hpow : 2 ^ (n + 1) = 2 ^ n * 2 := Nat.pow_succ ..
  have hval : (a.zeroExtend (n + 1)).toNat = a.toNat := by
    rw [BitVec.toNat_setWidth, Nat.mod_eq_of_lt (by omega)]
  rw [BitVec.toInt_eq_toNat_of_lt (by omega), hval]

theorem toInt_widenedDifference :
    (a.zeroExtend (n + 1) - b.zeroExtend (n + 1)).toInt = (a.toNat : Int) - b.toNat := by
  have ha := a.isLt
  have hb := b.isLt
  have hpow : 2 ^ (n + 1) = 2 ^ n * 2 := Nat.pow_succ ..
  rw [BitVec.toInt_sub, toInt_zeroExtend_succ, toInt_zeroExtend_succ, Int.bmod_eq_of_le (by omega) (by omega)]

theorem average_toNat : (average a b).toNat = ((a.toNat + b.toNat) / 2 ||| (a.toNat + b.toNat) % 2) := by
  have ha := a.isLt
  have hb := b.isLt
  have hlt : ((a.toNat + b.toNat) / 2 ||| (a.toNat + b.toNat) % 2) < 2 ^ n := Nat.or_lt_two_pow (by omega) (by omega)
  have hone : (1 : BitVec (n + 1)).toNat = 1 := BitVec.toNat_one (Nat.succ_pos n)
  rw [average, BitVec.toNat_setWidth, BitVec.toNat_or, BitVec.toNat_ushiftRight, BitVec.toNat_and, hone,
    toNat_widenedSum, Nat.and_one_is_mod, Nat.shiftRight_one, Nat.mod_eq_of_lt hlt]

theorem averageRaz_toNat : (averageRaz a b).toNat = (a.toNat + b.toNat + 1) / 2 := by
  have ha := a.isLt
  have hb := b.isLt
  have hpow : 2 ^ (n + 1) = 2 ^ n * 2 := Nat.pow_succ ..
  have hone : (1 : BitVec (n + 1)).toNat = 1 := BitVec.toNat_one (Nat.succ_pos n)
  rw [averageRaz, BitVec.toNat_setWidth, BitVec.toNat_ushiftRight, BitVec.toNat_add, hone, toNat_widenedSum,
    Nat.mod_eq_of_lt (by omega : a.toNat + b.toNat + 1 < _), Nat.shiftRight_one, Nat.mod_eq_of_lt (by omega)]

theorem toInt_sshiftRight_eq_div {w : Nat} (x : BitVec w) (c : Nat) : (x.sshiftRight c).toInt = x.toInt / 2 ^ c := by
  rw [BitVec.toInt_sshiftRight, Int.shiftRight_eq_div_pow]
  norm_cast

/-- A value shifted right with its sign and cut to a narrower field holds the low bits of the exact quotient. -/
theorem setWidth_sshiftRight {w v : Nat} (hv : v ≤ w) (x : BitVec w) (c : Nat) :
    (x.sshiftRight c).setWidth v = BitVec.ofInt v (x.toInt / 2 ^ c) := by
  rw [← toInt_sshiftRight_eq_div, ← BitVec.signExtend_eq_setWidth_of_le _ hv]
  rfl

/-- The bit that a difference shifts out is that of the sum. -/
theorem averageSub_eq : averageSub a b =
    BitVec.ofInt n (((a.toNat : Int) - b.toNat) / 2) ||| BitVec.ofNat n ((a.toNat + b.toNat) % 2) := by
  have hbit : ((a.zeroExtend (n + 1) - b.zeroExtend (n + 1)) &&& 1).setWidth n =
      BitVec.ofNat n ((a.toNat + b.toNat) % 2) := by
    have hpow : 2 ^ (n + 1) = 2 ^ n * 2 := Nat.pow_succ ..
    have heven : 2 ∣ 2 ^ (n + 1) := Dvd.intro_left (2 ^ n) hpow.symm
    have hone : (1 : BitVec (n + 1)).toNat = 1 := BitVec.toNat_one (Nat.succ_pos n)
    have ha := a.isLt
    have hb := b.isLt
    apply BitVec.eq_of_toNat_eq
    rw [BitVec.toNat_setWidth, BitVec.toNat_and, hone, Nat.and_one_is_mod, BitVec.toNat_sub, BitVec.toNat_ofNat,
      Nat.mod_mod_of_dvd _ heven, BitVec.toNat_setWidth, BitVec.toNat_setWidth,
      Nat.mod_eq_of_lt (by omega : b.toNat < 2 ^ (n + 1)), Nat.mod_eq_of_lt (by omega : a.toNat < 2 ^ (n + 1))]
    congr 1
    omega
  rw [averageSub, halveToOdd, BitVec.zeroExtend, BitVec.setWidth_or, setWidth_sshiftRight (Nat.le_succ n),
    toInt_widenedDifference, hbit, pow_one]

end

/-! #### Shifts and products of halves (R868, R869, R875, R876) -/

section
variable (a b : BitVec 16) (c : Nat)

theorem shiftLeftAdd2_toInt : (shiftLeftAdd2 c a b).toInt =
    max (-32768) (min 32767 (max (-32768) (min 32767 (a.toInt * 2 ^ c)) + b.toInt)) := by
  rw [shiftLeftAdd2, satSigned_toInt 15, satSigned_toInt 15]
  rfl

theorem shiftRightAdd2_toInt : (shiftRightAdd2 c a b).toInt =
    max (-32768) (min 32767 (a.toInt / 2 ^ c + b.toInt)) := by
  rw [shiftRightAdd2, satSigned_toInt 15, toInt_sshiftRight_eq_div]
  rfl

/-- The product of two halves is exact in 32 bits. -/
theorem product2_toInt : (product2 a b).toInt = a.toInt * b.toInt := by
  have hle := BitVec.toInt_mul_toInt_le (x := a) (y := b)
  have hge := BitVec.le_toInt_mul_toInt (x := a) (y := b)
  rw [product2, BitVec.toInt_mul, BitVec.toInt_signExtend_of_le (by decide), BitVec.toInt_signExtend_of_le (by decide),
    Int.bmod_eq_of_le (by omega) (by omega)]

/-- A shift of at most 16 keeps the 16 bits of the result inside the product. -/
theorem multiplyShiftSigned_eq (hc : c ≤ 16) :
    multiplyShiftSigned c a b = BitVec.ofInt 16 (a.toInt * b.toInt / 2 ^ c) := by
  rw [← product2_toInt, ← setWidth_sshiftRight (by decide) (product2 a b) c]
  apply BitVec.eq_of_getLsbD_eq
  intro k hk
  rw [multiplyShiftSigned, getLsbD_fld, BitVec.getLsbD_ushiftRight, BitVec.getLsbD_setWidth, BitVec.getLsbD_sshiftRight,
    decide_eq_false (by omega : ¬ 32 ≤ k), if_pos (by omega), Nat.zero_add, Bool.not_false, Bool.true_and]
  rfl

theorem multiplyShiftUnsigned_toNat :
    (multiplyShiftUnsigned c a b).toNat = a.toNat * b.toNat / 2 ^ c % 2 ^ 16 := by
  have hlt : a.toNat * b.toNat < 2 ^ 32 :=
    calc a.toNat * b.toNat < 2 ^ 16 * 2 ^ 16 := Nat.mul_lt_mul'' a.isLt b.isLt
      _ = 2 ^ 32 := by decide
  rw [multiplyShiftUnsigned, fld, BitVec.extractLsb'_toNat, BitVec.toNat_ushiftRight, BitVec.toNat_mul,
    BitVec.toNat_setWidth, BitVec.toNat_setWidth, Nat.mod_eq_of_lt (by omega : a.toNat < 2 ^ 32),
    Nat.mod_eq_of_lt (by omega : b.toNat < 2 ^ 32), Nat.mod_eq_of_lt hlt, Nat.shiftRight_zero,
    Nat.shiftRight_eq_div_pow]

theorem minSigned_toInt : (minSigned a b).toInt = min a.toInt b.toInt := by
  rw [min_def_lt, minSigned, apply_ite BitVec.toInt]
  simp only [BitVec.slt_iff_toInt_lt]

theorem maxSigned_toInt : (maxSigned a b).toInt = max a.toInt b.toInt := by
  rw [max_def_lt, maxSigned, apply_ite BitVec.toInt]
  simp only [BitVec.slt_iff_toInt_lt]

end

theorem minUnsigned_toNat (a b : BitVec 8) : (minUnsigned a b).toNat = min a.toNat b.toNat := by
  rw [min_def_lt, minUnsigned, apply_ite BitVec.toNat]
  simp only [BitVec.lt_def]

theorem maxUnsigned_toNat (a b : BitVec 8) : (maxUnsigned a b).toNat = max a.toNat b.toNat := by
  rw [max_def_lt, maxUnsigned, apply_ite BitVec.toNat]
  simp only [BitVec.lt_def]

section
variable (a b : Word) {i : Nat}

theorem wordOf_multiply (hi : i < 2) :
    (wordOf (multiplyRight a b) i).toInt = (halfOf a (2 * i)).toInt * (halfOf b (2 * i)).toInt ∧
      (wordOf (multiplyLeft a b) i).toInt = (halfOf a (2 * i + 1)).toInt * (halfOf b (2 * i + 1)).toInt := by
  rw [← product2_toInt, ← product2_toInt]
  exact ⟨congrArg BitVec.toInt (wordOf_ofWords (fun i => product2 (halfOf a (2 * i)) (halfOf b (2 * i))) hi),
    congrArg BitVec.toInt (wordOf_ofWords (fun i => product2 (halfOf a (2 * i + 1)) (halfOf b (2 * i + 1))) hi)⟩

/-! #### Narrowing (R882) -/

/-- `pack2` narrows the first operand's halves into the low bytes, the second's into the high bytes. -/
theorem byteOf_pack2 (sat : Int → BitVec 8) (hi : i < 4) :
    byteOf (pack2 sat a b) i = sat (halfOf a i).toInt ∧ byteOf (pack2 sat a b) (i + 4) = sat (halfOf b i).toInt := by
  rw [pack2, byteOf_ofBytes _ (by omega), byteOf_ofBytes _ (by omega), if_pos hi, if_neg (by omega),
    Nat.add_sub_cancel]
  exact ⟨rfl, rfl⟩

theorem halfOf_pack4 (hi : i < 2) : halfOf (pack4 a b) i = satSigned 16 (wordOf a i).toInt ∧
    halfOf (pack4 a b) (i + 2) = satSigned 16 (wordOf b i).toInt := by
  rw [pack4, halfOf_ofHalves _ (by omega), halfOf_ofHalves _ (by omega), if_pos hi, if_neg (by omega),
    Nat.add_sub_cancel]
  exact ⟨rfl, rfl⟩

theorem pack4_clamps (hi : i < 2) :
    (halfOf (pack4 a b) i).toInt = max (-32768) (min 32767 (wordOf a i).toInt) ∧
      (halfOf (pack4 a b) (i + 2)).toInt = max (-32768) (min 32767 (wordOf b i).toInt) := by
  obtain ⟨hlow, hhigh⟩ := halfOf_pack4 a b hi
  rw [hlow, hhigh]
  exact ⟨satSigned_toInt 15 _, satSigned_toInt 15 _⟩

theorem pack2_clamps (hi : i < 4) :
    (byteOf (pack2 (satSigned 8) a b) i).toInt = max (-128) (min 127 (halfOf a i).toInt) ∧
      (byteOf (pack2 (satSigned 8) a b) (i + 4)).toInt = max (-128) (min 127 (halfOf b i).toInt) ∧
      ((byteOf (pack2 (satUnsigned 8) a b) i).toNat : Int) = max 0 (min 255 (halfOf a i).toInt) ∧
      ((byteOf (pack2 (satUnsigned 8) a b) (i + 4)).toNat : Int) = max 0 (min 255 (halfOf b i).toInt) := by
  obtain ⟨hlow, hhigh⟩ := byteOf_pack2 a b (satSigned 8) hi
  obtain ⟨ulow, uhigh⟩ := byteOf_pack2 a b (satUnsigned 8) hi
  rw [hlow, hhigh, ulow, uhigh]
  exact ⟨satSigned_toInt 7 _, satSigned_toInt 7 _, satUnsigned_toNat 8 _, satUnsigned_toNat 8 _⟩

/-! #### The sum of distances (R884) -/

theorem natAbs_sub_eq (x y : Nat) : ((x : Int) - y).natAbs = (x - y) + (y - x) := by omega

/-- Eight distances of bytes fit into a register. -/
theorem sumAbsDiff_toNat : (sumAbsDiff a b).toNat =
    ∑ i ∈ Finset.range 8, (((byteOf a i).toNat : Int) - (byteOf b i).toNat).natAbs := by
  have hle : ∑ i ∈ Finset.range 8, (((byteOf a i).toNat : Int) - (byteOf b i).toNat).natAbs ≤ 8 * 255 :=
    Finset.sum_le_card_nsmul (Finset.range 8) _ 255 fun i _ => by
      have ha := (byteOf a i).isLt
      have hb := (byteOf b i).isLt
      omega
  have hsum : (((List.range 8).map fun i => ((byteOf a i).toNat - (byteOf b i).toNat) +
      ((byteOf b i).toNat - (byteOf a i).toNat)).sum) =
      ∑ i ∈ Finset.range 8, (((byteOf a i).toNat : Int) - (byteOf b i).toNat).natAbs := by
    simp only [natAbs_sub_eq]
    rfl
  rw [sumAbsDiff, hsum, BitVec.toNat_ofNat, Nat.mod_eq_of_lt (by omega)]

end

/-- Settles O4: every instruction is its checks and then its value, and the values are as R861 to R886 say. -/
theorem parallelInstructionsWriteResult : Obligations.ParallelInstructionsWriteResult := by
  refine ⟨fun s qp r1 r2 r3 n m4 m8 hq hn => ⟨fun f hf => ?_, ?_⟩,
    fun s qp r1 r2 r3 hr => ⟨fun f hf => ?_, fun n hn => ?_, fun n => ?_, fun m v hv => ?_, fun m => ?_⟩,
    fun s qp r1 r2 r3 hq => ⟨?_, ?_, fun m hm => ?_⟩, ?_⟩
  · exact traps_of_writeGr hq (badTarget_of_noTarget hn) (exec_parallelForms s qp r1 r2 r3 f hf)
  · have traps {i : Instr} {v : Gr} (hi : exec i s = writeGr qp r1 v s) : Traps i s illegalOperation :=
      traps_of_writeGr hq (badTarget_of_noTarget hn) hi
    simp only [List.forall_mem_cons, List.not_mem_nil, false_imp_iff, implies_true, and_true]
    exact ⟨traps_of_reservedChecks hq hn (shiftAdd2_eq s qp r1 r2 r3 shiftLeftAdd2 n),
      traps_of_reservedChecks hq hn (shiftAdd2_eq s qp r1 r2 r3 shiftRightAdd2 n), traps rfl, traps rfl,
      traps_of_reservedChecks hq hn (muxBytes_eq s qp r1 r2 m4), traps rfl⟩
  · exact writesGr_of_writeGr hr (exec_parallelForms s qp r1 r2 r3 f hf)
  · exact ⟨writesGr_of_reservedChecks hr (beq_false_of_ne hn) (shiftAdd2_eq s qp r1 r2 r3 shiftLeftAdd2 n),
      writesGr_of_reservedChecks hr (beq_false_of_ne hn) (shiftAdd2_eq s qp r1 r2 r3 shiftRightAdd2 n)⟩
  · exact ⟨writesGr_of_writeGr hr rfl, writesGr_of_writeGr hr rfl⟩
  · exact muxBytes_writes hr hv
  · exact writesGr_of_writeGr hr rfl
  · exact traps_of_reserved hq rfl (shiftAdd2_eq s qp r1 r2 r3 shiftLeftAdd2 3)
  · exact traps_of_reserved hq rfl (shiftAdd2_eq s qp r1 r2 r3 shiftRightAdd2 3)
  · exact traps_of_reserved hq (by rw [permuteBytes_eq_none hm]; rfl) (muxBytes_eq s qp r1 r2 m)
  refine ⟨fun f a b i => byteOf_bytewise a b f, fun f a b i => halfOf_halfwise a b f,
    fun f a b i => wordOf_wordwise a b f, fun n a b => ⟨satSigned_toInt n _, satSigned_toInt n _, addUuu_toNat a b,
      subUuu_toNat a b, satUnsigned_toNat (n + 1) _, satUnsigned_toNat (n + 1) _, parallelEq_eq_ite a b,
      parallelGt_eq_ite a b⟩,
    fun a i hi => ⟨⟨_, permuteBytes_broadcast a, byteOf_ofBytes _ hi⟩, ⟨_, permuteBytes_mix a, byteOf_ofBytes _ hi⟩,
      ⟨_, permuteBytes_shuffle a, byteOf_ofBytes _ hi⟩, ⟨_, permuteBytes_alternate a, byteOf_ofBytes _ hi⟩,
      ⟨_, permuteBytes_reverse a, byteOf_ofBytes _ hi⟩⟩,
    fun a => ⟨permuteBytes_reverse_twice a, permuteHalves_identity a⟩,
    fun n a b => ⟨average_toNat a b, averageRaz_toNat a b, averageSub_eq a b⟩,
    fun a b c => ⟨shiftLeftAdd2_toInt a b c, shiftRightAdd2_toInt a b c, multiplyShiftSigned_eq a b c,
      multiplyShiftUnsigned_toNat a b c, minSigned_toInt a b, maxSigned_toInt a b⟩,
    fun a b => ⟨minUnsigned_toNat a b, maxUnsigned_toNat a b⟩,
    fun a b i hi => ⟨(wordOf_multiply a b hi).1, (wordOf_multiply a b hi).2, pack4_clamps a b hi,
      fun o => halfOf_unpack2_mix2 a b o hi⟩,
    wordOf_unpack4_mix4, fun a b i o hi => ?_, sumAbsDiff_toNat, fun a m i hi => halfOf_permuteHalves a m hi⟩
  obtain ⟨heven, hodd, mixEven, mixOdd⟩ := byteOf_unpack1_mix1 a b o hi
  exact ⟨heven, hodd, mixEven, mixOdd, pack2_clamps a b hi⟩

end Sys2Proof.Machine
end

section
/-! ### The checks of a floating-point instruction, and moves between the register files -/
namespace Sys2Proof.Machine

/-! #### Which partitions a Disabled Floating-point Register fault names (R72) -/

theorem getLsbD_disabledCode (s : State) (regs : List (BitVec 7)) (k : Nat) : (s.disabledCode regs).getLsbD k =
    ((decide (k = 0) && s.psrBit Psr.dfl && regs.any (fun f => decide (2 ≤ f.toNat ∧ f.toNat < 32))) ||
      (decide (k = 1) && s.psrBit Psr.dfh && regs.any (fun f => decide (32 ≤ f.toNat)))) := by
  have one_bit : (1 : BitVec 16).getLsbD k = decide (k = 0) := BitVec.getLsbD_one.trans (by simp)
  have two_bit : (2 : BitVec 16).getLsbD k = decide (k = 1) := (BitVec.getLsbD_twoPow (w := 16) 1 k).trans (by
    simp [eq_comm])
  have bit_ite (c : Bool) (v : BitVec 16) : (if c then v else 0).getLsbD k = (v.getLsbD k && c) := by
    cases c <;> simp
  rw [State.disabledCode, BitVec.getLsbD_or, bit_ite, bit_ite, one_bit, two_bit, Bool.and_assoc, Bool.and_assoc]

/-! #### Target and partitions (R17, R72) -/

section
variable {i : Instr} {s : State} {qp : BitVec 6} {f1 r : BitVec 7} {regs : List (BitVec 7)} {rest : Unit → Body}
  {b : Body}

/-- FR0 and FR1 are no targets (R17). -/
theorem fpTarget_iff : (f1 == 0 || f1 == 1) = true ↔ f1 = 0 ∨ f1 = 1 := by simp

/-- The body of an instruction that writes FR `f1` and names `regs`: its target, then its partitions are looked at. -/
def State.fpChecked (s : State) (f1 : BitVec 7) (regs : List (BitVec 7)) (rest : Unit → Body) : Body :=
  checkFpTarget f1 >>= fun _ => s.checkFp regs >>= rest

theorem fpStops_of_exec (hi : exec i s = finish s (s.fpChecked f1 regs rest)) : FpStops i s f1 regs := by
  refine ⟨fun hbad => traps_of_check (fpTarget_iff.mpr hbad) hi, fun h0 h1 hd => ?_⟩
  have hgood : (f1 == 0 || f1 == 1) = false := Bool.eq_false_of_not_eq_true (mt fpTarget_iff.mp (not_or.mpr ⟨h0, h1⟩))
  rw [State.fpChecked, checkFpTarget, hgood, check_false_bind] at hi
  exact traps_of_check (bne_iff_ne.mpr hd) hi

theorem fpChecked_of_enabled (h0 : f1 ≠ 0) (h1 : f1 ≠ 1) (hd : s.disabledCode regs = 0) :
    s.fpChecked f1 regs rest = rest () := by
  have hgood : (f1 == 0 || f1 == 1) = false := Bool.eq_false_of_not_eq_true (mt fpTarget_iff.mp (not_or.mpr ⟨h0, h1⟩))
  rw [State.fpChecked, checkFpTarget, hgood, check_false_bind]
  exact bind_of_ok (checkFp_of_enabled hd)

/-- With PR[qp] 1 a predicated instruction is its body. -/
theorem exec_of_predicate (hq : s.prBit qp = true) (hi : exec i s = predicated qp s b) : exec i s = finish s b := by
  rwa [predicated, if_pos hq] at hi

/-! #### setf and getf (R962, R963) -/

theorem setFrFrom_stops {image : Word → Fr} (hq : s.prBit qp = true) (hi : exec i s = setFrFrom image qp f1 r s) :
    FpStops i s f1 [f1] :=
  fpStops_of_exec (exec_of_predicate hq hi)

theorem setFrFrom_writes {image : Word → Fr} (hq : s.prBit qp = true) (hss : s.psrBit Psr.ss = false)
    (hf : FrOk s f1) (hi : exec i s = setFrFrom image qp f1 r s) :
    WritesFr i s s f1 (if (s.gr r).nat then Fr.natVal else image (s.gr r).val) := by
  obtain ⟨h0, h1, hd⟩ := hf
  exact writesFr_of_exec hss h0 h1
    ((exec_of_predicate hq hi).trans (congrArg (finish s) (fpChecked_of_enabled h0 h1 hd)))

theorem getFrTo_stops {image : Fr → Word} (hq : s.prBit qp = true) (hi : exec i s = getFrTo image qp r f1 s) :
    (NoTarget s r → Traps i s illegalOperation) ∧
      (¬ NoTarget s r → s.disabledCode [f1] ≠ 0 → Traps i s (disabledFp (s.disabledCode [f1]))) := by
  refine ⟨fun hn => traps_of_check (badTarget_of_noTarget hn) (exec_of_predicate hq hi), fun hn hd => ?_⟩
  rw [getFrTo, State.checkTarget, badTarget_of_target hn, check_false_bind] at hi
  exact traps_of_check (bne_iff_ne.mpr hd) (exec_of_predicate hq hi)

theorem getFrTo_writes {image : Fr → Word} (hq : s.prBit qp = true) (hss : s.psrBit Psr.ss = false)
    (hb : s.badTarget r = false) (hd : s.disabledCode [f1] = 0) (hi : exec i s = getFrTo image qp r f1 s) :
    WritesGr i s r ⟨image (s.fpr f1), decide (s.fpr f1 = Fr.natVal)⟩ := by
  rw [getFrTo, State.checkTarget, hb, check_false_bind] at hi
  exact writesGr_of_exec hss hb
    ((exec_of_predicate hq hi).trans (congrArg (finish s) (bind_of_ok (checkFp_of_enabled hd))))

end

/-- The low part of a value is a field of it. -/
theorem truncate_eq_fld {n : Nat} (v : BitVec n) (k : Nat) : v.truncate k = fld v 0 k := by
  apply BitVec.eq_of_getLsbD_eq
  intro j hj
  rw [getLsbD_fld, BitVec.getLsbD_setWidth, Nat.zero_add]

theorem exec_setf (s : State) (qp : BitVec 6) (f1 r2 : BitVec 7) :
    exec (.setfSigM18 qp f1 r2) s = setFrFrom Fr.ofInteger qp f1 r2 s ∧
      exec (.setfExpM18 qp f1 r2) s = setFrFrom (fun v => ⟨bit v 17, fld v 0 17, 0x8000000000000000⟩) qp f1 r2 s ∧
      exec (.setfSM18 qp f1 r2) s = setFrFrom (fun v => frOfSingle (v.truncate 32)) qp f1 r2 s ∧
      exec (.setfDM18 qp f1 r2) s = setFrFrom frOfDouble qp f1 r2 s := by
  simp only [truncate_eq_fld]
  exact ⟨rfl, rfl, rfl, rfl⟩

theorem exec_getf (s : State) (qp : BitVec 6) (r1 f2 : BitVec 7) :
    exec (.getfSigM19 qp r1 f2) s = getFrTo (fun x => x.sig) qp r1 f2 s ∧
      exec (.getfExpM19 qp r1 f2) s =
        getFrTo (fun x => x.exp.zeroExtend 64 ||| if x.sign then 0x20000 else 0) qp r1 f2 s ∧
      exec (.getfSM19 qp r1 f2) s = getFrTo (fun x => x.toSingle.zeroExtend 64) qp r1 f2 s ∧
      exec (.getfDM19 qp r1 f2) s = getFrTo Fr.toDouble qp r1 f2 s := by
  simp only [← signExp_eq]
  exact ⟨rfl, rfl, rfl, rfl⟩

/-- Settles O18: `setf` is `setFrFrom` of its image, `getf` is `getFrTo` of its image. -/
theorem registerFileMoves : Obligations.RegisterFileMoves := by
  refine ⟨getLsbD_disabledCode, fun s qp f r hq => ?_, fun s qp f r hq hss => ?_⟩
  all_goals obtain ⟨setfSig, setfExp, setfS, setfD⟩ := exec_setf s qp f r
  all_goals obtain ⟨getfSig, getfExp, getfS, getfD⟩ := exec_getf s qp r f
  · simp only [List.forall_mem_cons, List.not_mem_nil, false_imp_iff, implies_true, and_true]
    exact ⟨⟨setFrFrom_stops hq setfSig, setFrFrom_stops hq setfExp, setFrFrom_stops hq setfS, setFrFrom_stops hq setfD⟩,
      getFrTo_stops hq getfSig, getFrTo_stops hq getfExp, getFrTo_stops hq getfS, getFrTo_stops hq getfD⟩
  · exact ⟨fun hf => ⟨setFrFrom_writes hq hss hf setfSig, setFrFrom_writes hq hss hf setfExp,
        setFrFrom_writes hq hss hf setfS, setFrFrom_writes hq hss hf setfD⟩,
      fun hb hd => ⟨getFrTo_writes hq hss hb hd getfSig, getFrTo_writes hq hss hb hd getfExp,
        getFrTo_writes hq hss hb hd getfS, getFrTo_writes hq hss hb hd getfD⟩⟩

end Sys2Proof.Machine
end

section
/-! ### Floating-point instructions without arithmetic exceptions -/
namespace Sys2Proof.Machine

/-! #### A NaTVal among the sources (R925) -/

theorem any_natVal_iff (s : State) (srcs : List (BitVec 7)) :
    (srcs.any fun f => s.fpr f == Fr.natVal) = true ↔ natSource s srcs := by
  simp [natSource, Fr.natVal]

theorem any_natVal_of_not {s : State} {srcs : List (BitVec 7)} (h : ¬ natSource s srcs) :
    (srcs.any fun f => s.fpr f == Fr.natVal) = false :=
  Bool.eq_false_of_not_eq_true (mt (any_natVal_iff s srcs).mp h)

section
variable {i : Instr} {s : State} {qp : BitVec 6} {f1 : BitVec 7} {srcs : List (BitVec 7)} {v : Fr}

/-- An instruction that writes FR `f1` and does nothing else (R925). -/
theorem writeFp_writes (hq : s.prBit qp = true) (hss : s.psrBit Psr.ss = false) (h0 : f1 ≠ 0) (h1 : f1 ≠ 1)
    (hi : exec i s = writeFp qp f1 srcs v s) (hd : s.disabledCode (f1 :: srcs) = 0) :
    (natSource s srcs → WritesFr i s s f1 ⟨false, 0x1FFFE, 0⟩) ∧ (¬ natSource s srcs → WritesFr i s s f1 v) := by
  have hexec : exec i s = finish s
      (done (s.setFpr f1 (if srcs.any (fun f => s.fpr f == Fr.natVal) then Fr.natVal else v))) :=
    (exec_of_predicate hq hi).trans (congrArg (finish s) (fpChecked_of_enabled h0 h1 hd))
  refine ⟨fun hn => ?_, fun hn => ?_⟩
  · rw [if_pos ((any_natVal_iff s srcs).mpr hn)] at hexec
    exact writesFr_of_exec hss h0 h1 hexec
  · rw [any_natVal_of_not hn, if_neg Bool.false_ne_true] at hexec
    exact writesFr_of_exec hss h0 h1 hexec

theorem writeFp_stops (hq : s.prBit qp = true) (hi : exec i s = writeFp qp f1 srcs v s) : FpStops i s f1 (f1 :: srcs) :=
  fpStops_of_exec (exec_of_predicate hq hi)

end

/-! #### Each form of F9 writes its value (R947 to R953) -/

theorem exec_fpMoveForms (s : State) (qp : BitVec 6) (f1 f2 f3 : BitVec 7) : ∀ g ∈ fpMoveForms,
    exec (g.1 qp f1 f2 f3) s = writeFp qp f1 [f2, f3] (g.2 (s.fpr f2) (s.fpr f3)) s := by
  simp only [fpMoveForms, List.forall_mem_cons, List.not_mem_nil, false_imp_iff, implies_true, and_true]
  and_intros
  all_goals rfl

/-! #### The products of `xma`, and `fselect` (R936, R937) -/

section
variable (a b c : Word)

theorem xmaSigned_eq : xmaSigned a b c = BitVec.ofInt 128 (a.toInt * b.toInt + c.toNat) := by
  rw [xmaSigned, BitVec.ofInt_add, BitVec.ofInt_mul, BitVec.ofInt_natCast, BitVec.ofNat_toNat]
  rfl

theorem xmaUnsigned_eq : xmaUnsigned a b c = BitVec.ofNat 128 (a.toNat * b.toNat + c.toNat) := by
  rw [xmaUnsigned, BitVec.ofNat_add, BitVec.ofNat_mul, BitVec.ofNat_toNat, BitVec.ofNat_toNat, BitVec.ofNat_toNat]

theorem lowHalf_ofInt (x : Int) : (fld (BitVec.ofInt 128 x) 0 64 : Word) = BitVec.ofInt 64 x := by
  apply BitVec.eq_of_toNat_eq
  rw [fld, BitVec.extractLsb'_toNat, BitVec.toNat_ofInt, BitVec.toNat_ofInt, Nat.shiftRight_zero]
  omega

theorem highHalf_ofInt (x : Int) : (fld (BitVec.ofInt 128 x) 64 64 : Word) = BitVec.ofInt 64 (x / 2 ^ 64) := by
  apply BitVec.eq_of_toNat_eq
  rw [fld, BitVec.extractLsb'_toNat, BitVec.toNat_ofInt, BitVec.toNat_ofInt, Nat.shiftRight_eq_div_pow]
  omega

theorem highHalf_ofNat (x : Nat) : (fld (BitVec.ofNat 128 x) 64 64 : Word) = BitVec.ofNat 64 (x / 2 ^ 64) := by
  apply BitVec.eq_of_toNat_eq
  rw [fld, BitVec.extractLsb'_toNat, BitVec.toNat_ofNat, BitVec.toNat_ofNat, Nat.shiftRight_eq_div_pow]
  omega

end

theorem exec_xma (s : State) (qp : BitVec 6) (f1 f2 f3 f4 : BitVec 7) :
    let signed : Int := (s.fpr f3).sig.toInt * (s.fpr f4).sig.toInt + (s.fpr f2).sig.toNat
    let unsigned : Nat := (s.fpr f3).sig.toNat * (s.fpr f4).sig.toNat + (s.fpr f2).sig.toNat
    exec (.xmaLF2 qp f1 f2 f3 f4) s = writeFp qp f1 [f2, f3, f4] (Fr.ofInteger (BitVec.ofInt 64 signed)) s ∧
      exec (.xmaHF2 qp f1 f2 f3 f4) s =
        writeFp qp f1 [f2, f3, f4] (Fr.ofInteger (BitVec.ofInt 64 (signed / 2 ^ 64))) s ∧
      exec (.xmaHuF2 qp f1 f2 f3 f4) s =
        writeFp qp f1 [f2, f3, f4] (Fr.ofInteger (BitVec.ofNat 64 (unsigned / 2 ^ 64))) s := by
  intro signed unsigned
  rw [← lowHalf_ofInt, ← highHalf_ofInt, ← highHalf_ofNat, ← xmaSigned_eq, ← xmaUnsigned_eq]
  exact ⟨rfl, rfl, rfl⟩

theorem exec_fselect (s : State) (qp : BitVec 6) (f1 f2 f3 f4 : BitVec 7) : exec (.fselectF3 qp f1 f2 f3 f4) s =
    writeFp qp f1 [f2, f3, f4]
      (Fr.ofInteger (((s.fpr f3).sig &&& (s.fpr f2).sig) ||| ((s.fpr f4).sig &&& ~~~(s.fpr f2).sig))) s := rfl

theorem exec_fcvtXf (s : State) (qp : BitVec 6) (f1 f2 : BitVec 7) : exec (.fcvtXfF11 qp f1 f2) s =
    writeFp qp f1 [f2] (integerToFr (s.fpr f2).sig) s := rfl

/-! #### The status fields (R89, R958 to R960) -/

section
variable {s : State} {qp : BitVec 6} {sf : BitVec 2}

theorem controlsReserved_iff (sf : BitVec 2) (c : BitVec 7) :
    controlsReserved sf c = true ↔ (fld c 2 2 : BitVec 2) = 1 ∨ (sf = 0 ∧ c.getLsbD 6 = true) := by
  simp [controlsReserved, bit_eq]

/-- The controls that `fsetc` writes: those of sf0 under the masks (R958). -/
def State.maskedControls (s : State) (om am : BitVec 7) : BitVec 7 := (fpsrControls s.ar.fpsr 0 &&& am) ||| om

theorem fsetc_ends (hq : s.prBit qp = true) (hss : s.psrBit Psr.ss = false) (om am : BitVec 7) :
    (controlsReserved sf (s.maskedControls om am) = false → Completes (.fsetcF12 qp sf om am) s
        { s with ar := { s.ar with fpsr := setFpsrControls s.ar.fpsr sf (s.maskedControls om am) } }) ∧
      (controlsReserved sf (s.maskedControls om am) = true →
        Traps (.fsetcF12 qp sf om am) s reservedRegisterField) := by
  have hexec : exec (.fsetcF12 qp sf om am) s = predicated qp s
      (check (controlsReserved sf (s.maskedControls om am)) reservedRegisterField >>= fun _ =>
        done { s with ar := { s.ar with fpsr := setFpsrControls s.ar.fpsr sf (s.maskedControls om am) } }) := rfl
  refine ⟨fun hc => ?_, fun hc => traps_of_check hc (exec_of_predicate hq hexec)⟩
  rw [hc, check_false_bind] at hexec
  exact completes_of_predicated hq hss rfl rfl hexec

theorem fchkfFails_eq_false_iff : s.fchkfFails sf = false ↔
    fpsrFlags s.ar.fpsr sf &&& ~~~fpsrTraps s.ar.fpsr = 0 ∧
      fpsrFlags s.ar.fpsr sf &&& ~~~fpsrFlags s.ar.fpsr 0 = 0 := by
  simp [State.fchkfFails]

theorem fchkf_reaches (hq : s.prBit qp = true) (hs : Untrapped s) (disp : BitVec 21) :
    Reaches (.fchkfF14 qp sf disp) s s (if s.fchkfFails sf then relTarget s disp else s.nextPlace) := by
  have hexec : exec (.fchkfF14 qp sf disp) s =
      predicated qp s (if s.fchkfFails sf then taken s (s.target25 disp) else done s) := rfl
  have h := reaches_of_check hq hs rfl rfl hexec
  rwa [ite_self] at h

end

/-- Settles O51: the forms that write FR f1 are `writeFp` of their value, the others their checks and then their effect. -/
theorem fpMovesAndIntegerProducts : Obligations.FpMovesAndIntegerProducts := by
  refine ⟨fun s qp f1 f2 f3 f4 hq => ⟨?_, fun g hg => ?_, ?_⟩,
    fun s qp f1 f2 f3 f4 hq hss => ⟨fun h0 h1 => ?_, fun sf om am => ⟨fun hc => ?_, fun hc => ?_, ?_⟩,
      fun sf disp htb => ?_⟩⟩
  · obtain ⟨xmaL, xmaH, xmaHu⟩ := exec_xma s qp f1 f2 f3 f4
    simp only [List.forall_mem_cons, List.not_mem_nil, false_imp_iff, implies_true, and_true]
    exact ⟨writeFp_stops hq xmaL, writeFp_stops hq xmaH, writeFp_stops hq xmaHu, writeFp_stops hq (exec_fselect ..)⟩
  · exact writeFp_stops hq (exec_fpMoveForms s qp f1 f2 f3 g hg)
  · exact writeFp_stops hq (exec_fcvtXf ..)
  · obtain ⟨xmaL, xmaH, xmaHu⟩ := exec_xma s qp f1 f2 f3 f4
    exact ⟨writeFp_writes hq hss h0 h1 xmaL, writeFp_writes hq hss h0 h1 xmaH, writeFp_writes hq hss h0 h1 xmaHu,
      writeFp_writes hq hss h0 h1 (exec_fselect ..),
      fun g hg => writeFp_writes hq hss h0 h1 (exec_fpMoveForms s qp f1 f2 f3 g hg),
      writeFp_writes hq hss h0 h1 (exec_fcvtXf ..)⟩
  · exact (fsetc_ends hq hss om am).1 (Bool.eq_false_of_not_eq_true (mt (controlsReserved_iff sf _).mp hc))
  · exact (fsetc_ends hq hss om am).2 ((controlsReserved_iff sf _).mpr hc)
  · exact completes_of_predicated hq hss rfl rfl rfl
  · have h := fchkf_reaches (sf := sf) hq ⟨hss, htb⟩ disp
    simp only [← Bool.not_eq_false, fchkfFails_eq_false_iff, ite_not] at h
    exact h

end Sys2Proof.Machine
end

section
/-! ### Floating-point arithmetic -/
namespace Sys2Proof.Machine

/-! #### Fault and trap codes (R1143) -/

/-- The fault code of two halves is their bits side by side. -/
theorem append_bne_zero (hi lo : BitVec 4) : ((hi ++ lo : BitVec 8) != 0) = (lo != 0 || hi != 0) := by
  revert hi lo; decide

theorem zeroExtend_bne_zero (b : BitVec 4) : ((b.zeroExtend 8 : BitVec 8) != 0) = (b != 0) := by
  revert b; decide

theorem zero_append_eq (b : BitVec 4) : ((0 : BitVec 4) ++ b : BitVec 8) = b.zeroExtend 8 := by
  revert b; decide

/-- The Floating-point Exception fault with a code of two halves (R1143). -/
def fpFaultOf (code : BitVec 8) : Interruption := { vector := .floatingPointFault, code := code.zeroExtend 16 }

theorem check_fpFault_halves (lo hi : BitVec 4) :
    check (lo != 0 || hi != 0) (fpFault lo hi) = check ((hi ++ lo : BitVec 8) != 0) (fpFaultOf (hi ++ lo)) := by
  rw [append_bne_zero]; rfl

theorem check_fpFault_scalar (lo : BitVec 4) :
    check (lo != 0) (fpFault lo 0) = check (lo.zeroExtend 8 != 0) (fpFaultOf (lo.zeroExtend 8)) := by
  rw [zeroExtend_bne_zero, fpFault, zero_append_eq]; rfl

/-- Bit 0 of a trap's code names the Floating-point Exception trap. -/
theorem bit_fpTrapCode {lo hi : BitVec 4} {c : BitVec 16} (h : fpTrapCode lo hi = some c) : bit c 0 = true := by
  unfold fpTrapCode at h
  split at h
  · cases h
  · obtain rfl := Option.some.inj h
    simp [bit]

/-! #### Completion with a trap (R924, R1150) -/

/-- The completion of an instruction after which the Floating-point Exception trap is due. -/
theorem retire_trapped (u : State) {c : BitVec 16} (hss : u.psrBit Psr.ss = false) (hc : bit c 0 = true) :
    ∃ w, retire { st := u, fpTrap := some c } =
        deliver { kind := .trap, vector := .floatingPointTrap, code := c, ei := some u.ri } w ∧
      w.place = u.nextPlace ∧ w.settled = u.settled := by
  have hclear : (u.cleared .sequential).psrBit Psr.ss = false := (cleared_bit u .sequential _ (by decide)).trans hss
  have hcode : trapCode (u.cleared .sequential) .sequential (some c) = c := by simp [trapCode, hclear]
  have hne : c ≠ 0 := fun h => by rw [h] at hc; exact absurd hc (by decide)
  refine ⟨((u.cleared .sequential).goto .sequential).countEvent Config.eventRetired, ?_, ?_, ?_⟩
  · change takeTraps (trapCode (u.cleared .sequential) .sequential (some c)) (u.cleared .sequential).ri
      (((u.cleared .sequential).goto .sequential).countEvent Config.eventRetired) = _
    rw [hcode, cleared_ri, takeTraps, trapsUnimplemented_eq, if_neg Bool.false_ne_true, if_neg hne, trapVector, if_pos hc]
  · rw [countEvent_place, goto_place, cleared_nextPlace]
  · rw [countEvent_settled, goto_settled, cleared_settled]

/-! #### The skeleton (R925) -/

section
variable {i : Instr} {s : State} {qp : BitVec 6} {f1 : BitVec 7} {srcs : List (BitVec 7)} {sf : BitVec 2} {v : Fr}
  {x : FpFlags} {code : BitVec 8} {trap : Option (BitVec 16)}

/-- What an arithmetic instruction does once its target and its partitions are looked at (R925). -/
def State.arith (s : State) (f1 : BitVec 7) (srcs : List (BitVec 7)) (sf : BitVec 2) (v : Fr) (x : FpFlags)
    (code : BitVec 8) (trap : Option (BitVec 16)) : Body :=
  if srcs.any (fun f => s.fpr f == Fr.natVal) then done (s.setFpr f1 Fr.natVal)
  else check (code != 0) (fpFaultOf code) >>= fun _ =>
    .ok { st := (withFlags s sf x).setFpr f1 v, fpTrap := trap }

theorem scalarArith_eq (r : FpHalf Fr) : scalarArith qp f1 srcs sf r s = predicated qp s
    (s.fpChecked f1 (f1 :: srcs) fun _ => s.arith f1 srcs sf r.val r.flags
      ((faultBits (s.fpDisables sf) r.flags).zeroExtend 8)
      (fpTrapCode (trapBits (s.fpDisables sf) r.flags r.fpa) 0)) := by
  unfold State.arith
  rw [← check_fpFault_scalar]
  rfl

theorem parallelArith_eq (hi lo : FpHalf (BitVec 32)) : parallelArith qp f1 srcs sf hi lo s = predicated qp s
    (s.fpChecked f1 (f1 :: srcs) fun _ => s.arith f1 srcs sf ⟨false, 0x1003E, hi.val ++ lo.val⟩ (hi.flags.or lo.flags)
      (faultBits (s.fpDisables sf) hi.flags ++ faultBits (s.fpDisables sf) lo.flags)
      (fpTrapCode (trapBits (s.fpDisables sf) lo.flags lo.fpa) (trapBits (s.fpDisables sf) hi.flags hi.fpa))) := by
  unfold State.arith
  rw [← check_fpFault_halves]
  rfl

/-- Writing a floating-point register leaves the place. -/
theorem setFpr_nextPlace (s : State) (f : BitVec 7) (v : Fr) : (s.setFpr f v).nextPlace = s.nextPlace := by
  obtain ⟨hip, hri, -⟩ := sameRegisters_setFpr s f v
  rw [State.nextPlace, State.nextPlace, hip, hri]

theorem arithmetic_of_exec (hss : s.psrBit Psr.ss = false) (h0 : f1 ≠ 0) (h1 : f1 ≠ 1)
    (htrap : ∀ c, trap = some c → bit c 0 = true) (hi : exec i s = finish s (s.arith f1 srcs sf v x code trap)) :
    Arithmetic i s f1 srcs sf v x code trap := by
  refine ⟨fun hn => ?_, fun hn => ?_⟩
  · rw [State.arith, if_pos ((any_natVal_iff s srcs).mpr hn)] at hi
    exact writesFr_of_exec hss h0 h1 hi
  rw [State.arith, any_natVal_of_not hn, if_neg Bool.false_ne_true] at hi
  refine ⟨fun hcode => traps_of_check (bne_iff_ne.mpr hcode) hi, fun hcode hnone => ?_, fun hcode c hc => ?_⟩
  · rw [hcode, hnone] at hi
    exact writesFr_of_exec hss h0 h1 hi
  · rw [hcode, hc] at hi
    have hregs := sameRegisters_setFpr (withFlags s sf x) f1 v
    obtain ⟨u, hu, hplace, hset⟩ := retire_trapped ((withFlags s sf x).setFpr f1 v) (hregs.ss.trans hss) (htrap c hc)
    have hri : ((withFlags s sf x).setFpr f1 v).ri = s.ri := hregs.ri
    rw [hri] at hu
    exact ⟨_, u, hi, hu, hplace.trans (setFpr_nextPlace ..), hset⟩

theorem arithmetic_of_ready (hr : FpReady s qp (f1 :: srcs)) (h0 : f1 ≠ 0) (h1 : f1 ≠ 1) {lo hi : BitVec 4}
    (hexec : exec i s = predicated qp s
      (s.fpChecked f1 (f1 :: srcs) fun _ => s.arith f1 srcs sf v x code (fpTrapCode lo hi))) :
    Arithmetic i s f1 srcs sf v x code (fpTrapCode lo hi) := by
  obtain ⟨hq, hss, hd⟩ := hr
  exact arithmetic_of_exec hss h0 h1 (fun _ => bit_fpTrapCode)
    ((exec_of_predicate hq hexec).trans (congrArg (finish s) (fpChecked_of_enabled h0 h1 hd)))

theorem scalar_of_exec (hr : FpReady s qp (f1 :: srcs)) (h0 : f1 ≠ 0) (h1 : f1 ≠ 1) {r : FpHalf Fr}
    (hi : exec i s = scalarArith qp f1 srcs sf r s) : Scalar i s f1 srcs sf r :=
  arithmetic_of_ready hr h0 h1 (hi.trans (scalarArith_eq r))

theorem parallel_of_exec (hr : FpReady s qp (f1 :: srcs)) (h0 : f1 ≠ 0) (h1 : f1 ≠ 1) {hi lo : FpHalf (BitVec 32)}
    (hexec : exec i s = parallelArith qp f1 srcs sf hi lo s) : Parallel i s f1 srcs sf hi lo :=
  arithmetic_of_ready hr h0 h1 (hexec.trans (parallelArith_eq hi lo))

theorem scalarArith_stops (hq : s.prBit qp = true) {r : FpHalf Fr} (hi : exec i s = scalarArith qp f1 srcs sf r s) :
    FpStops i s f1 (f1 :: srcs) :=
  fpStops_of_exec (exec_of_predicate hq (hi.trans (scalarArith_eq r)))

theorem parallelArith_stops (hq : s.prBit qp = true) {hi lo : FpHalf (BitVec 32)}
    (hexec : exec i s = parallelArith qp f1 srcs sf hi lo s) : FpStops i s f1 (f1 :: srcs) :=
  fpStops_of_exec (exec_of_predicate hq (hexec.trans (parallelArith_eq hi lo)))

end

/-! #### Each form is its operation (R930 to R933, R944 to R946, R954 to R956) -/

section
variable (s : State) (qp : BitVec 6) (f1 f2 f3 f4 : BitVec 7) (sf : BitVec 2)

theorem exec_fmaForms : ∀ g ∈ fmaForms, exec (g.1 qp f1 f2 f3 f4 sf) s =
    multiplyAdd g.2.1 g.2.2 qp f1 f2 f3 f4 sf s := by
  simp only [fmaForms, List.forall_mem_cons, List.not_mem_nil, false_imp_iff, implies_true, and_true]
  and_intros
  all_goals rfl

theorem exec_parallelFmaForms : ∀ g ∈ parallelFmaForms, exec (g.1 qp f1 f2 f3 f4 sf) s =
    parallelMultiplyAdd g.2 qp f1 f2 f3 f4 sf s := by
  simp only [parallelFmaForms, List.forall_mem_cons, List.not_mem_nil, false_imp_iff, implies_true, and_true]
  and_intros
  all_goals rfl

theorem exec_minMaxForms : ∀ g ∈ minMaxForms, exec (g.1 qp f1 f2 f3 sf) s = minMax g.2 qp f1 f2 f3 sf s := by
  simp only [minMaxForms, List.forall_mem_cons, List.not_mem_nil, false_imp_iff, implies_true, and_true]
  and_intros
  all_goals rfl

theorem exec_parallelMinMaxForms : ∀ g ∈ parallelMinMaxForms, exec (g.1 qp f1 f2 f3 sf) s =
    parallelMinMax g.2 qp f1 f2 f3 sf s := by
  simp only [parallelMinMaxForms, List.forall_mem_cons, List.not_mem_nil, false_imp_iff, implies_true, and_true]
  and_intros
  all_goals rfl

theorem exec_parallelCompareForms : ∀ g ∈ parallelCompareForms, exec (g.1 qp f1 f2 f3 sf) s =
    parallelCompare g.2 qp f1 f2 f3 sf s := by
  simp only [parallelCompareForms, List.forall_mem_cons, List.not_mem_nil, false_imp_iff, implies_true, and_true]
  and_intros
  all_goals rfl

theorem exec_toIntegerForms : ∀ g ∈ toIntegerForms, exec (g.1 qp f1 f2 sf) s =
    convertToInteger g.2.1 g.2.2 qp f1 f2 sf s := by
  simp only [toIntegerForms, List.forall_mem_cons, List.not_mem_nil, false_imp_iff, implies_true, and_true]
  and_intros
  all_goals rfl

theorem exec_parallelToIntegerForms : ∀ g ∈ parallelToIntegerForms, exec (g.1 qp f1 f2 sf) s =
    parallelConvert g.2.1 g.2.2 qp f1 f2 sf s := by
  simp only [parallelToIntegerForms, List.forall_mem_cons, List.not_mem_nil, false_imp_iff, implies_true, and_true]
  and_intros
  all_goals rfl

end

/-- The addend of a parallel multiply-add in one half. -/
theorem addend_map (s : State) (f2 : BitVec 7) (f : Fr → Fr) :
    (s.addend f2).map f = if f2 = 0 then none else some (f (s.fpr f2)) := by
  rw [State.addend]
  split <;> rfl

/-- Settles O46: each form is `scalarArith` or `parallelArith` of its values, which the skeleton writes, faults or traps. -/
theorem fpArithmeticCompletes : Obligations.FpArithmeticCompletes := by
  refine ⟨fun s qp f1 f2 f3 f4 sf hq => ⟨fun g hg => ?_, fun g hg => ?_, fun g hg => ?_, fun g hg => ?_, fun g hg => ?_⟩,
    fun s qp f1 f2 f3 f4 sf h0 h1 => ⟨fun hr => ⟨fun g hg => ?_, fun g hg => ?_⟩,
      fun hr => ⟨fun g hg => ?_, fun g hg => ?_, fun g hg => ?_⟩, fun hr => ⟨fun g hg => ?_, fun g hg => ?_⟩⟩⟩
  · exact scalarArith_stops hq (exec_fmaForms s qp f1 f2 f3 f4 sf g hg)
  · exact parallelArith_stops hq (exec_parallelFmaForms s qp f1 f2 f3 f4 sf g hg)
  · rcases List.mem_append.mp hg with hg | hg
    · exact scalarArith_stops hq (exec_minMaxForms s qp f1 f2 f3 sf g hg)
    · exact parallelArith_stops hq (exec_parallelMinMaxForms s qp f1 f2 f3 sf g hg)
  · exact parallelArith_stops hq (exec_parallelCompareForms s qp f1 f2 f3 sf g hg)
  · rcases List.mem_append.mp hg with hg | hg
    · exact scalarArith_stops hq (exec_toIntegerForms s qp f1 f2 sf g hg)
    · exact parallelArith_stops hq (exec_parallelToIntegerForms s qp f1 f2 sf g hg)
  · exact scalar_of_exec hr h0 h1 (exec_fmaForms s qp f1 f2 f3 f4 sf g hg)
  · have hexec := exec_parallelFmaForms s qp f1 f2 f3 f4 sf g hg
    simp only [parallelMultiplyAdd, addend_map] at hexec
    exact parallel_of_exec hr h0 h1 hexec
  · exact scalar_of_exec hr h0 h1 (exec_minMaxForms s qp f1 f2 f3 sf g hg)
  · exact parallel_of_exec hr h0 h1 (exec_parallelMinMaxForms s qp f1 f2 f3 sf g hg)
  · exact parallel_of_exec hr h0 h1 (exec_parallelCompareForms s qp f1 f2 f3 sf g hg)
  · exact scalar_of_exec hr h0 h1 (exec_toIntegerForms s qp f1 f2 sf g hg)
  · exact parallel_of_exec hr h0 h1 (exec_parallelToIntegerForms s qp f1 f2 sf g hg)

end Sys2Proof.Machine
end

section
/-! ### Floating-point values as rational numbers, and their order -/
namespace Sys2Proof.Machine

/-! #### Classes (R922) -/

section
variable (f : Fr)

/-- The class of a register with the special exponent: the integer bit and the fraction decide. -/
theorem cls_of_special (h : f.exp = 0x1FFFF) : f.cls =
    if f.sig.getLsbD 63 = false then .unsupported else if f.sig = 0x8000000000000000 then .infinity
      else if f.sig.getLsbD 62 = true then .quiet else .signaling := by
  have hne : f ≠ Fr.natVal := fun e => by rw [e] at h; exact absurd h (by decide)
  rw [Fr.cls, if_neg hne, if_pos h]
  simp only [bit_eq, Bool.not_eq_true']
  rfl

/-- The class of any other register. -/
theorem cls_of_ordinary (h : f.exp ≠ 0x1FFFF) : f.cls =
    if f = Fr.natVal then .natVal else if f.sig = 0 then .zero else .finite := by
  rw [Fr.cls, if_neg h]

theorem cls_special_iff (h : f.exp = 0x1FFFF) :
    f.cls ≠ .natVal ∧ f.cls ≠ .zero ∧ f.cls ≠ .finite ∧ (f.cls = .infinity ↔ f.sig = 0x8000000000000000) ∧
      (f.cls = .unsupported ↔ ¬ f.sig.getLsbD 63 = true) ∧
      (f.cls = .quiet ↔ f.sig.getLsbD 63 = true ∧ f.sig.getLsbD 62 = true) ∧
      (f.cls = .signaling ↔ f.sig.getLsbD 63 = true ∧ f.sig.getLsbD 62 = false ∧ f.sig ≠ 0x8000000000000000) := by
  have hinf : (0x8000000000000000 : Word).getLsbD 63 = true ∧ (0x8000000000000000 : Word).getLsbD 62 = false := by
    decide
  rw [cls_of_special f h]
  grind

theorem cls_ordinary_iff (h : f.exp ≠ 0x1FFFF) :
    f.cls ≠ .infinity ∧ f.cls ≠ .unsupported ∧ f.cls ≠ .quiet ∧ f.cls ≠ .signaling ∧
      (f.cls = .natVal ↔ f = Fr.natVal) ∧ (f.cls = .zero ↔ f.sig = 0 ∧ f ≠ Fr.natVal) ∧
      (f.cls = .finite ↔ f.sig ≠ 0) := by
  have hnat : Fr.natVal.sig = 0 := rfl
  rw [cls_of_ordinary f h]
  grind

/-- What each class says of the exponent, the integer bit and the fraction. -/
theorem cls_iff :
    (f.cls = .natVal ↔ f = Fr.natVal) ∧ (f.cls = .zero ↔ ¬ f.exp = 0x1FFFF ∧ f.sig = 0 ∧ f ≠ Fr.natVal) ∧
      (f.cls = .finite ↔ ¬ f.exp = 0x1FFFF ∧ f.sig ≠ 0) ∧
      (f.cls = .infinity ↔ f.exp = 0x1FFFF ∧ f.sig = 0x8000000000000000) ∧
      (f.cls = .unsupported ↔ f.exp = 0x1FFFF ∧ ¬ f.sig.getLsbD 63 = true) ∧
      (f.cls = .quiet ↔ f.exp = 0x1FFFF ∧ f.sig.getLsbD 63 = true ∧ f.sig.getLsbD 62 = true) ∧
      (f.cls = .signaling ↔ f.exp = 0x1FFFF ∧ f.sig.getLsbD 63 = true ∧ f.sig.getLsbD 62 = false ∧
        f.sig ≠ 0x8000000000000000) := by
  by_cases h : f.exp = 0x1FFFF
  · have hne : f ≠ Fr.natVal := fun e => by rw [e] at h; exact absurd h (by decide)
    have hspecial := cls_special_iff f h
    grind
  · have hordinary := cls_ordinary_iff f h
    grind

theorem isNan_iff : f.isNan = true ↔ f.cls = .quiet ∨ f.cls = .signaling := by
  simp [Fr.isNan]

theorem isNormal_iff : f.isNormal = true ↔ ¬ f.exp = 0x1FFFF ∧ f.exp ≠ 0 ∧ f.sig.getLsbD 63 = true := by
  simp only [Fr.isNormal, bit_eq, Bool.and_eq_true, bne_iff_ne, ne_eq, and_assoc]
  exact and_left_comm

theorem isUnorm_iff : f.isUnorm = true ↔ ¬ f.exp = 0x1FFFF ∧ f ≠ Fr.natVal ∧
    if f.exp = 0 then f.sig ≠ 0 else ¬ f.sig.getLsbD 63 = true := by
  simp only [Fr.isUnorm, bit_eq, Bool.and_eq_true, Bool.or_eq_true, bne_iff_ne, beq_iff_eq, Bool.not_eq_true', and_assoc]
  by_cases h0 : f.exp = 0
  · simp only [h0, if_true, true_and, ne_eq, not_true_eq_false, false_and, or_false]
  · simp only [h0, if_false, ne_eq, not_false_eq_true, true_and, false_and, false_or, Bool.not_eq_true]

end

/-! #### Rational values -/

section
variable {a b : Exact} {e : Int}

theorem two_zpow_pos (e : Int) : (0 : ℚ) < 2 ^ e := zpow_pos two_pos e

theorem abs_toRat (a : Exact) : |a.toRat| = a.mag * 2 ^ a.exp := by
  have hnonneg : (0 : ℚ) ≤ a.mag * 2 ^ a.exp := mul_nonneg (Nat.cast_nonneg _) (two_zpow_pos _).le
  rw [Exact.toRat, mul_assoc, abs_mul, abs_of_nonneg hnonneg]
  cases a.sign <;> simp

/-- The value is its magnitude under its sign. -/
theorem toRat_eq_abs (a : Exact) : a.toRat = (if a.sign then -1 else 1) * |a.toRat| := by
  rw [abs_toRat, Exact.toRat, mul_assoc]

/-- The integer multiple of a power of two that the value is. -/
theorem scaled_mul (h : e ≤ a.exp) : (a.scaled e : ℚ) * 2 ^ e = a.toRat := by
  have hshift : ((a.mag <<< (a.exp - e).toNat : Nat) : ℚ) * 2 ^ e = a.mag * 2 ^ a.exp := by
    rw [Nat.shiftLeft_eq, Nat.cast_mul, Nat.cast_pow, Nat.cast_ofNat, ← zpow_natCast, Int.toNat_of_nonneg (by omega),
      mul_assoc, ← zpow_add₀ two_ne_zero, Int.sub_add_cancel]
  rw [Exact.toRat, mul_assoc, ← hshift, Exact.scaled]
  cases a.sign with
  | true => simp only [if_true, Int.cast_neg, Int.cast_natCast, neg_mul, one_mul]
  | false => simp only [Bool.false_eq_true, if_false, Int.cast_natCast, one_mul]

theorem scaled_lt_iff (ha : e ≤ a.exp) (hb : e ≤ b.exp) : a.scaled e < b.scaled e ↔ a.toRat < b.toRat := by
  rw [← scaled_mul ha, ← scaled_mul hb, mul_lt_mul_iff_left₀ (two_zpow_pos e), Int.cast_lt]

theorem scaled_eq_iff (ha : e ≤ a.exp) (hb : e ≤ b.exp) : a.scaled e = b.scaled e ↔ a.toRat = b.toRat := by
  rw [← scaled_mul ha, ← scaled_mul hb, mul_left_inj' (two_zpow_pos e).ne', Int.cast_inj]

end

/-! #### Comparison (R921) -/

theorem fpLess_iff (a b : Fr) : fpLess a b = true ↔ a.ordered.toRat < b.ordered.toRat := by
  rw [fpLess, decide_eq_true_iff, scaled_lt_iff (min_le_left _ _) (min_le_right _ _)]

theorem fpEqual_iff (a b : Fr) : fpEqual a b = true ↔ a.ordered.toRat = b.ordered.toRat := by
  rw [fpEqual, beq_iff_eq, scaled_eq_iff (min_le_left _ _) (min_le_right _ _)]

/-- The magnitude that an infinity has in the order. -/
noncomputable def infinityRank : ℚ := 2 ^ (70000 : Int)

theorem infinityRank_pos : 0 < infinityRank := two_zpow_pos _

/-- It is beyond the magnitude of every register value. -/
theorem abs_toRat_lt_infinityRank (f : Fr) : |f.toRat| < infinityRank := by
  have hmag : (f.exact.mag : ℚ) < 2 ^ (64 : Int) := by
    have : f.sig.toNat < 2 ^ 64 := f.sig.isLt
    exact_mod_cast this
  have hexp : f.exact.exp ≤ 65473 := by
    have : f.exp.toNat < 2 ^ 17 := f.exp.isLt
    unfold Fr.exact
    dsimp only
    split
    · decide
    · omega
  calc |f.toRat| = f.exact.mag * 2 ^ f.exact.exp := abs_toRat f.exact
    _ < 2 ^ (64 : Int) * 2 ^ f.exact.exp := mul_lt_mul_of_pos_right hmag (two_zpow_pos _)
    _ = 2 ^ (64 + f.exact.exp) := (zpow_add₀ two_ne_zero _ _).symm
    _ ≤ infinityRank := zpow_le_zpow_right₀ one_le_two (by omega)

theorem ordered_toRat_of_infinity {f : Fr} (h : f.cls = .infinity) :
    f.ordered.toRat = (if f.sign then -1 else 1) * infinityRank := by
  rw [Fr.ordered, if_pos h, Exact.toRat, Nat.cast_one, mul_one]; rfl

theorem ordered_toRat_of_finite {f : Fr} (h : f.cls ≠ .infinity) : f.ordered.toRat = f.toRat := by
  rw [Fr.ordered, if_neg h]; rfl

/-- The three places in the order: minus the rank of an infinity, between, that rank. -/
theorem ordered_cases (f : Fr) :
    (f.cls ≠ .infinity ∧ f.ordered.toRat = f.toRat ∧ -infinityRank < f.toRat ∧ f.toRat < infinityRank) ∨
      (f.cls = .infinity ∧ f.sign = true ∧ f.ordered.toRat = -infinityRank) ∨
      (f.cls = .infinity ∧ f.sign = false ∧ f.ordered.toRat = infinityRank) := by
  by_cases h : f.cls = .infinity
  · cases hs : f.sign <;> simp [h, ordered_toRat_of_infinity h, hs]
  · exact .inl ⟨h, ordered_toRat_of_finite h, abs_lt.mp (abs_toRat_lt_infinityRank f)⟩

/-- Infinities lie at the ends of the order. -/
theorem ordered_lt_iff (a b : Fr) : a.ordered.toRat < b.ordered.toRat ↔
    ((a.cls ≠ .infinity ∧ b.cls ≠ .infinity) ∧ a.toRat < b.toRat) ∨
      (a.cls = .infinity ∧ a.sign = true ∧ (b.cls ≠ .infinity ∨ b.sign = false)) ∨
      (b.cls = .infinity ∧ b.sign = false ∧ (a.cls ≠ .infinity ∨ a.sign = true)) := by
  have hpos := infinityRank_pos
  obtain ⟨hfa, hoa, hla, hua⟩ | ⟨hia, hsa, hoa⟩ | ⟨hia, hsa, hoa⟩ := ordered_cases a
  all_goals obtain ⟨hfb, hob, hlb, hub⟩ | ⟨hib, hsb, hob⟩ | ⟨hib, hsb, hob⟩ := ordered_cases b
  all_goals rw [hoa, hob]
  all_goals grind

theorem ordered_eq_iff (a b : Fr) : a.ordered.toRat = b.ordered.toRat ↔
    ((a.cls ≠ .infinity ∧ b.cls ≠ .infinity) ∧ a.toRat = b.toRat) ∨
      (a.cls = .infinity ∧ b.cls = .infinity ∧ a.sign = b.sign) := by
  have hpos := infinityRank_pos
  obtain ⟨hfa, hoa, hla, hua⟩ | ⟨hia, hsa, hoa⟩ | ⟨hia, hsa, hoa⟩ := ordered_cases a
  all_goals obtain ⟨hfb, hob, hlb, hub⟩ | ⟨hib, hsb, hob⟩ | ⟨hib, hsb, hob⟩ := ordered_cases b
  all_goals rw [hoa, hob]
  all_goals grind

end Sys2Proof.Machine
end

section
/-! ### Floating-point compares and classes -/
namespace Sys2Proof.Machine

/-! #### Completion (R938, R939) -/

section
variable {i : Instr} {s : State} {qp p1 p2 : BitVec 6} {f2 f3 : BitVec 7} {sf : BitVec 2} {r : FpRel} {unc b1 b2 : Bool}
  {m : BitVec 9}

/-- The predicates after an instruction that writes two of them, and flags beside them. -/
theorem setPrs_completes {a : AppRegs} (hss : s.psrBit Psr.ss = false) (hne : p1 ≠ p2)
    (hi : exec i s = finish s (done (({ s with ar := a } : State).setPrs p1 p2 b1 b2))) :
    ∃ t, exec i s = .next t ∧ t.place = s.nextPlace ∧ (p1 ≠ 0 → t.prBit p1 = b1) ∧ (p2 ≠ 0 → t.prBit p2 = b2) ∧
      (∀ p, p ≠ p1 → p ≠ p2 → t.prBit p = s.prBit p) ∧
      t.settled = (({ s with ar := a } : State).setPrs p1 p2 b1 b2).settled := by
  obtain ⟨t, ht, hplace, hset⟩ := completes_of_exec hss (by rw [State.psrBit, State.setPrs_psr]; rfl)
    (by rw [State.ri, State.setPrs_psr]; rfl) (by rw [State.setPrs_ip]) hi
  refine ⟨t, ht, hplace, fun h => ?_, fun h => ?_, fun p h1 h2 => ?_, hset⟩
  · rw [prBit_of_settled hset, State.setPrs, setPr_prBit_other _ _ _ _ hne, setPr_prBit _ _ _ h]
  · rw [prBit_of_settled hset, State.setPrs, setPr_prBit _ _ _ h]
  · rw [prBit_of_settled hset, State.setPrs, setPr_prBit_other _ _ _ _ h2, setPr_prBit_other _ _ _ _ h1]; rfl

theorem exec_fcmpForms (s : State) (qp p1 p2 : BitVec 6) (f2 f3 : BitVec 7) (sf : BitVec 2) : ∀ g ∈ fcmpForms,
    ∃ unc, exec (g.1 qp p1 p2 f2 f3 sf) s = compareFr g.2 unc qp p1 p2 f2 f3 sf s := by
  simp only [fcmpForms, List.forall_mem_cons, List.not_mem_nil, false_imp_iff, implies_true, and_true]
  exact ⟨⟨false, rfl⟩, ⟨true, rfl⟩, ⟨false, rfl⟩, ⟨true, rfl⟩, ⟨false, rfl⟩, ⟨true, rfl⟩, ⟨false, rfl⟩, ⟨true, rfl⟩⟩

theorem natSource_pair : natSource s [f2, f3] ↔ s.fpr f2 = Fr.natVal ∨ s.fpr f3 = Fr.natVal := by
  simp only [natSource, List.exists_mem_cons_iff, List.not_mem_nil, false_and, exists_false, or_false]
  rfl

/-- What `fcmp` does where PR[qp] is 1 and its predicates differ. -/
theorem compareFr_eq (hq : s.prBit qp = true) (hne : p1 ≠ p2) : compareFr r unc qp p1 p2 f2 f3 sf s =
    finish s (s.checkFp [f2, f3] >>= fun _ =>
      if s.fpr f2 = Fr.natVal ∨ s.fpr f3 = Fr.natVal then done (s.setPrs p1 p2 false false)
      else check (faultBits (s.fpDisables sf) (r.flags (s.fpr f2) (s.fpr f3)) != 0)
          (fpFault (faultBits (s.fpDisables sf) (r.flags (s.fpr f2) (s.fpr f3))) 0) >>= fun _ =>
        done ((withFlags s sf (r.flags (s.fpr f2) (s.fpr f3))).setPrs p1 p2 (r.holds (s.fpr f2) (s.fpr f3))
          (!r.holds (s.fpr f2) (s.fpr f3)))) := by
  rw [compareFr, if_pos hq, beq_false_of_ne hne]
  rfl

theorem compareFr_samePredicate (hq : s.prBit qp = true) (hi : exec i s = compareFr r unc qp p1 p1 f2 f3 sf s) :
    Traps i s illegalOperation := by
  rw [compareFr, if_pos hq] at hi
  exact traps_of_check (beq_self_eq_true p1) hi

theorem compareFr_disabled (hq : s.prBit qp = true) (hne : p1 ≠ p2) (hd : s.disabledCode [f2, f3] ≠ 0)
    (hi : exec i s = compareFr r unc qp p1 p2 f2 f3 sf s) : Traps i s (disabledFp (s.disabledCode [f2, f3])) :=
  traps_of_check (bne_iff_ne.mpr hd) (hi.trans (compareFr_eq hq hne))

/-- A NaTVal clears both predicates (R938). -/
theorem compareFr_natVal (hr : FpReady s qp [f2, f3]) (hne : p1 ≠ p2) (hn : natSource s [f2, f3])
    (hi : exec i s = compareFr r unc qp p1 p2 f2 f3 sf s) : WritesPrs i s p1 p2 false false := by
  obtain ⟨hq, hss, hd⟩ := hr
  have hnat : s.fpr f2 = Fr.natVal ∨ s.fpr f3 = Fr.natVal := by rwa [natSource_pair] at hn
  rw [compareFr_eq hq hne, bind_of_ok (checkFp_of_enabled hd), if_pos hnat] at hi
  exact writesPrs_of_exec hss hne hi

/-- Other operands raise their conditions, and write the relation where none is enabled (R938). -/
theorem compareFr_ends (hr : FpReady s qp [f2, f3]) (hne : p1 ≠ p2) (hn : ¬ natSource s [f2, f3])
    (hi : exec i s = compareFr r unc qp p1 p2 f2 f3 sf s) :
    let x := r.flags (s.fpr f2) (s.fpr f3)
    let b := r.holds (s.fpr f2) (s.fpr f3)
    (faultBits (s.fpDisables sf) x ≠ 0 → Traps i s
      { vector := .floatingPointFault, code := (faultBits (s.fpDisables sf) x).zeroExtend 16 }) ∧
    (faultBits (s.fpDisables sf) x = 0 → ∃ t, exec i s = .next t ∧ t.place = s.nextPlace ∧ (p1 ≠ 0 → t.prBit p1 = b) ∧
      (p2 ≠ 0 → t.prBit p2 = !b) ∧ (∀ p, p ≠ p1 → p ≠ p2 → t.prBit p = s.prBit p) ∧
      t.settled = ((withFlags s sf x).setPrs p1 p2 b !b).settled) := by
  intro x b
  obtain ⟨hq, hss, hd⟩ := hr
  have hnat : ¬ (s.fpr f2 = Fr.natVal ∨ s.fpr f3 = Fr.natVal) := by rwa [natSource_pair] at hn
  rw [compareFr_eq hq hne, bind_of_ok (checkFp_of_enabled hd), if_neg hnat] at hi
  refine ⟨fun hf => ?_, fun hf => ?_⟩
  · have hcode (v : BitVec 4) : fpFault v 0 = { vector := .floatingPointFault, code := v.zeroExtend 16 } := by
      rw [fpFault, zero_append_eq]
      congr 1
    rw [← hcode]
    exact traps_of_check (bne_iff_ne.mpr hf) hi
  · rw [bne_eq_false_iff_eq.mpr hf, check_false_bind] at hi
    exact setPrs_completes hss hne hi

theorem exec_fclass (s : State) (qp p1 p2 : BitVec 6) (f2 : BitVec 7) (m : BitVec 9) :
    ∀ i ∈ [Instr.fclassMF5 qp p1 p2 f2 m, .fclassMUncF5 qp p1 p2 f2 m],
      ∃ unc, exec i s = classify unc qp p1 p2 f2 m s := by
  simp only [List.forall_mem_cons, List.not_mem_nil, false_imp_iff, implies_true, and_true]
  exact ⟨⟨false, rfl⟩, ⟨true, rfl⟩⟩

theorem classify_eq (hq : s.prBit qp = true) (hne : p1 ≠ p2) : classify unc qp p1 p2 f2 m s =
    finish s (s.checkFp [f2] >>= fun _ =>
      if s.fpr f2 = Fr.natVal ∧ bit m 8 = false then done (s.setPrs p1 p2 false false)
      else done (s.setPrs p1 p2 (classHolds m (s.fpr f2)) (!classHolds m (s.fpr f2)))) := by
  rw [classify, if_pos hq, beq_false_of_ne hne]
  rfl

theorem classify_samePredicate (hq : s.prBit qp = true) (hi : exec i s = classify unc qp p1 p1 f2 m s) :
    Traps i s illegalOperation := by
  rw [classify, if_pos hq] at hi
  exact traps_of_check (beq_self_eq_true p1) hi

theorem classify_disabled (hq : s.prBit qp = true) (hne : p1 ≠ p2) (hd : s.disabledCode [f2] ≠ 0)
    (hi : exec i s = classify unc qp p1 p2 f2 m s) : Traps i s (disabledFp (s.disabledCode [f2])) :=
  traps_of_check (bne_iff_ne.mpr hd) (hi.trans (classify_eq hq hne))

theorem classify_writes (hr : FpReady s qp [f2]) (hne : p1 ≠ p2) (hi : exec i s = classify unc qp p1 p2 f2 m s) :
    (s.fpr f2 = Fr.natVal → m.getLsbD 8 = false → WritesPrs i s p1 p2 false false) ∧
      (s.fpr f2 ≠ Fr.natVal ∨ m.getLsbD 8 = true →
        WritesPrs i s p1 p2 (classHolds m (s.fpr f2)) (!classHolds m (s.fpr f2))) := by
  obtain ⟨hq, hss, hd⟩ := hr
  rw [classify_eq hq hne, bind_of_ok (checkFp_of_enabled hd)] at hi
  refine ⟨fun hnat hm => ?_, fun hother => ?_⟩
  · rw [if_pos ⟨hnat, hm⟩] at hi
    exact writesPrs_of_exec hss hne hi
  · rw [if_neg (by rw [bit_eq, not_and_or, Bool.not_eq_false]; exact hother)] at hi
    exact writesPrs_of_exec hss hne hi

/-- The relation of `fclass` by the classes that its mask names (R939). -/
theorem classHolds_eq (m : BitVec 9) (f : Fr) : classHolds m f =
    ((((m.getLsbD 0 && !f.sign) || (m.getLsbD 1 && f.sign)) &&
      ((m.getLsbD 2 && decide (f.cls = .zero)) || (m.getLsbD 3 && f.isUnorm) ||
        (m.getLsbD 4 && f.isNormal) || (m.getLsbD 5 && decide (f.cls = .infinity)))) ||
      (m.getLsbD 6 && decide (f.cls = .signaling)) || (m.getLsbD 7 && decide (f.cls = .quiet)) ||
      (m.getLsbD 8 && decide (f.cls = .natVal))) := rfl

end

/-! #### Relations and conditions (R938, R946) -/

section
variable (a b : Fr)

theorem unorderedFr_iff : unorderedFr a b = true ↔ (a.cls = .quiet ∨ a.cls = .signaling ∨ a.cls = .unsupported) ∨
    (b.cls = .quiet ∨ b.cls = .signaling ∨ b.cls = .unsupported) := by
  simp only [unorderedFr, Bool.or_eq_true, isNan_iff, beq_iff_eq]
  tauto

variable {a b}

theorem holds_of_unordered (h : unorderedFr a b = true) :
    FpRel.eq.holds a b = false ∧ FpRel.lt.holds a b = false ∧ FpRel.le.holds a b = false := by
  simp [FpRel.holds, h]

/-- The relations of two operands that have an order are those of their ranks in it. -/
theorem holds_iff_of_ordered (h : unorderedFr a b = false) :
    (FpRel.eq.holds a b = true ↔ a.ordered.toRat = b.ordered.toRat) ∧
      (FpRel.lt.holds a b = true ↔ a.ordered.toRat < b.ordered.toRat) ∧
      FpRel.le.holds a b = (FpRel.lt.holds a b || FpRel.eq.holds a b) := by
  simp [FpRel.holds, h, fpLess_iff, fpEqual_iff]

/-- An infinity equals the infinity of its sign alone, and lies at its end of the order. -/
theorem holds_infinity (h : unorderedFr a b = false) (hinf : a.cls = .infinity ∨ b.cls = .infinity) :
    (FpRel.eq.holds a b = true ↔ a.cls = .infinity ∧ b.cls = .infinity ∧ a.sign = b.sign) ∧
      (FpRel.lt.holds a b = true ↔ (a.cls = .infinity ∧ a.sign = true ∧ (b.cls ≠ .infinity ∨ b.sign = false)) ∨
        (b.cls = .infinity ∧ b.sign = false ∧ (a.cls ≠ .infinity ∨ a.sign = true))) := by
  obtain ⟨heq, hlt, -⟩ := holds_iff_of_ordered h
  have hnot : ¬ (a.cls ≠ .infinity ∧ b.cls ≠ .infinity) := fun hf => hinf.elim hf.1 hf.2
  rw [heq, hlt, ordered_eq_iff, ordered_lt_iff, iff_false_intro hnot, false_and, false_and, false_or, false_or]
  exact ⟨Iff.rfl, Iff.rfl⟩

theorem flags_of_unordered (r : FpRel) (h : unorderedFr a b = true) : r.flags a b =
    { v := a.cls == .signaling || b.cls == .signaling || a.cls == .unsupported || b.cls == .unsupported ||
      r == .lt || r == .le || r == .nlt || r == .nle } := by
  have hquiet : r.quietInvalid = (r == .lt || r == .le || r == .nlt || r == .nle) := by cases r <;> rfl
  rw [FpRel.flags, if_pos h, hquiet]
  simp only [List.any_cons, List.any_nil, Bool.or_false]
  congr 1
  ac_rfl

theorem flags_of_ordered (r : FpRel) (h : unorderedFr a b = false) :
    r.flags a b = { d := a.isUnorm || b.isUnorm } := by
  rw [FpRel.flags, h, if_neg Bool.false_ne_true]

end

/-! #### Disables and codes (R89, R1143) -/

section
variable (dis : BitVec 6) (x : FpFlags) (fpa : Bool) (lo hi : BitVec 4)

theorem fpDisables_eq (s : State) (sf : BitVec 2) : s.fpDisables sf =
    if sf ≠ 0 ∧ s.ar.fpsr.getLsbD (12 + 13 * sf.toNat) = true then 63 else fld s.ar.fpsr 0 6 := by
  have htd : (s.fpControls sf).td = s.ar.fpsr.getLsbD (12 + 13 * sf.toNat) := by
    change (fpsrControls s.ar.fpsr sf).getLsbD 6 = _
    rw [fpsrControls, getLsbD_fld, show 6 + 13 * sf.toNat + 6 = 12 + 13 * sf.toNat by omega]
    rfl
  rw [State.fpDisables, htd]
  rfl

/-- The bits of four flags put together. -/
theorem getLsbD_ofBools (b3 b2 b1 b0 : Bool) (k : Nat) :
    (BitVec.ofBool b3 ++ BitVec.ofBool b2 ++ BitVec.ofBool b1 ++ BitVec.ofBool b0 : BitVec 4).getLsbD k =
      [b0, b1, b2, b3].getD k false := by
  match k with
  | 0 | 1 | 2 | 3 => revert b3 b2 b1 b0; decide
  | k + 4 => exact BitVec.getLsbD_of_ge _ _ (by omega)

theorem getLsbD_faultBits (k : Nat) :
    (faultBits dis x).getLsbD k = ([x.v, x.d, x.z].getD k false && !dis.getLsbD k) := by
  have hzero : (0 : BitVec 1) = BitVec.ofBool false := rfl
  rw [faultBits, hzero, getLsbD_ofBools]
  match k with
  | 0 | 1 | 2 => rfl
  | k + 3 => cases k <;> rfl

theorem getLsbD_trapBits {k : Nat} (hk : k < 3) :
    (trapBits dis x fpa).getLsbD k = ([x.o, x.u, x.i].getD k false && !dis.getLsbD (3 + k)) := by
  rw [trapBits, getLsbD_ofBools]
  match k, hk with
  | 0, _ | 1, _ | 2, _ => rfl

theorem trapBits_fpa_iff :
    (trapBits dis x fpa).getLsbD 3 = true ↔ fpa = true ∧ trapBits dis x fpa &&& 7 ≠ 0 := by
  unfold trapBits
  generalize (x.o && !bit dis 3) = o
  generalize (x.u && !bit dis 4) = u
  generalize (x.i && !bit dis 5) = i
  revert fpa o u i
  decide

theorem fpTrapCode_eq_none_iff : fpTrapCode lo hi = none ↔ lo = 0 ∧ hi = 0 := by
  unfold fpTrapCode
  split
  · next h => exact ⟨fun _ => h, fun _ => rfl⟩
  · next h => exact ⟨nofun, fun e => absurd e h⟩

theorem getLsbD_fpTrapCode {c : BitVec 16} (h : fpTrapCode lo hi = some c) (k : Nat) : c.getLsbD k =
    (decide (k = 0) || (decide (7 ≤ k ∧ k < 11) && hi.getLsbD (k - 7)) ||
      (decide (11 ≤ k ∧ k < 15) && lo.getLsbD (k - 11))) := by
  have hcode : c = (1 : BitVec 16) ||| (hi.zeroExtend 16 <<< 7) ||| (lo.zeroExtend 16 <<< 11) := by
    unfold fpTrapCode at h
    split at h
    · cases h
    · exact (Option.some.inj h).symm
  have hone : (1 : BitVec 16).getLsbD k = decide (k = 0) := BitVec.getLsbD_one.trans (by simp)
  have hfield (v : BitVec 4) {n : Nat} (hn : n + 4 ≤ 16) :
      ((v.zeroExtend 16 <<< n : BitVec 16)).getLsbD k = (decide (n ≤ k ∧ k < n + 4) && v.getLsbD (k - n)) := by
    rw [BitVec.getLsbD_shiftLeft, BitVec.getLsbD_setWidth]
    by_cases hin : n ≤ k ∧ k < n + 4
    · have h16 : k < 16 := by omega
      have hsub : k - n < 16 := by omega
      simp [hin, h16, hsub]
    · by_cases hlow : k < n
      · simp [hin, hlow]
      · have hzero : v.getLsbD (k - n) = false := BitVec.getLsbD_of_ge _ _ (by omega)
        simp [hzero]
  rw [hcode, BitVec.getLsbD_or, BitVec.getLsbD_or, hone, hfield hi (by decide), hfield lo (by decide)]

end

/-- Settles O47: `fcmp` and `fclass` are their checks and then a write of two predicates; the order is that of the rational
values, with infinities at its ends. -/
theorem fpComparesWritePredicates : Obligations.FpComparesWritePredicates := by
  refine ⟨fun s qp p f2 f3 sf m hq => ⟨fun g hg => ?_, fun i hi => ?_⟩,
    fun s qp p1 p2 f2 f3 sf m hq hne => ⟨fun hd g hg => ?_, fun hd i hi => ?_⟩,
    fun s qp p1 p2 f2 f3 sf hr hne g hg => ?_, fun s qp p1 p2 f2 m hr hne i hi => ?_,
    fun a b => ⟨unorderedFr_iff a b, rfl, rfl, holds_of_unordered, ⟨rfl, rfl, rfl⟩, fun h _ _ hinf => ?_,
      fun r => ⟨flags_of_unordered r, flags_of_ordered r⟩⟩,
    fun f => ?_, fun s sf dis x fpa lo hi k => ⟨fpDisables_eq s sf, getLsbD_faultBits dis x k,
      getLsbD_trapBits dis x fpa, trapBits_fpa_iff dis x fpa, fpTrapCode_eq_none_iff lo hi,
      fun c hc => getLsbD_fpTrapCode lo hi hc k⟩⟩
  · obtain ⟨unc, hexec⟩ := exec_fcmpForms s qp p p f2 f3 sf g hg
    exact compareFr_samePredicate hq hexec
  · obtain ⟨unc, hexec⟩ := exec_fclass s qp p p f2 m i hi
    exact classify_samePredicate hq hexec
  · obtain ⟨unc, hexec⟩ := exec_fcmpForms s qp p1 p2 f2 f3 sf g hg
    exact compareFr_disabled hq hne hd hexec
  · obtain ⟨unc, hexec⟩ := exec_fclass s qp p1 p2 f2 m i hi
    exact classify_disabled hq hne hd hexec
  · obtain ⟨unc, hexec⟩ := exec_fcmpForms s qp p1 p2 f2 f3 sf g hg
    exact ⟨fun hn => compareFr_natVal hr hne hn hexec, fun hn => compareFr_ends hr hne hn hexec⟩
  · obtain ⟨unc, hexec⟩ := exec_fclass s qp p1 p2 f2 m i hi
    exact classify_writes hr hne hexec
  · obtain ⟨heq, hlt⟩ := holds_infinity h hinf
    exact ⟨heq, hlt, (holds_iff_of_ordered h).2.2⟩
  · obtain ⟨hnat, hzero, hfinite, hinf, hunsupported, hquiet, hsignaling⟩ := cls_iff f
    exact ⟨hnat, hzero, hfinite, hinf, hunsupported, hquiet, hsignaling, isNormal_iff f, isUnorm_iff f⟩

end Sys2Proof.Machine
end

section
/-! ### Special operands of multiply-adds and reciprocals -/
namespace Sys2Proof.Machine

/-! #### Unsupported operands, and NaNs (R924, R930) -/

/-- An operand with which an operation is computed: no NaN, and of a supported format. -/
def Fr.Ordinary (f : Fr) : Prop := f.isNan = false ∧ f.cls ≠ .unsupported

section
variable {ops : List Fr} {a b f : Fr}

theorem nanResult_of_unsupported (h : ∃ g ∈ ops, g.cls = .unsupported) :
    nanResult ops = some (invalidHalf Fr.indefinite) :=
  if_pos (by simpa using h)

/-- The first NaN is the result, made quiet; a signaling one anywhere is Invalid. -/
theorem nanResult_of_nan (hu : ∀ g ∈ ops, g.cls ≠ .unsupported) (hf : ops.find? Fr.isNan = some f) :
    nanResult ops = some { flags := { v := ops.any (fun g => g.cls == .signaling) }, val := f.quieted } := by
  rw [nanResult, if_neg (by simpa using hu), hf]

theorem nanResult_of_ordinary (h : ∀ g ∈ ops, g.Ordinary) : nanResult ops = none := by
  have hu : ∀ g ∈ ops, g.cls ≠ .unsupported := fun g hg => (h g hg).2
  have hnan : ops.find? Fr.isNan = none := List.find?_eq_none.mpr fun g hg => by rw [(h g hg).1]; exact nofun
  rw [nanResult, if_neg (by simpa using hu), hnan]

theorem not_isNan_iff : f.isNan = false ↔ f.cls ≠ .quiet ∧ f.cls ≠ .signaling := by
  rw [← Bool.not_eq_true, isNan_iff, not_or]

/-- A NaN or an operand of an unsupported format is no denormal. -/
theorem isUnorm_of_not_ordinary (h : ¬ f.Ordinary) : f.isUnorm = false := by
  rw [← Bool.not_eq_true, isUnorm_iff]
  rintro ⟨hexp, -⟩
  obtain ⟨-, hu, hq, hs, -⟩ := cls_ordinary_iff f hexp
  exact h ⟨not_isNan_iff.mpr ⟨hq, hs⟩, hu⟩

theorem isUnorm_of_infinity (h : f.cls = .infinity) : f.isUnorm = false := by
  rw [← Bool.not_eq_true, isUnorm_iff]
  rintro ⟨hexp, -⟩
  exact (cls_ordinary_iff f hexp).1 h

/-- Operands: one of an unsupported format, else a first NaN, else all ordinary. -/
theorem operand_cases (ops : List Fr) : (∃ g ∈ ops, g.cls = .unsupported) ∨
    ((∀ g ∈ ops, g.cls ≠ .unsupported) ∧ ∃ f, ops.find? Fr.isNan = some f) ∨ ∀ g ∈ ops, g.Ordinary := by
  by_cases hu : ∃ g ∈ ops, g.cls = .unsupported
  · exact .inl hu
  · have hu' : ∀ g ∈ ops, g.cls ≠ .unsupported := fun g hg e => hu ⟨g, hg, e⟩
    cases hf : ops.find? Fr.isNan with
    | some f => exact .inr (.inl ⟨hu', f, rfl⟩)
    | none =>
      exact .inr (.inr fun g hg => ⟨Bool.eq_false_of_not_eq_true (List.find?_eq_none.mp hf g hg), hu' g hg⟩)

end

/-! #### Reciprocals (R940, R942) -/

section
variable {c : FpControls} {range : FpRange} {near : Bool} {a b : Fr} {r : FpHalf Fr}

theorem recip_of_nanResult (h : nanResult [a, b] = some r) : recip c range near a b = ⟨r, false⟩ := by
  rw [recip, h]

theorem recipSqrt_of_nanResult (h : nanResult [a] = some r) : recipSqrt c range near a = ⟨r, false⟩ := by
  rw [recipSqrt, h]

/-- 0/0 and infinity by infinity (R940). -/
def invalidQuotient (a b : Fr) : Bool :=
  (a.cls == .zero && b.cls == .zero) || (a.cls == .infinity && b.cls == .infinity)

theorem invalidQuotient_iff : invalidQuotient a b = true ↔
    (a.cls = .zero ∧ b.cls = .zero) ∨ (a.cls = .infinity ∧ b.cls = .infinity) := by
  simp [invalidQuotient]

theorem recip_of_invalidQuotient (ha : a.Ordinary) (hb : b.Ordinary) (h : invalidQuotient a b = true) :
    recip c range near a b = ⟨invalidHalf Fr.indefinite, false⟩ := by
  rw [recip, nanResult_of_ordinary (by simpa using ⟨ha, hb⟩)]
  exact if_pos h

theorem recip_of_ordinary (ha : a.Ordinary) (hb : b.Ordinary) (h : invalidQuotient a b = false) :
    recip c range near a b =
      if a.cls == .infinity then ⟨{ flags := { d := a.isUnorm || b.isUnorm }, val := Fr.inf (a.sign != b.sign) }, false⟩
      else if b.cls == .infinity || a.cls == .zero then
        ⟨{ flags := { d := a.isUnorm || b.isUnorm }, val := Fr.signedZero (a.sign != b.sign) }, false⟩
      else if b.cls == .zero then
        ⟨{ flags := { d := a.isUnorm || b.isUnorm, z := true }, val := Fr.inf (a.sign != b.sign) }, false⟩
      else if near then
        ⟨{ flags := { d := a.isUnorm || b.isUnorm }, val := ((a.exact.div b.exact).round c true true range).val }, false⟩
      else ⟨{ flags := { d := a.isUnorm || b.isUnorm }
              val := packApprox b.sign (-b.normalized.1) (recipSig b.normalized.2) }, true⟩ := by
  rw [recip, nanResult_of_ordinary (by simpa using ⟨ha, hb⟩)]
  exact if_neg (Bool.eq_false_iff.mp h)

/-- The conditions of a reciprocal of ordinary operands. -/
theorem recip_flags (ha : a.Ordinary) (hb : b.Ordinary) : (recip c range near a b).half.flags =
    if invalidQuotient a b then { v := true }
    else { d := a.isUnorm || b.isUnorm, z := a.cls != .infinity && a.cls != .zero && b.cls == .zero } := by
  cases h : invalidQuotient a b with
  | true => rw [recip_of_invalidQuotient ha hb h]; rfl
  | false =>
    rw [recip_of_ordinary ha hb h]
    cases hai : a.cls == .infinity
    · cases haz : a.cls == .zero
      · cases hbi : b.cls == .infinity
        · cases hbz : b.cls == .zero
          · cases near <;> simp [bne, hai, haz]
          · simp [bne, hai, haz]
        · have hbz : (b.cls == .zero) = false := by rw [beq_iff_eq.mp hbi]; rfl
          simp [hbz]
      · simp [bne, haz]
    · simp [bne, hai]

theorem recipSqrt_of_ordinary (ha : a.Ordinary) : recipSqrt c range near a =
    if a.cls == .zero then ⟨{ flags := { d := a.isUnorm }, val := Fr.signedZero a.sign }, false⟩
    else if a.sign then ⟨invalidHalf Fr.indefinite, false⟩
    else if a.cls == .infinity then ⟨{ val := Fr.inf false }, false⟩
    else if near then ⟨{ flags := { d := a.isUnorm }, val := (a.exact.sqrt.round c true true range).val }, false⟩
    else ⟨{ flags := { d := a.isUnorm }
            val := packApprox false (-(a.normalized.1 / 2)) (rsqrtSig (a.normalized.1 % 2 != 0) a.normalized.2) }, true⟩ := by
  rw [recipSqrt, nanResult_of_ordinary (by simpa using ha)]

theorem recipSqrt_flags (ha : a.Ordinary) : (recipSqrt c range near a).half.flags =
    if a.cls != .zero && a.sign then { v := true } else { d := a.isUnorm } := by
  rw [recipSqrt_of_ordinary ha]
  cases hz : a.cls == .zero
  · cases hs : a.sign
    · cases hi : a.cls == .infinity
      · cases near <;> simp
      · simp [isUnorm_of_infinity (beq_iff_eq.mp hi)]
    · simp [bne, hz, invalidHalf]
  · simp [bne, hz]

end

/-! #### Multiply-adds (R930) -/

section
variable {k : FmaKind} {c : FpControls} {dis : BitVec 6} {range : FpRange} {f3 f4 f2 : Fr} {r : FpHalf Fr}

theorem fmaHalf_of_nanResult (h : nanResult [f4, f2, f3] = some r) : fmaHalf k c dis range f3 f4 (some f2) = r := by
  have hops : f4 :: (some f2).toList ++ [f3] = [f4, f2, f3] := rfl
  rw [fmaHalf, hops, h]

/-- The signs of the product and of the addend (R930 to R932). -/
def productSign (k : FmaKind) (f3 f4 : Fr) : Bool := (f3.sign != f4.sign) != decide (k = .fnma)
def addendSign (k : FmaKind) (f2 : Fr) : Bool := f2.sign != decide (k = .fms)

theorem fmaHalf_of_ordinary (h3 : f3.Ordinary) (h4 : f4.Ordinary) (h2 : f2.Ordinary) :
    fmaHalf k c dis range f3 f4 (some f2) =
      if (f3.cls == .infinity || f4.cls == .infinity) && (f3.cls == .zero || f4.cls == .zero) then
        invalidHalf Fr.indefinite
      else if (f3.cls == .infinity || f4.cls == .infinity) && f2.cls == .infinity &&
          productSign k f3 f4 != addendSign k f2 then invalidHalf Fr.indefinite
      else if f3.cls == .infinity || f4.cls == .infinity then
        { flags := { d := [f4, f2, f3].any Fr.isUnorm }, val := Fr.inf (productSign k f3 f4) }
      else if f2.cls == .infinity then
        { flags := { d := [f4, f2, f3].any Fr.isUnorm }, val := Fr.inf (addendSign k f2) }
      else ((fmaExact k c.rc f3 f4 (some f2)).round c (bit dis 3) (bit dis 4) range).half
        ([f4, f2, f3].any Fr.isUnorm) := by
  have hops : f4 :: (some f2).toList ++ [f3] = [f4, f2, f3] := rfl
  rw [fmaHalf, hops, nanResult_of_ordinary (by simpa using ⟨h4, h2, h3⟩)]
  have hk : (k == .fnma) = decide (k = .fnma) ∧ (k == .fms) = decide (k = .fms) := ⟨rfl, rfl⟩
  simp only [hk.1, hk.2, Option.any_some, Option.getD_some]
  rfl

end

/-! #### What the statement says of each -/

section
variable {k : FmaKind} {c : FpControls} {dis : BitVec 6} {range : FpRange} {near : Bool} {a b f3 f4 f2 : Fr}

/-- The conditions of a reciprocal (R940). -/
theorem recip_conditions (ha : a.cls ≠ .natVal) :
    let x := (recip c range near a b).half.flags
    let bad (f : Fr) : Prop := f.cls = .unsupported ∨ f.cls = .signaling
    (x.v = true ↔ bad a ∨ bad b ∨ (a.cls = .zero ∧ b.cls = .zero) ∨ (a.cls = .infinity ∧ b.cls = .infinity)) ∧
    (x.z = true ↔ a.cls = .finite ∧ b.cls = .zero) ∧
    (x.d = true ↔ x.v = false ∧ a.isNan = false ∧ b.isNan = false ∧ (a.isUnorm = true ∨ b.isUnorm = true)) ∧
    x.o = false ∧ x.u = false ∧ x.i = false := by
  intro x bad
  rcases operand_cases [a, b] with hu | ⟨hu, f, hf⟩ | ho
  · have hx : x = { v := true } := by
      simp only [x, recip_of_nanResult (nanResult_of_unsupported hu), invalidHalf]
    simp only [List.exists_mem_cons_iff, List.not_mem_nil, false_and, exists_false, or_false] at hu
    rw [hx]
    grind
  · have hx : x = { v := [a, b].any fun g => g.cls == .signaling } := by
      simp only [x, recip_of_nanResult (nanResult_of_nan hu hf)]
    have hnan : f.isNan = true := List.find?_some hf
    have hmem : f ∈ [a, b] := List.mem_of_find?_eq_some hf
    rw [hx]
    simp only [List.mem_cons, List.not_mem_nil, or_false] at hmem
    simp only [isNan_iff, not_isNan_iff] at hnan ⊢
    grind
  · obtain ⟨hoa, hob⟩ : a.Ordinary ∧ b.Ordinary := by simpa using ho
    have hx : x = if invalidQuotient a b then { v := true }
        else { d := a.isUnorm || b.isUnorm, z := a.cls != .infinity && a.cls != .zero && b.cls == .zero } :=
      recip_flags hoa hob
    have hinv := invalidQuotient_iff (a := a) (b := b)
    obtain ⟨hna, hua⟩ := hoa
    obtain ⟨hnb, hub⟩ := hob
    have hca := not_isNan_iff.mp hna
    have hcb := not_isNan_iff.mp hnb
    cases hq : invalidQuotient a b
    · rw [hq, if_neg Bool.false_ne_true] at hx
      rw [hx]
      cases hcls : a.cls <;> grind
    · rw [hq, if_pos rfl] at hx
      rw [hx]
      grind

/-- The conditions of a reciprocal square root (R942). -/
theorem recipSqrt_conditions (ha : a.cls ≠ .natVal) :
    let y := (recipSqrt c range near a).half.flags
    (y.v = true ↔ (a.cls = .unsupported ∨ a.cls = .signaling) ∨
      (a.sign = true ∧ (a.cls = .finite ∨ a.cls = .infinity))) ∧ y.z = false ∧
    (y.d = true ↔ y.v = false ∧ a.isUnorm = true) ∧ y.o = false ∧ y.u = false ∧ y.i = false := by
  intro y
  by_cases hu : a.cls = .unsupported
  · have hy : y = { v := true } := by
      simp only [y, recipSqrt_of_nanResult (nanResult_of_unsupported (ops := [a]) (by simpa using hu)), invalidHalf]
    rw [hy]
    grind
  cases hn : a.isNan
  · have hy : y = if a.cls != .zero && a.sign then { v := true } else { d := a.isUnorm } := recipSqrt_flags ⟨hn, hu⟩
    have hcls := not_isNan_iff.mp hn
    rw [hy]
    cases hc : a.cls <;> grind
  · have hf : [a].find? Fr.isNan = some a := by simp [hn]
    have hy : y = { v := [a].any fun g => g.cls == .signaling } := by
      simp only [y, recipSqrt_of_nanResult (nanResult_of_nan (by simpa using hu) hf)]
    have hunorm : a.isUnorm = false := isUnorm_of_not_ordinary fun h => absurd hn (by rw [h.1]; exact nofun)
    have hcls := (isNan_iff a).mp hn
    rw [hy]
    grind

/-- A multiply-add with a NaN: the first of f4, f2, f3, made quiet (R930, log entry 28). -/
theorem fmaHalf_nan (hu3 : f3.cls ≠ .unsupported) (hu4 : f4.cls ≠ .unsupported) (hu2 : f2.cls ≠ .unsupported) {f : Fr}
    (hf : [f4, f2, f3].find? Fr.isNan = some f) :
    (fmaHalf k c dis range f3 f4 (some f2)).val = f.quieted ∧
      (f3.cls = .signaling ∨ f4.cls = .signaling ∨ f2.cls = .signaling →
        (fmaHalf k c dis range f3 f4 (some f2)).flags.v = true) := by
  rw [fmaHalf_of_nanResult (nanResult_of_nan (by simpa using ⟨hu4, hu2, hu3⟩) hf)]
  exact ⟨rfl, fun h => by simpa [or_comm, or_left_comm] using h⟩

/-- A multiply-add of ordinary operands, one of them an infinity (R930). -/
theorem fmaHalf_infinity (h3 : f3.Ordinary) (h4 : f4.Ordinary) (h2 : f2.Ordinary) :
    let h := fmaHalf k c dis range f3 f4 (some f2)
    (f3.cls = .infinity ∧ f4.cls = .zero ∨ f3.cls = .zero ∧ f4.cls = .infinity → h = invalidHalf Fr.indefinite) ∧
    (f3.cls = .infinity ∧ f4.cls ≠ .zero ∨ f4.cls = .infinity ∧ f3.cls ≠ .zero →
      (f2.cls = .infinity → productSign k f3 f4 ≠ addendSign k f2 → h = invalidHalf Fr.indefinite) ∧
      (f2.cls ≠ .infinity ∨ productSign k f3 f4 = addendSign k f2 → h.val = Fr.inf (productSign k f3 f4))) ∧
    (f3.cls ≠ .infinity → f4.cls ≠ .infinity → f2.cls = .infinity → h.val = Fr.inf (addendSign k f2)) := by
  intro h
  have heq : h = _ := fmaHalf_of_ordinary h3 h4 h2
  rw [heq]
  refine ⟨fun hz => ?_, fun hi => ⟨fun h2 hs => ?_, fun hs => ?_⟩, fun hi3 hi4 hi2 => ?_⟩
  all_goals grind

/-- The values of reciprocals of special operands (R940). -/
theorem recip_special (c : FpControls) (range : FpRange) (near : Bool) (a b : Fr) :
    let r := recip c range near a b
    (a.cls = .zero ∧ b.cls = .zero ∨ a.cls = .infinity ∧ b.cls = .infinity →
      r = ⟨invalidHalf Fr.indefinite, false⟩) ∧
    (a.cls = .finite → b.cls = .zero →
      r.half.val = Fr.inf (a.sign != b.sign) ∧ r.half.flags.z = true ∧ r.approximate = false) ∧
    (a.cls = .finite ∨ a.cls = .zero → b.cls = .infinity →
      r.half.val = Fr.signedZero (a.sign != b.sign) ∧ r.approximate = false) ∧
    (a.cls = .infinity → b.cls = .finite ∨ b.cls = .zero →
      r.half.val = Fr.inf (a.sign != b.sign) ∧ r.approximate = false) ∧
    (a.cls = .zero → b.cls = .finite →
      r.half.val = Fr.signedZero (a.sign != b.sign) ∧ r.approximate = false) := by
  intro r
  have ordinary {f : Fr} (h : f.cls = .zero ∨ f.cls = .finite ∨ f.cls = .infinity) : f.Ordinary :=
    ⟨not_isNan_iff.mpr (by grind), by grind⟩
  have hinv := invalidQuotient_iff (a := a) (b := b)
  refine ⟨fun h => recip_of_invalidQuotient (ordinary (by grind)) (ordinary (by grind)) (hinv.mpr h),
    fun ha hb => ?_, fun ha hb => ?_, fun ha hb => ?_, fun ha hb => ?_⟩
  all_goals
    have heq : r = _ := recip_of_ordinary (ordinary (by grind)) (ordinary (by grind))
      (Bool.eq_false_of_not_eq_true (mt hinv.mp (by grind)))
    rw [heq]
    grind

theorem recipSqrt_special (c : FpControls) (range : FpRange) (near : Bool) (a : Fr) :
    (a.cls = .zero → (recipSqrt c range near a).half.val = Fr.signedZero a.sign ∧
      (recipSqrt c range near a).approximate = false) ∧
    (a.cls = .finite ∨ a.cls = .infinity → a.sign = true →
      recipSqrt c range near a = ⟨invalidHalf Fr.indefinite, false⟩) := by
  have ordinary (h : a.cls = .zero ∨ a.cls = .finite ∨ a.cls = .infinity) : a.Ordinary :=
    ⟨not_isNan_iff.mpr (by grind), by grind⟩
  refine ⟨fun ha => ?_, fun ha hs => ?_⟩
  · rw [recipSqrt_of_ordinary (ordinary (.inl ha)), if_pos (beq_iff_eq.mpr ha)]
    exact ⟨rfl, rfl⟩
  · rw [recipSqrt_of_ordinary (ordinary (.inr ha)), if_neg (by grind), if_pos hs]

end

/-- Settles O49: unsupported operands, then NaNs, then the infinities and zeros, each with its result. -/
theorem fpSpecialOperands : Obligations.FpSpecialOperands := by
  refine ⟨fun c range near a b ha hb => ?_, fun k c dis range f3 f4 f2 => ⟨fun hu => ?_, fun hu3 hu4 hu2 => ?_⟩,
    fun c range near a b => ?_⟩
  · obtain ⟨hv, hz, hd, hx⟩ := recip_conditions (c := c) (range := range) (near := near) (b := b) ha
    obtain ⟨hv', hz', hd', hy⟩ := recipSqrt_conditions (c := c) (range := range) (near := near) ha
    refine ⟨hv, hz, hd, hv', hz', hd', ?_⟩
    simp only [List.forall_mem_cons, List.not_mem_nil, false_imp_iff, implies_true, and_true]
    exact ⟨hx, hy⟩
  · exact fmaHalf_of_nanResult (nanResult_of_unsupported (by simpa [or_comm, or_left_comm] using hu))
  · have nan {f : Fr} (hf : [f4, f2, f3].find? Fr.isNan = some f) :=
      fmaHalf_nan (k := k) (c := c) (dis := dis) (range := range) hu3 hu4 hu2 hf
    have nan4 (h4 : f4.isNan = true) := nan (f := f4) (by simp [h4])
    have nan2 (h4 : f4.isNan = false) (h2 : f2.isNan = true) := nan (f := f2) (by simp [h4, h2])
    have nan3 (h4 : f4.isNan = false) (h2 : f2.isNan = false) (h3 : f3.isNan = true) := nan (f := f3) (by simp [h4, h2, h3])
    refine ⟨fun hs => ?_, fun h4 => (nan4 h4).1, fun h4 h2 => (nan2 h4 h2).1, fun h4 h2 h3 => (nan3 h4 h2 h3).1,
      fun h3 h4 h2 => fmaHalf_infinity ⟨h3, hu3⟩ ⟨h4, hu4⟩ ⟨h2, hu2⟩⟩
    cases h4 : f4.isNan
    · cases h2 : f2.isNan
      · have h3 : f3.isNan = true := by
          rw [not_isNan_iff] at h4 h2
          exact (isNan_iff f3).mpr (by grind)
        exact (nan3 h4 h2 h3).2 hs
      · exact (nan2 h4 h2).2 hs
    · exact (nan4 h4).2 hs
  · obtain ⟨hinv, hzd, hz, hi, hz'⟩ := recip_special c range near a b
    obtain ⟨hs, hneg⟩ := recipSqrt_special c range near a
    exact ⟨hinv, hzd, hz, hi, hz', hs, hneg⟩

end Sys2Proof.Machine
end

section
/-! ### Reciprocal approximations -/
namespace Sys2Proof.Machine

/-! #### Completion (R940 to R943) -/

/-- `i` completes in `s`, writes `v` to FR `f1` and `b` to PR[p2]; the rest is as in `u`. -/
def WritesApprox (i : Instr) (s u : State) (f1 : BitVec 7) (p2 : BitVec 6) (v : Fr) (b : Bool) : Prop :=
  ∃ t, exec i s = .next t ∧ t.place = s.nextPlace ∧ t.fpr f1 = v ∧ (∀ f, f ≠ f1 → t.fpr f = s.fpr f) ∧
    (p2 ≠ 0 → t.prBit p2 = b) ∧ (∀ p, p ≠ p2 → t.prBit p = s.prBit p) ∧ SameMemory s t ∧
    t.settled = ((u.setFpr f1 v).setPr p2 b).settled

section
variable {i : Instr} {s : State} {qp p2 : BitVec 6} {f1 : BitVec 7} {srcs : List (BitVec 7)} {sf : BitVec 2} {v : Fr}
  {x : FpFlags} {b : Bool} {code : BitVec 8}

theorem setFpr_prBit (s : State) (f : BitVec 7) (v : Fr) (p : BitVec 6) : (s.setFpr f v).prBit p = s.prBit p := by
  rw [State.prBit, State.prBit, State.prIndex, State.prIndex, State.setFpr_cfm, State.setFpr_pr]

theorem writesApprox_of_exec {a : AppRegs} (hss : s.psrBit Psr.ss = false) (h0 : f1 ≠ 0) (h1 : f1 ≠ 1)
    (hi : exec i s = finish s (done ((({ s with ar := a } : State).setFpr f1 v).setPr p2 b))) :
    WritesApprox i s { s with ar := a } f1 p2 v b := by
  have hregs := sameRegisters_setFpr { s with ar := a } f1 v
  obtain ⟨t, ht, hplace, hset⟩ := completes_of_exec hss
    (by rw [State.psrBit, State.setPr_psr]; exact hregs.ss) (by rw [State.ri, State.setPr_psr]; exact hregs.ri)
    (by rw [State.setPr_ip]; exact hregs.ip) hi
  have hfpr (f : BitVec 7) : t.fpr f = (({ s with ar := a } : State).setFpr f1 v).fpr f :=
    (fpr_of_settled hset f).trans (fpr_congr (State.setPr_fr ..) (State.setPr_cfm ..) f)
  refine ⟨t, ht, hplace, ?_, fun f hf => ?_, fun hp => ?_, fun p hp => ?_, fun addr => ?_, hset⟩
  · rw [hfpr, setFpr_fpr _ _ _ h0 h1]
  · rw [hfpr, setFpr_fpr_other _ _ _ _ hf]; rfl
  · rw [prBit_of_settled hset, setPr_prBit _ _ _ hp]
  · rw [prBit_of_settled hset, setPr_prBit_other _ _ _ _ hp, setFpr_prBit]; rfl
  · rw [State.byteAt, mem_of_settled hset, State.setPr_mem, State.setFpr_mem]; rfl

/-- What an approximation does once its target and its partitions are looked at. -/
def State.approx (s : State) (f1 : BitVec 7) (p2 : BitVec 6) (srcs : List (BitVec 7)) (sf : BitVec 2) (v : Fr)
    (x : FpFlags) (b : Bool) (code : BitVec 8) : Body :=
  if srcs.any (fun f => s.fpr f == Fr.natVal) then done ((s.setFpr f1 Fr.natVal).setPr p2 false)
  else check (code != 0) (fpFaultOf code) >>= fun _ => done (((withFlags s sf x).setFpr f1 v).setPr p2 b)

/-- The whole instruction: with PR[qp] 0 it clears p2. -/
def State.approxOr (s : State) (qp : BitVec 6) (f1 : BitVec 7) (p2 : BitVec 6) (srcs : List (BitVec 7)) (sf : BitVec 2)
    (v : Fr) (x : FpFlags) (b : Bool) (code : BitVec 8) : Body :=
  if s.prBit qp then s.fpChecked f1 (f1 :: srcs) fun _ => s.approx f1 p2 srcs sf v x b code else done (s.setPr p2 false)

theorem approximation_eq (r : Approx) : approximation qp p2 f1 srcs sf r s = finish s
    (s.approxOr qp f1 p2 srcs sf r.half.val r.half.flags r.approximate
      ((faultBits (s.fpDisables sf) r.half.flags).zeroExtend 8)) := by
  unfold State.approxOr State.approx
  rw [← check_fpFault_scalar]
  rfl

theorem parallelApproximation_eq (half : Bool → (Fr → BitVec 32) → Approx) :
    let both := (half false Fr.highSingle).approximate && (half false Fr.lowSingle).approximate
    let hi := (half (!both) Fr.highSingle).half
    let lo := (half (!both) Fr.lowSingle).half
    parallelApproximation qp p2 f1 srcs sf half s = finish s
      (s.approxOr qp f1 p2 srcs sf ⟨false, 0x1003E, hi.val.toSingle ++ lo.val.toSingle⟩ (hi.flags.or lo.flags) both
        (faultBits (s.fpDisables sf) hi.flags ++ faultBits (s.fpDisables sf) lo.flags)) := by
  intro both hi lo
  unfold State.approxOr State.approx
  rw [← check_fpFault_halves]
  rfl

theorem approx_ends (hss : s.psrBit Psr.ss = false)
    (hi : exec i s = finish s (s.approxOr qp f1 p2 srcs sf v x b code)) :
    (s.prBit qp = false → Completes i s (s.setPr p2 false)) ∧
      (s.prBit qp = true → FpStops i s f1 (f1 :: srcs)) ∧
      (FpReady s qp (f1 :: srcs) → f1 ≠ 0 → f1 ≠ 1 →
        (natSource s srcs → WritesApprox i s s f1 p2 ⟨false, 0x1FFFE, 0⟩ false) ∧
        (¬ natSource s srcs →
          (code ≠ 0 → Traps i s { vector := .floatingPointFault, code := code.zeroExtend 16 }) ∧
          (code = 0 → WritesApprox i s (withFlags s sf x) f1 p2 v b))) := by
  refine ⟨fun hq => ?_, fun hq => ?_, fun ⟨hq, _, hd⟩ h0 h1 => ?_⟩
  · rw [State.approxOr, hq, if_neg Bool.false_ne_true] at hi
    exact completes_of_exec hss (by rw [State.psrBit, State.setPr_psr]; rfl) (by rw [State.ri, State.setPr_psr]; rfl)
      (by rw [State.setPr_ip]) hi
  · rw [State.approxOr, if_pos hq] at hi
    exact fpStops_of_exec hi
  rw [State.approxOr, if_pos hq, fpChecked_of_enabled h0 h1 hd, State.approx] at hi
  refine ⟨fun hn => ?_, fun hn => ⟨fun hcode => ?_, fun hcode => ?_⟩⟩
  · rw [if_pos ((any_natVal_iff s srcs).mpr hn)] at hi
    exact writesApprox_of_exec hss h0 h1 hi
  · rw [any_natVal_of_not hn, if_neg Bool.false_ne_true] at hi
    exact traps_of_check (bne_iff_ne.mpr hcode) hi
  · rw [any_natVal_of_not hn, if_neg Bool.false_ne_true, hcode] at hi
    exact writesApprox_of_exec hss h0 h1 hi

end

/-! #### Square roots in integers -/

/-- The root found from above: the bits below `i` complete it. -/
theorem isqrtFrom_spec (n : Nat) : ∀ i acc, acc * acc ≤ n → n < (acc + 2 ^ i) * (acc + 2 ^ i) →
    isqrtFrom n i acc * isqrtFrom n i acc ≤ n ∧ n < (isqrtFrom n i acc + 1) * (isqrtFrom n i acc + 1) := by
  intro i
  induction i with
  | zero => exact fun acc hle hlt => ⟨hle, hlt⟩
  | succ i ih =>
    intro acc hle hlt
    have hsum : acc + 2 ^ (i + 1) = acc + 2 ^ i + 2 ^ i := by rw [pow_succ]; omega
    rw [isqrtFrom]
    split
    · next h => exact ih _ h (by rwa [← hsum])
    · next h => exact ih _ hle (not_le.mp h)

theorem isqrt_eq_sqrt (n : Nat) : isqrt n = n.sqrt := by
  have htop : n < (0 + 2 ^ (n.log2 / 2 + 1)) * (0 + 2 ^ (n.log2 / 2 + 1)) := by
    rw [Nat.zero_add, ← pow_add]
    exact Nat.lt_log2_self.trans_le (Nat.pow_le_pow_right two_pos (by omega))
  obtain ⟨hle, hlt⟩ := isqrtFrom_spec n _ 0 (Nat.zero_le n) htop
  exact Nat.eq_sqrt.mpr ⟨hle, hlt⟩

/-! #### The error of an approximation (R941) -/

/-- At most eleven significant bits, of a number below 2^13. -/
def ElevenBits (u : Nat) : Prop := u < 2 ^ 11 ∨ (u < 2 ^ 12 ∧ 2 ∣ u) ∨ (u < 2 ^ 13 ∧ 4 ∣ u)

theorem elevenBits_of_table {u : BitVec 13} (h : elevenBits u.toNat = true) : ElevenBits u.toNat := by
  have hlt := u.isLt
  simp only [elevenBits, Bool.or_eq_true, Bool.and_eq_true, decide_eq_true_eq, beq_iff_eq] at h
  unfold ElevenBits
  omega

/-- Twice a number of at most eleven bits, or twice 2^11. -/
theorem elevenBits_double {k : Nat} (h : k ≤ 2 ^ 11) : ElevenBits (2 * k) := by
  unfold ElevenBits
  omega

section
variable {m x : Nat}

/-- The greatest error that is below the bound: 79854084191308625924 is the integer part of 2^66.114. -/
theorem recip_error_lt {n : Nat} (h : n ≤ 79854084191308625924) : n ^ 500 < 2 ^ 33057 := by
  have hlhs : n ^ 500 = (n ^ 125) ^ 4 := by rw [show 500 = 125 * 4 from rfl, pow_mul]
  have hrhs : 2 ^ 33057 = (2 ^ 129) ^ 256 * 2 ^ 33 := by rw [show 33057 = 129 * 256 + 33 from rfl, pow_add, pow_mul]
  rw [hlhs, hrhs]
  calc (n ^ 125) ^ 4 ≤ (79854084191308625924 ^ 125) ^ 4 := Nat.pow_le_pow_left (Nat.pow_le_pow_left h 125) 4
    _ < (2 ^ 129) ^ 256 * 2 ^ 33 := by norm_num

theorem recip_error_fallback (h1 : 2 ^ 63 ≤ m) (h2 : m < 2 ^ 64) :
    2 ^ 74 / m ≤ 2 ^ 11 ∧ ((2 ^ 75 : Int) - m * (2 * (2 ^ 74 / m) : Nat)).natAbs ≤ 79854084191308625924 := by
  have hpos : 0 < m := by omega
  have hdiv : m * (2 ^ 74 / m) + 2 ^ 74 % m = 2 ^ 74 := Nat.div_add_mod _ _
  have hmod : 2 ^ 74 % m < m := Nat.mod_lt _ hpos
  refine ⟨?_, ?_⟩
  · exact Nat.div_le_of_le_mul (by omega)
  · have hmul : (m : Int) * (2 * (2 ^ 74 / m) : Nat) = 2 * (m * (2 ^ 74 / m) : Nat) := by push_cast; ring
    rw [hmul]
    omega

theorem recipSig_spec (h1 : 2 ^ 63 ≤ m) (h2 : m < 2 ^ 64) :
    ElevenBits (recipSig m) ∧ ((2 ^ 75 : Int) - m * recipSig m).natAbs ≤ 79854084191308625924 := by
  unfold recipSig
  dsimp only
  split
  · next h =>
    obtain ⟨hbits, herr⟩ := Bool.and_eq_true_iff.mp h
    refine ⟨elevenBits_of_table hbits, ?_⟩
    have herr := of_decide_eq_true herr
    push_cast at herr
    exact herr
  · obtain ⟨hle, herr⟩ := recip_error_fallback h1 h2
    exact ⟨elevenBits_double hle, herr⟩

theorem rsqrt_error_fallback (h1 : 2 ^ 63 ≤ x) (h2 : x < 2 ^ 65) :
    (2 ^ 85 / x).sqrt ≤ 2 ^ 11 ∧ 154063666136703572203576523 ≤ x * (2 * (2 ^ 85 / x).sqrt) ^ 2 ∧
      x * (2 * (2 ^ 85 / x).sqrt) ^ 2 ≤ 155422835956108090749940591 := by
  have hpos : 0 < x := by omega
  have hq1 : 2 ^ 20 ≤ 2 ^ 85 / x := (Nat.le_div_iff_mul_le hpos).mpr (by omega)
  have hq2 : 2 ^ 85 / x ≤ 2 ^ 22 := Nat.div_le_of_le_mul (by omega)
  have hxq : x * (2 ^ 85 / x) ≤ 2 ^ 85 := Nat.mul_div_le _ _
  have hxq' : 2 ^ 85 < x * (2 ^ 85 / x + 1) := Nat.lt_mul_div_succ _ hpos
  generalize 2 ^ 85 / x = q at *
  have hs1 : 2 ^ 10 ≤ q.sqrt := Nat.le_sqrt.mpr (by omega)
  have hs2 : q.sqrt ≤ 2 ^ 11 := (Nat.sqrt_le_sqrt hq2).trans (Nat.sqrt_eq (2 ^ 11)).le
  have hle : x * (q.sqrt * q.sqrt) ≤ x * q := Nat.mul_le_mul_left x (Nat.sqrt_le q)
  have hlt : x * (q + 1) ≤ x * ((q.sqrt + 1) * (q.sqrt + 1)) := Nat.mul_le_mul_left x (Nat.lt_succ_sqrt q)
  generalize q.sqrt = r at *
  have hratio : 1024 * (r + 1) ≤ 1025 * r := by omega
  have hlower : 1024 ^ 2 * (x * ((r + 1) * (r + 1))) ≤ 1025 ^ 2 * (x * (r * r)) :=
    calc 1024 ^ 2 * (x * ((r + 1) * (r + 1))) = x * ((1024 * (r + 1)) * (1024 * (r + 1))) := by ring
      _ ≤ x * ((1025 * r) * (1025 * r)) := Nat.mul_le_mul_left x (Nat.mul_le_mul hratio hratio)
      _ = 1025 ^ 2 * (x * (r * r)) := by ring
  have hsquare : x * (2 * r) ^ 2 = 4 * (x * (r * r)) := by ring
  rw [hsquare]
  exact ⟨hs2, by omega, by omega⟩

theorem rsqrtSig_spec (odd : Bool) (h1 : 2 ^ 63 ≤ m) (h2 : m < 2 ^ 64) : ElevenBits (rsqrtSig odd m) ∧
    154063666136703572203576523 ≤ (if odd then 2 * m else m) * rsqrtSig odd m ^ 2 ∧
      (if odd then 2 * m else m) * rsqrtSig odd m ^ 2 ≤ 155422835956108090749940591 := by
  have hx1 : 2 ^ 63 ≤ if odd then 2 * m else m := by split <;> omega
  have hx2 : (if odd then 2 * m else m) < 2 ^ 65 := by split <;> omega
  unfold rsqrtSig
  generalize (if odd then 2 * m else m) = x at *
  dsimp only
  split
  · next h =>
    simp only [Bool.and_eq_true, decide_eq_true_eq] at h
    obtain ⟨⟨hbits, hlo⟩, hhi⟩ := h
    rw [sq, ← mul_assoc]
    exact ⟨elevenBits_of_table hbits, hlo, hhi⟩
  · rw [isqrt_eq_sqrt]
    obtain ⟨hle, hlo, hhi⟩ := rsqrt_error_fallback hx1 hx2
    exact ⟨elevenBits_double hle, hlo, hhi⟩

end

/-! #### The operations -/

theorem exec_frcpa (s : State) (qp p2 : BitVec 6) (f1 f2 f3 : BitVec 7) (sf : BitVec 2) :
    exec (.frcpaF6 qp p2 f1 f2 f3 sf) s = approximation qp p2 f1 [f2, f3] sf (recip (s.fpControls sf)
      (fpRange .none (s.fpControls sf)) (recipNearLimits (s.fpr f2) (s.fpr f3)) (s.fpr f2) (s.fpr f3)) s := rfl

theorem exec_frsqrta (s : State) (qp p2 : BitVec 6) (f1 f3 : BitVec 7) (sf : BitVec 2) :
    exec (.frsqrtaF7 qp p2 f1 f3 sf) s = approximation qp p2 f1 [f3] sf
      (recipSqrt (s.fpControls sf) (fpRange .none (s.fpControls sf)) false (s.fpr f3)) s := rfl

theorem exec_fprcpa (s : State) (qp p2 : BitVec 6) (f1 f2 f3 : BitVec 7) (sf : BitVec 2) :
    exec (.fprcpaF6 qp p2 f1 f2 f3 sf) s = parallelApproximation qp p2 f1 [f2, f3] sf (fun exact part =>
      recip (s.fpControls sf) singleRange (exact || singleLimits false (part (s.fpr f2)) (part (s.fpr f3)))
        (frOfSingle (part (s.fpr f2))) (frOfSingle (part (s.fpr f3)))) s := rfl

theorem exec_fprsqrta (s : State) (qp p2 : BitVec 6) (f1 f3 : BitVec 7) (sf : BitVec 2) :
    exec (.fprsqrtaF7 qp p2 f1 f3 sf) s = parallelApproximation qp p2 f1 [f3] sf (fun exact part =>
      recipSqrt (s.fpControls sf) singleRange (exact || singleLimits true (part (s.fpr f3)) (part (s.fpr f3)))
        (frOfSingle (part (s.fpr f3)))) s := rfl

/-- Settles O50: each form is `State.approxOr` of its values, and the two tables keep their bounds. -/
theorem approximationsComplete : Obligations.ApproximationsComplete := by
  refine ⟨fun s qp p2 f1 f2 f3 sf hss => ?_, fun m h1 h2 => ?_⟩
  · simp only [List.forall_mem_cons, List.not_mem_nil, false_imp_iff, implies_true, and_true]
    exact ⟨approx_ends hss ((exec_frcpa ..).trans (approximation_eq _)),
      approx_ends hss ((exec_frsqrta ..).trans (approximation_eq _)),
      approx_ends hss ((exec_fprcpa ..).trans (parallelApproximation_eq _)),
      approx_ends hss ((exec_fprsqrta ..).trans (parallelApproximation_eq _))⟩
  · obtain ⟨hbits, herr⟩ := recipSig_spec h1 h2
    exact ⟨hbits, recip_error_lt herr, fun odd => rsqrtSig_spec odd h1 h2⟩

end Sys2Proof.Machine
end

section
/-! ### Rounding -/
namespace Sys2Proof.Machine

/-! #### Rounding to a multiple of a power of two (R923) -/

theorem roundingControl_cases (rc : BitVec 2) : rc = 0 ∨ rc = 1 ∨ rc = 2 ∨ rc = 3 := by
  revert rc; decide

/-- The rounding control increments the magnitude `k` with the fraction `t` above it. -/
def RoundsUp (rc : BitVec 2) (sign : Bool) (k : Nat) (t : ℚ) : Prop :=
  (rc = 0 ∧ (1 / 2 < t ∨ (t = 1 / 2 ∧ k % 2 = 1))) ∨ (rc = 1 ∧ sign = true ∧ t ≠ 0) ∨ (rc = 2 ∧ sign = false ∧ t ≠ 0)

/-- An increment goes up. -/
theorem RoundsUp.pos {rc : BitVec 2} {sign : Bool} {k : Nat} {t : ℚ} (h : RoundsUp rc sign k t) (h0 : 0 ≤ t) :
    0 < t := by
  obtain ⟨-, h | ⟨h, -⟩⟩ | ⟨-, -, h⟩ | ⟨-, -, h⟩ := h
  · linarith
  · linarith
  · exact lt_of_le_of_ne h0 h.symm
  · exact lt_of_le_of_ne h0 h.symm

/-- The fraction that the low `d` bits of a magnitude are. -/
theorem fraction_spec (m d : Nat) :
    let t : ℚ := (m % 2 ^ d : Nat) / 2 ^ d
    0 ≤ t ∧ t < 1 ∧ (m : ℚ) = ((m / 2 ^ d : Nat) + t) * 2 ^ d ∧ (t ≠ 0 ↔ m % 2 ^ d ≠ 0) ∧
      (1 / 2 < t ↔ 2 ^ d < 2 * (m % 2 ^ d)) ∧ (t = 1 / 2 ↔ 2 * (m % 2 ^ d) = 2 ^ d) := by
  intro t
  have hpow : (0 : ℚ) < 2 ^ d := pow_pos two_pos d
  have hdiv : ((m / 2 ^ d : Nat) : ℚ) * 2 ^ d + (m % 2 ^ d : Nat) = m := by exact_mod_cast Nat.div_add_mod' m (2 ^ d)
  have hlt : ((m % 2 ^ d : Nat) : ℚ) < 2 ^ d := by exact_mod_cast Nat.mod_lt m (Nat.two_pow_pos d)
  refine ⟨by positivity, (div_lt_one hpow).mpr hlt, ?_, ?_, ?_, ?_⟩
  · rw [add_mul, div_mul_cancel₀ _ hpow.ne', hdiv]
  · rw [ne_eq, div_eq_zero_iff, or_iff_left hpow.ne', Nat.cast_eq_zero]
  · rw [div_lt_div_iff₀ two_pos hpow, one_mul, mul_comm]
    exact_mod_cast Iff.rfl
  · rw [div_eq_div_iff hpow.ne' two_ne_zero, one_mul, mul_comm]
    exact_mod_cast Iff.rfl

/-- What an increment, or none, adds to a magnitude whose fraction is `t`. -/
theorem rounding_step {rc : BitVec 2} {sign up : Bool} {k : Nat} {t : ℚ} (h0 : 0 ≤ t) (h1 : t < 1)
    (hup : up = true ↔ RoundsUp rc sign k t) :
    let δ : ℚ := (if up then 1 else 0) - t
    (t ≠ 0 ↔ δ ≠ 0) ∧ |δ| < 1 ∧ (rc = 0 → |δ| ≤ 1 / 2 ∧ (|δ| = 1 / 2 → (if up then k + 1 else k) % 2 = 0)) ∧
      (rc = 1 → if sign then 0 ≤ δ else δ ≤ 0) ∧ (rc = 2 → if sign then δ ≤ 0 else 0 ≤ δ) ∧ (rc = 3 → δ ≤ 0) ∧
      (up = true ↔ 0 < δ) := by
  intro δ
  cases up with
  | true =>
    have hrounds := hup.mp rfl
    have hpos : 0 < t := hrounds.pos h0
    have hδ : δ = 1 - t := by simp [δ]
    have habs : |δ| = 1 - t := by rw [hδ, abs_of_pos (by linarith)]
    rw [habs, hδ]
    unfold RoundsUp at hrounds
    refine ⟨by grind, by linarith, ?_, ?_, ?_, fun h => by subst h; simp at hrounds, by grind⟩
    all_goals
      rintro rfl
      simp at hrounds
      grind
  | false =>
    have hrounds : ¬ RoundsUp rc sign k t := fun h => Bool.false_ne_true (hup.mpr h)
    have hδ : δ = -t := by simp [δ]
    have habs : |δ| = t := by rw [hδ, abs_neg, abs_of_nonneg h0]
    rw [habs, hδ]
    unfold RoundsUp at hrounds
    refine ⟨by grind, h1, ?_, ?_, ?_, ?_, by grind⟩
    all_goals
      rintro rfl
      simp at hrounds
      grind

section
variable (x : Exact) (rc : BitVec 2) (lsb : Int)

/-- The magnitude in units of `2 ^ lsb`: its integer part, and the fraction by which the rounding decides. -/
theorem roundAt_spec : ∃ (k : Nat) (t : ℚ), 0 ≤ t ∧ t < 1 ∧ |x.toRat| = (k + t) * 2 ^ lsb ∧
    ((x.roundAt rc lsb).2.1 = true ↔ t ≠ 0) ∧ ((x.roundAt rc lsb).2.2 = true ↔ RoundsUp rc x.sign k t) ∧
    (x.roundAt rc lsb).1 = if (x.roundAt rc lsb).2.2 then k + 1 else k := by
  rw [abs_toRat]
  by_cases h : lsb ≤ x.exp
  · have hexact : x.roundAt rc lsb = (x.mag <<< (x.exp - lsb).toNat, false, false) := if_pos h
    have hdown : ¬ RoundsUp rc x.sign (x.mag <<< (x.exp - lsb).toNat) 0 := fun hup => (hup.pos le_rfl).false
    refine ⟨x.mag <<< (x.exp - lsb).toNat, 0, le_rfl, one_pos, ?_, ?_⟩
    · rw [add_zero, Nat.shiftLeft_eq, Nat.cast_mul, Nat.cast_pow, Nat.cast_ofNat, ← zpow_natCast,
        Int.toNat_of_nonneg (by omega), mul_assoc, ← zpow_add₀ two_ne_zero, Int.sub_add_cancel]
    · rw [hexact]
      simp [hdown]
  · have hexp : lsb = x.exp + (lsb - x.exp).toNat := by omega
    have hround : x.roundAt rc lsb = _ := if_neg h
    generalize (lsb - x.exp).toNat = d at hexp hround
    obtain ⟨h0, h1, hmag, hne, hhalf, htie⟩ := fraction_spec x.mag d
    refine ⟨x.mag / 2 ^ d, _, h0, h1, ?_, ?_, ?_, ?_⟩
    · rw [hexp, zpow_add₀ two_ne_zero, zpow_natCast, mul_comm (2 ^ x.exp), ← mul_assoc, ← hmag]
    · rw [hround, hne, bne_iff_ne]
    · rw [hround, RoundsUp, hne, hhalf, htie]
      obtain rfl | rfl | rfl | rfl := roundingControl_cases rc <;> simp
    · rw [hround]

/-- Rounding is exact or not, goes at most one unit, to the nearest or as the control directs, and grows the magnitude where
it increments (R923). -/
theorem roundAt_error :
    let r := x.roundAt rc lsb
    let q : ℚ := r.1 * (2 : ℚ) ^ lsb
    let m : ℚ := |x.toRat|
    (r.2.1 = true ↔ q ≠ m) ∧ |q - m| < 2 ^ lsb ∧
      (rc = 0 → |q - m| ≤ 2 ^ lsb / 2 ∧ (|q - m| = 2 ^ lsb / 2 → r.1 % 2 = 0)) ∧
      (rc = 1 → if x.sign then m ≤ q else q ≤ m) ∧ (rc = 2 → if x.sign then q ≤ m else m ≤ q) ∧
      (rc = 3 → q ≤ m) ∧ (r.2.2 = true ↔ m < q) := by
  intro r q m
  obtain ⟨k, t, h0, h1, hm, hinexact, hup, hq⟩ := roundAt_spec x rc lsb
  have hunit : (0 : ℚ) < 2 ^ lsb := two_zpow_pos lsb
  have hdiff : q - m = ((if r.2.2 then 1 else 0) - t) * 2 ^ lsb := by
    have hcast : (r.1 : ℚ) = k + if r.2.2 then 1 else 0 := by
      rw [hq]
      cases r.2.2 <;> simp
    simp only [q, m]
    rw [hcast, hm]
    ring
  have habs : |q - m| = |(if r.2.2 then 1 else 0) - t| * 2 ^ lsb := by rw [hdiff, abs_mul, abs_of_pos hunit]
  obtain ⟨hne, hlt, hnear, hdown, hupward, hzero, hgrow⟩ := rounding_step h0 h1 hup
  rw [← hq] at hnear
  simp only [r]
  rw [habs]
  generalize (if r.2.2 then 1 else 0) - t = δ at *
  have hle : m ≤ q ↔ 0 ≤ δ := by rw [← sub_nonneg, hdiff, mul_nonneg_iff_of_pos_right hunit]
  have hgt : m < q ↔ 0 < δ := by rw [← sub_pos, hdiff, mul_pos_iff_of_pos_right hunit]
  have hge : q ≤ m ↔ δ ≤ 0 := by rw [← not_lt, hgt, not_lt]
  rw [hle, hge, hgt]
  refine ⟨?_, mul_lt_of_lt_one_left hunit hlt, fun h => ⟨?_, fun htie => ?_⟩, hdown, hupward, hzero, hgrow⟩
  · rw [hinexact, hne, ← sub_ne_zero (a := q), hdiff, mul_ne_zero_iff_right hunit.ne']
  · rw [div_eq_inv_mul, ← one_div]
    exact mul_le_mul_of_nonneg_right (hnear h).1 hunit.le
  · rw [div_eq_inv_mul, ← one_div] at htie
    exact (hnear h).2 (mul_right_cancel₀ hunit.ne' htie)

end

end Sys2Proof.Machine
end

section
/-! ### Results in a format -/
namespace Sys2Proof.Machine

/-! #### Significands (R922) -/

section
variable {q prec : Nat} {sign : Bool} {e : Int}

theorem getLsbD_top_iff (v : Word) : v.getLsbD 63 = true ↔ 2 ^ 63 ≤ v.toNat := by
  have h : v.getLsbD 63 = v.msb := (BitVec.msb_eq_getLsbD_last v).symm
  rw [h, BitVec.msb_eq_decide, decide_eq_true_iff]

/-- A significand of `prec` bits at the top of the register. -/
theorem significand_toNat (hq : q < 2 ^ prec) (hp : prec ≤ 64) :
    (BitVec.ofNat 64 (q <<< (64 - prec))).toNat = q * 2 ^ (64 - prec) := by
  have hlt : q * 2 ^ (64 - prec) < 2 ^ 64 := by
    calc q * 2 ^ (64 - prec) < 2 ^ prec * 2 ^ (64 - prec) := Nat.mul_lt_mul_of_pos_right hq (Nat.two_pow_pos _)
      _ = 2 ^ 64 := by rw [← pow_add, Nat.add_sub_cancel' hp]
  rw [BitVec.toNat_ofNat, Nat.shiftLeft_eq, Nat.mod_eq_of_lt hlt]

theorem significand_top_iff (h1 : 1 ≤ prec) (hq : q < 2 ^ prec) (hp : prec ≤ 64) :
    (BitVec.ofNat 64 (q <<< (64 - prec))).getLsbD 63 = true ↔ 2 ^ (prec - 1) ≤ q := by
  have htop : 2 ^ 63 = 2 ^ (prec - 1) * 2 ^ (64 - prec) := by rw [← pow_add]; congr 1; omega
  rw [getLsbD_top_iff, significand_toNat hq hp, htop, Nat.mul_le_mul_right_iff (Nat.two_pow_pos _)]

/-- The place of a significand's last bit. -/
theorem significand_scale (hp : prec ≤ 64) (q : Nat) (e : Int) :
    ((q * 2 ^ (64 - prec) : Nat) : ℚ) * 2 ^ (e - 63) = q * 2 ^ (e - prec + 1) := by
  rw [Nat.cast_mul, Nat.cast_pow, Nat.cast_ofNat, mul_assoc, ← zpow_natCast, ← zpow_add₀ two_ne_zero]
  congr 2
  omega

theorem packFr_isNormalized (h1 : 1 ≤ prec) (hp : prec ≤ 64) (hlo : 2 ^ (prec - 1) ≤ q) (hhi : q < 2 ^ prec) :
    (packFr sign e q prec).IsNormalized sign e (q * 2 ^ (e - prec + 1)) := by
  refine ⟨rfl, rfl, (significand_top_iff h1 hhi hp).mpr hlo, ?_⟩
  change ((BitVec.ofNat 64 (q <<< (64 - prec))).toNat : ℚ) * 2 ^ (e - 63) = _
  rw [significand_toNat hhi hp, significand_scale hp]

end

/-! #### Formats (R923) -/

/-- A format of the machine: its significand and its exponents fit into a register. -/
def FpRange.Valid (f : FpRange) : Prop :=
  2 ≤ f.prec ∧ f.prec ≤ 64 ∧ -65534 ≤ f.emin ∧ f.emin ≤ 0 ∧ 0 ≤ f.emax ∧ f.emax ≤ 65535

theorem singleRange_valid : singleRange.Valid := by
  unfold FpRange.Valid singleRange
  decide

theorem fpRange_valid (pc : FpPc) (c : FpControls) : (fpRange pc c).Valid := by
  unfold FpRange.Valid fpRange
  grind

/-! #### The exponent of a value -/

section
variable {x : Exact} {e0 : Int}

/-- The exponent of the leading bit of a non-zero value. -/
def Exact.topExp (x : Exact) : Int := (Nat.log2 x.mag : Int) + x.exp

theorem topExp_bounds (h : x.mag ≠ 0) : (2 : ℚ) ^ x.topExp ≤ |x.toRat| ∧ |x.toRat| < 2 ^ (x.topExp + 1) := by
  have hlo : (2 : ℚ) ^ (Nat.log2 x.mag : Int) ≤ x.mag := by exact_mod_cast Nat.log2_self_le h
  have hhi : (x.mag : ℚ) < 2 ^ (Nat.log2 x.mag + 1 : Int) := by exact_mod_cast Nat.lt_log2_self
  rw [abs_toRat, Exact.topExp, add_right_comm, zpow_add₀ two_ne_zero, zpow_add₀ two_ne_zero (_ + 1)]
  exact ⟨mul_le_mul_of_nonneg_right hlo (two_zpow_pos _).le, mul_lt_mul_of_pos_right hhi (two_zpow_pos _)⟩

theorem mag_ne_zero_of_bound (h : (2 : ℚ) ^ e0 ≤ |x.toRat|) : x.mag ≠ 0 := by
  intro hz
  rw [abs_toRat, hz, Nat.cast_zero, zero_mul] at h
  exact absurd h (not_le.mpr (two_zpow_pos _))

/-- No other power of two is next below the value. -/
theorem eq_topExp_of_bounds (h1 : (2 : ℚ) ^ e0 ≤ |x.toRat|) (h2 : |x.toRat| < 2 ^ (e0 + 1)) : e0 = x.topExp := by
  obtain ⟨hlo, hhi⟩ := topExp_bounds (mag_ne_zero_of_bound h1)
  have hle : e0 < x.topExp + 1 := (zpow_lt_zpow_iff_right₀ one_lt_two).mp (h1.trans_lt hhi)
  have hge : x.topExp < e0 + 1 := (zpow_lt_zpow_iff_right₀ one_lt_two).mp (hlo.trans_lt h2)
  omega

end

/-! #### The rounded magnitude -/

section
variable {x : Exact} {rc : BitVec 2} {lsb : Int} {n : Nat}

/-- Rounding keeps a magnitude between the bounds that are multiples of the unit. -/
theorem le_roundAt (h : (n : ℚ) * 2 ^ lsb ≤ |x.toRat|) : n ≤ (x.roundAt rc lsb).1 := by
  obtain ⟨k, t, h0, h1, hm, -, -, hq⟩ := roundAt_spec x rc lsb
  rw [hm, mul_le_mul_iff_left₀ (two_zpow_pos lsb)] at h
  have hlt : (n : ℚ) < (k + 1 : Nat) := by push_cast; linarith
  have hle : n < k + 1 := by exact_mod_cast hlt
  rw [hq]
  split <;> omega

theorem roundAt_le (h : |x.toRat| < (n : ℚ) * 2 ^ lsb) : (x.roundAt rc lsb).1 ≤ n := by
  obtain ⟨k, t, h0, h1, hm, -, -, hq⟩ := roundAt_spec x rc lsb
  rw [hm, mul_lt_mul_iff_left₀ (two_zpow_pos lsb)] at h
  have hlt : (k : ℚ) < n := by linarith
  have hle : k < n := by exact_mod_cast hlt
  rw [hq]
  split <;> omega

/-- A value rounded at the last place of `prec` bits keeps them, or carries into the next. -/
theorem roundAt_top_bounds {prec : Nat} (h1 : 1 ≤ prec) (h : x.mag ≠ 0) :
    2 ^ (prec - 1) ≤ (x.roundAt rc (x.topExp - prec + 1)).1 ∧ (x.roundAt rc (x.topExp - prec + 1)).1 ≤ 2 ^ prec := by
  obtain ⟨hlo, hhi⟩ := topExp_bounds h
  refine ⟨le_roundAt ?_, roundAt_le ?_⟩
  · rw [Nat.cast_pow, Nat.cast_ofNat, ← zpow_natCast, ← zpow_add₀ two_ne_zero]
    convert hlo using 2
    omega
  · rw [Nat.cast_pow, Nat.cast_ofNat, ← zpow_natCast, ← zpow_add₀ two_ne_zero]
    convert hhi using 2
    omega

/-- A value below the smallest normal number, rounded at that number's last place, does not exceed it. -/
theorem roundAt_tiny_le {prec : Nat} {emin : Int} (h1 : 1 ≤ prec) (h : x.mag ≠ 0) (he : x.topExp < emin) :
    (x.roundAt rc (emin - prec + 1)).1 ≤ 2 ^ (prec - 1) := by
  refine roundAt_le ((topExp_bounds h).2.trans_le ?_)
  rw [Nat.cast_pow, Nat.cast_ofNat, ← zpow_natCast, ← zpow_add₀ two_ne_zero]
  exact zpow_le_zpow_right₀ one_le_two (by omega)

end

/-! #### Rounding to a format (R923, R924) -/

section
variable {x : Exact} {c : FpControls} {od ud : Bool} {f : FpRange}

/-- The magnitude of a value at its own last place. -/
def Exact.topRound (x : Exact) (c : FpControls) (f : FpRange) : Nat × Bool × Bool :=
  x.roundAt c.rc (x.topExp - f.prec + 1)

/-- Its exponent, one more where it carries. -/
def Exact.roundedExp (x : Exact) (c : FpControls) (f : FpRange) : Int :=
  if (x.topRound c f).1 == 2 ^ f.prec then x.topExp + 1 else x.topExp

/-- The register of that exponent and magnitude. -/
def Exact.topFr (x : Exact) (c : FpControls) (f : FpRange) : Fr :=
  packFr x.sign (x.roundedExp c f) (if (x.topRound c f).1 == 2 ^ f.prec then 2 ^ (f.prec - 1) else (x.topRound c f).1)
    f.prec

theorem roundedExp_eq (hf : f.Valid) (h : x.mag ≠ 0) :
    x.roundedExp c f = if (x.topRound c f).1 < 2 ^ f.prec then x.topExp else x.topExp + 1 := by
  obtain ⟨hp2, -⟩ := hf
  obtain ⟨-, hhi⟩ := roundAt_top_bounds (rc := c.rc) (prec := f.prec) (by omega) h
  unfold Exact.roundedExp
  by_cases hc : (x.topRound c f).1 < 2 ^ f.prec
  · rw [if_pos hc, if_neg (by rw [beq_iff_eq]; exact hc.ne)]
  · have hq : (x.topRound c f).1 = 2 ^ f.prec := le_antisymm hhi (not_lt.mp hc)
    rw [if_neg hc, if_pos (beq_iff_eq.mpr hq)]

theorem topFr_isNormalized (hf : f.Valid) (h : x.mag ≠ 0) : (x.topFr c f).IsNormalized x.sign (x.roundedExp c f)
    ((x.topRound c f).1 * 2 ^ (x.topExp - f.prec + 1)) := by
  obtain ⟨hp2, hp64, -⟩ := hf
  obtain ⟨hlo, hhi⟩ := roundAt_top_bounds (rc := c.rc) (prec := f.prec) (by omega) h
  unfold Exact.topFr Exact.roundedExp
  by_cases hc : (x.topRound c f).1 = 2 ^ f.prec
  · rw [if_pos (beq_iff_eq.mpr hc), if_pos (beq_iff_eq.mpr hc)]
    have hlt : 2 ^ (f.prec - 1) < 2 ^ f.prec := Nat.pow_lt_pow_right one_lt_two (by omega)
    have hcarry : (((2 ^ (f.prec - 1) : Nat) : ℚ) * 2 ^ (x.topExp + 1 - f.prec + 1)) =
        (x.topRound c f).1 * 2 ^ (x.topExp - f.prec + 1) := by
      rw [hc, Nat.cast_pow, Nat.cast_pow, Nat.cast_ofNat, ← zpow_natCast, ← zpow_natCast, ← zpow_add₀ two_ne_zero,
        ← zpow_add₀ two_ne_zero]
      congr 1
      omega
    rw [← hcarry]
    exact packFr_isNormalized (by omega) hp64 le_rfl hlt
  · rw [if_neg (by rwa [beq_iff_eq]), if_neg (by rwa [beq_iff_eq])]
    exact packFr_isNormalized (by omega) hp64 hlo (lt_of_le_of_ne hhi hc)

/-- Rounding to a format, by where the rounded exponent lies. -/
theorem round_eq (h : x.mag ≠ 0) : x.round c od ud f =
    if f.emax < x.roundedExp c f then
      if od then { val := overflowed x.sign c.rc f, o := true, i := true, fpa := (x.topRound c f).2.2 }
      else { val := x.topFr c f, o := true, i := (x.topRound c f).2.1, fpa := (x.topRound c f).2.2 }
    else if x.roundedExp c f < f.emin then
      if !ud then { val := x.topFr c f, u := true, i := (x.topRound c f).2.1, fpa := (x.topRound c f).2.2 }
      else if c.ftz then { val := Fr.signedZero x.sign, u := true, i := true }
      else
        { val := packTiny x.sign f (x.roundAt c.rc (f.emin - f.prec + 1)).1
          u := (x.roundAt c.rc (f.emin - f.prec + 1)).2.1, i := (x.roundAt c.rc (f.emin - f.prec + 1)).2.1
          fpa := (x.roundAt c.rc (f.emin - f.prec + 1)).2.2 }
    else { val := x.topFr c f, i := (x.topRound c f).2.1, fpa := (x.topRound c f).2.2 } :=
  if_neg h

/-- What a disabled overflow leaves. -/
theorem overflowed_spec (hf : f.Valid) (sign : Bool) (rc : BitVec 2) :
    if rc = 0 ∨ (rc = 1 ∧ sign = true) ∨ (rc = 2 ∧ sign = false) then overflowed sign rc f = Fr.inf sign
    else (overflowed sign rc f).IsNormalized sign f.emax ((2 ^ f.prec - 1) * 2 ^ (f.emax - f.prec + 1)) := by
  obtain ⟨hp2, hp64, -⟩ := hf
  have hsign : (rc = 0 ∨ (rc = 1 ∧ sign = true) ∨ (rc = 2 ∧ (!sign) = true)) ↔
      (rc = 0 ∨ (rc = 1 ∧ sign = true) ∨ (rc = 2 ∧ sign = false)) := by rw [Bool.not_eq_true']
  unfold overflowed
  split
  · next h => rw [if_pos (hsign.mpr h)]
  · next h =>
    have hpow : 2 ^ f.prec = 2 ^ (f.prec - 1) * 2 := by rw [← pow_succ]; congr 1; omega
    have hpos : 0 < 2 ^ (f.prec - 1) := Nat.two_pow_pos _
    have hcast : ((2 : ℚ) ^ f.prec - 1) = ((2 ^ f.prec - 1 : Nat) : ℚ) := by
      rw [Nat.cast_pred (by omega), Nat.cast_pow, Nat.cast_ofNat]
    rw [if_neg (mt hsign.mp h), hcast]
    exact packFr_isNormalized (by omega) hp64 (by omega) (by omega)

/-- The magnitude that a register holds (R922). -/
theorem abs_toRat_fr (x : Fr) :
    |x.toRat| = x.sig.toNat * 2 ^ (if x.exp = 0 then (-16445 : Int) else x.exp.toNat - 65598) := by
  rw [Fr.toRat, abs_toRat, Fr.exact]
  dsimp only
  split <;> rfl

/-- The biased exponent of a register (R922). -/
theorem ofInt_exp_toNat {e : Int} (hlo : -65534 ≤ e) (hhi : e ≤ 65535) :
    ((BitVec.ofInt 17 (e + 65535)).toNat : Int) = e + 65535 := by
  rw [BitVec.toNat_ofInt]
  omega

/-- The register of a result below the smallest normal number, or of that number. -/
theorem packTiny_spec (hf : f.Valid) (sign : Bool) {t : Nat} (ht : t ≤ 2 ^ (f.prec - 1)) :
    (packTiny sign f t).sign = sign ∧ |(packTiny sign f t).toRat| = t * 2 ^ (f.emin - f.prec + 1) ∧
      (packTiny sign f t).exp = if t = 0 ∨ (f.emin = -16382 ∧ t < 2 ^ (f.prec - 1)) then 0
        else BitVec.ofInt 17 (f.emin + 65535) := by
  obtain ⟨hp2, hp64, hlo, hhi, -⟩ := hf
  have hexp := ofInt_exp_toNat hlo (by omega)
  have hlt : t < 2 ^ f.prec := ht.trans_lt (Nat.pow_lt_pow_right one_lt_two (by omega))
  have hne : BitVec.ofInt 17 (f.emin + 65535) ≠ 0 := fun h => by
    rw [h] at hexp
    simp at hexp
    omega
  have hbit : bit (BitVec.ofNat 64 (t <<< (64 - f.prec))) 63 = false ↔ t < 2 ^ (f.prec - 1) := by
    rw [bit_eq, ← Bool.not_eq_true, significand_top_iff (by omega) hlt hp64, not_le]
  unfold packTiny
  dsimp only
  simp only [hbit]
  by_cases h0 : t = 0
  · simp [h0, Fr.signedZero, abs_toRat_fr]
  by_cases hd : f.emin = -16382 ∧ t < 2 ^ (f.prec - 1)
  · rw [if_neg h0, if_pos hd, if_pos (.inr hd), abs_toRat_fr, if_pos rfl]
    refine ⟨rfl, ?_, rfl⟩
    change ((BitVec.ofNat 64 (t <<< (64 - f.prec))).toNat : ℚ) * _ = _
    rw [significand_toNat hlt hp64, ← significand_scale hp64, hd.1]
    rfl
  · rw [if_neg h0, if_neg hd, if_neg (not_or.mpr ⟨h0, hd⟩), abs_toRat_fr, if_neg hne]
    refine ⟨rfl, ?_, rfl⟩
    change ((BitVec.ofNat 64 (t <<< (64 - f.prec))).toNat : ℚ) *
      2 ^ (((BitVec.ofInt 17 (f.emin + 65535)).toNat : Int) - 65598) = _
    rw [significand_toNat hlt hp64, ← significand_scale hp64, hexp]
    congr 2
    omega

/-- Rounding to a format is rounding once (R923, R924). -/
theorem round_roundedOnce (hf : f.Valid) (x : Exact) (c : FpControls) (od ud d : Bool) :
    RoundedOnce ((x.round c od ud f).half d) x c od ud f := by
  refine ⟨fun h => ?_, fun e0 hlo hhi => ?_⟩
  · have hround : x.round c od ud f = { val := Fr.signedZero x.sign } := if_pos h
    rw [hround]
    exact ⟨rfl, ⟨rfl, rfl, rfl⟩, rfl⟩
  have hmag := mag_ne_zero_of_bound hlo
  obtain rfl := eq_topExp_of_bounds hlo hhi
  have hnormal := topFr_isNormalized (c := c) hf hmag
  have hgrew : (x.topRound c f).2.2 = true ↔ |x.toRat| < (x.topRound c f).1 * 2 ^ (x.topExp - f.prec + 1) :=
    (roundAt_error x c.rc _).2.2.2.2.2.2
  have hgrewTiny := (roundAt_error x c.rc (f.emin - f.prec + 1)).2.2.2.2.2.2
  have hexp : x.roundedExp c f =
      if (x.roundAt c.rc (x.topExp - f.prec + 1)).1 < 2 ^ f.prec then x.topExp else x.topExp + 1 :=
    roundedExp_eq hf hmag
  have hemin : f.emin ≤ f.emax := by
    obtain ⟨-, -, -, h1, h2, -⟩ := hf
    omega
  have hround := round_eq (c := c) (od := od) (ud := ud) (f := f) hmag
  dsimp only
  rw [← hexp]
  refine ⟨fun hmin hmax => ?_, fun hmax hod => ?_, fun hmax hod => ?_, fun hmin hud => ?_, fun hmin hud hz => ?_,
    fun hmin hud hz => ?_⟩
  · rw [hround, if_neg hmax.not_gt, if_neg hmin.not_gt]
    exact ⟨hnormal, ⟨rfl, rfl, rfl⟩, hgrew⟩
  · rw [hround, if_pos hmax, hod]
    exact ⟨hnormal, ⟨rfl, rfl, rfl⟩, hgrew⟩
  · rw [hround, if_pos hmax, hod]
    exact ⟨⟨rfl, rfl, rfl⟩, hgrew, overflowed_spec hf x.sign c.rc⟩
  · rw [hround, if_neg (by omega), if_pos hmin, hud]
    exact ⟨hnormal, ⟨rfl, rfl, rfl⟩, hgrew⟩
  · rw [hround, if_neg (by omega), if_pos hmin, hud, hz]
    exact ⟨rfl, ⟨rfl, rfl, rfl⟩, rfl⟩
  · have htop : x.topExp < f.emin := by
      rw [hexp] at hmin
      split at hmin <;> omega
    have hp1 : 1 ≤ f.prec := by
      obtain ⟨hp2, -⟩ := hf
      omega
    obtain ⟨hsign, habs, hbiased⟩ := packTiny_spec hf x.sign (roundAt_tiny_le (rc := c.rc) hp1 hmag htop)
    rw [hround, if_neg (by omega), if_pos hmin, hud, hz]
    exact ⟨hsign, habs, ⟨rfl, rfl, rfl⟩, hgrewTiny, hbiased⟩

end

end Sys2Proof.Machine
end

section
/-! ### Exact sums and products (R921, R930 to R932) -/
namespace Sys2Proof.Machine

section
variable {a b : Exact} {down : Bool}

theorem toRat_mul (a b : Exact) : (a.mul b).toRat = a.toRat * b.toRat := by
  obtain ⟨sa, ma, ea⟩ := a
  obtain ⟨sb, mb, eb⟩ := b
  have hsign : (if sa != sb then (-1 : ℚ) else 1) = (if sa then -1 else 1) * (if sb then -1 else 1) := by
    cases sa <;> cases sb <;> simp
  have hmul : (Exact.mul ⟨sa, ma, ea⟩ ⟨sb, mb, eb⟩).toRat =
      (if sa != sb then (-1 : ℚ) else 1) * (ma * mb : Nat) * 2 ^ (ea + eb) := rfl
  rw [hmul, hsign, Nat.cast_mul, zpow_add₀ two_ne_zero, Exact.toRat, Exact.toRat]
  ring

theorem toRat_flip (a : Exact) : ({ a with sign := !a.sign } : Exact).toRat = -a.toRat := by
  simp only [Exact.toRat]
  cases a.sign <;> simp

theorem mag_eq_zero_iff (a : Exact) : a.mag = 0 ↔ a.toRat = 0 := by
  rw [← abs_eq_zero, abs_toRat, mul_eq_zero, or_iff_left (two_zpow_pos a.exp).ne', Nat.cast_eq_zero]

/-- The sum of the two values, as a multiple of the smaller unit. -/
def Exact.scaledSum (a b : Exact) : Int := a.scaled (min a.exp b.exp) + b.scaled (min a.exp b.exp)

theorem scaledSum_mul (a b : Exact) : (a.scaledSum b : ℚ) * 2 ^ min a.exp b.exp = a.toRat + b.toRat := by
  rw [Exact.scaledSum, Int.cast_add, add_mul, scaled_mul (min_le_left _ _), scaled_mul (min_le_right _ _)]

theorem scaledSum_eq_zero_iff (a b : Exact) : a.scaledSum b = 0 ↔ a.toRat + b.toRat = 0 := by
  rw [← scaledSum_mul, mul_eq_zero, or_iff_left (two_zpow_pos _).ne', Int.cast_eq_zero]

theorem add_of_zero (h : a.scaledSum b = 0) :
    Exact.add down a b = ⟨if a.sign = b.sign then a.sign else down, 0, min a.exp b.exp⟩ := if_pos h

theorem add_of_ne_zero (h : a.scaledSum b ≠ 0) :
    Exact.add down a b = ⟨decide (a.scaledSum b < 0), (a.scaledSum b).natAbs, min a.exp b.exp⟩ := if_neg h

theorem toRat_add (down : Bool) (a b : Exact) : (Exact.add down a b).toRat = a.toRat + b.toRat := by
  by_cases h : a.scaledSum b = 0
  · rw [(scaledSum_eq_zero_iff a b).mp h, ← mag_eq_zero_iff, add_of_zero h]
  · have habs : ((a.scaledSum b).natAbs : ℚ) = |(a.scaledSum b : ℚ)| := by rw [Nat.cast_natAbs, Int.cast_abs]
    have hsign : (if decide (a.scaledSum b < 0) then (-1 : ℚ) else 1) * |(a.scaledSum b : ℚ)| = a.scaledSum b := by
      by_cases hneg : a.scaledSum b < 0
      · rw [if_pos (decide_eq_true hneg), abs_of_neg (Int.cast_lt_zero.mpr hneg), neg_one_mul, neg_neg]
      · rw [if_neg (by simpa using hneg), abs_of_nonneg (Int.cast_nonneg (not_lt.mp hneg)), one_mul]
    rw [add_of_ne_zero h, Exact.toRat, habs, hsign, scaledSum_mul]

theorem add_sign_of_zero (h : (Exact.add down a b).toRat = 0) :
    (Exact.add down a b).sign = if a.sign = b.sign then a.sign else down := by
  rw [toRat_add, ← scaledSum_eq_zero_iff] at h
  rw [add_of_zero h]

end

section
variable (k : FmaKind) (rc : BitVec 2) (f3 f4 f2 : Fr)

/-- The product of a multiply-add, with the sign of its form. -/
def fmaProduct : Exact := fmaExact k rc f3 f4 none

/-- The addend, with the sign of its form. -/
def fmaAddend : Exact := if k = .fms then { f2.exact with sign := !f2.exact.sign } else f2.exact

theorem fmaExact_some : fmaExact k rc f3 f4 (some f2) = Exact.add (rc == 1) (fmaProduct k rc f3 f4) (fmaAddend k f2) := rfl

theorem fmaProduct_toRat : (fmaProduct k rc f3 f4).toRat = (if k = .fnma then -1 else 1) * (f3.toRat * f4.toRat) := by
  have hmul : (f3.exact.mul f4.exact).toRat = f3.toRat * f4.toRat := toRat_mul _ _
  cases k with
  | fma => exact hmul.trans (one_mul _).symm
  | fms => exact hmul.trans (one_mul _).symm
  | fnma => exact (toRat_flip _).trans (by rw [hmul, if_pos rfl, neg_one_mul])

theorem fmaProduct_sign : (fmaProduct k rc f3 f4).sign = ((f3.sign != f4.sign) != decide (k = .fnma)) := by
  cases k with
  | fma => exact (Bool.bne_false _).symm
  | fms => exact (Bool.bne_false _).symm
  | fnma => exact (Bool.bne_true _).symm

theorem fmaAddend_toRat : (fmaAddend k f2).toRat = (if k = .fms then -1 else 1) * f2.toRat := by
  cases k with
  | fma => exact (one_mul _).symm
  | fnma => exact (one_mul _).symm
  | fms => exact (toRat_flip _).trans (neg_one_mul _).symm

theorem fmaAddend_sign : (fmaAddend k f2).sign = (f2.sign != decide (k = .fms)) := by
  cases k with
  | fma => exact (Bool.bne_false _).symm
  | fnma => exact (Bool.bne_false _).symm
  | fms => exact (Bool.bne_true _).symm

/-- What a multiply-add rounds. -/
theorem fmaExact_spec :
    (fmaExact k rc f3 f4 none).toRat = (if k = .fnma then -1 else 1) * (f3.toRat * f4.toRat) ∧
    (fmaExact k rc f3 f4 (some f2)).toRat =
      (if k = .fnma then -1 else 1) * (f3.toRat * f4.toRat) + (if k = .fms then -1 else 1) * f2.toRat ∧
    let psign := (f3.sign != f4.sign) != decide (k = .fnma)
    let csign := f2.sign != decide (k = .fms)
    (fmaExact k rc f3 f4 none).sign = psign ∧
    ((fmaExact k rc f3 f4 (some f2)).toRat = 0 →
      (fmaExact k rc f3 f4 (some f2)).sign = if psign = csign then psign else decide (rc = 1)) := by
  refine ⟨fmaProduct_toRat k rc f3 f4, ?_, fmaProduct_sign k rc f3 f4, fun h => ?_⟩
  · rw [fmaExact_some, toRat_add, fmaProduct_toRat, fmaAddend_toRat]
  · rw [fmaExact_some] at h ⊢
    rw [add_sign_of_zero h, fmaProduct_sign, fmaAddend_sign]
    rfl

end

/-! ### Finite operands -/

section
variable {f a b : Fr}

theorem isFinite_iff : f.isFinite = true ↔ f.cls = .zero ∨ f.cls = .finite := by
  rw [Fr.isFinite, Bool.or_eq_true, beq_iff_eq, beq_iff_eq]

theorem ordinary_of_isFinite (h : f.isFinite = true) : f.Ordinary := by
  rw [isFinite_iff] at h
  refine ⟨not_isNan_iff.mpr ?_, ?_⟩ <;> rcases h with h | h <;> simp [h]

theorem cls_ne_infinity_of_isFinite (h : f.isFinite = true) : f.cls ≠ .infinity := by
  rw [isFinite_iff] at h
  rcases h with h | h <;> simp [h]

theorem unorderedFr_of_ordinary (ha : a.Ordinary) (hb : b.Ordinary) : unorderedFr a b = false := by
  obtain ⟨hna, hua⟩ := ha
  obtain ⟨hnb, hub⟩ := hb
  simp [unorderedFr, hna, hnb, hua, hub]

/-- Compares of finite operands compare their values (R938). -/
theorem holds_iff_of_isFinite (ha : a.isFinite = true) (hb : b.isFinite = true) :
    (FpRel.eq.holds a b = true ↔ a.toRat = b.toRat) ∧ (FpRel.lt.holds a b = true ↔ a.toRat < b.toRat) ∧
      (FpRel.le.holds a b = true ↔ a.toRat ≤ b.toRat) := by
  obtain ⟨heq, hlt, hle⟩ :=
    holds_iff_of_ordered (unorderedFr_of_ordinary (ordinary_of_isFinite ha) (ordinary_of_isFinite hb))
  rw [ordered_toRat_of_finite (cls_ne_infinity_of_isFinite ha),
    ordered_toRat_of_finite (cls_ne_infinity_of_isFinite hb)] at heq hlt
  refine ⟨heq, hlt, ?_⟩
  rw [hle, Bool.or_eq_true, heq, hlt, le_iff_lt_or_eq]

/-- A multiply-add of finite operands is its exact value rounded (R930 to R932). -/
theorem fmaHalf_of_isFinite (k : FmaKind) (c : FpControls) (dis : BitVec 6) (range : FpRange) {f3 f4 : Fr}
    {f2 : Option Fr} (h3 : f3.isFinite = true) (h4 : f4.isFinite = true) (h2 : ∀ g ∈ f2, g.isFinite = true) :
    fmaHalf k c dis range f3 f4 f2 =
      ((fmaExact k c.rc f3 f4 f2).round c (dis.getLsbD 3) (dis.getLsbD 4) range).half
        (f3.isUnorm || f4.isUnorm || f2.any Fr.isUnorm) := by
  have hops : ∀ g ∈ f4 :: f2.toList ++ [f3], g.Ordinary := by
    intro g hg
    simp only [List.cons_append, List.mem_cons, List.mem_append, Option.mem_toList, List.not_mem_nil, or_false] at hg
    obtain rfl | hg | rfl := hg
    · exact ordinary_of_isFinite h4
    · exact ordinary_of_isFinite (h2 g hg)
    · exact ordinary_of_isFinite h3
  have hinf : (f2.any fun g => g.cls == .infinity) = false := by
    cases f2 with
    | none => rfl
    | some g => simpa using cls_ne_infinity_of_isFinite (h2 g rfl)
  have hany : (f4 :: f2.toList ++ [f3]).any Fr.isUnorm = (f3.isUnorm || f4.isUnorm || f2.any Fr.isUnorm) := by
    cases f2 <;> simp [Bool.or_comm, Bool.or_left_comm, Bool.or_assoc]
  rw [fmaHalf, nanResult_of_ordinary hops, ← hany, ← bit_eq, ← bit_eq]
  simp only [hinf, beq_eq_false_iff_ne.mpr (cls_ne_infinity_of_isFinite h3),
    beq_eq_false_iff_ne.mpr (cls_ne_infinity_of_isFinite h4), Bool.or_self, Bool.false_and, Bool.false_eq_true, if_false]

end

end Sys2Proof.Machine
end

section
/-! ### Normalized registers, minima and maxima, integers -/
namespace Sys2Proof.Machine

/-! #### Normalized registers (R922) -/

section
variable {f : Fr} {sign : Bool} {e : Int} {v : ℚ}

theorem exp_toNat_of_isNormalized (h : f.IsNormalized sign e v) (hlo : -65534 ≤ e) (hhi : e ≤ 65535) :
    (f.exp.toNat : Int) = e + 65535 := by
  obtain ⟨-, hexp, -⟩ := h
  rw [hexp, ofInt_exp_toNat hlo hhi]

/-- A normalized number within the exponents of a register is finite, no denormal, and has its magnitude. -/
theorem isNormalized_spec (h : f.IsNormalized sign e v) (hlo : -65534 ≤ e) (hhi : e ≤ 65535) :
    f.isFinite = true ∧ f.isUnorm = false ∧ |f.toRat| = v := by
  have hexp := exp_toNat_of_isNormalized h hlo hhi
  obtain ⟨-, -, hbit, hv⟩ := h
  have hspecial : f.exp ≠ 0x1FFFF := fun hs => by
    rw [hs] at hexp
    simp at hexp
    omega
  have hzero : f.exp ≠ 0 := fun hz => by
    rw [hz] at hexp
    simp at hexp
    omega
  have hsig : f.sig ≠ 0 := fun hs => by
    rw [hs] at hbit
    simp at hbit
  refine ⟨isFinite_iff.mpr (.inr ((cls_iff f).2.2.1.mpr ⟨hspecial, hsig⟩)), ?_, ?_⟩
  · rw [← Bool.not_eq_true, isUnorm_iff, if_neg hzero]
    exact fun ⟨_, _, hunnormal⟩ => hunnormal hbit
  · rw [abs_toRat_fr, if_neg hzero, hexp, ← hv]
    congr 2
    omega

end

/-! #### Minima and maxima (R944) -/

section
variable {a b : Fr}

/-- The operand without its sign. -/
def Fr.magnitude (f : Fr) : Fr := { f with sign := false }

theorem magnitude_infinity_iff (f : Fr) : f.magnitude.cls = .infinity ↔ f.cls = .infinity := by
  obtain ⟨-, -, -, h1, -⟩ := cls_iff f.magnitude
  obtain ⟨-, -, -, h2, -⟩ := cls_iff f
  rw [h1, h2]
  rfl

theorem magnitude_toRat (f : Fr) : f.magnitude.toRat = |f.toRat| := by
  have habs : |f.magnitude.toRat| = |f.toRat| := by rw [abs_toRat_fr, abs_toRat_fr]; rfl
  have hsign : f.magnitude.exact.sign = false := rfl
  rw [← habs, Fr.toRat, toRat_eq_abs, hsign, if_neg Bool.false_ne_true, one_mul, abs_abs]

theorem fpLess_magnitude_iff (a b : Fr) : fpLess a.magnitude b.magnitude = true ↔
    ((a.cls ≠ .infinity ∧ b.cls ≠ .infinity) ∧ |a.toRat| < |b.toRat|) ∨ (a.cls ≠ .infinity ∧ b.cls = .infinity) := by
  have hsign (f : Fr) : f.magnitude.sign = false := rfl
  rw [fpLess_iff, ordered_lt_iff]
  simp only [ne_eq, magnitude_infinity_iff, magnitude_toRat, hsign, Bool.false_eq_true, false_and, and_false, or_false,
    false_or, true_and, and_comm (a := b.cls = .infinity)]

theorem first_of_ordered (m : MinMax) (h : unorderedFr a b = false) : m.first a b =
    match m with
    | .min => fpLess a b
    | .max => fpLess b a
    | .amin => fpLess a.magnitude b.magnitude
    | .amax => fpLess b.magnitude a.magnitude := by
  have hfirst : m.first a b = (!unorderedFr a b && _) := rfl
  rw [hfirst, h, Bool.not_false, Bool.true_and]
  rfl

theorem first_iff (m : MinMax) (h : unorderedFr a b = false) :
    let finite : Prop := a.cls ≠ .infinity ∧ b.cls ≠ .infinity
    let below (x y : Fr) : Prop := (finite ∧ x.toRat < y.toRat) ∨
      (x.cls = .infinity ∧ x.sign = true ∧ (y.cls ≠ .infinity ∨ y.sign = false)) ∨
      (y.cls = .infinity ∧ y.sign = false ∧ (x.cls ≠ .infinity ∨ x.sign = true))
    let smaller (x y : Fr) : Prop := (finite ∧ |x.toRat| < |y.toRat|) ∨ (x.cls ≠ .infinity ∧ y.cls = .infinity)
    m.first a b = true ↔
      match m with
      | .min => below a b
      | .max => below b a
      | .amin => smaller a b
      | .amax => smaller b a := by
  intro finite below smaller
  have hswap : (b.cls ≠ .infinity ∧ a.cls ≠ .infinity) = finite := propext and_comm
  rw [first_of_ordered m h]
  cases m with
  | min => exact (fpLess_iff a b).trans (ordered_lt_iff a b)
  | max => exact (fpLess_iff b a).trans (by rw [ordered_lt_iff, hswap])
  | amin => exact fpLess_magnitude_iff a b
  | amax => exact (fpLess_magnitude_iff b a).trans (by rw [hswap])

theorem half_of_unordered (m : MinMax) (h : unorderedFr a b = true) :
    m.half a b = { flags := { v := true }, val := b } ∧ m.first a b = false := by
  have hfirst : m.first a b = false := by
    have hguard : m.first a b = (!unorderedFr a b && _) := rfl
    rw [hguard, h, Bool.not_true, Bool.false_and]
  exact ⟨by rw [MinMax.half, hfirst, if_pos h, if_neg Bool.false_ne_true], hfirst⟩

theorem half_of_ordered (m : MinMax) (h : unorderedFr a b = false) :
    m.half a b = { flags := { d := a.isUnorm || b.isUnorm }, val := if m.first a b then a else b } := by
  rw [MinMax.half, h, if_neg Bool.false_ne_true]

end

/-! #### Conversions to integer (R954 to R956) -/

section
variable (n : Nat) (signed : Bool) (rc : BitVec 2) (f : Fr)

/-- The rounded integer of a conversion. -/
def roundedInteger : Int := if f.sign then -((f.exact.roundAt rc 0).1 : Int) else (f.exact.roundAt rc 0).1

/-- The integer has a place in `n` bits. -/
def FitsInteger (v : Int) : Prop := if signed then -(2 ^ (n - 1) : Int) ≤ v ∧ v < 2 ^ (n - 1) else 0 ≤ v ∧ v < 2 ^ n

variable {n signed rc f}

theorem toIntegerHalf_of_special (h : f.isNan = true ∨ f.cls = .unsupported ∨ f.cls = .infinity) :
    toIntegerHalf n signed rc f = { flags := { v := true }, val := BitVec.ofNat n (2 ^ (n - 1)) } := by
  refine if_pos ?_
  rwa [Bool.or_eq_true, Bool.or_eq_true, beq_iff_eq, beq_iff_eq, or_assoc]

theorem toIntegerHalf_of_isFinite (h : f.isFinite = true) [Decidable (FitsInteger n signed (roundedInteger rc f))] :
    toIntegerHalf n signed rc f =
      if FitsInteger n signed (roundedInteger rc f) then
        { flags := { d := f.isUnorm, i := (f.exact.roundAt rc 0).2.1 }, val := BitVec.ofInt n (roundedInteger rc f)
          fpa := (f.exact.roundAt rc 0).2.2 }
      else { flags := { v := true }, val := BitVec.ofNat n (2 ^ (n - 1)) } := by
  obtain ⟨hnan, hunsupported⟩ := ordinary_of_isFinite h
  have hspecial : ¬ (f.isNan || f.cls == .unsupported || f.cls == .infinity) = true := by
    simp [hnan, hunsupported, cls_ne_infinity_of_isFinite h]
  have hfits (v : Int) : (v < (if signed then -((2 ^ (n - 1) : Nat) : Int) else 0) ∨
      (if signed then ((2 ^ (n - 1) : Nat) : Int) - 1 else (2 ^ n : Nat) - 1) < v) ↔ ¬ FitsInteger n signed v := by
    cases signed <;> simp [FitsInteger] <;> omega
  by_cases hv : FitsInteger n signed (roundedInteger rc f)
  · rw [if_pos hv]
    exact (if_neg hspecial).trans (if_neg (mt (hfits _).mp (not_not.mpr hv)))
  · rw [if_neg hv]
    exact (if_neg hspecial).trans (if_pos ((hfits _).mpr hv))

theorem toInt_ofInt_of_fits {v : Int} (hn : 0 < n) (h : FitsInteger n true v) : (BitVec.ofInt n v).toInt = v := by
  obtain ⟨hlo, hhi⟩ := h
  have hpow : ((2 ^ n : Nat) : Int) = 2 * 2 ^ (n - 1) := by
    push_cast
    rw [← pow_succ', Nat.sub_add_cancel hn]
  rw [BitVec.toInt_ofInt]
  exact Int.bmod_eq_of_le (by omega) (by omega)

theorem toNat_ofInt_of_fits {v : Int} (h : FitsInteger n false v) : ((BitVec.ofInt n v).toNat : Int) = v := by
  obtain ⟨hlo, hhi⟩ := h
  rw [BitVec.toNat_ofInt, Int.emod_eq_of_lt hlo (by exact_mod_cast hhi), Int.toNat_of_nonneg hlo]

/-- A conversion of a finite number that fits gives the rounded integer. -/
theorem toIntegerHalf_of_fits (hn : 0 < n) (hf : f.isFinite = true) (h : FitsInteger n signed (roundedInteger rc f)) :
    (if signed then (toIntegerHalf n signed rc f).val.toInt = roundedInteger rc f
      else ((toIntegerHalf n signed rc f).val.toNat : Int) = roundedInteger rc f) ∧
    (toIntegerHalf n signed rc f).flags =
      { d := f.isUnorm, i := decide (((f.exact.roundAt rc 0).1 : ℚ) ≠ |f.toRat|) } ∧
    ((toIntegerHalf n signed rc f).fpa = true ↔ |f.toRat| < (f.exact.roundAt rc 0).1) := by
  classical
  obtain ⟨hinexact, -, -, -, -, -, hgrew⟩ := roundAt_error f.exact rc 0
  rw [zpow_zero, mul_one] at hinexact hgrew
  have hi : (f.exact.roundAt rc 0).2.1 = decide (((f.exact.roundAt rc 0).1 : ℚ) ≠ |f.toRat|) :=
    Bool.eq_iff_iff.mpr (hinexact.trans decide_eq_true_iff.symm)
  rw [toIntegerHalf_of_isFinite hf, if_pos h, ← hi]
  refine ⟨?_, rfl, hgrew⟩
  cases signed with
  | true => exact toInt_ofInt_of_fits hn h
  | false => exact toNat_ofInt_of_fits h

/-- A register that holds an integer rounds to it. -/
theorem roundedInteger_of_toRat {v : Int} (h : f.toRat = v) :
    roundedInteger rc f = v ∧ ((f.exact.roundAt rc 0).1 : ℚ) = |f.toRat| := by
  obtain ⟨-, hnear, -⟩ := roundAt_error f.exact rc 0
  have habs : |f.exact.toRat| = ((v.natAbs : Nat) : ℚ) := by
    change |f.toRat| = _
    rw [h, Nat.cast_natAbs, Int.cast_abs]
  rw [zpow_zero, mul_one, habs] at hnear
  have hq : (f.exact.roundAt rc 0).1 = v.natAbs := by
    have hint : |((f.exact.roundAt rc 0).1 : Int) - v.natAbs| < 1 := by exact_mod_cast hnear
    have := Int.abs_lt_one_iff.mp hint
    omega
  have hvalue : (v : ℚ) = (if f.sign then -(v.natAbs : Int) else v.natAbs : Int) := by
    rw [← h, Fr.toRat, toRat_eq_abs, habs]
    change (if f.sign then (-1 : ℚ) else 1) * _ = _
    split
    · rw [neg_one_mul, Int.cast_neg, Int.cast_natCast]
    · rw [one_mul, Int.cast_natCast]
  refine ⟨?_, by rw [hq, ← habs]; rfl⟩
  rw [roundedInteger, hq]
  exact (Int.cast_injective hvalue).symm

/-- A register that holds a signed integer of `n` bits converts back to it, with no flag. -/
theorem toIntegerHalf_of_toRat {v : BitVec n} (hn : 0 < n) (hf : f.isFinite = true) (hu : f.isUnorm = false)
    (h : f.toRat = v.toInt) : toIntegerHalf n true rc f = { flags := {}, val := v } := by
  obtain ⟨hv, hq⟩ := roundedInteger_of_toRat (rc := rc) h
  have hfits : FitsInteger n true (roundedInteger rc f) := by
    rw [hv]
    exact ⟨BitVec.le_toInt v, BitVec.toInt_lt⟩
  obtain ⟨hval, hflags, hfpa⟩ := toIntegerHalf_of_fits hn hf hfits
  rw [hq, decide_eq_false (not_not.mpr rfl), hu] at hflags
  rw [hq, lt_self_iff_false, iff_false, Bool.not_eq_true] at hfpa
  have hval' : (toIntegerHalf n true rc f).val = v := BitVec.eq_of_toInt_eq (hval.trans hv)
  rw [← hval', ← hflags, ← hfpa]

/-- `fcvt.xf` is exact (R957). -/
theorem integerToFr_spec (v : Word) :
    (integerToFr v).isFinite = true ∧ (integerToFr v).isUnorm = false ∧ (integerToFr v).toRat = v.toInt := by
  by_cases h0 : v.toInt.natAbs = 0
  · have hzero : integerToFr v = Fr.zero := if_pos h0
    rw [hzero, Int.natAbs_eq_zero.mp h0]
    exact ⟨rfl, rfl, by rw [Fr.toRat, Int.cast_zero, ← mag_eq_zero_iff]; rfl⟩
  · have hpack : integerToFr v = packFr v.msb (Nat.log2 v.toInt.natAbs)
        (v.toInt.natAbs <<< (63 - Nat.log2 v.toInt.natAbs)) 64 := if_neg h0
    generalize hm : v.toInt.natAbs = m at *
    have hlog : Nat.log2 m ≤ 63 := by
      have hbound : m < 2 ^ 64 := by
        have := BitVec.le_toInt v
        have := BitVec.toInt_lt (x := v)
        omega
      have := (Nat.log2_lt h0).mpr hbound
      omega
    have hscale (k : Nat) : 2 ^ k * 2 ^ (63 - Nat.log2 m) = 2 ^ (k + (63 - Nat.log2 m)) := (pow_add _ _ _).symm
    have hnormal := packFr_isNormalized (sign := v.msb) (e := Nat.log2 m) (prec := 64)
      (q := m * 2 ^ (63 - Nat.log2 m)) (by decide) le_rfl
      (by
        calc 2 ^ (64 - 1) = 2 ^ Nat.log2 m * 2 ^ (63 - Nat.log2 m) := by rw [hscale]; congr 1; omega
          _ ≤ _ := Nat.mul_le_mul_right _ (Nat.log2_self_le h0))
      (by
        calc m * 2 ^ (63 - Nat.log2 m) < 2 ^ (Nat.log2 m + 1) * 2 ^ (63 - Nat.log2 m) :=
              Nat.mul_lt_mul_of_pos_right Nat.lt_log2_self (Nat.two_pow_pos _)
          _ = 2 ^ 64 := by rw [hscale]; congr 1; omega)
    rw [← Nat.shiftLeft_eq, ← hpack] at hnormal
    obtain ⟨hfinite, hunorm, habs⟩ := isNormalized_spec hnormal (by omega) (by omega)
    refine ⟨hfinite, hunorm, ?_⟩
    have hvalue : |(integerToFr v).toRat| = m := by
      rw [habs, Nat.shiftLeft_eq, Nat.cast_mul, Nat.cast_pow, Nat.cast_ofNat, mul_assoc, ← zpow_natCast,
        ← zpow_add₀ two_ne_zero]
      have hexp : ((63 - Nat.log2 m : Nat) : Int) + (Nat.log2 m - (64 : Nat) + 1) = 0 := by omega
      rw [hexp, zpow_zero, mul_one]
    have hsign : (integerToFr v).exact.sign = decide (v.toInt < 0) := by
      rw [← BitVec.msb_eq_toInt, hpack]
      rfl
    have htoRat : (integerToFr v).toRat = (if decide (v.toInt < 0) then (-1 : ℚ) else 1) * m := by
      rw [Fr.toRat, toRat_eq_abs, hsign]
      exact congrArg _ hvalue
    have hint : v.toInt = (if decide (v.toInt < 0) then (-1 : Int) else 1) * m := by
      by_cases hneg : v.toInt < 0
      · rw [if_pos (decide_eq_true hneg)]
        omega
      · rw [if_neg (by simpa using hneg)]
        omega
    rw [htoRat, hint]
    push_cast
    rw [← hint]

end

end Sys2Proof.Machine
end

section
/-! ### Results in single format (R649, R933) -/
namespace Sys2Proof.Machine

/-! #### Images of the format -/

section
variable {f : Fr} {sign : Bool} {e : BitVec 8} {frac : BitVec 23}

/-- The register of a single-precision image that is given by its fields. -/
theorem frOfSingle_fields (sign : Bool) (e : BitVec 8) (frac : BitVec 23) :
    frOfSingle (BitVec.ofBool sign ++ e ++ frac) =
      ⟨sign, registerExponent (k := 7) e (if frac = 0 then 0 else 0xFF81),
        BitVec.ofBool (e != 0) ++ frac ++ (0 : BitVec 40)⟩ := by
  have hexp : (fld (BitVec.ofBool sign ++ e ++ frac) 23 8 : BitVec 8) = e := by
    rw [(fld_append _ _).1 le_rfl, Nat.sub_self, (fld_append _ _).2 (Nat.zero_add 8).le, fld_whole]
  have hfrac : (fld (BitVec.ofBool sign ++ e ++ frac) 0 23 : BitVec 23) = frac := by
    rw [(fld_append _ _).2 (Nat.zero_add 23).le, fld_whole]
  have hsign : bit (BitVec.ofBool sign ++ e ++ frac) 31 = sign := by
    rw [bit_eq, BitVec.getLsbD_append, if_neg (by decide), BitVec.getLsbD_append, if_neg (by decide)]
    simp
  rw [frOfSingle, hexp, hfrac, hsign]
  rfl

/-- A significand with a fraction of 23 bits. -/
theorem singleSignificand_eq (c : Bool) (frac : BitVec 23) : BitVec.ofBool c ++ frac ++ (0 : BitVec 40) =
    BitVec.ofNat 64 (((if c then 2 ^ 23 else 0) + frac.toNat) <<< 40) := by
  have hfrac : frac.toNat < 2 ^ 23 := frac.isLt
  have hc : (BitVec.ofBool c).toNat <<< 23 = if c then 2 ^ 23 else 0 := by cases c <;> rfl
  apply BitVec.eq_of_toNat_eq
  rw [BitVec.toNat_append, BitVec.toNat_append, ← Nat.shiftLeft_add_eq_or_of_lt hfrac, hc, BitVec.toNat_ofNat,
    Nat.shiftLeft_eq]
  split <;> simp <;> omega

/-- The exponent field of a normal number, from the low bits of its register exponent. -/
theorem biasedField_of_toNat {x : BitVec 17} (h : x.toNat = e.toNat + (2 ^ 16 - 2 ^ 7)) : fld (x + 0x80) 0 8 = e := by
  have hlt : e.toNat < 2 ^ 8 := e.isLt
  have hbias : (0x80 : BitVec 17).toNat = 128 := rfl
  apply BitVec.eq_of_toNat_eq
  rw [fld, BitVec.extractLsb'_toNat, BitVec.toNat_add, h, Nat.shiftRight_zero, hbias]
  omega

/-- Packing gives back the image that a register was loaded from. -/
theorem packedSingle_frOfSingle (m : BitVec 32) : (frOfSingle m).packedSingle = m := by
  have htoSingle := toSingle_frOfSingle m
  unfold Fr.packedSingle
  split
  · next h =>
    obtain ⟨hbit, hspecial⟩ := by simpa using h
    obtain ⟨-, -, htop⟩ := significand_fields (k := 23) (n := 40) ((fld m 23 8 : BitVec 8) != 0) (fld m 0 23)
    have h0 : (fld m 23 8 : BitVec 8) ≠ 0 := bne_iff_ne.mp (htop.symm.trans hbit)
    have h1 : (fld m 23 8 : BitVec 8) ≠ BitVec.allOnes (1 + 7) := fun hall => hspecial (by
      rw [frOfSingle_exp, hall, registerExponent_allOnes]
      rfl)
    have hexp := registerExponent_toNat (k := 7) (z := if (fld m 0 23 : BitVec 23) = 0 then 0 else 0xFF81)
      (by decide) h0 h1
    have hfield : (fld ((frOfSingle m).exp + 0x80) 0 8 : BitVec 8) = storedExponent 7 (frOfSingle m).exp := by
      rw [frOfSingle_exp, storedExponent_of_toNat (k := 7) (e := fld m 23 8) (by decide) hexp,
        biasedField_of_toNat (e := fld m 23 8) hexp]
    rw [hfield]
    rw [toSingle_eq, if_pos hbit] at htoSingle
    exact htoSingle
  · exact htoSingle

/-- The register of a normal number of the format. -/
theorem packFr_single {e : Int} {q : Nat} (hlo : -126 ≤ e) (hhi : e ≤ 127) (hq : 2 ^ 23 ≤ q) (hq' : q < 2 ^ 24) :
    frOfSingle (BitVec.ofBool sign ++ BitVec.ofInt 8 (e + 127) ++ BitVec.ofNat 23 q) = packFr sign e q 24 := by
  have hfield : ((BitVec.ofInt 8 (e + 127)).toNat : Int) = e + 127 := by
    rw [BitVec.toNat_ofInt]
    omega
  have h0 : BitVec.ofInt 8 (e + 127) ≠ 0 := fun h => by
    rw [h] at hfield
    simp at hfield
    omega
  have h1 : BitVec.ofInt 8 (e + 127) ≠ BitVec.allOnes (1 + 7) := fun h => by
    rw [h] at hfield
    simp at hfield
    omega
  have hexp : registerExponent (k := 7) (BitVec.ofInt 8 (e + 127)) (if BitVec.ofNat 23 q = 0 then 0 else 0xFF81) =
      BitVec.ofInt 17 (e + 65535) := by
    apply BitVec.eq_of_toNat_eq
    have hregister := ofInt_exp_toNat (e := e) (by omega) (by omega)
    rw [registerExponent_toNat (by decide) h0 h1]
    omega
  have hsig : 2 ^ 23 + (BitVec.ofNat 23 q).toNat = q := by
    rw [BitVec.toNat_ofNat]
    omega
  rw [frOfSingle_fields, hexp, singleSignificand_eq, if_pos (bne_iff_ne.mpr h0), hsig]
  rfl

/-- The register of a denormal of the format. -/
theorem packTiny_single {t : Nat} (h0 : t ≠ 0) (ht : t < 2 ^ 23) :
    frOfSingle (BitVec.ofBool sign ++ (0 : BitVec 8) ++ BitVec.ofNat 23 t) = packTiny sign singleRange t := by
  have htoNat : (BitVec.ofNat 23 t).toNat = t := by rw [BitVec.toNat_ofNat, Nat.mod_eq_of_lt ht]
  have hfrac : BitVec.ofNat 23 t ≠ 0 := fun h => h0 (by rw [← htoNat, h]; rfl)
  have hzero : registerExponent (k := 7) (0 : BitVec 8) (0xFF81 : BitVec 17) = 0xFF81 := registerExponent_zero
  have hc : (if ((0 : BitVec 8) != 0) = true then 2 ^ 23 else 0) + t = t := Nat.zero_add t
  have hpack : packTiny sign singleRange t = ⟨sign, 0xFF81, BitVec.ofNat 64 (t <<< 40)⟩ :=
    (if_neg h0).trans (if_neg fun h => absurd h.1 (by decide))
  rw [hpack, frOfSingle_fields, if_neg hfrac, hzero, singleSignificand_eq, htoNat, hc]

end

/-! #### Rounded results -/

/-- Packing in single format loses nothing. -/
def Fr.KeptBySingle (f : Fr) : Prop := frOfSingle f.packedSingle = f

section
variable {x : Exact} {c : FpControls} {od ud : Bool}

theorem keptBySingle_of_image {f : Fr} {m : BitVec 32} (h : frOfSingle m = f) : f.KeptBySingle := by
  rw [Fr.KeptBySingle, ← h, packedSingle_frOfSingle]

theorem signedZero_keptBySingle (sign : Bool) : (Fr.signedZero sign).KeptBySingle :=
  keptBySingle_of_image (m := BitVec.ofBool sign ++ (0 : BitVec 8) ++ (0 : BitVec 23)) (by
    cases sign <;> decide)

theorem inf_keptBySingle (sign : Bool) : (Fr.inf sign).KeptBySingle :=
  keptBySingle_of_image (m := BitVec.ofBool sign ++ (0xFF : BitVec 8) ++ (0 : BitVec 23)) (by
    cases sign <;> decide)

theorem overflowed_keptBySingle (sign : Bool) (rc : BitVec 2) : (overflowed sign rc singleRange).KeptBySingle := by
  unfold overflowed
  split
  · exact inf_keptBySingle sign
  · exact keptBySingle_of_image (packFr_single (by decide) (by decide) (by decide) (by decide))

theorem packTiny_keptBySingle (sign : Bool) {t : Nat} (ht : t ≤ 2 ^ 23) :
    (packTiny sign singleRange t).KeptBySingle := by
  by_cases h0 : t = 0
  · rw [h0]
    exact signedZero_keptBySingle sign
  obtain hlt | rfl := ht.lt_or_eq
  · exact keptBySingle_of_image (packTiny_single h0 hlt)
  · have hnormal : packTiny sign singleRange (2 ^ 23) = packFr sign (-126) (2 ^ 23) 24 := by
      rw [packTiny, if_neg h0, if_neg (fun h => absurd h.1 (by decide))]
      rfl
    rw [hnormal]
    exact keptBySingle_of_image (packFr_single (by decide) (by decide) le_rfl (by decide))

theorem topFr_keptBySingle (h : x.mag ≠ 0) (hlo : -126 ≤ x.roundedExp c singleRange)
    (hhi : x.roundedExp c singleRange ≤ 127) : (x.topFr c singleRange).KeptBySingle := by
  obtain ⟨hmin, hmax⟩ := roundAt_top_bounds (rc := c.rc) (prec := 24) (by decide) h
  unfold Exact.topFr
  refine keptBySingle_of_image (packFr_single hlo hhi ?_ ?_)
  · split
    · exact le_rfl
    · exact hmin
  · split
    · decide
    · next hcarry => exact lt_of_le_of_ne hmax (mt beq_iff_eq.mpr hcarry)

/-- A result in single format is packed without loss, where no enabled Overflow or Underflow trap delivers it
(log entry 45). -/
theorem round_keptBySingle (ho : (x.round c od ud singleRange).o = true → od = true)
    (hu : (x.round c od ud singleRange).u = true → ud = true) : (x.round c od ud singleRange).val.KeptBySingle := by
  by_cases h : x.mag = 0
  · have hround : x.round c od ud singleRange = { val := Fr.signedZero x.sign } := if_pos h
    rw [hround]
    exact signedZero_keptBySingle x.sign
  have hround := round_eq (c := c) (od := od) (ud := ud) (f := singleRange) h
  by_cases hmax : singleRange.emax < x.roundedExp c singleRange
  · rw [if_pos hmax] at hround
    cases od with
    | true =>
      rw [hround]
      exact overflowed_keptBySingle x.sign c.rc
    | false =>
      rw [hround] at ho
      exact nomatch ho rfl
  rw [if_neg hmax] at hround
  by_cases hmin : x.roundedExp c singleRange < singleRange.emin
  · rw [if_pos hmin] at hround
    have htop : x.topExp < singleRange.emin := by
      rw [roundedExp_eq singleRange_valid h] at hmin
      split at hmin <;> omega
    cases ud with
    | true =>
      rw [hround]
      cases c.ftz with
      | true => exact signedZero_keptBySingle x.sign
      | false => exact packTiny_keptBySingle x.sign (roundAt_tiny_le (by decide) h htop)
    | false =>
      rw [hround] at hu
      exact nomatch hu rfl
  · rw [if_neg hmin] at hround
    rw [hround]
    exact topFr_keptBySingle h (not_lt.mp hmin) (not_lt.mp hmax)

end

/-! ### The obligation -/

/-- Settles O48: finite operands are rounded once from their exact value, and the other operations are exact or rounded
to the unit. -/
theorem fpValuesAreExactThenRounded : Obligations.FpValuesAreExactThenRounded := by
  refine ⟨fmaExact_spec, ?_, ?_, fun a b => holds_iff_of_isFinite, ?_, ?_, ?_⟩
  · intro k c dis range f3 f4 f2 h3 h4 h2 hrange
    have hvalid : range.Valid := by
      obtain rfl | ⟨pc, rfl⟩ := hrange
      · exact singleRange_valid
      · exact fpRange_valid pc c
    dsimp only
    rw [fmaHalf_of_isFinite k c dis range h3 h4 h2]
    refine ⟨round_roundedOnce hvalid _ c _ _ _, rfl, rfl, rfl, ?_⟩
    rintro rfl ho hu
    exact ⟨round_keptBySingle ho hu, rfl⟩
  · intro x rc lsb
    obtain ⟨hinexact, hnear, heven, hdown, hup, hzero, -⟩ := roundAt_error x rc lsb
    dsimp only
    rw [← abs_toRat]
    exact ⟨hinexact, hnear, heven, hdown, hup, hzero⟩
  · exact fun m a b => ⟨half_of_unordered m, fun h _ _ => ⟨first_iff m h, half_of_ordered m h⟩⟩
  · intro n signed rc f hn
    refine ⟨toIntegerHalf_of_special, fun hf => ⟨fun h => ?_, fun h => toIntegerHalf_of_fits hn hf h⟩⟩
    classical
    exact (toIntegerHalf_of_isFinite hf).trans (if_neg h)
  · intro v rc
    obtain ⟨hfinite, hunorm, hvalue⟩ := integerToFr_spec v
    exact ⟨hvalue, toIntegerHalf_of_toRat (by decide) hfinite hunorm hvalue⟩

end Sys2Proof.Machine
end
